-- ==== Sys2Proof/Word.lean ====
section
/-! DEFINITION. The words the device is described in (00_scope.md R5 to R8) and the names of its parts (01 R15 to R17).
Only plain types: every function a test could show wrong stands under Machine/. -/

namespace Sys2Proof

/-- Eight bits: the smallest addressable unit. -/
abbrev Byte := BitVec 8
/-- A 32-bit register or structure word. -/
abbrev Word32 := BitVec 32
/-- A 64-bit register, a Ledger address or a device-counter value. -/
abbrev Word64 := BitVec 64

/-- A half of the package: 0 North, 1 South (R16). Its Steward, oscillator and port carry the same number. -/
abbrev Half := Fin 2
/-- A host port: 0 is P0 (North), 1 is P1 (South) (R16). -/
abbrev Port := Fin 2
/-- An Array die, A0 to A3 (R15). -/
abbrev Die := Fin 4
/-- A Mint die, M0 to M15 (R15). -/
abbrev MintDie := Fin 16
/-- A tile ID (R95). -/
abbrev TileId := Fin 32768
/-- A bank of a tile: `false` is Bank A, `true` is Bank B (R91). -/
abbrev Bank := Bool
/-- A sequence slot (R275). -/
abbrev Slot := Fin 8192
/-- A node of the Clearing fabric (R390). -/
abbrev Node := Fin 4096
/-- A Clearing link of the device, 0 to 11 (R382). -/
abbrev Link := Fin 12
/-- A Tally ID: die times 4,096 plus index (R243). -/
abbrev TallyId := Fin 16384

/-- The four kinds of unit that take orders (R210), coded as R230 codes them. -/
inductive UnitKind where
  | assay | attn | vec | dma
  deriving DecidableEq, Repr

/-- One unit that takes orders: its die, its kind and its number on the die (R31, R210). -/
structure EngUnit where
  die  : Die
  kind : UnitKind
  inst : Nat
  deriving DecidableEq, Repr

/-- Who writes a register or slot: a port and a function of it, 0 the PF and 1 to 32 a VF (R412). -/
structure Src where
  port : Port
  fn   : Fin 33
  deriving DecidableEq, Repr

/-- A block with a `reset` bit of its own (R443). -/
inductive Block where
  | group (die : Die) (u : Fin 512)
  | unit (e : EngUnit)
  deriving DecidableEq, Repr

end Sys2Proof
end

