-- ==== Sys2Proof/Syntax.lean ====
section
/-! DEFINITION. The commands: one constructor for each row of spec/opcode_table.json, in the table's order, with its
operands. The table gives no operands; these are the ones the row's rule names: who writes, which part is meant, and
whatever the device receives from outside (a host's bytes, a far link's flit, the reading of an analogue input).
What the device itself knows is not an operand: it is State. -/

namespace Sys2Proof

/-- What a Steward reads of its four straps at its release (R475): SENIOR_SEL in bit 0, SMB_ADDR0 to 2 above it, once
with the pull-up applied and once with the pull-down. -/
structure StrapSample where
  up   : BitVec 4
  down : BitVec 4
  deriving DecidableEq, Repr

/-- A firmware image as Clerk 2 finds it (R453). The spec gives the image no layout, so its version, its digest and
the outcome of its verification arrive as they are found. -/
structure FwImage where
  version  : BitVec 16
  digest   : BitVec 256
  verifies : Bool
  deriving DecidableEq, Repr

/-- A program command for a Mint group's controller (R123): the Vault address of the level plane, the epoch, and the
completion Tally. The device's own commands for a Load name no Tally that the spec gives (R316). -/
structure ProgCmd where
  tile  : Fin 16
  bank  : Bank
  plane : Nat
  epoch : BitVec 16
  tally : Option TallyId
  deriving DecidableEq, Repr

/-- The means an Audit burst forms (R341, R342): sums of 256 conversions of ground, external reference and bandgap, the
flags of the reference conversions, and for an Array-die converter the sums of 64 conversions of each local Mint die's
ladder tap and of its two replica cells. -/
structure BurstData where
  ground   : Nat
  ext      : Nat
  bandgap  : Nat
  extBad   : Bool
  ladders  : List Nat
  replicas : List (Nat × Nat)
  deriving DecidableEq, Repr

/-- A 32-byte unit with its four check bytes, as a link or a host delivers it (R27, R385). -/
structure Codeword where
  data  : List Byte
  check : List Byte
  deriving DecidableEq, Repr

/-- A command of the Clearing fabric, with the fields of R385. -/
structure ClrCmd where
  op    : BitVec 8
  hops  : BitVec 8
  src   : BitVec 16
  dst   : Word64
  gran  : BitVec 8
  lead  : BitVec 8
  tail  : BitVec 8
  tag   : BitVec 16
  count : Word32
  tally : BitVec 16
  inc   : BitVec 8
  deriving DecidableEq, Repr

/-- A roll (R399): node, Charter generation, Live epoch, active probe set, device counter, and the identity of the
device that sends it. `isPeer` tells the roll of the peer Treasury of a pair (R402). -/
structure Roll where
  node       : Node
  generation : BitVec 16
  epoch      : BitVec 16
  probe      : Word32
  counter    : Word64
  identity   : Nat
  isPeer     : Bool
  deriving DecidableEq, Repr

/-- A flit as the receiver decodes it (R384, R387): its header fields, whether FEC decoding and the GCM tag pass, the
number of codewords the FEC corrected, whether it is the first under a new key (R468), and the commands whose last slot it
holds, with their granules. -/
structure Flit where
  seq       : BitVec 16
  ack       : BitVec 16
  nak       : Bool
  chan      : Fin 4
  credit    : Nat
  fecOk     : Bool
  tagOk     : Bool
  corrected : Nat
  newKey    : Bool
  cmds      : List (ClrCmd × List Codeword)
  deriving DecidableEq, Repr

/-- The instructions of the TAP (R490). -/
inductive JtagIns where
  | bypass | idcode | samplePreload | extest | extestPulse | extestTrain | clamp | highz
  deriving DecidableEq, Repr

/-- What a debug unlock claims to be (R465). -/
inductive DebugClaim where
  | owner | laronson
  deriving DecidableEq, Repr

/-- A fault record on the wire: the fields of R361 that the record carries, in the table's order. -/
structure FaultRecord where
  cls      : BitVec 8
  flags    : BitVec 8
  die      : BitVec 8
  block    : BitVec 8
  inst     : BitVec 16
  op       : BitVec 8
  reason   : BitVec 8
  step     : Word64
  time     : Word64
  temp     : BitVec 16
  tsensor  : BitVec 16
  mv       : BitVec 16
  rail     : BitVec 16
  account  : BitVec 16
  handle   : Word32
  node     : BitVec 16
  sub      : BitVec 16
  detail   : BitVec 48
  addr     : Word64
  serial   : Word64
  deriving DecidableEq, Repr

/-- The commands of the device, one for each row of spec/opcode_table.json. -/
inductive Instr where
  -- reset, boot, Stewards
  | powerOnReset
  | pwrgdRise
  | systemResetPin
  | systemResetCmd (w : Src)
  | coreResetCmd (w : Src)
  | decommissionArm (w : Src)
  | decommission (w : Src)
  | firmwareWatchdogExpiry (h : Half) (clerk2 : Bool)
  | domainRelease (h : Half) (straps : StrapSample) (locks : BitVec 8) (railsOk : Bool) (alone : Bool)
  | releaseLockTimeout (h : Half)
  | arbiterTimeout
  | bootPhaseComplete
  | bootPhaseStall
  | pllLockLost (h : Half) (pll : Fin 8)
  | heartbeatSend (h : Half)
  | heartbeatReceive (h : Half) (heldFlag : Bool)
  | contactLost (h : Half)
  | counterCompare
  | handoverRequest (w : Src)
  | warrantClaim (w : Src)
  | firmwareUpdateStart (w : Src)
  | firmwareUpdateDone (img : FwImage) (flashError : Bool)
  -- serving
  | postingPoint
  | emptyPostingPoint
  | charterReady (image : List Byte) (programmed : Bool)
  -- Teller and host ports
  | tellerSlotWrite (w : Src) (offset : Nat) (bytes : List Byte) (intact : Bool)
  | ticketConsume (p : Port) (lane : Fin 256)
  | tellerStampWrite (w : Src) (lane : Fin 256) (value : Word32)
  | ringTailWrite (w : Src) (lane : Fin 256) (tail : BitVec 16)
  | ringConfigWrite (w : Src) (lane : Fin 256) (reg : Fin 3) (value : Word64)
  | hostWindowWrite (w : Src) (p : Port) (n : Fin 64) (word : Fin 8) (value : Word32)
  | bar4Write (w : Src) (offset : Nat) (bytes : List Byte) (intact : Bool)
  | bar4Read (w : Src) (offset : Nat) (len : Nat)
  | msixModerationTimer (p : Port) (lane : Fin 256)
  | msixUnmask (p : Port) (fn : Fin 33) (vector : Fin 2048)
  | perstAssert (p : Port)
  | perstRelease (p : Port)
  | pcieLinkDown (p : Port)
  | functionLevelReset (p : Port) (fn : Fin 33)
  | hostCompletion (d : Die) (ch : Fin 64) (bytes : List Byte) (intact : Bool)
  | completionTimeout (d : Die) (ch : Fin 64)
  -- orders
  | queueEntryEnqueue (d : Die) (prog : Nat) (entry : Nat) (row : Nat)
  | skipEntry (u : EngUnit) (decode : Bool)
  | strikeSlice (u : EngUnit) (decode : Bool)
  | strikeVerify (u : EngUnit) (decode : Bool)
  | tstrikeSlice (u : EngUnit) (decode : Bool)
  | assayRead (u : EngUnit) (decode : Bool)
  | assayEnda (u : EngUnit) (decode : Bool)
  | assayEndb (u : EngUnit) (decode : Bool)
  | assayImport (u : EngUnit) (decode : Bool)
  | attendFwd (u : EngUnit) (decode : Bool)
  | attendBwd (u : EngUnit) (decode : Bool)
  | attendDense (u : EngUnit) (decode : Bool)
  | attendDout (u : EngUnit) (decode : Bool)
  | vecQuant (u : EngUnit) (decode : Bool)
  | vecConvert (u : EngUnit) (decode : Bool)
  | vecAdd (u : EngUnit) (decode : Bool)
  | vecMul (u : EngUnit) (decode : Bool)
  | vecFunc (u : EngUnit) (decode : Bool)
  | vecReduce (u : EngUnit) (decode : Bool)
  | vecCombine (u : EngUnit) (decode : Bool)
  | vecNorm (u : EngUnit) (decode : Bool)
  | vecRope (u : EngUnit) (decode : Bool)
  | vecAcomb (u : EngUnit) (decode : Bool)
  | vecWatch (u : EngUnit) (decode : Bool)
  | vecDgrad (u : EngUnit) (decode : Bool)
  | folioAppend (u : EngUnit) (decode : Bool)
  | folioStage (u : EngUnit) (decode : Bool)
  | sample (u : EngUnit) (decode : Bool)
  | move (u : EngUnit) (decode : Bool)
  | tallyInc (u : EngUnit) (decode : Bool)
  | tallyDec (u : EngUnit) (decode : Bool)
  | tallyArrive (u : EngUnit) (decode : Bool)
  | barrierNextRound (t : TallyId)
  | tallyWait (u : EngUnit) (decode : Bool)
  | markStep (u : EngUnit) (decode : Bool)
  | markFence (u : EngUnit) (decode : Bool)
  | markTrace (u : EngUnit) (decode : Bool)
  | orderComplete (u : EngUnit) (decode : Bool)
  | signalLand (t : TallyId)
  | watchdogExpiry (u : EngUnit) (decode : Bool)
  -- DMA, timers, block resets
  | dmaGo (w : Src) (d : Die) (ch : Fin 64)
  | dmaStop (w : Src) (d : Die) (ch : Fin 64)
  | dmaGrant (d : Die)
  | dmaBurstAck (d : Die) (ch : Fin 64) (burst : Nat)
  | dmaTriggerEvent (d : Die) (ch : Fin 64)
  | dmaTransferError (d : Die) (ch : Fin 64)
  | timerEvent (d : Die) (k : Fin 16)
  | timerCtrlWrite (w : Src) (d : Die) (k : Fin 16) (value : Word32)
  | timerPeriodWrite (w : Src) (d : Die) (k : Fin 16) (value : Word32)
  | quiesceWrite (w : Src) (b : Block) (value : Bool)
  | blockResetRequest (w : Src) (b : Block)
  | blockResetComplete (b : Block)
  -- Mint, Assay
  | programCommand (d : Die) (u : Fin 512) (c : ProgCmd)
  | programRowDone (d : Die) (u : Fin 512) (extra : Nat) (stuck : List (Fin 1024 × BitVec 4))
  | bankVerify (t : TileId) (b : Bank) (passes : Bool)
  | mintSweepStart
  | mintSweepDone
  | governorGrant (m : MintDie)
  | strikeConvertEnd (t : TileId)
  | sliceComplete (t : TileId)
  | mirrorAccumulators (t : TileId)
  | spotAssay (t : TileId)
  | spotBurstEnd (t : TileId)
  | phaseBoundary
  | assaySetLoaded (t : TileId)
  -- calibration, Audit
  | calStartWrite (w : Src) (d : Die) (u : Fin 512)
  | benchCalibration (t : TileId) (b : Bank)
  | benchCalibrationDone (t : TileId)
  | driftRefreshStart (t : TileId)
  | auditConversion (i : Fin 6) (code : BitVec 12) (hi lo : Bool)
  | auditBurstStart (i : Fin 6)
  | auditBurstDone (i : Fin 6) (b : BurstData)
  | refbufEnable (w : Src) (i : Fin 6)
  | refbufSettled (i : Fin 6)
  | audDataRead (w : Src) (i : Fin 6)
  | trackerClear (w : Src) (i : Fin 6) (mask : Word32)
  | vaultModeChange (v : Fin 4) (temp : Int)
  -- power, pins
  | thermalTrip
  | tripSeenClear (w : Src)
  | powerReqRun (w : Src)
  | powerReqHold (w : Src)
  | powerReqSleep (w : Src)
  | powerCapWrite (w : Src) (cap : BitVec 10)
  | sleepExit
  | tamperTestPulse (h : Half) (fell : Bool)
  | pinFaultDetect (bit : Fin 11) (detected : Bool)
  -- security
  | alarmSourceFire (sources : BitVec 6)
  | alarmRelease (w : Src)
  | alarmLevelWrite (w : Src) (value : BitVec 12)
  | mailboxAttest (w : Src) (nonce : BitVec 256)
  | attestReportDone (p : Port)
  | enrolSlot (w : Src) (image : List Byte)
  | revokeSlot (w : Src) (image : List Byte)
  | setAlarmLevels (w : Src) (image : List Byte)
  | installDomainKey (w : Src) (image : List Byte)
  | measurementExtend (w : Src) (data : BitVec 256)
  | debugUnlock (claim : DebugClaim) (response : List Byte)
  | jtagInstruction (i : JtagIns)
  -- Clearing
  | linkTrain (l : Link) (lanes : BitVec 4) (flight : BitVec 16) (farNode : Node) (farNonce : BitVec 256) (confirm : BitVec 256)
  | linkRetrain (l : Link)
  | linkLockLost (l : Link)
  | linkKeyRollover (l : Link)
  | flitReceive (l : Link) (f : Flit)
  | replayTimeout (l : Link)
  | clrWrite (p : Port) (c : ClrCmd) (data : List Codeword)
  | clrReadRequest (p : Port) (c : ClrCmd)
  | clrReadResponse (p : Port) (c : ClrCmd) (data : List Codeword)
  | clrRefusal (p : Port) (c : ClrCmd)
  | settledSignal (p : Port) (c : ClrCmd)
  | landedCountUpdate (p : Port) (node : Node) (die : Die)
  | readTimeout (tag : BitVec 16)
  | rollSend
  | rollReceive (r : Roll)
  | memberRollTimeout (n : Node)
  | treasuryAckTimeout
  | peerRollTimeout
  | faultRecordForward (n : Node) (r : FaultRecord)
  -- weights, endorsements, folios, probes
  | shardArrival (n : Nat) (data : List Byte) (poisoned : Bool)
  | shardAck (n : Nat)
  | shardTimeout (n : Nat)
  | verifiedReport (n : Node)
  | flipCommand
  | masterRewriteDone (t : TileId)
  | tokenFetchComplete (sl : Slot) (ok : Bool) (tokens : List Word32)
  | endoFetchComplete (n : Nat) (ok : Bool) (data : List Byte)
  | endoRecheck (n : Nat)
  | spillCopyComplete (e : Fin 32768) (quarter : Fin 4) (ok : Bool)
  | prefetchComplete (d : Die) (n : Nat) (ok : Bool) (data : List (Byte × Bool))
  | probeStart (d : Die)
  | probeComplete (d : Die) (passed : Bool) (site : Nat)
  | faultLogTailWrite (w : Src) (tail : BitVec 16)
  | registerWrite (w : Src) (offset : Nat) (wide : Bool) (value : Word64)
  -- rows added at the table's end
  | pcieLinkUp (p : Port) (gen : Fin 6) (width : Fin 6)
  | rollAcknowledgement (conflict : Option Bool)
  | probeSetArrival (image : List Byte)
  | manifestArrival (image : List Byte)
  | shardRefetchRequest (n : Nat) (nak : Bool) (fromHead : Bool) (by_ : Node)
  | weightScopeRestoreDone (t : TileId) (ok : Bool)
  | alarmSourceInactive (k : Fin 6)
  | ideStreamSetup (p : Port) (stream : Fin 4) (base size : Nat) (sessionOk : Bool)
  deriving DecidableEq, Repr

end Sys2Proof
end

