-- ==== Sys2Proof/Config.lean ====
section
/-! DEFINITION. What one device has and this spec does not fix: the free values (log entries 5 to 11). Each is an opaque
constant: it has no body, so nothing can be proved of which value it is. -/

namespace Sys2Proof.Config

/-- The free values drawn one after another: an undefined result, a random draw, an analogue reading within its bound.
`State.free` counts the draws. Log entry 5. -/
opaque free : Nat → Nat

/-- The bits of a function of R494 inside its bound, for an input the table of special inputs does not name: the
function's code of R226 and the FP32 input. Log entry 7. -/
opaque fnBits : Nat → Word32 → Word32

/-- The sine (`true`) or cosine of the exact angle t × θ of R175, in FP32, where the angle is no FP32 value: position and
FP32 θ. Log entry 7. -/
opaque trigBits : Bool → Nat → Word32 → Word32

/-- Whether an SLH-DSA signature verifies (R457): algorithm code, public key, message, signature. Log entry 8. -/
opaque sigVerifies : Nat → List Byte → List Byte → List Byte → Bool

/-- The signature the device's identity key makes over a message (R457, R464). Log entry 8. -/
opaque sign : List Byte → List Byte

/-- The identity public key and the identity certificate (R462). Log entry 8. -/
opaque identityKey : List Byte
/-- See `identityKey`. -/
opaque identityCert : List Byte

/-- The shared secret of an ML-KEM-1024 ciphertext under the device's key, and AES-256 KW unwrapping under it: the
domain key, or none where the unwrapping's integrity check fails (R460). Log entry 8. -/
opaque unwrapDomainKey : List Byte → Option (BitVec 256)

/-- The digest of a Steward's ROM, the digests of the Port-die ROMs, and the firmware floor with the fuse word (R463). -/
opaque romDigest : BitVec 256
/-- See `romDigest`. -/
opaque portRomDigest : Port → BitVec 256
/-- See `romDigest`. -/
opaque fuseWord : BitVec 256
/-- The fused hash of Laronson's root key (R457). -/
opaque rootKeyHash : BitVec 256
/-- The fused floor of the firmware version (R453). -/
opaque firmwareFloor : Nat

/-- The bandgap voltage in units of 2^-20 V taken from the die's fuses, for each converter (R342). -/
opaque bandgapFuse : Fin 6 → Nat
/-- The temperature, in steps of 0.125 °C, that the fused constants of a sensor give for the sum and count of its
conversions: converter, channel, sum, count (R343). -/
opaque sensorTemp : Fin 6 → Nat → Nat → Nat → Int
/-- Which of a die's sensors or sense points lies nearest to a block: die code, block code, number in the block (R361
says "nearest" and R333 places only the Mint sensors). Log entry 13. -/
opaque nearSensor : Nat → Nat → Nat → Nat
/-- The 16-bit draw of stochastic rounding (R58): formats seed, step number, layer, position in the tensor. Log entry
7. -/
opaque roundDraw : Nat → Nat → Nat → Nat → Nat
/-- The voltage in mV of a rail sense point for the sum and count of its conversions (R333, R479). -/
opaque railMv : Fin 6 → Nat → Nat → Nat → Nat
/-- The firmware's entries 0 to 23 of a converter's sequence table, by converter and entry, and the limits of its
trackers 0 to 23 (R337). -/
opaque firmwareEntry : Fin 6 → Nat → Word64
/-- See `firmwareEntry`. -/
opaque firmwareLimit : Fin 6 → Nat → Word32

/-- Where in V0's working area the endorsement table lies (R322). -/
opaque endoTable : BitVec 40
/-- Bytes of a gradient image of an endorsement image of a given length, and the image of a draw (R327 gives neither its layout
nor where the gradients it sums come from). Log entry 56. -/
opaque gradientSize : Nat → Nat
/-- See `gradientSize`. -/
opaque gradientByte : Nat → Nat → Byte
/-- The manufacturer code of IDCODE (R490). -/
opaque jedecCode : BitVec 11

end Sys2Proof.Config
end

