-- ==== Sys2Proof/Machine/State.lean ====
section
/-! DEFINITION. State: everything the spec gives the device, as plain data. A register's field lives in the register
bank `regs` unless it is a view of something held here (`regView` in Machine/Registers.lean gives every view). Maps are
sparse: a key that is not listed holds the default that the accessor names, and `put` keeps them canonical. -/

namespace Sys2Proof.Machine

/-- A sparse map: keys strictly rising, no value equal to the default of the accessor that reads it. -/
abbrev SMap (α : Type) := List (Nat × α)

/-- Why the device's step stops. -/
inductive Fault where
  /-- An access outside its BAR (R412, R413): no such address exists on the port, so nothing answers. Raised by
  `bar4Read`, `bar4Write`, `tellerSlotWrite` and `registerWrite`. Safe: the spec gives such an access no meaning. -/
  | noSuchAddress
  /-- A register access that is not naturally aligned, which a host must not make (R8) and for which the spec gives no
  effect. Raised by `registerWrite`. Safe. -/
  | misaligned
  deriving DecidableEq, Repr

/-- Why a command has no meaning. -/
inductive Refusal where
  /-- A row of the table whose meaning this model does not hold. Raised by `exec` alone. Safe. -/
  | notModelled (mnemonic : String)
  deriving DecidableEq, Repr

/-! ### Numbers -/

/-- A Hoard (R74): the exact value in units of 2^-270, the number of terms, and the sticky flags. -/
structure Hoard where
  val    : Int
  terms  : Nat
  nan    : Bool
  pinf   : Bool
  ninf   : Bool
  poison : Bool
  ovf    : Bool
  beyond : Bool
  deriving DecidableEq, Repr

/-- A Hoard as a clear leaves it. -/
def Hoard.zero : Hoard := ⟨0, 0, false, false, false, false, false, false⟩

/-! ### Time -/

/-- The device counter's two copies and the phases that run on from tick to tick (R41 to R45, R23, R335). -/
structure Time where
  north      : Word64
  south      : Word64
  /-- Junior copy minus senior copy, still to be slewed away (R42). -/
  slewDiff   : Int
  /-- Ticks until the next correction is allowed (R42). -/
  slewWait   : Nat
  /-- Calendar phase of each stack, in quarters of a Vault controller cycle (R23). -/
  vaultPhase : SMap Nat
  /-- Fifths of an Audit cycle gone by (25 ns cycles in 10 ns ticks; R335). -/
  auditPhase : Nat
  deriving DecidableEq, Repr

/-! ### Reset, boot, halves -/

/-- The reset controller and the halves (R431 to R444). -/
structure ResetCtl where
  pwrgd        : Bool
  /-- Rows of R442 released, 0 to 7, in each half. -/
  rows         : SMap Nat
  /-- A half whose release stopped at a PLL that did not lock (R442). -/
  stopped      : SMap Bool
  /-- The claim or non-claim each Steward has sent the arbiter (R431). -/
  claims       : SMap Bool
  /-- The arbiter has granted or timed out. -/
  arbitrated   : Bool
  /-- Local time of the last heartbeat of each half, and the run of them since contact was lost (R433). -/
  lastBeat     : SMap Word64
  beatRun      : SMap Nat
  /-- Senior time at which each half entered Held (R436). -/
  heldSince    : SMap Word64
  /-- Decommissioning armed at this senior time (R454). -/
  armedAt      : Option Word64
  /-- Decommissioning's sweep is running (R454). -/
  decommissioning : Bool
  /-- A standing handover request was made by `claim` (R438). -/
  byClaim      : Bool
  /-- A core or system reset whose notices the Port dies still owe (R441): 1 system, 2 core. -/
  notice       : Option Nat
  /-- The blocks whose own reset is in progress (R443). -/
  blockResets  : List Block
  deriving DecidableEq, Repr

/-- One owner key slot (R459). -/
structure OwnerSlot where
  hash : BitVec 256
  alg  : BitVec 8
  uses : BitVec 5
  deriving DecidableEq, Repr

/-- A Daybook record (R372). -/
structure DayRec where
  state  : BitVec 8
  cls    : BitVec 8
  die    : BitVec 8
  block  : BitVec 8
  inst   : BitVec 16
  sub    : BitVec 16
  prev   : Word64
  last   : Word64
  total  : BitVec 16
  flags  : BitVec 8
  serial : Word32
  deriving DecidableEq, Repr

/-- An entry of a probe set (R376). -/
structure ProbeEntry where
  kind     : Nat
  targeted : Bool
  first    : Nat
  count    : Nat
  seed     : Word64
  vectors  : Nat
  width    : Nat
  expect   : Word32
  deriving DecidableEq, Repr

/-- A probe set (R376) with the SHA-256 of its image (R463). -/
structure ProbeSet where
  setId   : Word32
  gap     : Word32
  entries : List ProbeEntry
  digest  : BitVec 256
  deriving DecidableEq, Repr

/-- A firmware slot of a Steward's flash (R451, R453). -/
structure FwSlot where
  version  : BitVec 16
  digest   : BitVec 256
  verifies : Bool
  deriving DecidableEq, Repr

/-- A tile's record in the surplus store (R452): its epoch, the surplus words tagged with the Live bank and its 128 set
checksums. -/
structure SurplusRec where
  epoch   : BitVec 16
  words   : List Word32
  checks  : List Word32
  deriving DecidableEq, Repr

/-- What every reset keeps: the Stewards' MRAM and flash and the fuses (R439). -/
structure Mram where
  sweepPending   : Bool
  destroyPending : Bool
  fuseBlown      : Bool
  erased         : Bool
  tripSeen       : Bool
  seed           : Bool
  domainKey      : Option (BitVec 256)
  owner          : SMap OwnerSlot
  /-- The last accepted owner counter; `none` before the first command. -/
  ownerCounter   : Option Word32
  levels         : BitVec 12
  postedGen      : Option (BitVec 16)
  life           : Word64
  probeSet       : Option ProbeSet
  /-- The Daybook of each half: slot number to record, 32,768 each (R372). Key: half times 32,768 plus slot. -/
  daybook        : SMap DayRec
  /-- Phase-0 set checksums of each bank, key 2 times tile plus bank (R451 phase 5). -/
  setCrc0        : SMap Word32
  surplus        : SMap SurplusRec
  /-- Flash slots, key 2 times Steward plus slot; and the slot each Steward runs. -/
  flash          : SMap FwSlot
  running        : SMap Nat
  /-- Consecutive failed firmware verifications (R469). -/
  fwFails        : Nat
  deriving DecidableEq, Repr

/-! ### Mint and Assay -/

/-- A Mint directory entry (R130). -/
structure DirEntry where
  role    : BitVec 8
  geom    : BitVec 8
  layer   : BitVec 16
  rowBlk  : BitVec 8
  colBlk  : BitVec 8
  segs    : BitVec 8
  cols    : BitVec 16
  partner : BitVec 16
  origin  : BitVec 16
  aux     : Word32
  master  : Word32
  stateA  : BitVec 8
  stateB  : BitVec 8
  flags   : BitVec 8
  epochA  : BitVec 16
  epochB  : BitVec 16
  deriving DecidableEq, Repr

/-- A part of a plane: rows evaluated together, at a re-strike level, for some columns (R106, R107). For a transposed
strike, lines are columns and the converted lines are rows (R114). -/
structure Part where
  plane : Nat
  level : Nat
  lines : List Nat
  /-- The columns converted: `none` for all of them (a strike), the flagged ones for a re-strike sub-part. -/
  cols  : Option (List Nat)
  /-- For a W8 transposed strike: 0 drives the high nibbles, 1 the low ones (R115); 2 for a forward
  strike, 3 for a transposed one of another format. -/
  nib   : Nat
  deriving DecidableEq, Repr

/-- One conversion as the spot checker and the mirror compare see it. -/
structure Conv where
  col   : Nat
  code  : Int
  past  : Bool
  level : Nat
  lines : List Nat
  deriving DecidableEq, Repr

/-- Why a slice strikes. -/
inductive SliceKind where
  | order | verify | transposed | mirror | bench | probe
  deriving DecidableEq, Repr

/-- A slice on a tile, from its order's issue to its completion (R65 to R67, R99 to R112, R137 to R153). -/
structure Slice where
  kind     : SliceKind
  decode   : Bool
  bank     : Bank
  set      : Nat
  row      : Nat
  width    : Nat
  ds       : Nat
  /-- Aligned elements before and after clipping (R66, R148). -/
  aligned  : List Int
  struck   : List Int
  /-- Lines withheld from the array, with their BF16 side values (R147). -/
  withheld : List (Nat × BitVec 16)
  /-- Rows to carry: row, residual, denomination of its block (R153). -/
  carry    : List (Nat × Int × Nat)
  /-- Segments computed digitally under R150. -/
  digSegs  : List Nat
  /-- Work still to be granted: first the slots due, then the strikes left (R109, R112). A slot is two parts. -/
  slots    : List (List Part)
  strikes  : List Part
  /-- What is being evaluated and converted now. -/
  running  : Option (List Part)
  /-- Column accumulators in units of 2^-26 LSB (R138) and the conversion counts 2^k N_k of R84. -/
  acc      : SMap Int
  weight   : SMap Nat
  sat      : List Nat
  digital  : List Nat
  /-- Conversions of the present strike and its slots, for the spot checker. -/
  convs    : List Conv
  spot     : Bool
  stale    : Bool
  split    : Bool
  poisoned : Bool
  mirrorMiss : Bool
  /-- The trim words it uses throughout (R137): one for each column, or for each row converter of a transposed slice. -/
  trims    : List Nat
  /-- Its partner strikes the same slice (R164). -/
  paired   : Bool
  deriving DecidableEq, Repr

/-- A tile beside its directory entry. -/
structure Tile where
  slice       : Option Slice
  lastBank    : Option Bank
  /-- The strike count of R159 and the strikes left in a burst. -/
  count       : Nat
  burst       : Nat
  /-- The epoch the master plane was rewritten for; `none` while it is not (R320). -/
  masterEpoch : Option (BitVec 16)
  drifted     : Bool
  lost        : Bool
  restoring   : Bool
  /-- Its surplus record in flash is of another epoch than its Live bank's (R452). -/
  mismatched  : Bool
  benched     : Option Bank
  /-- Strikes the strip of a mirror partner has delivered: accumulators and counts (R164). -/
  partnerAcc  : Option (SMap Int × SMap Nat)
  /-- The bank whose cells hold the site that made the tile permanent (R374; DEDUCED, log entry 64). -/
  site        : Option Bank
  deriving DecidableEq, Repr

/-- A tile with nothing in progress. -/
def Tile.idle : Tile :=
  ⟨none, none, 0, 0, none, false, false, false, false, none, none, none⟩

/-- A Mint group's programming controller (R123 to R125). -/
structure Group where
  queue  : List ProgCmd
  row    : Nat
  extra  : Nat
  stuck  : Nat
  deriving DecidableEq, Repr

/-- A controller that holds no command. -/
def Group.idle : Group := ⟨[], 0, 0, 0⟩

/-- A Mint die's governor (R119): one more than the tile last granted in each of the three classes. -/
structure Governor where
  p0 : Nat
  p1 : Nat
  p2 : Nat
  deriving DecidableEq, Repr

/-- A result set of an Assay unit (R142): open, the queue that owns it, its lanes, and the status it gathers (R166). -/
structure ResultSet where
  isOpen   : Bool
  decode   : Bool
  lanes    : SMap Hoard
  status   : BitVec 5
  digital  : Nat
  /-- The tile whose columns the set sums, for its format and columns in use. -/
  tile     : Nat
  deriving DecidableEq, Repr

/-- A set that is free. -/
def ResultSet.free : ResultSet := ⟨false, false, [], 0, 0, 0⟩

/-- An Assay unit (R135): two result sets. -/
structure Assay where
  set0 : ResultSet
  set1 : ResultSet
  deriving DecidableEq, Repr

/-! ### Orders, Tallies, DMA -/

/-- A queue entry (R211). -/
structure QEntry where
  order : BitVec 128
  exp   : Word32
  ctx   : Word64
  deriving DecidableEq, Repr

/-- An order that has issued and not completed (R237). -/
structure InFlight where
  entry   : QEntry
  order   : BitVec 128
  decode  : Bool
  /-- Its results are written, so it may complete. -/
  ready   : Bool
  faulted : Bool
  deriving DecidableEq, Repr

/-- One of a unit's two queues (R212, R217, R235). -/
structure Queue where
  entries : List QEntry
  /-- Repetitions of the head that have issued. -/
  reps    : Nat
  /-- Entries still to skip (R217). -/
  skip    : Nat
  hold    : Bool
  /-- The head is an ARRIVE whose arrival has landed or is on its way (R251): the Tally and its round. -/
  arrive  : Option (Nat × Nat)
  /-- The queue's MARK STEP has issued and not been released. -/
  stepped : Bool
  deriving DecidableEq, Repr

/-- An empty queue. -/
def Queue.empty : Queue := ⟨[], 0, 0, false, none, false⟩

/-- A unit's queues and its orders in progress; `hist` holds its last 16 contested issues, newest first (R213). -/
structure EngState where
  pre    : Queue
  dec    : Queue
  flying : List InFlight
  hist   : List Bool
  deriving DecidableEq, Repr

/-- A unit with nothing to do. -/
def EngState.idle : EngState := ⟨Queue.empty, Queue.empty, [], []⟩

/-- A Tally signal on its way (R216, R239). -/
structure Signal where
  tally : Nat
  inc   : Nat
  /-- The arrival of a TALLY ARRIVE: its round and the queue that waits. -/
  round : Option Nat
  src   : EngUnit
  decode : Bool
  deriving DecidableEq, Repr

/-- A Tally (R243). -/
structure Tally where
  kind    : Nat
  value   : Int
  round   : Nat
  parts   : Nat
  next    : Nat
  misused : Bool
  deriving DecidableEq, Repr

/-- A Tally that no partition names (R244). -/
def Tally.unused : Tally := ⟨0, 0, 0, 0, 0, false⟩

/-- A burst of a transfer (R263): first byte and length. -/
structure Burst where
  off : Nat
  len : Nat
  deriving DecidableEq, Repr

/-- A DMA descriptor (R259). -/
structure Desc where
  src   : Word64
  dst   : Word64
  len   : Nat
  ctl   : BitVec 8
  trig  : BitVec 8
  pace  : Nat
  next  : Word32
  tag   : BitVec 16
  deriving DecidableEq, Repr

/-- A DMA channel (R257 to R271). -/
structure Channel where
  desc     : Option Desc
  chain    : Nat
  /-- Bytes cut into bursts so far, bursts released and not issued, in flight, bytes acknowledged. -/
  cut      : Nat
  released : Nat
  flight   : List Burst
  acked    : List Burst
  halfDone : Bool
  /-- Events of the trigger accumulated (R266). -/
  pending  : Nat
  /-- Data that has arrived from a host or a node for bursts not yet written: byte number, and each byte with its poison
  (R410, R28). -/
  arrived  : List (Nat × List (Byte × Bool))
  /-- The host windows of the active descriptor's ends, as they were when it started (R420): port, function and the host
  address of byte 0. -/
  srcWin   : Option (Nat × Nat × Word64)
  dstWin   : Option (Nat × Nat × Word64)
  /-- The queue whose MOVE the channel runs. -/
  mover    : Option Bool
  /-- A transfer error met by a MOVE (R269). -/
  failed   : Bool
  stopping : Bool
  deriving DecidableEq, Repr

/-- A channel at rest. -/
def Channel.idle : Channel :=
  ⟨none, 0, 0, 0, [], [], false, 0, [], none, none, none, false, false⟩

/-- A die's DMA arbiter (R264): credits of priorities 3 to 0 and the channel last granted at each. -/
structure DmaArb where
  c3 : Nat
  c2 : Nat
  c1 : Nat
  c0 : Nat
  last : SMap Nat
  deriving DecidableEq, Repr

/-- A new round. -/
def DmaArb.fresh : DmaArb := ⟨8, 4, 2, 1, []⟩

/-! ### Ports and Teller -/

/-- A host window entry (R420). -/
structure HostWin where
  rbase : Word64
  hbase : Word64
  size  : Word32
  fn    : BitVec 8
  perm  : BitVec 8
  deriving DecidableEq, Repr

/-- An invalid entry. -/
def HostWin.none : HostWin := ⟨0, 0, 0, 0, 0⟩

/-- A Teller slot (R415, R416): the bytes that writes have reached (key: byte number) and whether it is latched. -/
structure TSlot where
  bytes   : SMap (Option Byte)
  latched : Bool
  deriving DecidableEq, Repr

/-- A slot whose mask is clear. -/
def TSlot.empty : TSlot := ⟨[], false⟩

/-- A ticket in an intake: its 64 bytes, its lane and the order of its acceptance (R286). -/
structure Ticket where
  bytes : List Byte
  port  : Nat
  lane  : Nat
  stamp : Word32
  order : Nat
  deriving DecidableEq, Repr

/-- A Statement entry (R301). -/
structure Entry where
  kind : BitVec 8
  b1   : BitVec 8
  h1   : BitVec 16
  w1   : Word32
  w2   : Word32
  w3   : Word32
  deriving DecidableEq, Repr

/-- A Teller lane beside its registers (R415 to R424). -/
structure Lane where
  slots     : SMap TSlot
  backlog   : List (List Entry)
  /-- Entries written that no message has announced (R424). -/
  unsaid    : Nat
  deriving DecidableEq, Repr

/-- A lane with nothing written. -/
def Lane.empty : Lane := ⟨[], [], 0⟩

/-- An IDE selective stream (R427, R467). -/
structure IdeStream where
  base : Nat
  size : Nat
  key  : Nat
  deriving DecidableEq, Repr

/-- A host port (R409 to R428). -/
structure PortState where
  perst    : Bool
  /-- Senior time since which the link has been down or in PERST# (R438). -/
  downAt   : Option Word64
  windows  : SMap HostWin
  lanes    : SMap Lane
  intake   : List Ticket
  /-- INTAKE_FULL has been sent for the present fullness (R304). -/
  fullSent : Bool
  /-- MSI-X: key function times 2,048 plus vector; masked and pending (R424), and the address and data words of the table:
  key 4 × vector key plus word. A vector not listed is masked, as PCIe resets it (PRESUMED, log entry 60). -/
  masked   : SMap Bool
  msiPend  : SMap Bool
  vectors  : SMap Word32
  ide      : SMap (Option IdeStream)
  deriving DecidableEq, Repr

/-- A port as a reset leaves it. -/
def PortState.clear : PortState := ⟨false, some 0, [], [], [], false, [], [], [], []⟩

/-- What the device sends out, oldest first. -/
inductive Out where
  /-- A posted write to a host's memory (R422, R285). -/
  | hostWrite (p : Nat) (fn : Nat) (addr : Word64) (data : List Byte)
  /-- A read request to a host's memory (R410). -/
  | hostRead (p : Nat) (fn : Nat) (addr : Word64) (len : Nat)
  /-- An MSI-X message (R424). -/
  | msix (p : Nat) (fn : Nat) (vector : Nat)
  /-- A completion of a BAR read; `ep` marks poison (R411). -/
  | completion (p : Nat) (data : List Byte) (ep : Bool)
  /-- A command handed to a link with its granules (R385). -/
  | clr (l : Nat) (c : ClrCmd) (data : List Codeword)
  /-- A flit replayed on a link (R387). -/
  | replay (l : Nat) (seq : BitVec 16)
  /-- A negative acknowledgement (R387). -/
  | nak (l : Nat) (ack : BitVec 16)
  /-- Management traffic: a roll, an acknowledgement, a shard, a request, a report, a flip command (R399, R311, R318). -/
  | roll (dst : Nat) (r : Roll)
  | rollAck (dst : Nat)
  /-- The answer to a roll that conflicts: a duplicate, or (`true`) a node out of range (R399). -/
  | rollConflict (dst : Nat) (range : Bool)
  | shard (dst : Nat) (n : Nat)
  | shardAck (dst : Nat) (n : Nat)
  | shardRequest (dst : Nat) (n : Nat) (nak : Bool)
  | manifest (dst : Nat)
  | report (dst : Nat) (busy : Bool)
  | flip (dst : Nat)
  | probeSet (dst : Nat)
  | faultRecord (dst : Nat) (r : FaultRecord)
  /-- A heartbeat on the cross-half link: state and Held flag (R433). -/
  | heartbeat (h : Half) (held : Bool)
  deriving DecidableEq, Repr

/-! ### Serving -/

/-- A sequence slot (R275 to R277, R281, R284 to R297). Codes of `st` are R275's. -/
structure Seq where
  st        : Nat
  gen       : Nat
  withdrawn : Bool
  /-- The end status the slot remembers while Free (R275). -/
  endStatus : Option (BitVec 16)
  /-- When the slot was last freed, in a running count of frees (R277). -/
  freedAt   : Nat
  account   : Nat
  port      : Nat
  lane      : Nat
  cookie    : Word32
  park      : Bool
  tune      : Bool
  peerHeld  : Bool
  /-- Tokens in the log, tokens already given to a step, tokens produced since the Admit and since the last Extend. -/
  logLen    : Nat
  nextPos   : Nat
  produced  : Nat
  sinceExt  : Nat
  maxLen    : Nat
  maxNew    : Nat
  endo      : Option Nat
  temp      : BitVec 16
  topP      : BitVec 16
  topK      : Nat
  seed      : Word64
  stops     : List Nat
  nStop     : Nat
  deadline  : Word64
  region    : Nat
  entries   : Nat
  /-- The region waits for compaction (R180). -/
  unplaced  : Bool
  epoch     : Option (BitVec 16)
  accepted  : Nat
  waited    : Nat
  /-- Steps in a row deferred, for R295; steps in a row withheld under R240, for R241. -/
  deferred  : Nat
  faults    : Nat
  /-- Step of the first drop not yet restored (R197). -/
  dropStep  : Option Nat
  /-- A token fetch in progress: its ticket's type, cookie, lane, buffer, count, new limits; and its outcome (R284). -/
  fetch     : Option Ticket
  fetched   : Option (Bool × List Word32)
  deriving DecidableEq, Repr

/-- A slot that no sequence has taken since system reset. -/
def Seq.fresh : Seq :=
  { st := 0, gen := 0, withdrawn := false, endStatus := none, freedAt := 0, account := 0, port := 0, lane := 0,
    cookie := 0, park := false, tune := false, peerHeld := false, logLen := 0, nextPos := 0, produced := 0,
    sinceExt := 0, maxLen := 0, maxNew := 0, endo := none, temp := 0, topP := 0, topK := 0, seed := 0, stops := [],
    nStop := 0, deadline := 0, region := 0, entries := 0, unplaced := false, epoch := none, accepted := 0,
    waited := 0, deferred := 0, faults := 0, dropStep := none, fetch := none, fetched := none }

/-- A batch row of the running step (R232) and what has become of it. -/
structure Row where
  slot      : Nat
  account   : Nat
  position  : Nat
  tokens    : Nat
  region    : Nat
  endo      : Option Nat
  epoch     : BitVec 16
  bank      : Bank
  tuning    : Bool
  sample    : Bool
  recompute : Option Nat
  qbase     : Nat
  /-- The step program whose batch holds the row (R229, R290). -/
  prog      : Nat
  /-- Outcomes gathered in the step: faulted (R240), lost (R195), consumed poison (R366), tuning failed (R208), the
  Assay status (R166), and the token drawn (R298). -/
  faulted   : Bool
  lostChunk : Bool
  poisoned  : Bool
  replayBad : Bool
  assay     : BitVec 5
  token     : Option Nat
  deriving DecidableEq, Repr

/-- A backward row of attention (R208): its row, layer, query head and query, the saved maximum, the largest run maximum so
far, and the engine that gave it. -/
structure Replay where
  prog  : Nat
  row   : Nat
  layer : Nat
  head  : Nat
  query : Nat
  saved : Nat
  best  : Nat
  unit  : EngUnit
  deriving DecidableEq, Repr

/-- An event for the Statements of the present posting point (R304): ports, code, account, details. -/
structure Event where
  p0    : Bool
  p1    : Bool
  code  : BitVec 8
  acct  : BitVec 16
  d1    : Word32
  d2    : Word64
  deriving DecidableEq, Repr

/-- An answer owed: port, lane, intake order, entry (R300). -/
structure Answer where
  port  : Nat
  lane  : Nat
  order : Nat
  entry : Entry
  deriving DecidableEq, Repr

/-- A Token or End entry for the Statements of the present posting point: the sequence's slot and its home lane (R300). -/
structure Said where
  slot  : Nat
  port  : Nat
  lane  : Nat
  entry : Entry
  deriving DecidableEq, Repr

/-- An account's activity (R255, R285). -/
structure Acct where
  active : Bool
  tokens : Nat
  /-- Pool Tallies held, by die: Tally IDs. -/
  held   : List Nat
  deriving DecidableEq, Repr

/-- An account that is not active. -/
def Acct.idle : Acct := ⟨false, 0, []⟩

/-- The posting Clerk's state (R287 to R305). -/
structure Serve where
  rows      : List Row
  running   : Bool
  share     : Nat
  storm     : Bool
  stormAt   : Nat
  accts     : SMap Acct
  /-- One more than the engine last chosen by allotment, by die, kind and queue (R234). -/
  allot     : SMap Nat
  events    : List Event
  answers   : List Answer
  /-- Numbers tickets in order of acceptance, frees in order of freeing. -/
  accepts   : Nat
  frees     : Nat
  /-- Load tickets and charter tickets still to be answered. -/
  loadTicket    : Option Ticket
  stageTicket   : Option Ticket
  postTicket    : Option Ticket
  endoTickets   : List (Ticket × Nat)
  probeTickets  : List Ticket
  /-- One more than the FP32 severity of each widening request that is pending: key 2 × layer, plus 1 for the backward rung
  (R72). -/
  asks      : SMap Nat
  /-- The cut of the present posting point (R287), the entries about sequences for its Statements, and whether work was
  deferred for want of frames there (R301). -/
  cut       : Word64
  said      : List Said
  pressed   : Bool
  /-- A posting point that holds its action 11 until the next comparison: the step's rows and share (R437). -/
  heldPost  : Option (List Row × Nat)
  /-- A staged image: none, copying, checked with a status, ready (R446). -/
  staged    : Option (BitVec 16)
  stagedOk  : Bool
  stageStatus : Option (BitVec 16 × Word32)
  posted    : Bool
  /-- Probe sets that have arrived and await the posting point (R377). -/
  probeIn   : List (List Byte)
  /-- Endorsements found corrupt by a recheck, Home from the next posting point on (R326). -/
  stale     : List Nat
  /-- Tiles whose master weights are newly lost, for the next posting point (R368). -/
  lostTiles : List Nat
  deriving DecidableEq, Repr

/-! ### Folios -/

/-- A Folio Ledger entry (R181), with the steps since a pass last read it (R192). -/
structure Folio where
  st       : Nat
  pin      : Bool
  recomp   : Bool
  poisoned : Bool
  fill     : Nat
  frame    : Option Nat
  slot     : Nat
  reserve  : Word64
  lastRead : Nat
  guardTo  : Nat
  /-- Quarters copied so far, whether the copy met a failure, and the window in use (R193). -/
  copied   : List Nat
  failed   : Bool
  window   : Nat
  /-- The copy met poison, which the entry shows from the next posting point on (R196). -/
  tainted  : Bool
  deriving DecidableEq, Repr

/-- A Free entry. -/
def Folio.free : Folio := ⟨0, false, false, false, 0, none, 0, 0, 0, 0, [], false, 0, false⟩

/-- A staging slot in use (R195): die and slot number are its key; entry, layer, arrived or failed. -/
structure Stage where
  entry : Nat
  layer : Nat
  done  : Option Bool
  deriving DecidableEq, Repr

/-! ### Weights and endorsements -/

/-- A weight manifest as verified (R309). -/
structure Manifest where
  kind    : Nat
  digests : Bool
  holdFlip : Bool
  refresh : Bool
  epoch   : BitVec 16
  generation : BitVec 16
  shards  : Nat
  tiles   : Nat
  home    : Word64
  chain   : List Nat
  rank    : Nat
  matrices : BitVec 8
  grad    : Word64
  /-- Digest and length of each shard. -/
  entries : List (BitVec 256 × Nat)
  digest  : BitVec 256
  deriving DecidableEq, Repr

/-- A Load in progress (R311 to R318). -/
structure Load where
  manifest  : Manifest
  /-- Shards in their landing slots: one more than the slot; and all that have arrived and been acknowledged. -/
  landed    : SMap Nat
  arrived   : List Nat
  acked     : List Nat
  /-- How often each shard has been asked for again (R313). -/
  asked     : SMap Nat
  /-- Tile records found so far: byte offset in the image, tile, surplus entries (R308). -/
  records   : List (Nat × Nat × Nat)
  /-- Tiles whose program command is out, was given twice, whose bank is Verified (R316). -/
  issued    : List Nat
  retried   : List Nat
  verified  : List Nat
  /-- Chain members that have reported Verified; this device's own report is out (R318). -/
  reported  : List Nat
  told      : Bool
  flipSeen  : Bool
  failed    : Option (BitVec 16)
  deriving DecidableEq, Repr

/-- Epochs (R318 to R320). -/
structure Epochs where
  live      : Option (BitVec 16)
  draining  : Option (BitVec 16)
  drainFrom : Nat
  load      : Option Load
  /-- A Load of the chain that this device relays without keeping anything (R315). -/
  relay     : Option Load
  refreshDue : Bool
  deriving DecidableEq, Repr

/-- An endorsement table entry (R322). -/
structure EndoEntry where
  st       : Nat
  rank     : Nat
  matrices : BitVec 8
  sealed_  : Bool
  cache    : Option Nat
  refs     : Nat
  home     : Word64
  length   : Nat
  grad     : Word64
  checked  : Word32
  digests  : List (BitVec 256 × Nat)
  steps    : Nat
  deriving DecidableEq, Repr

/-- An Empty entry. -/
def EndoEntry.empty : EndoEntry := ⟨0, 0, 0, false, none, 0, 0, 0, 0, 0, [], 0⟩

/-- A cache entry (R325): table index, stack, first unit, units, when last used. -/
structure CacheEntry where
  entry : Nat
  stack : Nat
  base  : Nat
  units : Nat
  used  : Nat
  deriving DecidableEq, Repr

/-! ### Calibration and Audit -/

/-- Calibration (R344 to R353). -/
structure Calib where
  /-- Phase windows gone by: the quotient of R157. -/
  window : Nat
  /-- Triggered groups waiting for a ring, oldest first (local index times 4 plus die); and the rings in use: die times 512
  plus ring to one more than the group that holds it. -/
  due    : List Nat
  rings  : SMap Nat
  /-- Groups whose run has begun, with the windows left and fits counted in the run. -/
  runs   : SMap (Nat × Nat × Nat × Nat)
  /-- Groups that must restart at the next boundary. -/
  again  : List Nat
  /-- Senior time at which a group's last run began. -/
  begun  : SMap Word64
  /-- Pairs in each group's ring (R163), oldest first: 8-byte words. -/
  ring   : SMap (List Word64)
  /-- Squares of rms gathered in the run: key group, tile, column group. -/
  quality : SMap (Nat × Nat)
  /-- Row-converter changes of the run, per tile: sums of gain and offset changes and their number. -/
  moved  : SMap (Int × Int × Nat)
  /-- Ladder trims that take effect at the next posting point, by Mint die; replica values at the posting. -/
  ladder : SMap Int
  replica : SMap (Nat × Nat)
  deriving DecidableEq, Repr

/-- An Audit converter beside its registers (R333 to R342). -/
structure Audit where
  entry    : Nat
  chan     : Nat
  rep      : Nat
  sum      : Nat
  cnt      : Nat
  hi       : Bool
  lo       : Bool
  unset    : Bool
  /-- The Charter's entries 24 to 31 and limits waiting for the wrap (R337). -/
  shadow   : Option (List Word64 × List Word32)
  burst    : Bool
  goodRun  : Nat
  deriving DecidableEq, Repr

/-- A converter that does not run. -/
def Audit.idle : Audit := ⟨0, 0, 0, 0, 0, false, false, false, none, false, 0⟩

/-! ### Security -/

/-- The security block (R457 to R472), beside SEC's registers and MRAM. -/
structure Sec where
  meas      : SMap (BitVec 256)
  challenge : BitVec 256
  /-- Clearing link keys: key link times 2 plus direction; key, salt and key number. -/
  linkKeys  : SMap (BitVec 256 × Word32 × Nat)
  linkFlits : SMap Nat
  /-- What a link's keys are derived from (R468): the two nonces in ascending node order, own node, far node. -/
  linkInfo  : SMap (List Byte × Nat × Nat)
  /-- The key a sender keeps until `ack` passes the flit that first used the next one (R468). -/
  oldKeys   : SMap (BitVec 256 × Word32 × Nat × BitVec 16)
  /-- The mailbox's request in progress: nonce or command (R464). -/
  mailbox   : SMap (BitVec 256)
  /-- The Boundary Scan of the Stewards' TAP holds the package pins (R490): EXTEST, EXTEST_PULSE or EXTEST_TRAIN. -/
  extest    : Bool
  deriving DecidableEq, Repr

/-! ### Clearing -/

/-- A link beside its registers (R383 to R388). -/
structure LinkState where
  txSeq  : BitVec 16
  rxSeq  : BitVec 16
  /-- Flits not yet acknowledged, oldest first, with the times each was replayed (R387). -/
  replay : List (BitVec 16 × Nat)
  failedAt : Option Word64
  /-- Credit held for each channel (R386). -/
  credit : SMap Nat
  /-- Commands that wait for credit or for room among the unacknowledged flits, oldest first (R386, R404). -/
  waiting : List (ClrCmd × List Codeword)
  deriving DecidableEq, Repr

/-- A link that is down. -/
def LinkState.down : LinkState := ⟨0, 0, [], none, [], []⟩

/-- A settled signal held at a die's Clearing port (R394). -/
structure HeldSignal where
  /-- The Port die that received it. -/
  port  : Nat
  node  : Nat
  die   : Nat
  count : Word32
  tally : Nat
  inc   : Nat
  deriving DecidableEq, Repr

/-- A domain directory entry (R401). -/
structure DomEntry where
  node       : Nat
  st         : Nat
  generation : BitVec 16
  epoch      : BitVec 16
  probe      : Word32
  seen       : Word64
  forwarded  : Word64
  identity   : Nat
  deriving DecidableEq, Repr

/-- An absent entry. -/
def DomEntry.absent : DomEntry := ⟨0, 0, 0, 0, 0, 0, 0, 0⟩

/-- The Clearing fabric's state (R382 to R403). -/
structure Clearing where
  links    : SMap LinkState
  /-- Sent counts: key die times 4,096 plus node. Landed counts: key port, node, die. -/
  sent     : SMap Word32
  landed   : SMap Word32
  /-- The landed counts each Array die has received: key die, port, node, source die (R393). -/
  heard    : SMap Word32
  held     : List HeldSignal
  /-- Reads outstanding: tag to (die, channel, first byte of the burst). -/
  reads    : SMap (Nat × Nat × Nat)
  nextTag  : BitVec 16
  dir      : SMap DomEntry
  peerSeen : Word64
  ackSeen  : Word64
  kept     : List FaultRecord
  /-- Nodes whose unreachability has been sent (R397). -/
  cutOff   : List Nat
  deriving DecidableEq, Repr

/-! ### Records and probes -/

/-- The fault log (R361 to R364): slots, serial, records gained and lost since the last posting point, weight-scope
records of the step (tile or, above 32,768, endorsement). -/
structure Log where
  slots     : SMap FaultRecord
  serial    : Word64
  gained    : Nat
  lostNow   : Nat
  missedN   : Nat
  missedS   : Nat
  fullSent  : Bool
  weight    : List Nat
  /-- Units made permanent that are treated so from the next posting point (R374), and those treated so now. -/
  newPerm   : List (Nat × Nat × Nat)
  fenced    : List (Nat × Nat × Nat)
  deriving DecidableEq, Repr

/-- Probes (R377): the entry and unit each die runs next, what it runs now, and units to be probed first. -/
structure Probes where
  next     : SMap (Nat × Nat)
  running  : SMap (Option (Nat × Nat))
  targets  : List (Nat × Nat × Nat)
  deriving DecidableEq, Repr

/-- Power (R480 to R485). -/
structure Power where
  asleep   : Bool
  railBad  : SMap Nat
  railGood : Nat
  railHold : Bool
  thermTrip : Bool
  throttled : SMap Bool
  lastState : Nat
  deriving DecidableEq, Repr

/-- Pins (R474, R475, R490). -/
structure Pins where
  straps : SMap (BitVec 4)
  jtag   : JtagIns
  deriving DecidableEq, Repr

/-- The device. -/
structure State where
  /-- Commands waiting, first in first out. -/
  pending : List Instr
  regs    : SMap Word64
  mem     : List Host.Cell
  poison  : SMap Bool
  time    : Time
  rst     : ResetCtl
  mram    : Mram
  dir     : SMap DirEntry
  tiles   : SMap Tile
  groups  : SMap Group
  gov     : SMap Governor
  assay   : SMap Assay
  lanes   : SMap Hoard
  /-- The withheld side vector of a quantised input: the memory key of its element area to the key of its values (R146). -/
  sides   : SMap Nat
  /-- Norm-watch sums of the step: key 2 × layer, plus 1 for gradients; the SUMSQ with its number of terms (R86). -/
  watch   : SMap Hoard
  /-- Backward attention rows whose maxima await their comparison (R208). -/
  replays : List Replay
  queues  : SMap EngState
  signals : List Signal
  tallies : SMap Tally
  dma     : SMap Channel
  dmaArb  : SMap DmaArb
  ports   : SMap PortState
  serve   : Serve
  seqs    : SMap Seq
  folio   : SMap Folio
  staging : SMap Stage
  epochs  : Epochs
  endo    : SMap EndoEntry
  cache   : SMap CacheEntry
  cal     : Calib
  aud     : SMap Audit
  sec     : Sec
  clr     : Clearing
  log     : Log
  probes  : Probes
  power   : Power
  pins    : Pins
  out     : List Out
  /-- How many free values have been drawn: the model's own field. -/
  free    : Nat
  deriving DecidableEq, Repr

/-- MRAM, flash and fuses of a VMF100-P1 as supplied (R492): identity provisioned, no owner key, nothing posted.
DESIGN CHOICE, log entry 4. -/
def Mram.supplied : Mram :=
  { sweepPending := false, destroyPending := false, fuseBlown := false, erased := false, tripSeen := false,
    seed := true, domainKey := none, owner := [], ownerCounter := none, levels := 0x995, postedGen := none, life := 0,
    probeSet := none, daybook := [], setCrc0 := [], surplus := [], flash := [], running := [], fwFails := 0 }

/-- Both copies of the counter at 0 (R45). -/
def Time.zero : Time := ⟨0, 0, 0, 0, [], 0⟩

/-- Nothing released, nobody senior (R431, R442). -/
def ResetCtl.init (pwrgd : Bool) : ResetCtl :=
  { pwrgd := pwrgd, rows := [], stopped := [], claims := [], arbitrated := false, lastBeat := [], beatRun := [], heldSince := [],
    armedAt := none, decommissioning := false, byClaim := false,
    notice := none, blockResets := [] }

/-- The posting Clerk before any step: decode share 16 (GLB_SERVE resets to 0x0010_0000). -/
def Serve.init : Serve :=
  { rows := [], running := false, share := 16, storm := false, stormAt := 0, accts := [], allot := [], events := [], answers := [],
    accepts := 0, frees := 0, loadTicket := none, stageTicket := none, postTicket := none, endoTickets := [],
    probeTickets := [], asks := [], cut := 0, said := [], pressed := false, heldPost := none, staged := none, stagedOk := false, stageStatus := none,
    posted := false, probeIn := [], stale := [], lostTiles := [] }

/-- No epoch, no Load. -/
def Epochs.none : Epochs := ⟨.none, .none, 0, .none, .none, false⟩

/-- No run, no trigger. -/
def Calib.idle : Calib := ⟨0, [], [], [], [], [], [], [], [], [], []⟩

/-- Measurements 0, no keys (R463, R467). -/
def Sec.init : Sec := ⟨[], 0, [], [], [], [], [], false⟩

/-- Every link down, every count 0. -/
def Clearing.init : Clearing := ⟨[], [], [], [], [], [], 0, [], 0, 0, [], []⟩

/-- An empty log (R361: serials start again at 1). -/
def Log.empty : Log := ⟨[], 0, 0, 0, 0, 0, false, [], [], []⟩

/-- No probe running. -/
def Probes.idle : Probes := ⟨[], [], []⟩

/-- Awake, no Hold. -/
def Power.init : Power := ⟨false, [], 0, false, false, [], 0⟩

/-- Pins as at power-on; the TAP in BYPASS (DESIGN CHOICE, log entry 4). -/
def Pins.init : Pins := ⟨[], .bypass⟩

/-- The device right after power-on reset, with PWRGD still low (R439, R440): every register at its stated reset value
(the bank lists nothing), nothing released, nothing in memory. -/
def State.reset : State :=
  { pending := [], regs := [], mem := [], poison := [], time := Time.zero, rst := ResetCtl.init false,
    mram := Mram.supplied, dir := [], tiles := [], groups := [], gov := [], assay := [], lanes := [], sides := [], watch := [], replays := [], queues := [],
    signals := [], tallies := [], dma := [], dmaArb := [], ports := [], serve := Serve.init, seqs := [], folio := [],
    staging := [], epochs := Epochs.none, endo := [], cache := [], cal := Calib.idle, aud := [], sec := Sec.init,
    clr := Clearing.init, log := Log.empty, probes := Probes.idle, power := Power.init, pins := Pins.init, out := [],
    free := 0 }

end Sys2Proof.Machine
end

