-- ==== Sys2Proof/Machine/Maps.lean ====
section
/-! DEFINITION. Reading and writing the sparse maps of State, fields of words, and list helpers. Every write of a map
goes through `put`, which keeps it canonical (Laws/Maps.lean). -/

namespace Sys2Proof.Machine

/-! ### Sparse maps -/

/-- What a map holds at a key: the default `d` where the key is not listed. -/
def look {α : Type} (d : α) : SMap α → Nat → α
  | [], _ => d
  | (a, v) :: m, k => if a = k then v else look d m k

/-- List a value at a key, keys strictly rising. -/
def insertAt {α : Type} : SMap α → Nat → α → SMap α
  | [], k, v => [(k, v)]
  | (a, w) :: m, k, v =>
    if k < a then (k, v) :: (a, w) :: m else if k = a then (k, v) :: m else (a, w) :: insertAt m k v

/-- Write a value at a key; writing the default takes the key out. -/
def put {α : Type} [DecidableEq α] (d : α) (m : SMap α) (k : Nat) (v : α) : SMap α :=
  (insertAt m k v).filter (fun e => e.1 != k || decide (v ≠ d))

/-- Rewrite what a key holds. -/
def upd {α : Type} [DecidableEq α] (d : α) (m : SMap α) (k : Nat) (f : α → α) : SMap α :=
  put d m k (f (look d m k))

/-- The canonical form: keys strictly rising from `b` on, and no default listed. -/
def smapWf {α : Type} [DecidableEq α] (d : α) : Nat → SMap α → Bool
  | _, [] => true
  | b, (a, v) :: m => decide (b ≤ a) && decide (v ≠ d) && smapWf d (a + 1) m

/-- Write several keys, the first of the list last. -/
def putAll {α : Type} [DecidableEq α] (d : α) (m : SMap α) (l : List (Nat × α)) : SMap α :=
  l.foldr (fun e m => put d m e.1 e.2) m

/-- Drop every key that the test refuses. -/
def keepKeys {α : Type} (m : SMap α) (p : Nat → Bool) : SMap α := m.filter (fun e => p e.1)

/-! ### Fields of words -/

/-- Bits [hi:lo] of a word, as a number (R6). -/
def bits (w : Word64) (hi lo : Nat) : Nat := w.toNat / 2 ^ lo % 2 ^ (hi + 1 - lo)

/-- A word with bits [hi:lo] replaced. -/
def setBits (w : Word64) (hi lo v : Nat) : Word64 :=
  BitVec.ofNat 64 (w.toNat - bits w hi lo * 2 ^ lo + v % 2 ^ (hi + 1 - lo) * 2 ^ lo)

/-- Bit `k` of a word. -/
def bitOf (w : Word64) (k : Nat) : Bool := w.getLsbD k

/-- Field [hi:lo] of a number. -/
def nbits (n hi lo : Nat) : Nat := n / 2 ^ lo % 2 ^ (hi + 1 - lo)

/-- Bit `k` of a number. -/
def nbit (n k : Nat) : Bool := n / 2 ^ k % 2 == 1

/-- Two's complement of a number of `w` bits. -/
def signed (w n : Nat) : Int := if n % 2 ^ w < 2 ^ (w - 1) then (n % 2 ^ w : Nat) else (n % 2 ^ w : Nat) - (2 ^ w : Nat)

/-- A number as `w` bits in two's complement. -/
def toTwos (w : Nat) (i : Int) : Nat := (i % (2 ^ w : Nat)).toNat

/-- An integer kept between two bounds. -/
def clampInt (lo hi i : Int) : Int := if i < lo then lo else if hi < i then hi else i

/-! ### Bytes (R5: little-endian) -/

/-- The number that bytes spell, least significant first (R5). -/
def leNat : List Byte → Nat
  | [] => 0
  | b :: bs => b.toNat + 256 * leNat bs

/-- The `n` bytes of a number, least significant first (R5). -/
def natLe : Nat → Nat → List Byte
  | 0, _ => []
  | n + 1, v => BitVec.ofNat 8 v :: natLe n (v / 256)

/-- Bytes [hi:lo] of a structure as a number (R5, R6). A byte past the end reads 0. -/
def fieldB (bs : List Byte) (hi lo : Nat) : Nat := leNat ((bs.drop lo).take (hi + 1 - lo))

/-- Byte `i` of a structure. -/
def byteAt (bs : List Byte) (i : Nat) : Nat := (bs.getD i 0).toNat

/-- A structure with its bytes from `i` on replaced. -/
def patchBytes (bs : List Byte) (i : Nat) (v : List Byte) : List Byte :=
  bs.take i ++ v ++ bs.drop (i + v.length)

/-! ### Lists -/

/-- The numbers from `a` up to but not including `b`. -/
def range (a b : Nat) : List Nat := (List.range (b - a)).map (· + a)

/-- Insertion into a list sorted by `le`, after its equals. -/
def insertBy {α : Type} (le : α → α → Bool) (x : α) : List α → List α
  | [] => [x]
  | y :: ys => if le y x then y :: insertBy le x ys else x :: y :: ys

/-- Stable insertion sort. -/
def sortBy {α : Type} (le : α → α → Bool) (l : List α) : List α :=
  l.foldl (fun acc x => insertBy le x acc) []

/-- Replace the element at an index, if there is one. -/
def setAt {α : Type} (l : List α) (i : Nat) (v : α) : List α := l.set i v

/-- Cut a list into pieces of `n`. -/
def piecesOf {α : Type} (n : Nat) : Nat → List α → List (List α)
  | 0, _ => []
  | _, [] => []
  | fuel + 1, l => l.take n :: piecesOf n fuel (l.drop n)

/-- Ceiling of a quotient. -/
def ceilDiv (a b : Nat) : Nat := (a + b - 1) / b

/-- The largest number of a list, `d` when it is empty. -/
def maxOr (d : Nat) (l : List Nat) : Nat := l.foldl Nat.max d

/-- The first candidate of `l` from index `start` on, going round, that passes. -/
def firstFrom (n start : Nat) (p : Nat → Bool) : Option Nat :=
  ((List.range n).map (fun i => (start + i) % n)).find? p

/-- Integer square root, bit by bit from `2^k` down. -/
def isqrtFrom (n : Nat) : Nat → Nat → Nat
  | 0, acc => acc
  | k + 1, acc =>
    let c := acc + 2 ^ k
    isqrtFrom n k (if c * c ≤ n then c else acc)

/-- The integer square root of a number below 2^512. -/
def isqrt (n : Nat) : Nat := isqrtFrom n 257 0

/-- Round a quotient half to even. -/
def divRne (n : Int) (d : Nat) : Int :=
  let q := n / (d : Int)
  let r := n % (d : Int)
  if 2 * r < d then q
  else if 2 * r > d then q + 1
  else if q % 2 = 0 then q else q + 1

end Sys2Proof.Machine
end

