-- ==== Sys2Proof/Machine/Digest.lean ====
section
/-! DEFINITION. The published functions that the spec names: the Ledger code RS(36,32) (R27), CRC-32C (R445), SHA-256
and HKDF (R463, R468), Philox-4x32-10 (R493), and the mixing function of R159. -/

namespace Sys2Proof.Machine

/-! ### The Ledger code (R27) -/

/-- Multiply by x in GF(2^8) with the polynomial of R27. -/
def gfTwice (a : Byte) : Byte := if a.getLsbD 7 then (a <<< 1) ^^^ 0x1D else a <<< 1

/-- Multiply in GF(2^8). -/
def gfMul (a b : Byte) : Byte :=
  ((List.range 8).foldl (fun (st : Byte × Byte) i =>
    (if b.getLsbD i then st.1 ^^^ st.2 else st.1, gfTwice st.2)) ((0 : Byte), a)).1

/-- The coefficients of (x + 1)(x + α)(x + α²)(x + α³) below x⁴, from x³ down (R27). -/
def ledgerGen : List Byte := [0x0F, 0x36, 0x78, 0x40]

/-- One byte through the code's shift register. -/
def ledgerStep (r : List Byte) (b : Byte) : List Byte :=
  let f := b ^^^ r.headD 0
  (List.zip (r.drop 1 ++ [0]) ledgerGen).map (fun e => e.1 ^^^ gfMul f e.2)

/-- The four check bytes of a 32-byte granule (R27). -/
def ledgerCheck (data : List Byte) : List Byte := data.foldl ledgerStep [0, 0, 0, 0]

/-- What the check bytes of a poison codeword are XORed with (R27). -/
def poisonMark : List Byte := [0x50, 0x4F, 0x49, 0x53]

/-- What a decoder makes of a codeword (R27): good data, corrected or not; poison; or uncorrectable. -/
inductive CodeRead where
  | good (data : List Byte) (corrected : Bool)
  | poison
  | uncorrectable
  deriving DecidableEq, Repr

/-- Byte-wise sum of two strings. -/
def xorBytes (a b : List Byte) : List Byte := (List.zip a b).map (fun e => e.1 ^^^ e.2)

/-- The syndromes of a 36-byte word at the roots 1, α, α², α³. -/
def syndromes (w : List Byte) : List Byte :=
  [1, 2, 4, 8].map (fun r => w.foldl (fun (a : Byte) b => gfMul a r ^^^ b) 0)

/-- The power of α at each place of a 36-byte word, the first byte first. -/
def alphaPow (i : Nat) : Byte := (List.range (35 - i)).foldl (fun (a : Byte) _ => gfTwice a) 1

/-- The inverse in GF(2^8): the 254th power. -/
def gfInv (a : Byte) : Byte :=
  let a2 := gfMul a a
  let a4 := gfMul a2 a2
  let a8 := gfMul a4 a4
  let a16 := gfMul a8 a8
  let a32 := gfMul a16 a16
  let a64 := gfMul a32 a32
  let a128 := gfMul a64 a64
  gfMul a128 (gfMul a64 (gfMul a32 (gfMul a16 (gfMul a8 (gfMul a4 a2)))))

/-- Correct one byte, if one wrong byte explains the syndromes. -/
def fixOne (w : List Byte) (sy : List Byte) : Option (List Byte) :=
  ((List.range 36).find? (fun i =>
    let x := alphaPow i
    let s0 := sy.getD 0 0
    s0 != 0 && sy == [s0, gfMul s0 x, gfMul s0 (gfMul x x), gfMul s0 (gfMul x (gfMul x x))])).map
    (fun i => w.set i (w.getD i 0 ^^^ sy.getD 0 0))

/-- Correct two bytes, if two wrong bytes explain the syndromes. -/
def fixTwo (w : List Byte) (sy : List Byte) : Option (List Byte) :=
  let s0 := sy.getD 0 0
  let s1 := sy.getD 1 0
  ((List.range 36).findSome? (fun i => (range (i + 1) 36).findSome? (fun j =>
    let x := alphaPow i
    let y := alphaPow j
    -- e + f = s0 and e x + f y = s1
    let f := gfMul (s1 ^^^ gfMul s0 x) (gfInv (x ^^^ y))
    let e := s0 ^^^ f
    let x2 := gfMul x x
    let y2 := gfMul y y
    if e ≠ 0 ∧ f ≠ 0 ∧ gfMul e x2 ^^^ gfMul f y2 = sy.getD 2 0 ∧
        gfMul e (gfMul x x2) ^^^ gfMul f (gfMul y y2) = sy.getD 3 0 then
      some ((w.set i (w.getD i 0 ^^^ e)).set j (w.getD j 0 ^^^ f))
    else none)))

/-- How many of two words' bytes differ. -/
def distance (a b : List Byte) : Nat := ((List.zip a b).filter (fun e => e.1 != e.2)).length

/-- Is the word within one byte of a poison codeword (R27)? -/
def nearPoison (w : List Byte) : Bool :=
  let v := w.take 32 ++ xorBytes (w.drop 32) poisonMark
  let sy := syndromes v
  sy == [0, 0, 0, 0] || (fixOne v sy).isSome

/-- Decode a codeword: poison is tested before correction (R27). -/
def ledgerDecode (w : List Byte) : CodeRead :=
  if nearPoison w then .poison
  else
    let sy := syndromes w
    if sy = [0, 0, 0, 0] then .good (w.take 32) false
    else match fixOne w sy with
      | some v => .good (v.take 32) true
      | none => match fixTwo w sy with
        | some v => .good (v.take 32) true
        | none => .uncorrectable

/-! ### CRC-32C -/

/-- One bit of the reflected CRC-32C. -/
def crcBit (c : Word32) : Word32 := if c.getLsbD 0 then (c >>> 1) ^^^ 0x82F63B78 else c >>> 1

/-- One byte. -/
def crcByte (c : Word32) (b : Byte) : Word32 :=
  (List.range 8).foldl (fun c _ => crcBit c) (c ^^^ BitVec.zeroExtend 32 b)

/-- The CRC-32C of a byte string (R445). -/
def crc32c (bs : List Byte) : Word32 := ~~~(bs.foldl crcByte 0xFFFFFFFF)

/-! ### SHA-256, HMAC, HKDF -/

/-- The round constants of SHA-256, from FIPS 180-4. -/
def shaK : List Word32 :=
  [0x428a2f98, 0x71374491, 0xb5c0fbcf, 0xe9b5dba5, 0x3956c25b, 0x59f111f1, 0x923f82a4, 0xab1c5ed5,
   0xd807aa98, 0x12835b01, 0x243185be, 0x550c7dc3, 0x72be5d74, 0x80deb1fe, 0x9bdc06a7, 0xc19bf174,
   0xe49b69c1, 0xefbe4786, 0x0fc19dc6, 0x240ca1cc, 0x2de92c6f, 0x4a7484aa, 0x5cb0a9dc, 0x76f988da,
   0x983e5152, 0xa831c66d, 0xb00327c8, 0xbf597fc7, 0xc6e00bf3, 0xd5a79147, 0x06ca6351, 0x14292967,
   0x27b70a85, 0x2e1b2138, 0x4d2c6dfc, 0x53380d13, 0x650a7354, 0x766a0abb, 0x81c2c92e, 0x92722c85,
   0xa2bfe8a1, 0xa81a664b, 0xc24b8b70, 0xc76c51a3, 0xd192e819, 0xd6990624, 0xf40e3585, 0x106aa070,
   0x19a4c116, 0x1e376c08, 0x2748774c, 0x34b0bcb5, 0x391c0cb3, 0x4ed8aa4a, 0x5b9cca4f, 0x682e6ff3,
   0x748f82ee, 0x78a5636f, 0x84c87814, 0x8cc70208, 0x90befffa, 0xa4506ceb, 0xbef9a3f7, 0xc67178f2]

/-- The initial hash value of SHA-256. -/
def shaH : List Word32 :=
  [0x6a09e667, 0xbb67ae85, 0x3c6ef372, 0xa54ff53a, 0x510e527f, 0x9b05688c, 0x1f83d9ab, 0x5be0cd19]

/-- A 32-bit word from four bytes, most significant first. -/
def beWord (b : List Byte) : Word32 := BitVec.ofNat 32 (leNat b.reverse)

/-- The bytes of a word, most significant first. -/
def wordBe (w : Word32) : List Byte := (natLe 4 w.toNat).reverse

/-- The message schedule: the newest word first, 64 in all. -/
def shaSchedule : Nat → List Word32 → List Word32
  | 0, w => w
  | n + 1, w =>
    let a := w.getD 14 0
    let b := w.getD 1 0
    let s0 := a.rotateRight 7 ^^^ a.rotateRight 18 ^^^ (a >>> 3)
    let s1 := b.rotateRight 17 ^^^ b.rotateRight 19 ^^^ (b >>> 10)
    shaSchedule n ((w.getD 15 0 + s0 + w.getD 6 0 + s1) :: w)

/-- One round over the eight working words. -/
def shaRound (v : List Word32) (kw : Word32 × Word32) : List Word32 :=
  match v with
  | [a, b, c, d, e, f, g, h] =>
    let t1 := h + (e.rotateRight 6 ^^^ e.rotateRight 11 ^^^ e.rotateRight 25) + ((e &&& f) ^^^ (~~~e &&& g)) + kw.1 + kw.2
    let t2 := (a.rotateRight 2 ^^^ a.rotateRight 13 ^^^ a.rotateRight 22) + ((a &&& b) ^^^ (a &&& c) ^^^ (b &&& c))
    [t1 + t2, a, b, c, d + t1, e, f, g]
  | v => v

/-- One 64-byte block. -/
def shaBlock (h : List Word32) (b : List Byte) : List Word32 :=
  let w := (shaSchedule 48 ((piecesOf 4 16 b).map beWord).reverse).reverse
  let v := (List.zip shaK w).foldl shaRound h
  (List.zip h v).map (fun e => e.1 + e.2)

/-- The message padded to whole blocks. -/
def shaPad (m : List Byte) : List Byte :=
  let z := (119 - m.length % 64) % 64
  m ++ [0x80] ++ List.replicate z 0 ++ (natLe 8 (8 * m.length)).reverse

/-- SHA-256, as 32 bytes. -/
def sha256 (m : List Byte) : List Byte :=
  let p := shaPad m
  ((piecesOf 64 (p.length / 64) p).foldl shaBlock shaH).flatMap wordBe

/-- SHA-256 as a number whose byte 0 is the digest's first byte. -/
def sha256n (m : List Byte) : BitVec 256 := BitVec.ofNat 256 (leNat (sha256 m))

/-- HMAC-SHA-256. -/
def hmac256 (key m : List Byte) : List Byte :=
  let k0 := if 64 < key.length then sha256 key else key
  let k := k0 ++ List.replicate (64 - k0.length) 0
  sha256 (k.map (· ^^^ 0x5C) ++ sha256 (k.map (· ^^^ 0x36) ++ m))

/-- The blocks of HKDF's expansion from counter `i`. -/
def hkdfBlocks (prk info : List Byte) : Nat → Nat → List Byte → List Byte
  | 0, _, _ => []
  | n + 1, i, t =>
    let b := hmac256 prk (t ++ info ++ [BitVec.ofNat 8 i])
    b ++ hkdfBlocks prk info n (i + 1) b

/-- HKDF-SHA-256, `len` bytes. -/
def hkdf256 (ikm salt info : List Byte) (len : Nat) : List Byte :=
  (hkdfBlocks (hmac256 salt ikm) info (ceilDiv len 32) 1 []).take len

/-! ### Philox-4x32-10 (R493) -/

/-- One round on (counter, key). -/
def philoxRound (c : Nat × Nat × Nat × Nat) (k : Nat × Nat) : Nat × Nat × Nat × Nat :=
  let p := 0xD2511F53 * c.1
  let q := 0xCD9E8D57 * c.2.2.1
  ((q / 2 ^ 32) ^^^ c.2.1 ^^^ k.1, q % 2 ^ 32, (p / 2 ^ 32) ^^^ c.2.2.2 ^^^ k.2, p % 2 ^ 32)

/-- The ten rounds, the key moving on between them. -/
def philoxRounds : Nat → Nat × Nat × Nat × Nat → Nat × Nat → Nat × Nat × Nat × Nat
  | 0, c, _ => c
  | n + 1, c, k => philoxRounds n (philoxRound c k) ((k.1 + 0x9E3779B9) % 2 ^ 32, (k.2 + 0xBB67AE85) % 2 ^ 32)

/-- The four output words for a 64-bit key and a counter (R493). -/
def philox (key : Nat) (c0 c1 c2 c3 : Nat) : List Nat :=
  let r := philoxRounds 10 (c0 % 2 ^ 32, c1 % 2 ^ 32, c2 % 2 ^ 32, c3 % 2 ^ 32) (key % 2 ^ 32, key / 2 ^ 32 % 2 ^ 32)
  [r.1, r.2.1, r.2.2.1, r.2.2.2]

/-- Byte `i` of the 16 bytes of an evaluation (R493). -/
def philoxByte (o : List Nat) (i : Nat) : Nat := o.getD (i / 4) 0 / 2 ^ (8 * (i % 4)) % 256

end Sys2Proof.Machine
end

