-- ==== Sys2Proof/Machine/Regs.lean ====
section
/-! DEFINITION. The register map: where each block lies in BAR0 (01 R31, 14 R413), where each register lies in its block
(the register headings of every chapter), the reset values that are not 0, and reading and writing the bank. A counter
named `..._CNT_...` is 64 bits wide (R8) and stops at its largest value (R14). -/

namespace Sys2Proof.Machine

/-! ### Blocks -/

/-- The window of Array die `d` (R31). -/
def dieBase (d : Nat) : Nat := 0x01000000 + 0x400000 * d
/-- A register of the global block (R413). -/
def glb (off : Nat) : Nat := off
/-- A register of Steward `h` (R413). -/
def stw (h off : Nat) : Nat := 0x00100000 + 0x80000 * h + off
/-- A register of the reset controller (R413). -/
def rstReg (off : Nat) : Nat := 0x00200000 + off
/-- A register of the security block (R413, R472). -/
def secReg (off : Nat) : Nat := 0x00300000 + off
/-- A register of Audit converter `i` (R356). -/
def aud (i off : Nat) : Nat := 0x00400000 + 0x10000 * i + off
/-- A register of host port `p` (R413). -/
def hpt (p off : Nat) : Nat := 0x00500000 + 0x80000 * p + off
/-- A register of port `p`'s Clearing block (R413). -/
def clrReg (p off : Nat) : Nat := 0x00600000 + 0x80000 * p + off
/-- A register of lane `l` of port `p` (R413). -/
def tlr (p l off : Nat) : Nat := 0x02000000 + 0x2000 * p + 0x20 * l + off
/-- A register of the Daybook block (R380). -/
def dbk (off : Nat) : Nat := 0x03800000 + off
/-- A register of a die's Vault controller (R31). -/
def vlt (d off : Nat) : Nat := dieBase d + 0x20000 + off
/-- A register of the Tally block of a die (R31). -/
def tal (d off : Nat) : Nat := dieBase d + 0x50000 + off
/-- A register of channel `k` of die `d` (R31). -/
def dmaReg (d k off : Nat) : Nat := dieBase d + 0x60000 + 0x200 * k + off
/-- A register of timer `k` of die `d` (R31). -/
def tmr (d k off : Nat) : Nat := dieBase d + 0x70000 + 0x100 * k + off
/-- A register of the folio block of die `d` (R31). -/
def fol (d off : Nat) : Nat := dieBase d + 0x80000 + off
/-- A register of Mint group `u` of die `d` (R31). -/
def mgc (d u off : Nat) : Nat := dieBase d + 0x180000 + 0x400 * u + off
/-- A register of Mint die `m`'s governor: every group's window of the die reaches it, and group 0's keeps it (R133). -/
def mgv (m off : Nat) : Nat := mgc (m / 4) (m % 4 * 128) off
/-- A register of Assay unit `u` of die `d` (R31). -/
def asyReg (d u off : Nat) : Nat := dieBase d + 0x200000 + 0x800 * u + off
/-- A register of attention engine `k` of die `d` (R31). -/
def atnReg (d k off : Nat) : Nat := dieBase d + 0x300000 + 0x2000 * k + off
/-- A register of vector engine `k` of die `d` (R31). -/
def vecReg (d k off : Nat) : Nat := dieBase d + 0x380000 + 0x2000 * k + off

/-- A register of a unit that takes orders; a DMA channel's are those of its own block. -/
def unitReg (e : EngUnit) (off : Nat) : Nat :=
  match e.kind with
  | .assay => asyReg e.die.val e.inst off
  | .attn => atnReg e.die.val e.inst off
  | .vec => vecReg e.die.val e.inst off
  | .dma => dmaReg e.die.val e.inst off

/-! ### Registers, by the offset in their block -/

/-- `GLB_IDENT`, 32 bits (00 R3). -/
def GLB_IDENT : Nat := glb 0x0
/-- `VLT_CAL`, 32 bits (01 R24). -/
def VLT_CAL (d : Nat) : Nat := vlt d 0x40
/-- `GLB_DCNT`, 64 bits (02 R45). -/
def GLB_DCNT : Nat := glb 0x10
/-- `GLB_CLKSTAT`, 32 bits (02 R46). -/
def GLB_CLKSTAT : Nat := glb 0x20
/-- `MGC_CTRL`, 32 bits (04 R133). -/
def MGC_CTRL (d u : Nat) : Nat := mgc d u 0x0
/-- `MGC_STAT`, 32 bits (04 R133). -/
def MGC_STAT (d u : Nat) : Nat := mgc d u 0x4
/-- `MGC_PROG`, 32 bits (04 R133). -/
def MGC_PROG (d u : Nat) : Nat := mgc d u 0x8
/-- `MGC_BANK`, 32 bits (04 R133). -/
def MGC_BANK (d u : Nat) : Nat := mgc d u 0xC
/-- `MGC_TEMP`, 32 bits (04 R133). -/
def MGC_TEMP (d u : Nat) : Nat := mgc d u 0x10
/-- `MGV_CEIL`, 32 bits (04 R134). -/
def MGV_CEIL (m : Nat) : Nat := mgv m 0x380
/-- `MGV_OCC`, 32 bits (04 R134). -/
def MGV_OCC (m : Nat) : Nat := mgv m 0x384
/-- `MGV_DEFER`, 64 bits (04 R134). -/
def MGV_DEFER (m : Nat) : Nat := mgv m 0x388
/-- `MGV_SWEEP`, 32 bits (04 R134). -/
def MGV_SWEEP (m : Nat) : Nat := mgv m 0x390
/-- `ASY_CTRL`, 32 bits (05 R170). -/
def ASY_CTRL (d u : Nat) : Nat := asyReg d u 0x0
/-- `ASY_STAT`, 32 bits (05 R170). -/
def ASY_STAT (d u : Nat) : Nat := asyReg d u 0x4
/-- `ASY_SPOT`, 32 bits (05 R170). -/
def ASY_SPOT (d u : Nat) : Nat := asyReg d u 0x8
/-- `ASY_LASTFAIL`, 32 bits (05 R170). -/
def ASY_LASTFAIL (d u : Nat) : Nat := asyReg d u 0xC
/-- `ASY_RESSTAT`, 32 bits (05 R170). -/
def ASY_RESSTAT (d u : Nat) : Nat := asyReg d u 0x10
/-- `FOL_CTRL`, 32 bits (06 R203). -/
def FOL_CTRL (d : Nat) : Nat := fol d 0x40000
/-- `FOL_GEOM`, 32 bits (06 R203). -/
def FOL_GEOM (d : Nat) : Nat := fol d 0x40004
/-- `FOL_USE`, 32 bits (06 R203). -/
def FOL_USE (d : Nat) : Nat := fol d 0x40008
/-- `FOL_LEDGER`, 32 bits (06 R203). -/
def FOL_LEDGER (d : Nat) : Nat := fol d 0x4000C
/-- `FOL_MARKS`, 32 bits (06 R203). -/
def FOL_MARKS (d : Nat) : Nat := fol d 0x40010
/-- `FOL_RSVn`, 32 bits (06 R203). -/
def FOL_RSV (d n : Nat) : Nat := fol d (0x40020 + 4 * n)
/-- `ATN_CTRL`, 32 bits (06 R204). -/
def ATN_CTRL (d k : Nat) : Nat := atnReg d k 0x0
/-- `ATN_STAT`, 32 bits (06 R204). -/
def ATN_STAT (d k : Nat) : Nat := atnReg d k 0x4
/-- `ATN_RUN`, 32 bits (06 R204). -/
def ATN_RUN (d k : Nat) : Nat := atnReg d k 0x8
/-- `ENG_QCTL`, 32 bits (07 R241). -/
def ENG_QCTL (e : EngUnit) : Nat := unitReg e 0x20
/-- `ENG_QHEAD`, 32 bits (07 R241). -/
def ENG_QHEAD (e : EngUnit) : Nat := unitReg e 0x24
/-- `ENG_QSKIP`, 32 bits (07 R241). -/
def ENG_QSKIP (e : EngUnit) : Nat := unitReg e 0x28
/-- `ENG_QFAULT`, 32 bits (07 R241). -/
def ENG_QFAULT (e : EngUnit) : Nat := unitReg e 0x2C
/-- `TAL_WDOG`, 32 bits (08 R255). -/
def TAL_WDOG (d : Nat) : Nat := tal d 0x8000
/-- `TAL_LASTMIS`, 32 bits (08 R255). -/
def TAL_LASTMIS (d : Nat) : Nat := tal d 0x8004
/-- `TMR_CTRL`, 32 bits (08 R270). -/
def TMR_CTRL (d k : Nat) : Nat := tmr d k 0x0
/-- `TMR_PERIOD`, 32 bits (08 R270). -/
def TMR_PERIOD (d k : Nat) : Nat := tmr d k 0x4
/-- `TMR_COUNT`, 32 bits (08 R270). -/
def TMR_COUNT (d k : Nat) : Nat := tmr d k 0x8
/-- `TMR_EVENTS`, 64 bits (08 R270). -/
def TMR_EVENTS (d k : Nat) : Nat := tmr d k 0x10
/-- `DMA_CTRL`, 32 bits (08 R271). -/
def DMA_CTRL (d k : Nat) : Nat := dmaReg d k 0x0
/-- `DMA_STAT`, 32 bits (08 R271). -/
def DMA_STAT (d k : Nat) : Nat := dmaReg d k 0x4
/-- `DMA_DESC`, 32 bits (08 R271). -/
def DMA_DESC (d k : Nat) : Nat := dmaReg d k 0x8
/-- `DMA_DONE`, 32 bits (08 R271). -/
def DMA_DONE (d k : Nat) : Nat := dmaReg d k 0xC
/-- `DMA_TAG`, 32 bits (08 R271). -/
def DMA_TAG (d k : Nat) : Nat := dmaReg d k 0x10
/-- `DMA_BUSY`, 64 bits (08 R271). -/
def DMA_BUSY (d : Nat) : Nat := dieBase d + 0x68000
/-- `GLB_STEP`, 64 bits (09 R304). -/
def GLB_STEP : Nat := glb 0x100
/-- `GLB_SERVE`, 32 bits (09 R304). -/
def GLB_SERVE : Nat := glb 0x108
/-- `GLB_SEQ`, 32 bits (09 R304). -/
def GLB_SEQ : Nat := glb 0x10C
/-- `GLB_POST`, 32 bits (09 R304). -/
def GLB_POST : Nat := glb 0x110
/-- `GLB_EPOCH`, 32 bits (10 R332). -/
def GLB_EPOCH : Nat := glb 0x180
/-- `GLB_ENDO`, 64 bits (10 R332). -/
def GLB_ENDO : Nat := glb 0x188
/-- `AUD_CTRL`, 32 bits (11 R356). -/
def AUD_CTRL (i : Nat) : Nat := aud i 0x0
/-- `AUD_STAT`, 32 bits (11 R356). -/
def AUD_STAT (i : Nat) : Nat := aud i 0x4
/-- `AUD_SETTLE`, 32 bits (11 R356). -/
def AUD_SETTLE (i : Nat) : Nat := aud i 0x8
/-- `AUD_CALG`, 32 bits (11 R356). -/
def AUD_CALG (i : Nat) : Nat := aud i 0x10
/-- `AUD_CALO`, 32 bits (11 R356). -/
def AUD_CALO (i : Nat) : Nat := aud i 0x14
/-- `AUD_ENTn`, 64 bits (11 R356). -/
def AUD_ENT (i n : Nat) : Nat := aud i (0x100 + 8 * n)
/-- `AUD_ACCn`, 64 bits (11 R356). -/
def AUD_ACC (i n : Nat) : Nat := aud i (0x200 + 8 * n)
/-- `AUD_NEW`, 32 bits (11 R356). -/
def AUD_NEW (i : Nat) : Nat := aud i 0x300
/-- `AUD_TRKn`, 64 bits (11 R356). -/
def AUD_TRK (i n : Nat) : Nat := aud i (0x400 + 8 * n)
/-- `AUD_LIMn`, 32 bits (11 R356). -/
def AUD_LIM (i n : Nat) : Nat := aud i (0x500 + 4 * n)
/-- `AUD_TRKCLR`, 32 bits (11 R356). -/
def AUD_TRKCLR (i : Nat) : Nat := aud i 0x600
/-- `AUD_DATA`, 32 bits (11 R356). -/
def AUD_DATA (i : Nat) : Nat := aud i 0x700
/-- `MGC_CAL`, 32 bits (11 R357). -/
def MGC_CAL (d u : Nat) : Nat := mgc d u 0x90
/-- `MGC_CALQ`, 32 bits (11 R357). -/
def MGC_CALQ (d u : Nat) : Nat := mgc d u 0x94
/-- `MGV_LADDER`, 32 bits (11 R358). -/
def MGV_LADDER (m : Nat) : Nat := mgv m 0x3A0
/-- `DBK_FLOG_HEAD`, 32 bits (12 R380). -/
def DBK_FLOG_HEAD : Nat := dbk 0x0
/-- `DBK_FLOG_TAIL`, 32 bits (12 R380). -/
def DBK_FLOG_TAIL : Nat := dbk 0x4
/-- `DBK_STAT`, 32 bits (12 R380). -/
def DBK_STAT : Nat := dbk 0x8
/-- `DBK_PSET`, 32 bits (12 R380). -/
def DBK_PSET : Nat := dbk 0xC
/-- `DBK_LIFE`, 64 bits (12 R380). -/
def DBK_LIFE : Nat := dbk 0x10
/-- `CLR_ID`, 32 bits (13 R407). -/
def CLR_ID (p : Nat) : Nat := clrReg p 0x0
/-- `CLR_ROLL`, 32 bits (13 R407). -/
def CLR_ROLL (p : Nat) : Nat := clrReg p 0x4
/-- `HPT_LINK`, 32 bits (14 R427). -/
def HPT_LINK (p : Nat) : Nat := hpt p 0x0
/-- `HPT_B4BASE`, 64 bits (14 R427). -/
def HPT_B4BASE (p : Nat) : Nat := hpt p 0x8
/-- `TLR_RBASE`, 64 bits (14 R428). -/
def TLR_RBASE (p l : Nat) : Nat := tlr p l 0x0
/-- `TLR_HADDR`, 64 bits (14 R428). -/
def TLR_HADDR (p l : Nat) : Nat := tlr p l 0x8
/-- `TLR_RCFG`, 32 bits (14 R428). -/
def TLR_RCFG (p l : Nat) : Nat := tlr p l 0x10
/-- `TLR_RPTR`, 32 bits (14 R428). -/
def TLR_RPTR (p l : Nat) : Nat := tlr p l 0x14
/-- `TLR_STAMP`, 32 bits (14 R428). -/
def TLR_STAMP (p l : Nat) : Nat := tlr p l 0x18
/-- `TLR_LSTAT`, 32 bits (14 R428). -/
def TLR_LSTAT (p l : Nat) : Nat := tlr p l 0x1C
/-- `RST_CAUSE`, 32 bits (15 R456). -/
def RST_CAUSE : Nat := rstReg 0x0
/-- `RST_CMD`, 32 bits (15 R456). -/
def RST_CMD : Nat := rstReg 0x4
/-- `RST_BOOT`, 32 bits (15 R456). -/
def RST_BOOT : Nat := rstReg 0x8
/-- `STW_STAT`, 32 bits (15 R456). -/
def STW_STAT (h : Nat) : Nat := stw h 0x0
/-- `STW_WARRANT`, 32 bits (15 R456). -/
def STW_WARRANT (h : Nat) : Nat := stw h 0x10
/-- `STW_FWSRC`, 64 bits (15 R456). -/
def STW_FWSRC (h : Nat) : Nat := stw h 0x20
/-- `STW_FWCTL`, 32 bits (15 R456). -/
def STW_FWCTL (h : Nat) : Nat := stw h 0x28
/-- `STW_FWVER`, 32 bits (15 R456). -/
def STW_FWVER (h : Nat) : Nat := stw h 0x2C
/-- `SEC_STAT`, 32 bits (16 R472). -/
def SEC_STAT : Nat := secReg 0x0
/-- `SEC_ALARM`, 32 bits (16 R472). -/
def SEC_ALARM : Nat := secReg 0x4
/-- `SEC_LEVEL`, 32 bits (16 R472). -/
def SEC_LEVEL : Nat := secReg 0x8
/-- `SEC_DBG`, 32 bits (16 R472). -/
def SEC_DBG : Nat := secReg 0xC
/-- `SEC_OWNERn`, 32 bits (16 R472). -/
def SEC_OWNER (n : Nat) : Nat := secReg (0x10 + 4 * n)
/-- `GLB_PWR`, 32 bits (17 R490). -/
def GLB_PWR : Nat := glb 0x200
/-- `GLB_TCAP`, 64 bits (17 R490). -/
def GLB_TCAP : Nat := glb 0x208
/-- `GLB_THERM`, 32 bits (17 R490). -/
def GLB_THERM : Nat := glb 0x210
/-- `GLB_PINS`, 32 bits (17 R490). -/
def GLB_PINS : Nat := glb 0x214
/-- `MGC_CNT_STRIKE`: forward strikes begun, excluding re-strike slots (R134). -/
def MGC_CNT_STRIKE (d u : Nat) : Nat := mgc d u 0x20
/-- `MGC_CNT_TSTRIKE`: transposed strikes begun (R134). -/
def MGC_CNT_TSTRIKE (d u : Nat) : Nat := mgc d u 0x28
/-- `MGC_CNT_SKIP`: planes skipped (R105) (R134). -/
def MGC_CNT_SKIP (d u : Nat) : Nat := mgc d u 0x30
/-- `MGC_CNT_SPLIT`: extra strikes from splits (R106) (R134). -/
def MGC_CNT_SPLIT (d u : Nat) : Nat := mgc d u 0x38
/-- `MGC_CNT_RS1`: level-1 re-strike slots (R134). -/
def MGC_CNT_RS1 (d u : Nat) : Nat := mgc d u 0x40
/-- `MGC_CNT_RS2`: level-2 re-strike slots (R134). -/
def MGC_CNT_RS2 (d u : Nat) : Nat := mgc d u 0x48
/-- `MGC_CNT_RS3`: level-3 re-strike slots (R134). -/
def MGC_CNT_RS3 (d u : Nat) : Nat := mgc d u 0x50
/-- `MGC_CNT_SAT`: saturated columns (R110, R111) (R134). -/
def MGC_CNT_SAT (d u : Nat) : Nat := mgc d u 0x58
/-- `MGC_CNT_GOVWAIT`: tile-cycles deferred by the governor (queueing) (R134). -/
def MGC_CNT_GOVWAIT (d u : Nat) : Nat := mgc d u 0x60
/-- `MGC_CNT_PROGROW`: rows programmed (R134). -/
def MGC_CNT_PROGROW (d u : Nat) : Nat := mgc d u 0x68
/-- `MGC_CNT_VERIFY`: extra verify rounds (R134). -/
def MGC_CNT_VERIFY (d u : Nat) : Nat := mgc d u 0x70
/-- `MGC_CNT_STUCK`: stuck cells (R125) (R134). -/
def MGC_CNT_STUCK (d u : Nat) : Nat := mgc d u 0x78
/-- `MGC_CNT_BANKSW`: bank changes (R126) (R134). -/
def MGC_CNT_BANKSW (d u : Nat) : Nat := mgc d u 0x80
/-- `ASY_CNT_SLICE`: slice issues, parts included (R171). -/
def ASY_CNT_SLICE (d u : Nat) : Nat := asyReg d u 0x40
/-- `ASY_CNT_WITHHELD`: withheld-row products (R171). -/
def ASY_CNT_WITHHELD (d u : Nat) : Nat := asyReg d u 0x48
/-- `ASY_CNT_OUTLIER`: dynamic outliers corrected (R171). -/
def ASY_CNT_OUTLIER (d u : Nat) : Nat := asyReg d u 0x50
/-- `ASY_CNT_OUTSPLIT`: extra parts under R150 (R171). -/
def ASY_CNT_OUTSPLIT (d u : Nat) : Nat := asyReg d u 0x58
/-- `ASY_CNT_OUTDIG`: segments computed digitally under R150 (R171). -/
def ASY_CNT_OUTDIG (d u : Nat) : Nat := asyReg d u 0x60
/-- `ASY_CNT_SURPLUS`: surplus entries applied (R171). -/
def ASY_CNT_SURPLUS (d u : Nat) : Nat := asyReg d u 0x68
/-- `ASY_CNT_CARRY`: rows carried (R171). -/
def ASY_CNT_CARRY (d u : Nat) : Nat := asyReg d u 0x70
/-- `ASY_CNT_DIGCOL`: columns computed under R145 (R171). -/
def ASY_CNT_DIGCOL (d u : Nat) : Nat := asyReg d u 0x78
/-- `ASY_CNT_ENDA`: A stages (R171). -/
def ASY_CNT_ENDA (d u : Nat) : Nat := asyReg d u 0x80
/-- `ASY_CNT_ENDB`: B stages (R171). -/
def ASY_CNT_ENDB (d u : Nat) : Nat := asyReg d u 0x88
/-- `ASY_CNT_SPOT`: spot assays done (R171). -/
def ASY_CNT_SPOT (d u : Nat) : Nat := asyReg d u 0x90
/-- `ASY_CNT_SPOTFAIL`: spot failures (R171). -/
def ASY_CNT_SPOTFAIL (d u : Nat) : Nat := asyReg d u 0x98
/-- `ASY_CNT_SPOTDROP`: spot assays dropped (R171). -/
def ASY_CNT_SPOTDROP (d u : Nat) : Nat := asyReg d u 0xA0
/-- `ASY_CNT_PAIRDROP`: pairs not written (R171). -/
def ASY_CNT_PAIRDROP (d u : Nat) : Nat := asyReg d u 0xA8
/-- `ASY_CNT_FETCHWAIT`: core cycles waiting for Vault or partner data (queueing) (R171). -/
def ASY_CNT_FETCHWAIT (d u : Nat) : Nat := asyReg d u 0xB0
/-- `FOL_CNT_SPILL`: quarters copied to the Reserve (R204). -/
def FOL_CNT_SPILL (d : Nat) : Nat := fol d 0x40100
/-- `FOL_CNT_DROP`: folios dropped (R204). -/
def FOL_CNT_DROP (d : Nat) : Nat := fol d 0x40108
/-- `FOL_CNT_FETCH`: quarter-layers prefetched (R204). -/
def FOL_CNT_FETCH (d : Nat) : Nat := fol d 0x40110
/-- `FOL_CNT_FETCHERR`: failed Reserve transfers (R204). -/
def FOL_CNT_FETCHERR (d : Nat) : Nat := fol d 0x40118
/-- `FOL_CNT_RECOMP`: folios recomputed (R204). -/
def FOL_CNT_RECOMP (d : Nat) : Nat := fol d 0x40120
/-- `FOL_CNT_COMPACT`: ledger compactions (R204). -/
def FOL_CNT_COMPACT (d : Nat) : Nat := fol d 0x40128
/-- `FOL_CNT_DEFER`: sequence-steps deferred under R198 (queueing) (R204). -/
def FOL_CNT_DEFER (d : Nat) : Nat := fol d 0x40130
/-- `ATN_CNT_ORDERS`: orders completed (R205). -/
def ATN_CNT_ORDERS (d k : Nat) : Nat := atnReg d k 0x40
/-- `VEC_CNT_ORDERS`: orders completed (R205). -/
def VEC_CNT_ORDERS (d k : Nat) : Nat := vecReg d k 0x40
/-- `ATN_CNT_CHUNKS`: chunks read (R205). -/
def ATN_CNT_CHUNKS (d k : Nat) : Nat := atnReg d k 0x48
/-- `VEC_CNT_COMBINE`: attention partials combined (R205). -/
def VEC_CNT_COMBINE (d k : Nat) : Nat := vecReg d k 0x48
/-- `ATN_CNT_MASKED`: chunks skipped under R186 (R205). -/
def ATN_CNT_MASKED (d k : Nat) : Nat := atnReg d k 0x50
/-- `VEC_CNT_PARTIAL`: partial records combined (R82) (R205). -/
def VEC_CNT_PARTIAL (d k : Nat) : Nat := vecReg d k 0x50
/-- `ATN_CNT_LOST`: chunks lost under R195 (R205). -/
def ATN_CNT_LOST (d k : Nat) : Nat := atnReg d k 0x58
/-- `VEC_CNT_QUANT`: blocks quantised (R205). -/
def VEC_CNT_QUANT (d k : Nat) : Nat := vecReg d k 0x58
/-- `ATN_CNT_STAGEWAIT`: core cycles waiting on staging (queueing) (R205). -/
def ATN_CNT_STAGEWAIT (d k : Nat) : Nat := atnReg d k 0x60
/-- `VEC_CNT_NAN`: NaNs produced (R54) (R205). -/
def VEC_CNT_NAN (d k : Nat) : Nat := vecReg d k 0x60
/-- `ATN_CNT_READWAIT`: core cycles waiting on Vault (queueing) (R205). -/
def ATN_CNT_READWAIT (d k : Nat) : Nat := atnReg d k 0x68
/-- `VEC_CNT_RESIDUE`: residue failures (R174) (R205). -/
def VEC_CNT_RESIDUE (d k : Nat) : Nat := vecReg d k 0x68
/-- `ATN_CNT_NAN`: NaNs produced (R54) (R205). -/
def ATN_CNT_NAN (d k : Nat) : Nat := atnReg d k 0x70
/-- `VEC_CNT_PARTBAD`: partial records failing R81 (R205). -/
def VEC_CNT_PARTBAD (d k : Nat) : Nat := vecReg d k 0x70
/-- `ATN_CNT_RESIDUE`: residue failures (R174) (R205). -/
def ATN_CNT_RESIDUE (d k : Nat) : Nat := atnReg d k 0x78
/-- `ATN_CNT_REPLAY`: replay mismatches (R208) (R205). -/
def ATN_CNT_REPLAY (d k : Nat) : Nat := atnReg d k 0x80
/-- `ENG_CNT_ISSUE_P`: orders issued from the prefill queue, repetitions included (R242). -/
def ENG_CNT_ISSUE_P (e : EngUnit) : Nat := unitReg e 0x100
/-- `ENG_CNT_ISSUE_D`: orders issued from the decode queue, repetitions included (R242). -/
def ENG_CNT_ISSUE_D (e : EngUnit) : Nat := unitReg e 0x108
/-- `ENG_CNT_SKIP`: entries skipped (R217) (R242). -/
def ENG_CNT_SKIP (e : EngUnit) : Nat := unitReg e 0x110
/-- `ENG_CNT_WAIT_P`: core cycles the prefill head waited (queueing) (R242). -/
def ENG_CNT_WAIT_P (e : EngUnit) : Nat := unitReg e 0x118
/-- `ENG_CNT_WAIT_D`: core cycles the decode head waited (queueing) (R242). -/
def ENG_CNT_WAIT_D (e : EngUnit) : Nat := unitReg e 0x120
/-- `ENG_CNT_FAULT`: orders faulted (R240) (R242). -/
def ENG_CNT_FAULT (e : EngUnit) : Nat := unitReg e 0x128
/-- `TAL_CNT_MISUSE`: misuses (R247) (R256). -/
def TAL_CNT_MISUSE (d : Nat) : Nat := tal d 0x8010
/-- `TAL_CNT_WDOG`: watchdog expiries (R253) (R256). -/
def TAL_CNT_WDOG (d : Nat) : Nat := tal d 0x8018
/-- `TAL_CNT_ROUNDS`: barrier rounds completed (R256). -/
def TAL_CNT_ROUNDS (d : Nat) : Nat := tal d 0x8020
/-- `DMA_CNT_BYTES`: bytes acknowledged (R272). -/
def DMA_CNT_BYTES (d k : Nat) : Nat := dmaReg d k 0x40
/-- `DMA_CNT_DESC`: descriptors completed (R272). -/
def DMA_CNT_DESC (d k : Nat) : Nat := dmaReg d k 0x48
/-- `DMA_CNT_ARBWAIT`: grant slots ready but not granted (queueing) (R272). -/
def DMA_CNT_ARBWAIT (d k : Nat) : Nat := dmaReg d k 0x50
/-- `DMA_CNT_CREDWAIT`: core cycles held by the in-flight limit (queueing) (R272). -/
def DMA_CNT_CREDWAIT (d k : Nat) : Nat := dmaReg d k 0x58
/-- `DMA_CNT_POISON`: granules written as zeros under R265 (R272). -/
def DMA_CNT_POISON (d k : Nat) : Nat := dmaReg d k 0x60
/-- `DMA_CNT_OVERRUN`: trigger events discarded under R266 (R272). -/
def DMA_CNT_OVERRUN (d k : Nat) : Nat := dmaReg d k 0x68
/-- `GLB_CNT_TICKETS`: tickets processed (R305). -/
def GLB_CNT_TICKETS : Nat := glb 0x120
/-- `GLB_CNT_REFUSED`: tickets refused under R283 (R305). -/
def GLB_CNT_REFUSED : Nat := glb 0x128
/-- `GLB_CNT_TOKENS`: tokens delivered (R305). -/
def GLB_CNT_TOKENS : Nat := glb 0x130
/-- `GLB_CNT_DEFER`: sequence-steps deferred under R293 and R295 (queueing) (R305). -/
def GLB_CNT_DEFER : Nat := glb 0x138
/-- `AUD_CNT_CONV`: conversions (R357). -/
def AUD_CNT_CONV (i : Nat) : Nat := aud i 0x800
/-- `AUD_CNT_RANGE`: out-of-range conversions (R357). -/
def AUD_CNT_RANGE (i : Nat) : Nat := aud i 0x808
/-- `AUD_CNT_BURST`: calibration bursts (R357). -/
def AUD_CNT_BURST (i : Nat) : Nat := aud i 0x810
/-- `MGC_CNT_CALRUN`: runs completed (R358). -/
def MGC_CNT_CALRUN (d u : Nat) : Nat := mgc d u 0xA0
/-- `MGC_CNT_FIT`: fits accepted, bench fits included (R358). -/
def MGC_CNT_FIT (d u : Nat) : Nat := mgc d u 0xA8
/-- `MGC_CNT_REJECT`: fits rejected (R349) (R358). -/
def MGC_CNT_REJECT (d u : Nat) : Nat := mgc d u 0xB0
/-- `MGC_CNT_STARVE`: columns starved (R348) (R358). -/
def MGC_CNT_STARVE (d u : Nat) : Nat := mgc d u 0xB8
/-- `DBK_CNT_RECORDS`: fault records written (R381). -/
def DBK_CNT_RECORDS : Nat := dbk 0x40
/-- `DBK_CNT_LOST`: records not written (R364) and events not recorded (R373) (R381). -/
def DBK_CNT_LOST : Nat := dbk 0x48
/-- `DBK_CNT_PERM`: units made permanent (R381). -/
def DBK_CNT_PERM : Nat := dbk 0x50
/-- `DBK_CNT_PROBE`: probes run (R381). -/
def DBK_CNT_PROBE : Nat := dbk 0x58
/-- `DBK_CNT_PROBEFAIL`: probes failed (R381). -/
def DBK_CNT_PROBEFAIL : Nat := dbk 0x60
/-- `CLR_L_TX` of link `k` of port `p`: flits sent, replays included (R408). -/
def CLR_L_TX (p k : Nat) : Nat := clrReg p (0x100 + 0x40 * k + 0x8)
/-- `CLR_L_RX` of link `k` of port `p`: flits accepted (R408). -/
def CLR_L_RX (p k : Nat) : Nat := clrReg p (0x100 + 0x40 * k + 0x10)
/-- `CLR_L_REPLAY` of link `k` of port `p`: flits replayed (R387) (R408). -/
def CLR_L_REPLAY (p k : Nat) : Nat := clrReg p (0x100 + 0x40 * k + 0x18)
/-- `CLR_L_FECCOR` of link `k` of port `p`: FEC codewords corrected (R408). -/
def CLR_L_FECCOR (p k : Nat) : Nat := clrReg p (0x100 + 0x40 * k + 0x20)
/-- `CLR_L_FECBAD` of link `k` of port `p`: FEC codewords uncorrectable (R408). -/
def CLR_L_FECBAD (p k : Nat) : Nat := clrReg p (0x100 + 0x40 * k + 0x28)
/-- `CLR_L_TAGBAD` of link `k` of port `p`: flits failing the GCM tag (R408). -/
def CLR_L_TAGBAD (p k : Nat) : Nat := clrReg p (0x100 + 0x40 * k + 0x30)
/-- `CLR_L_DISC` of link `k` of port `p`: flits discarded when the link went down (R408). -/
def CLR_L_DISC (p k : Nat) : Nat := clrReg p (0x100 + 0x40 * k + 0x38)
/-- `CLR_CNT_FWD`: commands forwarded for other nodes (R408). -/
def CLR_CNT_FWD (p : Nat) : Nat := clrReg p 0x40
/-- `CLR_CNT_HOLD`: core cycles of settled signals held, summed over signals (queueing) (R408). -/
def CLR_CNT_HOLD (p : Nat) : Nat := clrReg p 0x48
/-- `CLR_CNT_REFUSED`: remote accesses refused (R391) (R408). -/
def CLR_CNT_REFUSED (p : Nat) : Nat := clrReg p 0x50
/-- `CLR_CNT_HOPS`: commands discarded at the hop limit (R396) (R408). -/
def CLR_CNT_HOPS (p : Nat) : Nat := clrReg p 0x58
/-- `CLR_CNT_STALE`: held signals discarded (R394) (R408). -/
def CLR_CNT_STALE (p : Nat) : Nat := clrReg p 0x60
/-- `CLR_CNT_FWDLOST`: fault records not forwarded (R400) (R408). -/
def CLR_CNT_FWDLOST (p : Nat) : Nat := clrReg p 0x68
/-- `HPT_CNT_BADSTAMP`: tickets discarded on a stamp mismatch (R415) (R428). -/
def HPT_CNT_BADSTAMP (p : Nat) : Nat := hpt p 0x40
/-- `HPT_CNT_LATE`: writes to latched slots (R416) (R428). -/
def HPT_CNT_LATE (p : Nat) : Nat := hpt p 0x48
/-- `HPT_CNT_STMTLOST`: statement entries discarded (R423) (R428). -/
def HPT_CNT_STMTLOST (p : Nat) : Nat := hpt p 0x50
/-- `HPT_CNT_INBAD`: inbound TLPs discarded (R410, R427) (R428). -/
def HPT_CNT_INBAD (p : Nat) : Nat := hpt p 0x58
/-- `HPT_CNT_DENIED`: bAR4 writes discarded (R414) (R428). -/
def HPT_CNT_DENIED (p : Nat) : Nat := hpt p 0x60
/-- `CLR_LSTAT` of link `k` of port `p`, 32 bits (13 R407). -/
def CLR_LSTAT (p k : Nat) : Nat := clrReg p (0x100 + 0x40 * k)
/-- `SEC_MBCTL` of port `p`, 32 bits (16 R472). -/
def SEC_MBCTL (p : Nat) : Nat := secReg (0x40 + 0x10 * p)
/-- `SEC_MBADDR` of port `p`, 64 bits (16 R472). -/
def SEC_MBADDR (p : Nat) : Nat := secReg (0x48 + 0x10 * p)
/-- The first word of Tally `n` of die `d` (08 R243). -/
def TAL_VAL (d n : Nat) : Nat := tal d (8 * n)
/-- The second word of Tally `n` of die `d` (08 R243). -/
def TAL_CW (d n : Nat) : Nat := tal d (8 * n + 4)

/-! ### Which register an offset names -/

/-- A block of BAR0 (R413, R31), with the numbers of its die and unit. -/
inductive Site where
  | glb | stw (h : Nat) | rst | sec | aud (i : Nat) | hpt (p : Nat) | clr (p : Nat)
  | vlt (d : Nat) | tal (d : Nat) | dma (d k : Nat) | dmaAll (d : Nat) | tmr (d k : Nat) | fol (d : Nat)
  | dir (d : Nat) | mgc (d u : Nat) | asy (d u : Nat) | atn (d k : Nat) | vec (d k : Nat)
  | tlr (p l : Nat) | msix | dbk | other
  deriving DecidableEq, Repr

/-- The block an offset of an Array die's window lies in, with the offset inside it (R31). -/
def dieSite (d o : Nat) : Site × Nat :=
  if o < 0x20000 then (.other, o)
  else if o < 0x30000 then (.vlt d, o - 0x20000)
  else if o < 0x50000 then (.other, o)
  else if o < 0x60000 then (.tal d, o - 0x50000)
  else if o < 0x68000 then (.dma d ((o - 0x60000) / 0x200), (o - 0x60000) % 0x200)
  else if o < 0x70000 then (.dmaAll d, o - 0x60000)
  else if o < 0x80000 then
    (if o - 0x70000 < 0x1000 then (.tmr d ((o - 0x70000) / 0x100), (o - 0x70000) % 0x100) else (.other, o))
  else if o < 0x100000 then (.fol d, o - 0x80000)
  else if o < 0x140000 then (.dir d, o - 0x100000)
  else if o < 0x180000 then (.other, o)
  else if o < 0x200000 then (.mgc d ((o - 0x180000) / 0x400), (o - 0x180000) % 0x400)
  else if o < 0x300000 then (.asy d ((o - 0x200000) / 0x800), (o - 0x200000) % 0x800)
  else if o < 0x380000 then
    (if (o - 0x300000) / 0x2000 < 48 then (.atn d ((o - 0x300000) / 0x2000), (o - 0x300000) % 0x2000) else (.other, o))
  else if o < 0x3C0000 then
    (if (o - 0x380000) / 0x2000 < 24 then (.vec d ((o - 0x380000) / 0x2000), (o - 0x380000) % 0x2000) else (.other, o))
  else (.other, o)

/-- The block a BAR0 offset lies in, with the offset inside it (R413). -/
def siteOf (a : Nat) : Site × Nat :=
  if a < 0x00100000 then (.glb, a)
  else if a < 0x00200000 then (.stw ((a - 0x00100000) / 0x80000), (a - 0x00100000) % 0x80000)
  else if a < 0x00300000 then (.rst, a - 0x00200000)
  else if a < 0x00400000 then (.sec, a - 0x00300000)
  else if a < 0x00460000 then (.aud ((a - 0x00400000) / 0x10000), (a - 0x00400000) % 0x10000)
  else if a < 0x00500000 then (.other, a)
  else if a < 0x00600000 then (.hpt ((a - 0x00500000) / 0x80000), (a - 0x00500000) % 0x80000)
  else if a < 0x00700000 then (.clr ((a - 0x00600000) / 0x80000), (a - 0x00600000) % 0x80000)
  else if a < 0x01000000 then (.other, a)
  else if a < 0x02000000 then dieSite ((a - 0x01000000) / 0x400000) ((a - 0x01000000) % 0x400000)
  else if a < 0x02004000 then
    (.tlr ((a - 0x02000000) / 0x2000) ((a - 0x02000000) % 0x2000 / 0x20), (a - 0x02000000) % 0x20)
  else if a < 0x03000000 then (.other, a)
  else if a < 0x03010000 then (.msix, a - 0x03000000)
  else if a < 0x03800000 then (.other, a)
  else if a < 0x04000000 then (.dbk, a - 0x03800000)
  else (.other, a)

/-- The reset value of a register (the heading of each register); every register it does not name resets to 0. -/
def resetVal (a : Nat) : Word64 :=
  match siteOf a with
  | (.glb, o) =>
    if o = 0x000 then 0x01001000 else if o = 0x108 then 0x00100000 else if o = 0x10C then 0x2000
    else if o = 0x200 then 0x02000200 else if o = 0x208 then 0x0200020002000200
    else if o = 0x210 then 0x00640000 else 0
  | (.rst, o) => if o = 0 then 1 else 0
  | (.sec, o) => if o = 8 then 0x995 else 0
  | (.aud _, o) =>
    if o = 0 then 2 else if o = 8 then 0x27100 else if 0x400 ≤ o ∧ o < 0x500 then 0xFFF
    else if 0x500 ≤ o ∧ o < 0x580 then 0x0FFF0000 else 0
  | (.mgc _ _, o) => if o = 0x380 then 0x02000200 else 0
  | (.asy _ _, o) => if o = 8 then 0x00060400 else if o = 0x20 then 0x00080000 else 0
  | (.atn _ _, o) => if o = 0x20 then 0x00080000 else 0
  | (.vec _ _, o) => if o = 0x20 then 0x00080000 else 0
  | (.dma _ _, o) => if o = 0x20 then 0x00080000 else 0
  | (.tmr _ _, o) => if o = 4 then 1 else 0
  | _ => 0

/-! ### The bank -/

/-- What the bank holds for a register: its reset value where nothing has changed it. -/
def State.reg (s : State) (a : Nat) : Word64 := look (resetVal a) s.regs a

/-- Write a register of the bank. -/
def State.setReg (s : State) (a : Nat) (v : Word64) : State := { s with regs := put (resetVal a) s.regs a v }

/-- Bits [hi:lo] of a register. -/
def State.fld (s : State) (a hi lo : Nat) : Nat := bits (s.reg a) hi lo

/-- Replace bits [hi:lo] of a register. -/
def State.setFld (s : State) (a hi lo v : Nat) : State := s.setReg a (setBits (s.reg a) hi lo v)

/-- Bit `k` of a register. -/
def State.flag (s : State) (a k : Nat) : Bool := bitOf (s.reg a) k

/-- Set or clear bit `k` of a register. -/
def State.setFlag (s : State) (a k : Nat) (b : Bool) : State := s.setFld a k k b.toNat

/-- Count `n` events in a 64-bit counter, which stops at its largest value (R14). -/
def State.bump (s : State) (a n : Nat) : State :=
  s.setReg a (BitVec.ofNat 64 (Nat.min ((s.reg a).toNat + n) (2 ^ 64 - 1)))

/-- Put a register back to its reset value. -/
def State.clearReg (s : State) (a : Nat) : State := s.setReg a (resetVal a)

/-- Put every register that `p` accepts back to its reset value. -/
def State.clearRegs (s : State) (p : Nat → Bool) : State := { s with regs := keepKeys s.regs (fun a => !p a) }

end Sys2Proof.Machine
end

