-- ==== Sys2Proof/Machine/Ops.lean ====
section
/-! DEFINITION. The named operations over memory, time and the halves that every family shares. Memory is keyed by the
part of a Ledger address below the node (R390): space times 2^48 plus the offset. A byte that nothing has written reads 0
(DESIGN CHOICE, log entry 3). -/

namespace Sys2Proof.Machine

/-! ### Memory -/

/-- The key of an offset of a space of this node (R390). -/
def keyOf (space off : Nat) : Nat := space * 2 ^ 48 + off % 2 ^ 48

/-- What a byte of memory holds. -/
def State.byte (s : State) (a : Nat) : Byte := look 0 s.mem a

/-- `n` bytes from `a` on. -/
def State.read (s : State) (a n : Nat) : List Byte := (List.range n).map (fun i => s.byte (a + i))

/-- `n` bytes from `a` on as a little-endian number (R5). -/
def State.readNat (s : State) (a n : Nat) : Nat := leNat (s.read a n)

/-- Does a byte of `[a, a+n)` lie in a poisoned granule (R27, R29)? -/
def State.bad (s : State) (a n : Nat) : Bool :=
  (range (a / 32) ((a + n + 31) / 32)).any (fun g => look false s.poison g)

/-- Bytes put into memory one after another. -/
def putBytes (m : List Host.Cell) (a : Nat) : List Byte → List Host.Cell
  | [] => m
  | b :: bs => putBytes (put 0 m a b) (a + 1) bs

/-- Does `[a, a+n)` cover the whole granule `g`? -/
def covers (a n g : Nat) : Bool := decide (a ≤ 32 * g) && decide (32 * g + 32 ≤ a + n)

/-- The poison left after bytes are written: a granule written whole is good, one written in part keeps what it was, as
a partial write reads the granule first (R30). -/
def cleansed (p : SMap Bool) (a n : Nat) : SMap Bool := keepKeys p (fun g => !covers a n g)

/-- Write bytes from `a` on. -/
def State.write (s : State) (a : Nat) (bs : List Byte) : State :=
  { s with mem := putBytes s.mem a bs, poison := cleansed s.poison a bs.length }

/-- Write a number of `n` bytes, little-endian (R5). -/
def State.writeNat (s : State) (a n v : Nat) : State := s.write a (natLe n v)

/-- Poison every granule that `[a, a+n)` touches (R29). -/
def State.spoil (s : State) (a n : Nat) : State :=
  { s with poison := putAll false s.poison ((range (a / 32) ((a + n + 31) / 32)).map (fun g => (g, true))) }

/-- Write bytes that may carry poison: poisoned data poisons the granules it reaches (R28, R29). -/
def State.writeP (s : State) (a : Nat) (bs : List Byte) (poisoned : Bool) : State :=
  if poisoned then (s.write a bs).spoil a bs.length else s.write a bs

/-- Drop from memory every byte whose key the test accepts, poison with it. -/
def State.wipe (s : State) (p : Nat → Bool) : State :=
  { s with mem := keepKeys s.mem (fun a => !p a), poison := keepKeys s.poison (fun g => !p (32 * g)) }

/-- The canonical form of memory: addresses strictly rising and no listed byte 0. -/
def memWf (m : List Host.Cell) : Bool := smapWf 0 0 m

/-! ### Where things lie -/

/-- The first byte of the Vault stack of Array die `d` (R21). -/
def vaultBase (d : Nat) : Nat := d * 2 ^ 36
/-- Till byte `off` of Array die `d` (R26). -/
def till (d off : Nat) : Nat := keyOf 1 (d * 2 ^ 27 + off)
/-- The bytes of Till a die has (R26). -/
def tillSize : Nat := 96 * 2 ^ 20
/-- The staged slot of the Charter store: the top 256 MiB of V0 (R446). -/
def stagedSlot : Nat := 2 ^ 36 - 2 ^ 28
/-- The posted slot: the top 256 MiB of V1 (R447). -/
def postedSlot : Nat := 2 ^ 37 - 2 ^ 28
/-- The byte of Ledger space 0x4 at which the levels of a bank of a tile start (R133). -/
def planeBase (t : Nat) (k : Bank) : Nat := keyOf 4 (2 ^ 32 + t * 2 ^ 20 + k.toNat * 2 ^ 19)

/-! ### Free values -/

/-- Draw a free value (DESIGN CHOICE, log entry 5). -/
def State.draw (s : State) : Nat × State := (Config.free s.free, { s with free := s.free + 1 })

/-! ### The halves, seniority, time -/

/-- The half of a die code of R362 (R16). -/
def halfOfDie (c : Nat) : Option Nat :=
  if c < 4 then some (c / 2)
  else if 0x10 ≤ c ∧ c < 0x20 then some ((c - 0x10) / 8)
  else if 0x20 ≤ c ∧ c < 0x24 then some ((c - 0x20) / 2)
  else if c = 0x30 ∨ c = 0x31 then some (c - 0x30)
  else if c = 0x40 ∨ c = 0x41 then some (c - 0x40)
  else if c = 0x50 ∨ c = 0x51 ∨ c = 0x54 ∨ c = 0x56 then some 0
  else if c = 0x52 ∨ c = 0x53 ∨ c = 0x55 ∨ c = 0x57 then some 1
  else none

/-- The senior half (R431): the one whose `senior` bit is set. -/
def State.senior (s : State) : Option Nat :=
  if s.flag (STW_STAT 0) 31 then some 0 else if s.flag (STW_STAT 1) 31 then some 1 else none

/-- The copy of the device counter that half `h` holds (R41). -/
def State.counter (s : State) (h : Nat) : Word64 := if h = 1 then s.time.south else s.time.north

/-- The device counter: the senior copy, and North's while nobody is senior (R41). -/
def State.now (s : State) : Word64 := s.counter (s.senior.getD 0)

/-- Is the writer the PF of the Warrant holder's port (R432)? -/
def State.holder (s : State) (w : Src) : Bool := w.fn.val = 0 && s.senior == some w.port.val

/-- Is half `h` Held (R434)? -/
def State.held (s : State) (h : Nat) : Bool := s.flag (STW_STAT h) 29

/-- Are the halves in contact (R433)? -/
def State.contact (s : State) : Bool := s.flag (STW_STAT 0) 28 && s.flag (STW_STAT 1) 28

/-- Is either half Held (R434)? -/
def State.anyHeld (s : State) : Bool := s.held 0 || s.held 1

/-- Is the alarm's Hold in force (R470)? EXTEST holds the device under it too (R465). -/
def State.alarmHold (s : State) : Bool := s.flag SEC_STAT 29 || s.sec.extest

/-- Rows of the release order done in half `h` (R442). -/
def State.rowsOf (s : State) (h : Nat) : Nat := look 0 s.rst.rows h

/-- The last step posted. -/
def State.step (s : State) : Nat := (s.reg GLB_STEP).toNat

/-- The step a record names: the running step while one runs (R361). -/
def State.stepNow (s : State) : Nat := if s.serve.running then s.step + 1 else s.step

/-! ### Sending -/

/-- Something leaves the device. -/
def State.send (s : State) (o : Out) : State := { s with out := s.out ++ [o] }

/-- An event for the Statements of the present posting point (R304). -/
def State.event (s : State) (p0 p1 : Bool) (code acct d1 d2 : Nat) : State :=
  { s with serve := { s.serve with events := s.serve.events ++
    [⟨p0, p1, BitVec.ofNat 8 code, BitVec.ofNat 16 acct, BitVec.ofNat 32 d1, BitVec.ofNat 64 d2⟩] } }

/-- An event to both ports. -/
def State.eventAll (s : State) (code d1 d2 : Nat) : State := s.event true true code 0 d1 d2

/-- An event to the Warrant holder's port. -/
def State.eventHolder (s : State) (code d1 d2 : Nat) : State :=
  s.event (s.senior == some 0) (s.senior == some 1) code 0 d1 d2

/-! ### Access to parts -/

/-- The directory entry of a tile the Charter leaves unused: every byte 0 (R130). -/
def DirEntry.unused : DirEntry :=
  ⟨0, 0, 0, 0, 0, 0, 0, 0, 0, 0, 0, 0, 0, 0, 0, 0⟩

def State.tile (s : State) (t : Nat) : Tile := look Tile.idle s.tiles t
def State.setTile (s : State) (t : Nat) (v : Tile) : State := { s with tiles := put Tile.idle s.tiles t v }
def State.dirOf (s : State) (t : Nat) : DirEntry := look DirEntry.unused s.dir t
def State.setDir (s : State) (t : Nat) (v : DirEntry) : State := { s with dir := put DirEntry.unused s.dir t v }
def State.tallyOf (s : State) (t : Nat) : Tally := look Tally.unused s.tallies t
def State.setTally (s : State) (t : Nat) (v : Tally) : State := { s with tallies := put Tally.unused s.tallies t v }
def State.seq (s : State) (k : Nat) : Seq := look Seq.fresh s.seqs k
def State.setSeq (s : State) (k : Nat) (v : Seq) : State := { s with seqs := put Seq.fresh s.seqs k v }
def State.port (s : State) (p : Nat) : PortState := look PortState.clear s.ports p
def State.setPort (s : State) (p : Nat) (v : PortState) : State := { s with ports := put PortState.clear s.ports p v }
def State.acct (s : State) (a : Nat) : Acct := look Acct.idle s.serve.accts a
def State.setAcct (s : State) (a : Nat) (v : Acct) : State :=
  { s with serve := { s.serve with accts := put Acct.idle s.serve.accts a v } }
def State.folioOf (s : State) (e : Nat) : Folio := look Folio.free s.folio e
def State.setFolio (s : State) (e : Nat) (v : Folio) : State := { s with folio := put Folio.free s.folio e v }
def State.endoOf (s : State) (e : Nat) : EndoEntry := look EndoEntry.empty s.endo e
def State.setEndo (s : State) (e : Nat) (v : EndoEntry) : State := { s with endo := put EndoEntry.empty s.endo e v }
def State.linkOf (s : State) (l : Nat) : LinkState := look LinkState.down s.clr.links l
def State.setLink (s : State) (l : Nat) (v : LinkState) : State :=
  { s with clr := { s.clr with links := put LinkState.down s.clr.links l v } }
def State.groupOf (s : State) (d u : Nat) : Group := look Group.idle s.groups (d * 512 + u)
def State.setGroup (s : State) (d u : Nat) (v : Group) : State :=
  { s with groups := put Group.idle s.groups (d * 512 + u) v }
def State.audit (s : State) (i : Nat) : Audit := look Audit.idle s.aud i
def State.setAudit (s : State) (i : Nat) (v : Audit) : State := { s with aud := put Audit.idle s.aud i v }
/-- The key of a channel: its die times 64 plus its number (R257). -/
def State.chan (s : State) (d k : Nat) : Channel := look Channel.idle s.dma (d * 64 + k)
def State.setChan (s : State) (d k : Nat) (v : Channel) : State :=
  { s with dma := put Channel.idle s.dma (d * 64 + k) v }

/-- The key of a unit that takes orders: kind, die, number. -/
def unitKey (e : EngUnit) : Nat :=
  (match e.kind with | .assay => 0 | .attn => 1 | .vec => 2 | .dma => 3) * 4096 + e.die.val * 1024 + e.inst

def State.eng (s : State) (e : EngUnit) : EngState := look EngState.idle s.queues (unitKey e)
def State.setEng (s : State) (e : EngUnit) (v : EngState) : State :=
  { s with queues := put EngState.idle s.queues (unitKey e) v }

/-- One of the unit's two queues (R212). -/
def EngState.queue (e : EngState) (decode : Bool) : Queue := if decode then e.dec else e.pre
/-- Replace one of the unit's two queues. -/
def EngState.setQueue (e : EngState) (decode : Bool) (q : Queue) : EngState :=
  if decode then { e with dec := q } else { e with pre := q }

/-- How many of a kind an Array die has (R31). -/
def unitsOf : UnitKind → Nat
  | .assay => 512 | .attn => 48 | .vec => 24 | .dma => 64

/-- Does the unit exist? -/
def EngUnit.ok (e : EngUnit) : Bool := decide (e.inst < unitsOf e.kind)

/-! ### Tiles (R17, R95) -/

/-- The Array die under a tile. -/
def tileDie (t : Nat) : Nat := t / 2048 / 4
/-- The Mint die of a tile. -/
def tileMint (t : Nat) : Nat := t / 2048
/-- The local index u of a tile's group and Assay unit (R17). -/
def tileUnit (t : Nat) : Nat := t / 2048 % 4 * 128 + t / 16 % 128
/-- The tile's number in its group. -/
def tileSub (t : Nat) : Nat := t % 16
/-- The tile at number `k` of group `u` of Array die `d`. -/
def tileAt (d u k : Nat) : Nat := (d * 4 + u / 128) * 2048 + u % 128 * 16 + k
/-- The place of a tile in its die's directory slice (R31). -/
def sliceIndex (t : Nat) : Nat := tileUnit t * 16 + tileSub t

end Sys2Proof.Machine
end

