-- ==== Sys2Proof/Machine/Charter.lean ====
section
/-! DEFINITION. Reading a Charter where it lies in its slot of the Charter store (15 R445): the section table, and the
fields of the header-like sections. `base` is the staged or the posted slot; the same code reads both, for the check of a
staged image and for the device that runs under the posted one. -/

namespace Sys2Proof.Machine

/-! ### Sections (R445) -/

/-- Section types of R445. -/
def secDirectory : Nat := 0x01
def secLayers : Nat := 0x02
def secPrograms : Nat := 0x03
def secFormats : Nat := 0x04
def secMirror : Nat := 0x05
def secTallies : Nat := 0x06
def secFolio : Nat := 0x07
def secEngines : Nat := 0x08
def secCeiling : Nat := 0x09
def secCal : Nat := 0x0A
def secAudit : Nat := 0x0B
def secClasses : Nat := 0x0C
def secRoutes : Nat := 0x0D
def secSign : Nat := 0x0E

/-- The number `n` bytes at byte `o` of an image hold. -/
def State.img (s : State) (base o n : Nat) : Nat := s.readNat (base + o) n

/-- The entry number of a section type in the section table. -/
def State.secEntry (s : State) (base ty : Nat) : Option Nat :=
  (List.range 14).find? (fun i => s.img base (64 + 16 * i) 2 == ty)

/-- Where a section starts, as an offset in the image; 0 where the table does not name it. -/
def State.secOff (s : State) (base ty : Nat) : Nat :=
  match s.secEntry base ty with
  | some i => s.img base (64 + 16 * i + 4) 4
  | none => 0

/-- A section's length in bytes. -/
def State.secLen (s : State) (base ty : Nat) : Nat :=
  match s.secEntry base ty with
  | some i => s.img base (64 + 16 * i + 8) 4
  | none => 0

/-- Bytes [hi:lo] of a section. -/
def State.sect (s : State) (base ty hi lo : Nat) : Nat := s.img base (s.secOff base ty + lo) (hi + 1 - lo)

/-- Bytes [hi:lo] of a section of the posted Charter. -/
def State.chr (s : State) (ty hi lo : Nat) : Nat := s.sect postedSlot ty hi lo

/-! ### The containment header (12 R379) -/

/-- Full redundancy is on (R369). -/
def State.mirrorOn (s : State) : Bool := s.serve.posted && s.chr secMirror 0 0 == 1
/-- The Daybook window in lifetime steps; 1,000,000 before a Charter posts (R373). -/
def State.dayWindow (s : State) : Nat := if s.serve.posted then s.chr secMirror 15 12 else 1000000
/-- Events in a window that make a unit permanent; 3 before a Charter posts (R373). -/
def State.dayEvents (s : State) : Nat := if s.serve.posted then s.chr secMirror 16 16 else 3

/-! ### The routes header (13 R403) -/

/-- This device's node, once a Charter has set it. -/
def State.node (s : State) : Nat := if s.serve.posted then s.chr secRoutes 1 0 % 4096 else 0
/-- 0 stand-alone, 1 Branch, 2 Treasury. -/
def State.role (s : State) : Nat := if s.serve.posted then s.chr secRoutes 2 2 else 0
/-- The Treasury's node. -/
def State.treasury (s : State) : Nat := s.chr secRoutes 5 4 % 4096

end Sys2Proof.Machine
end

