-- ==== Sys2Proof/Machine/Records.lean ====
section
/-! DEFINITION. Fault records, the fault log and the Daybook (12_faults_and_containment.md R361 to R374). Every unit
that detects an error calls `State.fault`. -/

namespace Sys2Proof.Machine

/-! ### Error classes (R363) and blocks (R362) -/

def clsLedger : Nat := 0x01
def clsRetired : Nat := 0x02
def clsResidue : Nat := 0x03
def clsSpot : Nat := 0x04
def clsCells : Nat := 0x05
def clsMirror : Nat := 0x06
def clsRange : Nat := 0x07
def clsProgram : Nat := 0x08
def clsCal : Nat := 0x09
def clsReplay : Nat := 0x0A
def clsOrder : Nat := 0x0B
def clsTally : Nat := 0x0C
def clsDma : Nat := 0x0D
def clsTicket : Nat := 0x0E
def clsClock : Nat := 0x0F
def clsLink : Nat := 0x10
def clsProbe : Nat := 0x11
def clsFormat : Nat := 0x12
def clsSecurity : Nat := 0x13
def clsThermal : Nat := 0x14

def blkTile : Nat := 0x01
def blkProg : Nat := 0x02
def blkAssay : Nat := 0x03
def blkAttn : Nat := 0x04
def blkVec : Nat := 0x05
def blkDma : Nat := 0x06
def blkTally : Nat := 0x07
def blkTill : Nat := 0x08
def blkVault : Nat := 0x09
def blkDieLink : Nat := 0x0A
def blkLink : Nat := 0x0B
def blkPcie : Nat := 0x0C
def blkClerk : Nat := 0x0D
def blkAudit : Nat := 0x0E
def blkFolio : Nat := 0x0F
def blkTeller : Nat := 0x10
def blkPll : Nat := 0x11

/-- The block code of a kind of unit (R362). -/
def blkOf : UnitKind → Nat
  | .assay => blkAssay | .attn => blkAttn | .vec => blkVec | .dma => blkDma

/-- The die code of a Mint die. -/
def dieMint (m : Nat) : Nat := 0x10 + m

/-- A record with "none" in every field that need not apply (R361). -/
def faultOf (cls die block inst sub detail : Nat) : FaultRecord :=
  { cls := BitVec.ofNat 8 cls, flags := 0, die := BitVec.ofNat 8 die, block := BitVec.ofNat 8 block,
    inst := BitVec.ofNat 16 inst, op := 0xFF, reason := 0, step := 0, time := 0, temp := 0, tsensor := 0, mv := 0,
    rail := 0, account := 0, handle := 0, node := 0, sub := BitVec.ofNat 16 sub, detail := BitVec.ofNat 48 detail,
    addr := 0, serial := 0 }

/-- A record of a tile. -/
def faultTile (cls t sub detail : Nat) : FaultRecord := faultOf cls (dieMint (tileMint t)) blkTile t sub detail

/-- A record of a unit that takes orders. -/
def faultUnit (cls : Nat) (e : EngUnit) (sub detail : Nat) : FaultRecord :=
  faultOf cls e.die.val (blkOf e.kind) e.inst sub detail

/-- Name the account and the sequence (R361). -/
def FaultRecord.about (r : FaultRecord) (account handle : Nat) : FaultRecord :=
  { r with account := BitVec.ofNat 16 (0x8000 + account % 4096), handle := BitVec.ofNat 32 handle }

/-- Put the order's class and opcode, and a reason. -/
def FaultRecord.because (r : FaultRecord) (op reason : Nat) : FaultRecord :=
  { r with op := BitVec.ofNat 8 op, reason := BitVec.ofNat 8 reason }

/-- Put an address. -/
def FaultRecord.at_ (r : FaultRecord) (addr : Nat) : FaultRecord := { r with addr := BitVec.ofNat 64 addr }

/-- Mark weight scope (R365). -/
def FaultRecord.weightScope (r : FaultRecord) : FaultRecord := { r with flags := r.flags ||| 1 }

/-- Mark a probe's find. -/
def FaultRecord.byProbe (r : FaultRecord) : FaultRecord := { r with flags := r.flags ||| 2 }

/-! ### The nearest sensor (R333, R361) -/

/-- The accumulator that holds a channel of a converter: the last enabled entry that latches it (R336). -/
def State.accOf (s : State) (i ch : Nat) : Option Nat :=
  ((List.range 32).reverse.findSome? (fun n =>
    let w := s.reg (AUD_ENT i n)
    let first := bits w 5 0
    if bitOf w 63 && bitOf w 61 && decide (first ≤ ch) && decide (ch ≤ first + bits w 59 54) then
      some (bits w 44 40 + (ch - first))
    else none))

/-- The latest accumulator value of a channel as a temperature in 0.125 °C steps (R343, R361). -/
def State.tempOf (s : State) (i ch : Nat) : Int :=
  match s.accOf i ch with
  | none => 0
  | some n =>
    let w := s.reg (AUD_ACC i n)
    if hi : i < 6 then Config.sensorTemp ⟨i, hi⟩ ch (bits w 19 0) (bits w 40 32) else 0

/-- The latest accumulator value of a rail sense point, in mV. -/
def State.milliOf (s : State) (i ch : Nat) : Nat :=
  match s.accOf i ch with
  | none => 0
  | some n =>
    let w := s.reg (AUD_ACC i n)
    if hi : i < 6 then Config.railMv ⟨i, hi⟩ ch (bits w 19 0) (bits w 40 32) else 0

/-- The converter and the sensor channel nearest to a site: the sensor R333 names for a Mint group, and otherwise the
one of the die's own sensors that lies nearest, which the spec does not place (DESIGN CHOICE, log entry 13). -/
def nearSensor (die block inst : Nat) : Nat × Nat :=
  if 0x10 ≤ die ∧ die < 0x20 then
    let m := die - 0x10
    let g := if block = blkTile then inst / 16 % 128 else inst % 128
    (m / 4, 4 * (m % 4) + g / 32)
  else if die < 4 then (die, 16 + Config.nearSensor die block inst % 4)
  else if 0x20 ≤ die ∧ die < 0x24 then (die - 0x20, 16 + Config.nearSensor die block inst % 4)
  else (4 + (halfOfDie die).getD 0, Config.nearSensor die block inst % 4)

/-- The converter and the rail sense channel nearest to a site (R333; DESIGN CHOICE, log entry 13). -/
def nearRail (die block inst : Nat) : Nat × Nat :=
  if 0x10 ≤ die ∧ die < 0x20 then ((die - 0x10) / 4, 33)
  else if die < 4 then (die, 32)
  else if 0x20 ≤ die ∧ die < 0x24 then (die - 0x20, 34)
  else (4 + (halfOfDie die).getD 0, 8 + Config.nearSensor die block inst % 8)

/-! ### The log (R361, R364) -/

/-- The slot a record takes: the log's head. Full when one slot is left (R364). -/
def State.logFull (s : State) : Bool :=
  (s.fld DBK_FLOG_HEAD 15 0 + 65536 - s.fld DBK_FLOG_TAIL 15 0) % 65536 == 65535

/-- An empty slot of the fault log. -/
def FaultRecord.blank : FaultRecord :=
  { cls := 0, flags := 0, die := 0, block := 0, inst := 0, op := 0, reason := 0, step := 0, time := 0, temp := 0,
    tsensor := 0, mv := 0, rail := 0, account := 0, handle := 0, node := 0, sub := 0, detail := 0, addr := 0,
    serial := 0 }

/-- The 64 bytes of a record (R361). -/
def FaultRecord.encode (r : FaultRecord) : List Byte :=
  natLe 1 r.cls.toNat ++ natLe 1 r.flags.toNat ++ natLe 1 r.die.toNat ++ natLe 1 r.block.toNat ++ natLe 2 r.inst.toNat
    ++ natLe 1 r.op.toNat ++ natLe 1 r.reason.toNat ++ natLe 8 r.step.toNat ++ natLe 8 r.time.toNat
    ++ natLe 2 r.temp.toNat ++ natLe 2 r.tsensor.toNat ++ natLe 2 r.mv.toNat ++ natLe 2 r.rail.toNat
    ++ natLe 2 r.account.toNat ++ natLe 4 r.handle.toNat ++ natLe 2 r.node.toNat ++ natLe 2 r.sub.toNat
    ++ natLe 6 r.detail.toNat ++ natLe 8 r.addr.toNat ++ natLe 8 r.serial.toNat

/-- The fault log's slot `n` in stack V0, at the containment header's `flog` (R364, R379); it has a place there once a
Charter has posted. -/
def State.flogPut (s : State) (n : Nat) (r : FaultRecord) : State :=
  if s.serve.posted then s.write (keyOf 0 (s.chr secMirror 11 8 * 4096 + 64 * n)) (FaultRecord.encode r) else s

/-- Write a finished record into the log, or count it lost where the log is full (R364). -/
def State.logPut (s : State) (r : FaultRecord) : State :=
  if s.logFull then
    (({ s with log := { s.log with lostNow := s.log.lostNow + 1 } } : State)).bump DBK_CNT_LOST 1
  else
    let h := s.fld DBK_FLOG_HEAD 15 0
    let s := { s with log := { s.log with slots := put FaultRecord.blank s.log.slots h r, gained := s.log.gained + 1 } }
    ((s.flogPut h r).setFld DBK_FLOG_HEAD 15 0 ((h + 1) % 65536)).bump DBK_CNT_RECORDS 1

/-- Fill in what every record takes from the device: serial, step, time of the recording unit's half (R44), temperature
and rail (R361). -/
def State.fillRecord (s : State) (r : FaultRecord) : FaultRecord :=
  let ns := nearSensor r.die.toNat r.block.toNat r.inst.toNat
  let nr := nearRail r.die.toNat r.block.toNat r.inst.toNat
  { r with step := BitVec.ofNat 64 s.stepNow, time := s.counter ((halfOfDie r.die.toNat).getD (s.senior.getD 0)),
           temp := BitVec.ofInt 16 (s.tempOf ns.1 ns.2), tsensor := BitVec.ofNat 16 (ns.1 + 8 * ns.2),
           mv := BitVec.ofNat 16 (s.milliOf nr.1 nr.2), rail := BitVec.ofNat 16 (nr.1 + 8 * nr.2),
           node := BitVec.ofNat 16 s.node, serial := s.log.serial }

/-- On a Branch every record also goes to the Treasury (R364); while the Treasury is lost it is kept, up to 4,096
(R400). -/
def State.forwardRecord (s : State) (r : FaultRecord) : State :=
  if s.role ≠ 1 then s
  else if s.flag (CLR_ROLL 0) 31 then
    (if s.clr.kept.length < 4096 then { s with clr := { s.clr with kept := s.clr.kept ++ [r] } }
     else (s.bump (CLR_CNT_FWDLOST 0) 1).bump (CLR_CNT_FWDLOST 1) 1)
  else s.send (.faultRecord s.treasury r)

/-- Number the next record: every record takes a serial whether or not the log has room (R361). -/
def State.number (s : State) : State := { s with log := { s.log with serial := s.log.serial + 1 } }

/-- Write a record that has taken its number. -/
def State.writeRecord (s : State) (r : FaultRecord) : State :=
  let r := s.fillRecord r
  (s.logPut r).forwardRecord r

/-! ### The Daybook (R371 to R374) -/

/-- A Free record. -/
def DayRec.free : DayRec := ⟨0, 0, 0, 0, 0, 0, 0, 0, 0, 0, 0⟩

/-- The sub-site of a site: none for classes without a fixed location (R371). -/
def siteSub (cls sub : Nat) : Nat :=
  if cls = clsRetired ∨ (clsOrder ≤ cls ∧ cls ≤ clsTicket) ∨ cls = clsFormat then 0xFFFF else sub

/-- The unit a site belongs to, as (die, block, instance), or none where the event does not count (R371). -/
def siteUnit (r : FaultRecord) : Option (Nat × Nat × Nat) :=
  let c := r.cls.toNat
  let u := (r.die.toNat, r.block.toNat, r.inst.toNat)
  if clsSpot ≤ c ∧ c ≤ clsProgram then (if r.block.toNat = blkTile then some u else none)
  else if c = clsResidue ∨ c = clsReplay then some u
  else if c = clsProbe then some u
  else if c = clsLedger then
    (if r.block.toNat = blkTill ∨ r.block.toNat = blkVault then some u else none)
  else if c = clsLink then some u
  else if c = clsDma then (if r.block.toNat = blkDma then some u else none)
  else if c = clsCal then (if r.block.toNat = blkTile then some u else none)
  else none

/-- Is the record the one of a site? -/
def DayRec.isAt (d : DayRec) (r : FaultRecord) : Bool :=
  d.state != 0 && d.die == r.die && d.block == r.block && d.inst == r.inst &&
    d.sub.toNat == siteSub r.cls.toNat r.sub.toNat

/-- The records of half `h`, with their slots. -/
def State.dayRecs (s : State) (h : Nat) : List (Nat × DayRec) :=
  (s.mram.daybook.filter (fun e => e.1 / 32768 == h)).map (fun e => (e.1 % 32768, e.2))

/-- The lowest slot that a rising list of slots leaves free. -/
def lowestFree : List Nat → Nat → Nat
  | [], n => n
  | k :: ks, n => if k = n then lowestFree ks (n + 1) else n

/-- The slot a new site takes: a Free one, or the Watch record that is oldest and past the window (R373). -/
def State.daySlot (s : State) (h : Nat) : Option Nat :=
  let recs := s.dayRecs h
  let f := lowestFree (recs.map Prod.fst) 0
  if f < 32768 then some f
  else
    let old := recs.filter (fun e => e.2.state == 1 && decide (e.2.last.toNat + s.dayWindow < s.mram.life.toNat))
    (old.foldl (fun (b : Option (Nat × DayRec)) e =>
      match b with
      | none => some e
      | some x => if e.2.last.toNat < x.2.last.toNat then some e else some x) none).map Prod.fst

/-- Does an event at a Watch record now make the unit permanent (R373)? -/
def State.dayTrips (s : State) (d : DayRec) : Bool :=
  let n := s.dayEvents
  let life := s.mram.life.toNat
  decide (n - 1 ≤ d.total.toNat) &&
    (if n ≤ 2 then decide (life - d.last.toNat ≤ s.dayWindow) else decide (life - d.prev.toNat ≤ s.dayWindow))

/-- Write a Daybook record. -/
def State.setDay (s : State) (h slot : Nat) (d : DayRec) : State :=
  { s with mram := { s.mram with daybook := put DayRec.free s.mram.daybook (h * 32768 + slot) d } }

/-- A unit becomes permanent (R374): UNIT_PERMANENT, and its treatment from the next posting point on. The event's own
record carries `permanent` (DEDUCED, log entry 14). -/
def State.makePermanent (s : State) (cls : Nat) (u : Nat × Nat × Nat) : State :=
  let s := s.bump DBK_CNT_PERM 1
  let s := s.eventAll 0x32 (u.1 + 256 * u.2.1 + 65536 * u.2.2) cls
  if s.log.newPerm.contains u || s.log.fenced.contains u then s
  else { s with log := { s.log with newPerm := s.log.newPerm ++ [u] } }

/-- Every event at a site schedules a targeted probe of its unit (R377). -/
def State.schedule (s : State) (u : Nat × Nat × Nat) : State :=
  if s.probes.targets.contains u then s
  else { s with probes := { s.probes with targets := s.probes.targets ++ [u] } }

/-- The half whose Daybook takes an event: that of its die, and the senior half's where it names no die (R372). -/
def State.dayHalf (s : State) (r : FaultRecord) : Nat := (halfOfDie r.die.toNat).getD (s.senior.getD 0)

/-- A site's record after one more event (R372, R373). -/
def DayRec.more (d : DayRec) (r : FaultRecord) (life serial : Word64) (trip reproduced counts : Bool) : DayRec :=
  { d with
    state := if trip then 2 else d.state, cls := r.cls, prev := d.last, last := life,
    total := BitVec.ofNat 16 (Nat.min (d.total.toNat + 1) 0xFFFF),
    flags := (if reproduced then d.flags ||| 1 else d.flags) ||| (if counts then 2 else 0),
    serial := BitVec.ofNat 32 serial.toNat }

/-- A site's first record. -/
def DayRec.first (r : FaultRecord) (life serial : Word64) (counts : Bool) : DayRec :=
  { state := 1, cls := r.cls, die := r.die, block := r.block, inst := r.inst,
    sub := BitVec.ofNat 16 (siteSub r.cls.toNat r.sub.toNat), prev := 0, last := life, total := 1,
    flags := if counts then 2 else 0, serial := BitVec.ofNat 32 serial.toNat }

/-- Take an event into the Daybook (R371 to R374), and whether it made its unit permanent. `reproduced`: a probe has
failed (R377). -/
def State.dayEvent (s : State) (r : FaultRecord) (reproduced : Bool) : State × Bool :=
  let h := s.dayHalf r
  let life := s.mram.life
  let unit := siteUnit r
  let s := match unit with | some u => s.schedule u | none => s
  match (s.dayRecs h).find? (fun e => e.2.isAt r) with
  | some (slot, d) =>
    let again := reproduced && nbit d.flags.toNat 1
    let trip := d.state == 1 && unit.isSome && (s.dayTrips d || again)
    let s := s.setDay h slot (d.more r life s.log.serial trip again unit.isSome)
    match trip, unit with
    | true, some u => (s.makePermanent r.cls.toNat u, true)
    | _, _ => (s, false)
  | none =>
    match s.daySlot h with
    | some slot => (s.setDay h slot (DayRec.first r life s.log.serial unit.isSome), false)
    | none =>
      let s := s.bump DBK_CNT_LOST 1
      let s := s.setFlag DBK_STAT (if h = 1 then 30 else 29) true
      (if h = 1 then { s with log := { s.log with missedS := s.log.missedS + 1 } }
       else { s with log := { s.log with missedN := s.log.missedN + 1 } }, false)

/-- A unit detects an error: its number, the event in the Daybook, and the record (R361, R364, R371). -/
def State.faultWith (s : State) (r : FaultRecord) (reproduced : Bool) : State :=
  let s := s.number
  let s := if nbit r.flags.toNat 0 then
      let key := if r.block.toNat = blkTile then r.inst.toNat else 32768 + r.addr.toNat % 262144
      { s with log := { s.log with weight := s.log.weight ++ [key] } }
    else s
  let (s, perm) := s.dayEvent r reproduced
  s.writeRecord (if perm then { r with flags := r.flags ||| 4 } else r)

/-- A unit detects an error. -/
def State.fault (s : State) (r : FaultRecord) : State := s.faultWith r false

/-- The 32 bytes of a Daybook record (R372). -/
def DayRec.encode (d : DayRec) : List Byte :=
  natLe 1 d.state.toNat ++ natLe 1 d.cls.toNat ++ natLe 1 d.die.toNat ++ natLe 1 d.block.toNat ++ natLe 2 d.inst.toNat
    ++ natLe 2 d.sub.toNat ++ natLe 8 d.prev.toNat ++ natLe 8 d.last.toNat ++ natLe 2 d.total.toNat
    ++ natLe 1 d.flags.toNat ++ natLe 1 0 ++ natLe 4 d.serial.toNat

end Sys2Proof.Machine
end

