-- ==== Sys2Proof/Machine/Clock.lean ====
section
/-! DEFINITION. The device counter's two copies (02 R41 to R46), and the tick: what happens in one 10 ns tick of the
counter whatever is commanded (DESIGN CHOICE, log entry 1). -/

namespace Sys2Proof.Machine

/-- How far a copy moves in one tick. The junior copy takes 2 where it lags and 0 where it leads, at most once in 4,096
ticks, until no difference is left (R42, R43). -/
def slewStep (t : Time) : Nat := if t.slewDiff = 0 ∨ 0 < t.slewWait then 1 else if t.slewDiff < 0 then 2 else 0

/-- Both copies after one tick, `senior` naming the half that leads. -/
def Time.advance (t : Time) (senior : Nat) (contact : Bool) : Time :=
  let j := if contact then slewStep t else 1
  let moved := j ≠ 1
  let t := { t with
    slewDiff := if moved then (if t.slewDiff < 0 then t.slewDiff + 1 else t.slewDiff - 1) else t.slewDiff,
    slewWait := if moved then 4095 else t.slewWait - 1,
    auditPhase := (t.auditPhase + 2) % 5 }
  if senior = 1 then { t with south := t.south + 1, north := t.north + BitVec.ofNat 64 j }
  else { t with north := t.north + 1, south := t.south + BitVec.ofNat 64 j }

/-- The calendar phase of a stack after one tick: 12.25 Vault controller cycles in a period of 4,096, kept in quarters
(R23). -/
def nextPhase (p : Nat) : Nat := (p + 49) % 16384

/-- The slot of a stack's calendar (R23, R25). -/
def State.slotOf (s : State) (v : Nat) : Nat := look 0 s.time.vaultPhase v / 16

/-- Do the clocks of half `h`'s Array cores run? They run once row 5 is released (R442), stop where the core PLL has lost
lock (R33), at a thermal trip (R485) and in Sleep (R482). -/
def State.coreRuns (s : State) (h : Nat) : Bool :=
  decide (5 ≤ s.rowsOf h) && s.flag GLB_CLKSTAT (8 * h) && !s.power.thermTrip && !s.power.asleep

/-- Does the strike clock of Array die `d` run (R33, R442, R482, R485)? -/
def State.strikeRuns (s : State) (d : Nat) : Bool :=
  decide (6 ≤ s.rowsOf (d / 2)) && s.flag GLB_CLKSTAT (8 * (d / 2) + 1 + d % 2) && !s.power.thermTrip && !s.power.asleep

/-- The stacks' phases after one tick. -/
def State.tickVault (s : State) : State :=
  let runs (v : Nat) : Bool := decide (4 ≤ s.rowsOf (v / 2)) && !s.power.thermTrip && !s.power.asleep
  { s with time := { s.time with vaultPhase :=
    ((List.range 4).filter runs).foldl (fun m v => upd 0 m v nextPhase) s.time.vaultPhase } }

/-- A running timer's count after one tick of 16 core cycles; at 0 it waits for its event (R270). -/
def State.tickTimers (s : State) : State :=
  let moved := s.regs.filterMap (fun e =>
    match siteOf e.1 with
    | (.tmr d k, 8) =>
      if s.flag (TMR_CTRL d k) 0 && s.coreRuns (d / 2) then some (e.1, BitVec.ofNat 64 (e.2.toNat - 16)) else none
    | _ => none)
  moved.foldl (fun s e => s.setReg e.1 e.2) s

/-- Each converter's settle count after one tick: two Audit cycles in five ticks (R335). -/
def State.tickSettle (s : State) : State :=
  let n := if s.time.auditPhase + 2 < 5 then 0 else 1
  (List.range 6).foldl (fun s i =>
    let h := if i < 4 then i / 2 else i - 4
    if s.flag (AUD_CTRL i) 1 && decide (2 ≤ s.rowsOf h) then
      let left := s.fld (AUD_SETTLE i) 17 0
      let s := s.setFld (AUD_SETTLE i) 17 0 (left - n)
      s.setFlag (AUD_STAT i) 30 (left - n == 0)
    else s) s

/-- One tick: the copies run once a Steward is released, and with them the calendars, the timers and the settle counts
(DESIGN CHOICE, log entry 1). -/
def State.tick (s : State) : State :=
  let s := s.tickSettle.tickVault.tickTimers
  { s with time := s.time.advance (s.senior.getD 0) s.contact }

end Sys2Proof.Machine
end

