-- ==== Sys2Proof/Machine/Banks.lean ====
section
/-! DEFINITION. Bank states and the Mint directory's device-maintained fields (04 R120 to R130), and the sweep's start. -/

namespace Sys2Proof.Machine

def bankEmpty : Nat := 0
def bankProgramming : Nat := 1
def bankProgrammed : Nat := 2
def bankVerified : Nat := 3
def bankLive : Nat := 4
def bankDraining : Nat := 5
def bankFailed : Nat := 6
def bankSwept : Nat := 7

/-- A bank's state (R130). -/
def DirEntry.state (d : DirEntry) (b : Bank) : Nat := if b then d.stateB.toNat % 8 else d.stateA.toNat % 8
/-- A bank's epoch (R130). -/
def DirEntry.epoch (d : DirEntry) (b : Bank) : BitVec 16 := if b then d.epochB else d.epochA
/-- Change a bank's state. -/
def DirEntry.setState (d : DirEntry) (b : Bank) (st : Nat) : DirEntry :=
  if b then { d with stateB := BitVec.ofNat 8 st } else { d with stateA := BitVec.ofNat 8 st }
/-- Change a bank's epoch. -/
def DirEntry.setEpoch (d : DirEntry) (b : Bank) (e : BitVec 16) : DirEntry :=
  if b then { d with epochB := e } else { d with epochA := e }
/-- The active bank, flag bit 0 (R130). -/
def DirEntry.active (d : DirEntry) : Bank := d.flags.getLsbD 0
/-- Suspect, flag bit 1. -/
def DirEntry.suspect (d : DirEntry) : Bool := d.flags.getLsbD 1
/-- On the digital rung or in digital fall-back, flag bit 2. -/
def DirEntry.digital (d : DirEntry) : Bool := d.flags.getLsbD 2
/-- Set or clear a flag bit of an entry. -/
def DirEntry.mark (d : DirEntry) (k : Nat) (v : Bool) : DirEntry :=
  { d with flags := if v then d.flags ||| BitVec.ofNat 8 (2 ^ k) else d.flags &&& BitVec.ofNat 8 (255 - 2 ^ k) }
/-- The bank in a given state, A before B. -/
def DirEntry.bankIn (d : DirEntry) (st : Nat) : Option Bank :=
  if d.state false = st then some false else if d.state true = st then some true else none
/-- The Live bank. -/
def DirEntry.live (d : DirEntry) : Option Bank := d.bankIn bankLive

/-- Rewrite every listed directory entry. -/
def State.mapDir (s : State) (f : DirEntry → DirEntry) : State :=
  { s with dir := (s.dir.map (fun e => (e.1, f e.2))).filter (fun e => e.2 != DirEntry.unused) }

/-- What power loss and a reset do to banks (R127, R441): Programming becomes Failed, Draining becomes Empty. -/
def DirEntry.afterReset (d : DirEntry) : DirEntry :=
  let f (d : DirEntry) (b : Bank) : DirEntry :=
    if d.state b = bankProgramming then d.setState b bankFailed
    else if d.state b = bankDraining then d.setState b bankEmpty
    else d
  f (f d false) true

/-- `MGV_SWEEP.progress` of every Mint die; how it rises in between is timing (R134, DEDUCED, log entry 12). -/
def State.sweepProgress (s : State) (n : Nat) : State := (List.range 16).foldl (fun s m => s.setFld (MGV_SWEEP m) 15 0 n) s

/-- A sweep begins (R129): the flag in MRAM, and the controllers' commands discarded. Every entry's sweep-pending bit is a
view of the flag. -/
def State.sweepStart (s : State) : State :=
  (({ s with mram := { s.mram with sweepPending := true }, groups := [] } : State)).sweepProgress 0

/-- Every tile's entry, listed or not, rewritten. -/
def fillDir (f : DirEntry → DirEntry) : List Nat → SMap DirEntry → SMap DirEntry
  | [], _ => []
  | t :: ts, [] => (t, f DirEntry.unused) :: fillDir f ts []
  | t :: ts, (a, d) :: m =>
    if a = t then (t, f d) :: fillDir f ts m else (t, f DirEntry.unused) :: fillDir f ts ((a, d) :: m)

/-- A bank as a sweep leaves it: Swept, whatever it was (R128). -/
def DirEntry.swept (d : DirEntry) : DirEntry := (d.setState false bankSwept).setState true bankSwept

/-- Is the key a byte of a level plane (R133)? -/
def isLevel (a : Nat) : Bool := decide (keyOf 4 (2 ^ 32) ≤ a) && decide (a < keyOf 5 0)

/-- A sweep has finished in every group (R128): every cell at level 0, whose code is 0 (R94), every bank Swept, the flag
cleared. -/
def State.sweepEnd (s : State) : State :=
  let s := (s.wipe isLevel).sweepProgress 32768
  { s with dir := fillDir DirEntry.swept (List.range 32768) s.dir, mram := { s.mram with sweepPending := false },
           epochs := { s.epochs with live := none, draining := none } }

end Sys2Proof.Machine
end

