-- ==== Sys2Proof/Machine/Rings.lean ====
section
/-! DEFINITION. Statements on their way to the hosts: entries (09 R301), rings, the backlog and MSI-X (14 R421 to
R424). -/

namespace Sys2Proof.Machine

/-! ### Entries (R301) -/

def Entry.header (flags entries step : Nat) (tp : Word64) : Entry :=
  ⟨1, BitVec.ofNat 8 flags, BitVec.ofNat 16 entries, BitVec.ofNat 32 step, BitVec.ofNat 32 tp.toNat,
    BitVec.ofNat 32 (tp.toNat / 2 ^ 32)⟩

def Entry.token (flags assay reason : Nat) (handle : Nat) (value position : Nat) : Entry :=
  ⟨2, BitVec.ofNat 8 flags, BitVec.ofNat 16 (assay + 256 * reason), BitVec.ofNat 32 handle, BitVec.ofNat 32 value,
    BitVec.ofNat 32 position⟩

def Entry.answer (type status cookie handle detail : Nat) : Entry :=
  ⟨3, BitVec.ofNat 8 type, BitVec.ofNat 16 status, BitVec.ofNat 32 cookie, BitVec.ofNat 32 handle,
    BitVec.ofNat 32 detail⟩

def Entry.ofEvent (e : Event) : Entry :=
  ⟨4, e.code, e.acct, e.d1, BitVec.ofNat 32 e.d2.toNat, BitVec.ofNat 32 (e.d2.toNat / 2 ^ 32)⟩

def Entry.finish (status handle produced cookie : Nat) : Entry :=
  ⟨5, 0, BitVec.ofNat 16 status, BitVec.ofNat 32 handle, BitVec.ofNat 32 produced, BitVec.ofNat 32 cookie⟩

/-- The 16 bytes of an entry. -/
def Entry.encode (e : Entry) : List Byte :=
  natLe 1 e.kind.toNat ++ natLe 1 e.b1.toNat ++ natLe 2 e.h1.toNat ++ natLe 4 e.w1.toNat ++ natLe 4 e.w2.toNat
    ++ natLe 4 e.w3.toNat

/-! ### Lanes (R412) -/

/-- The function that owns a lane: a VF's only while the VF is enabled (R412). -/
def State.laneFn (s : State) (p l : Nat) : Nat :=
  if l < 32 then 0
  else
    let v := (l - 32) / 7 + 1
    if v ≤ s.fld (HPT_LINK p) 13 8 then v else 0

def State.laneOf (s : State) (p l : Nat) : Lane := look Lane.empty (s.port p).lanes l
def State.setLane (s : State) (p l : Nat) (v : Lane) : State :=
  let q := s.port p
  s.setPort p { q with lanes := put Lane.empty q.lanes l v }

/-- Entries of a ring: 64 × 2^size (R421). -/
def State.ringSize (s : State) (p l : Nat) : Nat := 64 * 2 ^ s.fld (TLR_RCFG p l) 30 27

/-- Room in a ring (R421). -/
def State.ringRoom (s : State) (p l : Nat) : Nat :=
  let n := s.ringSize p l
  n - 1 - (s.fld (TLR_RPTR p l) 15 0 + n - s.fld (TLR_RPTR p l) 31 16 % n) % n

/-- Entries in a port's backlog. -/
def State.backlogLen (s : State) (p : Nat) : Nat :=
  (s.port p).lanes.foldl (fun n e => n + e.2.backlog.foldl (fun m st => m + st.length) 0) 0

/-! ### MSI-X (R424) -/

/-- The key of a vector. -/
def msixKey (fn v : Nat) : Nat := fn * 2048 + v

/-- A message for a vector: a masked vector only marks itself pending. -/
def State.msix (s : State) (p fn v : Nat) : State :=
  let q := s.port p
  if look true q.masked (msixKey fn v) then s.setPort p { q with msiPend := put false q.msiPend (msixKey fn v) true }
  else s.send (.msix p fn v)

/-- A message that announces every lane sharing the vector (R424). -/
def State.announce (s : State) (p fn v : Nat) : State :=
  let q := s.port p
  let lanes := q.lanes.map (fun e =>
    if s.laneFn p e.1 = fn ∧ s.fld (TLR_RCFG p e.1) 26 16 = v then (e.1, { e.2 with unsaid := 0 }) else e)
  let s := s.setPort p { q with lanes := lanes.filter (fun e => e.2 != Lane.empty) }
  s.msix p fn v

/-! ### Writing (R422, R423) -/

/-- Write a Statement into its ring: the entries, then the head, then any interrupt (R422, R424). -/
def State.ringWrite (s : State) (p l : Nat) (st : List Entry) : State :=
  let n := s.ringSize p l
  let h := s.fld (TLR_RPTR p l) 15 0
  let fn := s.laneFn p l
  let base := s.reg (TLR_RBASE p l)
  let s := (st.zipIdx).foldl (fun s e =>
    s.send (.hostWrite p fn (base + BitVec.ofNat 64 (16 * ((h + e.2) % n))) e.1.encode)) s
  let h' := (h + st.length) % n
  let s := s.setFld (TLR_RPTR p l) 15 0 h'
  let s := s.send (.hostWrite p fn (s.reg (TLR_HADDR p l)) (natLe 8 h'))
  let lane := s.laneOf p l
  let unsaid := lane.unsaid + st.length
  let count := s.fld (TLR_RCFG p l) 15 8
  let s := s.setLane p l { lane with unsaid := unsaid }
  if count = 0 ∨ count ≤ unsaid ∨ s.fld (TLR_RCFG p l) 7 0 = 0 then
    s.announce p fn (s.fld (TLR_RCFG p l) 26 16)
  else s

/-- Entries of a lane are lost (R423). -/
def State.loseEntries (s : State) (p l n : Nat) : State :=
  if n = 0 then s else (s.setFlag (TLR_LSTAT p l) 30 true).bump (HPT_CNT_STMTLOST p) n

/-- May the lane's ring take writes now: its port's link is up and out of PERST# (R426)? -/
def State.portUp (s : State) (p : Nat) : Bool := s.flag (HPT_LINK p) 31 && !(s.port p).perst

/-- Hand a Statement to a lane: its ring where it fits, the backlog where it does not or the link is down, nothing where
the ring is disabled (R422, R423, R426). -/
def State.deliver (s : State) (p l : Nat) (st : List Entry) : State :=
  if !s.flag (TLR_RCFG p l) 31 then s.loseEntries p l st.length
  else
    let lane := s.laneOf p l
    if lane.backlog.isEmpty && s.portUp p && decide (st.length ≤ s.ringRoom p l) then s.ringWrite p l st
    else
      let room := 262144 - s.backlogLen p
      let kept := st.take room
      let s := if kept.isEmpty then s else s.setLane p l { lane with backlog := lane.backlog ++ [kept] }
      s.loseEntries p l (st.length - kept.length)

/-- Move what fits of a lane's backlog into its ring, oldest first (R423). -/
def drainList (p l : Nat) : List (List Entry) → State → State
  | [], s => s
  | st :: rest, s =>
    if s.portUp p && decide (st.length ≤ s.ringRoom p l) then
      drainList p l rest ((s.setLane p l { s.laneOf p l with backlog := rest }).ringWrite p l st)
    else s

/-- Move a lane's backlog as `tail` makes room. -/
def State.drain (s : State) (p l : Nat) : State :=
  if s.flag (TLR_RCFG p l) 31 then drainList p l (s.laneOf p l).backlog s else s

/-- A notice: a Header and one event, to lane 0 of a port (R435, R441). -/
def State.notice (s : State) (p step : Nat) (e : Event) : State :=
  s.deliver p 0 [Entry.header 0 1 step (s.counter p), Entry.ofEvent e]

end Sys2Proof.Machine
end

