-- ==== Sys2Proof/Machine/Power.lean ====
section
/-! DEFINITION. Power states, caps, thermal limits and pins (17_pins_power_and_test.md), and the security alarm's Hold as
far as the power state needs it. -/

namespace Sys2Proof.Machine

/-! ### The power state (R480) -/

/-- The thermal cap of Array die `a` (GLB_TCAP). -/
def State.thermalCap (s : State) (a : Nat) : Nat := s.fld GLB_TCAP (16 * a + 9) (16 * a)

/-- The host's cap. -/
def State.hostCap (s : State) : Nat := s.fld GLB_PWR 25 16

/-- Is a Hold of R480 in force: a request, a thermal Hold, a rail fault or an alarm's Hold? -/
def State.inHold (s : State) : Bool :=
  s.fld GLB_PWR 29 28 == 2 || s.flag GLB_THERM 30 || s.power.railHold || s.alarmHold

/-- The lower of the host's and the thermal cap of a die. -/
def State.dieCap (s : State) (a : Nat) : Nat := Nat.min s.hostCap (s.thermalCap a)

/-- The power state, its five inputs in the order of R480. -/
def State.powerState (s : State) : Nat :=
  if s.power.asleep then 3
  else if s.inHold then 2
  else if (List.range 4).any (fun a => decide (s.dieCap a < 512)) then 1
  else 0

/-- The power-state cap of Array die `a` (R480). -/
def State.powerCap (s : State) (a : Nat) : Nat :=
  match s.powerState with
  | 0 => 512
  | 1 => s.dieCap a
  | _ => 0

/-- The lowest thermal cap. -/
def State.tcapMin (s : State) : Nat := (List.range 4).foldl (fun m a => Nat.min m (s.thermalCap a)) 512

/-- The effective ceiling of a Mint die (R117): the lesser of the Charter's ceiling over 16 and the power-state cap. -/
def State.ceiling (s : State) (m : Nat) : Nat := Nat.min (s.fld (MGV_CEIL m) 9 0) (s.powerCap (m / 4))

/-- Bring the registers that follow the power state up to date, and send POWER_STATE where it has changed (R480, R491). -/
def State.settlePower (s : State) : State :=
  let st := s.powerState
  let s := (List.range 16).foldl (fun s m => s.setFld (MGV_CEIL m) 25 16 (s.ceiling m)) s
  let s := s.setFld GLB_PWR 31 30 st
  let s := s.setFld GLB_PWR 9 0 s.tcapMin
  if st = s.power.lastState then s
  else ({ s with power := { s.power with lastState := st } } : State).eventAll 0x74 st s.tcapMin

/-! ### Requests and caps (R480 to R482) -/

/-- Is a sequence live (R278)? -/
def State.anyLive (s : State) : Bool := s.seqs.any (fun e => e.2.st != 0)

/-- May the device enter Sleep at a posting point (R482)? -/
def State.maySleep (s : State) : Bool :=
  !s.anyLive && s.serve.loadTicket.isNone && s.epochs.load.isNone && s.serve.stageTicket.isNone &&
    s.serve.postTicket.isNone && decide (s.powerState ≤ 1)

/-- Write 0 to `req`: a requested Hold or Sleep ends (R480, R482). A device asleep wakes by SLEEP_EXIT. -/
def State.reqRun (s : State) (w : Src) : State :=
  if s.holder w then (s.setFld GLB_PWR 29 28 0).settlePower else s

/-- Write 2 to `req`. -/
def State.reqHold (s : State) (w : Src) : State :=
  if s.holder w then (s.setFld GLB_PWR 29 28 2).settlePower else s

/-- Write 3 to `req`: the request stands, and `sleep_refused` shows that a condition of R482 fails now. -/
def State.reqSleep (s : State) (w : Src) : State :=
  if s.holder w then
    let s := (s.setFld GLB_PWR 29 28 3).settlePower
    if s.maySleep then s else s.setFlag GLB_PWR 27 true
  else s

/-- Write `cap`, 0 to 512; a larger value is discarded (GLB_PWR). -/
def State.writeCap (s : State) (w : Src) (cap : Nat) : State :=
  if s.holder w && decide (cap ≤ 512) then (s.setFld GLB_PWR 25 16 cap).settlePower else s

/-- Write `throttle`, 85 to 104; other values are discarded (GLB_THERM). -/
def State.writeThrottle (s : State) (w : Src) (t : Nat) : State :=
  if s.holder w && decide (85 ≤ t) && decide (t ≤ 104) then s.setFld GLB_THERM 23 16 t else s

/-- Is the intake of a port waiting with a ticket? -/
def State.intakeHolds (s : State) : Bool := !(s.port 0).intake.isEmpty || !(s.port 1).intake.isEmpty

/-- The device leaves Sleep on a ticket in an intake or a `req` of 0 (R482). -/
def State.wake (s : State) : State :=
  if s.power.asleep && (s.intakeHolds || s.fld GLB_PWR 29 28 == 0) then
    ({ s with power := { s.power with asleep := false } } : State).settlePower
  else s

/-! ### Thermal limits (R484, R485) -/

/-- A sensor comparator reaches 115 °C (R485): THERMTRIP_N, the clocks, the MRAM record. -/
def State.trip (s : State) : State :=
  { s with power := { s.power with thermTrip := true }, mram := { s.mram with tripSeen := true } }

/-- Clear `trip_seen`, and the record with it. -/
def State.clearTrip (s : State) (w : Src) : State :=
  if s.holder w then
    ({ s with mram := { s.mram with tripSeen := false } } : State).setFlag GLB_THERM 31 false
  else s

/-- The sensors of Array die `a` and its Mint dies: channels 0 to 19 of its converter (R333). -/
def State.dieTemp (s : State) (a : Nat) : Int :=
  (List.range 20).foldl (fun m ch => match s.accOf a ch with | none => m | some _ => max m (s.tempOf a ch)) (-1000)

/-- The first channel of Array die `a` at its hottest sensor's temperature. -/
def State.hotChannel (s : State) (a : Nat) : Nat :=
  ((List.range 20).find? (fun ch => (s.accOf a ch).isSome && s.tempOf a ch == s.dieTemp a)).getD 0

/-- The hottest sensor of the device, the Stewards' included. -/
def State.hottest (s : State) : Int :=
  let m := (List.range 4).foldl (fun m a => max m (s.dieTemp a)) (-1000)
  (List.range 2).foldl (fun m h => (List.range 4).foldl (fun m ch =>
    match s.accOf (4 + h) ch with | none => m | some _ => max m (s.tempOf (4 + h) ch)) m) m

/-- Thermal management of Array die `a` on an Audit loop pass; all rows of R484 that apply act. -/
def State.thermalPass (s : State) (a : Nat) : State :=
  let t := s.dieTemp a
  let thr : Int := s.fld GLB_THERM 23 16
  let cap := s.thermalCap a
  let s := if thr * 8 ≤ t then
      let c := Nat.max (cap - 32) 64
      let s := s.setFld GLB_TCAP (16 * a + 9) (16 * a) c
      if cap = 512 ∧ c < 512 then s.eventAll 0x72 a (toTwos 64 s.hottest) else s
    else if t < (thr - 5) * 8 then s.setFld GLB_TCAP (16 * a + 9) (16 * a) (Nat.min (cap + 32) 512)
    else s
  let s := if 110 * 8 ≤ t ∧ s.flag GLB_THERM 30 = false then
      let s := s.setFlag GLB_THERM 30 true
      let s := s.fault (faultOf clsThermal a 0xFF 0 (s.hotChannel a) (toTwos 16 t))
      s.eventAll 0x73 a 1
    else s
  let s := if s.flag GLB_THERM 30 && (List.range 4).all (fun d => decide (s.dieTemp d < 100 * 8)) then
      (s.setFlag GLB_THERM 30 false).eventAll 0x73 a 0
    else s
  (s.setFld GLB_THERM 15 0 (toTwos 16 s.hottest)).settlePower

/-! ### Rails (R476, R478, R479) -/

/-- The rail sense channels of converter `i` (R333). -/
def railChannels (i : Nat) : List Nat := if i < 4 then range 32 36 else range 8 16

/-- Does a channel's rail lie outside its tolerance (R476)? The Vault, VIN and auxiliary rails have limits there; a
converter's reading is out when it leaves its rail's band. -/
def railOut (i ch mv : Nat) : Bool :=
  let out (nom tol : Nat) : Bool := decide (mv * 1000 < nom * (1000 - tol)) || decide (nom * (1000 + tol) < mv * 1000)
  if i < 4 then (if ch = 35 then out 1800 30 else if ch = 34 then out 1050 30 else false)
  else if ch = 8 then out 1800 30
  else if ch = 9 then out 3300 50
  else if ch = 10 then out 1200 50
  else if ch = 11 ∨ ch = 12 then out 1050 30
  else false

/-- The rails of converter `i` on a loop pass (R479): two passes outside in a row start the Hold, 16 inside end it. -/
def State.railPass (s : State) (i : Nat) : State :=
  let seen := (railChannels i).filter (fun ch => (s.accOf i ch).isSome)
  let bad := seen.filter (fun ch => railOut i ch (s.milliOf i ch))
  match bad with
  | [] =>
    let s := { s with power := { s.power with railBad := put 0 s.power.railBad i 0 } }
    if s.power.railHold then
      let g := s.power.railGood + 1
      if 16 ≤ g then ({ s with power := { s.power with railHold := false, railGood := 0 } } : State).settlePower
      else { s with power := { s.power with railGood := g } }
    else s
  | ch :: _ =>
    let n := look 0 s.power.railBad i + 1
    let s := { s with power := { s.power with railBad := put 0 s.power.railBad i n, railGood := 0 } }
    if n = 2 then
      let s := { s with power := { s.power with railHold := true } }
      let s := s.setFlag GLB_PINS 10 true
      let s := s.fault (faultOf clsThermal (if i < 4 then i else 0x3C + i) blkAudit i ch (s.milliOf i ch))
      (s.eventAll 0x71 (i * 64 + ch) (s.milliOf i ch)).settlePower
    else s

/-! ### Pins (R475, R488, R489) -/

/-- The land group of a bit of GLB_PINS, by its row of R473 counted from 0: oscillators, analogue, straps, control. -/
def pinGroup (bit : Nat) : Nat :=
  if bit ≤ 1 then 7 else if bit ≤ 6 then 8 else if bit = 7 then 13 else if bit ≤ 9 then 12 else 0

/-- A pin fault is found or has gone (R488): the bit, a fault record and PIN_FAULT, once for each change of state. -/
def State.pinFault (s : State) (bit : Nat) (found : Bool) : State :=
  let s := if found then s.setFlag GLB_PINS bit true else s
  let s := s.fault (faultOf clsThermal 0xFF 0xFF 0 (pinGroup bit) 0)
  s.eventAll 0x70 bit (if found then 1 else 0)

/-- The loop check of TAMPER_N by a Steward (R489). -/
def State.tamperPulse (s : State) (h : Nat) (fell : Bool) : State :=
  if 1 ≤ s.rowsOf h && !fell && !s.flag GLB_PINS 9 then s.pinFault 9 true else s

/-! ### Meanings -/

/-- THERMAL_TRIP (R485). -/
def execThermalTrip (s : State) : Host.Outcome State Fault Refusal := .next s.trip
/-- TRIP_SEEN_CLEAR (17, GLB_THERM). -/
def execTripSeenClear (w : Src) (s : State) : Host.Outcome State Fault Refusal := .next (s.clearTrip w)
/-- POWER_REQ_RUN (R480, R482). -/
def execPowerReqRun (w : Src) (s : State) : Host.Outcome State Fault Refusal := .next (s.reqRun w)
/-- POWER_REQ_HOLD (R480). -/
def execPowerReqHold (w : Src) (s : State) : Host.Outcome State Fault Refusal := .next (s.reqHold w)
/-- POWER_REQ_SLEEP (R482). -/
def execPowerReqSleep (w : Src) (s : State) : Host.Outcome State Fault Refusal := .next (s.reqSleep w)
/-- POWER_CAP_WRITE (R481). -/
def execPowerCapWrite (w : Src) (cap : BitVec 10) (s : State) : Host.Outcome State Fault Refusal :=
  .next (s.writeCap w cap.toNat)
/-- SLEEP_EXIT (R482). -/
def execSleepExit (s : State) : Host.Outcome State Fault Refusal := .next s.wake
/-- TAMPER_TEST_PULSE (R489). -/
def execTamperTestPulse (h : Half) (fell : Bool) (s : State) : Host.Outcome State Fault Refusal :=
  .next (s.tamperPulse h.val fell)
/-- PIN_FAULT_DETECT (R488). -/
def execPinFaultDetect (bit : Fin 11) (detected : Bool) (s : State) : Host.Outcome State Fault Refusal :=
  .next (s.pinFault bit.val detected)

end Sys2Proof.Machine
end

