-- ==== Sys2Proof/Machine/Resets.lean ====
section
/-! DEFINITION. The three reset levels and what each keeps (15 R439 to R441), and the security alarm's actions (16 R469
to R471), which end in a reset. -/

namespace Sys2Proof.Machine

/-! ### What a level keeps (R439) -/

/-- Does a register count events since the last system reset? -/
def isCounter (a : Nat) : Bool :=
  match siteOf a with
  | (.glb, o) => decide (0x120 ≤ o) && decide (o < 0x140)
  | (.mgc _ _, o) =>
    (decide (0x20 ≤ o) && decide (o < 0x88)) || (decide (0xA0 ≤ o) && decide (o < 0xC0)) || o == 0x388
  | (.asy _ _, o) => (decide (0x40 ≤ o) && decide (o < 0xB8)) || (decide (0x100 ≤ o) && decide (o < 0x130))
  | (.atn _ _, o) => (decide (0x40 ≤ o) && decide (o < 0x88)) || (decide (0x100 ≤ o) && decide (o < 0x130))
  | (.vec _ _, o) => (decide (0x40 ≤ o) && decide (o < 0x78)) || (decide (0x100 ≤ o) && decide (o < 0x130))
  | (.tal _, o) => decide (0x8010 ≤ o) && decide (o < 0x8028)
  | (.fol _, o) => decide (0x40100 ≤ o) && decide (o < 0x40138)
  | (.dma _ _, o) => (decide (0x40 ≤ o) && decide (o < 0x70)) || (decide (0x100 ≤ o) && decide (o < 0x130))
  | (.tmr _ _, o) => o == 0x10
  | _ => false

/-- Does a core reset put a register back: those of the Array dies, and the serving and weight registers of the Clerks,
but no counter (R439; DEDUCED, log entry 16)? -/
def coreClears (a : Nat) : Bool :=
  !isCounter a &&
    (match siteOf a with
     | (.glb, o) => decide (0x100 ≤ o) && decide (o < 0x200)
     | (.dbk, o) => decide (o < 8)
     | (.rst, o) => o == 8
     | _ => decide (0x01000000 ≤ a) && decide (a < 0x02000000))

/-- Does a system reset put a register back: all but `RST_CAUSE`, which holds (R456), and the unlock failures counted
since power-on (R466)? -/
def systemClears (a : Nat) : Bool := a != RST_CAUSE && a != SEC_DBG

/-- A sequence slot after a reset that is not a system reset: its generation and its withdrawal outlive it (R276, R277;
DEDUCED, log entry 16). -/
def Seq.afterCore (q : Seq) : Seq := { Seq.fresh with gen := q.gen, withdrawn := q.withdrawn }

/-- A port after a core reset: only its intake is cleared (R439). -/
def PortState.afterCore (p : PortState) : PortState := { p with intake := [], fullSent := false }

/-- A port after a system reset: cleared, with its PERST# pin as it is and its link down since the counter's 0 (R439). -/
def PortState.afterSystem (p : PortState) : PortState := { PortState.clear with perst := p.perst }

/-- Core reset (R439): the Clerks, the intakes, the Array dies, Till, Tallies, the Vault and the Mint's strike logic. -/
def State.coreReset (s : State) : State :=
  let s := s.wipe (fun a => !isLevel a)
  let s := s.clearRegs coreClears
  let s := s.mapDir DirEntry.afterReset
  { s with
    tiles := [], groups := [], gov := [], assay := [], lanes := [], sides := [], watch := [], replays := [], queues := [], signals := [], tallies := [],
    dma := [], dmaArb := [], serve := Serve.init, folio := [], staging := [], endo := [], cache := [],
    cal := Calib.idle,
    seqs := (s.seqs.map (fun e => (e.1, e.2.afterCore))).filter (fun e => e.2 != Seq.fresh),
    ports := (s.ports.map (fun e => (e.1, e.2.afterCore))).filter (fun e => e.2 != PortState.clear),
    epochs := { s.epochs with draining := none, drainFrom := 0, load := none, relay := none, refreshDue := false },
    clr := { s.clr with sent := [], heard := [], held := [], reads := [], dir := [], kept := [], cutOff := [] },
    log := { s.log with slots := [], gained := 0, lostNow := 0, missedN := 0, missedS := 0, fullSent := false,
                        weight := [], fenced := s.log.fenced ++ s.log.newPerm, newPerm := [] },
    probes := { s.probes with next := [], running := [] },
    power := { s.power with asleep := false },
    time := { s.time with vaultPhase := [] },
    rst := { s.rst with rows := (s.rst.rows.map (fun e => (e.1, Nat.min e.2 3))), stopped := [], armedAt := none, byClaim := false,
                        decommissioning := false, blockResets := [] } }

/-- Boot goes on from row 4 of the release order (R442): phase 3, not ready. -/
def State.bootFrom (s : State) (phase : Nat) : State :=
  (s.setReg RST_BOOT 0).setFld RST_BOOT 29 26 phase

/-- A core reset by command (R440). -/
def State.resetByCore (s : State) : State :=
  let s := s.coreReset
  let s := s.setFlag RST_CAUSE 3 true
  ({ s with rst := { s.rst with notice := some 2 } } : State).bootFrom 3

/-- System reset (R439): all of a core reset, and the ports, the Stewards, the security block, the Audit converters and
the counter. -/
def State.systemReset (s : State) : State :=
  let s := s.coreReset
  let s := s.clearRegs systemClears
  { s with
    time := Time.zero, aud := [], sec := { Sec.init with challenge := s.sec.challenge, extest := s.sec.extest },
    seqs := [], clr := Clearing.init,
    ports := (s.ports.map (fun e => (e.1, e.2.afterSystem))).filter (fun e => e.2 != PortState.clear),
    log := { Log.empty with fenced := s.log.fenced },
    power := { Power.init with thermTrip := s.power.thermTrip },
    rst := ResetCtl.init s.rst.pwrgd }

/-- A system reset with its cause bit (R440). -/
def State.resetBySystem (s : State) (cause : Nat) : State :=
  let s := s.systemReset
  let s := s.setFlag RST_CAUSE cause true
  let s := { s with rst := { s.rst with notice := some 1 } }
  if s.rst.pwrgd then s.bootFrom 1 else s

/-- Power-on reset (R439): what is left is MRAM, flash, fuses and cells; `por` stands in RST_CAUSE. -/
def State.powerReset (s : State) : State :=
  let m := s.mram
  { State.reset with
    pending := s.pending, mem := s.mem.filter (fun e => isLevel e.1), mram := m, dir := (s.mapDir DirEntry.afterReset).dir,
    epochs := { Epochs.none with live := s.epochs.live }, log := { Log.empty with fenced := s.log.fenced ++ s.log.newPerm },
    probes := { Probes.idle with targets := s.probes.targets },
    ports := (s.ports.map (fun e => (e.1, e.2.afterSystem))).filter (fun e => e.2 != PortState.clear),
    out := s.out, free := s.free }

/-- Power-on reset, after which the challenge is a new one: 32 random bytes (R465; DESIGN CHOICE, log entry 5). -/
def State.powerOn (s : State) : State :=
  let (c, s) := s.draw
  let s := s.powerReset
  { s with sec := { s.sec with challenge := BitVec.ofNat 256 c } }

/-! ### The alarm (R469 to R471) -/

/-- The level of source `k` (R469): the levels persist in MRAM. -/
def State.alarmLevel (s : State) (k : Nat) : Nat := nbits s.mram.levels.toNat (2 * k + 1) (2 * k)

/-- Notice (R470): a record with the source and the level, and SECURITY_ALARM. -/
def State.alarmNotice (s : State) (k : Nat) : State :=
  let l := s.alarmLevel k
  (s.fault (faultOf clsSecurity 0xFF 0xFF 0 k l)).eventAll 0x60 k l

/-- Zeroise what R467 clears by Erase, and set `erased` (R470). -/
def State.eraseKeys (s : State) : State :=
  { s with
    sec := { s.sec with linkKeys := [], linkFlits := [], linkInfo := [], oldKeys := [] },
    ports := (s.ports.map (fun e => (e.1, { e.2 with ide := [] }))).filter (fun e => e.2 != PortState.clear),
    mram := { s.mram with domainKey := none, erased := true } }

/-- Destroy (R470): erase, the flags, the fuse, and the sweep; its end follows MINT_SWEEP_DONE. -/
def State.destroyStart (s : State) : State :=
  let s := s.eraseKeys
  ({ s with mram := { s.mram with destroyPending := true, fuseBlown := true } } : State).sweepStart

/-- The sources of a mask, lowest first. -/
def sourcesOf (mask : Nat) : List Nat := (List.range 6).filter (nbit mask)

/-- Sources fire (R470, R471): each is latched and noticed, and the device acts at the highest of their levels. One that
fires during a Destroy is recorded and changes nothing. -/
def State.alarmFire (s : State) (mask : Nat) : State :=
  match sourcesOf mask with
  | [] => s
  | ks =>
    let s := s.setReg SEC_ALARM (s.reg SEC_ALARM ||| BitVec.ofNat 64 (mask % 64 * 65536 + mask % 64))
    let s := ks.foldl State.alarmNotice s
    let level := maxOr 0 (ks.map s.alarmLevel)
    if s.mram.destroyPending then s
    else if level = 3 then s.destroyStart
    else if level = 2 then s.eraseKeys.resetBySystem 5
    else if level = 1 then (s.setFlag SEC_STAT 29 true).settlePower
    else s

/-- A source is no longer active. -/
def State.alarmQuiet (s : State) (k : Nat) : State := s.setFlag SEC_ALARM (16 + k) false

/-- The Warrant holder's PF ends the Hold, unless a source at Hold or above is still active (R470). -/
def State.alarmRelease (s : State) (w : Src) : State :=
  let stillActive := (List.range 6).any (fun k => s.flag SEC_ALARM (16 + k) && decide (1 ≤ s.alarmLevel k))
  if s.holder w && !stillActive then (s.setFlag SEC_STAT 29 false).settlePower else s

/-- Would new levels lower any source's (R469)? -/
def lowersLevel (old new : Nat) : Bool :=
  (List.range 6).any (fun k => decide (nbits new (2 * k + 1) (2 * k) < nbits old (2 * k + 1) (2 * k)))

/-- Write SEC_LEVEL: a write that would lower a level is discarded (SEC_LEVEL). -/
def State.raiseLevels (s : State) (w : Src) (v : BitVec 12) : State :=
  if s.holder w && !lowersLevel s.mram.levels.toNat v.toNat then { s with mram := { s.mram with levels := v } } else s

/-- Three firmware verifications in a row have failed (R469). -/
def State.fwFailed (s : State) : State :=
  let n := s.mram.fwFails + 1
  let s := { s with mram := { s.mram with fwFails := n } }
  if n = 3 then s.alarmFire 16 else s

/-- A sweep ends, and with it what it belongs to: Destroy clears the seed and the flags and resets (R470);
decommissioning clears what R454 lists and resets. -/
def State.sweepDone (s : State) : State :=
  if !s.mram.sweepPending then s
  else
    let s := s.sweepEnd
    if s.mram.destroyPending then
      ({ s with mram := { s.mram with seed := false, destroyPending := false } } : State).resetBySystem 5
    else if s.rst.decommissioning then
      ({ s with
          dir := [], epochs := Epochs.none,
          log := { s.log with fenced := [], newPerm := [] },
          probes := Probes.idle,
          mram := { s.mram with daybook := [], surplus := [], setCrc0 := [], postedGen := none, probeSet := none,
                                owner := [], domainKey := none } } : State).resetBySystem 2
    else s

/-! ### Meanings -/

/-- ALARM_SOURCE_FIRE (R470, R471). -/
def execAlarmSourceFire (sources : BitVec 6) (s : State) : Host.Outcome State Fault Refusal :=
  .next (s.alarmFire sources.toNat)
/-- ALARM_SOURCE_INACTIVE (SEC_ALARM). -/
def execAlarmSourceInactive (k : Fin 6) (s : State) : Host.Outcome State Fault Refusal := .next (s.alarmQuiet k.val)
/-- ALARM_RELEASE (R470). -/
def execAlarmRelease (w : Src) (s : State) : Host.Outcome State Fault Refusal := .next (s.alarmRelease w)
/-- ALARM_LEVEL_WRITE (R469). -/
def execAlarmLevelWrite (w : Src) (value : BitVec 12) (s : State) : Host.Outcome State Fault Refusal :=
  .next (s.raiseLevels w value)
/-- MINT_SWEEP_DONE (R128, R129). -/
def execMintSweepDone (s : State) : Host.Outcome State Fault Refusal := .next s.sweepDone
/-- POWER_ON_RESET (R439, R440). -/
def execPowerOnReset (s : State) : Host.Outcome State Fault Refusal := .next s.powerOn
/-- SYSTEM_RESET_PIN (R440). -/
def execSystemResetPin (s : State) : Host.Outcome State Fault Refusal := .next (s.resetBySystem 1)
/-- FIRMWARE_WATCHDOG_EXPIRY (R440). -/
def execFirmwareWatchdogExpiry (_h : Half) (_clerk2 : Bool) (s : State) : Host.Outcome State Fault Refusal :=
  .next (s.resetBySystem 4)

end Sys2Proof.Machine
end

