-- ==== Sys2Proof/Machine/Teller.lean ====
section
/-! DEFINITION. The Teller, the rings' registers, the host windows, BAR4 and MSI-X
(14_host_ports_and_teller.md R409 to R428). -/

namespace Sys2Proof.Machine

/-! ### Slots (R415 to R419) -/

/-- Tickets an intake holds (R286). -/
def intakeSize : Nat := 4096

def Lane.slot (l : Lane) (k : Nat) : TSlot := look TSlot.empty l.slots k
def Lane.setSlot (l : Lane) (k : Nat) (v : TSlot) : Lane := { l with slots := put TSlot.empty l.slots k v }

/-- Is every byte of the slot's mask set? -/
def TSlot.full (t : TSlot) : Bool := t.bytes.length == 64

/-- The slot's 64 bytes. -/
def TSlot.content (t : TSlot) : List Byte := (List.range 64).map (fun i => (look none t.bytes i).getD 0)

/-- The expected stamp of a lane. -/
def State.stampOf (s : State) (p l : Nat) : Nat := s.fld (TLR_STAMP p l) 31 0

/-- The window stamp of a slot (R415). -/
def windowStamp (e k : Nat) : Nat := (e + (k + 64 - e % 64) % 64) % 2 ^ 32

/-- Evaluate a slot whose mask is complete (R415): latch it, let it wait, or discard its ticket. -/
def State.evalSlot (s : State) (p l k : Nat) : State :=
  let lane := s.laneOf p l
  let t := lane.slot k
  if t.latched || !t.full then s
  else
    let e := s.stampOf p l
    let stamp := leNat (t.content.drop 60)
    if stamp ≠ windowStamp e k then
      let s := s.setLane p l (lane.setSlot k TSlot.empty)
      (s.setFlag (TLR_LSTAT p l) 31 true).bump (HPT_CNT_BADSTAMP p) 1
    else if k = e % 64 then s.setLane p l (lane.setSlot k { t with latched := true })
    else s

/-- Bytes of one write fall into a slot that is not latched (R415). -/
def TSlot.take (t : TSlot) (at_ : Nat) (bs : List Byte) : TSlot :=
  { t with bytes := putAll none t.bytes (bs.zipIdx.map (fun e => (at_ + e.2, some e.1))) }

/-- One write reaches a slot of a lane (R415, R416). -/
def State.slotWrite (s : State) (p l k at_ : Nat) (bs : List Byte) : State :=
  let lane := s.laneOf p l
  let t := lane.slot k
  if t.latched then (s.setFlag (TLR_LSTAT p l) 28 true).bump (HPT_CNT_LATE p) 1
  else s.setLane p l (lane.setSlot k (t.take at_ bs))

/-- A write of a port's BAR2 cut at slot borders: slot number from the start of the aperture, byte in the slot, bytes. -/
def cutSlots : Nat → Nat → List Byte → List (Nat × Nat × List Byte)
  | 0, _, _ => []
  | _, _, [] => []
  | fuel + 1, off, bs =>
    let n := 64 - off % 64
    (off / 64, off % 64, bs.take n) :: cutSlots fuel (off + n) (bs.drop n)

/-- The size of a function's BAR2 (R412). -/
def bar2Size (fn : Nat) : Nat := if fn = 0 then 2 ^ 20 else 2 ^ 15

/-- The lane of an aperture page of a function's BAR2, if the function owns one there (R412). -/
def State.laneAt (s : State) (p fn page : Nat) : Option Nat :=
  let l := if fn = 0 then page else 32 + 7 * (fn - 1) + page
  if fn ≠ 0 ∧ 7 ≤ page then none
  else if l < 256 ∧ s.laneFn p l = fn then some l else none

/-- A posted write of one TLP to BAR2: applied whole, then each slot it reached is evaluated (R415). -/
def State.tellerWrite (s : State) (p fn off : Nat) (bs : List Byte) : State :=
  let parts := (cutSlots (bs.length + 1) off bs).filterMap (fun e =>
    (s.laneAt p fn (e.1 / 64)).map (fun l => (l, e.1 % 64, e.2.1, e.2.2)))
  let s := parts.foldl (fun s e => s.slotWrite p e.1 e.2.1 e.2.2.1 e.2.2.2) s
  parts.foldl (fun s e => s.evalSlot p e.1 e.2.1) s

/-- A write that fails the checks of R410 is discarded and counted. -/
def State.inBad (s : State) (p : Nat) : State := s.bump (HPT_CNT_INBAD p) 1

/-- Consume the latched slot of a lane where the intake has room and the lane no backlog (R416, R423). -/
def State.consume (s : State) (p l : Nat) : State :=
  let e := s.stampOf p l
  let k := e % 64
  let lane := s.laneOf p l
  let t := lane.slot k
  let q := s.port p
  if t.latched && decide (q.intake.length < intakeSize) && lane.backlog.isEmpty then
    let ticket : Ticket := ⟨t.content, p, l, BitVec.ofNat 32 e, s.serve.accepts⟩
    let s := { s with serve := { s.serve with accepts := s.serve.accepts + 1 } }
    let s := s.setPort p { q with intake := q.intake ++ [ticket] }
    let s := s.setLane p l ((s.laneOf p l).setSlot k TSlot.empty)
    let e' := (e + 1) % 2 ^ 32
    (s.setFld (TLR_STAMP p l) 31 0 e').evalSlot p l (e' % 64)
  else s

/-- May a function write the registers of a lane of its own port (TLR registers)? -/
def State.mayLane (s : State) (w : Src) (l : Nat) : Bool := w.fn.val == 0 || s.laneFn w.port.val l == w.fn.val

/-- Set the expected stamp and clear the lane's masks (R419). -/
def State.restamp (s : State) (p l e : Nat) : State :=
  let s := s.setFld (TLR_STAMP p l) 31 0 e
  s.setLane p l { s.laneOf p l with slots := [] }

/-- A write to TLR_STAMP (R419). -/
def State.stampWrite (s : State) (w : Src) (l e : Nat) : State :=
  if s.mayLane w l then (s.restamp w.port.val l e).setFlag (TLR_LSTAT w.port.val l) 31 false else s

/-- An FLR of a function (R419). -/
def State.flr (s : State) (p fn : Nat) : State :=
  ((List.range 256).filter (fun l => s.laneFn p l == fn)).foldl (fun s l => s.restamp p l 0) s

/-! ### Rings (R421, R423) -/

/-- A write to `tail`, which must not pass `head` (R421). -/
def State.tailWrite (s : State) (w : Src) (l t : Nat) : State :=
  let p := w.port.val
  let n := s.ringSize p l
  let head := s.fld (TLR_RPTR p l) 15 0
  let old := s.fld (TLR_RPTR p l) 31 16
  if s.mayLane w l && decide (t < n) && decide ((t + n - old % n) % n ≤ (head + n - old % n) % n) then
    (s.setFld (TLR_RPTR p l) 31 16 t).drain p l
  else s

/-- The backlog of a lane is lost with its ring (R423). -/
def State.dropBacklog (s : State) (p l : Nat) : State :=
  let lane := s.laneOf p l
  let n := lane.backlog.foldl (fun m st => m + st.length) 0
  (s.setLane p l { lane with backlog := [], unsaid := 0 }).loseEntries p l n

/-- A write to TLR_RCFG: `size` changes only while `en` is 0, and `head` restarts as `en` rises (TLR_RCFG, TLR_RPTR). A
reserved size is not taken (DESIGN CHOICE, log entry 17). -/
def State.rcfgWrite (s : State) (p l v : Nat) : State :=
  let was := s.flag (TLR_RCFG p l) 31
  let size := if was then s.fld (TLR_RCFG p l) 30 27 else nbits v 30 27
  if 10 < size then s
  else
    let s := s.setReg (TLR_RCFG p l) (setBits (BitVec.ofNat 64 (v % 2 ^ 32)) 30 27 size)
    let s := if !was && nbit v 31 then s.setFld (TLR_RPTR p l) 15 0 0 else s
    if was && !nbit v 31 then s.dropBacklog p l else s

/-- A write to TLR_RBASE (0), TLR_HADDR (1) or TLR_RCFG (2): addresses change only while the ring is disabled. -/
def State.ringConfig (s : State) (w : Src) (l reg v : Nat) : State :=
  let p := w.port.val
  if !s.mayLane w l then s
  else if reg = 2 then s.rcfgWrite p l v
  else if s.flag (TLR_RCFG p l) 31 then s
  else if reg = 0 then s.setReg (TLR_RBASE p l) (BitVec.ofNat 64 (v / 64 * 64))
  else s.setReg (TLR_HADDR p l) (BitVec.ofNat 64 (v / 8 * 8))

/-! ### Host windows (R420) -/

def State.window (s : State) (p n : Nat) : HostWin := look HostWin.none (s.port p).windows n

/-- The bytes of a window. -/
def HostWin.bytes (h : HostWin) : Nat := h.size.toNat * 4096

/-- Do two windows share a byte? -/
def HostWin.overlaps (a b : HostWin) : Bool :=
  decide (0 < a.bytes) && decide (0 < b.bytes) && decide (a.rbase.toNat < b.rbase.toNat + b.bytes) &&
    decide (b.rbase.toNat < a.rbase.toNat + a.bytes)

/-- A window entry with one of its eight words replaced; reserved bytes stay 0 and the bases 4 KiB-aligned. -/
def HostWin.patch (h : HostWin) (word v : Nat) : HostWin :=
  let w := v % 2 ^ 32
  match word with
  | 0 => { h with rbase := setBits h.rbase 31 0 (w / 4096 * 4096) }
  | 1 => { h with rbase := setBits h.rbase 63 32 w }
  | 2 => { h with hbase := setBits h.hbase 31 0 (w / 4096 * 4096) }
  | 3 => { h with hbase := setBits h.hbase 63 32 w }
  | 4 => { h with size := BitVec.ofNat 32 w }
  | 5 => { h with fn := BitVec.ofNat 8 w, perm := BitVec.ofNat 8 (w / 256 % 4) }
  | _ => h

/-- Write a word of a window entry: the PF of the port alone, and never into an overlap (R420, R414). -/
def State.windowWrite (s : State) (w : Src) (p n word v : Nat) : State :=
  if w.fn.val ≠ 0 ∨ w.port.val ≠ p then s
  else
    let q := s.port p
    let h := (s.window p n).patch word v
    if q.windows.any (fun e => e.1 != n && e.2.overlaps h) then s.setFlag (HPT_LINK p) 29 true
    else s.setPort p { q with windows := put HostWin.none q.windows n h }

/-- The valid window of a port that holds a range of its Reserve space (R420). -/
def State.windowFor (s : State) (p off len : Nat) : Option HostWin :=
  ((s.port p).windows.find? (fun e =>
    decide (e.2.rbase.toNat ≤ off) && decide (off + len ≤ e.2.rbase.toNat + e.2.bytes) && decide (0 < e.2.bytes))).map
    Prod.snd

/-- The host address a Reserve offset maps to. -/
def HostWin.host (h : HostWin) (off : Nat) : Word64 := h.hbase + BitVec.ofNat 64 (off - h.rbase.toNat)

/-! ### BAR4 (R411, R414) -/

/-- The Vault offset of a BAR4 offset. -/
def State.bar4Addr (s : State) (p off : Nat) : Nat := s.fld (HPT_B4BASE p) 37 30 * 2 ^ 30 + off

/-- The Vault's bytes (R21). -/
def vaultSize : Nat := 2 ^ 38

/-- Does a range of Vault leave the Vault, or touch the two slots of the Charter store, which only space 0x7 addresses
(R21, R446, R447)? -/
def offVault (a n : Nat) : Bool :=
  decide (vaultSize < a + n) || (decide (stagedSlot < a + n) && decide (a < stagedSlot + 2 ^ 28)) ||
    (decide (postedSlot < a + n) && decide (a < postedSlot + 2 ^ 28))

/-- A write through BAR4: the Warrant holder's PF alone (R414). -/
def State.bar4W (s : State) (w : Src) (off : Nat) (bs : List Byte) (intact : Bool) :
    Host.Outcome State Fault Refusal :=
  if !intact then .next (s.inBad w.port.val)
  else if !s.holder w then .next (s.bump (HPT_CNT_DENIED w.port.val) 1)
  else if offVault (s.bar4Addr w.port.val off) bs.length then .fault .noSuchAddress
  else .next (s.write (keyOf 0 (s.bar4Addr w.port.val off)) bs)

/-- A read through BAR4, from either PF: poison and uncorrectable granules answer EP and zeros (R411). -/
def State.bar4R (s : State) (w : Src) (off len : Nat) : Host.Outcome State Fault Refusal :=
  let a := s.bar4Addr w.port.val off
  if w.fn.val ≠ 0 || offVault a len then .fault .noSuchAddress
  else if s.bad (keyOf 0 a) len then .next (s.send (.completion w.port.val (List.replicate len 0) true))
  else .next (s.send (.completion w.port.val (s.read (keyOf 0 a) len) false))

/-! ### MSI-X (R424) -/

/-- `mod_time` has passed (R424). -/
def State.modTimer (s : State) (p l : Nat) : State :=
  if 0 < (s.laneOf p l).unsaid && s.flag (TLR_RCFG p l) 31 then
    s.announce p (s.laneFn p l) (s.fld (TLR_RCFG p l) 26 16)
  else s

/-- Mask a vector. -/
def State.msixMask (s : State) (p fn v : Nat) : State :=
  let q := s.port p
  s.setPort p { q with masked := put true q.masked (msixKey fn v) true }

/-- Unmask a vector: a pending one sends its message (R424). -/
def State.msixClear (s : State) (p fn v : Nat) : State :=
  let q := s.port p
  let k := msixKey fn v
  if look true q.masked k then
    let s := s.setPort p { q with masked := put true q.masked k false, msiPend := put false q.msiPend k false }
    if look false q.msiPend k then s.send (.msix p fn v) else s
  else s

/-- Is there a usable identity (R462): the seed is there and the erasure fuse is whole? -/
def State.identity (s : State) : Bool := s.mram.seed && !s.mram.fuseBlown

/-- An IDE selective stream is set up (R427, R467): the device must sign, so it needs its identity. -/
def State.ideSetup (s : State) (p stream base size : Nat) (ok : Bool) : State :=
  if ok && s.identity then
    let q := s.port p
    let (key, s) := s.draw
    (s.setPort p { q with ide := put none q.ide stream (some ⟨base, size, key⟩) }).setFlag (HPT_LINK p) 30 true
  else s

/-! ### Meanings -/

/-- TELLER_SLOT_WRITE (R415, R410, R427). -/
def execTellerSlotWrite (w : Src) (offset : Nat) (bytes : List Byte) (intact : Bool) (s : State) :
    Host.Outcome State Fault Refusal :=
  if bar2Size w.fn.val < offset + bytes.length then .fault .noSuchAddress
  else if !intact then .next (s.inBad w.port.val)
  else .next (s.tellerWrite w.port.val w.fn.val offset bytes)
/-- TICKET_CONSUME (R416). -/
def execTicketConsume (p : Port) (lane : Fin 256) (s : State) : Host.Outcome State Fault Refusal :=
  .next (s.consume p.val lane.val)
/-- TELLER_STAMP_WRITE (R419). -/
def execTellerStampWrite (w : Src) (lane : Fin 256) (value : Word32) (s : State) :
    Host.Outcome State Fault Refusal :=
  .next (s.stampWrite w lane.val value.toNat)
/-- RING_TAIL_WRITE (R421). -/
def execRingTailWrite (w : Src) (lane : Fin 256) (tail : BitVec 16) (s : State) : Host.Outcome State Fault Refusal :=
  .next (s.tailWrite w lane.val tail.toNat)
/-- RING_CONFIG_WRITE (R421). -/
def execRingConfigWrite (w : Src) (lane : Fin 256) (reg : Fin 3) (value : Word64) (s : State) :
    Host.Outcome State Fault Refusal :=
  .next (s.ringConfig w lane.val reg.val value.toNat)
/-- HOST_WINDOW_WRITE (R420). -/
def execHostWindowWrite (w : Src) (p : Port) (n : Fin 64) (word : Fin 8) (value : Word32) (s : State) :
    Host.Outcome State Fault Refusal :=
  .next (s.windowWrite w p.val n.val word.val value.toNat)
/-- BAR4_WRITE (R414, R410). -/
def execBar4Write (w : Src) (offset : Nat) (bytes : List Byte) (intact : Bool) (s : State) :
    Host.Outcome State Fault Refusal := s.bar4W w offset bytes intact
/-- BAR4_READ (R411). -/
def execBar4Read (w : Src) (offset : Nat) (len : Nat) (s : State) : Host.Outcome State Fault Refusal :=
  s.bar4R w offset len
/-- MSIX_MODERATION_TIMER (R424). -/
def execMsixModerationTimer (p : Port) (lane : Fin 256) (s : State) : Host.Outcome State Fault Refusal :=
  .next (s.modTimer p.val lane.val)
/-- MSIX_UNMASK (R424). -/
def execMsixUnmask (p : Port) (fn : Fin 33) (vector : Fin 2048) (s : State) : Host.Outcome State Fault Refusal :=
  .next (s.msixClear p.val fn.val vector.val)
/-- FUNCTION_LEVEL_RESET (R419). -/
def execFunctionLevelReset (p : Port) (fn : Fin 33) (s : State) : Host.Outcome State Fault Refusal :=
  .next (s.flr p.val fn.val)
/-- IDE_STREAM_SETUP (R427, R467). -/
def execIdeStreamSetup (p : Port) (stream : Fin 4) (base size : Nat) (sessionOk : Bool) (s : State) :
    Host.Outcome State Fault Refusal :=
  .next (s.ideSetup p.val stream.val base size sessionOk)

end Sys2Proof.Machine
end

