-- ==== Sys2Proof/Machine/Halves.lean ====
section
/-! DEFINITION. The Stewards: the reset commands, the release order, seniority, contact and Held, handover, and the
firmware update (15_steward_reset_and_boot.md R429 to R454). -/

namespace Sys2Proof.Machine

/-! ### RST_CMD (R440, R454) -/

/-- Is a write of RST_CMD taken: from the Warrant holder, in contact, with no half Held (R435, R440)? -/
def State.rstCmd (s : State) (w : Src) : Bool := s.holder w && s.contact && !s.anyHeld

/-- 0x01 (R440). -/
def State.cmdSystem (s : State) (w : Src) : State := if s.rstCmd w then s.resetBySystem 2 else s

/-- 0x02 (R440). -/
def State.cmdCore (s : State) (w : Src) : State := if s.rstCmd w then s.resetByCore else s

/-- 0x03 arms decommissioning (R454). -/
def State.cmdArm (s : State) (w : Src) : State :=
  if s.rstCmd w && !s.anyLive then { s with rst := { s.rst with armedAt := some s.now } } else s

/-- 0x04 within 100,000 ticks of the arm starts the sweep that decommissioning begins with (R454). -/
def State.cmdDecommission (s : State) (w : Src) : State :=
  match s.rst.armedAt with
  | none => s
  | some t =>
    if s.rstCmd w && !s.anyLive && decide ((s.now - t).toNat ≤ 100000) then
      { s with rst := { s.rst with armedAt := none, decommissioning := true } }
    else s

/-! ### Release order (R442) -/

/-- PWRGD rises: row 1 may be released, and boot is in phase 1 (R442, R451). -/
def State.pwrgdUp (s : State) : State :=
  if s.rst.pwrgd then s
  else ({ s with rst := { s.rst with pwrgd := true } } : State).bootFrom 1

/-- The lock bits a row of the release order waits for, in the half's field of GLB_CLKSTAT (R442, R46). -/
def rowLocks (row : Nat) : Nat :=
  match row with
  | 1 => 0x08 | 2 => 0x10 | 3 => 0x80 | 4 => 0x60 | 5 => 0x01 | 6 => 0x06 | _ => 0

/-- The boot phase a row is released in (R451). -/
def rowPhase (row : Nat) : Nat := if row ≤ 3 then 1 else if row = 4 then 3 else 4

def State.phase (s : State) : Nat := s.fld RST_BOOT 29 26

/-- May half `h` release this row now? -/
def State.mayRelease (s : State) (h row locks : Nat) (alone : Bool) : Bool :=
  s.rst.pwrgd && !look false s.rst.stopped h && decide (row ≤ 7) && s.phase == rowPhase row &&
    rowLocks row &&& locks == rowLocks row && (decide (row ≠ 1 ∨ h = 0) || decide (1 ≤ s.rowsOf 0) || alone) &&
    !(row == 4 && s.flag GLB_PINS 10 && s.flag RST_BOOT 30)

/-- The PLLs that report lock (R46). -/
def State.setLocks (s : State) (h locks : Nat) : State :=
  s.setFld GLB_CLKSTAT (8 * h + 7) (8 * h) (s.fld GLB_CLKSTAT (8 * h + 7) (8 * h) ||| locks)

/-- The straps as a Steward takes them, and those it found open (R475). S1 applies no pulls unless it is alone: it reads
0 where S0 holds an open strap. -/
def State.readStraps (s : State) (h : Nat) (x : StrapSample) (alone : Bool) : BitVec 4 × BitVec 4 :=
  if h = 0 ∨ alone then (x.up &&& x.down, x.up ^^^ x.down)
  else (x.up &&& ~~~(look 0 s.pins.straps 2), 0)

/-- Grant seniority once both claims are in (R431); the halves are in contact from here on (DEDUCED, log entry 15). -/
def State.arbitrate (s : State) : State :=
  let sent (h : Nat) : Bool := look false s.rst.claims (2 * h)
  let claim (h : Nat) : Bool := look false s.rst.claims (2 * h + 1)
  if s.rst.arbitrated || !sent 0 || !sent 1 then s
  else
    let g := if claim 1 && !claim 0 then 1 else 0
    let s := { s with rst := { s.rst with
      arbitrated := true, lastBeat := putAll 0 s.rst.lastBeat [(0, s.counter 0), (1, s.counter 1)] } }
    let s := s.setFld (STW_STAT g) 31 30 3
    (s.setFlag (STW_STAT 0) 28 true).setFlag (STW_STAT 1) 28 true

/-- A Steward is released: its straps, its claim (R475, R431). -/
def State.stewardUp (s : State) (h : Nat) (x : StrapSample) (alone : Bool) : State :=
  let (v, opn) := s.readStraps h x alone
  let sel := v.getLsbD 0
  let claim := sel == (h == 1)
  let s := { s with
    pins := { s.pins with straps := putAll 0 s.pins.straps (if h = 0 then [(h, v), (2, opn)] else [(h, v)]) },
    rst := { s.rst with claims := putAll false s.rst.claims [(2 * h, true), (2 * h + 1, claim)] } }
  let s := (s.setFlag (STW_STAT h) 25 sel).setFlag (STW_STAT h) 24 claim
  let s := if h = 1 ∧ alone then s.setFlag RST_CAUSE 7 true else s
  let s := if opn = 0 then s else s.pinFault 7 true
  s.arbitrate

/-- The converters of a half (R333). -/
def halfConverters (h : Nat) : List Nat := [2 * h, 2 * h + 1, 4 + h]

/-- The Audit domain leaves reset: the firmware's entries and limits, and the loop runs (R337). -/
def State.auditUp (s : State) (i : Nat) : State :=
  if hi : i < 6 then
    let s := (List.range 24).foldl (fun s n => s.setReg (AUD_ENT i n) (Config.firmwareEntry ⟨i, hi⟩ n)) s
    let s := (List.range 24).foldl (fun s n =>
      s.setReg (AUD_LIM i n) ((Config.firmwareLimit ⟨i, hi⟩ n).setWidth 64)) s
    s.setFlag (AUD_STAT i) 31 true
  else s

/-- A domain is released once its PLLs report lock (R442). Row 4 waits until every rail sense point is within its
tolerance, or neither half releases it (R478). -/
def State.release (s : State) (h : Nat) (x : StrapSample) (locks : Nat) (railsOk alone : Bool) : State :=
  let row := s.rowsOf h + 1
  if !s.mayRelease h row locks alone then s
  else if row = 4 ∧ railsOk = false then (s.setFlag RST_BOOT 30 true).setFlag GLB_PINS 10 true
  else
    let s := { s with rst := { s.rst with rows := put 0 s.rst.rows h row } }
    let s := s.setLocks h locks
    if row = 1 then s.stewardUp h x alone
    else if row = 2 then (halfConverters h).foldl State.auditUp s
    else s

/-- The PLLs of a domain have not locked in 25,000 oscillator cycles (R442). -/
def State.lockTimeout (s : State) (h : Nat) : State :=
  ({ s with rst := { s.rst with stopped := put false s.rst.stopped h true } } : State).setFlag RST_BOOT 30 true

/-- A phase passes its limit (R451). -/
def State.phaseStall (s : State) : State := if s.phase = 0 then s else s.setFlag RST_BOOT 30 true

/-! ### Contact and Held (R433 to R436) -/

/-- An event as a notice carries it. -/
def noticeEvent (code d1 : Nat) (d2 : Nat) : Event :=
  ⟨true, true, BitVec.ofNat 8 code, 0, BitVec.ofNat 32 d1, BitVec.ofNat 64 d2⟩

/-- A half enters Held, with its notice (R434, R435). -/
def State.enterHeld (s : State) (h cause : Nat) : State :=
  if s.held h then s
  else
    let s := (s.setFlag (STW_STAT h) 29 true).setFld (STW_STAT h) 27 26 cause
    let s := { s with rst := { s.rst with heldSince := put 0 s.rst.heldSince h s.now } }
    s.notice h s.step (noticeEvent 0x50 h cause)

/-- Both halves leave Held together (R436). -/
def State.leaveHeld (s : State) : State :=
  let since (h : Nat) : Nat := if s.held h then (s.now - look 0 s.rst.heldSince h).toNat else 0
  let ticks := Nat.max (since 0) (since 1)
  let s := (List.range 2).foldl (fun s h => (s.setFlag (STW_STAT h) 29 false).setFld (STW_STAT h) 27 26 0) s
  ({ s with rst := { s.rst with heldSince := [] } } : State).eventAll 0x51 ticks 0

/-- Heartbeats missed between two that arrived, 10,000 ticks apart when none is (R433; DEDUCED, log entry 18). -/
def beatsMissed (gap : Nat) : Nat := (gap + 5000) / 10000 - 1

/-- A heartbeat arrives at half `h` (R433, R434, R436). -/
def State.heartbeat (s : State) (h : Nat) (heldFlag : Bool) : State :=
  let both := s.contact
  let stuck := decide (s.fld (STW_STAT 0) 27 26 = 2)
  let gap := (s.counter h - look 0 s.rst.lastBeat h).toNat
  let run := if gap ≤ 12000 then look 0 s.rst.beatRun h + 1 else 1
  let s := { s with rst := { s.rst with lastBeat := put 0 s.rst.lastBeat h (s.counter h),
                                        beatRun := put 0 s.rst.beatRun h run } }
  let s := s.setFld (STW_STAT h) 15 0 (Nat.min (s.fld (STW_STAT h) 15 0 + beatsMissed gap) 0xFFFF)
  if s.anyHeld && both && !stuck then s.leaveHeld
  else
    let s := if 16 ≤ run then s.setFlag (STW_STAT h) 28 true else s
    if heldFlag then s.enterHeld h 1 else s

/-- No heartbeat for 200,000 ticks (R433, R434). -/
def State.loseContact (s : State) (h : Nat) : State :=
  let s := s.setFlag (STW_STAT h) 28 false
  ({ s with rst := { s.rst with beatRun := put 0 s.rst.beatRun h 0 } } : State).enterHeld h 1

/-- The arbiter grants nothing (R434). -/
def State.arbiterSilent (s : State) : State :=
  if s.rst.arbitrated then s
  else
    let s := { s with rst := { s.rst with arbitrated := true } }
    (s.enterHeld 0 2).enterHeld 1 2

/-! ### Handover (R437, R438) -/

/-- A handover request stands (R437). -/
def State.askHandover (s : State) (claim : Bool) : State :=
  ({ s with rst := { s.rst with byClaim := claim } } : State).setFlag (STW_WARRANT 0) 31 true

/-- A write of 1 to `handover`, discarded in Held (R435, R437). -/
def State.handoverWrite (s : State) (w : Src) : State :=
  if s.holder w && !s.anyHeld then s.askHandover false else s

/-- Has the Warrant holder's port been down or in PERST# for 10 s (R438)? -/
def State.holderAway (s : State) (p : Nat) : Bool :=
  match (s.port p).downAt with
  | some t => !s.portUp p && decide (1000000000 ≤ (s.now - t).toNat)
  | none => false

/-- A write of 1 to `claim` by the PF of the other port (R438). -/
def State.claimWrite (s : State) (w : Src) : State :=
  match s.senior with
  | none => s
  | some h =>
    if w.fn.val ≠ 0 ∨ w.port.val = h then s
    else if s.holderAway h then s.askHandover true
    else s.setFlag (STW_WARRANT 0) 30 true

/-- Seniority and the Warrant move to the other half (R437). -/
def State.handover (s : State) : State :=
  match s.senior with
  | none => s
  | some h =>
    let n := 1 - h
    let s := (s.setFld (STW_STAT h) 31 30 0).setFld (STW_STAT n) 31 30 3
    let d2 := if s.rst.byClaim then 1 else 0
    let s := { s with rst := { s.rst with byClaim := false },
                      time := { s.time with slewDiff := -s.time.slewDiff } }
    (s.setFlag (STW_WARRANT 0) 31 false).eventAll 0x52 n d2

/-! ### Firmware update (R453) -/

def State.fwSlot (s : State) (h k : Nat) : FwSlot := look ⟨0, 0, true⟩ s.mram.flash (2 * h + k)
def State.setFwSlot (s : State) (h k : Nat) (v : FwSlot) : State :=
  { s with mram := { s.mram with flash := put ⟨0, 0, true⟩ s.mram.flash (2 * h + k) v } }
/-- The slot Steward `h` runs. -/
def State.fwRunning (s : State) (h : Nat) : Nat := look 0 s.mram.running h
/-- The slot of Steward `h` that was written last. -/
def State.fwNewest (s : State) (h : Nat) : Nat := look 0 s.mram.running (2 + h)

def State.fwResult (s : State) (r : Nat) : State := s.setFld (STW_FWCTL 0) 29 26 r

/-- A write of 1 to `start` (R453). -/
def State.fwStart (s : State) (w : Src) : State :=
  if !s.holder w || s.flag (STW_FWCTL 0) 31 then s
  else if !s.contact then s.fwResult 6
  else if s.fld (STW_FWCTL 0) 23 0 = 0 then s.fwResult 5
  else (s.fwResult 0).setFlag (STW_FWCTL 0) 31 true

/-- The inactive slots of both Stewards take an image. -/
def State.fwStore (s : State) (v : FwSlot) : State :=
  (List.range 2).foldl (fun s h =>
    let k := 1 - s.fwRunning h
    let s := s.setFwSlot h k v
    { s with mram := { s.mram with running := put 0 s.mram.running (2 + h) k } }) s

/-- The update ends: signature, floor, flash, result (R453). What a failed write leaves in a slot is free (DESIGN CHOICE, log entry 5). -/
def State.fwDone (s : State) (img : FwImage) (flashError : Bool) : State :=
  if !s.flag (STW_FWCTL 0) 31 then s
  else
    let s := s.setFlag (STW_FWCTL 0) 31 false
    if !img.verifies then s.fwFailed.fwResult 2
    else
      let s := { s with mram := { s.mram with fwFails := 0 } }
      if img.version.toNat < Config.firmwareFloor then s.fwResult 3
      else if flashError then
        let (f, s) := s.draw
        (s.fwStore ⟨BitVec.ofNat 16 (f / 2), BitVec.ofNat 256 f, f % 2 == 1⟩).fwResult 4
      else (s.fwStore ⟨img.version, img.digest, true⟩).fwResult 1

/-! ### Meanings -/

/-- PWRGD_RISE (R442). -/
def execPwrgdRise (s : State) : Host.Outcome State Fault Refusal := .next s.pwrgdUp
/-- SYSTEM_RESET_CMD (R440). -/
def execSystemResetCmd (w : Src) (s : State) : Host.Outcome State Fault Refusal := .next (s.cmdSystem w)
/-- CORE_RESET_CMD (R439, R441). -/
def execCoreResetCmd (w : Src) (s : State) : Host.Outcome State Fault Refusal := .next (s.cmdCore w)
/-- DECOMMISSION_ARM (R454). -/
def execDecommissionArm (w : Src) (s : State) : Host.Outcome State Fault Refusal := .next (s.cmdArm w)
/-- DECOMMISSION (R454). -/
def execDecommission (w : Src) (s : State) : Host.Outcome State Fault Refusal := .next (s.cmdDecommission w)
/-- DOMAIN_RELEASE (R442, R475, R478). -/
def execDomainRelease (h : Half) (straps : StrapSample) (locks : BitVec 8) (railsOk : Bool) (alone : Bool) (s : State) :
    Host.Outcome State Fault Refusal :=
  .next (s.release h.val straps locks.toNat railsOk alone)
/-- RELEASE_LOCK_TIMEOUT (R442). -/
def execReleaseLockTimeout (h : Half) (s : State) : Host.Outcome State Fault Refusal := .next (s.lockTimeout h.val)
/-- ARBITER_TIMEOUT (R434). -/
def execArbiterTimeout (s : State) : Host.Outcome State Fault Refusal := .next s.arbiterSilent
/-- BOOT_PHASE_STALL (R451). -/
def execBootPhaseStall (s : State) : Host.Outcome State Fault Refusal := .next s.phaseStall
/-- HEARTBEAT_SEND (R433). -/
def execHeartbeatSend (h : Half) (s : State) : Host.Outcome State Fault Refusal :=
  .next (if 1 ≤ s.rowsOf h.val then s.send (.heartbeat h (s.held h.val)) else s)
/-- HEARTBEAT_RECEIVE (R433, R434, R436). -/
def execHeartbeatReceive (h : Half) (heldFlag : Bool) (s : State) : Host.Outcome State Fault Refusal :=
  .next (s.heartbeat h.val heldFlag)
/-- CONTACT_LOST (R434, R435). -/
def execContactLost (h : Half) (s : State) : Host.Outcome State Fault Refusal := .next (s.loseContact h.val)
/-- HANDOVER_REQUEST (R437). -/
def execHandoverRequest (w : Src) (s : State) : Host.Outcome State Fault Refusal := .next (s.handoverWrite w)
/-- WARRANT_CLAIM (R438). -/
def execWarrantClaim (w : Src) (s : State) : Host.Outcome State Fault Refusal := .next (s.claimWrite w)
/-- FIRMWARE_UPDATE_START (R453). -/
def execFirmwareUpdateStart (w : Src) (s : State) : Host.Outcome State Fault Refusal := .next (s.fwStart w)
/-- FIRMWARE_UPDATE_DONE (R453). -/
def execFirmwareUpdateDone (img : FwImage) (flashError : Bool) (s : State) : Host.Outcome State Fault Refusal :=
  .next (s.fwDone img flashError)

end Sys2Proof.Machine
end

