-- ==== Sys2Proof/Machine/Security.lean ====
section
/-! DEFINITION. Signatures, owner keys and commands, measurements, attestation, debug and the TAP
(16_security.md R457 to R468, 17 R490). -/

namespace Sys2Proof.Machine

/-! ### Signatures (R457, R458) -/

/-- A slot nobody has enrolled. -/
def OwnerSlot.empty : OwnerSlot := ⟨0, 0, 0⟩

def State.ownerSlot (s : State) (n : Nat) : OwnerSlot := look OwnerSlot.empty s.mram.owner n

/-- Is the slot enrolled? -/
def OwnerSlot.valid (o : OwnerSlot) : Bool := o.alg != 0

def useCharter : Nat := 0
def useProbe : Nat := 1
def useManifest : Nat := 2
def useAdmin : Nat := 3
def useDebug : Nat := 4

/-- Bytes of a public key and of a signature, by algorithm (R458). -/
def keyLen (alg : Nat) : Nat := if alg = 1 then 32 else if alg = 2 then 48 else 64
/-- See `keyLen`. -/
def sigLen (alg : Nat) : Nat := if alg = 1 then 7856 else if alg = 2 then 16224 else 29792

/-- Is the block at byte `o` of an image well-formed: algorithm, reserved bytes, and a length that ends the image? -/
def blockFormOk (img : List Byte) (o : Nat) : Bool :=
  let alg := byteAt img o
  decide (1 ≤ alg) && decide (alg ≤ 3) && decide (byteAt img (o + 1) ≤ 3) && fieldB img (o + 3) (o + 2) == 0 &&
    fieldB img (o + 7) (o + 4) == sigLen alg && fieldB img (o + 15) (o + 8) == 0 &&
    img.length == o + 16 + keyLen alg + sigLen alg

/-- The public key in the block at `o`. -/
def blockKey (img : List Byte) (o : Nat) : List Byte := (img.drop (o + 16)).take (keyLen (byteAt img o))

/-- The signature in the block at `o`. -/
def blockSig (img : List Byte) (o : Nat) : List Byte := img.drop (o + 16 + keyLen (byteAt img o))

/-- Does the signature verify over `msg` under a key of the given hash and algorithm? -/
def blockSigned (img : List Byte) (o : Nat) (msg : List Byte) (alg : Nat) (hash : BitVec 256) : Bool :=
  byteAt img o == alg && sha256n (blockKey img o) == hash &&
    Config.sigVerifies alg (blockKey img o) msg (blockSig img o)

/-- What a customer's signature covers: the image up to the end of the public key (R458). -/
def blockMessage (img : List Byte) (o : Nat) : List Byte := img.take (o + 16 + keyLen (byteAt img o))

/-- Does the device accept the signature block at `o` for a use (R458)? -/
def State.signatureOk (s : State) (img : List Byte) (o use : Nat) : Bool :=
  let slot := s.ownerSlot (byteAt img (o + 1))
  blockFormOk img o && slot.valid && slot.uses.getLsbD use &&
    blockSigned img o (blockMessage img o) slot.alg.toNat slot.hash

/-- The SHA-256 of the identity public key: the `device` of R460. -/
def deviceHash : List Byte := sha256 Config.identityKey

/-! ### Measurements (R463) -/

def State.measure (s : State) (n : Nat) : BitVec 256 := look 0 s.sec.meas n

/-- Extend a register: SHA-256 of the register followed by the data (R463). -/
def State.extend (s : State) (n : Nat) (d : List Byte) : State :=
  { s with sec := { s.sec with meas := put 0 s.sec.meas n (sha256n (natLe 32 (s.measure n).toNat ++ d)) } }

/-- The owner slot table as a measurement takes it (DESIGN CHOICE, log entry 19). -/
def State.slotTable (s : State) : List Byte :=
  (List.range 4).flatMap (fun n =>
    let o := s.ownerSlot n
    natLe 32 o.hash.toNat ++ natLe 1 o.alg.toNat ++ natLe 1 o.uses.toNat)

/-- A write that completes SEC_EXTEND: its last 4 bytes name the register, 10 to 15. -/
def State.extendWrite (s : State) (w : Src) (data : BitVec 256) : State :=
  let n := data.toNat / 2 ^ 224 % 16
  if s.holder w && decide (10 ≤ n) then s.extend n (natLe 32 data.toNat) else s

/-! ### Mailbox (R464) -/

/-- Set a mailbox's result; the request ends. -/
def State.mbResult (s : State) (p r : Nat) : State :=
  (s.setFlag (SEC_MBCTL p) 31 false).setFld (SEC_MBCTL p) 27 24 r

/-- The version of the firmware a Steward runs. -/
def State.fwVersion (s : State) (h : Nat) : Nat := (s.fwSlot h (s.fwRunning h)).version.toNat

/-- The 688 bytes of a report before its signature, as they are at the take (R464). -/
def State.report (s : State) (nonce : BitVec 256) : List Byte :=
  let live := s.epochs.live
  let b6 := (if s.serve.posted then 1 else 0) + (if live.isSome then 2 else 0) + 4 * s.fld SEC_STAT 27 26
  natLe 2 1 ++ natLe 2 0x0100 ++ natLe 1 1 ++ natLe 1 0 ++ natLe 1 b6 ++ natLe 1 0 ++ natLe 8 s.now.toNat
    ++ natLe 32 nonce.toNat ++ (List.range 16).flatMap (fun n => natLe 32 (s.measure n).toNat)
    ++ natLe 2 (s.fwVersion (s.senior.getD 0)) ++ natLe 2 (s.mram.postedGen.getD 0).toNat
    ++ natLe 2 (live.getD 0).toNat ++ natLe 2 (s.fld SEC_ALARM 15 0) ++ sha256 Config.identityCert
    ++ List.replicate 40 0 ++ (Config.identityKey ++ List.replicate 48 0).take 48

/-- Keep the bytes of a report in a mailbox, 32 at a time. -/
def State.keepReport (s : State) (p : Nat) (bs : List Byte) : State :=
  let kept := ((piecesOf 32 22 bs).zipIdx).map (fun e => (32 * p + e.2, BitVec.ofNat 256 (leNat e.1)))
  { s with sec := { s.sec with mailbox := putAll 0 s.sec.mailbox kept } }

/-- The bytes a mailbox keeps. -/
def State.keptReport (s : State) (p : Nat) : List Byte :=
  ((List.range 22).flatMap (fun i => natLe 32 (look 0 s.sec.mailbox (32 * p + i)).toNat)).take 688

/-- `op` 1: the nonce is read and everything the report holds is taken (R464). -/
def State.attest (s : State) (w : Src) (nonce : BitVec 256) : State :=
  let p := w.port.val
  if w.fn.val ≠ 0 || s.flag (SEC_MBCTL p) 31 then s
  else
    let s := s.setFld (SEC_MBCTL p) 29 28 1
    if !s.identity then s.mbResult p 6
    else ((s.mbResult p 0).setFlag (SEC_MBCTL p) 31 true).keepReport p (s.report nonce)

/-- The signed report goes to the mailbox address in the port's Reserve space (R464). -/
def State.attestDone (s : State) (p : Nat) : State :=
  if !s.flag (SEC_MBCTL p) 31 || s.fld (SEC_MBCTL p) 29 28 != 1 then s
  else
    let body := s.keptReport p
    let bs := body ++ (Config.sign body ++ List.replicate 35664 0).take 35664
    let a := (s.reg (SEC_MBADDR p)).toNat
    let space := a / 2 ^ 48 % 16
    match s.windowFor p (a % 2 ^ 48) bs.length with
    | some h =>
      if space = 5 + p ∧ h.fn = 0 ∧ h.perm.getLsbD 1 ∧ s.portUp p then
        (s.send (.hostWrite p 0 (h.host (a % 2 ^ 48)) bs)).mbResult p 1
      else s.mbResult p 4
    | none => s.mbResult p 4

/-! ### Owner commands (R460, R461) -/

/-- Bytes of a command's payload (R460). -/
def payloadLen (cmd : Nat) : Nat := if cmd = 1 then 34 else if cmd = 3 then 4 else if cmd = 4 then 1568 + 40 else 0

/-- Are the header's fields, and the payload's, ones the command may have? -/
def ownerFieldsOk (cmd : Nat) (img : List Byte) : Bool :=
  let target := byteAt img 1
  byteAt img 0 == cmd && fieldB img 3 2 == 0 && fieldB img 63 40 == 0 && (img.drop 8).take 32 == deviceHash &&
    (if cmd ≤ 2 then decide (target ≤ 3) else target == 0) &&
    (cmd != 1 || (decide (1 ≤ byteAt img 96) && decide (byteAt img 96 ≤ 3) && decide (byteAt img 97 < 32))) &&
    (cmd != 3 || fieldB img 67 64 < 4096) && blockFormOk img (64 + payloadLen cmd)

/-- The slot an enrol command fills. -/
def enrolled (img : List Byte) : OwnerSlot :=
  ⟨BitVec.ofNat 256 (fieldB img 95 64), BitVec.ofNat 8 (byteAt img 96), BitVec.ofNat 5 (byteAt img 97)⟩

/-- Is every slot empty? -/
def State.noOwner (s : State) : Bool := (List.range 4).all (fun n => !(s.ownerSlot n).valid)

/-- The first enrol, which the enrolled key signs itself (R461). -/
def firstEnrol (img : List Byte) : Bool :=
  let o := enrolled img
  byteAt img 0 == 1 && byteAt img 1 == 0 && o.uses == 0x1F && byteAt img (98 + 1) == 0 &&
    blockSigned img 98 (blockMessage img 98) o.alg.toNat o.hash

/-- The slots a command leaves. -/
def slotsAfter (cmd : Nat) (img : List Byte) (m : SMap OwnerSlot) : SMap OwnerSlot :=
  if cmd = 1 then put OwnerSlot.empty m (byteAt img 1) (enrolled img)
  else if cmd = 2 then put OwnerSlot.empty m (byteAt img 1) OwnerSlot.empty
  else m

/-- Does a slot of a table hold admin? -/
def someAdmin (m : SMap OwnerSlot) : Bool := m.any (fun e => e.2.valid && e.2.uses.getLsbD useAdmin)

/-- The result of an owner command, its tests in the order of the codes but for the signature, which is tested after the
fields it is found by (DESIGN CHOICE, log entry 20). -/
def State.ownerResult (s : State) (w : Src) (cmd : Nat) (img : List Byte) : Nat :=
  if !s.holder w then 5
  else if !s.contact then 7
  else if !s.identity then 6
  else if !ownerFieldsOk cmd img then 4
  else if !(if s.noOwner then firstEnrol img else s.signatureOk img (64 + payloadLen cmd) useAdmin) then 2
  else if (match s.mram.ownerCounter with | some c => decide (fieldB img 7 4 ≤ c.toNat) | none => false) then 3
  else if !someAdmin (slotsAfter cmd img s.mram.owner) then 5
  else if cmd = 4 ∧ Config.unwrapDomainKey ((img.drop 64).take (payloadLen 4)) = none then 4
  else 1

/-- What an accepted command does (R460, R461, R463, R470). -/
def State.ownerDo (s : State) (cmd : Nat) (img : List Byte) : State :=
  let m := { s.mram with ownerCounter := some (BitVec.ofNat 32 (fieldB img 7 4)) }
  if cmd ≤ 2 then
    let s := { s with mram := { m with owner := slotsAfter cmd img m.owner } }
    s.extend 8 s.slotTable
  else if cmd = 3 then { s with mram := { m with levels := BitVec.ofNat 12 (fieldB img 67 64) } }
  else
    match Config.unwrapDomainKey ((img.drop 64).take (payloadLen 4)) with
    | some k => { s with mram := { m with domainKey := some k, erased := false } }
    | none => s

/-- `op` 2 with a command of the given code (R464). -/
def State.ownerCommand (s : State) (w : Src) (cmd : Nat) (img : List Byte) : State :=
  let p := w.port.val
  if w.fn.val ≠ 0 || s.flag (SEC_MBCTL p) 31 then s
  else
    let s := s.setFld (SEC_MBCTL p) 29 28 2
    let r := s.ownerResult w cmd img
    let s := if r = 1 then s.ownerDo cmd img else s
    s.mbResult p r

/-! ### Debug (R465, R466) and the TAP (R490) -/

/-- Does a response unlock the state it claims? It is a signature block over the challenge and the `device` hash. -/
def State.unlocks (s : State) (claim : DebugClaim) (resp : List Byte) : Bool :=
  let msg := natLe 32 s.sec.challenge.toNat ++ deviceHash
  blockFormOk resp 0 &&
    (match claim with
     | .owner =>
       let o := s.ownerSlot (byteAt resp 1)
       o.valid && o.uses.getLsbD useDebug && blockSigned resp 0 msg o.alg.toNat o.hash
     | .laronson => s.mram.erased && blockSigned resp 0 msg 3 Config.rootKeyHash)

/-- An unlock attempt: the state it grants, or one more failure, the third of which fires the alarm source; and a new
challenge (R465, R466). -/
def State.debugTry (s : State) (claim : DebugClaim) (resp : List Byte) : State :=
  let good := s.unlocks claim resp
  let (c, s) := s.draw
  let s := { s with sec := { s.sec with challenge := BitVec.ofNat 256 c } }
  if good then
    let st := match claim with | .owner => 1 | .laronson => 2
    (s.setFld SEC_STAT 27 26 st).extend 9 (natLe 1 st)
  else
    let n := s.fld SEC_DBG 7 0
    let s := s.setFld SEC_DBG 7 0 (Nat.min (n + 1) 255)
    if n + 1 = 3 then s.alarmFire 8 else s

/-- Is a TAP instruction available in every debug state (R465)? -/
def tapAlways : JtagIns → Bool
  | .bypass => true | .idcode => true | .samplePreload => true
  | _ => false

/-- Does an instruction drive the pins from the boundary register? -/
def tapDrives : JtagIns → Bool
  | .extest => true | .extestPulse => true | .extestTrain => true
  | _ => false

/-- A TAP instruction is loaded (R490): it takes effect where the debug state allows it, and EXTEST holds the device
under the alarm's Hold level while it is selected (R465). -/
def State.tap (s : State) (i : JtagIns) : State :=
  if tapAlways i || s.fld SEC_STAT 27 26 != 0 then
    ({ s with pins := { s.pins with jtag := i }, sec := { s.sec with extest := tapDrives i } } : State).settlePower
  else s

/-! ### Meanings -/

/-- MAILBOX_ATTEST (R464). -/
def execMailboxAttest (w : Src) (nonce : BitVec 256) (s : State) : Host.Outcome State Fault Refusal :=
  .next (s.attest w nonce)
/-- ATTEST_REPORT_DONE (R464). -/
def execAttestReportDone (p : Port) (s : State) : Host.Outcome State Fault Refusal := .next (s.attestDone p.val)
/-- ENROL_SLOT (R461). -/
def execEnrolSlot (w : Src) (image : List Byte) (s : State) : Host.Outcome State Fault Refusal :=
  .next (s.ownerCommand w 1 image)
/-- REVOKE_SLOT (R460, R461). -/
def execRevokeSlot (w : Src) (image : List Byte) (s : State) : Host.Outcome State Fault Refusal :=
  .next (s.ownerCommand w 2 image)
/-- SET_ALARM_LEVELS (R460, R469). -/
def execSetAlarmLevels (w : Src) (image : List Byte) (s : State) : Host.Outcome State Fault Refusal :=
  .next (s.ownerCommand w 3 image)
/-- INSTALL_DOMAIN_KEY (R460, R470). -/
def execInstallDomainKey (w : Src) (image : List Byte) (s : State) : Host.Outcome State Fault Refusal :=
  .next (s.ownerCommand w 4 image)
/-- MEASUREMENT_EXTEND (R463). -/
def execMeasurementExtend (w : Src) (data : BitVec 256) (s : State) : Host.Outcome State Fault Refusal :=
  .next (s.extendWrite w data)
/-- DEBUG_UNLOCK (R465, R466). -/
def execDebugUnlock (claim : DebugClaim) (response : List Byte) (s : State) : Host.Outcome State Fault Refusal :=
  .next (s.debugTry claim response)
/-- JTAG_INSTRUCTION (R490, R465). -/
def execJtagInstruction (i : JtagIns) (s : State) : Host.Outcome State Fault Refusal := .next (s.tap i)

end Sys2Proof.Machine
end

