-- ==== Sys2Proof/Machine/AuditOps.lean ====
section
/-! DEFINITION. The Audit converters and their bursts, group temperatures and the triggers of calibration runs
(11_calibration_and_audit.md R333 to R347), and the Vault stacks' refresh mode (01 R23). -/

namespace Sys2Proof.Machine

/-! ### Triggers of calibration runs (R346, R347) -/

/-- Bytes [hi:lo] of the posted calibration policy (R354); 0 before a Charter posts. -/
def State.calPol (s : State) (hi lo : Nat) : Nat := if s.serve.posted then s.chr secCal hi lo else 0

/-- Byte `o` of group `u`'s calibration record in the Till of die `d` (R353). -/
def State.calRecord (s : State) (d u o : Nat) : Nat := till d (s.calPol 25 22 * 4096 + u * 8192 + o)

/-- Rings of die `d` in use. -/
def State.ringsUsed (s : State) (d : Nat) : List Nat :=
  (s.cal.rings.filter (fun e => e.1 / 512 == d)).map (fun e => e.1 % 512)

/-- The ring of its die's pool that group `u` of die `d` holds. -/
def State.ringOf (s : State) (d u : Nat) : Option Nat :=
  (s.cal.rings.find? (fun e => e.2 == u * 4 + d + 1)).map (fun e => e.1 % 512)

/-- Put a due group's ring in its hand, if one is free (R347). -/
def State.grantRing (s : State) (d u : Nat) : State :=
  let k := lowestFree (s.ringsUsed d) 0
  if k < s.calPol 11 10 then
    let s := { s with cal := { s.cal with rings := put 0 s.cal.rings (d * 512 + k) (u * 4 + d + 1),
                                          due := s.cal.due.filter (fun g => g != u * 4 + d) } }
    (s.setFlag (MGC_CAL d u) 31 false).writeNat (s.calRecord d u 2) 1 1
  else s

/-- A trigger (R346): `calibrating` is set at once; a running group restarts at the next boundary; any other waits for a
ring and then for the boundary (R347). -/
def State.calTrigger (s : State) (d u reason : Nat) : State :=
  let g := u * 4 + d
  let s := (s.setFlag (MGC_STAT d u) 31 true).setFld (MGC_CAL d u) 19 16 reason
  let s := if s.serve.posted then s.writeNat (s.calRecord d u 3) 1 reason else s
  if s.cal.runs.any (fun e => e.1 == g) then
    (if s.cal.again.contains g then s else { s with cal := { s.cal with again := s.cal.again ++ [g] } })
  else if (s.ringOf d u).isSome || s.cal.due.contains g then s
  else
    let s := { s with cal := { s.cal with due := s.cal.due ++ [g] } }
    let s := s.setFlag (MGC_CAL d u) 31 true
    let s := if s.serve.posted then s.writeNat (s.calRecord d u 2) 1 1 else s
    s.grantRing d u

/-- A trigger of every group of Mint die `m`. -/
def State.calTriggerMint (s : State) (m reason : Nat) : State :=
  (List.range 128).foldl (fun s g => s.calTrigger (m / 4) (m % 4 * 128 + g) reason) s

/-- A group's temperature, and reason 1 where it has moved more than `temp_delta` from `ref_temp` (R343, R346). -/
def State.groupTemp (s : State) (d u : Nat) (t : Int) : State :=
  let s := s.setFld (MGC_TEMP d u) 15 0 (toTwos 16 t)
  let away := t - signed 16 (s.fld (MGC_CAL d u) 15 0)
  if s.serve.posted && decide (s.calPol 1 1 < away.natAbs) then s.calTrigger d u 1 else s

/-- The groups under Mint sensor `ch` of Array die `d` take its reading (R333, R343). -/
def State.sensorLatched (s : State) (d ch : Nat) : State :=
  if d < 4 ∧ ch < 16 then
    let t := s.tempOf d ch
    (List.range 32).foldl (fun s j => s.groupTemp d (ch / 4 * 128 + ch % 4 * 32 + j) t) s
  else s

/-! ### Conversions (R334 to R340) -/

/-- The half a converter belongs to. -/
def converterHalf (i : Nat) : Nat := if i < 4 then i / 2 else i - 4
/-- The die code of a converter (R333, R362). -/
def converterDie (i : Nat) : Nat := if i < 4 then i else 0x3C + i

/-- A tracker takes a conversion (R339). -/
def State.track (s : State) (i n code : Nat) (hi lo : Bool) : State :=
  let v := if hi then 0xFFF else if lo then 0 else code
  let a := AUD_TRK i n
  let s := s.setFlag a 63 false
  let s := s.setFld a 11 0 (Nat.min (s.fld a 11 0) v)
  let s := s.setFld a 43 32 (Nat.max (s.fld a 43 32) v)
  let lim := AUD_LIM i n
  let above := s.flag lim 31 && (hi || decide (s.fld lim 27 16 < v))
  let below := s.flag lim 31 && (lo || decide (v < s.fld lim 11 0))
  let tell (s : State) (k up : Nat) : State :=
    let was := s.flag a k
    let s := s.setFlag a k true
    if 24 ≤ n ∧ was = false then s.eventAll 0x23 i (2 * n + up) else s
  let s := if above then tell s 62 1 else s
  if below then tell s 61 0 else s

/-- A conversion goes to AUD_DATA in Denja mode (R340). -/
def State.denja (s : State) (i ch code : Nat) (hi lo unset : Bool) : State :=
  let s := if s.flag (AUD_DATA i) 31 then s.setFlag (AUD_DATA i) 30 true else s
  let keep := s.fld (AUD_DATA i) 30 30
  s.setReg (AUD_DATA i) (BitVec.ofNat 64 (2 ^ 31 + keep * 2 ^ 30 + unset.toNat * 2 ^ 29 + hi.toNat * 2 ^ 28
    + lo.toNat * 2 ^ 27 + ch * 2 ^ 12 + code))

/-- Latch an accumulator (R338). -/
def State.latch (s : State) (i n ch : Nat) : State :=
  let a := s.audit i
  let s := s.setReg (AUD_ACC i n) (BitVec.ofNat 64 (a.sum % 2 ^ 20 + a.cnt % 512 * 2 ^ 32 + a.lo.toNat * 2 ^ 60
    + a.hi.toNat * 2 ^ 61 + a.unset.toNat * 2 ^ 62))
  (s.setFlag (AUD_NEW i) n true).sensorLatched i ch

/-- The Charter's entries 24 to 31 and their limits replace those in use (R337). -/
def State.takeShadow (s : State) (i : Nat) : State :=
  match (s.audit i).shadow with
  | none => s
  | some (es, ls) =>
    let s := (es.zipIdx).foldl (fun s e => s.setReg (AUD_ENT i (24 + e.2)) e.1) s
    let s := (ls.zipIdx).foldl (fun s e => s.setReg (AUD_LIM i (24 + e.2)) (e.1.setWidth 64)) s
    s.setAudit i { s.audit i with shadow := none }

/-- The end of a loop pass: the shadow table, the rails, and on an Array-die converter the thermal limits (R337, R479,
R484). -/
def State.loopPass (s : State) (i : Nat) : State :=
  let s := (s.takeShadow i).railPass i
  if i < 4 then s.thermalPass i else s

/-- Is an entry of the sequence table enabled? -/
def State.entryOn (s : State) (i e : Nat) : Bool := s.flag (AUD_ENT i e) 63

/-- Go on from entry `e` to the next enabled one, passing the end of the table where need be (R336). -/
def State.nextEntry (s : State) (i e : Nat) : State :=
  match (range e 32).find? (s.entryOn i) with
  | some n => (s.setAudit i { s.audit i with entry := n, chan := 0, rep := 0 }).setFld (AUD_STAT i) 25 21 n
  | none =>
    let s := s.loopPass i
    let n := ((List.range 32).find? (s.entryOn i)).getD 0
    (s.setAudit i { s.audit i with entry := n, chan := 0, rep := 0 }).setFld (AUD_STAT i) 25 21 n

/-- One conversion of a converter ends (R334, R336, R338 to R340). -/
def State.convert (s : State) (i code : Nat) (hi lo : Bool) : State :=
  let s := if s.entryOn i (s.audit i).entry then s else s.nextEntry i (s.audit i).entry
  let a := s.audit i
  if !s.flag (AUD_STAT i) 31 || a.burst || !s.entryOn i a.entry then s
  else
    let w := s.reg (AUD_ENT i a.entry)
    let ch := bits w 5 0 + a.chan
    let unset := s.fld (AUD_SETTLE i) 17 0 != 0
    let s := s.bump (AUD_CNT_CONV i) 1
    let s := if hi || lo then s.bump (AUD_CNT_RANGE i) 1 else s
    let s := if bitOf w 60 && !unset then s.track i (bits w 52 48 + a.chan) code hi lo else s
    let s := if bitOf w 62 && s.flag (AUD_CTRL i) 0 then s.denja i ch code hi lo unset else s
    let inRange := !(hi || lo)
    let s := s.setAudit i { s.audit i with
      sum := a.sum + (if inRange then code else 0), cnt := a.cnt + inRange.toNat, hi := a.hi || hi, lo := a.lo || lo,
      unset := a.unset || unset, rep := a.rep + 1 }
    if a.rep < bits w 13 6 then s
    else
      let s := if bitOf w 61 then s.latch i (bits w 44 40 + a.chan) ch else s
      let s := s.setAudit i { s.audit i with
        sum := 0, cnt := 0, hi := false, lo := false, unset := false, rep := 0, chan := a.chan + 1 }
      if a.chan < bits w 59 54 then s else s.nextEntry i (a.entry + 1)

/-- AUD_DATA is read through BAR0 (R340). -/
def State.readData (s : State) (w : Src) (i : Nat) : State :=
  let v := s.reg (AUD_DATA i)
  (s.send (.completion w.port.val (natLe 4 v.toNat) false)).setFlag (AUD_DATA i) 31 false

/-- A write to AUD_TRKCLR: trackers 24 to 31 alone (R339, R356). -/
def State.clearTrackers (s : State) (w : Src) (i mask : Nat) : State :=
  if s.holder w then
    ((range 24 32).filter (nbit mask)).foldl (fun s n =>
      (s.setFld (AUD_TRK i n) 11 0 0xFFF).setFld (AUD_TRK i n) 43 32 0) s
  else s

/-- `refbuf_en` goes from 0 to 1 (R335). -/
def State.refbufOn (s : State) (w : Src) (i : Nat) : State :=
  if s.holder w && !s.flag (AUD_CTRL i) 1 then
    ((s.setFlag (AUD_CTRL i) 1 true).setFld (AUD_SETTLE i) 17 0 160000).setFlag (AUD_STAT i) 30 false
  else s

/-- The settle count reaches 0 (R335). -/
def State.refbufDone (s : State) (i : Nat) : State :=
  if s.flag (AUD_CTRL i) 1 then (s.setFld (AUD_SETTLE i) 17 0 0).setFlag (AUD_STAT i) 30 true else s

/-! ### Bursts (R341 to R344) -/

/-- A burst starts: every accumulator and tracker holds and is stale (R341). -/
def State.burstStart (s : State) (i : Nat) : State :=
  if !s.flag (AUD_STAT i) 31 || (s.audit i).burst then s
  else
    let s := s.setAudit i { s.audit i with burst := true }
    let s := (s.setFlag (AUD_STAT i) 29 true).bump (AUD_CNT_BURST i) 1
    (List.range 32).foldl (fun s n => (s.setFlag (AUD_ACC i n) 63 true).setFlag (AUD_TRK i n) 63 true) s

/-- A gain in codes per volt with 20 fraction bits, from the sum of 256 codes less the offset and a voltage in units of
2^-20 V; rounded to nearest, ties to even (R342; DESIGN CHOICE, log entry 21). -/
def gainOf (sum : Int) (volt : Nat) : Int := divRne (sum * 2 ^ 32) volt

/-- 1.200 V gives the same gain in exact tenths: sum / 256 / 1.2, 20 fraction bits. -/
def gainExt (sum : Int) : Int := divRne (sum * 2 ^ 12 * 5) 6

/-- Is the external reference plausible (R342)? -/
def plausible (b : BurstData) (unset : Bool) : Bool :=
  let g := gainExt ((b.ext : Int) - b.ground)
  !b.extBad && !unset && decide (100 * (3 * g - 8192 * 2 ^ 20).natAbs ≤ 3 * (8192 * 2 ^ 20)) &&
    decide (b.ground ≤ 32 * 256)

/-- The reference a burst leaves in use, with its events and record (R342). -/
def State.reference (s : State) (i : Nat) (b : BurstData) : State :=
  let o : Nat := b.ground
  let ge := gainExt ((b.ext : Int) - b.ground)
  let gb := if hi : i < 6 then gainOf ((b.bandgap : Int) - b.ground) (Config.bandgapFuse ⟨i, hi⟩) else 0
  let good := plausible b (s.fld (AUD_SETTLE i) 17 0 != 0)
  let first := s.reg (AUD_CALG i) == 0
  let s := s.setReg (AUD_CALO i) (BitVec.ofNat 64 (toTwos 16 o))
  let gain (s : State) (g : Int) : State := s.setReg (AUD_CALG i) (BitVec.ofNat 64 (toTwos 32 g))
  if !good then
    let s := ((gain s gb).setFlag (AUD_STAT i) 28 false).setFlag (AUD_STAT i) 27 true
    let s := s.setAudit i { s.audit i with goodRun := 0 }
    let s := s.fault (faultOf clsCal (converterDie i) blkAudit i 0 0)
    s.eventAll 0x22 i 0
  else
    let run := (s.audit i).goodRun + 1
    let s := s.setAudit i { s.audit i with goodRun := run }
    if !first && !s.flag (AUD_STAT i) 28 && decide (run < 2) then gain s gb
    else
      let back := !first && !s.flag (AUD_STAT i) 28
      let s := (gain s ge).setFlag (AUD_STAT i) 28 true
      let s := if back then s.eventAll 0x22 i 1 else s
      if decide (gb.natAbs < 100 * (ge - gb).natAbs) then s.eventAll 0x22 i 2 else s

/-- The ladder of Mint die `m` from its tap's sum of 64 codes (R344): *e* is the numerator over the gain. -/
def State.ladderPass (s : State) (i m tap : Nat) : State :=
  let g : Int := s.fld (AUD_CALG i) 31 0
  let o : Int := signed 16 (s.fld (AUD_CALO i) 15 0)
  let num := (4 * (tap : Int) - o) * 5120 - g
  let s := s.setFld (MGV_LADDER m) 25 16 (toTwos 10 (clampInt (-512) 511 (divRne (num * 10000) g.natAbs)))
  if s.serve.posted && decide (s.calPol 9 9 * g.natAbs < 10000 * num.natAbs) then
    let old := match s.cal.ladder.find? (fun e => e.1 == m) with
      | some e => e.2 - 1024
      | none => signed 10 (s.fld (MGV_LADDER m) 9 0)
    let want := old - divRne (num * 4096) g.natAbs
    let trim := clampInt (-511) 511 want
    let s := { s with cal := { s.cal with ladder := put 0 s.cal.ladder m (trim + 1024) } }
    if trim ≠ want then s.fault (faultOf clsCal (dieMint m) blkAudit i 0 (toTwos 48 trim)) else s
  else s

/-- The replica cells of Mint die `m`, kept beside their values at the Charter's posting (R344; DEDUCED, log entry 22). -/
def State.replicaPass (s : State) (m : Nat) (r : Nat × Nat) : State :=
  let s := { s with cal := { s.cal with replica := put (0, 0) s.cal.replica m r } }
  let r0 := look (0, 0) s.cal.replica (16 + m)
  let moved (a b : Nat) : Bool := decide (b < 28 * ((a : Int) - b).natAbs)
  if s.serve.posted && r0 != (0, 0) && (moved r.1 r0.1 || moved r.2 r0.2) then s.calTriggerMint m 3 else s

/-- A burst ends (R341, R342, R344). -/
def State.burstDone (s : State) (i : Nat) (b : BurstData) : State :=
  if !(s.audit i).burst then s
  else
    let s := s.setAudit i { s.audit i with burst := false }
    let s := (s.setFlag (AUD_STAT i) 29 false).reference i b
    if i < 4 then
      let s := (b.ladders.zipIdx).foldl (fun s e => if e.2 < 4 then s.ladderPass i (4 * i + e.2) e.1 else s) s
      (b.replicas.zipIdx).foldl (fun s e => if e.2 < 4 then s.replicaPass (4 * i + e.2) e.1 else s) s
    else s

/-- A write of 1 to `start` of MGC_CAL (R346). -/
def State.calStart (s : State) (w : Src) (d u : Nat) : State := if s.holder w then s.calTrigger d u 5 else s

/-! ### Vault stacks (01 R23) -/

/-- Refresh mode of a stack at slot 0 of a period: hot above 85 °C, normal below 80 °C; `temp` is in steps of
0.125 °C. -/
def State.vaultMode (s : State) (v : Nat) (temp : Int) : State :=
  if 85 * 8 < temp then s.setFlag (VLT_CAL v) 31 true
  else if temp < 80 * 8 then s.setFlag (VLT_CAL v) 31 false
  else s

/-! ### Meanings -/

/-- CAL_START_WRITE (R346). -/
def execCalStartWrite (w : Src) (d : Die) (u : Fin 512) (s : State) : Host.Outcome State Fault Refusal :=
  .next (s.calStart w d.val u.val)
/-- AUDIT_CONVERSION (R334, R336). -/
def execAuditConversion (i : Fin 6) (code : BitVec 12) (hi lo : Bool) (s : State) :
    Host.Outcome State Fault Refusal :=
  .next (s.convert i.val code.toNat hi lo)
/-- AUDIT_BURST_START (R341). -/
def execAuditBurstStart (i : Fin 6) (s : State) : Host.Outcome State Fault Refusal := .next (s.burstStart i.val)
/-- AUDIT_BURST_DONE (R342, R344). -/
def execAuditBurstDone (i : Fin 6) (b : BurstData) (s : State) : Host.Outcome State Fault Refusal :=
  .next (s.burstDone i.val b)
/-- REFBUF_ENABLE (R335). -/
def execRefbufEnable (w : Src) (i : Fin 6) (s : State) : Host.Outcome State Fault Refusal := .next (s.refbufOn w i.val)
/-- REFBUF_SETTLED (R335). -/
def execRefbufSettled (i : Fin 6) (s : State) : Host.Outcome State Fault Refusal := .next (s.refbufDone i.val)
/-- AUD_DATA_READ (R340). -/
def execAudDataRead (w : Src) (i : Fin 6) (s : State) : Host.Outcome State Fault Refusal := .next (s.readData w i.val)
/-- TRACKER_CLEAR (R339). -/
def execTrackerClear (w : Src) (i : Fin 6) (mask : Word32) (s : State) : Host.Outcome State Fault Refusal :=
  .next (s.clearTrackers w i.val mask.toNat)
/-- VAULT_MODE_CHANGE (R23). -/
def execVaultModeChange (v : Fin 4) (temp : Int) (s : State) : Host.Outcome State Fault Refusal :=
  .next (s.vaultMode v.val temp)

end Sys2Proof.Machine
end

