-- ==== Sys2Proof/Machine/Numbers.lean ====
section
/-! DEFINITION. Number formats (03_number_formats_and_accumulation.md): exact values, the floating-point formats and
their one rounding, the Hoard, partial records, and quantising into denominated blocks. -/

namespace Sys2Proof.Machine

/-! ### Exact values -/

/-- A value on its way into a format: not a number, an infinity, or plus or minus `m` times 2^`e` (R53). A zero keeps
its sign. -/
inductive Num where
  | nan
  | inf (neg : Bool)
  | fin (neg : Bool) (m : Nat) (e : Int)
  deriving DecidableEq, Repr

/-- Plus zero. -/
def Num.zero : Num := .fin false 0 0

/-- An integer times 2^e. -/
def Num.ofInt (i : Int) (e : Int) : Num := .fin (decide (i < 0)) i.natAbs e

/-- The integer that a finite value is in units of 2^e; the caller's `e` is at most the value's own exponent. -/
def Num.toUnits (x : Num) (e : Int) : Int :=
  match x with
  | .fin neg m e' => let v : Int := ((m * 2 ^ (e' - e).toNat : Nat) : Int); if neg then -v else v
  | _ => 0

/-- The exponent of a finite value; 0 of any other. -/
def Num.expo : Num → Int
  | .fin _ 0 _ => 0
  | .fin _ _ e => e
  | _ => 0

/-- Is the value a NaN or an infinity (R56)? -/
def Num.special : Num → Bool
  | .fin _ _ _ => false
  | _ => true

/-- The smallest exponent of a list of values: a unit in which all of them are integers. -/
def unitOf (xs : List Num) : Int :=
  xs.foldl (fun a x => match x with | .fin _ 0 _ => a | .fin _ _ e => if e < a then e else a | _ => a) 0

/-! ### Floating-point formats (R53) -/

/-- A floating-point format: mantissa bits, bias, total bits, infinities, and the code of its largest finite value. -/
structure Fmt where
  mb   : Nat
  bias : Nat
  bits : Nat
  infs : Bool
  top  : Nat
  qnan : Nat
  deriving DecidableEq, Repr

def fp32 : Fmt := ⟨23, 127, 32, true, 0x7F7FFFFF, 0x7FC00000⟩
def bf16 : Fmt := ⟨7, 127, 16, true, 0x7F7F, 0x7FC0⟩
def e4m3 : Fmt := ⟨3, 7, 8, false, 0x7E, 0x7F⟩
def e5m2 : Fmt := ⟨2, 15, 8, true, 0x7B, 0x7E⟩
/-- IEEE binary64, which the trim fits of R348 use. -/
def fp64 : Fmt := ⟨52, 1023, 64, true, 0x7FEFFFFFFFFFFFFF, 0x7FF8000000000000⟩

/-- The bit of a format's sign. -/
def Fmt.sign (f : Fmt) : Nat := 2 ^ (f.bits - 1)
/-- The code of plus infinity. -/
def Fmt.infCode (f : Fmt) : Nat := f.top + 1

/-- The value a code names (R53). -/
def Fmt.decode (f : Fmt) (c : Nat) : Num :=
  let neg := nbit c (f.bits - 1)
  let a := c % f.sign
  if f.infs && a == f.infCode then .inf neg
  else if f.top < a then .nan
  else
    let ex := a / 2 ^ f.mb
    let m := a % 2 ^ f.mb
    if ex = 0 then .fin neg m (1 - (f.bias : Int) - f.mb)
    else .fin neg (2 ^ f.mb + m) ((ex : Int) - f.bias - f.mb)

/-- Round `p / q` to nearest, ties to even (R57). -/
def rneQ (p q : Nat) : Nat :=
  let n := p / q
  let r := p % q
  if 2 * r < q then n else if q < 2 * r then n + 1 else if n % 2 = 0 then n else n + 1

/-- The floor of the base-2 logarithm of `p / q`, for `p` above 0. -/
def log2Q (p q : Nat) : Int :=
  let k : Int := (Nat.log2 p : Int) - Nat.log2 q
  -- p/q lies in (2^(k-1), 2^(k+1))
  let le : Bool := if 0 ≤ k then decide (q * 2 ^ k.toNat ≤ p) else decide (q ≤ p * 2 ^ (-k).toNat)
  if le then k else k - 1

/-- `p / (q * 2^e)` as a pair of naturals. -/
def scaleQ (p q : Nat) (e : Int) : Nat × Nat :=
  if 0 ≤ e then (p, q * 2 ^ e.toNat) else (p * 2 ^ (-e).toNat, q)

/-- Round plus `p / q` (q above 0) into a format: its code without the sign, and whether it overflowed (R55). -/
def Fmt.roundPos (f : Fmt) (p q : Nat) : Nat × Bool :=
  if p = 0 then (0, false)
  else
    let emin : Int := 1 - (f.bias : Int) - f.mb
    let qe : Int := max (log2Q p q - f.mb) emin
    let (a, b) := scaleQ p q qe
    let n := rneQ a b
    let code : Nat :=
      if n < 2 ^ f.mb then n else
        let (n, qe) := if n = 2 ^ (f.mb + 1) then (2 ^ f.mb, qe + 1) else (n, qe)
        (qe + f.mb + f.bias).toNat * 2 ^ f.mb + (n - 2 ^ f.mb)
    if f.top < code then ((if f.infs && f.bits != 8 then f.infCode else f.top), true) else (code, false)

/-- A sign put on a code. -/
def Fmt.withSign (f : Fmt) (neg : Bool) (c : Nat) : Nat := if neg then f.sign + c else c

/-- Round a value into a format: the code, and whether it saturated or overflowed (R54, R55). -/
def Fmt.encodeS (f : Fmt) (x : Num) : Nat × Bool :=
  match x with
  | .nan => (f.qnan, false)
  | .inf neg => (if f.infs then f.withSign neg f.infCode else f.qnan, false)
  | .fin neg m e =>
    let (p, q) := if 0 ≤ e then (m * 2 ^ e.toNat, 1) else (m, 2 ^ (-e).toNat)
    let (c, o) := f.roundPos p q
    (f.withSign neg c, o)

/-- Round a value into a format. -/
def Fmt.encode (f : Fmt) (x : Num) : Nat := (f.encodeS x).1

/-- Is a code a NaN of its format? -/
def Fmt.isNan (f : Fmt) (c : Nat) : Bool := match f.decode c with | .nan => true | _ => false

/-- The exact sum of two values: a zero sum of opposite signs is plus zero, as IEEE 754 gives it (R76). -/
def Num.add (x y : Num) : Num :=
  match x, y with
  | .nan, _ => .nan
  | _, .nan => .nan
  | .inf a, .inf b => if a = b then .inf a else .nan
  | .inf a, _ => .inf a
  | _, .inf b => .inf b
  | .fin a 0 e, .fin b 0 _ => .fin (a && b) 0 e
  | x, y =>
    let e := min x.expo y.expo
    let v := x.toUnits e + y.toUnits e
    Num.ofInt v e

/-- The value with its sign turned. -/
def Num.neg : Num → Num
  | .nan => .nan
  | .inf a => .inf !a
  | .fin a m e => .fin (!a) m e

/-- The value without its sign. -/
def Num.abs : Num → Num
  | .nan => .nan
  | .inf _ => .inf false
  | .fin _ m e => .fin false m e

/-- The exact product of two values. -/
def Num.mul (x y : Num) : Num :=
  match x, y with
  | .nan, _ => .nan
  | _, .nan => .nan
  | .inf a, .inf b => .inf (a != b)
  | .inf a, .fin b m _ => if m = 0 then .nan else .inf (a != b)
  | .fin a m _, .inf b => if m = 0 then .nan else .inf (a != b)
  | .fin a m e, .fin b n k => .fin (a != b) (m * n) (e + k)

/-- A sum rounded once into a format. -/
def Fmt.add (f : Fmt) (a b : Nat) : Nat := f.encode ((f.decode a).add (f.decode b))
/-- A difference rounded once. -/
def Fmt.sub (f : Fmt) (a b : Nat) : Nat := f.encode ((f.decode a).add (f.decode b).neg)
/-- A product rounded once. -/
def Fmt.mul (f : Fmt) (a b : Nat) : Nat := f.encode ((f.decode a).mul (f.decode b))

/-- A quotient rounded once. -/
def Fmt.div (f : Fmt) (a b : Nat) : Nat :=
  match f.decode a, f.decode b with
  | .nan, _ => f.qnan
  | _, .nan => f.qnan
  | .inf _, .inf _ => f.qnan
  | .inf x, .fin y _ _ => f.withSign (x != y) f.infCode
  | .fin x _ _, .inf y => f.withSign (x != y) 0
  | .fin x m e, .fin y n k =>
    if n = 0 then (if m = 0 then f.qnan else f.withSign (x != y) f.infCode)
    else
      let d := e - k
      let (p, q) := if 0 ≤ d then (m * 2 ^ d.toNat, n) else (m, n * 2 ^ (-d).toNat)
      f.withSign (x != y) (f.roundPos p q).1

/-- A square root rounded once. -/
def Fmt.sqrt (f : Fmt) (a : Nat) : Nat :=
  match f.decode a with
  | .nan => f.qnan
  | .inf neg => if neg then f.qnan else f.infCode
  | .fin neg m e =>
    if m = 0 then f.withSign neg 0
    else if neg then f.qnan
    else
      -- m·2^e = M·2^(2k) with a long M, so that the root's remainder only breaks ties
      let sh : Nat := 2 * f.bits + (if (e - 2 * f.bits) % 2 = 0 then 0 else 1)
      let big := m * 2 ^ sh
      let r := isqrt big
      let k := (e - sh) / 2
      let r2 := 2 * r + (if r * r = big then 0 else 1)
      let (p, q) := if 0 ≤ k - 1 then (r2 * 2 ^ (k - 1).toNat, 1) else (r2, 2 ^ (1 - k).toNat)
      (f.roundPos p q).1

/-- Is one value below another? NaN is below nothing. -/
def Num.lt (x y : Num) : Bool :=
  match x, y with
  | .nan, _ => false
  | _, .nan => false
  | .inf a, .inf b => a && !b
  | .inf a, _ => a
  | _, .inf b => !b
  | x, y => let e := min x.expo y.expo; decide (x.toUnits e < y.toUnits e)

/-- An integer rounded once into a format. -/
def Fmt.ofInt (f : Fmt) (i : Int) : Nat := f.encode (Num.ofInt i 0)

/-! ### Hoards (R74 to R76) -/

/-- The range of R74. -/
def hoardTop : Int := 2 ^ 575 - 1
def hoardBot : Int := -(2 ^ 575)

/-- Put a sum into range, marking what leaves it (R75). -/
def Hoard.settle (h : Hoard) : Hoard :=
  if hoardTop < h.val then { h with val := hoardTop, ovf := true }
  else if h.val < hoardBot then { h with val := hoardBot, ovf := true }
  else h

/-- Add one term, exactly (R75). -/
def Hoard.addNum (h : Hoard) (x : Num) : Hoard :=
  let h := { h with terms := Nat.min (h.terms + 1) (2 ^ 64 - 1), beyond := h.beyond || decide (2 ^ 32 < h.terms + 1) }
  match x with
  | .nan => { h with nan := true }
  | .inf false => { h with pinf := true }
  | .inf true => { h with ninf := true }
  | .fin _ _ _ => ({ h with val := h.val + x.toUnits (-270) } : Hoard).settle

/-- Add a list of terms. -/
def Hoard.addAll (h : Hoard) (xs : List Num) : Hoard := xs.foldl Hoard.addNum h

/-- Mark poison. -/
def Hoard.spoil (h : Hoard) : Hoard := { h with poison := true }

/-- Add two Hoards: values exactly, terms, flags ORed (R77, R82). -/
def Hoard.join (a b : Hoard) : Hoard :=
  let t := a.terms + b.terms
  ({ val := a.val + b.val, terms := Nat.min t (2 ^ 64 - 1), nan := a.nan || b.nan, pinf := a.pinf || b.pinf,
     ninf := a.ninf || b.ninf, poison := a.poison || b.poison, ovf := a.ovf || b.ovf,
     beyond := a.beyond || b.beyond || decide (2 ^ 32 < t) } : Hoard).settle

/-- What a Hoard holds, its flags decided in the order of R76; `none` is poison. -/
def Hoard.value (h : Hoard) : Option Num :=
  if h.poison then none
  else if h.nan || (h.pinf && h.ninf) then some .nan
  else if h.pinf then some (.inf false)
  else if h.ninf then some (.inf true)
  else some (Num.ofInt h.val (-270))

/-- Read out into a floating-point format with one rounding (R76); `none` is poison. -/
def Hoard.readOut (h : Hoard) (f : Fmt) : Option Nat := h.value.map f.encode

/-! ### Partial records (R81) -/

/-- The flags byte of a partial record. -/
def Hoard.flagByte (h : Hoard) : Nat :=
  h.nan.toNat + 2 * h.pinf.toNat + 4 * h.ninf.toNat + 8 * h.poison.toNat + 16 * h.ovf.toNat + 32 * h.beyond.toNat

/-- The 96 bytes of a partial record written by `source`. -/
def Hoard.encode (h : Hoard) (source : Nat) : List Byte :=
  natLe 72 (toTwos 576 h.val) ++ natLe 8 h.terms ++ natLe 1 h.flagByte ++ natLe 1 (h.val % 7).toNat ++ natLe 2 source
    ++ natLe 12 0

/-- A partial record read back; `none` when it fails a check of R81. -/
def Hoard.decode? (b : List Byte) : Option Hoard :=
  let v := signed 576 (fieldB b 71 0)
  let fl := byteAt b 80
  if byteAt b 81 ≠ (v % 7).toNat ∨ 64 ≤ fl ∨ fieldB b 95 84 ≠ 0 then none
  else some { val := v, terms := fieldB b 79 72, nan := nbit fl 0, pinf := nbit fl 1, ninf := nbit fl 2,
              poison := nbit fl 3, ovf := nbit fl 4, beyond := nbit fl 5 }

/-! ### Denominated blocks (R48 to R52, R59 to R62) -/

/-- The largest magnitude of DB`n`. -/
def dbMax (n : Nat) : Nat := if n ≤ 1 then 1 else 2 ^ (n - 1) - 1

/-- An element from its code: its value, and whether the code was invalid (R50, R51). -/
def dbElem (n c : Nat) : Int × Bool :=
  if n ≤ 1 then (if c % 2 = 1 then 1 else -1, false)
  else if c % 2 ^ n = 2 ^ (n - 1) then (0, true)
  else (signed n c, false)

/-- The code of an element. -/
def dbCode (n : Nat) (e : Int) : Nat := if n ≤ 1 then (if e < 0 then 0 else 1) else toTwos n e

/-- The elements of a block from its `4n` bytes, with how many codes were invalid (R52). -/
def dbUnpack (n : Nat) (bs : List Byte) : List Int × Nat :=
  let w := leNat bs
  let es := (List.range 32).map (fun i => dbElem n (w / 2 ^ (n * i) % 2 ^ n))
  (es.map Prod.fst, (es.filter Prod.snd).length)

/-- The `4n` bytes of a block (R52). -/
def dbPack (n : Nat) (es : List Int) : List Byte :=
  natLe (4 * n) (es.reverse.foldl (fun a e => a * 2 ^ n + dbCode n e) 0)

/-- A block that a unit has quantised: its denomination, its elements and what the layer's counters gain. -/
structure Quant where
  denom   : Nat
  elems   : List Int
  sat     : Nat
  satAll  : Bool
  under   : Bool
  poison  : Bool
  deriving DecidableEq, Repr

/-- How a quantising unit rounds: to nearest even, or by R58 with the draws `us` (one for each element). -/
def roundMag (us : Option (List Nat)) (i p q : Nat) : Nat :=
  match us with
  | none => rneQ p q
  | some us => let f := (p % q) * 65536 / q; p / q + (if us.getD i 0 < f then 1 else 0)

/-- Magnitude `m` units of 2^e divided by the step 2^(D-127), as a quotient. -/
def stepQ (m : Nat) (e : Int) (d : Nat) : Nat × Nat := scaleQ m 1 ((d : Int) - 127 - e)

/-- The elements at a denomination, unclamped. -/
def dbScale (us : Option (List Nat)) (e : Int) (d : Nat) (ms : List Int) : List Int :=
  (ms.zipIdx).map (fun (m, i) =>
    let (p, q) := stepQ m.natAbs e d
    let r : Int := roundMag us i p q
    if m < 0 then -r else r)

/-- The smallest denomination under which the largest magnitude fits; 0xFE where none does (R59). -/
def dbDenom (us : Option (List Nat)) (n : Nat) (e : Int) (ms : List Int) : Nat :=
  let big := maxOr 0 (ms.map Int.natAbs)
  let at_ := (ms.map Int.natAbs).idxOf big
  let fits (d : Nat) : Bool := let (p, q) := stepQ big e d; decide (roundMag us at_ p q ≤ dbMax n)
  -- the step below the one that holds `big` in n - 1 bits is the first that can fit
  let guess : Int := (Nat.log2 big : Int) + e + 127 - (n : Int)
  let lo := if guess < 1 then 1 else if 0xFE < guess then 0xFE else guess.toNat
  ((range lo (lo + 5)).find? (fun d => d ≤ 0xFE && fits d)).getD 0xFE

/-- The denomination of a DB1 block: the step nearest in logarithm to the mean magnitude (R59). -/
def db1Denom (e : Int) (ms : List Int) : Nat :=
  let s := (ms.map Int.natAbs).foldl (· + ·) 0
  let k0 := log2Q s 32
  -- mean^2 against 2^(2 k0 + 1)
  let up : Bool := let (p, q) := scaleQ (s * s) 1024 (2 * k0 + 1); decide (q ≤ p)
  let k := k0 + (if up then 1 else 0) + e + 127
  if k < 1 then 1 else if 0xFE < k then 0xFE else k.toNat

/-- Quantise a block of 32 values into DB`n`: dynamic where `static` is none (R56, R59 to R61). -/
def quantise (n : Nat) (static : Option Nat) (us : Option (List Nat)) (xs : List Num) : Quant :=
  if xs.any Num.special then ⟨0xFF, xs.map (fun _ => 0), 0, false, false, true⟩
  else
    let e := unitOf xs
    let ms := xs.map (fun x => x.toUnits e)
    if ms.all (· == 0) then ⟨0, ms.map (fun _ => 0), 0, false, false, false⟩
    else if n ≤ 1 then
      ⟨static.getD (db1Denom e ms), ms.map (fun m => if m < 0 then -1 else 1), 0, false, false, false⟩
    else
      let d := static.getD (dbDenom us n e ms)
      let es := dbScale us e d ms
      let top : Int := dbMax n
      let sat := (es.filter (fun x => decide (top < (x.natAbs : Int)))).length
      if es.all (· == 0) then ⟨0, ms.map (fun _ => 0), 0, false, true, false⟩
      else ⟨d, es.map (clampInt (-top) top), sat, sat == 32, false, false⟩

/-- The value of an element under a denomination (R48, R49); `none` is poison. -/
def dbValue (d : Nat) (e : Int) : Option Num :=
  if d = 0xFF then none else if d = 0 then some Num.zero else some (Num.ofInt e ((d : Int) - 127))

/-! ### Running statistics (R80) -/

/-- A lane of MEANVAR: count, mean and sum of squares as FP32 codes. -/
structure Welford where
  n : Nat
  m : Nat
  s : Nat
  deriving DecidableEq, Repr

/-- Take one element into a lane (R80). -/
def Welford.take (w : Welford) (x : Nat) : Welford :=
  let n := w.n + 1
  let d := fp32.sub x w.m
  let m := fp32.add w.m (fp32.div d (fp32.ofInt n))
  ⟨n, m, fp32.add w.s (fp32.mul d (fp32.sub x m))⟩

/-- Combine two lanes, the lower-numbered first (R80). -/
def Welford.join (a b : Welford) : Welford :=
  if b.n = 0 then a
  else if a.n = 0 then b
  else
    let f := fp32.div (fp32.ofInt b.n) (fp32.ofInt (a.n + b.n))
    let d := fp32.sub b.m a.m
    let g := fp32.mul (fp32.ofInt a.n) f
    ⟨a.n + b.n, fp32.add a.m (fp32.mul d f), fp32.add (fp32.add a.s b.s) (fp32.mul (fp32.mul d d) g)⟩

/-- Combine neighbours. -/
def pairUp : List Welford → List Welford
  | a :: b :: l => a.join b :: pairUp l
  | l => l

/-- The lanes' tree of eight levels. -/
def foldPairs : Nat → List Welford → Welford
  | 0, l => l.headD ⟨0, 0, 0⟩
  | k + 1, l => foldPairs k (pairUp l)

/-- Mean and variance of a run of FP32 values: element i goes to lane i mod 256 (R80). -/
def meanVar (xs : List Nat) : Nat × Nat :=
  let lanes := (List.range 256).map (fun k =>
    ((xs.zipIdx).filter (fun e => e.2 % 256 = k)).foldl (fun w e => w.take e.1) (⟨0, 0, 0⟩ : Welford))
  let w := foldPairs 8 lanes
  if w.n = 0 then (fp32.qnan, fp32.qnan) else (w.m, fp32.div w.s (fp32.ofInt w.n))

end Sys2Proof.Machine
end

