-- ==== Sys2Proof/Machine/Operands.lean ====
section
/-! DEFINITION. What an order's fields name: the order word (07_orders.md R214), step programs and their tables (R229 to
R236), operands (R221, R222), and reading and writing operands in every format of 03 R47. -/

namespace Sys2Proof.Machine

/-! ### The order word (R214) -/

/-- Bits [hi:lo] of an order. -/
def ordBits (o : BitVec 128) (hi lo : Nat) : Nat := nbits o.toNat hi lo

def ordClass (o : BitVec 128) : Nat := ordBits o 127 124
def ordOp (o : BitVec 128) : Nat := ordBits o 123 120
def ordAcc (o : BitVec 128) : Bool := o.getLsbD 119
def ordSkipK (o : BitVec 128) : Nat := ordBits o 118 116
def ordSkipTally (o : BitVec 128) : Nat := ordBits o 115 104
def ordSkipN (o : BitVec 128) : Nat := ordBits o 103 96
def ordWaitTally (o : BitVec 128) : Nat := ordBits o 95 84
def ordWaitN (o : BitVec 128) : Nat := ordBits o 83 74
def ordSigTally (o : BitVec 128) : Nat := ordBits o 73 60
def ordSigInc (o : BitVec 128) : Nat := ordBits o 59 56
/-- Bits [hi:lo] of the body. -/
def ordBody (o : BitVec 128) (hi lo : Nat) : Nat := ordBits o hi lo

/-- An order with bits [hi:lo] replaced. -/
def ordPut (o : BitVec 128) (hi lo v : Nat) : BitVec 128 :=
  BitVec.ofNat 128 (o.toNat - ordBits o hi lo * 2 ^ lo + v % 2 ^ (hi + 1 - lo) * 2 ^ lo)

/-! ### Queue entries (R211, R230) -/

def QEntry.account (e : QEntry) : Nat := bits e.ctx 63 52
def QEntry.row (e : QEntry) : Nat := bits e.ctx 51 39
def QEntry.layer (e : QEntry) : Nat := bits e.ctx 38 27
def QEntry.prog (e : QEntry) : Nat := bits e.ctx 26 19
def QEntry.index (e : QEntry) : Nat := bits e.ctx 18 3
/-- The expansion word as R230 gives its parts: count, lowest bit and width of the stepped field, signed step. -/
def QEntry.count (e : QEntry) : Nat := nbits e.exp.toNat 11 0
def QEntry.incLsb (e : QEntry) : Nat := nbits e.exp.toNat 18 12
def QEntry.incWidth (e : QEntry) : Nat := nbits e.exp.toNat 23 19
def QEntry.inc (e : QEntry) : Int := signed 8 (nbits e.exp.toNat 31 24)

/-- The whole batch (R211). -/
def wholeBatch : Nat := 0x1FFF

/-- Repetition `j` of an entry: its order, or none where the stepped field leaves its width (R234). -/
def QEntry.repeated (e : QEntry) (j : Nat) : Option (BitVec 128) :=
  if e.incWidth = 0 ∨ j = 0 then some e.order
  else
    let lo := e.incLsb
    let hi := lo + e.incWidth - 1
    let v : Int := (ordBits e.order hi lo : Int) + j * e.inc
    if 0 ≤ v ∧ v < 2 ^ e.incWidth then some (ordPut e.order hi lo v.toNat) else none

/-! ### Step programs (R229, R236) -/

/-- Bytes of a die's copy of a program in the posted Charter; 0 where it has none there (R236). -/
def State.copyLen (s : State) (n d : Nat) : Nat := s.chr secPrograms (16 + 48 * n + 8 * d + 7) (16 + 48 * n + 8 * d + 4)

/-- Bytes [hi:lo] of the header of die `d`'s copy of program `n` (R229). -/
def State.progHdr (s : State) (n d hi lo : Nat) : Nat :=
  let o := s.chr secPrograms (16 + 48 * n + 8 * d + 3) (16 + 48 * n + 8 * d)
  if s.copyLen n d = 0 then 0 else s.chr secPrograms (o + hi) (o + lo)

/-- Parameter slot `k` of a program on a die: its key in memory (R231). -/
def State.paramAt (s : State) (n d k : Nat) : Nat := till d (32 * s.progHdr n d 15 12 + 4 * k)
/-- What a parameter slot holds. -/
def State.param (s : State) (n d k : Nat) : Nat := s.readNat (s.paramAt n d k) 4
/-- The key of batch row `b`. -/
def State.rowAt (s : State) (n d b : Nat) : Nat := till d (32 * s.progHdr n d 19 16 + 32 * b)
/-- Bytes [hi:lo] of batch row `b` (R232). -/
def State.rowFld (s : State) (n d b hi lo : Nat) : Nat := s.readNat (s.rowAt n d b + lo) (hi + 1 - lo)
/-- The key of status-array entry `k`. -/
def State.statusAt (s : State) (n d k : Nat) : Nat := till d (32 * s.progHdr n d 23 20 + 16 * k)
/-- The granule of the endorsement slot of row `b` and matrix `m` (R224). -/
def State.endoSlot (s : State) (n d b m : Nat) : Nat := s.progHdr n d 27 24 + (b * 8 + m) * 4

/-! ### An order about to run -/

/-- An order in a unit's hand: what its meaning needs of its entry (R211, R218). -/
structure Job where
  unit   : EngUnit
  decode : Bool
  order  : BitVec 128
  acc    : Bool
  row    : Nat
  layer  : Nat
  prog   : Nat
  index  : Nat
  account : Nat
  deriving DecidableEq, Repr

/-- The die of a job's unit. -/
def Job.die (j : Job) : Nat := j.unit.die.val
/-- Bits [hi:lo] of a job's body. -/
def Job.body (j : Job) (hi lo : Nat) : Nat := ordBody j.order hi lo
/-- Bytes [hi:lo] of the job's batch row; 0 for the whole batch. -/
def State.jobRow (s : State) (j : Job) (hi lo : Nat) : Nat :=
  if j.row = wholeBatch then 0 else s.rowFld j.prog j.die j.row hi lo

/-! ### Operands (R221, R222) -/

/-- An operand entry. -/
structure Operand where
  die     : Nat
  granule : Nat
  fmt     : Nat
  allDies : Bool
  len     : Nat
  stride  : Nat
  /-- Reserved bits are 0, the format is one of R47, and the length is in its range. -/
  good    : Bool
  deriving DecidableEq, Repr

/-- Operand `k` of program `n` as die `d` holds it. -/
def State.operand (s : State) (n d k : Nat) : Operand :=
  let bs := s.read (till d (32 * s.progHdr n d 11 8 + 16 * k)) 16
  let a := fieldB bs 3 0
  let f := byteAt bs 4
  let len := fieldB bs 11 8
  { die := nbits a 23 22, granule := nbits a 21 0, fmt := f % 16, allDies := nbit f 4, len := len,
    stride := fieldB bs 15 12,
    good := decide (a < 2 ^ 24) && decide (f < 32) && decide (f % 16 ≤ 0xC) && fieldB bs 7 5 == 0 &&
      decide (1 ≤ len) && decide (len ≤ 1048576) }

/-- The operand a job's field names. -/
def State.opnd (s : State) (j : Job) (k : Nat) : Operand := s.operand j.prog j.die k

/-- Is a format code a DB format? -/
def isDb (fmt : Nat) : Bool := decide (fmt < 8)
/-- The floating-point format a code names. -/
def fmtOf (fmt : Nat) : Fmt := if fmt = 8 then bf16 else if fmt = 9 then fp32 else if fmt = 0xA then e4m3 else e5m2
/-- Bytes of an element of a floating-point format or of a partial record. -/
def elemBytes (fmt : Nat) : Nat := if fmt = 8 then 2 else if fmt = 9 then 4 else if fmt = 0xC then 96 else 1

/-- Bytes up to the next granule border. -/
def roundUp32 (n : Nat) : Nat := (n + 31) / 32 * 32

/-- Bytes of the element area of `len` elements, and of the whole operand (R52). -/
def elemArea (fmt len : Nat) : Nat := if isDb fmt then 4 * (fmt + 1) * ceilDiv len 32 else elemBytes fmt * len
/-- See `elemArea`. -/
def wholeArea (fmt len : Nat) : Nat :=
  if isDb fmt then roundUp32 (elemArea fmt len) + ceilDiv len 32 else elemArea fmt len

/-- The granule at which an operand starts for token index `i` of the job's row (R222). -/
def State.opGranule (s : State) (j : Job) (o : Operand) (i : Nat) : Nat :=
  o.granule + (s.jobRow j 21 18 + i) * o.stride

/-- Does an operand of `len` elements lie in its die's Till (R222, R26)? -/
def inTill (granule fmt len : Nat) : Bool := decide (32 * granule + wholeArea fmt len ≤ tillSize)

/-- The die a unit of die `d` reads an operand from (R222). -/
def Operand.readDie (o : Operand) (d : Nat) : Nat := if o.allDies then d else o.die
/-- The dies a write goes to. -/
def Operand.writeDies (o : Operand) : List Nat := if o.allDies then List.range 4 else [o.die]

/-! ### Reading values -/

/-- A value read or about to be written: none is poison. -/
abbrev Val := Option Num

/-- A DB block as read: its denomination, its elements, how many codes were invalid (R48 to R51). -/
structure DbBlock where
  denom   : Nat
  elems   : List Int
  invalid : Nat
  deriving DecidableEq, Repr

/-- Block `k` of a DB area at key `a`: poison where its denomination is 0xFF or a granule it touches is poison. -/
def State.dbBlock (s : State) (a n len k : Nat) : DbBlock :=
  let ea := a + 4 * n * k
  let da := a + roundUp32 (4 * n * ceilDiv len 32) + k
  let d := (s.byte da).toNat
  if d = 0xFF ∨ s.bad ea (4 * n) ∨ s.bad da 1 then ⟨0xFF, List.replicate 32 0, 0⟩
  else if d = 0 then ⟨0, List.replicate 32 0, 0⟩
  else
    let (es, bad) := dbUnpack n (s.read ea (4 * n))
    ⟨d, es, bad⟩

/-- The blocks of a DB area. -/
def State.dbBlocks (s : State) (a n len : Nat) : List DbBlock :=
  (List.range (ceilDiv len 32)).map (s.dbBlock a n len)

/-- The values of a block. -/
def DbBlock.vals (b : DbBlock) : List Val := b.elems.map (dbValue b.denom)

/-- Element `i` of a floating-point area. -/
def State.floatAt (s : State) (a fmt i : Nat) : Val :=
  let w := elemBytes fmt
  if s.bad (a + w * i) w then none else some ((fmtOf fmt).decode (s.readNat (a + w * i) w))

/-- The values of an area at key `a`, and the invalid codes met. -/
def State.vals (s : State) (a fmt len : Nat) : List Val × Nat :=
  if isDb fmt then
    let bs := s.dbBlocks a (fmt + 1) len
    ((bs.flatMap DbBlock.vals).take len, bs.foldl (fun n b => n + b.invalid) 0)
  else ((List.range len).map (s.floatAt a fmt), 0)

/-- A partial record as a combining unit takes it: poison where its granules are, and none where it fails R81. -/
def State.partialAt (s : State) (a : Nat) : Option Hoard :=
  if s.bad a 96 then some Hoard.zero.spoil else Hoard.decode? (s.read a 96)

/-! ### Writing values (R77, R78, R76) -/

/-- Write element `i` of a floating-point area, adding where `acc` is set; poison spoils the granule. -/
def State.putFloat (s : State) (a fmt : Nat) (acc : Bool) (i : Nat) (v : Val) : State :=
  let f := fmtOf fmt
  let w := elemBytes fmt
  let k := a + w * i
  match v with
  | none => s.spoil k w
  | some x =>
    if acc then
      (if s.bad k w then s else s.writeNat k w (f.encode ((f.decode (s.readNat k w)).add x)))
    else s.writeNat k w (f.encode x)

/-- Write values into a floating-point area; without `acc` the granules it covers whole are good first. -/
def State.putFloats (s : State) (a fmt : Nat) (acc : Bool) (vs : List Val) : State :=
  let n := elemBytes fmt * vs.length
  let s := if acc then s else { s with poison := cleansed s.poison a n }
  (vs.zipIdx).foldl (fun s e => s.putFloat a fmt acc e.2 e.1) s

/-- Write one quantised block (R52). -/
def State.putBlock (s : State) (a n len k : Nat) (q : Quant) : State :=
  let ea := a + 4 * n * k
  let da := a + roundUp32 (4 * n * ceilDiv len 32) + k
  let es := if q.poison ∨ q.denom = 0 then List.replicate (4 * n) 0 else dbPack n q.elems
  (s.write ea es).writeNat da 1 (if q.poison then 0xFF else q.denom)

/-- Write a DB area. -/
def State.putBlocks (s : State) (a n len : Nat) (qs : List Quant) : State :=
  let s := { s with poison := cleansed s.poison a (roundUp32 (4 * n * ceilDiv len 32) + roundUp32 (ceilDiv len 32)) }
  (qs.zipIdx).foldl (fun s e => s.putBlock a n len e.2 e.1) s

/-- Write a partial record, adding exactly where `acc` is set (R77, R78). -/
def State.putPartial (s : State) (a : Nat) (acc : Bool) (source : Nat) (h : Hoard) : State :=
  let h := if acc then
      (match s.partialAt a with
       | some old => old.join h
       | none => h.spoil)
    else h
  s.write a (h.encode source)

/-- `source` of a partial record (R81). -/
def sourceOf (e : EngUnit) : Nat :=
  e.die.val * 2 ^ 14 + (match e.kind with | .assay => 0 | .attn => 1 | .vec => 2 | .dma => 3) * 2 ^ 12 + e.inst

/-- Do something at a granule of every die an operand's write goes to. -/
def State.onDies (s : State) (o : Operand) (granule : Nat) (f : State → Nat → State) : State :=
  o.writeDies.foldl (fun s d => f s (till d (32 * granule))) s

/-! ### Layers (03 R89, R90) -/

/-- Bytes [hi:lo] of a layer's entry of the formats policy (R89). -/
def State.layerPol (s : State) (l hi lo : Nat) : Nat := s.chr secFormats (16 + 32 * l + hi) (16 + 32 * l + lo)
/-- The layers of the formats policy. -/
def State.layerCount (s : State) : Nat := s.chr secFormats 2 1
/-- The key of byte `o` of a layer's format record: `record` is an offset of space 0x1 (R90; DEDUCED, log entry 23). -/
def State.recAt (s : State) (l o : Nat) : Nat := keyOf 1 (s.layerPol l 23 20 + o)
/-- Bytes [hi:lo] of a layer's format record. -/
def State.recFld (s : State) (l hi lo : Nat) : Nat := s.readNat (s.recAt l lo) (hi + 1 - lo)
/-- Write bytes [hi:lo] of a layer's format record. -/
def State.setRec (s : State) (l hi lo v : Nat) : State := s.writeNat (s.recAt l lo) (hi + 1 - lo) v
/-- Add to a 4-byte counter of a layer's record, saturating (R90). -/
def State.addRec (s : State) (l o n : Nat) : State :=
  if n = 0 ∨ s.layerCount ≤ l then s else s.setRec l (o + 3) o (Nat.min (s.recFld l (o + 3) o + n) 0xFFFFFFFF)

/-- Offsets of the step counters in a layer's record (R90). -/
def recSat : Nat := 8
def recSatBlocks : Nat := 12
def recUnder : Nat := 16
def recInvalid : Nat := 20
def recPoison : Nat := 24
def recAligned : Nat := 28

/-- The narrowest width of a layer's input (R68), and the width of block position `k` before the ladder (R63). -/
def State.blockWidth (s : State) (d l k : Nat) : Nat :=
  let b := s.layerPol l 0 0
  if b = 0 then (s.byte (till d (s.layerPol l 19 16 % 2 ^ 27 + k))).toNat else b

/-- The width of a block on a rung (R68). -/
def rungWidth (w rung : Nat) : Nat := if rung = 0x0F then 8 else Nat.min (w + 2 * rung) 8

/-- Strike rungs of a layer whose narrowest width is `w` (R68). -/
def strikeRungs (w : Nat) : Nat := (8 - w + 1) / 2 + 1

end Sys2Proof.Machine
end

