-- ==== Sys2Proof/Machine/Flags.lean ====
section
/-! DEFINITION. The flags that orders raise and Tallies keep: `ENG_QFAULT` and the marks of batch rows (07 R240), Tally
values, misuse and barrier rounds (08 R243 to R252). -/

namespace Sys2Proof.Machine

/-! ### Batch rows of the running step -/

/-- A sequence's handle (R276). -/
def State.handleOf (s : State) (slot : Nat) : Nat := slot + (s.seq slot).gen * 2 ^ 13

/-- The rows of a program's batch, in batch-row order. -/
def State.rowsIn (s : State) (prog : Nat) : List Row := s.serve.rows.filter (fun r => r.prog == prog)

/-- Rewrite the rows that a context names: one batch row of a program, or every row of the step for the whole batch
(R240). -/
def mapRows (prog b : Nat) (f : Row → Row) : Nat → List Row → List Row
  | _, [] => []
  | k, r :: rs =>
    if b = wholeBatch then f r :: mapRows prog b f k rs
    else if r.prog = prog then (if k = b then f r else r) :: mapRows prog b f (k + 1) rs
    else r :: mapRows prog b f k rs

/-- Mark the rows of a job's context. -/
def State.markRows (s : State) (prog b : Nat) (f : Row → Row) : State :=
  { s with serve := { s.serve with rows := mapRows prog b f 0 s.serve.rows } }

/-- Name a job's account and sequence in a record (R240, R361). -/
def State.tellJob (s : State) (j : Job) (r : FaultRecord) : FaultRecord :=
  let r := FaultRecord.because r (ordClass j.order * 16 + ordOp j.order) r.reason.toNat
  match (s.rowsIn j.prog)[j.row]? with
  | some w => if j.row = wholeBatch then r else FaultRecord.about r w.account (s.handleOf w.slot)
  | none => r

/-! ### An order that faults (R240) -/

def reasonReserved : Nat := 1
def reasonClass : Nat := 2
def reasonOperand : Nat := 3
def reasonBank : Nat := 4
def reasonTally : Nat := 5
def reasonWatchdog : Nat := 6
def reasonPatch : Nat := 7
def reasonWindow : Nat := 8
def reasonAcc : Nat := 9

/-- Record an order's fault: `ENG_QFAULT`, the counter, the record, and the rows of its context (R240). -/
def State.orderFault (s : State) (j : Job) (reason : Nat) : State :=
  let s := s.setReg (ENG_QFAULT j.unit) (BitVec.ofNat 64 (ordClass j.order * 2 ^ 28 + ordOp j.order * 2 ^ 24
    + reason * 2 ^ 20 + j.decode.toNat * 2 ^ 19 + j.row))
  let s := s.bump (ENG_CNT_FAULT j.unit) 1
  let r := s.tellJob j (faultUnit clsOrder j.unit j.decode.toNat j.index)
  let s := s.fault { r with reason := BitVec.ofNat 8 reason }
  s.markRows j.prog j.row (fun w => { w with faulted := true })

/-! ### Signals (R216, R239) -/

/-- The Tallies an order's signal reaches: one, or that index on every die (R216). -/
def sigTallies (t : Nat) (every : Bool) : List Nat := if every then (List.range 4).map (fun d => d * 4096 + t % 4096) else [t]

/-- Send an order's signal-after; it lands later (R239). -/
def State.signalAfter (s : State) (u : EngUnit) (decode : Bool) (o : BitVec 128) (every : Bool) : State :=
  if ordSigInc o = 0 then s
  else { s with signals := s.signals ++ (sigTallies (ordSigTally o) every).map (fun t =>
    { tally := t, inc := ordSigInc o, round := none, src := u, decode := decode }) }

/-- Send it `n` times. -/
def State.signalTimes (s : State) (u : EngUnit) (decode : Bool) (o : BitVec 128) (every : Bool) : Nat → State
  | 0 => s
  | n + 1 => (s.signalAfter u decode o every).signalTimes u decode o every n

/-! ### Tallies (R243 to R248) -/

def tallyCounter : Nat := 1
def tallyBarrier : Nat := 2

def misBelow : Nat := 1
def misPast : Nat := 2
def misUnused : Nat := 3
def misKind : Nat := 4
def misRound : Nat := 5
def misNext : Nat := 6

/-- A misuse (R247): the Tally keeps its value and control word but for `misused`; `TAL_LASTMIS`, the counter and the
record name it. -/
def State.tallyMisuse (s : State) (t reason value : Nat) (j : Option Job) : State :=
  let d := t / 4096
  let s := s.setTally t { s.tallyOf t with misused := true }
  let s := s.setReg (TAL_LASTMIS d) (BitVec.ofNat 64 (reason * 2 ^ 28 + t))
  let s := s.bump (TAL_CNT_MISUSE d) 1
  let r := { faultOf clsTally d blkTally (t % 4096) (t % 4096) value with reason := BitVec.ofNat 8 reason }
  s.fault (match j with | some j => s.tellJob j r | none => r)

/-- Increment a counter (R245, R246): the state, and whether it was no misuse. -/
def State.tallyAdd (s : State) (t v : Nat) (j : Option Job) : State × Bool :=
  let y := s.tallyOf t
  if y.kind = 0 then (s.tallyMisuse t misUnused v j, false)
  else if y.kind ≠ tallyCounter then (s.tallyMisuse t misKind v j, false)
  else if 0x7FFFFFFF < y.value + v then (s.tallyMisuse t misPast v j, false)
  else (s.setTally t { y with value := y.value + v }, true)

/-- Decrement a counter (R245). -/
def State.tallySub (s : State) (t v : Nat) (j : Option Job) : State × Bool :=
  let y := s.tallyOf t
  if y.kind = 0 then (s.tallyMisuse t misUnused v j, false)
  else if y.kind ≠ tallyCounter then (s.tallyMisuse t misKind v j, false)
  else if y.value - v < 0 then (s.tallyMisuse t misBelow v j, false)
  else (s.setTally t { y with value := y.value - v }, true)

/-! ### Barriers (R250) -/

/-- Arrivals of a completed round are released: each waiting queue's ARRIVE leaves the head with its signal-after. -/
def releaseQueue (t round : Nat) (q : Queue) : Queue × Option QEntry :=
  if q.arrive = some (t, round + 256) then
    match q.entries with
    | [] => ({ q with arrive := none }, none)
    | e :: es =>
      if q.reps < e.count then ({ q with arrive := none }, some e)
      else ({ q with entries := es, reps := 0, arrive := none }, some e)
  else (q, none)

/-- The unit whose key is `k` (`unitKey`). -/
def unitOfKey (k : Nat) : EngUnit :=
  { die := ⟨k / 1024 % 4, Nat.mod_lt _ (by decide)⟩,
    kind := (match k / 4096 with | 0 => .assay | 1 => .attn | 2 => .vec | _ => .dma), inst := k % 1024 }

/-- Release every queue whose arrival at `t` for `round` has landed (R250, R251). -/
def State.releaseAll (s : State) (t round : Nat) : State :=
  s.queues.foldl (fun s e =>
    let u := unitOfKey e.1
    [false, true].foldl (fun s dec =>
      let g := s.eng u
      let (q, out) := releaseQueue t round (g.queue dec)
      match out with
      | none => s
      | some x => (s.setEng u (g.setQueue dec q)).signalAfter u dec x.order false) s) s

/-- A round completes (R250). -/
def State.roundDone (s : State) (t : Nat) : State :=
  let y := s.tallyOf t
  let s := s.bump (TAL_CNT_ROUNDS (t / 4096)) 1
  let s := s.setTally t { y with round := (y.round + 1) % 256, value := y.next, next := 0 }
  s.releaseAll t y.round

/-- An arrival lands (R250): whether it was no misuse. -/
def State.arriveAt (s : State) (t r : Nat) (j : Option Job) : State × Bool :=
  let y := s.tallyOf t
  if y.kind = 0 then (s.tallyMisuse t misUnused r j, false)
  else if y.kind ≠ tallyBarrier then (s.tallyMisuse t misKind r j, false)
  else if r = y.round then (s.setTally t { y with value := y.value + 1 }, true)
  else if r = (y.round + 1) % 256 then
    (if y.parts < y.next + 1 then (s.tallyMisuse t misNext r j, false)
     else (s.setTally t { y with next := y.next + 1 }, true))
  else (s.tallyMisuse t misRound r j, false)

/-- Complete the current round where every participant has arrived. -/
def State.settleRound (s : State) (t : Nat) : State :=
  let y := s.tallyOf t
  if y.kind = tallyBarrier ∧ 1 ≤ y.parts ∧ y.value = y.parts then s.roundDone t else s

end Sys2Proof.Machine
end

