-- ==== Sys2Proof/Machine/Orders.lean ====
section
/-! DEFINITION. Queues: enqueueing, issue, skipping, completion, signals and the watchdog (07_orders.md R210 to R240,
08 R250 to R253), and the TALLY and MARK orders. -/

namespace Sys2Proof.Machine

/-! ### What a queue accepts (R211, R218, R220 to R228) -/

/-- The classes a unit takes (R210). -/
def accepts : UnitKind → Nat → Bool
  | .assay, c => c ≤ 2 || c == 6 || c == 9
  | .attn, c => c == 3 || c == 6 || c == 9
  | .vec, c => c == 4 || c == 7 || c == 8 || c == 6 || c == 9
  | .dma, c => c == 5 || c == 6 || c == 9

/-- Is a VEC order's `imm` one that its opcode allows (R226)? -/
def vecImmOk (op imm : Nat) : Bool :=
  match op with
  | 0x0 => decide (imm < 4)
  | 0x1 => imm == 0
  | 0x2 => imm == 0
  | 0x3 => imm == 0
  | 0x4 => decide (imm ≤ 10)
  | 0x5 => decide (imm ≤ 2)
  | 0x6 => decide (1 ≤ imm) && decide (imm < 4096)
  | 0x7 => nbits imm 11 7 == 0
  | 0x8 => decide (imm < 2)
  | 0x9 => decide (1 ≤ imm % 256) && decide (imm % 256 ≤ 128) && decide (imm < 65536)
  | 0xA => decide (imm < 2)
  | 0xB => imm == 0
  | _ => false

/-- Are the opcode and the body free of reserved encodings and reserved bits (R223 to R228)? -/
def bodyOk (o : BitVec 128) : Bool :=
  let b := ordBody o
  match ordClass o, ordOp o with
  | 0, op => decide (op ≤ 1) && b 13 0 == 0
  | 1, op => op == 0 && b 13 0 == 0
  | 2, 0 => b 22 0 == 0
  | 2, 1 => b 31 0 == 0
  | 2, 2 => b 31 0 == 0
  | 2, 3 => b 34 0 == 0
  | 3, 0 => b 3 0 == 0 && b 30 23 != 0
  | 3, 1 => b 3 0 == 0 && b 30 23 != 0
  | 3, 2 => b 20 0 == 0
  | 3, 3 => b 35 0 == 0
  | 4, op => vecImmOk op (b 19 0)
  | 5, op => op == 0 && b 3 0 == 0
  | 6, 0 => b 25 0 == 0
  | 6, 1 => b 25 0 == 0
  | 6, 2 => b 41 26 == 0 && b 17 0 == 0
  | 6, 3 => b 55 0 == 0
  | 7, 0 => b 19 0 == 0 && b 27 20 != 0
  | 7, 1 => b 50 0 == 0
  | 8, op => op == 0 && b 27 0 == 0
  | 9, 0 => b 55 0 == 0
  | 9, 1 => b 55 0 == 0
  | 9, 2 => b 27 0 == 0
  | _, _ => false

/-- Does a class and opcode take ACC (R218)? -/
def takesAcc (cls op : Nat) : Bool :=
  cls ≤ 1 || (cls == 2 && op != 1) || (cls == 3 && 2 ≤ op) || cls == 4 || (cls == 7 && op == 0) || cls == 8

def fmtFloat (f : Nat) : Bool := decide (8 ≤ f) && decide (f ≤ 0xB)
def fmtPart (f : Nat) : Bool := f == 0xC
def fmtAny (f : Nat) : Bool := isDb f || fmtFloat f
/-- A format whose products enter a Hoard exactly (R75, R173). -/
def fmtExact (f : Nat) : Bool := fmtAny f && f != 9

/-- The operands an order names, each with the formats it can use (R223 to R228; DESIGN CHOICE, log entry 24). -/
def operandNeeds (o : BitVec 128) : List (Nat × (Nat → Bool)) :=
  let b := ordBody o
  match ordClass o, ordOp o with
  | 0, _ => [(b 33 26, isDb)]
  | 1, _ => [(b 33 26, isDb)]
  | 2, 0 => [(b 54 47, fun f => f ≤ 0xC)]
  | 2, 1 => [(b 55 48, isDb)]
  | 2, 3 => [(b 54 47, fmtPart)]
  | 3, 0 => [(b 19 12, fmtExact)]
  | 3, 1 => [(b 19 12, fmtExact), (b 11 4, fmtExact), (b 11 4 + 1, fmtFloat), (b 11 4 + 2, fmtFloat), (b 11 4 + 3, fmtPart),
             (b 11 4 + 4, fmtPart)]
  | 3, 2 => [(b 40 33, isDb)]
  | 3, 3 => [(b 55 48, fmtPart)]
  | 4, 0x0 => [(b 55 48, fmtAny), (b 39 32, isDb)]
  | 4, 0x1 => [(b 55 48, fmtAny), (b 39 32, fmtFloat)]
  | 4, 0x2 => [(b 55 48, fmtAny), (b 47 40, fmtAny), (b 39 32, fmtFloat)]
  | 4, 0x3 => [(b 55 48, fmtAny), (b 47 40, fmtAny), (b 39 32, fmtFloat)]
  | 4, 0x4 => [(b 55 48, fmtAny), (b 39 32, fmtFloat)]
  | 4, 0x5 => [(b 55 48, fmtAny), (b 39 32, fun f => if b 1 0 = 2 then f == 9 else fmtPart f)]
  | 4, 0x6 => [(b 55 48, fmtPart), (b 39 32, fmtFloat)]
  | 4, 0x7 => [(b 55 48, fmtAny), (b 47 40, fmtAny), (b 39 32, fmtFloat), (b 19 12, fmtFloat)]
  | 4, 0x8 => [(b 55 48, fmtAny), (b 39 32, fun f => if b 0 0 = 0 then f == 7 else isDb f)]
  | 4, 0x9 => [(b 39 32, fmtAny)]
  | 4, 0xA => [(b 55 48, fmtAny)]
  | 4, 0xB => [(b 55 48, fmtAny), (b 47 40, fmtAny), (b 39 32, fmtFloat)]
  | 7, 0 => [(b 55 48, isDb), (b 47 40, isDb)]
  | 8, _ => [(b 55 48, fmtAny), (b 47 40, fun f => f == 9)]
  | _, _ => []

/-- Why a queue refuses an order at enqueue; none where it takes it (R211). -/
def State.refusal (s : State) (u : EngUnit) (prog : Nat) (o : BitVec 128) : Option Nat :=
  if 9 < ordClass o then some reasonReserved
  else if !accepts u.kind (ordClass o) then some reasonClass
  else if !bodyOk o then some reasonReserved
  else if ordAcc o && !takesAcc (ordClass o) (ordOp o) then some reasonAcc
  else if (operandNeeds o).any (fun e =>
      let op := s.operand prog u.die.val (e.1 % 256)
      !op.good || !e.2 op.fmt) then some reasonOperand
  else none

/-! ### Enqueue (R211, R230 to R234) -/

/-- A template entry's patch applied (R233): none where an add carries out of the field. -/
def State.patch (s : State) (n d row : Nat) (p : List Byte) (o : BitVec 128) : Option (BitVec 128) :=
  let src := byteAt p 0
  let lsb := byteAt p 1
  let w := byteAt p 2 % 32 + 1
  let mode := byteAt p 2 / 32 % 4
  if byteAt p 2 < 128 then some o
  else
    let raw := if mode < 2 then s.param n d src
      else if src = 0xFF then row else s.readNat (s.rowAt n d row + src) 4
    let v := raw % 2 ^ w
    let hi := lsb + w - 1
    if mode % 2 = 0 then some (ordPut o hi lsb v)
    else
      let x := ordBits o hi lsb + v
      if 2 ^ w ≤ x then none else some (ordPut o hi lsb x)

/-- Engines of a die's share that allotment may choose, of a kind and a queue (R234, R258, R294, R374). -/
def State.shareOf (s : State) (d : Nat) (k : UnitKind) (decode : Bool) (shared : Bool) : List Nat :=
  let t := s.serve.share
  let cut := match k with | .attn => 3 * t | _ => ceilDiv (3 * t) 2
  let inShare (i : Nat) : Bool := !shared || t == 0 || t == 16 || (if decode then decide (i < cut) else decide (cut ≤ i))
  let mask := match k with
    | .attn => s.chr secEngines (272 + 16 * d + 5) (272 + 16 * d)
    | _ => s.chr secEngines (272 + 16 * d + 8) (272 + 16 * d + 6)
  (List.range (unitsOf k)).filter (fun i => inShare i && nbit mask i && !s.log.fenced.contains (d, blkOf k, i))

/-- The kind a target's code names (R230). -/
def kindOf (c : Nat) : UnitKind := match c with | 0 => .assay | 1 => .attn | 2 => .vec | _ => .dma

/-- The unit an entry's target names: allotment in turn (R234), and round a fenced engine or channel (R374). -/
def State.targetUnit (s : State) (d : Die) (target : Nat) : Option (EngUnit × State) :=
  let k := kindOf (nbits target 10 9)
  let decode := nbit target 11
  let inst := nbits target 8 0
  let key := d.val * 8 + nbits target 10 9 * 2 + decode.toNat
  if inst = 0x1FF then
    let es := s.shareOf d.val k decode true
    let last := look 0 s.serve.allot key
    match es.find? (fun i => last ≤ i) with
    | some i => some (⟨d, k, i⟩, { s with serve := { s.serve with allot := put 0 s.serve.allot key (i + 1) } })
    | none =>
      match es with
      | [] => none
      | i :: _ => some (⟨d, k, i⟩, { s with serve := { s.serve with allot := put 0 s.serve.allot key (i + 1) } })
  else if s.log.fenced.contains (d.val, blkOf k, inst) then
    match k with
    | .assay => some (⟨d, k, inst⟩, s)
    | .dma =>
      let owner := s.fld (DMA_CTRL d.val inst) 31 30
      ((List.range 64).find? (fun i =>
        s.fld (DMA_CTRL d.val i) 31 30 == owner && !s.log.fenced.contains (d.val, blkDma, i))).map (fun i => (⟨d, k, i⟩, s))
    | _ =>
      match s.shareOf d.val k decode true ++ s.shareOf d.val k decode false with
      | [] => none
      | i :: _ => some (⟨d, k, i⟩, s)
  else some (⟨d, k, inst⟩, s)

/-- The job of an order of an entry. -/
def jobOf (u : EngUnit) (decode : Bool) (e : QEntry) (o : BitVec 128) (acc : Bool) : Job :=
  ⟨u, decode, o, acc, e.row, e.layer, e.prog, e.index, e.account⟩

/-- A dispatch Clerk places a filled entry in a queue (R211, R234). A full queue makes it hold the entry. -/
def State.enqueue (s : State) (d : Die) (n entry row : Nat) : State :=
  let te := s.read (till d.val (32 * s.progHdr n d.val 7 4 + 32 * entry)) 32
  let rowMode := nbit (fieldB te 19 18) 12
  let rows := (s.rowsIn n).length
  if s.progHdr n d.val 3 2 ≤ entry ∨ (rowMode = true ∧ rows ≤ row) then s
  else
    let b := if rowMode then row else wholeBatch
    let acct := if rowMode then s.rowFld n d.val row 3 2 % 4096 else 0
    let fixed := fieldB te 19 18 % 4096
    let count := if fixed = 0 then s.param n d.val (byteAt te 20) else fixed
    let ctx : Word64 := BitVec.ofNat 64 (acct * 2 ^ 52 + b * 2 ^ 39 + fieldB te 25 24 % 4096 * 2 ^ 27 + n * 2 ^ 19
      + entry * 2 ^ 3)
    let exp : Word32 := BitVec.ofNat 32 (count % 4096 + byteAt te 21 % 128 * 2 ^ 12 + byteAt te 22 % 32 * 2 ^ 19
      + byteAt te 23 * 2 ^ 24)
    let raw : BitVec 128 := BitVec.ofNat 128 (fieldB te 15 0)
    match s.targetUnit d (fieldB te 17 16) with
    | none => s
    | some (u, s') =>
      let dec := nbit (fieldB te 17 16) 11
      let q := (s.eng u).queue dec
      if count = 0 ∨ 256 ≤ q.entries.length then s
      else
        let s := s'
        if 4095 < count then
          s.orderFault (jobOf u dec ⟨raw, exp, setBits ctx 51 39 wholeBatch⟩ raw false) reasonPatch
        else
          match (s.patch n d.val row ((te.drop 26).take 3) raw).bind (s.patch n d.val row (te.drop 29)) with
          | none => (s.orderFault (jobOf u dec ⟨raw, exp, ctx⟩ raw false) reasonPatch).signalTimes u dec raw false count
          | some o =>
            match s.refusal u n o with
            | some r => (s.orderFault (jobOf u dec ⟨o, exp, ctx⟩ o false) r).signalTimes u dec o false count
            | none =>
              let g := s.eng u
              s.setEng u (g.setQueue dec { q with entries := q.entries ++ [⟨o, exp, ctx⟩] })

/-! ### May the head issue? (R212, R215, R217, R219, R235) -/

/-- The Tally the order waits on: local to the queue's die. -/
def waitTally (u : EngUnit) (o : BitVec 128) : Nat := u.die.val * 4096 + ordWaitTally o
/-- The Tally its predicate tests. -/
def skipTally (u : EngUnit) (o : BitVec 128) : Nat := u.die.val * 4096 + ordSkipTally o

/-- Is the wait-before a misuse (R245, R251)? -/
def State.waitMisuse (s : State) (u : EngUnit) (q : Queue) (o : BitVec 128) : Bool :=
  q.reps == 0 && ordWaitN o != 0 && (s.tallyOf (waitTally u o)).kind != tallyCounter

/-- Is the head waiting on its Tally (R215)? -/
def State.waiting (s : State) (u : EngUnit) (q : Queue) (o : BitVec 128) : Bool :=
  q.reps == 0 && ordWaitN o != 0 && (s.tallyOf (waitTally u o)).kind == tallyCounter &&
    decide ((s.tallyOf (waitTally u o)).value < ordWaitN o)

/-- The orders of one queue in progress. -/
def EngState.flyingOf (g : EngState) (decode : Bool) : List InFlight := g.flying.filter (fun f => f.decode == decode)

/-- A result set of a unit. -/
def State.resultSet (s : State) (u : EngUnit) (n : Nat) : ResultSet :=
  let a := look ⟨ResultSet.free, ResultSet.free⟩ s.assay (u.die.val * 512 + u.inst)
  if n = 0 then a.set0 else a.set1

def State.setResultSet (s : State) (u : EngUnit) (n : Nat) (r : ResultSet) : State :=
  let k := u.die.val * 512 + u.inst
  let d : Assay := ⟨ResultSet.free, ResultSet.free⟩
  let a := look d s.assay k
  { s with assay := put d s.assay k (if n = 0 then { a with set0 := r } else { a with set1 := r }) }

/-- The tile a STRIKE or TSTRIKE names (R223). -/
def strikeTile (u : EngUnit) (o : BitVec 128) : Nat := tileAt u.die.val u.inst (ordBody o 55 52)

/-- The set an order of the Assay unit names, if it names one. -/
def setOf (o : BitVec 128) : Option Nat :=
  match ordClass o, ordOp o with
  | 0, _ => some (ordBody o 50 50)
  | 1, _ => some (ordBody o 50 50)
  | 2, 1 => none
  | 2, _ => some (ordBody o 55 55)
  | _, _ => none

/-- Does the unit's own ordering let the order begin (R219, R235, R268): its set is not another queue's, the strikes of a
set it reads or adds to have ended, the tile is idle, the channel is free, a fence has nothing before it? -/
def State.ordered (s : State) (u : EngUnit) (decode : Bool) (o : BitVec 128) : Bool :=
  let g := s.eng u
  let setOk := match setOf o with
    | none => true
    | some n =>
      let r := s.resultSet u n
      !r.isOpen || r.decode == decode
  let drained := match ordClass o, setOf o with
    | 2, some n => g.flying.all (fun f => f.ready || setOf f.order != some n)
    | _, _ => true
  match ordClass o, ordOp o with
  | 0, _ => setOk && (s.tile (strikeTile u o)).slice.isNone
  | 1, _ => setOk && (s.tile (strikeTile u o)).slice.isNone
  | 2, 1 => !(s.resultSet u 0).isOpen || !(s.resultSet u 1).isOpen
  | 2, _ => setOk && drained
  | 5, _ => (s.chan u.die.val u.inst).desc.isNone
  | 9, 1 => (g.flyingOf decode).isEmpty
  | _, _ => true

/-- Is the unit quiesced, or in its block reset (R443)? A DMA channel has no `quiesce`. -/
def State.quiesced (s : State) (u : EngUnit) : Bool :=
  (match u.kind with | .dma => false | _ => s.flag (unitReg u 0) 1) || s.rst.blockResets.contains (.unit u)

/-- May the head of a queue issue now? -/
def State.headMay (s : State) (u : EngUnit) (decode : Bool) : Bool :=
  let q := (s.eng u).queue decode
  match q.entries with
  | [] => false
  | e :: _ =>
    s.coreRuns (u.die.val / 2) && EngUnit.ok u && !q.hold && q.arrive.isNone && !s.quiesced u &&
      (decide (0 < q.reps) || q.skip == 0 || ordClass e.order == 9) && !s.waiting u q e.order &&
      (s.waitMisuse u q e.order || s.ordered u decode ((e.repeated q.reps).getD e.order))

/-- Of two heads that can issue, the one that does (R213). -/
def State.decodeWins (s : State) (u : EngUnit) : Bool :=
  decide (((s.eng u).hist.filter id).length < s.fld (ENG_QCTL u) 20 16)

/-- Both heads can issue. -/
def State.contested (s : State) (u : EngUnit) : Bool := s.headMay u false && s.headMay u true

/-! ### Issue (R217, R234, R237, R240) -/

/-- What an order's work leaves: the state, the reason of its fault (0 for none), and whether its results are written. -/
structure Done where
  state  : State
  reason : Nat
  ready  : Bool

/-- Work that ends at once. -/
def done (s : State) : Done := ⟨s, 0, true⟩
/-- Work that faults. -/
def failed (s : State) (reason : Nat) : Done := ⟨s, reason, true⟩

/-- Take the head out of a queue, or go on to its next repetition. -/
def Queue.advance (q : Queue) : Queue :=
  match q.entries with
  | [] => q
  | e :: es => if q.reps + 1 < e.count ∨ q.arrive.isSome then { q with reps := q.reps + 1 }
    else { q with reps := 0, entries := es }

/-- Drop the head whole. -/
def Queue.drop (q : Queue) : Queue := { q with reps := 0, entries := q.entries.drop 1, arrive := none }

def State.setQueue (s : State) (u : EngUnit) (decode : Bool) (q : Queue) : State :=
  s.setEng u ((s.eng u).setQueue decode q)

def State.queueOf (s : State) (u : EngUnit) (decode : Bool) : Queue := (s.eng u).queue decode

/-- Remember a contested issue (R213). -/
def State.noteContest (s : State) (u : EngUnit) (decode : Bool) : State :=
  let g := s.eng u
  if s.contested u then s.setEng u { g with hist := (decode :: g.hist).take 16 } else s

/-- Test the predicate at repetition 0 (R217): a Tally below its bound skips the next entries. -/
def State.predicate (s : State) (u : EngUnit) (decode : Bool) (o : BitVec 128) : State :=
  if ordSkipK o = 0 then s
  else
    let y := s.tallyOf (skipTally u o)
    let s := if y.kind = 0 then s.tallyMisuse (skipTally u o) misUnused (ordSkipN o) none else s
    if y.value < ordSkipN o then s.setQueue u decode { s.queueOf u decode with skip := ordSkipK o } else s

/-- The operand an order writes to, if it has one (R216). -/
def destOf (o : BitVec 128) : Option Nat :=
  let b := ordBody o
  match ordClass o, ordOp o with
  | 2, 0 => some (b 54 47)
  | 3, 0 => some (b 11 4)
  | 3, 1 => some (b 11 4 + 3)
  | 3, 3 => some (b 55 48)
  | 4, 0xA => none
  | 4, _ => some (b 39 32)
  | 8, _ => some (b 47 40)
  | _, _ => none

/-- Does an order's signal go to every die: its destination has `all_dies`, or it is an APPEND or an ENDA, whose results
go to all four (R216, R224; DEDUCED, log entry 25)? -/
def State.everyDie (s : State) (u : EngUnit) (prog : Nat) (o : BitVec 128) : Bool :=
  (ordClass o == 7 && ordOp o == 0) || (ordClass o == 2 && ordOp o == 1) ||
    (match destOf o with
     | some k => (s.operand prog u.die.val (k % 256)).allDies
     | none => false)

/-- The head of a queue issues one repetition. -/
def State.issueHead (s : State) (u : EngUnit) (decode : Bool) (e : QEntry) (work : Job → State → Done) : State :=
  let q := s.queueOf u decode
  let s := s.noteContest u decode
  if s.waitMisuse u q e.order then
    let j := jobOf u decode e e.order false
    let y := s.tallyOf (waitTally u e.order)
    let s := s.tallyMisuse (waitTally u e.order) (if y.kind = 0 then misUnused else misKind) (ordWaitN e.order) (some j)
    let s := (s.orderFault j reasonTally).setQueue u decode q.drop
    s.signalTimes u decode e.order (s.everyDie u e.prog e.order) e.count
  else
    let s := if q.reps = 0 then s.predicate u decode e.order else s
    let s := s.bump (if decode then ENG_CNT_ISSUE_D u else ENG_CNT_ISSUE_P u) 1
    let o := (e.repeated q.reps).getD e.order
    let j := jobOf u decode e o (ordAcc o || decide (0 < q.reps))
    let r := if (e.repeated q.reps).isNone then failed s reasonPatch else work j s
    if r.reason = 0 then
      let s := r.state
      let g := s.eng u
      let s := s.setEng u { g with flying := g.flying ++ [⟨e, o, decode, r.ready, false⟩] }
      s.setQueue u decode (s.queueOf u decode).advance
    else
      let s := r.state.orderFault j r.reason
      let s := s.setQueue u decode (s.queueOf u decode).advance
      s.signalAfter u decode o (s.everyDie u e.prog o)

/-- An order of the given class and opcode at the head of a queue issues, if it may. -/
def State.issue (s : State) (u : EngUnit) (decode : Bool) (cls op : Nat) (work : Job → State → Done) : State :=
  match (s.queueOf u decode).entries with
  | [] => s
  | e :: _ =>
    if ordClass e.order = cls ∧ ordOp e.order = op ∧ s.headMay u decode = true ∧
        (s.contested u = false ∨ s.decodeWins u = decode) then
      s.issueHead u decode e work
    else s

/-- Skip the head under a live predicate (R217). -/
def State.skipHead (s : State) (u : EngUnit) (decode : Bool) : State :=
  let q := s.queueOf u decode
  match q.entries with
  | [] => s
  | e :: _ =>
    if 0 < q.skip ∧ q.reps = 0 ∧ ordClass e.order ≠ 9 ∧ q.hold = false ∧ q.arrive = none then
      let s := s.setQueue u decode { q.drop with skip := q.skip - 1 }
      let s := s.bump (ENG_CNT_SKIP u) 1
      s.signalTimes u decode e.order (s.everyDie u e.prog e.order) e.count
    else s

/-! ### Completion and signals (R237, R239, R251) -/

/-- The orders-completed counter of an engine (R205). -/
def State.countOrder (s : State) (u : EngUnit) (o : BitVec 128) : State :=
  match u.kind with
  | .attn => if ordClass o = 3 then s.bump (ATN_CNT_ORDERS u.die.val u.inst) 1 else s
  | .vec => if ordClass o = 4 ∨ ordClass o = 7 ∨ ordClass o = 8 then s.bump (VEC_CNT_ORDERS u.die.val u.inst) 1 else s
  | _ => s

/-- The oldest order of a queue whose results are written completes: its signal goes out, an ARRIVE's arrival does. -/
def State.complete (s : State) (u : EngUnit) (decode : Bool) : State :=
  let g := s.eng u
  match g.flying.find? (fun f => f.decode == decode && f.ready) with
  | none => s
  | some f =>
    let s := (s.setEng u { g with flying := g.flying.erase f }).countOrder u f.order
    if ordClass f.order = 6 ∧ ordOp f.order = 2 then
      { s with signals := s.signals ++ [{ tally := ordBody f.order 55 42, inc := 0, round := some (ordBody f.order 25 18),
                                          src := u, decode := decode }] }
    else s.signalAfter u decode f.order (s.everyDie u f.entry.prog f.order)

/-- An arrival that lands as a misuse faults its order, which leaves its queue's head (R247, R252). -/
def State.arrivalFault (s : State) (x : Signal) (e : QEntry) : State :=
  let s := s.orderFault (jobOf x.src x.decode e e.order false) reasonTally
  let q := s.queueOf x.src x.decode
  let s := s.setQueue x.src x.decode (if q.reps < e.count then { q with arrive := none } else q.drop)
  s.signalAfter x.src x.decode e.order false

/-- A signal on its way lands at its Tally (R239). -/
def State.landSignal (s : State) (t : Nat) : State :=
  match s.signals.find? (fun x => x.tally == t) with
  | none => s
  | some x =>
    let s := { s with signals := s.signals.erase x }
    match x.round with
    | none => (s.tallyAdd t x.inc none).1
    | some r =>
      let q := s.queueOf x.src x.decode
      match q.entries with
      | [] => s
      | e :: _ =>
        let (s, ok) := s.arriveAt t r (some (jobOf x.src x.decode e e.order false))
        if ok then (s.setQueue x.src x.decode { q with arrive := some (t, r + 256) }).settleRound t
        else s.arrivalFault x e

/-- Take back what a held ARRIVE has sent (R253). -/
def State.withdraw (s : State) (u : EngUnit) (decode : Bool) (t r : Nat) : State :=
  if r < 256 then
    let g := s.eng u
    let s := s.setEng u { g with flying := g.flying.filter (fun f =>
      !(f.decode == decode && ordClass f.order == 6 && ordOp f.order == 2)) }
    { s with signals := s.signals.filter (fun x => !(x.src == u && x.decode == decode && x.round.isSome)) }
  else
    let y := s.tallyOf t
    if y.kind != tallyBarrier then s
    else if r - 256 = y.round then s.setTally t { y with value := y.value - 1 }
    else s.setTally t { y with next := y.next - 1 }

/-- The watchdog ends a head's wait (R253). -/
def State.watchdog (s : State) (u : EngUnit) (decode : Bool) : State :=
  let q := s.queueOf u decode
  match q.entries with
  | [] => s
  | e :: _ =>
    let held := q.arrive.isSome
    let waits := q.skip == 0 && !q.hold && s.waiting u q e.order
    if !held && !waits then s
    else
      let s := s.bump (TAL_CNT_WDOG u.die.val) 1
      let s := match q.arrive with
        | some (t, r) => s.withdraw u decode t r
        | none => s
      let s := s.orderFault (jobOf u decode e ((e.repeated (q.reps - 1)).getD e.order) false) reasonWatchdog
      let s := s.setQueue u decode (s.queueOf u decode).drop
      s.signalTimes u decode e.order (s.everyDie u e.prog e.order) (if held then e.count + 1 - q.reps else e.count)

/-! ### TALLY and MARK orders (R228, R235, R245, R250) -/

/-- INC and DEC act on a Tally of any die (R245). -/
def tallyWork (inc : Bool) (j : Job) (s : State) : Done :=
  let t := j.body 55 42
  let v := j.body 41 26
  let (s, ok) := if inc then s.tallyAdd t v (some j) else s.tallySub t v (some j)
  if ok then done s else failed s reasonTally

/-- ARRIVE holds its queue's head until its round completes (R251). -/
def arriveWork (j : Job) (s : State) : Done :=
  let q := s.queueOf j.unit j.decode
  done (s.setQueue j.unit j.decode { q with arrive := some (j.body 55 42, j.body 25 18) })

/-- STEP ends the queue's part in the step (R235, R217). -/
def stepWork (j : Job) (s : State) : Done :=
  let q := s.queueOf j.unit j.decode
  done ((s.setQueue j.unit j.decode { q with hold := true, stepped := true, skip := 0 }).setFlag (ENG_QCTL j.unit) 0 true)

/-- TRACE writes 16 bytes to the status array (R228). -/
def traceWork (j : Job) (s : State) : Done :=
  let ctx := j.account * 2 ^ 52 + j.row * 2 ^ 39 + j.layer * 2 ^ 27 + j.prog * 2 ^ 19 + j.index * 2 ^ 3
  let bs := natLe 8 (s.counter (j.die / 2)).toNat ++ natLe 2 (j.body 55 40) ++ natLe 6 ctx
  done (s.write (s.statusAt j.prog j.die (j.body 39 28)) bs)

/-- Work that has no action of its own. -/
def noWork (_j : Job) (s : State) : Done := done s

/-! ### Meanings -/

/-- QUEUE_ENTRY_ENQUEUE (R211). -/
def execQueueEntryEnqueue (d : Die) (prog : Nat) (entry : Nat) (row : Nat) (s : State) :
    Host.Outcome State Fault Refusal :=
  .next (s.enqueue d prog entry row)
/-- SKIP_ENTRY (R217). -/
def execSkipEntry (u : EngUnit) (decode : Bool) (s : State) : Host.Outcome State Fault Refusal :=
  .next (s.skipHead u decode)
/-- TALLY_INC (R245). -/
def execTallyInc (u : EngUnit) (decode : Bool) (s : State) : Host.Outcome State Fault Refusal :=
  .next (s.issue u decode 6 0 (tallyWork true))
/-- TALLY_DEC (R245). -/
def execTallyDec (u : EngUnit) (decode : Bool) (s : State) : Host.Outcome State Fault Refusal :=
  .next (s.issue u decode 6 1 (tallyWork false))
/-- TALLY_ARRIVE (R250, R251). -/
def execTallyArrive (u : EngUnit) (decode : Bool) (s : State) : Host.Outcome State Fault Refusal :=
  .next (s.issue u decode 6 2 arriveWork)
/-- BARRIER_NEXT_ROUND (R250). -/
def execBarrierNextRound (t : TallyId) (s : State) : Host.Outcome State Fault Refusal := .next (s.settleRound t.val)
/-- TALLY_WAIT (R228). -/
def execTallyWait (u : EngUnit) (decode : Bool) (s : State) : Host.Outcome State Fault Refusal :=
  .next (s.issue u decode 6 3 noWork)
/-- MARK_STEP (R235). -/
def execMarkStep (u : EngUnit) (decode : Bool) (s : State) : Host.Outcome State Fault Refusal :=
  .next (s.issue u decode 9 0 stepWork)
/-- MARK_FENCE (R228). -/
def execMarkFence (u : EngUnit) (decode : Bool) (s : State) : Host.Outcome State Fault Refusal :=
  .next (s.issue u decode 9 1 noWork)
/-- MARK_TRACE (R228). -/
def execMarkTrace (u : EngUnit) (decode : Bool) (s : State) : Host.Outcome State Fault Refusal :=
  .next (s.issue u decode 9 2 traceWork)
/-- ORDER_COMPLETE (R237). -/
def execOrderComplete (u : EngUnit) (decode : Bool) (s : State) : Host.Outcome State Fault Refusal :=
  .next (s.complete u decode)
/-- SIGNAL_LAND (R239). -/
def execSignalLand (t : TallyId) (s : State) : Host.Outcome State Fault Refusal := .next (s.landSignal t.val)
/-- WATCHDOG_EXPIRY (R253). -/
def execWatchdogExpiry (u : EngUnit) (decode : Bool) (s : State) : Host.Outcome State Fault Refusal :=
  .next (s.watchdog u decode)

end Sys2Proof.Machine
end

