-- ==== Sys2Proof/Machine/Fabric.lean ====
section
/-! DEFINITION. The Clearing links and what goes out on them (13_clearing_fabric_and_scale.md R382 to R388, R395 to R397),
and the parts of a Ledger address (R390). A command starts a flit of its own; what else an outgoing flit's header carries
only the far end sees (DESIGN CHOICE, log entry 26). -/

namespace Sys2Proof.Machine

/-! ### The Ledger address (R390) -/

def adNode (a : Word64) : Nat := bits a 63 52
def adSpace (a : Word64) : Nat := bits a 51 48
def adOff (a : Word64) : Nat := bits a 47 0

/-- A Ledger address from its parts. -/
def ledger (node space off : Nat) : Word64 := BitVec.ofNat 64 (node * 2 ^ 52 + space * 2 ^ 48 + off % 2 ^ 48)

/-- The key in memory of a byte of a space: the staging area of space 0x7 is the staged slot (R446). -/
def spaceKey (space off : Nat) : Nat := if space = 7 then keyOf 0 (stagedSlot + off) else keyOf space off

/-- The check bytes of a granule, poison or not (R27). -/
def codewordOf (data : List Byte) (poison : Bool) : Codeword :=
  let c := ledgerCheck data
  ⟨data, if poison then xorBytes c poisonMark else c⟩

/-! ### Links -/

/-- `CLR_LSTAT` of a link of the device. -/
def linkStat (l : Nat) : Nat := CLR_LSTAT (l / 6) (l % 6)

def State.linkUp (s : State) (l : Nat) : Bool := s.flag (linkStat l) 31

/-- Has the link a key (R388, R468)? -/
def State.linkKeyed (s : State) (l : Nat) : Bool := look ([], 0, 0) s.sec.linkInfo l != ([], 0, 0)

/-- May the link carry commands: a link without a key carries only training and key exchange (R388)? -/
def State.linkUsable (s : State) (l : Nat) : Bool := s.linkUp l && s.linkKeyed l

/-- The channel of a command (R385). -/
def cmdChan (c : ClrCmd) : Nat := c.hops.toNat / 64

/-- Slots and flits that a command and its granules take (R384, R385). -/
def cmdSlots (data : List Codeword) : Nat := 1 + data.length
def cmdFlits (data : List Codeword) : Nat := ceilDiv (cmdSlots data) 16

/-- Credit for all of the command's slots, and room among the 256 unacknowledged flits (R386, R404). -/
def LinkState.canSend (k : LinkState) (c : ClrCmd) (data : List Codeword) : Bool :=
  decide (cmdSlots data ≤ look 0 k.credit (cmdChan c)) && decide (k.replay.length + cmdFlits data ≤ 256)

/-- Put a command on a link. -/
def State.transmit (s : State) (l : Nat) (c : ClrCmd) (data : List Codeword) : State :=
  let k := s.linkOf l
  let n := cmdFlits data
  let s := s.setLink l { k with
    txSeq := k.txSeq + BitVec.ofNat 16 n,
    replay := k.replay ++ (List.range n).map (fun i => (k.txSeq + BitVec.ofNat 16 (i + 1), 0)),
    credit := upd 0 k.credit (cmdChan c) (fun x => x - cmdSlots data) }
  let s := { s with sec := { s.sec with linkFlits := upd 0 s.sec.linkFlits (2 * l) (fun x => x + n) } }
  (s.bump (CLR_L_TX (l / 6) (l % 6)) n).send (.clr l c data)

/-- Hand a command to a link: it goes out, or waits behind its channel's others (R386). -/
def State.offer (s : State) (l : Nat) (c : ClrCmd) (data : List Codeword) : State :=
  let k := s.linkOf l
  if k.waiting.any (fun e => cmdChan e.1 == cmdChan c) || !k.canSend c data then
    s.setLink l { k with waiting := k.waiting ++ [(c, data)] }
  else s.transmit l c data

/-- Offer again what waits at a link. -/
def State.pump (s : State) (l : Nat) : State :=
  let w := (s.linkOf l).waiting
  w.foldl (fun s e => s.offer l e.1 e.2) (s.setLink l { s.linkOf l with waiting := [] })

/-! ### Routes (R395 to R397) -/

/-- Is the device fenced (R399)? -/
def State.fencedOff (s : State) : Bool := s.flag (CLR_ID 0) 29

/-- The link that the route table gives to a node, fenced or not: a fenced device still sends rolls (R399). -/
def State.linkFor (s : State) (node : Nat) : Option Nat :=
  let e := s.chr secRoutes (64 + 2 * node + 1) (64 + 2 * node)
  if !s.serve.posted || !nbit e 15 then none
  else if s.linkUsable (e % 16) then some (e % 16)
  else
    let alt := e / 16 % 16
    if alt < 12 ∧ s.linkUsable alt = true then some alt else none

/-- The link to a node; none where it is unreachable (R395) or the device is fenced. -/
def State.routeOf (s : State) (node : Nat) : Option Nat := if s.fencedOff then none else s.linkFor node

/-- Send a command to a node; none where it is unreachable. -/
def State.sendTo (s : State) (node : Nat) (c : ClrCmd) (data : List Codeword) : Option State :=
  (s.routeOf node).map (fun l => s.offer l c data)

/-- A command with nothing in it: 31 hops on a channel, from Array die `die` (R385, R396). -/
def State.newCmd (s : State) (op chan die : Nat) (dst : Word64) : ClrCmd :=
  { op := BitVec.ofNat 8 op, hops := BitVec.ofNat 8 (chan * 64 + 31), src := BitVec.ofNat 16 (s.node + die % 4 * 4096),
    dst := dst, gran := 0, lead := 0, tail := 0, tag := 0, count := 0, tally := 0, inc := 0 }

/-- The key of a sent count: source die, destination node (R393). -/
def sentKey (die node : Nat) : Nat := die * 4096 + node

/-- An Array die hands a write to a Port die, and its sent count rises (R393). -/
def State.sendWrite (s : State) (die node : Nat) (c : ClrCmd) (data : List Codeword) : Option State :=
  (s.sendTo node c data).map (fun s =>
    { s with clr := { s.clr with sent := upd 0 s.clr.sent (sentKey die node) (· + 1) } })

/-! ### Links going down and retry (R383, R387) -/

/-- A link goes down: its replay buffer is discarded and counted; the commands that wait look for their route again. -/
def State.linkDown (s : State) (l reason : Nat) : State :=
  let k := s.linkOf l
  let s := s.bump (CLR_L_DISC (l / 6) (l % 6)) k.replay.length
  let s := s.setLink l { LinkState.down with failedAt := some s.now }
  let s := (s.setFld (linkStat l) 31 30 0).setFld (linkStat l) 27 24 0
  let s := if reason = 1 then s.setFlag (linkStat l) 29 false else s
  let s := if reason = 0 then
      s.fault (faultOf clsLink (0x30 + l / 6) blkLink (l % 6) (l % 6 * 4) 8)
    else s
  let s := s.eventAll 0x40 l reason
  k.waiting.foldl (fun s e => (s.sendTo (adNode e.1.dst) e.1 e.2).getD s) s

/-- Replay every unacknowledged flit; a flit replayed 8 times without success exhausts retry (R387). -/
def State.replayAll (s : State) (l : Nat) : State :=
  let k := s.linkOf l
  if k.replay.isEmpty then s
  else if k.replay.any (fun e => decide (8 ≤ e.2)) then s.linkDown l 0
  else
    let s := s.setLink l { k with replay := k.replay.map (fun e => (e.1, e.2 + 1)) }
    let s := (s.bump (CLR_L_REPLAY (l / 6) (l % 6)) k.replay.length).bump (CLR_L_TX (l / 6) (l % 6)) k.replay.length
    k.replay.foldl (fun s e => s.send (.replay l e.1)) s

/-- Is sequence number `seq` acknowledged by `ack` (R387)? -/
def seqAcked (ack seq : BitVec 16) : Bool := decide ((ack - seq).toNat < 32768)

/-- A good flit's sequence number, `ack` and credit are taken: acknowledged flits leave the replay buffer (R386, R387). -/
def LinkState.take (k : LinkState) (seq ack : BitVec 16) (chan credit : Nat) : LinkState :=
  { k with rxSeq := seq, replay := k.replay.filter (fun e => !seqAcked ack e.1),
           credit := upd 0 k.credit chan (fun n => Nat.min (n + credit) 1024) }

/-- An old key goes once `ack` passes the flit that ended it (R468). -/
def State.dropOldKeys (s : State) (l : Nat) (ack : BitVec 16) : State :=
  { s with sec := { s.sec with oldKeys := s.sec.oldKeys.filter (fun e => !(e.1 == 2 * l && seqAcked ack e.2.2.2.2)) } }

/-! ### A Charter's node and role (R399, R401) -/

/-- The key of an entry of the domain directory in V0 (R401). -/
def State.dirAt (s : State) (n : Nat) : Nat := keyOf 0 (s.chr secRoutes 31 28 * 4096 + 32 * n)

/-- A Charter has posted: a new node or role ends a fence and starts its rolls and its directory afresh (R399, R401). -/
def State.newRole (s : State) (was : Option (Nat × Nat)) : State :=
  if was = some (s.node, s.role) then s
  else
    let s := (s.setFld (CLR_ID 0) 29 28 0).setFld (CLR_ROLL 0) 31 30 0
    let s := { s with clr := { s.clr with dir := [], peerSeen := s.now, ackSeen := s.now } }
    if s.role = 2 then s.write (s.dirAt 0) (List.replicate 65536 0) else s

/-! ### Keys (R468) -/

/-- The key and the salt of a direction: the byte layout of the HKDF inputs is the model's (DESIGN CHOICE, log entry 27). -/
def deriveKey (domain : BitVec 256) (nonces : List Byte) (from_ to_ n : Nat) : BitVec 256 × Word32 :=
  let o := hkdf256 (natLe 32 domain.toNat) nonces (natLe 2 from_ ++ natLe 2 to_ ++ natLe 4 n) 36
  (BitVec.ofNat 256 (leNat (o.take 32)), BitVec.ofNat 32 (leNat (o.drop 32)))

/-- The confirmation both ends send: HMAC-SHA-256 of the transcript under the derived key of the lower node's direction
(DESIGN CHOICE, log entry 27). -/
def confirmOf (domain : BitVec 256) (nonces : List Byte) (lo hi : Nat) : BitVec 256 :=
  let k := (deriveKey domain nonces lo hi 0).1
  BitVec.ofNat 256 (leNat (hmac256 (natLe 32 k.toNat) (nonces ++ natLe 2 lo ++ natLe 2 hi)))

/-- A direction of a link takes a key with its number; its flit count restarts (R388). -/
def State.setLinkKey (s : State) (l : Nat) (rx : Bool) (domain : BitVec 256) (n : Nat) : State :=
  let (nonces, a, b) := look ([], 0, 0) s.sec.linkInfo l
  let (k, salt) := if rx then deriveKey domain nonces b a n else deriveKey domain nonces a b n
  let i := 2 * l + rx.toNat
  { s with sec := { s.sec with linkKeys := put (0, 0, 0) s.sec.linkKeys i (k, salt, n),
                               linkFlits := put 0 s.sec.linkFlits i 0 } }

/-- The next key of a direction; a sender keeps the old one until `ack` passes its first flit (R468). -/
def State.rollKey (s : State) (l : Nat) (rx : Bool) : State :=
  match s.mram.domainKey with
  | none => s
  | some dk =>
    let i := 2 * l + rx.toNat
    let (k, salt, n) := look (0, 0, 0) s.sec.linkKeys i
    let s := if rx then s else
      { s with sec := { s.sec with
        oldKeys := put (0, 0, 0, 0) s.sec.oldKeys i (k, salt, n, (s.linkOf l).txSeq + 1) } }
    s.setLinkKey l rx dk (n + 1)

/-! ### Training (R383, R468) -/

/-- The lanes a link uses of those that trained: all four, or a pair (R383). -/
def usableLanes (lanes : Nat) : Nat := if lanes = 15 then 15 else if lanes % 4 = 3 then 3 else if lanes / 4 = 3 then 12 else 0

/-- May the link be used: the Charter's `links_en`, once one has posted (R403)? -/
def State.linkEnabled (s : State) (l : Nat) : Bool := !s.serve.posted || nbit (s.chr secRoutes 27 26) l

/-- A link comes up with its lanes: sequence numbers restart and the credit of every channel is whole (R386). -/
def State.linkStart (s : State) (l lanes flight : Nat) : State :=
  let s := s.setLink l { LinkState.down with credit := [(0, 1024), (1, 1024), (2, 1024), (3, 1024)] }
  let s := s.setReg (linkStat l) (BitVec.ofNat 64 (2 ^ 31 + (if lanes = 15 then 0 else 2 ^ 30) + 2 ^ 29 + lanes * 2 ^ 24
    + flight))
  s.eventAll 0x41 l (if lanes = 15 then 4 else 2)

/-- A link's training fails. -/
def State.trainFailed (s : State) (l : Nat) : State :=
  (s.setLink l { s.linkOf l with failedAt := some s.now }).eventAll 0x40 l 2

/-- A link trains (R383), and its keys are derived and confirmed (R468). -/
def State.train (s : State) (l lanes flight farNode : Nat) (farNonce confirm : BitVec 256) : State :=
  let use := usableLanes lanes
  if s.linkUp l || decide (s.rowsOf (l / 6) < 3) || !s.linkEnabled l then s
  else if use = 0 then s.trainFailed l
  else
    match s.mram.domainKey with
    | none => s.linkStart l use flight
    | some dk =>
      let (f, s) := s.draw
      let own := natLe 32 f
      let far := natLe 32 farNonce.toNat
      let a := s.node
      let nonces := if a ≤ farNode then own ++ far else far ++ own
      if confirm ≠ confirmOf dk nonces (Nat.min a farNode) (Nat.max a farNode) then s.trainFailed l
      else
        let s := { s with sec := { s.sec with linkInfo := put ([], 0, 0) s.sec.linkInfo l (nonces, a, farNode) } }
        ((s.setLinkKey l false dk 0).setLinkKey l true dk 0).linkStart l use flight

/-- A link that is down begins to train again every 100,000,000 ticks (R383). -/
def State.retrain (s : State) (l : Nat) : State :=
  if s.linkUp l then s else s.setLink l { s.linkOf l with failedAt := some s.now }

/-- The receive clock loses lock (R383). -/
def State.lockLost (s : State) (l : Nat) : State := if s.linkUp l then s.linkDown l 1 else s

/-- The flit count of the sending key reaches 2^40 (R468). -/
def State.keyRollover (s : State) (l : Nat) : State :=
  if s.linkKeyed l && decide (2 ^ 40 ≤ look 0 s.sec.linkFlits (2 * l)) then s.rollKey l false else s

/-! ### Meanings -/

/-- LINK_TRAIN (R383, R468). -/
def execLinkTrain (l : Link) (lanes : BitVec 4) (flight : BitVec 16) (farNode : Node) (farNonce : BitVec 256)
    (confirm : BitVec 256) (s : State) : Host.Outcome State Fault Refusal :=
  .next (s.train l.val lanes.toNat flight.toNat farNode.val farNonce confirm)
/-- LINK_RETRAIN (R383). -/
def execLinkRetrain (l : Link) (s : State) : Host.Outcome State Fault Refusal := .next (s.retrain l.val)
/-- LINK_LOCK_LOST (R383). -/
def execLinkLockLost (l : Link) (s : State) : Host.Outcome State Fault Refusal := .next (s.lockLost l.val)
/-- LINK_KEY_ROLLOVER (R468). -/
def execLinkKeyRollover (l : Link) (s : State) : Host.Outcome State Fault Refusal := .next (s.keyRollover l.val)
/-- REPLAY_TIMEOUT (R387). -/
def execReplayTimeout (l : Link) (s : State) : Host.Outcome State Fault Refusal := .next (s.replayAll l.val)

end Sys2Proof.Machine
end

