-- ==== Sys2Proof/Machine/Spaces.lean ====
section
/-! DEFINITION. Reading and writing a range of a Ledger space (01 R21, R26; 04 R133; 12 R380; 13 R390; 15 R446). -/

namespace Sys2Proof.Machine

/-! ### What the Mint directory reads as (R130, R133) -/

/-- The 32 bytes of a directory entry: a sweep pending is flag bit 3 of every entry (R129). -/
def DirEntry.encode (d : DirEntry) (sweep : Bool) : List Byte :=
  natLe 1 d.role.toNat ++ natLe 1 d.geom.toNat ++ natLe 2 d.layer.toNat ++ natLe 1 d.rowBlk.toNat
    ++ natLe 1 d.colBlk.toNat ++ natLe 1 d.segs.toNat ++ natLe 1 0 ++ natLe 2 d.cols.toNat ++ natLe 2 d.partner.toNat
    ++ natLe 2 d.origin.toNat ++ natLe 2 0 ++ natLe 4 d.aux.toNat ++ natLe 4 d.master.toNat ++ natLe 1 d.stateA.toNat
    ++ natLe 1 d.stateB.toNat ++ natLe 1 (if sweep then (d.flags ||| 8).toNat else d.flags.toNat) ++ natLe 1 0
    ++ natLe 2 d.epochA.toNat ++ natLe 2 d.epochB.toNat

/-- The entry that a Charter's 32 bytes give, with the fields that the device maintains taken from `old` (R130). -/
def DirEntry.ofBytes (b : List Byte) (old : DirEntry) : DirEntry :=
  { role := BitVec.ofNat 8 (byteAt b 0), geom := BitVec.ofNat 8 (byteAt b 1), layer := BitVec.ofNat 16 (fieldB b 3 2),
    rowBlk := BitVec.ofNat 8 (byteAt b 4), colBlk := BitVec.ofNat 8 (byteAt b 5), segs := BitVec.ofNat 8 (byteAt b 6),
    cols := BitVec.ofNat 16 (fieldB b 9 8), partner := BitVec.ofNat 16 (fieldB b 11 10),
    origin := BitVec.ofNat 16 (fieldB b 13 12), aux := BitVec.ofNat 32 (fieldB b 19 16),
    master := BitVec.ofNat 32 (fieldB b 23 20), stateA := old.stateA, stateB := old.stateB, flags := old.flags,
    epochA := old.epochA, epochB := old.epochB }

/-! ### Reading -/

/-- `n` bytes from byte `o` of a table whose records of `w` bytes `f` gives. -/
def tableRead (w : Nat) (f : Nat → List Byte) (o n : Nat) : List Byte :=
  (((List.range ((o % w + n + w - 1) / w)).flatMap (fun i => f (o / w + i))).drop (o % w)).take n

/-- The Daybook and the fault log as space 0x8 lays them out (R380). -/
def State.bookRead (s : State) (o n : Nat) : List Byte :=
  if o < 0x200000 then
    tableRead 32 (fun k => (look DayRec.free s.mram.daybook k).encode) o n
  else if 0x1000000 ≤ o then
    tableRead 64 (fun k => FaultRecord.encode (look FaultRecord.blank s.log.slots (k % 65536))) (o - 0x1000000) n
  else List.replicate n 0

/-- The level plane that an offset of space 0x4 lies in: tile and bank (R133). -/
def planeOf (o : Nat) : Nat × Bank := ((o - 2 ^ 32) / 2 ^ 20, (o - 2 ^ 32) / 2 ^ 19 % 2 == 1)

/-- Bytes of a space, each with whether it is poison. A level of a bank in Programming reads as poison (R133). -/
def State.spaceRead (s : State) (space o n : Nat) : List (Byte × Bool) :=
  if space = 8 then (s.bookRead o n).map (fun b => (b, false))
  else if space = 4 ∧ o < 2 ^ 32 then
    (tableRead 32 (fun t => (s.dirOf t).encode s.mram.sweepPending) o n).map (fun b => (b, false))
  else if space = 4 then
    (List.range n).map (fun i =>
      let (t, b) := planeOf (o + i)
      if (s.dirOf t).state b = bankProgramming then (0, true) else (s.byte (keyOf 4 (o + i)), false))
  else
    (List.range n).map (fun i =>
      let k := spaceKey space (o + i)
      (s.byte k, look false s.poison (k / 32)))

/-! ### Writing -/

/-- Write bytes that may each be poison: a granule that takes a poison byte is poison, and one written in part keeps the
poison it had (R28 to R30). -/
def State.spaceWrite (s : State) (space o : Nat) (bs : List (Byte × Bool)) : State :=
  let k := spaceKey space o
  let s := s.write k (bs.map Prod.fst)
  (bs.zipIdx).foldl (fun s e => if e.1.2 then s.spoil (k + e.2) 1 else s) s

end Sys2Proof.Machine
end

