-- ==== Sys2Proof/Machine/Dma.lean ====
section
/-! DEFINITION. DMA channels and MOVE (08_tallies_and_dma.md R257 to R269), local timers (R270), quiesce and block resets
(15 R443). -/

namespace Sys2Proof.Machine

/-! ### Descriptors (R259, R260) -/

/-- A descriptor from its 32 bytes. -/
def Desc.ofBytes (b : List Byte) : Desc :=
  { src := BitVec.ofNat 64 (fieldB b 7 0), dst := BitVec.ofNat 64 (fieldB b 15 8), len := fieldB b 19 16,
    ctl := BitVec.ofNat 8 (byteAt b 20), trig := BitVec.ofNat 8 (byteAt b 21), pace := byteAt b 22,
    next := BitVec.ofNat 32 (fieldB b 27 24), tag := BitVec.ofNat 16 (fieldB b 29 28) }

def Desc.prio (x : Desc) : Nat := nbits x.ctl.toNat 1 0
def Desc.swap (x : Desc) : Nat := nbits x.ctl.toNat 4 2
def Desc.intHalf (x : Desc) : Bool := x.ctl.getLsbD 5
def Desc.intFull (x : Desc) : Bool := x.ctl.getLsbD 6
def Desc.chains (x : Desc) : Bool := x.ctl.getLsbD 7
/-- 0 no trigger, 1 a timer, 2 a channel; and which. -/
def Desc.trigKind (x : Desc) : Nat := nbits x.trig.toNat 1 0
def Desc.trigIx (x : Desc) : Nat := nbits x.trig.toNat 7 2

/-- The unit of a swap code (R260). -/
def swapUnit (code : Nat) : Nat := if code = 1 then 2 else if code = 2 ∨ code = 3 then 4 else 1
/-- The byte of the transfer that byte `i` takes (R260). -/
def swapIndex (code i : Nat) : Nat := i ^^^ (if code = 1 then 1 else if code = 2 then 3 else if code = 3 then 2 else 0)

/-- Bursts of a transfer (R263). -/
def Desc.bursts (x : Desc) : Nat := ceilDiv (adOff x.dst % 512 + x.len) 512

/-! ### The checks (R261, R262) -/

/-- Is the address on this device (R390)? -/
def State.ownNode (s : State) (a : Word64) : Bool := adNode a == s.node

/-- The owner of a channel: 0 step programs, 1 Clerks, 2 host, 3 none (`DMA_CTRL`). -/
def State.owner (s : State) (d k : Nat) : Nat := s.fld (DMA_CTRL d k) 31 30

/-- The host window that holds a range and permits its use (R420). -/
def State.hostWin (s : State) (a : Word64) (len : Nat) (write : Bool) : Option (Nat × Nat × Word64) :=
  let p := adSpace a - 5
  if s.ownNode a && (adSpace a == 5 || adSpace a == 6) then
    match s.windowFor p (adOff a) len with
    | some h => if h.perm.getLsbD write.toNat then some (p, h.fn.toNat, h.host (adOff a)) else none
    | none => none
  else none

/-- Does a range lie in its window (R262)? A space that is no source or destination has none, and the check of its role
answers for it. -/
def State.inWindow (s : State) (a : Word64) (len : Nat) (write : Bool) : Bool :=
  let o := adOff a
  if !s.ownNode a then true
  else match adSpace a with
    | 0 => decide (o + len ≤ vaultSize)
    | 1 => decide (o < 2 ^ 29) && decide (o % 2 ^ 27 + len ≤ tillSize)
    | 4 => decide (2 ^ 32 ≤ o) && decide (o < 2 ^ 32 + 2 ^ 35) && decide (o % 2 ^ 19 + len ≤ 2 ^ 19)
    | 5 => (s.hostWin a len write).isSome
    | 6 => (s.hostWin a len write).isSome
    | 7 => decide (o + len ≤ 2 ^ 28)
    | 8 => decide (o + len ≤ 2 * 2 ^ 20) || (decide (2 ^ 24 ≤ o) && decide (o + len ≤ 2 ^ 24 + 2 ^ 22))
    | _ => true

/-- May a space of this device act as source, or as destination (R262)? What another node takes it decides itself (R390;
DEDUCED, log entry 28). -/
def State.roleOk (s : State) (a : Word64) (clerk write : Bool) : Bool :=
  if !s.ownNode a then true
  else match adSpace a with
    | 0 => true
    | 1 => true
    | 4 => !write
    | 5 => true
    | 6 => true
    | 7 => clerk
    | 8 => !write
    | _ => false

/-- Do source and destination overlap on one node and space? -/
def Desc.overlaps (x : Desc) : Bool :=
  adNode x.src == adNode x.dst && adSpace x.src == adSpace x.dst && decide (adOff x.src < adOff x.dst + x.len) &&
    decide (adOff x.dst < adOff x.src + x.len)

/-- Is a reserved field or code used (R259, R7)? -/
def Desc.reserved (x : Desc) (raw : List Byte) : Bool :=
  decide (4 ≤ x.swap) || x.trigKind == 3 || (x.trigKind == 1 && decide (16 ≤ x.trigIx)) || byteAt raw 23 != 0 ||
    decide (2 ^ 22 ≤ x.next.toNat) || (!x.chains && x.next != 0)

/-- The code of the first check that a descriptor fails, 0 where it passes all (R261). `n` counts the descriptors of the
chain. -/
def State.checkDesc (s : State) (d k n : Nat) (x : Desc) (raw : List Byte) : Nat :=
  let clerk := s.owner d k == 1
  if x.len = 0 then 1
  else if !s.inWindow x.src x.len false || !s.inWindow x.dst x.len true then 2
  else if x.len % swapUnit x.swap ≠ 0 then 3
  else if x.overlaps then 4
  else if !s.roleOk x.src clerk false || !s.roleOk x.dst clerk true then 5
  else if x.reserved raw then 6
  else if x.trigKind = 2 ∧ x.trigIx = k then 7
  else if 4096 < n then 8
  else 0

/-- Fetch and check the descriptor at a granule of local Till, and start it; the code of a failed check. -/
def State.startDesc (s : State) (d k g n : Nat) : State × Nat :=
  if tillSize < 32 * g + 32 then (s, 2)
  else if s.bad (till d (32 * g)) 32 then (s, 6)
  else
    let raw := s.read (till d (32 * g)) 32
    let x := Desc.ofBytes raw
    let code := s.checkDesc d k n x raw
    if code ≠ 0 then (s, code)
    else
      let c := s.chan d k
      let s := s.setChan d k { Channel.idle with
        desc := some x, chain := n, released := if x.trigKind = 0 then x.bursts else 0,
        srcWin := s.hostWin x.src x.len false, dstWin := s.hostWin x.dst x.len true, mover := c.mover }
      let s := (s.setFlag (DMA_STAT d k) 31 true).setFld (DMA_STAT d k) 20 13 0
      ((s.setFld (DMA_DESC d k) 21 0 g).setReg (DMA_DONE d k) 0, 0)

/-! ### Errors and ends (R261, R268, R269) -/

/-- The job of the MOVE that a channel runs. -/
def State.moveOf (s : State) (u : EngUnit) (decode : Bool) : Option InFlight :=
  (s.eng u).flying.find? (fun f => f.decode == decode && !f.ready && ordClass f.order == 5)

/-- A channel's fault record: the bytes acknowledged, and the order where it runs one (R363). -/
def State.chanRecord (s : State) (d : Die) (k code : Nat) : State :=
  let r := { faultOf clsDma d.val blkDma k k (s.fld (DMA_DONE d.val k) 31 0) with reason := BitVec.ofNat 8 code }
  let r := match (s.chan d.val k).desc with | some x => FaultRecord.at_ r x.dst.toNat | none => r
  let u : EngUnit := ⟨d, .dma, k⟩
  s.fault (match (s.chan d.val k).mover with
    | none => r
    | some dec => match s.moveOf u dec with
      | some f => s.tellJob (jobOf u dec f.entry f.order false) r
      | none => r)

/-- Set `error` and its code, and write the record. -/
def State.chanError (s : State) (d : Die) (k code : Nat) : State :=
  ((s.setFlag (DMA_STAT d.val k) 27 true).setFld (DMA_STAT d.val k) 24 21 code).chanRecord d k code

/-- The settled signal of a MOVE: to this device's own Tally it is a signal like another; to another node it goes over the
fabric with the sent count of its die (R228, R249, R393). None where the node is unreachable. -/
def State.settle (s : State) (u : EngUnit) (decode : Bool) (o : BitVec 128) : Option State :=
  let inc := ordBody o 7 4
  let node := ordBody o 33 22
  let t := ordBody o 21 8
  if inc = 0 then some s
  else if node = s.node then
    some { s with signals := s.signals ++ [{ tally := t, inc := inc, round := none, src := u, decode := decode }] }
  else
    let c := s.newCmd 4 2 u.die.val (ledger node 3 (8 * t))
    s.sendTo node { c with count := look 0 s.clr.sent (sentKey u.die.val node), tally := BitVec.ofNat 16 t,
                           inc := BitVec.ofNat 8 inc } []

/-- Mark a unit's order in progress as ready to complete. -/
def State.readyOrder (s : State) (u : EngUnit) (f : InFlight) : State :=
  let g := s.eng u
  s.setEng u { g with flying := g.flying.map (fun x => if x = f then { x with ready := true } else x) }

/-- The channel is at rest. -/
def State.restChan (s : State) (d k : Nat) : State :=
  let s := s.setChan d k Channel.idle
  let s := { s with clr := { s.clr with reads := s.clr.reads.filter (fun e => !(e.2.1 == d && e.2.2.1 == k)) } }
  ((s.setFlag (DMA_STAT d k) 31 false).setFld (DMA_STAT d k) 20 13 0).setFlag (DMA_CTRL d k) 2 false

/-- A chain ends: a MOVE completes, with its settled signal where nothing failed and its rows marked where something did
(R268, R269). -/
def State.endChain (s : State) (d : Die) (k : Nat) : State :=
  let u : EngUnit := ⟨d, .dma, k⟩
  let c := s.chan d.val k
  match c.mover with
  | none => s.restChan d.val k
  | some dec =>
    match s.moveOf u dec with
    | none => s.restChan d.val k
    | some f =>
      let mark (s : State) : State := s.markRows f.entry.prog f.entry.row (fun w => { w with faulted := true })
      let s := if c.failed then mark s else match s.settle u dec f.order with
        | some s => s
        | none => mark (s.chanError d k 9)
      (s.restChan d.val k).readyOrder u f

/-- A transfer error ends the chain (R269). -/
def State.transferError (s : State) (d : Die) (k : Nat) : State :=
  if (s.chan d.val k).desc.isNone then s
  else
    let s := s.chanError d k 9
    (s.setChan d.val k { s.chan d.val k with failed := true }).endChain d k

/-- An interrupt of a channel (R267): a host-owned channel's goes to its vector on the Warrant holder's port. -/
def State.chanInterrupt (s : State) (d k bit : Nat) : State :=
  let s := s.setFlag (DMA_STAT d k) bit true
  if s.owner d k = 2 then
    match s.senior with
    | some p => s.msix p 0 (s.fld (DMA_CTRL d k) 29 19)
    | none => s
  else s

/-- A descriptor completes (R263, R267): its tag, its interrupt, and the next of its chain. -/
def State.descDone (s : State) (d : Die) (k : Nat) (x : Desc) : State :=
  let s := (s.setReg (DMA_TAG d.val k) (BitVec.ofNat 64 x.tag.toNat)).bump (DMA_CNT_DESC d.val k) 1
  let s := if x.intFull then s.chanInterrupt d.val k 28 else s
  if x.chains then
    let (s, code) := s.startDesc d.val k x.next.toNat ((s.chan d.val k).chain + 1)
    if code = 0 then s
    else
      let s := s.chanError d k code
      (s.setChan d.val k { s.chan d.val k with failed := true }).endChain d k
  else s.endChain d k

/-! ### Release of bursts (R266) -/

/-- Bursts of the active descriptor not yet released. -/
def Channel.held (c : Channel) (x : Desc) : Nat := x.bursts - (c.flight.length + c.acked.length + c.released)

/-- What one event releases. -/
def Channel.release (c : Channel) (x : Desc) : Channel :=
  { c with released := c.released + (if x.pace = 0 then c.held x else Nat.min x.pace (c.held x)) }

/-- An event of the descriptor's trigger (R266). -/
def State.trigger (s : State) (d k : Nat) : State :=
  let c := s.chan d k
  match c.desc with
  | none => s
  | some x =>
    if x.trigKind = 0 then s
    else if c.released = 0 then s.setChan d k (c.release x)
    else if c.pending < 255 then
      (s.setChan d k { c with pending := c.pending + 1 }).setFld (DMA_STAT d k) 20 13 (c.pending + 1)
    else (s.setFlag (DMA_STAT d k) 25 true).bump (DMA_CNT_OVERRUN d k) 1

/-- An accumulated event takes effect once every released burst has issued. -/
def State.spendPending (s : State) (d k : Nat) (x : Desc) : State :=
  let c := s.chan d k
  if c.released = 0 ∧ 0 < c.pending then
    (s.setChan d k ({ c with pending := c.pending - 1 }.release x)).setFld (DMA_STAT d k) 20 13 (c.pending - 1)
  else s

/-! ### Grants (R263, R264) -/

/-- Is the channel ready for a grant? -/
def Channel.wants (c : Channel) : Bool :=
  match c.desc with
  | none => false
  | some x => decide (0 < c.released) && decide (c.flight.length < 64) && decide (c.cut < x.len) && !c.stopping

/-- The ready channels of a die, with their priorities. -/
def State.wanting (s : State) (d : Nat) : List (Nat × Nat) :=
  (List.range 64).filterMap (fun k =>
    let c := s.chan d k
    match c.desc with
    | some x => if c.wants then some (k, x.prio) else none
    | none => none)

def DmaArb.credit (a : DmaArb) (p : Nat) : Nat := match p with | 3 => a.c3 | 2 => a.c2 | 1 => a.c1 | _ => a.c0
def DmaArb.spend (a : DmaArb) (p k : Nat) : DmaArb :=
  let a := { a with last := put 0 a.last p (k + 1) }
  match p with
  | 3 => { a with c3 := a.c3 - 1 }
  | 2 => { a with c2 := a.c2 - 1 }
  | 1 => { a with c1 := a.c1 - 1 }
  | _ => { a with c0 := a.c0 - 1 }

/-- The channel that a grant slot goes to, and the arbiter after it (R264). -/
def arbitrateDma (a : DmaArb) (rs : List (Nat × Nat)) : Option (Nat × DmaArb) :=
  let can (a : DmaArb) (p : Nat) : Bool := rs.any (fun e => e.2 == p) && decide (0 < a.credit p)
  let a := if [3, 2, 1, 0].any (can a) then a else { DmaArb.fresh with last := a.last }
  match [3, 2, 1, 0].find? (can a) with
  | none => none
  | some p =>
    let ks := (rs.filter (fun e => e.2 == p)).map Prod.fst
    let last := look 0 a.last p
    match ks.find? (fun k => decide (last ≤ k)) with
    | some k => some (k, a.spend p k)
    | none => ks.head?.map (fun k => (k, a.spend p k))

/-- Cut a range at the 16 granules a read request can name. -/
def readParts (a : Word64) (lo n : Nat) : List (Nat × Nat) :=
  let first := 512 - (adOff a + lo) % 32
  if n ≤ first then [(lo, n)] else [(lo, first), (lo + first, n - first)]

/-- Send a read request to another node for part of a burst (R385, R397). -/
def State.askNode (s : State) (d k : Nat) (a : Word64) (part : Nat × Nat) : Option State :=
  let at_ := adOff a + part.1
  let c := s.newCmd 2 0 d (ledger (adNode a) (adSpace a) at_)
  let tag := s.clr.nextTag
  let c := { c with gran := BitVec.ofNat 8 (ceilDiv (at_ % 32 + part.2) 32), lead := BitVec.ofNat 8 (at_ % 32),
                    tail := BitVec.ofNat 8 ((if at_ % 32 + part.2 ≤ 32 then part.2 else at_ % 32 + part.2) % 32),
                    tag := tag }
  let s := { s with clr := { s.clr with reads := put (64, 64, 0) s.clr.reads tag.toNat (d, k, part.1),
                                        nextTag := tag + 1 } }
  s.sendTo (adNode a) c []

/-- The bytes of the source that a burst needs: whole swap units. -/
def burstSpan (x : Desc) (b : Burst) : Nat × Nat :=
  let u := swapUnit x.swap
  (b.off / u * u, Nat.min x.len (ceilDiv (b.off + b.len) u * u))

/-- Ask for the source data of a burst, where it is not in this device's memory. -/
def State.askSource (s : State) (d : Die) (k : Nat) (x : Desc) (b : Burst) : State :=
  let (lo, hi) := burstSpan x b
  match (s.chan d.val k).srcWin with
  | some (p, fn, h) =>
    if s.portUp p then s.send (.hostRead p fn (h + BitVec.ofNat 64 lo) (hi - lo)) else s.transferError d k
  | none =>
    if s.ownNode x.src then s
    else match (readParts x.src lo (hi - lo)).foldl (fun o part => o.bind (fun s => s.askNode d.val k x.src part)) (some s) with
      | some s => s
      | none => s.transferError d k

/-- A channel issues its next burst (R263). -/
def State.issueBurst (s : State) (d : Die) (k : Nat) : State :=
  let c := s.chan d.val k
  match c.desc with
  | none => s
  | some x =>
    let n := Nat.min (x.len - c.cut) (512 - (adOff x.dst + c.cut) % 512)
    let b : Burst := ⟨c.cut, n⟩
    let s := s.setChan d.val k { c with cut := c.cut + n, released := c.released - 1, flight := c.flight ++ [b] }
    (s.spendPending d.val k x).askSource d k x b

/-- One grant slot of a die's arbiter (R264). -/
def State.grant (s : State) (d : Die) : State :=
  if !s.coreRuns (d.val / 2) then s
  else
    let rs := s.wanting d.val
    match arbitrateDma (look DmaArb.fresh s.dmaArb d.val) rs with
    | none => s
    | some (k, a) =>
      let s := { s with dmaArb := put DmaArb.fresh s.dmaArb d.val a }
      let s := rs.foldl (fun s e => if e.1 = k then s else s.bump (DMA_CNT_ARBWAIT d.val e.1) 1) s
      s.issueBurst d k

/-! ### Data and acknowledgement (R263, R265) -/

/-- A source byte that has arrived from a host or a node. -/
def Channel.arrivedAt (c : Channel) (i : Nat) : Option (Byte × Bool) :=
  c.arrived.findSome? (fun e => if e.1 ≤ i then e.2[i - e.1]? else none)

/-- The source bytes `[lo, hi)` of the transfer, once they are there. -/
def State.sourceSpan (s : State) (c : Channel) (x : Desc) (lo hi : Nat) : Option (List (Byte × Bool)) :=
  if s.ownNode x.src && c.srcWin.isNone then some (s.spaceRead (adSpace x.src) (adOff x.src + lo) (hi - lo))
  else (range lo hi).mapM c.arrivedAt

/-- The bytes a burst writes, each with its source byte's number: swapped, except that a poison granule passes as it is
(R265). -/
def burstBytes (x : Desc) (b : Burst) (lo : Nat) (span : List (Byte × Bool)) : List (Nat × Byte × Bool) :=
  (List.range b.len).map (fun i =>
    let j := swapIndex x.swap (b.off + i)
    let v := span.getD (j - lo) (0, false)
    if v.2 then (j, ((span.getD (b.off + i - lo) v).1, true)) else (j, v))

/-- Poison granules bound for a host window (R265). -/
def State.hostPoison (s : State) (d : Die) (k n : Nat) : State :=
  if n = 0 then s
  else ((s.setFlag (DMA_STAT d.val k) 26 true).bump (DMA_CNT_POISON d.val k) n).chanRecord d k 0

/-- Cut a burst's bytes into granules of the destination, each whole (bytes that the burst lacks are 0). -/
def granulesOf (at_ : Nat) (bs : List (Byte × Bool)) : List Codeword :=
  let pad := List.replicate (at_ % 32) ((0 : Byte), false) ++ bs
  let full := pad ++ List.replicate (ceilDiv pad.length 32 * 32 - pad.length) (0, false)
  (piecesOf 32 (ceilDiv pad.length 32) full).map (fun g => codewordOf (g.map Prod.fst) (g.any Prod.snd))

/-- Write a burst to another node (R385); none where it is unreachable. -/
def State.writeNode (s : State) (d : Nat) (dst : Word64) (off : Nat) (bs : List (Byte × Bool)) : Option State :=
  let at_ := adOff dst + off
  let gs := granulesOf at_ bs
  let c := s.newCmd 1 0 d (ledger (adNode dst) (adSpace dst) at_)
  s.sendWrite d (adNode dst) { c with
    gran := BitVec.ofNat 8 gs.length, lead := BitVec.ofNat 8 (at_ % 32),
    tail := BitVec.ofNat 8 ((if at_ % 32 + bs.length ≤ 32 then bs.length else at_ % 32 + bs.length) % 32) } gs

/-- Write a burst to its destination; none where a link or a host fails it. -/
def State.putBurst (s : State) (d : Die) (k : Nat) (c : Channel) (x : Desc) (b : Burst) (bs : List (Nat × Byte × Bool)) :
    Option State :=
  match c.dstWin with
  | some (p, fn, h) =>
    if s.portUp p then
      let bad := ((bs.filter (fun e => e.2.2)).map (fun e => (adOff x.src + e.1) / 32)).eraseDups
      let s := s.send (.hostWrite p fn (h + BitVec.ofNat 64 b.off) (bs.map (fun e => if e.2.2 then 0 else e.2.1)))
      some (s.hostPoison d k bad.length)
    else none
  | none =>
    if s.ownNode x.dst then some (s.spaceWrite (adSpace x.dst) (adOff x.dst + b.off) (bs.map Prod.snd))
    else s.writeNode d.val x.dst b.off (bs.map Prod.snd)

/-- Bytes of `[0, n)` that the bursts of a list cover. -/
def coveredBelow (n : Nat) (l : List Burst) : Nat := l.foldl (fun a b => a + (Nat.min n (b.off + b.len) - b.off)) 0

/-- A burst is acknowledged: the counts, the half interrupt, and completion (R263, R267). -/
def State.acked (s : State) (d : Die) (k : Nat) (x : Desc) (b : Burst) : State :=
  let c := s.chan d.val k
  let c := { c with flight := c.flight.erase b, acked := c.acked ++ [b] }
  let half := !c.halfDone && coveredBelow (x.len / 2) c.acked == x.len / 2
  let s := s.setChan d.val k { c with halfDone := c.halfDone || half }
  let total := c.acked.foldl (fun a b => a + b.len) 0
  let s := (s.setReg (DMA_DONE d.val k) (BitVec.ofNat 64 total)).bump (DMA_CNT_BYTES d.val k) b.len
  let s := if half && x.intHalf then s.chanInterrupt d.val k 29 else s
  if c.stopping then (if c.flight.isEmpty then s.endChain d k else s)
  else if total = x.len then s.descDone d k x
  else s

/-- The burst that starts at byte `off` is acknowledged at its destination. -/
def State.burstAck (s : State) (d : Die) (k off : Nat) : State :=
  let c := s.chan d.val k
  match c.desc, c.flight.find? (fun b => b.off == off) with
  | some x, some b =>
    let (lo, hi) := burstSpan x b
    match s.sourceSpan c x lo hi with
    | none => s
    | some span =>
      match s.putBurst d k c x b (burstBytes x b lo span) with
      | some s => s.acked d k x b
      | none => s.transferError d k
  | _, _ => s

/-! ### Starting and stopping (R268, R269, R271) -/

/-- A MOVE starts its channel: reason 8 for a window, overlap or space failure of the first descriptor, reason 1 for any
other (R261). -/
def moveWork (j : Job) (s : State) : Done :=
  let k := j.unit.inst
  let s := s.setChan j.die k { Channel.idle with mover := some j.decode }
  let (s, code) := s.startDesc j.die k (j.body 55 34) 1
  if code = 0 then ⟨s, 0, false⟩
  else
    let s := s.setChan j.die k Channel.idle
    failed s (if code = 2 ∨ code = 4 ∨ code = 5 then reasonWindow else reasonReserved)

/-- A write of 1 to `go` (R271). -/
def State.dmaGo (s : State) (w : Src) (d : Die) (k : Nat) : State :=
  if s.holder w && s.owner d.val k == 2 && (s.chan d.val k).desc.isNone && s.coreRuns (d.val / 2) &&
      !s.rst.blockResets.contains (.unit ⟨d, .dma, k⟩) then
    let (s, code) := s.startDesc d.val k (s.fld (DMA_DESC d.val k) 21 0) 1
    if code = 0 then s else s.chanError d k code
  else s

/-- A write of 1 to `stop`: no further burst, code 10, and the end once the bursts in flight are acknowledged (R269). -/
def State.dmaStop (s : State) (w : Src) (d : Die) (k : Nat) : State :=
  let c := s.chan d.val k
  if s.holder w && s.owner d.val k == 2 && c.desc.isSome && !c.stopping then
    let s := (s.setChan d.val k { c with stopping := true }).chanError d k 10
    if c.flight.isEmpty then s.endChain d k else s.setFlag (DMA_CTRL d.val k) 2 true
  else s

/-! ### Timers (R270) -/

/-- A running timer reaches its period. -/
def State.timerEvent (s : State) (d k : Nat) : State :=
  if s.flag (TMR_CTRL d k) 0 then
    let s := s.bump (TMR_EVENTS d k) 1
    if s.flag (TMR_CTRL d k) 1 then s.setFld (TMR_COUNT d k) 31 0 (s.fld (TMR_PERIOD d k) 31 0)
    else (s.setFlag (TMR_CTRL d k) 0 false).setFld (TMR_COUNT d k) 31 0 0
  else s

/-- A write to TMR_CTRL: `run` rising starts a period. -/
def State.timerCtrl (s : State) (w : Src) (d k v : Nat) : State :=
  if s.holder w then
    let rises := !s.flag (TMR_CTRL d k) 0 && nbit v 0
    let s := s.setReg (TMR_CTRL d k) (BitVec.ofNat 64 (v % 4))
    if rises then s.setFld (TMR_COUNT d k) 31 0 (s.fld (TMR_PERIOD d k) 31 0) else s
  else s

/-- A write to TMR_PERIOD: 0 is discarded. -/
def State.timerPeriod (s : State) (w : Src) (d k v : Nat) : State :=
  if s.holder w && decide (0 < v) then s.setReg (TMR_PERIOD d k) (BitVec.ofNat 64 v) else s

/-! ### Quiesce and block resets (R443) -/

/-- The control register of a block, and the bit of its status register that shows a refusal. -/
def blockCtrl : Block → Nat
  | .group d u => MGC_CTRL d.val u.val
  | .unit e => unitReg e 0
def blockStat : Block → Nat × Nat
  | .group d u => (MGC_STAT d.val u.val, 29)
  | .unit e => (unitReg e 4, 30)

/-- Does the block exist? -/
def blockOk : Block → Bool
  | .group _ _ => true
  | .unit e => EngUnit.ok e

/-- A write of `quiesce`: from the Warrant holder's port (MGC_CTRL, ASY_CTRL, ATN_CTRL). A DMA channel has none. -/
def State.quiesceWrite (s : State) (w : Src) (b : Block) (v : Bool) : State :=
  let has := match b with | .unit ⟨_, .dma, _⟩ => false | _ => true
  if s.holder w && has && blockOk b then s.setFlag (blockCtrl b) 1 v else s

/-- The tiles of a Mint group. -/
def groupTiles (d u : Nat) : List Nat := (List.range 16).map (tileAt d u)

/-- Is the tile in a strike (`MGC_STAT.striking`)? -/
def Tile.striking (t : Tile) : Bool := match t.slice with | some x => x.running.isSome | none => false

/-- Is a unit busy: an order of it is in progress (`busy`)? -/
def State.unitBusy (s : State) (e : EngUnit) : Bool :=
  match e.kind with
  | .dma => (s.chan e.die.val e.inst).desc.isSome
  | _ => !(s.eng e).flying.isEmpty

/-- Are both queues of a unit empty? -/
def State.queuesEmpty (s : State) (e : EngUnit) : Bool := (s.eng e).pre.entries.isEmpty && (s.eng e).dec.entries.isEmpty

/-- Is the block idle as R443 asks? -/
def State.blockIdle (s : State) (b : Block) : Bool :=
  match b with
  | .group d u => s.flag (blockCtrl b) 1 && (groupTiles d.val u.val).all (fun t => !(s.tile t).striking) &&
      (s.groupOf d.val u.val).queue.isEmpty
  | .unit e => (match e.kind with | .dma => true | _ => s.flag (blockCtrl b) 1) && !s.unitBusy e && s.queuesEmpty e

/-- A write of 1 to `reset`. -/
def State.blockReset (s : State) (w : Src) (b : Block) : State :=
  if !(s.holder w && blockOk b) || s.rst.blockResets.contains b then s
  else if s.blockIdle b then { s with rst := { s.rst with blockResets := s.rst.blockResets ++ [b] } }
  else s.setFlag (blockStat b).1 (blockStat b).2 true

/-- The keys of an attention engine's value lanes: 2^20 for each engine. -/
def laneKey (d k i : Nat) : Nat := (d * 64 + k) * 2 ^ 20 + i

/-- What a block reset clears; never counters or configuration (R443). -/
def State.blockClear (s : State) (b : Block) : State :=
  match b with
  | .group d u =>
    let s := (groupTiles d.val u.val).foldl (fun s t => s.setTile t { s.tile t with slice := none }) s
    s.setGroup d.val u.val Group.idle
  | .unit e =>
    match e.kind with
    | .assay =>
      let s := (s.setResultSet e 0 ResultSet.free).setResultSet e 1 ResultSet.free
      let s := (groupTiles e.die.val e.inst).foldl (fun s t => s.setTile t { s.tile t with count := 0, burst := 0 }) s
      s.setEng e EngState.idle
    | .attn =>
      ({ s with lanes := keepKeys s.lanes (fun k => k / 2 ^ 20 != e.die.val * 64 + e.inst) } : State).setEng e EngState.idle
    | .vec => s.setEng e EngState.idle
    | .dma => (s.setChan e.die.val e.inst Channel.idle).setFld (DMA_STAT e.die.val e.inst) 20 13 0

/-- A block reset ends. -/
def State.blockDone (s : State) (b : Block) : State :=
  if s.rst.blockResets.contains b then
    ({ s with rst := { s.rst with blockResets := s.rst.blockResets.erase b } } : State).blockClear b
  else s

/-! ### Meanings -/

/-- MOVE (R228, R268). -/
def execMove (u : EngUnit) (decode : Bool) (s : State) : Host.Outcome State Fault Refusal :=
  .next (s.issue u decode 5 0 moveWork)
/-- DMA_GO (R271). -/
def execDmaGo (w : Src) (d : Die) (ch : Fin 64) (s : State) : Host.Outcome State Fault Refusal :=
  .next (s.dmaGo w d ch.val)
/-- DMA_STOP (R269). -/
def execDmaStop (w : Src) (d : Die) (ch : Fin 64) (s : State) : Host.Outcome State Fault Refusal :=
  .next (s.dmaStop w d ch.val)
/-- DMA_GRANT (R264). -/
def execDmaGrant (d : Die) (s : State) : Host.Outcome State Fault Refusal := .next (s.grant d)
/-- DMA_BURST_ACK (R263). -/
def execDmaBurstAck (d : Die) (ch : Fin 64) (burst : Nat) (s : State) : Host.Outcome State Fault Refusal :=
  .next (s.burstAck d ch.val burst)
/-- DMA_TRIGGER_EVENT (R266). -/
def execDmaTriggerEvent (d : Die) (ch : Fin 64) (s : State) : Host.Outcome State Fault Refusal :=
  .next (s.trigger d.val ch.val)
/-- DMA_TRANSFER_ERROR (R269). -/
def execDmaTransferError (d : Die) (ch : Fin 64) (s : State) : Host.Outcome State Fault Refusal :=
  .next (s.transferError d ch.val)
/-- TIMER_EVENT (R270). -/
def execTimerEvent (d : Die) (k : Fin 16) (s : State) : Host.Outcome State Fault Refusal :=
  .next (s.timerEvent d.val k.val)
/-- TIMER_CTRL_WRITE (R270). -/
def execTimerCtrlWrite (w : Src) (d : Die) (k : Fin 16) (value : Word32) (s : State) :
    Host.Outcome State Fault Refusal :=
  .next (s.timerCtrl w d.val k.val value.toNat)
/-- TIMER_PERIOD_WRITE (R270). -/
def execTimerPeriodWrite (w : Src) (d : Die) (k : Fin 16) (value : Word32) (s : State) :
    Host.Outcome State Fault Refusal :=
  .next (s.timerPeriod w d.val k.val value.toNat)
/-- QUIESCE_WRITE (R443). -/
def execQuiesceWrite (w : Src) (b : Block) (value : Bool) (s : State) : Host.Outcome State Fault Refusal :=
  .next (s.quiesceWrite w b value)
/-- BLOCK_RESET_REQUEST (R443). -/
def execBlockResetRequest (w : Src) (b : Block) (s : State) : Host.Outcome State Fault Refusal :=
  .next (s.blockReset w b)
/-- BLOCK_RESET_COMPLETE (R443). -/
def execBlockResetComplete (b : Block) (s : State) : Host.Outcome State Fault Refusal := .next (s.blockDone b)

end Sys2Proof.Machine
end

