-- ==== Sys2Proof/Machine/PortLinks.lean ====
section
/-! DEFINITION. PERST#, the PCIe links, and completions to the device's reads (14_host_ports_and_teller.md R410, R426),
and a PLL that loses lock (02 R33). -/

namespace Sys2Proof.Machine

/-! ### Links going down and coming up (R426) -/

/-- The channels that move data from or to a port's host. -/
def State.portChannels (s : State) (p : Nat) : List (Die × Nat) :=
  (s.dma.filter (fun e =>
    (match e.2.srcWin with | some (q, _, _) => q == p | none => false) ||
    (match e.2.dstWin with | some (q, _, _) => q == p | none => false))).map
    (fun e => (⟨e.1 / 64 % 4, Nat.mod_lt _ (by decide)⟩, e.1 % 64))

/-- A transfer error of every channel that works with a port's host. -/
def State.failPort (s : State) (p : Nat) : State :=
  (s.portChannels p).foldl (fun s e => s.transferError e.1 e.2) s

/-- The link stops: `up`, `width` and `gen` read 0, and the time counts from here (R438). -/
def State.linkOff (s : State) (p : Nat) : State :=
  let s := (s.setFlag (HPT_LINK p) 31 false).setFld (HPT_LINK p) 7 0 0
  let q := s.port p
  s.setPort p { q with downAt := some (q.downAt.getD s.now) }

/-- The link goes down without PERST#: everything of the port is kept (R426). -/
def State.pcieDown (s : State) (p : Nat) : State := (s.linkOff p).failPort p

/-- Is a register one of a lane of port `p`? -/
def ofLanes (p a : Nat) : Bool := match siteOf a with | (.tlr q _, _) => q == p | _ => false

/-- PERST# is asserted (R426): lanes, rings, host windows, the MSI-X table and the VF enable are reset; what waited for
the rings is lost; the intake and the stream keys stay (R467). -/
def State.perstOn (s : State) (p : Nat) : State :=
  let s := (s.linkOff p).failPort p
  let s := (s.port p).lanes.foldl (fun s e => s.dropBacklog p e.1) s
  let s := (s.clearRegs (ofLanes p)).setFld (HPT_LINK p) 13 8 0
  s.setPort p { s.port p with perst := true, windows := [], lanes := [], masked := [], msiPend := [], vectors := [] }

/-- PERST# is released: the link trains, and PCIE_LINK_UP follows. -/
def State.perstOff (s : State) (p : Nat) : State := s.setPort p { s.port p with perst := false }

/-- The link finishes training: backlogged Statements can flow again (R423, R426). -/
def State.pcieUp (s : State) (p gen width : Nat) : State :=
  if (s.port p).perst || s.flag (HPT_LINK p) 31 || decide (s.rowsOf p < 3) then s
  else
    let s := ((s.setFlag (HPT_LINK p) 31 true).setFld (HPT_LINK p) 7 4 width).setFld (HPT_LINK p) 3 0 gen
    let s := s.setPort p { s.port p with downAt := none }
    (s.port p).lanes.foldl (fun s e => s.drain p e.1) s

/-! ### Completions (R410) -/

/-- Data of a host read that has not arrived yet: the first byte a burst in flight lacks, and the burst's end. -/
def Channel.lacks (c : Channel) (x : Desc) : Option (Nat × Nat) :=
  c.flight.findSome? (fun b =>
    let (lo, hi) := burstSpan x b
    ((range lo hi).find? (fun i => (c.arrivedAt i).isNone)).map (fun i => (i, hi)))

/-- A completion arrives: data that passes the checks of R410 fills what the oldest burst lacks, anything else is a
transfer error. -/
def State.completion (s : State) (d : Die) (k : Nat) (bs : List Byte) (intact : Bool) : State :=
  let c := s.chan d.val k
  match c.desc, c.srcWin with
  | some x, some _ =>
    if !intact then s.transferError d k
    else match c.lacks x with
      | some (i, hi) => s.setChan d.val k { c with arrived := c.arrived ++ [(i, (bs.take (hi - i)).map (fun b => (b, false)))] }
      | none => s
  | _, _ => s

/-- No completion within 50 ms. -/
def State.completionLate (s : State) (d : Die) (k : Nat) : State :=
  let c := s.chan d.val k
  match c.desc, c.srcWin with
  | some x, some _ => if (c.lacks x).isSome then s.transferError d k else s
  | _, _ => s

/-! ### Clocks (R33) -/

/-- The die whose clock a bit of a half's lock field tells of (R46). -/
def pllDie (h k : Nat) : Nat :=
  if k ≤ 1 then 2 * h else if k = 2 then 2 * h + 1 else if k ≤ 4 then 0x40 + h else if k = 5 then 0x20 + 2 * h
  else if k = 6 then 0x20 + 2 * h + 1 else 0x30 + h

/-- A PLL loses lock: its domain's clock is gated until the next core reset, a record is written, and the clock-glitch
source fires (R33, R469). -/
def State.pllLost (s : State) (h k : Nat) : State :=
  let bit := 8 * h + k
  if !s.flag GLB_CLKSTAT bit then s
  else
    let s := s.setFlag GLB_CLKSTAT bit false
    let s := s.fault (faultOf clsClock (pllDie h k) blkPll bit bit 0)
    let s := if k = 7 then s.pcieDown h else s
    s.alarmFire 1

/-! ### Meanings -/

/-- PERST_ASSERT (R426). -/
def execPerstAssert (p : Port) (s : State) : Host.Outcome State Fault Refusal := .next (s.perstOn p.val)
/-- PERST_RELEASE (R426). -/
def execPerstRelease (p : Port) (s : State) : Host.Outcome State Fault Refusal := .next (s.perstOff p.val)
/-- PCIE_LINK_DOWN (R426). -/
def execPcieLinkDown (p : Port) (s : State) : Host.Outcome State Fault Refusal := .next (s.pcieDown p.val)
/-- PCIE_LINK_UP (R426). -/
def execPcieLinkUp (p : Port) (gen : Fin 6) (width : Fin 6) (s : State) : Host.Outcome State Fault Refusal :=
  .next (s.pcieUp p.val gen.val width.val)
/-- HOST_COMPLETION (R410). -/
def execHostCompletion (d : Die) (ch : Fin 64) (bytes : List Byte) (intact : Bool) (s : State) :
    Host.Outcome State Fault Refusal :=
  .next (s.completion d ch.val bytes intact)
/-- COMPLETION_TIMEOUT (R410). -/
def execCompletionTimeout (d : Die) (ch : Fin 64) (s : State) : Host.Outcome State Fault Refusal :=
  .next (s.completionLate d ch.val)
/-- PLL_LOCK_LOST (R33). -/
def execPllLockLost (h : Half) (pll : Fin 8) (s : State) : Host.Outcome State Fault Refusal :=
  .next (s.pllLost h.val pll.val)

end Sys2Proof.Machine
end

