-- ==== Sys2Proof/Machine/Tiles.lean ====
section
/-! DEFINITION. What a tile holds: its geometry, its layer, the levels of its banks, its master plane and its auxiliary
area (04_mint_tiles.md R94 to R105, R130, R133; 05_assay_path.md R136 to R152, R169, R170; 10 R320, R330, R331). -/

namespace Sys2Proof.Machine

/-! ### The layer map (R329 to R331) -/

/-- Bytes [hi:lo] of a layer's entry of the layer map. -/
def State.layEnt (s : State) (l hi lo : Nat) : Nat :=
  let o := s.chr secLayers 47 44 + 64 * l
  s.chr secLayers (o + hi) (o + lo)

/-- The kind of input that a matrix takes (R330). -/
def inputKind (m : Nat) : Nat := if m = 3 then 1 else if m = 4 ∨ m = 5 then 2 else if m = 6 then 3 else 0

/-- The withheld channels of a layer's input of a kind, in list order (R331). -/
def State.withheldList (s : State) (l kind : Nat) : List Nat :=
  let o := s.layEnt l (15 + 4 * kind) (12 + 4 * kind)
  if o = 0 then [] else (List.range (s.chr secLayers (o + 1) o)).map (fun i => s.chr secLayers (o + 3 + 2 * i) (o + 2 + 2 * i))

/-! ### Geometry (R97, R103, R130) -/

def DirEntry.fmt (d : DirEntry) : Nat := nbits d.geom.toNat 2 0
def DirEntry.budget (d : DirEntry) : Nat := 64 * 2 ^ nbits d.geom.toNat 5 3
def DirEntry.head (d : DirEntry) : Nat := nbits d.geom.toNat 7 6
def DirEntry.lay (d : DirEntry) : Nat := nbits d.layer.toNat 11 0
def DirEntry.matrix (d : DirEntry) : Nat := nbits d.layer.toNat 15 12
def DirEntry.w8 (d : DirEntry) : Bool := d.fmt == 3
/-- Rows that can be driven. -/
def DirEntry.rows (d : DirEntry) : Nat := Nat.min (64 * d.segs.toNat) 1024
/-- Cell columns in use. -/
def DirEntry.colsUsed (d : DirEntry) : Nat := Nat.min d.cols.toNat 1024
/-- Outputs: weights of a row. -/
def DirEntry.outputs (d : DirEntry) : Nat := if d.w8 then d.colsUsed / 2 else d.colsUsed
/-- Is the tile a weight or a mirror tile? -/
def DirEntry.holds (d : DirEntry) : Bool := d.role == 1 || d.role == 3
/-- The mirror partner, where one is named. -/
def DirEntry.mate (d : DirEntry) : Option Nat := if nbit d.partner.toNat 15 then some (nbits d.partner.toNat 14 0) else none

/-- The LSB as a quotient: 7 × b over 255 × 2^headroom (R103). -/
def DirEntry.lsbNum (d : DirEntry) : Nat := 7 * d.budget
/-- See `lsbNum`. -/
def DirEntry.lsbDen (d : DirEntry) : Nat := 255 * 2 ^ d.head
/-- The LSB rounded once to FP32 (R140). -/
def DirEntry.lsb (d : DirEntry) : Num := fp32.decode (fp32.roundPos d.lsbNum d.lsbDen).1

/-- The clip threshold in force at a width: none where nothing clips (R148, R330). -/
def State.clipAt (s : State) (l width : Nat) : Option Nat :=
  let t := s.layEnt l 1 1
  if t = 0 ∨ dbMax width ≤ t then none else some t

/-! ### Levels (R94, R133) -/

/-- A level of a plane at key `base`. -/
def State.levelAt (s : State) (base r c : Nat) : Int :=
  let b := (s.byte (base + 512 * r + c / 2)).toNat
  signed 4 (if c % 2 = 0 then b % 16 else b / 16)

/-- The level a cell holds. -/
def State.level (s : State) (t : Nat) (k : Bank) (r c : Nat) : Int := s.levelAt (planeBase t k) r c

/-- Write the level of a cell. -/
def State.setLevel (s : State) (t : Nat) (k : Bank) (r c : Nat) (v : Int) : State :=
  let a := planeBase t k + 512 * r + c / 2
  let b := (s.byte a).toNat
  let n := toTwos 4 v
  s.write a [BitVec.ofNat 8 (if c % 2 = 0 then b / 16 * 16 + n else n * 16 + b % 16)]

/-! ### The auxiliary area (R169, R170) -/

/-- The key of byte `o` of a tile's auxiliary area. -/
def State.auxAt (s : State) (t o : Nat) : Nat := till (tileDie t) ((s.dirOf t).aux.toNat + o)
/-- Bytes [hi:lo] of the auxiliary area. -/
def State.auxFld (s : State) (t hi lo : Nat) : Nat := s.readNat (s.auxAt t lo) (hi + 1 - lo)

/-- The key of byte `o` of a tile's slot of the shadow area (R367). -/
def State.shadowAt (s : State) (t o : Nat) : Nat :=
  keyOf 0 (vaultBase (tileDie t) + s.chr secMirror 7 4 * 4096 + sliceIndex t * 36864 + o)

/-- Write the auxiliary area, and its shadow copy where one has a place (R367). The assay set has none. -/
def State.auxWrite (s : State) (t o : Nat) (bs : List Byte) : State :=
  let s := s.write (s.auxAt t o) bs
  if s.serve.posted && !(decide (0x1400 ≤ o) && decide (o < 0x2400)) then s.write (s.shadowAt t o) bs else s

def State.withheldCount (s : State) (t : Nat) : Nat := Nat.min (s.auxFld t 1 0) 8
def State.surplusCount (s : State) (t : Nat) : Nat := Nat.min (s.auxFld t 3 2) 4096
def State.surplusCap (s : State) (t : Nat) : Nat := s.auxFld t 5 4
/-- Offset of the surplus list. -/
def State.surplusOff (s : State) (t : Nat) : Nat := 0x2800 + 1056 * s.withheldCount t
/-- The assay-set phase the header holds, and its state: 0 valid, 1 loading, 2 loaded from master. -/
def State.setPhase (s : State) (t : Nat) : Nat := s.auxFld t 10 10
/-- See `setPhase`. -/
def State.setState (s : State) (t : Nat) : Nat := s.auxFld t 11 11

/-! ### Surplus (R151, R152) -/

/-- A surplus entry. -/
structure Surplus where
  stuck : Bool
  bank  : Bank
  value : Int
  col   : Nat
  row   : Nat
  deriving DecidableEq, Repr

/-- An entry from its word; none where the word is one that faults (R151). -/
def Surplus.ofWord (w : Nat) : Option Surplus :=
  if nbit w 31 ∨ nbits w 28 20 = 0x100 then none
  else some ⟨nbit w 30, nbit w 29, signed 9 (nbits w 28 20), nbits w 19 10, nbits w 9 0⟩

/-- The word of an entry. -/
def Surplus.word (x : Surplus) : Nat :=
  x.stuck.toNat * 2 ^ 30 + x.bank.toNat * 2 ^ 29 + toTwos 9 x.value * 2 ^ 20 + x.col % 1024 * 2 ^ 10 + x.row % 1024

/-- The words of a tile's surplus list. -/
def State.surplusWords (s : State) (t : Nat) : List Nat :=
  let a := s.auxAt t (s.surplusOff t)
  (List.range (s.surplusCount t)).map (fun i => s.readNat (a + 4 * i) 4)

/-- The entries of a bank; a word that faults is not among them. -/
def State.surplusOf (s : State) (t : Nat) (k : Bank) : List Surplus :=
  ((s.surplusWords t).filterMap Surplus.ofWord).filter (fun x => x.bank == k)

/-- Does the list hold a word that faults? -/
def State.surplusBad (s : State) (t : Nat) : Bool := (s.surplusWords t).any (fun w => (Surplus.ofWord w).isNone)

/-- The weight that an entry corrects, and its value there: on a W8 tile a stuck cell's value is multiplied by 15 in a
high nibble (R152). -/
def Surplus.target (x : Surplus) (w8 : Bool) : Nat × Int :=
  if w8 && x.stuck then (x.col / 2, if x.col % 2 = 0 then 15 * x.value else x.value) else (x.col, x.value)

/-! ### Master weights (R144, R320) -/

/-- The key of a tile's master plane. -/
def State.masterAt (s : State) (t : Nat) : Nat :=
  keyOf 0 (vaultBase (tileDie t) + (s.dirOf t).master.toNat * 4096)

/-- Is the master plane the plane of this bank: its master epoch equals the bank's (R320)? -/
def State.masterOwn (s : State) (t : Nat) (k : Bank) : Bool := (s.tile t).masterEpoch == some ((s.dirOf t).epoch k)

/-- The key of the plane that gives a bank's master levels: the master plane, or the bank's own cells (R320). -/
def State.weightPlane (s : State) (t : Nat) (k : Bank) : Nat := if s.masterOwn t k then s.masterAt t else planeBase t k

/-- Is a byte of `n` bytes from byte `o` of a master row poison? -/
def State.masterBad (s : State) (t : Nat) (k : Bank) (r o n : Nat) : Bool := s.bad (s.weightPlane t k + 512 * r + o) n

/-- The master weight of row `r` and weight `j` of a bank, its surplus entries being `xs` (R144). -/
def State.masterWeight (s : State) (t : Nat) (k : Bank) (xs : List Surplus) (r j : Nat) : Int :=
  let p := s.weightPlane t k
  let w8 := (s.dirOf t).w8
  let base : Int := if w8 then 15 * s.levelAt p r (2 * j) + s.levelAt p r (2 * j + 1) else s.levelAt p r j
  xs.foldl (fun a x => if x.row = r ∧ (x.target w8).1 = j then a + (x.target w8).2 else a) base

/-! ### Column scales (R140, R141) -/

/-- The format constant κ (R139). -/
def kappa (fmt : Nat) : Num := if fmt ≤ 1 then fp32.decode (fp32.roundPos 1 7).1 else Num.ofInt 1 0

/-- The code of column scale `j`. -/
def State.scaleCode (s : State) (t j : Nat) : Nat := s.readNat (till (tileDie t) (s.auxFld t 9 6 + 4 * j)) 4

/-- A normal value with a magnitude from 2^-40 to 2^40 (R141). -/
def scaleOk (c : Nat) : Bool := decide (0x2B800000 ≤ c % 2 ^ 31) && decide (c % 2 ^ 31 ≤ 0x53800000)

/-- The factor F of output `j`: none where the scale is poison or out of range. -/
def State.factor (s : State) (t j : Nat) : Option Num :=
  let c := s.scaleCode t j
  if s.bad (till (tileDie t) (s.auxFld t 9 6 + 4 * j)) 4 || !scaleOk c then none
  else some ((fp32.decode c).mul (kappa (s.dirOf t).fmt))

/-! ### Withheld records (R147) -/

/-- The key of withheld record `n`. -/
def State.withheldAt (s : State) (t n : Nat) : Nat := s.auxAt t (0x2800 + 1056 * n)
/-- The row of record `n`. -/
def State.withheldRow (s : State) (t n : Nat) : Nat := s.readNat (s.withheldAt t n) 2 % 1024
/-- The int8 weight of record `n` for column `j`. -/
def State.withheldWeight (s : State) (t n j : Nat) : Int := signed 8 (s.byte (s.withheldAt t n + 32 + j)).toNat

/-! ### Trims (R136) -/

/-- Gain and offset of a trim word. -/
def trimGain (w : Nat) : Int := signed 16 (nbits w 31 16)
/-- See `trimGain`. -/
def trimOff (w : Nat) : Int := signed 16 (nbits w 15 0)
/-- A trim word. -/
def trimWord (g o : Int) : Nat := toTwos 16 g * 65536 + toTwos 16 o
/-- A trimmed code, in units of 2^-26 LSB (R136). -/
def trimmed (w : Nat) (c : Int) : Int := (256 * c - trimOff w) * (2 ^ 18 + trimGain w)

/-- Offset of the trim word of a column, or of the row converter of a row. -/
def trimOffset (rowSide : Bool) (line : Nat) : Nat := if rowSide then 0x40 + 4 * (line / 8) else 0x400 + 4 * line
/-- The trim words as they stand: 1,024 column words or 128 row words. -/
def State.trimSet (s : State) (t : Nat) (rowSide : Bool) : List Nat :=
  (List.range (if rowSide then 128 else 1024)).map (fun i =>
    s.readNat (s.auxAt t (trimOffset rowSide (if rowSide then 8 * i else i))) 4)

/-! ### Spot assays (R157, R159) -/

/-- A group's calibrating flag (R137). -/
def State.calibrating (s : State) (t : Nat) : Bool := s.flag (MGC_STAT (tileDie t) (tileUnit t)) 31

/-- The mixing function h of R159. -/
def spotMix (t : Nat) : Nat := nbits (t * 0x9E3779B9 % 2 ^ 32) 25 16

/-- The phase of a tile at a time (R157). -/
def phaseAt (now t : Nat) : Nat := (now / 125000000 + t) % 128

/-- Weight-scope poison: the record names the tile (R365). -/
def State.weightPoison (s : State) (t addr : Nat) : State :=
  s.fault (FaultRecord.weightScope (FaultRecord.at_ (faultTile clsLedger t 0 0) addr))

/-- Start a burst on a tile (R159); `burst` holds one more than the strikes left. -/
def State.startBurst (s : State) (t : Nat) : State :=
  s.setTile t { s.tile t with burst := s.fld (ASY_SPOT (tileDie t) (tileUnit t)) 15 0 + 1 }

/-- Is a tile in digital fall-back (R374): flag bits 1 and 2? -/
def DirEntry.fallback (d : DirEntry) : Bool := d.suspect && d.digital

/-- Is a tile treated as permanent (R374)? -/
def State.permanent (s : State) (t : Nat) : Bool :=
  s.log.fenced.contains (dieMint (tileMint t), blkTile, t) || (s.dirOf t).fallback

/-- The partner that repeats a tile's strikes (R369, R370): redundancy is on and the partner is sound. -/
def State.mateOf (s : State) (t : Nat) : Option Nat :=
  if s.mirrorOn && (s.dirOf t).role == 1 then
    match (s.dirOf t).mate with
    | some m => if s.permanent m then none else some m
    | none => none
  else none

end Sys2Proof.Machine
end

