-- ==== Sys2Proof/Machine/Strikes.lean ====
section
/-! DEFINITION. Strikes (04_mint_tiles.md R99 to R121, R126; 03 R63 to R67; 05 R136 to R150, R159, R164): issuing a slice,
the governor's grants, conversions and re-strikes, and a slice's end. -/

namespace Sys2Proof.Machine

/-! ### Aligning a slice (R64 to R67, R148) -/

/-- The 32 blocks of a slice from block `first` on; a block past the operand's end is a zero block. -/
def State.sliceBlocks (s : State) (d granule : Nat) (o : Operand) (first n : Nat) : List DbBlock :=
  (range first (first + n)).map (fun k =>
    if 32 * k < o.len then s.dbBlock (till d (32 * granule)) (o.fmt + 1) o.len k else ⟨0, List.replicate 32 0, 0⟩)

/-- The strike denomination (R65); 0 where every block is a zero block. -/
def strikeDenom (bs : List DbBlock) : Nat := maxOr 0 (bs.map (fun b => if b.denom = 0xFF then 0 else b.denom))

/-- An element shifted right by magnitude, and the residual (R66). -/
def alignElem (e : Int) (sh : Nat) : Int × Int :=
  let q : Int := (e.natAbs / 2 ^ sh : Nat)
  let v := if e < 0 then -q else q
  (v, e - v * 2 ^ sh)

/-- A slice as aligned: its elements, and the non-zero residuals with their rows and denominations. -/
structure Aligned where
  elems : List Int
  resid : List (Nat × Int × Nat)
  out   : Nat

/-- Align blocks to a denomination; rows of `skip` hold no element (R146). `widths` are the blocks' own widths. -/
def alignBlocks (bs : List DbBlock) (widths : List Nat) (ds : Nat) (skip : List Nat) : Aligned :=
  let cells : List (Nat × Int × Int × Nat) := (bs.zipIdx).flatMap (fun (b, k) =>
    (b.elems.take 32).zipIdx.map (fun (e, i) =>
      let r := 32 * k + i
      let e := if b.denom = 0 ∨ skip.contains r then 0 else e
      let (v, res) := alignElem e (ds - b.denom)
      (r, v, res, b.denom)))
  { elems := cells.map (fun c => c.2.1),
    resid := cells.filterMap (fun c => if c.2.2.1 = 0 then none else some (c.1, c.2.2.1, c.2.2.2)),
    out := ((bs.zip widths).filter (fun (b, w) => b.denom != 0 && b.denom != 0xFF && decide (w ≤ ds - b.denom))).length }

/-- An element clipped (R148). -/
def clipElem (t : Option Nat) (e : Int) : Int :=
  match t with
  | none => e
  | some t => clampInt (-(t : Int)) t e

/-! ### The issue form (R150, R153) -/

/-- Halve a range of segments until each part holds at most `limit`; a single segment that still holds more is digital. -/
def issueForm (limit : Nat) (count : Nat → Nat) : Nat → Nat → Nat → List (Nat × Nat) × List Nat
  | 0, lo, n => ([(lo, n)], [])
  | fuel + 1, lo, n =>
    if (range lo (lo + n)).foldl (fun a k => a + count k) 0 ≤ limit then ([(lo, n)], [])
    else if n ≤ 1 then ([], [lo])
    else
      let a := issueForm limit count fuel lo (n / 2)
      let b := issueForm limit count fuel (lo + n / 2) (n - n / 2)
      (a.1 ++ b.1, a.2 ++ b.2)

/-! ### Planes and splits (R99, R104 to R106, R115) -/

/-- Is bit `k` of an element of width `n` set (R99)? -/
def planeBit (n k : Nat) (e : Int) : Bool := nbit (toTwos n e) k

/-- The weight of plane `k` (R99). -/
def planeWeight (n k : Nat) : Int := if k + 1 = n then -(2 ^ k) else 2 ^ k

/-- Does a part drive columns and convert rows? `nib` is 2 for a forward strike. -/
def Part.back (p : Part) : Bool := p.nib != 2

/-- The strikes of one plane: its active lines cut into runs of the budget (R106). -/
def planeStrikes (b k nib : Nat) (lines : List Nat) : List Part :=
  (piecesOf b (lines.length + 1) lines).map (fun l => ⟨k, 0, l, none, nib⟩)

/-- The lines that the elements of rows `lo` to `hi` drive in plane `k`: rows, or cell columns of a transposed strike. -/
def planeLines (n k lo hi : Nat) (line : Nat → Nat) (struck : List Int) : List Nat :=
  ((struck.zipIdx).filter (fun (e, r) => decide (lo ≤ r) && decide (r < hi) && planeBit n k e)).map (fun e => line e.2)

/-- A slice's strikes, planes skipped and extra strikes of splits (R105, R106, R112). -/
structure Plan where
  strikes : List Part
  skipped : Nat
  extra   : Nat

/-- Add the strikes of one set of lines to a plan. -/
def Plan.add (p : Plan) (b k nib : Nat) (lines : List Nat) : Plan :=
  let ps := planeStrikes b k nib lines
  ⟨p.strikes ++ ps, p.skipped, p.extra + (ps.length - 1)⟩

/-- The plan of one part of a forward slice: segments `seg` (first, count). -/
def planForward (b n rows : Nat) (struck : List Int) (seg : Nat × Nat) (p : Plan) : Plan :=
  (List.range n).foldl (fun p k =>
    match planeLines n k (64 * seg.1) (Nat.min (64 * (seg.1 + seg.2)) rows) id struck with
    | [] => { p with skipped := p.skipped + 1 }
    | l => p.add b k 2 l) p

/-- The plan of a transposed slice (R114, R115): on a W8 tile, each plane drives the high columns and then the low. -/
def planBackward (b n outputs : Nat) (w8 : Bool) (struck : List Int) : Plan :=
  (List.range n).foldl (fun p k =>
    match planeLines n k 0 outputs id struck with
    | [] => { p with skipped := p.skipped + 1 }
    | l =>
      if w8 then (p.add b k 0 (l.map (fun j => 2 * j))).add b k 1 (l.map (fun j => 2 * j + 1))
      else p.add b k 3 l) ⟨[], 0, 0⟩

/-! ### Issue (R121, R223) -/

/-- May a strike name the bank (R120, R223)? -/
def bankStrikes (verify : Bool) (st : Nat) : Bool :=
  if verify then st == bankProgrammed || st == bankVerified else st == bankLive || st == bankDraining

/-- The width at which a block position is quantised on the rung in force (R63, R68). -/
def State.posWidth (s : State) (d l k : Nat) : Nat := rungWidth (s.blockWidth d l k) (s.recFld l 0 0)

/-- The width of a layer input of a kind, in channels (R331). -/
def State.inputLen (s : State) (kind : Nat) : Nat := if kind = 3 then s.chr secLayers 43 42 else s.chr secLayers 39 38

/-- The narrowest width of a layer's input (R68): `base_width`, or the smallest entry of the width map over the input's
blocks. -/
def State.narrowest (s : State) (d l len : Nat) : Nat :=
  (List.range (ceilDiv len 32)).foldl (fun m k => Nat.min m (s.blockWidth d l k)) 8

/-- The BF16 side values of a tile's withheld rows (R147): each record's row with the value of its channel's place in the
layer's list. -/
def State.sideValues (s : State) (t key : Nat) : List (Nat × BitVec 16) × Bool :=
  let d := s.dirOf t
  match look 0 s.sides key with
  | 0 => ([], false)
  | k + 1 =>
    let list := s.withheldList d.lay (inputKind d.matrix)
    let vs := (List.range (s.withheldCount t)).filterMap (fun n =>
      let r := s.withheldRow t n
      let p := list.idxOf (d.rowBlk.toNat * 1024 + r)
      if p < list.length then some (r, BitVec.ofNat 16 (s.readNat (k + 2 * p) 2), s.bad (k + 2 * p) 2) else none)
    (vs.map (fun v => (v.1, v.2.1)), vs.any (fun v => v.2.2))

/-- A new slice with its plan and nothing struck. -/
def newSlice (kind : SliceKind) (decode : Bool) (bank : Bank) (set : Nat) : Slice :=
  { kind := kind, decode := decode, bank := bank, set := set, row := 0, width := 2, ds := 0, aligned := [], struck := [],
    withheld := [], carry := [], digSegs := [], slots := [], strikes := [], running := none, acc := [], weight := [],
    sat := [], digital := [], convs := [], spot := false, stale := false, split := false, poisoned := false,
    mirrorMiss := false, trims := [], paired := false }

/-- Build the slice of an order: forward or transposed (R63 to R67, R104 to R106, R143, R146 to R150, R153). -/
def State.buildSlice (s : State) (t granule : Nat) (o : Operand) (x : Slice) : State × Slice :=
  let d := s.dirOf t
  let die := tileDie t
  let l := d.lay
  let back := x.kind == .transposed
  let first := if back then (if d.w8 then d.colBlk.toNat * 16 else d.colBlk.toNat * 32) else d.rowBlk.toNat * 32
  let n := if back && d.w8 then 16 else 32
  let bs := s.sliceBlocks die granule o first n
  let widths := if back then
      List.replicate n (rungWidth (s.narrowest die l (s.inputLen (inputKind d.matrix))) (s.recFld l 1 1))
    else (range first (first + n)).map (s.posWidth die l)
  let width := Nat.max 2 (maxOr 1 widths)
  let s := s.addRec l recInvalid (bs.foldl (fun a b => a + b.invalid) 0)
  let bad := bs.any (fun b => b.denom == 0xFF)
  let ds := strikeDenom bs
  let (side, sideBad) := if back then ([], false) else s.sideValues t (till die (32 * granule))
  let skip := if back then [] else (List.range (s.withheldCount t)).map (s.withheldRow t)
  let a := alignBlocks bs widths ds skip
  let s := s.addRec l recAligned (if bad then 0 else a.out)
  let clip := if back then none else s.clipAt l width
  let struck := a.elems.map (clipElem clip)
  let rows := if back then d.outputs else d.rows
  let carry := if back ∨ s.layerPol l 3 3 ≠ 1 then [] else a.resid.filter (fun e => decide (e.1 < rows))
  let outs := ((a.elems.zip struck).zipIdx).filterMap (fun (e, r) => if e.1 ≠ e.2 ∧ r < rows then some r else none)
  let count (seg : Nat) : Nat :=
    (outs.filter (fun r => r / 64 == seg)).length + (carry.filter (fun e => e.1 / 64 == seg)).length
  let (parts, dig) := if back then ([(0, 16)], []) else
      issueForm (if s.layerPol l 3 3 = 1 then 16 else 8) count 5 0 16
  let plan := if back then planBackward d.budget width rows d.w8 struck
    else parts.foldl (fun p seg => planForward d.budget width rows struck seg p) ⟨[], 0, 0⟩
  let whole := bad || d.fallback || bs.all (fun b => b.denom == 0)
  let u := tileUnit t
  let s := if whole then s else (s.bump (MGC_CNT_SKIP die u) plan.skipped).bump (MGC_CNT_SPLIT die u) plan.extra
  let s := if whole then s else
    ((s.bump (ASY_CNT_SLICE die u) parts.length).bump (ASY_CNT_OUTSPLIT die u) (parts.length - 1)).bump
      (ASY_CNT_OUTDIG die u) dig.length
  (s, { x with
    width := width, ds := ds, aligned := a.elems, struck := struck, withheld := side, carry := carry,
    digSegs := dig, strikes := if whole then [] else plan.strikes,
    stale := s.calibrating t, split := !whole && (decide (1 < parts.length) || !dig.isEmpty), poisoned := bad || sideBad,
    trims := s.trimSet t back })

/-- The slice of a partner on its Bank B (R164, R369): the same strikes with its own trims. -/
def State.mateSlice (s : State) (m : Nat) (x : Slice) : Slice :=
  { x with kind := .mirror, bank := true, stale := s.calibrating m,
           trims := s.trimSet m (x.kind == .transposed), convs := [], spot := false }

/-- Is the partner of a tile free for a repeated slice? -/
def State.mateFree (s : State) (t : Nat) : Bool :=
  match s.mateOf t with
  | some m => (s.tile m).slice.isNone
  | none => true

/-- A STRIKE or TSTRIKE issues (R121, R223): its slice begins on the tile, and on its partner under full redundancy. -/
def strikeWork (verify back : Bool) (j : Job) (s : State) : Done :=
  let t := strikeTile j.unit j.order
  let d := s.dirOf t
  let bank := nbit (j.body 51 51) 0
  let o := s.opnd j (j.body 33 26)
  let g := s.opGranule j o (j.body 25 14)
  if d.epoch bank ≠ BitVec.ofNat 16 (j.body 49 34) then failed s reasonBank
  else if !bankStrikes verify (d.state bank) then failed s reasonBank
  else if !inTill g o.fmt o.len then failed s reasonWindow
  else if s.surplusBad t then failed s reasonReserved
  else
    let set := j.body 50 50
    let r := s.resultSet j.unit set
    let s := if j.acc && r.isOpen then s else
      s.setResultSet j.unit set { ResultSet.free with isOpen := true, decode := j.decode, tile := t }
    let kind := if back then SliceKind.transposed else if verify then .verify else .order
    let (s, x) := s.buildSlice t g o { newSlice kind j.decode bank set with row := j.row }
    match s.mateOf t with
    | some m =>
      if x.strikes.isEmpty then ⟨s.setTile t { s.tile t with slice := some x }, 0, false⟩
      else
        let s := s.setTile m { s.tile m with slice := some (s.mateSlice m x) }
        let x := { x with paired := true, strikes := if s.permanent t then [] else x.strikes }
        ⟨s.setTile t { s.tile t with slice := some x, partnerAcc := none }, 0, false⟩
    | none => ⟨s.setTile t { s.tile t with slice := some x, partnerAcc := none }, 0, false⟩

/-- A strike order that may issue only while its partner's tile is free too. -/
def State.issueStrike (s : State) (u : EngUnit) (decode : Bool) (cls op : Nat) : State :=
  match (s.queueOf u decode).entries with
  | [] => s
  | e :: _ =>
    if s.mateFree (strikeTile u ((e.repeated (s.queueOf u decode).reps).getD e.order)) then
      s.issue u decode cls op (strikeWork (cls == 0 && op == 1) (cls == 1))
    else s

/-! ### The governor (R116 to R119) -/

/-- What a tile asks for: 0 nothing, 1 a re-strike slot, 2 a strike of an order or its mirror, 3 a bench or probe strike. -/
def Tile.asks (x : Tile) : Nat :=
  match x.slice with
  | none => 0
  | some z =>
    if z.running.isSome then 0
    else if !z.slots.isEmpty then 1
    else if z.strikes.isEmpty then 0
    else match z.kind with
      | .bench => 3
      | .probe => 3
      | _ => 2

/-- May the tile's group begin strikes: its clock runs, it is not quiesced or in its block reset, and no sweep is pending
(R129, R133, R443)? -/
def State.groupStrikes (s : State) (t : Nat) : Bool :=
  let d := tileDie t
  let u := tileUnit t
  s.strikeRuns d && !s.flag (MGC_CTRL d u) 1 && !s.mram.sweepPending &&
    !s.rst.blockResets.any (fun b => match b with | .group e v => e.val == d && v.val == u | _ => false)

/-- The tiles of a Mint die that ask in a class, in the order of R119. -/
def State.asking (s : State) (m cls p : Nat) : List Nat :=
  let ts := (s.tiles.filter (fun e => tileMint e.1 == m && e.2.asks == cls && s.groupStrikes e.1)).map Prod.fst
  sortBy (fun a b => decide ((a % 2048 + 2048 - p % 2048) % 2048 ≤ (b % 2048 + 2048 - p % 2048) % 2048)) ts

/-- Tiles of a Mint die in a strike (R116). -/
def State.occupancy (s : State) (m : Nat) : Nat := (s.tiles.filter (fun e => tileMint e.1 == m && Tile.striking e.2)).length

/-- The rate exponent of a tile's next selection (R159). -/
def State.spotRate (s : State) (t : Nat) : Nat :=
  let r := s.fld (ASY_SPOT (tileDie t) (tileUnit t)) 19 16
  if 1 < (s.tile t).burst then 0 else if s.calibrating t then r - 1 else r

/-- A strike begins on a tile: bank change, counters, and the choice of a spot assay (R126, R134, R159, R162). -/
def State.beginStrike (s : State) (t : Nat) (x : Slice) (p : Part) (rest : List Part) : State :=
  let d := tileDie t
  let u := tileUnit t
  let tile := s.tile t
  let s := if tile.lastBank.isSome ∧ tile.lastBank ≠ some x.bank then s.bump (MGC_CNT_BANKSW d u) 1 else s
  let s := if !p.back then s.bump (MGC_CNT_STRIKE d u) 1 else s.bump (MGC_CNT_TSTRIKE d u) 1
  let s := if x.spot then s.bump (ASY_CNT_SPOTDROP d u) 1 else s
  let live := x.kind == .order && (s.dirOf t).state x.bank == bankLive
  let rho := s.spotRate t
  let chosen := live && (tile.count + spotMix t) % 2 ^ rho == 0
  let s := if live then s.setFld (ASY_SPOT d u) 23 20 rho else s
  let loading := chosen && s.setState t == 1
  let s := if loading then s.bump (ASY_CNT_SPOTDROP d u) 1 else s
  s.setTile t { tile with
    slice := some { x with strikes := rest, running := some [p], convs := [], spot := chosen && !loading },
    lastBank := some x.bank, count := if live then tile.count + 1 else tile.count,
    burst := if live && decide (1 < tile.burst) then tile.burst - 1 else tile.burst }

/-- A granted tile begins its slot or strike. -/
def State.beginWork (s : State) (t : Nat) : State :=
  let tile := s.tile t
  match tile.slice with
  | none => s
  | some x =>
    match x.slots with
    | sl :: rest =>
      let lv := (sl.head?.map Part.level).getD 1
      let c := if lv = 1 then MGC_CNT_RS1 (tileDie t) (tileUnit t)
        else if lv = 2 then MGC_CNT_RS2 (tileDie t) (tileUnit t) else MGC_CNT_RS3 (tileDie t) (tileUnit t)
      (s.bump c 1).setTile t { tile with slice := some { x with slots := rest, running := some sl } }
    | [] =>
      match x.strikes with
      | [] => s
      | p :: rest => s.beginStrike t x p rest

/-- The governor after a class's grants. -/
def Governor.note (g : Governor) (cls t : Nat) : Governor :=
  if cls = 1 then { g with p0 := t % 2048 + 1 } else if cls = 2 then { g with p1 := t % 2048 + 1 }
  else { g with p2 := t % 2048 + 1 }

/-- Grant a class as far as the ceiling allows, and count those deferred. -/
def State.grantClass (s : State) (m cls p : Nat) : State × Nat :=
  let ts := s.asking m cls p
  let room := s.ceiling m - s.occupancy m
  let s := (ts.take room).foldl (fun s t =>
    let g := (look ⟨0, 0, 0⟩ s.gov m).note cls t
    ({ s with gov := put ⟨0, 0, 0⟩ s.gov m g } : State).beginWork t) s
  ((ts.drop room).foldl (fun s t => s.bump (MGC_CNT_GOVWAIT (tileDie t) (tileUnit t)) 1) s, ts.length - room)

/-- One strike cycle of a die's governor (R119). -/
def State.govern (s : State) (m : Nat) : State :=
  let g := look ⟨0, 0, 0⟩ s.gov m
  let (s, a) := s.grantClass m 1 g.p0
  let (s, b) := s.grantClass m 2 g.p1
  let (s, c) := s.grantClass m 3 g.p2
  let s := if 0 < a + b + c then s.bump (MGV_DEFER m) 1 else s
  let n := s.occupancy m
  if s.fld (MGV_OCC m) 25 16 < n then s.setFld (MGV_OCC m) 25 16 n else s

/-! ### Conversions (R101, R107 to R111, R136, R138) -/

/-- The code of a conversion of the exact sum `S`, and whether it over-ranged (R101): the values the rule leaves open are
drawn (DESIGN CHOICE, log entry 5). -/
def State.code (s : State) (d : DirEntry) (sum : Int) (wide : Bool) : Int × Bool × State :=
  let q := d.lsbNum
  let den := d.lsbDen
  let mag := sum.natAbs * den
  let (a, s) := s.draw
  let past := if 256 * q ≤ mag then true else if mag ≤ 254 * q then false else a % 2 == 1
  if past then (if sum < 0 then -255 else 255, true, s)
  else
    let (f, s) := s.draw
    let w : Int := if wide then 6 * q else 3 * q
    let x : Int := 2 * sum * den
    let lo := max (-255) (-((w - x) / (2 * q : Nat)))
    let hi := min 255 ((x + w) / (2 * q : Nat))
    (lo + (f : Int) % (hi - lo + 1), false, s)

/-- The sum of the levels that a part's lines couple into a converted line. -/
def State.partSum (s : State) (t : Nat) (x : Slice) (p : Part) (c : Nat) : Int :=
  p.lines.foldl (fun a r => a + (if p.back then s.level t x.bank c r else s.level t x.bank r c)) 0

/-- The lines a strike converts: columns in use, or the rows of the segments of a transposed strike. -/
def convertedLines (d : DirEntry) (back : Bool) : List Nat := List.range (if back then d.rows else d.colsUsed)

/-- Add a conversion to its accumulator (R138); a W8 tile's first transposed strike counts 15 times (R115). -/
def Slice.take (x : Slice) (p : Part) (c : Nat) (t : Int) : Slice :=
  let k : Int := if p.nib = 0 then 15 else 1
  { x with acc := upd 0 x.acc c (· + k * planeWeight x.width p.plane * t),
           weight := upd 0 x.weight c (· + k.toNat * 2 ^ p.plane) }

/-- One converted line of a part: its code joins the accumulator, or the line is flagged. -/
def State.convertLine (s : State) (t : Nat) (x : Slice) (p : Part) (c : Nat) : State × Slice × Bool :=
  let d := s.dirOf t
  let (code, past, s) := s.code d (s.partSum t x p c) x.stale
  let w := x.trims.getD (if p.back then c / 8 else c) 0
  let x := { x with convs := if x.spot then x.convs ++ [⟨c, code, past, p.level, p.lines⟩] else x.convs }
  if past then (s, x, true) else (s, x.take p c (trimmed w code), false)

/-- A line saturates (R110, R111). -/
def State.saturate (s : State) (t : Nat) (x : Slice) (p : Part) (c : Nat) : State × Slice :=
  let s := s.bump (MGC_CNT_SAT (tileDie t) (tileUnit t)) 1
  let s := if p.lines.length ≤ 1 then s.fault (faultTile clsRange t c (p.lines.headD 0)) else s
  (s, { x with sat := x.sat ++ [c] })

/-- One part's conversions end: flagged lines are re-struck at the next level, or saturate. -/
def State.convertPart (s : State) (t : Nat) (x : Slice) (p : Part) : State × Slice :=
  let cs := (p.cols.getD (convertedLines (s.dirOf t) p.back)).filter (fun c => !x.sat.contains c)
  let (s, x, fl) := cs.foldl (fun (s, x, fl) c =>
    let (s, x, past) := s.convertLine t x p c
    (s, x, if past then fl ++ [c] else fl)) (s, x, ([] : List Nat))
  if fl.isEmpty then (s, x)
  else if 3 ≤ p.level ∨ p.lines.length ≤ 1 then
    fl.foldl (fun (s, x) c => s.saturate t x p c) (s, x)
  else
    let h := (p.lines.length + 1) / 2
    let a : Part := { p with level := p.level + 1, lines := p.lines.take h, cols := some fl }
    let b : Part := { p with level := p.level + 1, lines := p.lines.drop h, cols := some fl }
    (s, { x with slots := x.slots ++ [[a, b]] })

/-- The conversions of the strike or slot in progress on a tile end (R107). -/
def State.convertEnd (s : State) (t : Nat) : State :=
  match (s.tile t).slice with
  | none => s
  | some x =>
    match x.running with
    | none => s
    | some ps =>
      let (s, x) := ps.foldl (fun (s, x) p => s.convertPart t x p) (s, { x with running := none })
      s.setTile t { s.tile t with slice := some x }

/-- Has a slice struck all it had to? -/
def Slice.ended (x : Slice) : Bool := x.running.isNone && x.slots.isEmpty && x.strikes.isEmpty

/-! ### Mirrors (R164, R370) -/

/-- Does a pair of accumulators differ by more than both bounds (R84, R164)? In units of 2^-26 LSB; 1.5 LSB is
100,663,296. -/
def mirrorApart (x y : Slice) (c : Nat) : Bool :=
  let bound (z : Slice) : Nat := look 0 z.weight c * (if z.stale then 201326592 else 100663296)
  decide (bound x + bound y < (look 0 x.acc c - look 0 y.acc c).natAbs)

/-- The difference of a pair in LSB, as FP32 (R363). -/
def mirrorGap (x y : Slice) (c : Nat) : Nat := fp32.encode (Num.ofInt (look 0 x.acc c - look 0 y.acc c) (-26))

/-- A partner's accumulators arrive and the primary compares them (R164); a permanent primary takes them (R370). -/
def State.mirrorIn (s : State) (t : Nat) : State :=
  match (s.tile t).slice, s.mateOf t with
  | some x, some m =>
    match (s.tile m).slice with
    | some y =>
      if !(x.paired && x.ended && y.kind == .mirror && y.ended && (s.tile t).partnerAcc.isNone) then s
      else
        let s := s.setTile m { s.tile m with slice := none }
        let s := s.setTile t { s.tile t with partnerAcc := some (y.acc, y.weight) }
        if s.permanent t then
          s.setTile t { s.tile t with slice := some { x with acc := y.acc, weight := y.weight, sat := y.sat,
                                                             stale := x.stale || y.stale } }
        else
          let back := x.kind == .transposed
          let bad := (convertedLines (s.dirOf t) back).filter (fun c =>
            !x.sat.contains c && !x.digital.contains c && !y.sat.contains c && mirrorApart x y c)
          let s := bad.foldl (fun s c => s.fault (faultTile clsMirror t c (mirrorGap x y c))) s
          s.setTile t { s.tile t with slice := some { x with
            digital := x.digital ++ bad, mirrorMiss := x.mirrorMiss || !bad.isEmpty } }
    | none => s
  | _, _ => s

/-! ### Terms and corrections (R140, R143 to R153) -/

/-- The step of a denomination: 2^(D - 127). -/
def stepOf (ds : Nat) : Num := .fin false 1 ((ds : Int) - 127)

/-- What a lane of a set receives: terms, and whether it is poison. -/
abbrev LaneTerms := List Num × Bool

/-- The column term of R140, or of R143 without a factor. -/
def columnTerm (d : DirEntry) (p : Int) (ds : Nat) (f : Option Num) : Option Num :=
  let base := ((Num.ofInt p 0).mul d.lsb).mul (.fin false 1 ((ds : Int) - 153))
  match f with
  | some f => some (base.mul f)
  | none => none

/-- Rows of a slice that a part's strikes covered: not those of a digital segment. -/
def Slice.struckAt (x : Slice) (r : Nat) : Int := if x.digSegs.contains (r / 64) then 0 else x.struck.getD r 0

/-- An exact product of an element, a weight and a step. -/
def prod (e w : Int) (ds : Nat) : Num := (Num.ofInt (e * w) 0).mul (stepOf ds)

/-- What weight `j` receives from a forward slice, before the factor: master rows of a digital column, outliers, digital
segments, carried residuals and surplus entries (R145, R149, R150, R152, R153). -/
def State.forwardTerms (s : State) (t : Nat) (x : Slice) (xs : List Surplus) (digital : Bool) (j : Nat) : List Num :=
  let d := s.dirOf t
  let w (r : Nat) : Int := s.masterWeight t x.bank xs r j
  let rows := List.range d.rows
  let own := if digital then
      (rows.filter (fun r => x.struckAt r != 0)).map (fun r => prod (x.struckAt r) (w r) x.ds) else []
  let outs := rows.filterMap (fun r =>
    let res := x.aligned.getD r 0 - x.struck.getD r 0
    if res = 0 ∨ x.digSegs.contains (r / 64) then none else some (prod res (w r) x.ds))
  let segs := rows.filterMap (fun r =>
    if x.digSegs.contains (r / 64) ∧ x.aligned.getD r 0 ≠ 0 then some (prod (x.aligned.getD r 0) (w r) x.ds) else none)
  let carried := x.carry.map (fun (r, res, dn) => prod res (w r) dn)
  let extra := if digital then [] else
    xs.filterMap (fun z =>
      if (z.target d.w8).1 = j ∧ x.struckAt z.row ≠ 0 then some (prod (x.struckAt z.row) (z.target d.w8).2 x.ds) else none)
  own ++ outs ++ segs ++ carried ++ extra

/-- The products of the withheld rows for column `j` (R147). -/
def State.withheldTerms (s : State) (t : Nat) (x : Slice) (j : Nat) : List Num :=
  (List.range (s.withheldCount t)).filterMap (fun n =>
    (x.withheld.find? (fun e => e.1 == s.withheldRow t n)).map (fun e =>
      (bf16.decode e.2.toNat).mul (Num.ofInt (s.withheldWeight t n j) 0)))

/-- Is output `j` computed digitally (R110, R145, R161, R164)? On a W8 tile either cell column makes it so. -/
def Slice.isDigital (x : Slice) (d : DirEntry) (j : Nat) : Bool :=
  let c (k : Nat) : Bool := x.sat.contains k || x.digital.contains k
  d.fallback || (if d.w8 then c (2 * j) || c (2 * j + 1) else c j)

/-- The accumulator of output `j` (R138, R139). -/
def Slice.sumOf (x : Slice) (d : DirEntry) (j : Nat) : Int :=
  if d.w8 then 15 * look 0 x.acc (2 * j) + look 0 x.acc (2 * j + 1) else look 0 x.acc j

/-- Does weight `j` use a poisoned granule of the master plane (R165)? Whole rows for fetched ones, the column's granule
for a digital column. -/
def State.masterPoison (s : State) (t : Nat) (x : Slice) (digital : Bool) (j : Nat) : Bool :=
  let d := s.dirOf t
  let o := if d.w8 then j else j / 2
  let row (r : Nat) : Bool := s.masterBad t x.bank r 0 512
  (List.range d.rows).any (fun r =>
    (digital && x.struckAt r != 0 && s.masterBad t x.bank r o 1) ||
    ((x.aligned.getD r 0 != x.struck.getD r 0 || (x.digSegs.contains (r / 64) && x.aligned.getD r 0 != 0)) && row r)) ||
  x.carry.any (fun e => row e.1)

/-- What lane `j` of the set receives from a forward slice, each term times the column factor. -/
def State.forwardLane (s : State) (t : Nat) (x : Slice) (xs : List Surplus) (auxBad : Bool) (j : Nat) : LaneTerms :=
  let d := s.dirOf t
  match s.factor t j with
  | none => ([], true)
  | some f =>
    let dig := x.isDigital d j
    let own := if dig ∨ x.acc.isEmpty then [] else (columnTerm d (x.sumOf d j) x.ds (some f)).toList
    let rest := (s.forwardTerms t x xs dig j ++ s.withheldTerms t x j).map (fun y => y.mul f)
    (own ++ rest, auxBad || s.masterPoison t x dig j)

/-- What lane `i` receives from a transposed slice (R143): the row's accumulator with no factor, or its digital sum. -/
def State.backwardLane (s : State) (t : Nat) (x : Slice) (xs : List Surplus) (i : Nat) : LaneTerms :=
  let d := s.dirOf t
  let dig := d.fallback || x.sat.contains i || x.digital.contains i
  if dig then
    let js := (List.range d.outputs).filter (fun j => x.struck.getD j 0 != 0)
    (js.map (fun j => prod (x.struck.getD j 0) (s.masterWeight t x.bank xs i j) x.ds),
      js.any (fun j => s.masterBad t x.bank i (if d.w8 then j else j / 2) 1))
  else if x.acc.isEmpty then ([], false)
  else ((columnTerm d (look 0 x.acc i) x.ds (some (Num.ofInt 1 0))).toList, false)

/-- Add terms into lane `j`. -/
def ResultSet.addLane (r : ResultSet) (j : Nat) (v : LaneTerms) : ResultSet :=
  let h := (look Hoard.zero r.lanes j).addAll v.1
  { r with lanes := put Hoard.zero r.lanes j (if v.2 then h.spoil else h) }

/-- Poison in what a slice reads of the auxiliary area: the surplus list, or a withheld record (R165). -/
def State.auxPoison (s : State) (t : Nat) : Bool :=
  s.bad (s.auxAt t (s.surplusOff t)) (4 * s.surplusCount t) || s.bad (s.auxAt t 0x2800) (1056 * s.withheldCount t)

/-- Counters of a forward slice's corrections (R171). -/
def State.countSlice (s : State) (t : Nat) (x : Slice) (xs : List Surplus) (dig : Nat) : State :=
  let d := tileDie t
  let u := tileUnit t
  let outs := (((x.aligned.zip x.struck).zipIdx).filter (fun (e, r) => e.1 != e.2 && !x.digSegs.contains (r / 64) &&
    decide (r < (s.dirOf t).rows))).length
  let sur := (xs.filter (fun z => x.struckAt z.row != 0)).length
  ((((s.bump (ASY_CNT_WITHHELD d u) x.withheld.length).bump (ASY_CNT_OUTLIER d u) outs).bump (ASY_CNT_SURPLUS d u) sur).bump
    (ASY_CNT_CARRY d u) x.carry.length).bump (ASY_CNT_DIGCOL d u) dig

/-- Records of bad scales (R141) and of weight-scope poison (R365) that a slice met. -/
def State.sliceRecords (s : State) (t : Nat) (auxBad masBad : Bool) (n : Nat) : State :=
  let s := (List.range n).foldl (fun s j =>
    if s.bad (till (tileDie t) (s.auxFld t 9 6 + 4 * j)) 4 then s.weightPoison t (till (tileDie t) (s.auxFld t 9 6 + 4 * j))
    else if scaleOk (s.scaleCode t j) then s
    else s.fault (faultTile clsFormat t j (s.scaleCode t j))) s
  let s := if auxBad then s.weightPoison t (s.auxAt t 0x2800) else s
  if masBad then s.weightPoison t (s.masterAt t) else s

/-- The Assay unit above a tile's group. -/
def tileEngine (t : Nat) : EngUnit :=
  { die := ⟨tileDie t % 4, Nat.mod_lt _ (by decide)⟩, kind := .assay, inst := tileUnit t }

/-- The strike order whose slice a tile runs. -/
def State.strikeOrder (s : State) (t : Nat) (x : Slice) : Option InFlight :=
  (s.eng (tileEngine t)).flying.find? (fun f => f.decode == x.decode && !f.ready && decide (ordClass f.order ≤ 1) &&
    strikeTile (tileEngine t) f.order == t)

/-- The result set of a slice after its terms and corrections (R140 to R153, R165, R166). -/
def State.sumSlice (s : State) (t : Nat) (x : Slice) : State :=
  let d := s.dirOf t
  let e := tileEngine t
  let back := x.kind == .transposed
  let xs := s.surplusOf t x.bank
  let n := if back then d.rows else d.outputs
  let auxBad := !back && s.auxPoison t
  let lanes := (List.range n).map (fun j =>
    if x.poisoned then ([], true) else if back then s.backwardLane t x xs j else s.forwardLane t x xs auxBad j)
  let masBad := !x.poisoned && (List.range n).any (fun j =>
    !back && s.masterPoison t x (x.isDigital d j) j)
  let dig := if x.poisoned then 0 else if back then (x.sat ++ x.digital).length
    else ((List.range n).filter (x.isDigital d)).length
  let s := if back || x.poisoned then s.bump (ASY_CNT_DIGCOL (tileDie t) (tileUnit t)) dig
    else (s.countSlice t x xs dig).sliceRecords t auxBad masBad n
  let r := s.resultSet e x.set
  let r := (lanes.zipIdx).foldl (fun r v => r.addLane v.2 v.1) r
  let st := r.status.toNat
  let st := st ||| x.stale.toNat ||| (2 * (!x.sat.isEmpty).toNat) ||| (4 * x.split.toNat) ||| (8 * x.mirrorMiss.toNat)
  s.setResultSet e x.set { r with status := BitVec.ofNat 5 st,
                                  digital := if d.fallback then 255 else Nat.min (r.digital + dig) 255 }

/-- The last code of a slice reaches the Assay unit (R112): its terms enter the set, and its order may complete. -/
def State.sliceDone (s : State) (t : Nat) : State :=
  match (s.tile t).slice with
  | none => s
  | some x =>
    let ordered := match x.kind with
      | .order => true | .verify => true | .transposed => true | _ => false
    if !ordered || !x.ended || (x.paired && (s.tile t).partnerAcc.isNone) then s
    else
      let s := if x.spot then s.bump (ASY_CNT_SPOTDROP (tileDie t) (tileUnit t)) 1 else s
      let s := s.sumSlice t x
      let s := s.setTile t { s.tile t with slice := none, partnerAcc := none }
      match s.strikeOrder t x with
      | some f => s.readyOrder (tileEngine t) f
      | none => s

/-! ### Meanings -/

/-- STRIKE_SLICE (R223). -/
def execStrikeSlice (u : EngUnit) (decode : Bool) (s : State) : Host.Outcome State Fault Refusal :=
  .next (s.issueStrike u decode 0 0)
/-- STRIKE_VERIFY (R223). -/
def execStrikeVerify (u : EngUnit) (decode : Bool) (s : State) : Host.Outcome State Fault Refusal :=
  .next (s.issueStrike u decode 0 1)
/-- TSTRIKE_SLICE (R113). -/
def execTstrikeSlice (u : EngUnit) (decode : Bool) (s : State) : Host.Outcome State Fault Refusal :=
  .next (s.issueStrike u decode 1 0)
/-- GOVERNOR_GRANT (R119). -/
def execGovernorGrant (m : MintDie) (s : State) : Host.Outcome State Fault Refusal := .next (s.govern m.val)
/-- STRIKE_CONVERT_END (R107). -/
def execStrikeConvertEnd (t : TileId) (s : State) : Host.Outcome State Fault Refusal := .next (s.convertEnd t.val)
/-- SLICE_COMPLETE (R112). -/
def execSliceComplete (t : TileId) (s : State) : Host.Outcome State Fault Refusal := .next (s.sliceDone t.val)
/-- MIRROR_ACCUMULATORS (R164). -/
def execMirrorAccumulators (t : TileId) (s : State) : Host.Outcome State Fault Refusal := .next (s.mirrorIn t.val)

end Sys2Proof.Machine
end

