-- ==== Sys2Proof/Machine/Outputs.lean ====
section
/-! DEFINITION. How units write results: values and Hoards into an operand's format, with the counters and records of a
quantising unit (03 R54 to R62, R76 to R78), and program kinds (07 R229, R236). -/

namespace Sys2Proof.Machine

/-! ### Quantising (R56, R59 to R61) -/

/-- Quantise a block of values: a poisoned value makes the block poison. -/
def quantVals (n : Nat) (static : Option Nat) (us : Option (List Nat)) (vs : List Val) : Quant :=
  if vs.any Option.isNone then ⟨0xFF, List.replicate 32 0, 0, false, false, true⟩
  else
    let xs := vs.map (fun v => v.getD Num.zero)
    quantise n static us (xs ++ List.replicate (32 - xs.length) Num.zero)

/-- Does a block hold a NaN or an infinity, and no poison (R56)? -/
def blockSpecial (vs : List Val) : Bool :=
  vs.all Option.isSome && vs.any (fun v => match v with | some x => x.special | none => false)

/-- Count what a quantised block adds to its layer's record (R56, R60, R61). -/
def State.countQuant (s : State) (l : Nat) (q : Quant) : State :=
  ((s.addRec l recSat q.sat).addRec l recSatBlocks q.satAll.toNat).addRec l recUnder q.under.toNat

/-- The record of a block with a non-finite value (R56). -/
def State.formatFault (s : State) (j : Job) (k : Nat) : State :=
  (s.addRec j.layer recPoison 1).fault (s.tellJob j (faultUnit clsFormat j.unit k 0xFF))

/-- Quantise values block by block, counting; `us` gives the draws of an element's position. -/
def State.quantAll (s : State) (j : Job) (n : Nat) (static : Option Nat) (us : Option (Nat → Nat)) (vs : List Val) :
    State × List Quant :=
  let bs := piecesOf 32 (vs.length + 1) vs
  (bs.zipIdx).foldl (fun (s, qs) (b, k) =>
    let q := quantVals n static (us.map (fun f => (List.range 32).map (fun i => f (32 * k + i)))) b
    let s := if blockSpecial b then s.formatFault j k else s.countQuant j.layer q
    (s, qs ++ [q])) (s, [])

/-! ### Writing values -/

/-- NaNs among values. -/
def nansOf (vs : List Val) : Nat := (vs.filter (fun v => v == some .nan)).length

/-- Write values to an operand at a granule, in the operand's format: a DB format dynamic and to nearest even (R76). -/
def State.writeVals (s : State) (j : Job) (o : Operand) (granule : Nat) (vs : List Val) : State :=
  if isDb o.fmt then
    let (s, qs) := s.quantAll j (o.fmt + 1) none none vs
    s.onDies o granule (fun s a => s.putBlocks a (o.fmt + 1) vs.length qs)
  else s.onDies o granule (fun s a => s.putFloats a o.fmt j.acc vs)

/-- Write Hoards to an operand: as partial records, or read out (R76, R77). -/
def State.writeHoards (s : State) (j : Job) (o : Operand) (granule : Nat) (hs : List Hoard) : State :=
  if o.fmt = 0xC then
    s.onDies o granule (fun s a =>
      (hs.zipIdx).foldl (fun s e => s.putPartial (a + 96 * e.2) j.acc (sourceOf j.unit) e.1) s)
  else s.writeVals j o granule (hs.map Hoard.value)

/-- Can an order write `len` elements of the operand (R77, R222)? 0, or the reason of its fault. -/
def destFault (j : Job) (o : Operand) (granule len : Nat) : Nat :=
  if isDb o.fmt && j.acc then reasonAcc else if !inTill granule o.fmt len then reasonWindow else 0

/-! ### Partial records (R81) -/

/-- A partial record as a unit combines it: one that fails its check is poison and writes a record. -/
def State.takePartial (s : State) (j : Job) (a lane : Nat) : State × Hoard × Bool :=
  if s.bad a 96 then (s, Hoard.zero.spoil, false)
  else
    let bs := s.read a 96
    match Hoard.decode? bs with
    | some h => (s, h, false)
    | none =>
      let v := signed 576 (fieldB bs 71 0)
      (s.fault (s.tellJob j (faultUnit clsResidue j.unit lane (byteAt bs 81 * 256 + (v % 7).toNat))), Hoard.zero.spoil, true)

/-- `n` partial records from key `a` on, and how many failed. -/
def State.takePartials (s : State) (j : Job) (a n : Nat) : State × List Hoard × Nat :=
  (List.range n).foldl (fun (s, hs, k) i =>
    let (s, h, bad) := s.takePartial j (a + 96 * i) i
    (s, hs ++ [h], k + bad.toNat)) (s, [], 0)

/-! ### Programs -/

/-- A program's kind on a die: 0 decode, 1 prefill, 2 tuning, 3 verify (R229). -/
def State.progKind (s : State) (n d : Nat) : Nat := s.progHdr n d 0 0

/-- Mark the rows of a job as having met poison (R366). -/
def State.poisonRows (s : State) (j : Job) : State := s.markRows j.prog j.row (fun w => { w with poisoned := true })

end Sys2Proof.Machine
end

