-- ==== Sys2Proof/Machine/AssayOps.lean ====
section
/-! DEFINITION. ASSAY orders (05 R142, R154 to R156; 07 R224), spot assays and assay sets (05 R157 to R163). -/

namespace Sys2Proof.Machine

/-! ### Result sets (R142, R166) -/

/-- Mark the rows of a job with the status of a set they were carried in (R166). -/
def State.rowStatus (s : State) (j : Job) (st : Nat) : State :=
  s.markRows j.prog j.row (fun w => { w with assay := w.assay ||| BitVec.ofNat 5 st })

/-- READ drains a set: its lanes to the operand, its status word to the status array (R142, R166). -/
def readWork (j : Job) (s : State) : Done :=
  let n := j.body 55 55
  let r := s.resultSet j.unit n
  let o := s.opnd j (j.body 54 47)
  let g := s.opGranule j o (j.body 46 35)
  let len := Nat.min o.len 1024
  let why := destFault j o g len
  if why ≠ 0 then failed s why
  else
    let hs := (List.range len).map (fun i => look Hoard.zero r.lanes i)
    let bad := hs.any Hoard.poison
    let s := s.writeHoards j o g hs
    let st := r.status.toNat ||| (16 * bad.toNat)
    let s := s.writeNat (s.statusAt j.prog j.die (j.body 34 23)) 4 (r.digital * 65536 + st)
    let s := s.rowStatus j st
    let s := if bad then s.poisonRows j else s
    done (s.setResultSet j.unit n ResultSet.free)

/-- IMPORT adds partial records into a set, one for each lane (R224). -/
def importWork (j : Job) (s : State) : Done :=
  let n := j.body 55 55
  let o := s.opnd j (j.body 54 47)
  let g := s.opGranule j o (j.body 46 35)
  let len := Nat.min o.len 1024
  if !inTill g o.fmt len then failed s reasonWindow
  else
    let r := s.resultSet j.unit n
    let r := if j.acc && r.isOpen then r else { ResultSet.free with isOpen := true, decode := j.decode }
    let (s, hs, _) := s.takePartials j (till (o.readDie j.die) (32 * g)) len
    let lanes := (hs.zipIdx).foldl (fun m e => upd Hoard.zero m e.2 (fun h => h.join e.1)) r.lanes
    done (s.setResultSet j.unit n { r with lanes := lanes })

/-! ### Endorsement images (R154, R323) -/

/-- A rank padded to blocks of 32 (R154). -/
def padRank (r : Nat) : Nat := 32 * ceilDiv r 32

/-- Bytes [hi:lo] of the Folio geometry header (R201). -/
def State.geo (s : State) (hi lo : Nat) : Nat := s.chr secFolio hi lo

/-- Inputs of a matrix, padded to blocks of 32 (R155, R331). -/
def State.matrixIn (s : State) (m : Nat) : Nat := 32 * ceilDiv (s.inputLen (inputKind m)) 32

/-- Outputs of a matrix: the heads of the layer map and the Folio geometry, its widths, and the vocabulary (R329; DEDUCED, log entry
29). -/
def State.matrixOut (s : State) (m : Nat) : Nat :=
  let head := 32 * s.geo 3 3
  match m with
  | 0 => s.chr secLayers 41 40 * head
  | 1 => s.geo 2 2 * head
  | 2 => s.geo 2 2 * head
  | 3 => s.chr secLayers 39 38
  | 4 => s.chr secLayers 43 42
  | 5 => s.chr secLayers 43 42
  | 6 => s.chr secLayers 39 38
  | 7 => s.chr secLayers 35 32
  | _ => s.chr secLayers 39 38

/-- Bytes of `n` rows of `len` DB8 elements with their denominations, each area on a granule (R52). -/
def db8Bytes (n len : Nat) : Nat := roundUp32 (n * len) + roundUp32 (n * len / 32)

/-- Bytes of a block of an image: A, then B (R323). -/
def State.endoBlock (s : State) (r m : Nat) : Nat := db8Bytes r (s.matrixIn m) + db8Bytes (s.matrixOut m) r

/-- Bytes of an image before the block of layer `l` and matrix `m` (R323): the matrices that both the image and the layer
hold, in ascending code. -/
def State.endoBefore (s : State) (r mask l m : Nat) : Nat :=
  let held (k q : Nat) : Bool := nbit mask q && nbit (s.layEnt k 3 3) q
  let whole (k : Nat) : Nat := ((List.range 8).filter (held k)).foldl (fun a q => a + s.endoBlock r q) 0
  64 + (List.range l).foldl (fun a k => a + whole k) 0 + ((List.range m).filter (held l)).foldl (fun a q => a + s.endoBlock r q) 0

/-- A cache entry. -/
def CacheEntry.none : CacheEntry := ⟨0, 0, 0, 0, 0⟩

/-- The key of byte 0 of a cache entry's image (R325, R328). -/
def State.cacheAt (s : State) (c : CacheEntry) : Nat :=
  keyOf 0 (vaultBase c.stack + s.chr secLayers 19 16 * 4096 + c.base * 2 ^ 20)

/-- What a row's endorsement gives a matrix of the context layer: the table index, r', and the keys of A and B; none where
the row or the image has none. -/
def State.endoOfJob (s : State) (j : Job) (m : Nat) : Option (Nat × Nat × Nat × Nat) :=
  let f := s.jobRow j 13 12
  if j.row = wholeBatch ∨ nbit f 15 then none
  else
    let c := look CacheEntry.none s.cache (nbits f 9 0)
    let e := s.endoOf c.entry
    if c.units = 0 ∨ !(nbit e.matrices.toNat m && nbit (s.layEnt j.layer 3 3) m) then none
    else
      let r := padRank e.rank
      let a := s.cacheAt c + s.endoBefore r e.matrices.toNat j.layer m
      some (c.entry, r, a, a + db8Bytes r (s.matrixIn m))

/-- Block `k` of an area of DB8 elements whose denominations follow `n` elements. -/
def State.db8At (s : State) (a n k : Nat) : DbBlock := s.dbBlock a 8 n k

/-- The record of a poisoned endorsement granule (R365). -/
def State.endoPoison (s : State) (e : EngUnit) (entry : Nat) : State :=
  s.fault (FaultRecord.weightScope (FaultRecord.at_ (faultUnit clsLedger e 0 0) entry))

/-- Products of two lists of values, and whether any was poison. -/
def dotTerms (xs ys : List Val) : List Num × Bool :=
  (xs.zip ys).foldl (fun (l, bad) e =>
    match e with
    | (some x, some y) => (x.mul y :: l, bad)
    | _ => (l, true)) ([], false)

/-- The A stage (R155): u = Ax to the row's endorsement slot on every die. -/
def endaWork (j : Job) (s : State) : Done :=
  let m := j.body 47 44
  let o := s.opnd j (j.body 55 48)
  let g := s.opGranule j o (j.body 43 32)
  if !inTill g o.fmt o.len then failed s reasonWindow
  else
    match s.endoOfJob j m with
    | none => done s
    | some (entry, r, a, _) =>
      let n := s.matrixIn m
      let key := till j.die (32 * g)
      let (xs, bad) := s.vals key o.fmt o.len
      let s := s.addRec j.layer recInvalid bad
      let list := s.withheldList j.layer (inputKind m)
      let side := look 0 s.sides key
      let sideAt (c : Nat) : Option Val :=
        if side ≠ 0 ∧ list.contains c then
          let p := side - 1 + 2 * list.idxOf c
          some (if s.bad p 2 then none else some (bf16.decode (s.readNat p 2)))
        else none
      let xs := ((xs.take n).zipIdx).map (fun e => (sideAt e.2).getD e.1)
      let row (k : Nat) : List Val :=
        ((List.range (n / 32)).flatMap (fun b => (s.db8At a (r * n) (k * (n / 32) + b)).vals)).take n
      let us := (List.range r).map (fun k =>
        let (ts, p) := dotTerms (row k) xs
        let h := Hoard.zero.addAll ts
        (if p then h.spoil else h).value)
      let poisoned := (List.range (r * n / 32)).any (fun b => (s.db8At a (r * n) b).denom == 0xFF)
      let s := if poisoned then s.endoPoison j.unit entry else s
      let s := (List.range 4).foldl (fun s d =>
        s.putFloats (till d (32 * s.endoSlot j.prog d j.row m)) 8 false us) s
      done (s.bump (ASY_CNT_ENDA j.die j.unit.inst) 1)

/-- The tile of the unit's group that holds a column block of a matrix of the context layer, row block 0 first (R156). -/
def State.blockTile (s : State) (j : Job) (m c : Nat) : Option Nat :=
  let ts := (groupTiles j.die j.unit.inst).filter (fun t =>
    let d := s.dirOf t
    d.role == 1 && d.lay == j.layer && d.matrix == m && d.colBlk.toNat == c)
  (ts.find? (fun t => (s.dirOf t).rowBlk == 0)).or ts.head?

/-- The B stage (R156): B·u into the lanes of a set. -/
def endbWork (j : Job) (s : State) : Done :=
  let n := j.body 55 55
  let m := j.body 54 51
  let c := j.body 50 44
  let r0 := s.resultSet j.unit n
  let r0 := if j.acc && r0.isOpen then r0 else { ResultSet.free with isOpen := true, decode := j.decode }
  let s := s.setResultSet j.unit n r0
  match s.endoOfJob j m with
  | none => done s
  | some (entry, r, _, b) =>
    let d := s.dirOf ((s.blockTile j m c).getD r0.tile)
    let first := c * (if d.w8 then 512 else 1024)
    let u := till j.die (32 * s.endoSlot j.prog j.die j.row m)
    let us := (List.range r).map (s.floatAt u 8)
    let total := s.matrixOut m * r
    let blocks (k : Nat) : List DbBlock := (List.range (r / 32)).map (fun i => s.db8At b total ((first + k) * (r / 32) + i))
    let bad := us.any Option.isNone || (List.range d.outputs).any (fun k => (blocks k).any (fun x => x.denom == 0xFF))
    let s := if (List.range d.outputs).any (fun k => (blocks k).any (fun x => x.denom == 0xFF)) then
        s.endoPoison j.unit entry else s
    let set := (List.range d.outputs).foldl (fun set k =>
      set.addLane k ((dotTerms ((blocks k).flatMap DbBlock.vals) us).1, bad)) r0
    done ((s.setResultSet j.unit n set).bump (ASY_CNT_ENDB j.die j.unit.inst) 1)

/-! ### Assay sets (R157, R158, R169) -/

/-- The 4,096 bytes of a set of 8 columns: byte 4i + m div 2 holds row i of set column m (R169). -/
def setBytes (f : Nat → Nat → Int) (phase : Nat) : List Byte :=
  (List.range 4096).map (fun b =>
    let v (m : Nat) : Nat := toTwos 4 (f (b / 4) (phase + 128 * m))
    BitVec.ofNat 8 (v (2 * (b % 4)) + 16 * v (2 * (b % 4) + 1)))

/-- A cell's level corrected by the stuck-cell entries that name it (R158). -/
def State.soundLevel (s : State) (t : Nat) (k : Bank) (xs : List Surplus) (r c : Nat) : Int :=
  xs.foldl (fun a x => if x.stuck ∧ x.row = r ∧ x.col = c then a + x.value else a) (s.level t k r c)

/-- A bank's checksum for a phase (R169). -/
def State.setCrc (s : State) (t : Nat) (k : Bank) (phase : Nat) : Nat :=
  s.readNat (s.auxAt t ((if k then 0x2600 else 0x2400) + 4 * phase)) 4

/-- The level of row `r` of set column `m` of the set in Till. -/
def State.setLevelOf (s : State) (t r m : Nat) : Int :=
  let b := byteAt (s.read (s.auxAt t (0x1400 + 4 * r + m / 2)) 1) 0
  signed 4 (if m % 2 = 0 then b % 16 else b / 16)

/-- A set load begins: the phase of now, loading (R157). -/
def State.startSet (s : State) (t : Nat) : State :=
  if (s.dirOf t).live.isNone then s
  else s.write (s.auxAt t 10) [BitVec.ofNat 8 (phaseAt s.now.toNat t), 1]

/-- A set load ends (R158): the set from the Live bank, or from the master plane where the checksum differs. -/
def State.setLoaded (s : State) (t : Nat) : State :=
  match (s.dirOf t).live with
  | none => s
  | some k =>
    if s.setState t ≠ 1 then s
    else
      let ph := s.setPhase t
      let xs := s.surplusOf t k
      let own := setBytes (s.soundLevel t k xs) ph
      if (crc32c own).toNat = s.setCrc t k ph then
        (s.auxWrite t 0x1400 own).write (s.auxAt t 11) [0]
      else
        let m := setBytes (s.levelAt (s.masterAt t)) ph
        let differ := ((own.zip m).filter (fun e => e.1.toNat % 16 != e.2.toNat % 16)).length
          + ((own.zip m).filter (fun e => e.1.toNat / 16 != e.2.toNat / 16)).length
        let s := s.fault (faultTile clsCells t ph differ)
        (s.auxWrite t 0x1400 m).write (s.auxAt t 11) [2]

/-! ### Spot assays (R160 to R163) -/

/-- A pair of R163. -/
def pairWord (t : Nat) (x : Slice) (v : Conv) (sum : Int) : Word64 :=
  BitVec.ofNat 64 (v.col + tileSub t * 2 ^ 10 + x.bank.toNat * 2 ^ 14 + x.stale.toNat * 2 ^ 15
    + (toTwos 9 v.code + v.level * 2 ^ 9) * 2 ^ 16 + toTwos 16 sum * 2 ^ 32)

/-- Bytes of a ring (R354). -/
def State.ringBytes (s : State) : Nat := s.calPol 17 16 * 4096

/-- Write a pair to the group's ring in Till, or count it not written (R163). -/
def State.putPair (s : State) (t : Nat) (w : Word64) : State :=
  let d := tileDie t
  let u := tileUnit t
  let g := u * 4 + d
  let l := look [] s.cal.ring g
  match s.ringOf d u with
  | some k =>
    if 8 * l.length + 8 ≤ s.ringBytes then
      let s := s.writeNat (till d (s.calPol 21 18 * 4096 + k * s.ringBytes + 8 * l.length)) 8 w.toNat
      { s with cal := { s.cal with ring := put [] s.cal.ring g (l ++ [w]) } }
    else s.bump (ASY_CNT_PAIRDROP d u) 1
  | none => s.bump (ASY_CNT_PAIRDROP d u) 1

/-- A checked conversion: its exact sum, and t × q − S × den × 2^26, which is the residual times q × 2^26 (R160). -/
def State.spotResid (s : State) (t : Nat) (x : Slice) (m : Nat) (v : Conv) : Int × Int :=
  let d := s.dirOf t
  let sum := v.lines.foldl (fun a r => a + s.setLevelOf t r m) (0 : Int)
  (sum, trimmed (x.trims.getD v.col 0) v.code * (d.lsbNum : Int) - sum * (d.lsbDen : Int) * 2 ^ 26)

/-- Does a residual pass its bound (R160)? -/
def spotFails (d : DirEntry) (stale : Bool) (r : Int) : Bool :=
  decide ((if stale then 3 else 1) * d.lsbNum * 2 ^ 26 + (if stale then 0 else d.lsbNum * 2 ^ 25) < r.natAbs)

/-- A column fails its spot assay (R161). -/
def State.spotFail (s : State) (t : Nat) (v : Conv) (sum r : Int) : State :=
  let d := tileDie t
  let u := tileUnit t
  let sixteenth := divRne (r * 16) ((s.dirOf t).lsbNum * 2 ^ 26)
  let s := s.setReg (ASY_LASTFAIL d u) (BitVec.ofNat 64 (tileSub t * 2 ^ 23 + v.col * 2 ^ 13
    + toTwos 13 (clampInt (-4096) 4095 sixteenth)))
  let s := s.fault (faultTile clsSpot t v.col (toTwos 16 v.code + toTwos 16 sum * 2 ^ 16
    + toTwos 16 (clampInt (-32768) 32767 sixteenth) * 2 ^ 32))
  (s.startBurst t).bump (ASY_CNT_SPOTFAIL d u) 1

/-- One column of the set: a failure makes it digital, and each pair of a sound column is written. -/
def State.spotColumn (s : State) (t : Nat) (x : Slice) (m : Nat) : State × Slice :=
  let d := s.dirOf t
  let c := s.setPhase t + 128 * m
  if d.colsUsed ≤ c then (s, x)
  else
    let vs := (x.convs.filter (fun v => v.col == c && !v.past)).map (fun v => (v, s.spotResid t x m v))
    match vs.find? (fun e => spotFails d x.stale e.2.2) with
    | some (v, sum, r) => (s.spotFail t v sum r, { x with digital := if x.digital.contains c then x.digital else x.digital ++ [c] })
    | none => (vs.foldl (fun s e => s.putPair t (pairWord t x e.1 e.2.1)) s, x)

/-- The checker takes a selected strike, once it and its slots have ended (R160). -/
def State.spotAssay (s : State) (t : Nat) : State :=
  match (s.tile t).slice with
  | none => s
  | some x =>
    if !(x.spot && x.running.isNone && x.slots.isEmpty) then s
    else
      let s := s.bump (ASY_CNT_SPOT (tileDie t) (tileUnit t)) 1
      let (s, x) := (List.range 8).foldl (fun (s, x) m => s.spotColumn t x m) (s, x)
      s.setTile t { s.tile t with slice := some { x with spot := false, convs := [] } }

/-- A burst has run its strikes (R159): no strike of it is left. -/
def State.burstEnd (s : State) (t : Nat) : State :=
  if (s.tile t).burst = 1 then s.setTile t { s.tile t with burst := 0 } else s

/-! ### Meanings -/

/-- ASSAY_READ (R142). -/
def execAssayRead (u : EngUnit) (decode : Bool) (s : State) : Host.Outcome State Fault Refusal :=
  .next (s.issue u decode 2 0 readWork)
/-- ASSAY_ENDA (R155). -/
def execAssayEnda (u : EngUnit) (decode : Bool) (s : State) : Host.Outcome State Fault Refusal :=
  .next (s.issue u decode 2 1 endaWork)
/-- ASSAY_ENDB (R156). -/
def execAssayEndb (u : EngUnit) (decode : Bool) (s : State) : Host.Outcome State Fault Refusal :=
  .next (s.issue u decode 2 2 endbWork)
/-- ASSAY_IMPORT (R224). -/
def execAssayImport (u : EngUnit) (decode : Bool) (s : State) : Host.Outcome State Fault Refusal :=
  .next (s.issue u decode 2 3 importWork)
/-- ASSAY_SET_LOADED (R158). -/
def execAssaySetLoaded (t : TileId) (s : State) : Host.Outcome State Fault Refusal := .next (s.setLoaded t.val)
/-- SPOT_ASSAY (R160). -/
def execSpotAssay (t : TileId) (s : State) : Host.Outcome State Fault Refusal := .next (s.spotAssay t.val)
/-- SPOT_BURST_END (R159). -/
def execSpotBurstEnd (t : TileId) (s : State) : Host.Outcome State Fault Refusal := .next (s.burstEnd t.val)

end Sys2Proof.Machine
end

