-- ==== Sys2Proof/Machine/Calibrate.lean ====
section
/-! DEFINITION. Column trims: fits, traffic calibration runs and bench calibration (11_calibration_and_audit.md R345 to
R353; the vectors of 17 R493). -/

namespace Sys2Proof.Machine

/-! ### Fits (R348) -/

/-- The exact sums of a fit over pairs of raw code and exact sum. -/
structure FitSums where
  n  : Int
  s  : Int
  c  : Int
  ss : Int
  cc : Int
  sc : Int
  deriving DecidableEq, Repr

/-- The sums of a list of pairs (code, exact sum). -/
def fitSums (ps : List (Int × Int)) : FitSums :=
  ps.foldl (fun f p => ⟨f.n + 1, f.s + p.2, f.c + p.1, f.ss + p.2 * p.2, f.cc + p.1 * p.1, f.sc + p.2 * p.1⟩)
    ⟨0, 0, 0, 0, 0, 0⟩

/-- A fit: gain and offset, none where no integer is nearest, and `rms` in units of 2^-16 LSB with its test. -/
structure Fit where
  g    : Option Int
  o    : Option Int
  fits : Bool
  rms  : Nat
  deriving DecidableEq, Repr

/-- The integer nearest to a value, ties to even (R348). -/
def roundNum : Num → Option Int
  | .fin neg m e =>
    let v : Int := if neg then -(m : Int) else m
    some (if 0 ≤ e then v * 2 ^ e.toNat else divRne v (2 ^ (-e).toNat))
  | _ => none

/-- The calibration policy's field, and the reference Charter's value before a Charter posts (R345, R354; DEDUCED, log entry
31). -/
def State.fitPol (s : State) (hi lo ref : Nat) : Nat := if s.serve.posted then s.calPol hi lo else ref

/-- Is a column starved (R348)? The deviation of S / L is compared squared and exactly. -/
def State.starved (s : State) (d : DirEntry) (f : FitSums) : Bool :=
  let db := f.n * f.ss - f.s * f.s
  decide (f.n < s.fitPol 5 4 4096) || db == 0 ||
    decide (db * (d.lsbDen : Int) ^ 2 < ((s.fitPol 8 8 8 : Int) * d.lsbNum * f.n) ^ 2)

/-- The fit of R348, in binary64. -/
def State.fitOf (s : State) (d : DirEntry) (f : FitSums) : Fit :=
  let fl := fp64.ofInt
  let bp := fp64.div (fl (f.n * f.sc - f.s * f.c)) (fl (f.n * f.ss - f.s * f.s))
  let a := fp64.div (fp64.sub (fl f.c) (fp64.mul bp (fl f.s))) (fl f.n)
  let v := fp64.div (fp64.sub (fp64.sub (fl f.cc) (fp64.mul a (fl f.c))) (fp64.mul bp (fl f.sc))) (fl f.n)
  let rms := fp64.decode (fp64.sqrt (if Num.lt Num.zero (fp64.decode v) then v else 0))
  let l := fp64.encode d.lsb
  let x := fp64.sub (fp64.div (fl 1) (fp64.mul bp l)) (fl 1)
  { g := roundNum (fp64.decode (fp64.mul (fl (2 ^ 18)) x)), o := roundNum (fp64.decode (fp64.mul (fl 256) a)),
    fits := !Num.lt (Num.ofInt (s.fitPol 7 6 128) (-8)) rms && !rms.special,
    rms := ((roundNum (rms.mul (Num.ofInt 1 16))).getD 0).toNat }

/-- Is a value present and at most `lim` in magnitude? -/
def within (lim : Nat) (v : Option Int) : Bool := match v with | some i => decide (i.natAbs ≤ lim) | none => false

/-- The accepting test of R349. -/
def Fit.accepted (f : Fit) : Bool := within 15728 f.g && within 2048 f.o && f.fits

/-- The drift test of R350: beyond three quarters of a limit, or refused for a limit alone. -/
def Fit.drifts (f : Fit) : Bool := f.fits && !(within 11796 f.g && within 1536 f.o)

/-! ### What a fit does (R349, R350) -/

/-- A tile is marked drifted (R350). -/
def State.markDrifted (s : State) (t line : Nat) : State :=
  (s.setTile t { s.tile t with drifted := true }).eventAll 0x21 t line

/-- The rejection count of a column: 2 bits in the group's record (R353). -/
def State.rejects (s : State) (t c : Nat) : Nat :=
  (s.byte (s.calRecord (tileDie t) (tileUnit t) (0x240 + tileSub t * 256 + c / 4))).toNat / 4 ^ (c % 4) % 4

/-- Write a column's rejection count. Before a Charter posts there is no record to hold it. -/
def State.setRejects (s : State) (t c n : Nat) : State :=
  if s.serve.posted then
    let a := s.calRecord (tileDie t) (tileUnit t) (0x240 + tileSub t * 256 + c / 4)
    let b := (s.byte a).toNat
    s.write a [BitVec.ofNat 8 (b - b / 4 ^ (c % 4) % 4 * 4 ^ (c % 4) + n * 4 ^ (c % 4))]
  else s

/-- A column has been rejected three times in a row (R349). -/
def State.calSuspect (s : State) (t c : Nat) (f : Fit) : State :=
  let s := s.setDir t ((s.dirOf t).mark 1 true)
  let s := s.setFlag (MGC_STAT (tileDie t) (tileUnit t)) 30 true
  let s := s.fault (faultTile clsCal t c (toTwos 16 (f.g.getD 0) + toTwos 16 (f.o.getD 0) * 65536))
  s.eventAll 0x20 t c

/-- A rejected fit: the word stays (R349). -/
def State.rejectFit (s : State) (t : Nat) (rowSide : Bool) (line : Nat) (f : Fit) : State :=
  let s := s.bump (MGC_CNT_REJECT (tileDie t) (tileUnit t)) 1
  let s := if f.drifts then s.markDrifted t line else s
  if rowSide || !s.serve.posted then s
  else
    let n := s.rejects t line
    let s := s.setRejects t line (Nat.min (n + 1) 3)
    if n = 2 then s.calSuspect t line f else s

/-- An accepted fit: the trim word, the generation and the rejection count (R349). -/
def State.acceptFit (s : State) (t : Nat) (rowSide : Bool) (line : Nat) (f : Fit) : State :=
  let s := s.bump (MGC_CNT_FIT (tileDie t) (tileUnit t)) 1
  let s := s.auxWrite t (trimOffset rowSide line) (natLe 4 (trimWord (f.g.getD 0) (f.o.getD 0)))
  let s := s.auxWrite t 12 (natLe 4 (s.auxFld t 15 12 + 1))
  let s := if rowSide then s else s.setRejects t line 0
  if f.drifts then s.markDrifted t line else s

/-- Fit a column, or a row converter given by its first row, from its pairs: what became of it is 0 starved, 1 accepted,
2 rejected. -/
def State.fitLine (s : State) (t : Nat) (rowSide : Bool) (line : Nat) (ps : List (Int × Int)) : State × Nat × Fit :=
  let d := s.dirOf t
  let sums := fitSums ps
  let f := s.fitOf d sums
  if s.starved d sums then (s.bump (MGC_CNT_STARVE (tileDie t) (tileUnit t)) 1, 0, f)
  else if f.accepted then (s.acceptFit t rowSide line f, 1, f)
  else (s.rejectFit t rowSide line f, 2, f)

/-! ### Traffic runs (R346 to R351) -/

/-- The pairs of a column and bank in a group's ring (R163). -/
def columnPairs (ring : List Word64) (sub : Nat) (k : Bank) (c : Nat) : List (Int × Int) :=
  (ring.filter (fun w => bits w 9 0 == c && bits w 13 10 == sub && bitOf w 14 == k)).map (fun w =>
    (signed 9 (bits w 24 16), signed 16 (bits w 47 32)))

/-- The figures a run keeps of a fit: its counts, the square of an accepted fit's `rms` and the change of the trim. -/
def Calib.note (c : Calib) (g t col out : Nat) (f : Fit) (old : Nat) : Calib :=
  let c := { c with runs := upd (0, 0, 0, 0) c.runs g (fun r =>
    (r.1, r.2.1 + (if out = 1 then 1 else 0), r.2.2.1 + (if out = 2 then 1 else 0), r.2.2.2 + (if out = 0 then 1 else 0))) }
  if out = 1 then
    { c with quality := upd (0, 0) c.quality (t * 16 + col / 64) (fun q => (q.1 + f.rms * f.rms, q.2 + 1)),
             moved := upd (0, 0, 0) c.moved t (fun m =>
               (m.1 + (f.g.getD 0 - trimGain old), m.2.1 + (f.o.getD 0 - trimOff old), m.2.2 + 1)) }
  else c

/-- The columns of a tile that the closing window covered are fitted (R348). -/
def State.fitTile (s : State) (g t window : Nat) : State :=
  match (s.dirOf t).live with
  | none => s
  | some k =>
    let ph := (window + t) % 128
    let ring := look [] s.cal.ring g
    ((List.range 8).map (fun m => ph + 128 * m)).foldl (fun s c =>
      if (s.dirOf t).colsUsed ≤ c then s
      else
        let old := s.readNat (s.auxAt t (trimOffset false c)) 4
        let (s, out, f) := s.fitLine t false c (columnPairs ring (tileSub t) k c)
        { s with cal := s.cal.note g t c out f old }) s

/-- The row-converter trims of a tile take the run's mean change (R351). -/
def State.moveRows (s : State) (t : Nat) : State :=
  let (dg, doff, n) := look (0, 0, 0) s.cal.moved t
  if n = 0 then s
  else
    let ws := s.trimSet t true
    s.auxWrite t 0x40 (ws.flatMap (fun w =>
      natLe 4 (trimWord (clampInt (-32768) 32767 (trimGain w + divRne dg n))
        (clampInt (-32768) 32767 (trimOff w + divRne doff n)))))

/-- The quality figure of a column group, in 1/256 LSB (R353): rounded from the mean of squares in units of 2^-32. -/
def State.figure (s : State) (t cg : Nat) : Nat :=
  let (sq, n) := look (0, 0) s.cal.quality (t * 16 + cg)
  if n = 0 then 0xFFFF else Nat.min ((isqrt (sq / n) + 128) / 256) 0xFFFE

/-- The worst of a list of figures, with its place: figures of nothing do not count. -/
def worstFigure (l : List (Nat × Nat)) : Nat × Nat :=
  l.foldl (fun a e => if e.1 ≠ 0xFFFF ∧ a.1 < e.1 then e else a) (0, 0)

/-- A run ends (R347, R351, R353). -/
def State.endRun (s : State) (g : Nat) : State :=
  let d := g % 4
  let u := g / 4
  let (_, ok, bad, starve) := look (0, 0, 0, 0) s.cal.runs g
  let s := (groupTiles d u).foldl State.moveRows s
  let figs := (List.range 256).map (fun i => s.figure (tileAt d u (i / 16)) (i % 16))
  let worst := worstFigure (figs.zipIdx)
  let s := s.write (s.calRecord d u 0x10) (natLe 8 s.now.toNat ++ natLe 2 0 ++ natLe 2 ok ++ natLe 2 bad ++ natLe 2 starve)
  let s := (s.write (s.calRecord d u 0x40) (figs.flatMap (natLe 2))).writeNat (s.calRecord d u 2) 1 0
  let s := s.setReg (MGC_CALQ d u) (BitVec.ofNat 64 (worst.1 * 65536 + worst.2))
  let s := (s.setFld (MGC_CAL d u) 27 20 0).setFlag (MGC_STAT d u) 31 false
  let s := s.bump (MGC_CNT_CALRUN d u) 1
  { s with cal := { s.cal with runs := put (0, 0, 0, 0) s.cal.runs g (0, 0, 0, 0),
                               rings := s.cal.rings.filter (fun e => e.2 != g + 1),
                               quality := keepKeys s.cal.quality (fun k => !(groupTiles d u).contains (k / 16)),
                               moved := keepKeys s.cal.moved (fun t => !(groupTiles d u).contains t) } }

/-- The 128 windows of a run begin (R347): `ref_temp` takes `MGC_TEMP`. -/
def State.beginRun (s : State) (g : Nat) : State :=
  let d := g % 4
  let u := g / 4
  let temp := s.fld (MGC_TEMP d u) 15 0
  let s := (s.setFld (MGC_CAL d u) 15 0 temp).setFld (MGC_CAL d u) 27 20 128
  let s := (s.writeNat (s.calRecord d u 0) 2 temp).writeNat (s.calRecord d u 2) 1 2
  let s := (s.writeNat (s.calRecord d u 8) 8 s.now.toNat).writeNat (s.calRecord d u 0x18) 2 128
  { s with cal := { s.cal with runs := upd (0, 0, 0, 0) s.cal.runs g (fun r => (128, r.2)),
                               again := s.cal.again.filter (· != g), begun := put 0 s.cal.begun g s.now } }

/-- A group in a run at a boundary: its window's columns, then one window less, a restart or the end (R347, R348). -/
def State.runBoundary (s : State) (window g : Nat) : State :=
  let d := g % 4
  let u := g / 4
  let s := (groupTiles d u).foldl (fun s t => s.fitTile g t window) s
  let left := (look (0, 0, 0, 0) s.cal.runs g).1 - 1
  if s.cal.again.contains g then s.beginRun g
  else if left = 0 then s.endRun g
  else
    let s := (s.setFld (MGC_CAL d u) 27 20 left).writeNat (s.calRecord d u 0x18) 2 left
    { s with cal := { s.cal with runs := upd (0, 0, 0, 0) s.cal.runs g (fun r => (left, r.2)) } }

/-- Groups that are due take the rings that runs have returned, in order of trigger (R347). -/
def State.grantDue (s : State) : State := s.cal.due.foldl (fun s g => s.grantRing (g % 4) (g / 4)) s

/-- Groups whose last run began more than `max_age` ago, and that have none to come (R346 reason 4). -/
def State.agedGroups (s : State) : List Nat :=
  (s.cal.begun.filter (fun e =>
    !(s.cal.runs.any (fun r => r.1 == e.1)) && !(s.cal.due.contains e.1) && (s.ringOf (e.1 % 4) (e.1 / 4)).isNone &&
    decide (s.calPol 13 12 * 100000000 ≤ (s.now - e.2).toNat))).map Prod.fst

/-- A phase boundary (R157, R347 to R351). One has passed where the quotient of R157 has moved on. -/
def State.phaseBoundary (s : State) : State :=
  let w := s.now.toNat / 125000000
  if w = s.cal.window then s
  else
    let old := s.cal.window
    let s := { s with cal := { s.cal with window := w } }
    let waiting := (s.cal.rings.map (fun e => e.2 - 1)).filter (fun g => !s.cal.runs.any (fun r => r.1 == g))
    let s := (s.cal.runs.map Prod.fst).foldl (fun s g => s.runBoundary old g) s
    let s := waiting.foldl State.beginRun s
    let s := { s with cal := { s.cal with ring := [] } }
    let s := s.grantDue
    let s := if s.serve.posted then s.agedGroups.foldl (fun s g => s.calTrigger (g % 4) (g / 4) 4) s else s
    (s.dir.map Prod.fst).foldl State.startSet s

/-! ### Bench calibration (R345) -/

/-- Is line `x` active in bench vector `v` of a tile (R493)? -/
def benchActive (t v x : Nat) : Bool :=
  let w := (philox (t % 32768) v (x / 64) 0 0).getD (x % 64 / 16) 0
  nbits w (2 * (x % 16) + 1) (2 * (x % 16)) == 3

/-- The re-strike slots of a bench strike, one after another; no part is struck more than three times (R109). -/
def State.benchSlots (t : Nat) : Nat → State → Slice → State × Slice
  | 0, s, x => (s, x)
  | fuel + 1, s, x =>
    match x.slots with
    | [] => (s, x)
    | sl :: rest =>
      let lv := (sl.head?.map Part.level).getD 1
      let c := if lv = 1 then MGC_CNT_RS1 (tileDie t) (tileUnit t)
        else if lv = 2 then MGC_CNT_RS2 (tileDie t) (tileUnit t) else MGC_CNT_RS3 (tileDie t) (tileUnit t)
      let (s, x) := sl.foldl (fun (s, x) p => s.convertPart t x p) (s.bump c 1, { x with slots := rest })
      State.benchSlots t fuel s x

/-- One bench vector: its strikes and their slots. The slice holds the conversions. -/
def State.benchVector (s : State) (t : Nat) (k : Bank) (back : Bool) (v : Nat) : State × List Conv :=
  let d := s.dirOf t
  let lines := (List.range (if back then d.colsUsed else d.rows)).filter (benchActive t v)
  let parts := planeStrikes d.budget 0 (if back then 3 else 2) lines
  let x := { newSlice .bench false k 0 with spot := true, stale := true }
  let s := s.bump (MGC_CNT_SPLIT (tileDie t) (tileUnit t)) (parts.length - 1)
  let s := s.bump (if back then MGC_CNT_TSTRIKE (tileDie t) (tileUnit t) else MGC_CNT_STRIKE (tileDie t) (tileUnit t)) parts.length
  let (s, x) := parts.foldl (fun (s, x) p =>
    let (s, x) := s.convertPart t x p
    let (s, x) := State.benchSlots t 7 s x
    (s, { x with sat := [] })) (s, x)
  (s, x.convs)

/-- The bench vectors from number `v` on. -/
def State.benchVectors (t : Nat) (k : Bank) (back : Bool) : Nat → Nat → State → List Conv → State × List Conv
  | 0, _, s, acc => (s, acc)
  | n + 1, v, s, acc =>
    let (s, cs) := s.benchVector t k back v
    State.benchVectors t k back n (v + 1) s (acc ++ cs)

/-- The pairs of the bench conversions of some lines: code, and the sum of the levels corrected by the stuck-cell
entries. -/
def State.benchPairs (s : State) (t : Nat) (k : Bank) (xs : List Surplus) (back : Bool) (cs : List Conv) (of : Nat → Bool) :
    List (Int × Int) :=
  (cs.filter (fun v => of v.col && !v.past)).map (fun v =>
    (v.code, v.lines.foldl (fun a r =>
      a + (if back then s.soundLevel t k xs v.col r else s.soundLevel t k xs r v.col)) (0 : Int)))

/-- May bench calibration run on a bank (R345): the Live bank before a Charter is accepted, or a Programmed bank of a tile
that no fit has trimmed? -/
def State.benchAllowed (s : State) (t : Nat) (k : Bank) : Bool :=
  let st := (s.dirOf t).state k
  (st == bankLive && !s.serve.posted) || (st == bankProgrammed && s.auxFld t 15 12 == 0)

/-- Bench calibration starts on a tile with no strike of an order (R345). -/
def State.benchStart (s : State) (t : Nat) (k : Bank) : State :=
  if s.benchAllowed t k && (s.tile t).slice.isNone && (s.tile t).benched.isNone && s.groupStrikes t then
    s.setTile t { s.tile t with benched := some k }
  else s

/-- A tile leaves a bench calibration of its bank: the bank change that began it is counted (R126). -/
def State.benchLeave (s : State) (t : Nat) (k : Bank) : State :=
  let moved := (s.tile t).lastBank == some !k
  let s := s.setTile t { s.tile t with benched := none, lastBank := some k }
  if moved then s.bump (MGC_CNT_BANKSW (tileDie t) (tileUnit t)) 1 else s

/-- The fits of a bench calibration: `n` vectors of each side (R345). -/
def State.benchFit (s : State) (t : Nat) (k : Bank) (n : Nat) : State :=
  let d := s.dirOf t
  let xs := s.surplusOf t k
  let (s, fwd) := State.benchVectors t k false n 0 s []
  let (s, bwd) := State.benchVectors t k true n n s []
  let s := (List.range d.colsUsed).foldl (fun s c =>
    (s.fitLine t false c (s.benchPairs t k xs false fwd (· == c))).1) s
  (List.range (ceilDiv d.rows 8)).foldl (fun s j =>
    (s.fitLine t true (8 * j) (s.benchPairs t k xs true bwd (fun r => r / 8 == j))).1) s

/-- Bench calibration ends on a tile: its columns and row converters are fitted (R345, R348, R349). -/
def State.benchEnd (s : State) (t : Nat) : State :=
  match (s.tile t).benched with
  | none => s
  | some k => (s.benchLeave t k).benchFit t k 4096

/-! ### Meanings -/

/-- PHASE_BOUNDARY (R157, R347, R348). -/
def execPhaseBoundary (s : State) : Host.Outcome State Fault Refusal := .next s.phaseBoundary
/-- BENCH_CALIBRATION (R345). -/
def execBenchCalibration (t : TileId) (b : Bank) (s : State) : Host.Outcome State Fault Refusal :=
  .next (s.benchStart t.val b)
/-- BENCH_CALIBRATION_DONE (R345, R348). -/
def execBenchCalibrationDone (t : TileId) (s : State) : Host.Outcome State Fault Refusal := .next (s.benchEnd t.val)

end Sys2Proof.Machine
end

