-- ==== Sys2Proof/Machine/Program.lean ====
section
/-! DEFINITION. Programming a bank (04_mint_tiles.md R121 to R125, R129), where a Load's shards lie in Vault (10 R308,
R312, R316), and the sweep's start. -/

namespace Sys2Proof.Machine

/-! ### Where a Load's image lies (R308, R312, R328) -/

/-- Bytes of a shard (R308). -/
def shardSize : Nat := 2 ^ 22

/-- The key of byte `off` of a Load's image: its shard's landing slot (R312, R328). -/
def State.landKey (s : State) (l : Load) (off : Nat) : Nat :=
  let n := off / shardSize
  keyOf 0 (vaultBase (n % 4) + s.chr secLayers 5 2 * 4096 + (look 0 l.landed n - 1) * shardSize + off % shardSize)

/-- Byte offset of a tile record's level plane: the next 4 KiB boundary (R308). -/
def recordPlane (off n : Nat) : Nat := off + ceilDiv (0x240 + 4 * n) 4096 * 4096

/-- The end of a tile record. -/
def recordEnd (off n : Nat) : Nat := recordPlane off n + 2 ^ 19

/-- The record of a tile in a Load. -/
def Load.recordOf (l : Load) (t : Nat) : Option (Nat × Nat × Nat) := l.records.find? (fun r => r.2.1 == t)

/-- The key of row `r` of the level plane that a command programs: the landing copy or the tile's own master plane for a
Load's command (R316, R321), the Vault address it names for any other (R123). -/
def State.planeRow (s : State) (t : Nat) (c : ProgCmd) (r : Nat) : Nat :=
  match c.tally, s.epochs.load with
  | none, some l =>
    if l.manifest.refresh then s.masterAt t + 512 * r
    else match l.recordOf t with
      | some (off, _, n) => s.landKey l (recordPlane off n + 512 * r)
      | none => keyOf 0 (c.plane + 512 * r)
  | _, _ => keyOf 0 (c.plane + 512 * r)

/-! ### Surplus lists (R125, R151, R152) -/

/-- Replace a tile's surplus list. -/
def State.setSurplus (s : State) (t : Nat) (ws : List Nat) : State :=
  (s.auxWrite t 2 (natLe 2 ws.length)).auxWrite t (s.surplusOff t) (ws.flatMap (natLe 4))

/-- Is a surplus word tagged with a bank? -/
def wordBank (k : Bank) (w : Nat) : Bool := nbit w 29 == k

/-- Insert words by row, after those of the same row. -/
def addWords (ws new : List Nat) : List Nat :=
  new.foldl (fun l w => insertBy (fun a b => decide (a % 1024 ≤ b % 1024)) w l) ws

/-! ### The controller (R122 to R125) -/

/-- A status that a record of class program carries: PROGRAM_FAILED, VERIFY_FAILED (R332), and WRONG_STATE for a
command refused for its banks (DESIGN CHOICE, log entry 32). -/
def stProgramFailed : Nat := 0x0305
def stVerifyFailed : Nat := 0x0304
def stWrongState : Nat := 0x0105

/-- A record of class program: row, status, stuck cells (R363). -/
def State.programRecord (s : State) (t row status stuck : Nat) : State :=
  s.fault (faultTile clsProgram t row (status + Nat.min stuck 65535 * 65536))

/-- A Load ends with a status, unless it has one (R313, R316). -/
def State.failLoad (s : State) (status : Nat) : State :=
  match s.epochs.load with
  | some l => if l.failed.isSome then s else
      { s with epochs := { s.epochs with load := some { l with failed := some (BitVec.ofNat 16 status) } } }
  | none => s

/-- Is a command for a tile and bank refused (R122): the bank or its pair serves, the other bank is Programming or is
named by a command held? -/
def State.programRefused (s : State) (t : Nat) (k : Bank) (held : List ProgCmd) : Bool :=
  let d := s.dirOf t
  let st := d.state k
  let other := d.state !k
  st == bankLive || st == bankDraining || st == bankProgramming || other == bankProgramming ||
    held.any (fun c => c.tile.val == tileSub t && c.bank != k)

/-- The command at a controller's head starts: its bank is Programming, and a stuck-cell entry of the image it held is
gone. A command whose bank has come to serve since it was accepted is refused now, and the next one starts (R122). -/
def programStart (d u : Nat) : Nat → State → State
  | 0, s => s
  | fuel + 1, s =>
    let g := s.groupOf d u
    match g.queue with
    | [] => s
    | c :: rest =>
      let t := tileAt d u c.tile.val
      let st := (s.dirOf t).state c.bank
      if st = bankLive ∨ st = bankDraining then
        programStart d u fuel ((s.setGroup d u { g with queue := rest }).programRecord t 0 stWrongState 0)
      else
        let s := s.setGroup d u { g with row := 0, extra := 0, stuck := 0 }
        let s := s.setDir t ((s.dirOf t).setState c.bank bankProgramming)
        if c.tally.isSome then
          let ws := s.surplusWords t
          let keep := ws.filter (fun w => !(nbit w 30 && wordBank c.bank w))
          if keep.length = ws.length then s else s.setSurplus t keep
        else s

/-- A program command reaches its controller (R122, R123). A 17th is refused and nothing changes. -/
def State.programAdd (s : State) (d u : Nat) (c : ProgCmd) : State :=
  let g := s.groupOf d u
  let t := tileAt d u c.tile.val
  if s.mram.sweepPending then s
  else if s.programRefused t c.bank g.queue then s.programRecord t 0 stWrongState 0
  else if 16 ≤ g.queue.length then s
  else
    let s := s.setGroup d u { g with queue := g.queue ++ [c] }
    if g.queue.isEmpty then programStart d u 17 s else s

/-- A command ends: its Tally is signalled and the next one starts (R125). -/
def State.programNext (s : State) (d u : Nat) (c : ProgCmd) : State :=
  let g := s.groupOf d u
  let s := s.setGroup d u { g with queue := g.queue.drop 1, row := 0, extra := 0, stuck := 0 }
  let s := match c.tally with
    | some t => (s.tallyAdd t.val 1 none).1
    | none => s
  programStart d u 17 s

/-- The bank becomes Failed (R94, R125). -/
def State.programFail (s : State) (d u : Nat) (c : ProgCmd) (row : Nat) : State :=
  let t := tileAt d u c.tile.val
  let s := s.setDir t ((s.dirOf t).setState c.bank bankFailed)
  let s := s.programRecord t row stProgramFailed (s.groupOf d u).stuck
  let s := if c.tally.isNone then s.failLoad stProgramFailed else s
  s.programNext d u c

/-- The checksum of a bank's phase-0 set as level reads give it, in MRAM (R451 phase 5; DEDUCED, log entry 59). -/
def State.keepCrc0 (s : State) (t : Nat) (k : Bank) : State :=
  { s with mram := { s.mram with setCrc0 := put 0 s.mram.setCrc0 (2 * t + k.toNat) (crc32c (setBytes (s.level t k) 0)) } }

/-- The bank becomes Programmed (R125). -/
def State.programDone (s : State) (d u : Nat) (c : ProgCmd) : State :=
  let t := tileAt d u c.tile.val
  let s := s.setDir t (((s.dirOf t).setState c.bank bankProgrammed).setEpoch c.bank c.epoch)
  (s.keepCrc0 t c.bank).programNext d u c

/-- The row that the controller programs is done (R124, R125): `extra` rounds it took, and the cells that did not verify
with the levels they hold. -/
def State.programRow (s : State) (d u extra : Nat) (stuck : List (Fin 1024 × BitVec 4)) : State :=
  let g := s.groupOf d u
  match g.queue with
  | [] => s
  | c :: _ =>
    let t := tileAt d u c.tile.val
    let row := g.row
    let src := s.planeRow t c row
    let want := s.read src 512
    if !s.strikeRuns d || s.mram.sweepPending then s
    else if s.bad src 512 || want.any (fun b => b.toNat % 16 == 8 || b.toNat / 16 == 8) then s.programFail d u c row
    else
      let extra := Nat.min extra 8
      let stuck := if extra = 8 then stuck.filter (fun e => s.levelAt src 0 e.1.val != e.2.toInt) else []
      let s := s.write (planeBase t c.bank + 512 * row) want
      let s := stuck.foldl (fun s e => s.setLevel t c.bank row e.1.val e.2.toInt) s
      let s := (s.bump (MGC_CNT_PROGROW d u) 1).bump (MGC_CNT_VERIFY d u) extra
      let s := s.bump (MGC_CNT_STUCK d u) stuck.length
      let s := s.setGroup d u { g with row := row + 1, extra := g.extra + extra, stuck := g.stuck + stuck.length }
      let new := stuck.map (fun e =>
        (Surplus.mk true c.bank (s.levelAt src 0 e.1.val - e.2.toInt) e.1.val row).word)
      let ws := s.surplusWords t
      if s.surplusCap t < ws.length + new.length then
        (if new.isEmpty then s else s.setSurplus t (addWords ws (new.take (s.surplusCap t - ws.length)))).programFail d u c row
      else
        let s := if new.isEmpty then s else s.setSurplus t (addWords ws new)
        if row = 1023 then s.programDone d u c else s

/-! ### The sweep (R129) -/

/-- A sweep starts for the alarm's Destroy or for a decommissioning; the flag goes to MRAM and programming commands are
gone. -/
def State.sweepBegin (s : State) : State :=
  if (s.mram.destroyPending || s.rst.decommissioning) && !s.mram.sweepPending then s.sweepStart else s

/-! ### Meanings -/

/-- PROGRAM_COMMAND (R122, R123). -/
def execProgramCommand (d : Die) (u : Fin 512) (c : ProgCmd) (s : State) : Host.Outcome State Fault Refusal :=
  .next (s.programAdd d.val u.val c)
/-- PROGRAM_ROW_DONE (R124, R125). -/
def execProgramRowDone (d : Die) (u : Fin 512) (extra : Nat) (stuck : List (Fin 1024 × BitVec 4)) (s : State) :
    Host.Outcome State Fault Refusal :=
  .next (s.programRow d.val u.val extra stuck)
/-- MINT_SWEEP_START (R129). -/
def execMintSweepStart (s : State) : Host.Outcome State Fault Refusal := .next s.sweepBegin

end Sys2Proof.Machine
end

