-- ==== Sys2Proof/Machine/Functions.lean ====
section
/-! DEFINITION. The functions of the engines (03 R83, 17 R494) and the constants of rotary encoding (06 R175). Beyond the
special inputs of R494 the spec gives a function's bits only a bound, so they are free (DESIGN CHOICE, log entry 7). -/

namespace Sys2Proof.Machine

/-! ### Functions of an FP32 value (R226's codes, R494) -/

def fp32Inf : Nat := 0x7F800000
def fp32NegInf : Nat := 0xFF800000
def fp32NegZero : Nat := 0x80000000
def fp32One : Nat := 0x3F800000

/-- Is an FP32 code below zero? -/
def fp32Neg (x : Nat) : Bool := decide (2 ^ 31 < x % 2 ^ 32)

/-- The result that R494's table gives a special input: functions 0 exp2, 1 exp, 2 log, 3 reciprocal, 4 reciprocal square
root, 5 sin, 6 cos, 7 tanh, 8 sigmoid, 9 SiLU, 10 GELU. -/
def fnSpecial (fn x : Nat) : Option Nat :=
  if fp32.isNan x then some fp32.qnan
  else
    let inf : Bool := x == fp32Inf
    let ninf : Bool := x == fp32NegInf
    let zero : Bool := x % 2 ^ 31 == 0
    match fn with
    | 0 => if ninf then some 0 else if inf then some fp32Inf else none
    | 1 => if ninf then some 0 else if inf then some fp32Inf else none
    | 2 => if zero then some fp32NegInf else if fp32Neg x then some fp32.qnan else if inf then some fp32Inf else none
    | 3 => if zero then some (x + fp32Inf) else if inf then some 0 else if ninf then some fp32NegZero else none
    | 4 => if zero then some (x + fp32Inf) else if fp32Neg x then some fp32.qnan else if inf then some 0 else none
    | 5 => if inf || ninf then some fp32.qnan else if zero then some x else none
    | 6 => if inf || ninf then some fp32.qnan else none
    | 7 => if inf then some fp32One else if ninf then some (fp32One + 2 ^ 31) else if zero then some x else none
    | 8 => if ninf then some 0 else if inf then some fp32One else none
    | _ => if ninf then some fp32NegZero else if inf then some fp32Inf else if zero then some x else none

/-- A function of an FP32 value. -/
def fnVal (fn x : Nat) : Nat :=
  match fnSpecial fn x with
  | some y => y
  | none => (Config.fnBits fn (BitVec.ofNat 32 x)).toNat

/-! ### Roots (R175) -/

/-- Is (m × 2^e)^n × b^k at most 1, for b = bm × 2^be? -/
def powLe (m : Nat) (e : Int) (n bm : Nat) (be : Int) (k : Nat) : Bool :=
  let x : Int := e * n + be * k
  if 0 ≤ x then decide (m ^ n * bm ^ k * 2 ^ x.toNat ≤ 1) else decide (m ^ n * bm ^ k ≤ 2 ^ (-x).toNat)

/-- The largest positive FP32 code at or above `acc` whose value v has v^n × b^k ≤ 1, settled bit by bit. -/
def rootFrom (n bm : Nat) (be : Int) (k : Nat) : Nat → Nat → Nat
  | 0, acc => acc
  | j + 1, acc =>
    let c := acc + 2 ^ j
    let ok := decide (c < fp32Inf) &&
      (match fp32.decode c with
       | .fin _ m e => powLe m e n bm be k
       | _ => false)
    rootFrom n bm be k j (if ok then c else acc)

/-- The FP32 value nearest to b^(-k/n), ties to even, for a positive finite FP32 code `b`. -/
def rootCode (n k b : Nat) : Nat :=
  match fp32.decode b with
  | .fin _ bm be =>
    let c := rootFrom n bm be k 31 0
    match fp32.decode c with
    | .fin _ m e =>
      -- the point half way to the next code
      let m' := 2 * m + 1
      if powLe m' (e - 1) n bm be k then
        (if powLe m' (e - 1) n bm be k && !(decide (c % 2 = 0) && (let x : Int := (e - 1) * n + be * k
            if 0 ≤ x then decide (m' ^ n * bm ^ k * 2 ^ x.toNat = 1) else decide (m' ^ n * bm ^ k = 2 ^ (-x).toNat)))
          then c + 1 else c)
      else c
    | _ => c
  | _ => fp32.qnan

/-- θ of element pair `i` of a head of dimension `d` (R175). -/
def thetaCode (beta d i : Nat) : Nat := rootCode d (2 * i) beta

/-- 1/√d in FP32 (R175). -/
def rsqrtCode (d : Nat) : Nat := rootCode 2 1 (fp32.ofInt d)

/-- The sine (`isSin`) or cosine of the exact angle t × θ (R175). -/
def trig (isSin : Bool) (t theta : Nat) : Nat :=
  let x := (Num.ofInt t 0).mul (fp32.decode theta)
  let c := fp32.encode x
  if (fp32.decode c).lt x || x.lt (fp32.decode c) then (Config.trigBits isSin t (BitVec.ofNat 32 theta)).toNat
  else fnVal (if isSin then 5 else 6) c

end Sys2Proof.Machine
end

