-- ==== Sys2Proof/Machine/Attend.lean ====
section
/-! DEFINITION. Attention: where a folio's rows lie, the forward and backward passes of a run, and the digital rung (06
R176, R177, R183 to R187, R195, R207 to R209; 07 R225). -/

namespace Sys2Proof.Machine

/-! ### Folio geometry (R177, R201, R203) -/

/-- Blocks of 32 along the head dimension. -/
def State.headBlocks (s : State) : Nat := s.geo 3 3
/-- Elements of a head. -/
def State.headDim (s : State) : Nat := 32 * s.headBlocks
/-- Key/value heads held. -/
def State.kvCount (s : State) : Nat := s.geo 2 2
/-- The folio width in bits. -/
def State.folioWidth (s : State) : Nat := s.geo 0 0 + 1
/-- Bytes of a row's elements. -/
def State.rowBytes (s : State) : Nat := s.headBlocks * 4 * s.folioWidth
/-- Bytes of a lane block. -/
def State.laneBlock (s : State) : Nat := 64 * s.rowBytes + 64 * s.headBlocks
/-- Bytes of a quarter-layer. -/
def State.quarterLayer (s : State) : Nat := s.kvCount * 2 * s.laneBlock
/-- Bytes of a staging slot (R203). -/
def State.stageBytes (s : State) : Nat := ceilDiv s.quarterLayer 4096 * 4096
/-- The frame pitch in bytes. -/
def State.pitchBytes (s : State) : Nat := s.geo 9 8 * 4096

/-- The key of byte 0 of a quarter in its frame. -/
def State.frameAt (s : State) (q frame : Nat) : Nat := keyOf 0 (vaultBase q + s.geo 23 20 * 4096 + frame * s.pitchBytes)
/-- The key of a staging slot of die `d`. -/
def State.stageAt (s : State) (d slot : Nat) : Nat := keyOf 0 (vaultBase d + s.geo 27 24 * 4096 + slot * s.stageBytes)

/-- One block of a row: its element bytes, its denomination byte (R177). -/
def State.blockOf (s : State) (ea da n : Nat) : DbBlock :=
  let d := (s.byte da).toNat
  if d = 0xFF ∨ s.bad ea (4 * n) ∨ s.bad da 1 then ⟨0xFF, List.replicate 32 0, 0⟩
  else if d = 0 then ⟨0, List.replicate 32 0, 0⟩
  else
    let (es, bad) := dbUnpack n (s.read ea (4 * n))
    ⟨d, es, bad⟩

/-- Where block `k` of row `i` of a head's keys (kind 0) or values (kind 1) lies in a quarter-layer at `base`: element key
and denomination key. -/
def State.blockKeys (s : State) (base head kind i k : Nat) : Nat × Nat :=
  let b := base + (head * 2 + kind) * s.laneBlock
  (b + i * s.rowBytes + 4 * s.folioWidth * k, b + 64 * s.rowBytes + s.headBlocks * i + k)

/-- The elements of a row of a head's keys or values; all poison where the folio is flagged so (R196). -/
def State.kvRow (s : State) (base head kind i : Nat) (poisoned : Bool) : List Val :=
  if poisoned then List.replicate s.headDim none
  else (List.range s.headBlocks).flatMap (fun k =>
    let a := s.blockKeys base head kind i k
    (s.blockOf a.1 a.2 s.folioWidth).vals)

/-! ### A run (R184, R186, R225) -/

/-- The sequence slot of a job's row. -/
def State.jobSlot (s : State) (j : Job) : Nat := s.jobRow j 1 0 % 8192

/-- The window of an order's mask: none for causality alone. -/
def State.maskWindow (s : State) (j : Job) : Option Nat :=
  let m := j.body 22 20
  if m = 0 then none else some (s.progHdr j.prog j.die (27 + 4 * m) (24 + 4 * m))

/-- Is a key at position `t` masked for a query at position `p` (R186)? -/
def maskedFor (win : Option Nat) (p t : Nat) : Bool :=
  decide (p < t) || (match win with | some w => decide (t + w ≤ p) | none => false)

/-- The query indexes of an order, and the position of each. -/
def State.jobQueries (s : State) (j : Job) : List (Nat × Nat) :=
  (List.range (j.body 30 23)).map (fun k => (j.body 42 31 + k, s.jobRow j 7 4 + j.body 42 31 + k))

/-- The positions of a chunk: die `d`'s quarter of folio `f` (R176). -/
def chunkPositions (d f : Nat) : List Nat := (List.range 64).map (fun i => 256 * f + 4 * i + d)

/-- The folios of an order's run of which some key is unmasked for some query, and how many have none. -/
def State.runChunks (s : State) (j : Job) : List Nat × Nat :=
  let r := j.body 47 43
  let win := s.maskWindow j
  let ps := (s.jobQueries j).map Prod.snd
  let seen (f : Nat) : Bool := (chunkPositions j.die f).any (fun t => ps.any (fun p => !maskedFor win p t))
  let fs := range (32 * r) (32 * r + 32)
  (fs.filter seen, (fs.filter (fun f => !seen f)).length)

/-- The Ledger entry of folio `f` of a job's row. -/
def State.jobFolio (s : State) (j : Job) (f : Nat) : Folio := s.folioOf (s.jobRow j 11 10 + f)

/-- The staging slot of die `d` that holds or awaits a layer of an entry. -/
def State.stagedFor (s : State) (d entry layer : Nat) : Option (Nat × Stage) :=
  (s.staging.find? (fun e => e.1 / 4096 == d && e.2.entry == entry && e.2.layer == layer)).map (fun e => (e.1 % 4096, e.2))

/-- May an engine not read a chunk: its entry is Free, Reserved or outside the sequence's region (R183)? -/
def State.chunkFaults (s : State) (j : Job) (f : Nat) : Bool :=
  let x := s.jobFolio j f
  x.st == 0 || x.st == 1 || x.slot != s.jobSlot j || decide ((s.seq (s.jobSlot j)).entries ≤ f)

/-- Must the pass wait for a chunk's prefetch (R195)? -/
def State.chunkWaits (s : State) (j : Job) (f : Nat) : Bool :=
  let x := s.jobFolio j f
  x.st == 5 && !s.chunkFaults j f &&
    (match s.stagedFor j.die (s.jobRow j 11 10 + f) j.layer with
     | some (_, g) => g.done.isNone
     | none => true)

/-- The key of a chunk's quarter-layer; none where the chunk is lost (R183, R195). -/
def State.chunkBase (s : State) (j : Job) (f : Nat) : Option Nat :=
  let x := s.jobFolio j f
  if x.st = 5 then
    match s.stagedFor j.die (s.jobRow j 11 10 + f) j.layer with
    | some (k, g) => if g.done = some true then some (s.stageAt j.die k) else none
    | none => none
  else if x.st = 6 then none
  else x.frame.map (fun fr => s.frameAt j.die fr + j.layer * s.quarterLayer)

/-- The keys of a run that can be read: position, quarter-layer, row in it, and the folio's poisoned flag. -/
def State.runKeys (s : State) (j : Job) (fs : List Nat) : List (Nat × Nat × Nat × Bool) :=
  fs.flatMap (fun f =>
    match s.chunkBase j f with
    | some base => (List.range 64).map (fun i => (256 * f + 4 * i + j.die, base, i, (s.jobFolio j f).poisoned))
    | none => [])

/-- Query heads that share a key/value head in the context layer (R330). -/
def State.groupSize (s : State) (j : Job) : Nat := s.layEnt j.layer 2 2

/-- The vector of query head `h` in an operand with one head after another, at token index `i`. -/
def State.headOf (s : State) (j : Job) (o : Operand) (i h : Nat) : List Val :=
  let a := till (o.readDie j.die) (32 * s.opGranule j o i)
  let n := s.headDim
  if isDb o.fmt then
    (List.range s.headBlocks).flatMap (fun k => (s.dbBlock a (o.fmt + 1) o.len (h * s.headBlocks + k)).vals)
  else (List.range n).map (fun e => s.floatAt a o.fmt (h * n + e))

/-- Invalid codes in an operand's head (R51). -/
def State.headInvalid (s : State) (j : Job) (o : Operand) (i h : Nat) : Nat :=
  if isDb o.fmt then
    let a := till (o.readDie j.die) (32 * s.opGranule j o i)
    (List.range s.headBlocks).foldl (fun n k => n + (s.dbBlock a (o.fmt + 1) o.len (h * s.headBlocks + k)).invalid) 0
  else 0

/-- Invalid codes in a head's keys and values of a chunk (R51). -/
def State.chunkInvalid (s : State) (j : Job) (head f : Nat) : Nat :=
  match s.chunkBase j f with
  | some base =>
    if (s.jobFolio j f).poisoned then 0
    else (List.range (128 * s.headBlocks)).foldl (fun n x =>
      let a := s.blockKeys base head (x % 2) (x / 2 % 64) (x / 128)
      n + (s.blockOf a.1 a.2 s.folioWidth).invalid) 0
  | none => 0

/-- Count the invalid codes that a pass reads: its chunks, and the query operands of each query and head. -/
def State.countInvalid (s : State) (j : Job) (fs : List Nat) (ops : List Operand) : State :=
  let kvh := j.body 55 48
  let g := s.groupSize j
  let n := fs.foldl (fun n f => n + s.chunkInvalid j kvh f) 0
  s.addRec j.layer recInvalid ((s.jobQueries j).foldl (fun n q => (List.range g).foldl (fun n i =>
    ops.foldl (fun n o => n + s.headInvalid j o q.1 (kvh * g + i)) n) n) n)

/-! ### The forward pass (R185 to R187) -/

/-- A dot product read out to FP32; none is poison. -/
def dotOut (xs ys : List Val) : Option Nat :=
  let (ts, bad) := dotTerms xs ys
  let h := Hoard.zero.addAll ts
  (if bad then h.spoil else h).readOut fp32

/-- The larger of two FP32 codes. -/
def fp32Max (a b : Nat) : Nat := if (fp32.decode a).lt (fp32.decode b) then b else a

/-- The largest of FP32 codes; minus infinity where there is none. -/
def fp32MaxOf (xs : List Nat) : Nat := xs.foldl fp32Max fp32NegInf

/-- Is an FP32 code finite? -/
def fp32Finite (c : Nat) : Bool := !(fp32.decode c).special

/-- A partial as it is written (R187): sums, maximum, weight sum, keys, and its flags. -/
structure AttnPart where
  o      : List Nat
  m      : Nat
  l      : Nat
  keys   : Nat
  poison : Bool
  lost   : Bool
  nan    : Bool
  empty  : Bool

/-- The 576 bytes of a partial. -/
def AttnPart.encode (p : AttnPart) (source : Nat) : List Byte :=
  (((List.range 128).map (fun i => p.o.getD i 0)).flatMap (natLe 4)) ++ natLe 4 p.m ++ natLe 4 p.l ++ natLe 4 p.keys
    ++ natLe 1 (p.poison.toNat + 2 * p.lost.toNat + 4 * p.nan.toNat + 8 * p.empty.toNat) ++ natLe 1 0 ++ natLe 2 source
    ++ natLe 48 0

/-- The weights of scores under a maximum, as BF16 codes: each NaN where a score is not finite (R185, R186). -/
def weightsOf (scores : List Nat) (m : Nat) : List Nat :=
  if scores.all fp32Finite then scores.map (fun c => bf16.encode (fp32.decode (fnVal 1 (fp32.sub c m))))
  else scores.map (fun _ => bf16.qnan)

/-- A sum of products of BF16 weights with one element of each value row, in a value lane. -/
def laneSum (ws : List Nat) (xs : List Val) : Hoard :=
  let (ts, bad) := dotTerms (ws.map (fun w => some (bf16.decode w))) xs
  let h := Hoard.zero.addAll ts
  if bad then h.spoil else h

/-- The partial of one query and head over the unmasked keys that could be read. A poisoned lane's sum holds what its other
terms give; its flag tells it apart. -/
def State.forwardPart (s : State) (kvh : Nat) (q : List Val) (keys : List (Nat × Nat × Nat × Bool)) (lost : Bool) :
    AttnPart × Nat :=
  if keys.isEmpty then (⟨[], fp32NegInf, 0, 0, false, lost, false, !lost⟩, 0)
  else
    let sc := keys.map (fun e => dotOut q (s.kvRow e.2.1 kvh 0 e.2.2.1 e.2.2.2))
    let bad := sc.any Option.isNone
    let codes := sc.map (fun c => c.getD 0)
    let m := fp32MaxOf codes
    let ws := weightsOf codes m
    let rows := keys.map (fun e => s.kvRow e.2.1 kvh 1 e.2.2.1 e.2.2.2)
    let l := Hoard.zero.addAll (ws.map bf16.decode)
    let os := (List.range s.headDim).map (fun e => laneSum ws (rows.map (fun r => r.getD e none)))
    let out (h : Hoard) : Nat := (({ h with poison := false } : Hoard).readOut fp32).getD 0
    let nan := (l :: os).any (fun h => fp32.isNan (out h))
    (⟨os.map out, m, out l, keys.length, bad || os.any Hoard.poison, lost, nan, false⟩,
      (ws.filter bf16.isNan).length)

/-- A pass reads chunks: counters and the folios' ages (R192, R205). -/
def State.countRun (s : State) (j : Job) (read masked lost : Nat) (fs : List Nat) : State :=
  let k := j.unit.inst
  let s := ((s.bump (ATN_CNT_CHUNKS j.die k) read).bump (ATN_CNT_MASKED j.die k) masked).bump (ATN_CNT_LOST j.die k) lost
  let s := s.setReg (ATN_RUN j.die k)
    (BitVec.ofNat 64 (s.jobSlot j * 2 ^ 19 + j.layer % 4096 * 2 ^ 7 + j.body 47 43))
  fs.foldl (fun s f =>
    let e := s.jobRow j 11 10 + f
    s.setFolio e { s.folioOf e with lastRead := s.stepNow }) s

/-- The forward pass of one run (R185, R225). -/
def attendFwdWork (j : Job) (s : State) : Done :=
  let (fs, masked) := s.runChunks j
  if fs.any (s.chunkFaults j) then failed s reasonWindow
  else
    let kvh := j.body 55 48
    let g := s.groupSize j
    let hq := g * s.kvCount
    let oq := s.opnd j (j.body 19 12)
    let op := s.opnd j (j.body 11 4)
    let qs := s.jobQueries j
    let place (i h : Nat) : Nat :=
      op.granule + (((s.jobRow j 21 18 + i) * hq + h) * 4 + j.die) * 32 * 18 + j.body 47 43 * 18
    if qs.any (fun q => decide (tillSize < 32 * (place q.1 (kvh * g + g)) + 576) ||
        !inTill (s.opGranule j oq q.1) oq.fmt oq.len) then failed s reasonWindow
    else
      let win := s.maskWindow j
      let keys := s.runKeys j fs
      let gone := (fs.filter (fun f => (s.chunkBase j f).isNone))
      let s := (s.countRun j (fs.length - gone.length) masked gone.length fs).countInvalid j fs [oq]
      done (qs.foldl (fun s q => (List.range g).foldl (fun s i =>
        let h := kvh * g + i
        let seen := keys.filter (fun e => !maskedFor win q.2 e.1)
        let lost := gone.any (fun f => (chunkPositions j.die f).any (fun t => !maskedFor win q.2 t))
        let (p, nans) := s.forwardPart kvh (s.headOf j oq q.1 h) seen lost
        let s := s.bump (ATN_CNT_NAN j.die j.unit.inst) nans
        s.write (till op.die (32 * place q.1 h)) (p.encode (sourceOf j.unit))) s) s)

/-! ### The backward pass (R207 to R209) -/

/-- Add partial records into an operand's elements from index `e` of token index `i` on. -/
def State.addParts (s : State) (j : Job) (o : Operand) (i e : Nat) (hs : List Hoard) : State :=
  s.onDies o (s.opGranule j o i) (fun s a =>
    (hs.zipIdx).foldl (fun s h => s.putPartial (a + 96 * (e + h.2)) true (sourceOf j.unit) h.1) s)

/-- Note the run maximum of a backward row beside the maximum saved (R208). -/
def State.noteReplay (s : State) (j : Job) (head query saved m : Nat) : State :=
  let same (r : Replay) : Bool := r.prog == j.prog && r.row == j.row && r.layer == j.layer && r.head == head && r.query == query
  match s.replays.find? same with
  | some _ => { s with replays := s.replays.map (fun r =>
      if same r then (if (fp32.decode r.best).lt (fp32.decode m) then { r with best := m, unit := j.unit } else r) else r) }
  | none => { s with replays := s.replays ++ [⟨j.prog, j.row, j.layer, head, query, saved, m, j.unit⟩] }

/-- What one query and head adds to the gradients of a key: p̃, dS as BF16 codes; none is poison. -/
def backTerm (score lse dP dsum : Option Nat) : Option (Nat × Nat) :=
  match score, lse, dP, dsum with
  | some c, some z, some x, some y =>
    let p := bf16.encode (fp32.decode (fnVal 1 (fp32.sub c z)))
    some (p, bf16.encode ((bf16.decode p).mul (fp32.decode (fp32.sub x y))))
  | _, _, _, _ => none

/-- A vector scaled by a BF16 code, one term for each lane: none is poison. -/
def scaled (w : Option Nat) (xs : List Val) : List (Option Num) :=
  xs.map (fun v => match w, v with
    | some c, some x => some ((bf16.decode c).mul x)
    | _, _ => none)

/-- A lane of terms, poison among them. -/
def termLane (ts : List (Option Num)) : Hoard :=
  let h := Hoard.zero.addAll (ts.filterMap id)
  if ts.any Option.isNone then h.spoil else h

/-- One query and head of a backward pass: dQ into its operand, dK and dV of every key into theirs (R207). Keys before the
row's first token have no place in the operand (DEDUCED, log entry 33). -/
def State.backwardRow (s : State) (j : Job) (kvh h i : Nat) (keys : List (Nat × Nat × Nat × Bool)) (lost : Bool) : State :=
  let first := j.body 11 4
  let n := s.headDim
  let q := s.headOf j (s.opnd j (j.body 19 12)) i h
  let dO := s.headOf j (s.opnd j first) i h
  let fl (k e : Nat) : Option Nat :=
    let o := s.opnd j (first + k)
    (s.floatAt (till (o.readDie j.die) (32 * s.opGranule j o i)) o.fmt e).map fp32.encode
  let dsum := fl 1 h
  let saved := fl 2 (2 * h)
  let lse := fl 2 (2 * h + 1)
  let rows := keys.map (fun e =>
    let k := s.kvRow e.2.1 kvh 0 e.2.2.1 e.2.2.2
    let v := s.kvRow e.2.1 kvh 1 e.2.2.1 e.2.2.2
    let c := dotOut q k
    (e.1, k, c, if lost then none else backTerm c lse (dotOut dO v) dsum))
  let m := fp32MaxOf (rows.map (fun r => r.2.2.1.getD fp32NegInf))
  let s := s.noteReplay j h i (saved.getD fp32.qnan) m
  let oq := s.opnd j (first + 3)
  let okv := s.opnd j (first + 4)
  let dq := (List.range n).map (fun e =>
    termLane (rows.map (fun r => ((scaled (r.2.2.2.map Prod.snd) [r.2.1.getD e none]).headD none))))
  let s := s.addParts j oq i (h * n) (if lost then dq.map Hoard.spoil else dq)
  rows.foldl (fun s r =>
    if r.1 < s.jobRow j 7 4 then s
    else
      let t := r.1 - s.jobRow j 7 4
      let dk := (scaled (r.2.2.2.map Prod.snd) q).map (fun x => termLane [x])
      let dv := (scaled (r.2.2.2.map Prod.fst) dO).map (fun x => termLane [x])
      (s.addParts j okv t (kvh * 2 * n) dk).addParts j okv t ((kvh * 2 + 1) * n) dv) s

/-- The backward pass of one run (R207). A lost or poisoned chunk fails the row's tuning step (R209). -/
def attendBwdWork (j : Job) (s : State) : Done :=
  let (fs, masked) := s.runChunks j
  if fs.any (s.chunkFaults j) then failed s reasonWindow
  else
    let kvh := j.body 55 48
    let g := s.groupSize j
    let first := j.body 11 4
    let qs := s.jobQueries j
    let fits (k i : Nat) : Bool := let o := s.opnd j k; inTill (s.opGranule j o i) o.fmt o.len
    let last := (s.jobRow j 9 8) - 1
    if qs.any (fun q => !(fits (j.body 19 12) q.1 && fits first q.1 && fits (first + 1) q.1 && fits (first + 2) q.1 &&
        fits (first + 3) q.1)) || !fits (first + 4) last then failed s reasonWindow
    else
      let win := s.maskWindow j
      let keys := s.runKeys j fs
      let gone := fs.filter (fun f => (s.chunkBase j f).isNone)
      let s := (s.countRun j (fs.length - gone.length) masked gone.length fs).countInvalid j fs
        [s.opnd j (j.body 19 12), s.opnd j first]
      let poisoned := keys.any (fun e => (s.kvRow e.2.1 kvh 0 e.2.2.1 e.2.2.2).any Option.isNone ||
        (s.kvRow e.2.1 kvh 1 e.2.2.1 e.2.2.2).any Option.isNone)
      let lost := !gone.isEmpty || poisoned
      let s := if lost then s.markRows j.prog j.row (fun w => { w with replayBad := true }) else s
      done (qs.foldl (fun s q => (List.range g).foldl (fun s i =>
        let seen := keys.filter (fun e => !maskedFor win q.2 e.1 && decide (e.1 < s.jobRow j 7 4 + s.jobRow j 9 8))
        s.backwardRow j kvh (kvh * g + i) q.1 seen lost) s) s)

/-! ### The digital rung (R225, R144, R147, R152) -/

/-- Clear the lanes of an engine. -/
def State.clearLanes (s : State) (die inst : Nat) : State :=
  { s with lanes := keepKeys s.lanes (fun a => !(decide (laneKey die inst 0 ≤ a) && decide (a < laneKey die inst 1024))) }

/-- Add terms to the lanes of an engine; a poisoned list poisons its lane. -/
def State.addLanes (s : State) (die inst : Nat) (v : List (List Num × Bool)) : State :=
  { s with lanes := (v.zipIdx).foldl (fun m e =>
      upd Hoard.zero m (laneKey die inst e.2) (fun h => let h := h.addAll e.1.1; if e.1.2 then h.spoil else h)) s.lanes }

/-- What a DENSE order computes from a withheld tile's master weights: the terms of each lane with whether they are
poison, whether a master granule it used is poison, and the invalid codes of its input. -/
def State.denseLanes (s : State) (j : Job) (t : Nat) (o : Operand) (g : Nat) : List (List Num × Bool) × Bool × Nat :=
  let d := s.dirOf t
  let k : Bank := nbit (s.jobRow j 16 16) 0
  let xs := s.surplusOf t k
  let die := o.readDie j.die
  let bs := s.sliceBlocks die g o (32 * d.rowBlk.toNat) (ceilDiv d.rows 32)
  let es := bs.flatMap DbBlock.vals
  let (side, sideBad) := s.sideValues t (till die (32 * g))
  let x := { newSlice .order j.decode k 0 with withheld := side }
  let bad := es.any Option.isNone || sideBad || s.auxPoison t
  let live := (List.range d.rows).filter (fun r => match es.getD r none with
    | some v => v != Num.zero && v.toUnits v.expo != 0
    | none => false)
  let lane (c : Nat) : List Num × Bool :=
    match s.factor t c with
    | none => ([], true)
    | some f =>
      let own := live.map (fun r => ((es.getD r none).getD Num.zero).mul (Num.ofInt (s.masterWeight t k xs r c) 0))
      ((own ++ s.withheldTerms t x c).map (fun y => y.mul f),
        bad || live.any (fun r => s.masterBad t k r (if d.w8 then c else c / 2) 1))
  ((List.range d.outputs).map lane,
    (List.range d.outputs).any (fun c => live.any (fun r => s.masterBad t k r (if d.w8 then c else c / 2) 1)),
    bs.foldl (fun n b => n + b.invalid) 0)

/-- DENSE: a tile's whole slice on the engine's value lanes. -/
def attendDenseWork (j : Job) (s : State) : Done :=
  let t := j.body 55 41
  let o := s.opnd j (j.body 40 33)
  let g := s.opGranule j o (j.body 32 21)
  if !inTill g o.fmt o.len then failed s reasonWindow
  else
    let v := s.denseLanes j t o g
    let s := s.sliceRecords t (s.auxPoison t) v.2.1 (s.dirOf t).outputs
    let s := s.addRec j.layer recInvalid v.2.2
    done ((if j.acc then s else s.clearLanes j.die j.unit.inst).addLanes j.die j.unit.inst v.1)

/-- DOUT: the lanes as partial records. -/
def attendDoutWork (j : Job) (s : State) : Done :=
  let o := s.opnd j (j.body 55 48)
  let g := s.opGranule j o (j.body 47 36)
  let len := Nat.min o.len 1024
  let why := destFault j o g len
  if why ≠ 0 then failed s why
  else done (s.writeHoards j o g ((List.range len).map (fun c => look Hoard.zero s.lanes (laneKey j.die j.unit.inst c))))

/-! ### Issue -/

/-- Has every Spilled chunk of the run that a queue's head covers been staged (R195)? -/
def State.runStaged (s : State) (u : EngUnit) (decode : Bool) : Bool :=
  match (s.queueOf u decode).entries with
  | [] => true
  | e :: _ =>
    let j := jobOf u decode e ((e.repeated (s.queueOf u decode).reps).getD e.order) false
    (s.runChunks j).1.all (fun f => !s.chunkWaits j f)

/-- A pass issues, or waits for its staging. -/
def State.issueRun (s : State) (u : EngUnit) (decode : Bool) (op : Nat) (work : Job → State → Done) : State :=
  if s.runStaged u decode then s.issue u decode 3 op work else s

/-! ### Meanings -/

/-- ATTEND_FWD (R185). -/
def execAttendFwd (u : EngUnit) (decode : Bool) (s : State) : Host.Outcome State Fault Refusal :=
  .next (s.issueRun u decode 0 attendFwdWork)
/-- ATTEND_BWD (R207). -/
def execAttendBwd (u : EngUnit) (decode : Bool) (s : State) : Host.Outcome State Fault Refusal :=
  .next (s.issueRun u decode 1 attendBwdWork)
/-- ATTEND_DENSE (R225). -/
def execAttendDense (u : EngUnit) (decode : Bool) (s : State) : Host.Outcome State Fault Refusal :=
  .next (s.issue u decode 3 2 attendDenseWork)
/-- ATTEND_DOUT (R225). -/
def execAttendDout (u : EngUnit) (decode : Bool) (s : State) : Host.Outcome State Fault Refusal :=
  .next (s.issue u decode 3 3 attendDoutWork)

end Sys2Proof.Machine
end

