-- ==== Sys2Proof/Machine/VectorOps.lean ====
section
/-! DEFINITION. VEC orders (07 R226): quantisation with withheld channels, elementwise operations, reductions and
combines, normalisation, rotary encoding, the combine of attention partials, the norm watch and the row sums of the
backward pass (03 R55 to R62, R76 to R86; 05 R146; 06 R175, R188, R206, R207). -/

namespace Sys2Proof.Machine

/-! ### Operands of a VEC order -/

/-- The operands and the rest of a VEC order's body (R226). -/
def Job.vecA (j : Job) : Nat := j.body 55 48
def Job.vecB (j : Job) : Nat := j.body 47 40
def Job.vecC (j : Job) : Nat := j.body 39 32
def Job.vecTok (j : Job) : Nat := j.body 31 20
def Job.vecImm (j : Job) (hi lo : Nat) : Nat := j.body hi lo

/-- An operand index that names none (R226). -/
def noOperand : Nat := 0xFF

/-- An input of a VEC order: its operand and where it starts for the order's token. -/
structure VecIn where
  op      : Operand
  granule : Nat
  /-- 0, or the reason why it cannot be read. -/
  why     : Nat

/-- An input by its operand index. -/
def State.vecIn (s : State) (j : Job) (k : Nat) : VecIn :=
  let o := s.opnd j k
  let g := s.opGranule j o j.vecTok
  ⟨o, g, if k = noOperand then reasonOperand else if !inTill g o.fmt o.len then reasonWindow else 0⟩

/-- The key at which an input starts. -/
def VecIn.at_ (v : VecIn) (d : Nat) : Nat := till (v.op.readDie d) (32 * v.granule)

/-- An input's values, with its invalid codes counted (R51). -/
def State.takeVals (s : State) (j : Job) (v : VecIn) : State × List Val :=
  let (xs, bad) := s.vals (v.at_ j.die) v.op.fmt v.op.len
  (s.addRec j.layer recInvalid bad, xs)

/-- The first reason that is not 0. -/
def firstReason (l : List Nat) : Nat := (l.find? (· != 0)).getD 0

/-- NaNs among values once they are in a format (R54). -/
def nansIn (fmt : Nat) (vs : List Val) : Nat :=
  if isDb fmt then 0
  else (vs.filter (fun v => match v with
    | some x => (fmtOf fmt).isNan ((fmtOf fmt).encode x)
    | none => false)).length

/-- Write a VEC order's result to its operand `c`, as the operand stood in `before`, with the NaNs it produced (R205). -/
def State.vecOut (s before : State) (j : Job) (vs : List Val) : Done :=
  let o := before.opnd j j.vecC
  let g := before.opGranule j o j.vecTok
  let why := if j.vecC = noOperand then reasonOperand else destFault j o g vs.length
  if why ≠ 0 then failed s why
  else done ((s.writeVals j o g vs).bump (VEC_CNT_NAN j.die j.unit.inst) (nansIn o.fmt vs))

/-- A value made of values: poison where one is. -/
def lift1 (f : Num → Num) (v : Val) : Val := v.map f
/-- See `lift1`. -/
def lift2 (f : Num → Num → Num) (v w : Val) : Val :=
  match v, w with
  | some x, some y => some (f x y)
  | _, _ => none

/-- An FP32 operation on FP32 codes as one on values. -/
def fp32Op (f : Nat → Nat → Nat) (x y : Num) : Num := fp32.decode (f (fp32.encode x) (fp32.encode y))

/-! ### QUANT (R58 to R62, R146, R226) -/

/-- The draws of stochastic rounding for a tensor's elements (R58): position `p` is that of the token's first element. -/
def State.roundDraws (s : State) (l p i : Nat) : Nat :=
  Config.roundDraw (s.chr secFormats 15 8) s.stepNow l (p + i) % 65536

/-- Does a QUANT write gradients: in a tuning program, with no side vector (DEDUCED, log entry 34)? -/
def State.isGradient (s : State) (j : Job) : Bool := s.progKind j.prog j.die == 2 && j.vecB == noOperand

/-- QUANT. -/
def quantWork (j : Job) (s : State) : Done :=
  let a := s.vecIn j j.vecA
  let o := s.opnd j j.vecC
  let g := s.opGranule j o j.vecTok
  let held := if s.isGradient j then [] else (s.withheldList j.layer (j.vecImm 1 0)).filter (· < a.op.len)
  let b := s.vecIn j j.vecB
  let sideLen := held.length
  let why := firstReason [a.why, if held.isEmpty then 0 else if j.vecB = noOperand ∨ b.op.fmt ≠ 8 then reasonOperand
      else if !inTill b.granule 8 sideLen then reasonWindow else 0,
    if j.vecC = noOperand then reasonOperand else destFault j o g a.op.len]
  if why ≠ 0 then failed s why
  else
    let pos := (s.jobRow j 21 18 + j.vecTok) * a.op.len
    let us := if s.isGradient j && s.layerPol j.layer 4 4 == 1 then some (s.roundDraws j.layer pos) else none
    let static := if s.layerPol j.layer 1 1 = 1 then some (s.layerPol j.layer 2 2) else none
    let (s, xs) := s.takeVals j a
    let side := held.map (fun c => xs.getD c none)
    let xs := (xs.zipIdx).map (fun e => if held.contains e.2 then some Num.zero else e.1)
    let (s, qs) := s.quantAll j (o.fmt + 1) static us xs
    let s := s.onDies o g (fun s k => s.putBlocks k (o.fmt + 1) a.op.len qs)
    let s := if held.isEmpty then s else s.onDies b.op b.granule (fun s k => s.putFloats k 8 false side)
    let s := o.writeDies.foldl (fun s d =>
      let v := if held.isEmpty then 0 else till (b.op.readDie d) (32 * b.granule) + 1
      { s with sides := put 0 s.sides (till d (32 * g)) v }) s
    done (s.bump (VEC_CNT_QUANT j.die j.unit.inst) qs.length)

/-! ### Elementwise (R226) -/

/-- CONVERT. -/
def convertWork (j : Job) (s : State) : Done :=
  let a := s.vecIn j j.vecA
  if a.why ≠ 0 then failed s a.why
  else
    let (s', xs) := s.takeVals j a
    let r := s'.vecOut s j xs
    if r.reason ≠ 0 then failed s r.reason else r

/-- An operation on two operands, element by element; the result is rounded once into `c`'s format (R57). -/
def twoWork (f : Num → Num → Num) (j : Job) (s : State) : Done :=
  let a := s.vecIn j j.vecA
  let b := s.vecIn j j.vecB
  let why := firstReason [a.why, b.why]
  if why ≠ 0 then failed s why
  else
    let (s', xs) := s.takeVals j a
    let (s', ys) := s'.takeVals j b
    let r := s'.vecOut s j ((xs.zip ys).map (fun e => lift2 f e.1 e.2))
    if r.reason ≠ 0 then failed s r.reason else r

/-- FUNC: the function of each element's FP32 value. -/
def funcWork (j : Job) (s : State) : Done :=
  let a := s.vecIn j j.vecA
  if a.why ≠ 0 then failed s a.why
  else
    let (s', xs) := s.takeVals j a
    let r := s'.vecOut s j (xs.map (lift1 (fun x => fp32.decode (fnVal (j.vecImm 3 0) (fp32.encode x)))))
    if r.reason ≠ 0 then failed s r.reason else r

/-! ### Reductions (R80 to R82) -/

/-- A square as SUMSQ takes it: of an FP32 input, rounded to FP32 first (R80). -/
def squareOf (fmt : Nat) (x : Num) : Num := if fmt = 9 then fp32Op fp32.mul x x else x.mul x

/-- A Hoard of values, poison among them. -/
def hoardOf (vs : List Val) : Hoard :=
  let h := Hoard.zero.addAll (vs.filterMap id)
  if vs.any Option.isNone then h.spoil else h

/-- REDUCE. -/
def reduceWork (j : Job) (s : State) : Done :=
  let a := s.vecIn j j.vecA
  let o := s.opnd j j.vecC
  let g := s.opGranule j o j.vecTok
  let kind := j.vecImm 1 0
  let why := firstReason [a.why, if j.vecC = noOperand then reasonOperand
    else destFault j o g (if kind = 2 then 2 else 1)]
  if why ≠ 0 then failed s why
  else
    let (s', xs) := s.takeVals j a
    if kind = 2 then
      let (m, v) := meanVar (xs.map (fun x => fp32.encode (x.getD Num.zero)))
      s'.vecOut s j (if xs.any Option.isNone then [none, none] else [some (fp32.decode m), some (fp32.decode v)])
    else
      let h := hoardOf (if kind = 1 then xs.map (lift1 (squareOf a.op.fmt)) else xs)
      done (s'.writeHoards j o g [h])

/-- COMBINE: `k` partial records, added exactly and read out once (R82). -/
def combineWork (j : Job) (s : State) : Done :=
  let a := s.vecIn j j.vecA
  let k := j.vecImm 11 0
  let o := s.opnd j j.vecC
  let g := s.opGranule j o j.vecTok
  let why := firstReason [if j.vecA = noOperand then reasonOperand else 0,
    if !inTill a.granule 0xC k then reasonWindow else 0,
    if j.vecC = noOperand then reasonOperand else destFault j o g 1]
  if why ≠ 0 then failed s why
  else
    let (s', hs, bad) := s.takePartials j (a.at_ j.die) k
    let s' := (s'.bump (VEC_CNT_PARTIAL j.die j.unit.inst) k).bump (VEC_CNT_PARTBAD j.die j.unit.inst) bad
    s'.vecOut s j [(hs.foldl Hoard.join Hoard.zero).value]

/-- NORM: a × b × rsqrt(S / len + 2^-e), each operation in FP32 (DESIGN CHOICE, log entry 35). -/
def normWork (j : Job) (s : State) : Done :=
  let a := s.vecIn j j.vecA
  let b := s.vecIn j j.vecB
  let z := s.vecIn j (j.vecImm 19 12)
  let why := firstReason [a.why, b.why, z.why]
  if why ≠ 0 then failed s why
  else
    let (s', xs) := s.takeVals j a
    let (s', ys) := s'.takeVals j b
    let eps := fp32.encode (.fin false 1 (-(j.vecImm 6 0 : Int)))
    let r : Val := (s'.floatAt (z.at_ j.die) z.op.fmt 0).map (fun v =>
      fp32.decode (fnVal 4 (fp32.add (fp32.div (fp32.encode v) (fp32.ofInt a.op.len)) eps)))
    let r := s'.vecOut s j ((xs.zip ys).map (fun e =>
      lift2 (fp32Op fp32.mul) (lift2 (fp32Op fp32.mul) e.1 e.2) r))
    if r.reason ≠ 0 then failed s r.reason else r

/-! ### ROPE (R175) -/

/-- The rotation of a pair at position `t`, each operation rounded once in FP32 (DESIGN CHOICE, log entry 35). -/
def rotate (t theta : Nat) (x y : Num) : Num × Num :=
  let sn := fp32.decode (trig true t theta)
  let cs := fp32.decode (trig false t theta)
  let m := fp32Op fp32.mul
  (fp32Op fp32.sub (m x cs) (m y sn), fp32Op fp32.add (m x sn) (m y cs))

/-- Values of heads of dimension `d`, rotated at position `t`; β of 0 rotates nothing (R330). -/
def rotated (d beta t : Nat) (xs : List Val) : List Val :=
  if beta = 0 then xs
  else
    let thetas := (List.range (d / 2)).map (thetaCode beta d)
    ((piecesOf 2 (xs.length + 1) xs).zipIdx).flatMap (fun e =>
      match e.1 with
      | [v, w] =>
        let th := thetas.getD (e.2 % (d / 2)) 0
        match v, w with
        | some x, some y => let r := rotate t th x y; [some r.1, some r.2]
        | _, _ => [none, none]
      | l => l)

/-- ROPE: rotation at the token's position; queries are scaled by 1/√d, with one rounding. -/
def ropeWork (j : Job) (s : State) : Done :=
  let a := s.vecIn j j.vecA
  if a.why ≠ 0 then failed s a.why
  else
    let (s', xs) := s.takeVals j a
    let d := s.headDim
    let t := s.jobRow j 7 4 + j.vecTok
    let ys := rotated d (s.layEnt j.layer 7 4) t xs
    let ys := if j.vecImm 0 0 = 0 then
        ys.map (lift1 (fun x => fp32Op fp32.mul x (fp32.decode (rsqrtCode d)))) else ys
    let r := s'.vecOut s j ys
    if r.reason ≠ 0 then failed s r.reason else r

/-! ### ACOMB (R188, R206) -/

/-- An attention partial read back; its granules' poison counts as its flag. -/
def State.readPart (s : State) (a : Nat) : AttnPart :=
  let f := s.readNat (a + 524) 1
  { o := (List.range 128).map (fun i => s.readNat (a + 4 * i) 4), m := s.readNat (a + 512) 4, l := s.readNat (a + 516) 4,
    keys := s.readNat (a + 520) 4, poison := nbit f 0 || s.bad a 576, lost := nbit f 1, nan := nbit f 2, empty := nbit f 3 }

/-- The combine of R188: out, m and lse; out holds `d` elements. -/
def combineParts (d : Nat) (ps : List AttnPart) : List Nat × Nat × Nat :=
  let m := fp32MaxOf (ps.map (fun p => p.m))
  if ps.any (fun p => p.nan) then (List.replicate d fp32.qnan, m, fp32.qnan)
  else if m = fp32NegInf then (List.replicate d 0, m, fp32NegInf)
  else
    let (l, o) := ps.foldl (fun (l, o) p =>
      let a := if p.empty then 0 else fnVal 1 (fp32.sub p.m m)
      (fp32.add l (fp32.mul a p.l), (o.zipIdx).map (fun e => fp32.add e.1 (fp32.mul a (p.o.getD e.2 0)))))
      (0, List.replicate d 0)
    let r := fnVal 3 l
    (o.map (fun x => fp32.mul x r), m, fp32.add m (fnVal 2 l))

/-- ACOMB: the partials of every query head of a key/value head, in ascending run and then die (R184, R188, R225). -/
def acombWork (j : Job) (s : State) : Done :=
  let a := s.opnd j j.vecA
  let o := s.opnd j j.vecC
  let b := s.opnd j j.vecB
  let k := j.vecImm 7 0
  let kvh := j.vecImm 15 8
  let gs := s.groupSize j
  let hq := gs * s.kvCount
  let d := s.headDim
  let q := s.jobRow j 21 18 + j.vecTok
  let g := s.opGranule j o j.vecTok
  let bg := s.opGranule j b j.vecTok
  let stats := s.progKind j.prog j.die == 2 && j.vecB != noOperand
  let place (h : Nat) : Nat := a.granule + (q * hq + h) * 4 * 32 * 18
  let lastHead := kvh * gs + gs
  let why := firstReason [if j.vecA = noOperand ∨ j.vecC = noOperand ∨ (stats = true ∧ b.fmt ≠ 9) then reasonOperand else 0,
    if tillSize < 32 * place lastHead then reasonWindow else 0, destFault j o g (lastHead * d),
    if stats && !inTill bg 9 (2 * lastHead) then reasonWindow else 0]
  if why ≠ 0 then failed s why
  else
    let heads := (List.range gs).map (fun i =>
      let h := kvh * gs + i
      (h, (List.range k).map (fun n =>
        s.readPart (till (a.readDie j.die) (32 * (place h + ((n % 4) * 32 + n / 4) * 18))))))
    let outs := heads.map (fun e => (e.1, e.2.any (fun p => p.poison), combineParts d e.2))
    let lost := heads.any (fun e => e.2.any (fun p => p.lost))
    let s := s.bump (VEC_CNT_COMBINE j.die j.unit.inst) (k * gs)
    let s := if lost then s.markRows j.prog j.row (fun w => { w with lostChunk := true }) else s
    let s := outs.foldl (fun s e =>
      let vs : List Val := if e.2.1 then List.replicate d none else e.2.2.1.map (fun c => some (fp32.decode c))
      let s := s.bump (VEC_CNT_NAN j.die j.unit.inst) (nansIn o.fmt vs)
      if isDb o.fmt then
        let (s, qs) := s.quantAll j (o.fmt + 1) none none vs
        s.onDies o g (fun s x => (qs.zipIdx).foldl (fun s y =>
          s.putBlock x (o.fmt + 1) o.len (e.1 * s.headBlocks + y.2) y.1) s)
      else s.onDies o g (fun s x => (vs.zipIdx).foldl (fun s y => s.putFloat x o.fmt j.acc (e.1 * d + y.2) y.1) s)) s
    let s := if stats then outs.foldl (fun s e =>
        s.onDies b bg (fun s x =>
          let v (c : Nat) : Val := if e.2.1 then none else some (fp32.decode c)
          (s.putFloat x 9 false (2 * e.1) (v e.2.2.2.1)).putFloat x 9 false (2 * e.1 + 1) (v e.2.2.2.2))) s
      else s
    done s

/-! ### WATCH and DGRAD (R86, R87, R207) -/

/-- WATCH adds an operand's squares and their number to the context layer's sums. -/
def watchWork (j : Job) (s : State) : Done :=
  let a := s.vecIn j j.vecA
  if a.why ≠ 0 then failed s a.why
  else
    let (s, xs) := s.takeVals j a
    let h := hoardOf (xs.map (lift1 (squareOf a.op.fmt)))
    done { s with watch := upd Hoard.zero s.watch (2 * j.layer + j.vecImm 0 0) (fun w => w.join h) }

/-- A product as a Hoard takes it: with an FP32 operand, rounded to FP32 first (R75). -/
def hoardProd (fa fb : Nat) (x y : Num) : Num := if fa = 9 ∨ fb = 9 then fp32Op fp32.mul x y else x.mul y

/-- DGRAD: the sum of a ⊙ b for each head. -/
def dgradWork (j : Job) (s : State) : Done :=
  let a := s.vecIn j j.vecA
  let b := s.vecIn j j.vecB
  let why := firstReason [a.why, b.why]
  if why ≠ 0 then failed s why
  else
    let (s', xs) := s.takeVals j a
    let (s', ys) := s'.takeVals j b
    let ps := (xs.zip ys).map (fun e => lift2 (hoardProd a.op.fmt b.op.fmt) e.1 e.2)
    let hs := (piecesOf s.headDim (ps.length + 1) ps).map (fun l => (hoardOf l).value)
    let r := s'.vecOut s j hs
    if r.reason ≠ 0 then failed s r.reason else r

/-! ### Meanings -/

/-- VEC_QUANT (R59). -/
def execVecQuant (u : EngUnit) (decode : Bool) (s : State) : Host.Outcome State Fault Refusal :=
  .next (s.issue u decode 4 0x0 quantWork)
/-- VEC_CONVERT (R55). -/
def execVecConvert (u : EngUnit) (decode : Bool) (s : State) : Host.Outcome State Fault Refusal :=
  .next (s.issue u decode 4 0x1 convertWork)
/-- VEC_ADD (R226). -/
def execVecAdd (u : EngUnit) (decode : Bool) (s : State) : Host.Outcome State Fault Refusal :=
  .next (s.issue u decode 4 0x2 (twoWork Num.add))
/-- VEC_MUL (R226). -/
def execVecMul (u : EngUnit) (decode : Bool) (s : State) : Host.Outcome State Fault Refusal :=
  .next (s.issue u decode 4 0x3 (twoWork Num.mul))
/-- VEC_FUNC (R226, R494). -/
def execVecFunc (u : EngUnit) (decode : Bool) (s : State) : Host.Outcome State Fault Refusal :=
  .next (s.issue u decode 4 0x4 funcWork)
/-- VEC_REDUCE (R80). -/
def execVecReduce (u : EngUnit) (decode : Bool) (s : State) : Host.Outcome State Fault Refusal :=
  .next (s.issue u decode 4 0x5 reduceWork)
/-- VEC_COMBINE (R82). -/
def execVecCombine (u : EngUnit) (decode : Bool) (s : State) : Host.Outcome State Fault Refusal :=
  .next (s.issue u decode 4 0x6 combineWork)
/-- VEC_NORM (R226). -/
def execVecNorm (u : EngUnit) (decode : Bool) (s : State) : Host.Outcome State Fault Refusal :=
  .next (s.issue u decode 4 0x7 normWork)
/-- VEC_ROPE (R175). -/
def execVecRope (u : EngUnit) (decode : Bool) (s : State) : Host.Outcome State Fault Refusal :=
  .next (s.issue u decode 4 0x8 ropeWork)
/-- VEC_ACOMB (R188). -/
def execVecAcomb (u : EngUnit) (decode : Bool) (s : State) : Host.Outcome State Fault Refusal :=
  .next (s.issue u decode 4 0x9 acombWork)
/-- VEC_WATCH (R86). -/
def execVecWatch (u : EngUnit) (decode : Bool) (s : State) : Host.Outcome State Fault Refusal :=
  .next (s.issue u decode 4 0xA watchWork)
/-- VEC_DGRAD (R207). -/
def execVecDgrad (u : EngUnit) (decode : Bool) (s : State) : Host.Outcome State Fault Refusal :=
  .next (s.issue u decode 4 0xB dgradWork)

end Sys2Proof.Machine
end

