-- ==== Sys2Proof/Machine/FolioOps.lean ====
section
/-! DEFINITION. Folios under an order and between posting points: APPEND and STAGE (07 R227), prefetch into staging slots
(06 R195) and spill copies (R193, R196). What a posting point does with the Ledger stands in Ledger.lean. -/

namespace Sys2Proof.Machine

/-! ### APPEND (R227, R177) -/

/-- Can a token's row be appended: its entry lies in the row's region and is Open, Reserved or Recomputing? -/
def State.appendable (s : State) (j : Job) (i : Nat) : Bool :=
  let f := (s.jobRow j 7 4 + i) / 256
  let x := s.jobFolio j f
  decide (f < (s.seq (s.jobSlot j)).entries) && x.slot == s.jobSlot j && (x.st == 1 || x.st == 2 || x.st == 7)

/-- One write of an APPEND: a key, its bytes, their poison. -/
structure RowWrite where
  key : Nat
  bs  : List Byte
  bad : Bool
  deriving DecidableEq, Repr

/-- The writes of one head's row of one token: its element bytes and denominations as the operand holds them, poison with
them. A Reserved entry that no frame was assigned to has no place to write (R182). -/
def State.rowWrites (s : State) (j : Job) (o : Operand) (kind i h : Nat) : List RowWrite :=
  let t := s.jobRow j 7 4 + i
  match (s.jobFolio j (t / 256)).frame with
  | none => []
  | some fr =>
    let n := s.folioWidth
    let src := till (o.readDie j.die) (32 * s.opGranule j o i)
    let ea := src + 4 * n * s.headBlocks * h
    let da := src + roundUp32 (4 * n * ceilDiv o.len 32) + s.headBlocks * h
    let to_ := s.blockKeys (s.frameAt (t % 4) fr + j.layer * s.quarterLayer) h kind (t % 256 / 4) 0
    [⟨to_.1, s.read ea s.rowBytes, s.bad ea s.rowBytes⟩, ⟨to_.2, s.read da s.headBlocks, s.bad da s.headBlocks⟩]

/-- Does an operand's token `i` hold poison? -/
def State.tokenBad (s : State) (j : Job) (o : Operand) (i : Nat) : Bool :=
  let a := till (o.readDie j.die) (32 * s.opGranule j o i)
  s.bad a (wholeArea o.fmt o.len) || (s.dbBlocks a (o.fmt + 1) o.len).any (fun b => b.denom == 0xFF)

/-- APPEND: the keys and values of `cnt` tokens. Vault refuses an addition (R77). -/
def appendWork (j : Job) (s : State) : Done :=
  let ka := s.opnd j (j.body 55 48)
  let va := s.opnd j (j.body 47 40)
  let toks := (List.range (j.body 27 20)).map (j.body 39 28 + ·)
  let fits (o : Operand) : Bool := toks.all (fun i => inTill (s.opGranule j o i) o.fmt o.len)
  if j.acc then failed s reasonAcc
  else if ka.fmt + 1 ≠ s.folioWidth ∨ va.fmt + 1 ≠ s.folioWidth then failed s reasonOperand
  else if !toks.all (s.appendable j) || !fits ka || !fits va || decide (s.geo 5 4 ≤ j.layer) then failed s reasonWindow
  else
    let ws := toks.flatMap (fun i => (List.range s.kvCount).flatMap (fun h =>
      s.rowWrites j ka 0 i h ++ s.rowWrites j va 1 i h))
    let s := if toks.any (fun i => s.tokenBad j ka i || s.tokenBad j va i) then s.poisonRows j else s
    done (ws.foldl (fun s w => s.writeP w.key w.bs w.bad) s)

/-! ### STAGE and prefetch (R195) -/

/-- The folios of a STAGE order that it hands on: Spilled, and neither staged nor on their way for the layer. -/
def State.toStage (s : State) (j : Job) : List Nat :=
  (range (32 * j.body 55 51) (32 * j.body 55 51 + 32)).filter (fun f =>
    decide (f < (s.seq (s.jobSlot j)).entries) && (s.jobFolio j f).slot == s.jobSlot j && (s.jobFolio j f).st == 5 &&
      (s.stagedFor j.die (s.jobRow j 11 10 + f) j.layer).isNone)

/-- No staging slot: its entry number is past the Ledger's. -/
def Stage.none : Stage := ⟨32768, 0, .none⟩

/-- A prefetch ends with nothing staged; its chunk is lost, and its folio is to be dropped at the posting point (R195). -/
def State.prefetchFailed (s : State) (d n : Nat) (g : Stage) : State :=
  let s := s.setFolio g.entry { s.folioOf g.entry with failed := true }
  ({ s with staging := put Stage.none s.staging (d * 4096 + n) { g with done := some false } } : State).bump
    (FOL_CNT_FETCHERR d) 1

/-- The lowest staging slot of a die that is free. -/
def State.freeStage (s : State) (d : Nat) : Option Nat :=
  (List.range (s.geo 15 14)).find? (fun n => !s.staging.any (fun e => e.1 == d * 4096 + n))

/-- Ask for a quarter-layer from its Reserve slot. A window without a registered host window, or out of reach, fails the
copy (R202). What goes to another node for it is left out (DESIGN CHOICE, log entry 45). -/
def State.startPrefetch (s : State) (d n entry layer : Nat) : State :=
  let g : Stage := ⟨entry, layer, none⟩
  let s := { s with staging := put Stage.none s.staging (d * 4096 + n) g }
  let a := (s.folioOf entry).reserve + BitVec.ofNat 64 (d * s.pitchBytes + layer * s.quarterLayer)
  if s.ownNode a then
    match s.hostWin a s.quarterLayer false with
    | some (p, fn, h) => if s.portUp p then s.send (.hostRead p fn h s.quarterLayer) else s.prefetchFailed d n g
    | none => s.prefetchFailed d n g
  else if (s.routeOf (adNode a)).isSome then s else s.prefetchFailed d n g

/-- Stage one folio of a row, if a slot is free; the slots of earlier layers of the same entry are free by now, since their
readers have completed (DESIGN CHOICE, log entry 45). -/
def State.stageOne (s : State) (j : Job) (f : Nat) : State :=
  let e := s.jobRow j 11 10 + f
  let s := { s with staging := s.staging.filter (fun x =>
    !(x.1 / 4096 == j.die && x.2.entry == e && decide (x.2.layer < j.layer) && x.2.done.isSome)) }
  match s.freeStage j.die with
  | some n => s.startPrefetch j.die n e j.layer
  | none => s

/-- STAGE. -/
def stageWork (j : Job) (s : State) : Done := done ((s.toStage j).foldl (fun s f => s.stageOne j f) s)

/-- Slots that the head of a queue would still need: a STAGE waits until its die has them (DESIGN CHOICE, log entry 45). -/
def State.stageRoom (s : State) (u : EngUnit) (decode : Bool) : Bool :=
  match (s.queueOf u decode).entries with
  | [] => true
  | e :: _ =>
    let j := jobOf u decode e ((e.repeated (s.queueOf u decode).reps).getD e.order) false
    let es := (s.toStage j).map (fun f => s.jobRow j 11 10 + f)
    let held := s.staging.filter (fun x => x.1 / 4096 == j.die &&
      !(es.contains x.2.entry && decide (x.2.layer < j.layer) && x.2.done.isSome))
    decide (held.length + es.length ≤ s.geo 15 14)

/-- A prefetch completes: its data stands in the staging slot, or the chunk is lost. -/
def State.prefetchEnd (s : State) (d n : Nat) (ok : Bool) (data : List (Byte × Bool)) : State :=
  match s.staging.find? (fun e => e.1 == d * 4096 + n) with
  | none => s
  | some (_, g) =>
    if g.done.isSome then s
    else if !ok || data.length != s.quarterLayer then s.prefetchFailed d n g
    else
      let k := s.stageAt d n
      let s := s.spaceWrite 0 k data
      ({ s with staging := put Stage.none s.staging (d * 4096 + n) { g with done := some true } } : State).bump
        (FOL_CNT_FETCH d) 1

/-! ### Spill copies (R193, R196) -/

/-- A quarter with each byte's poison. -/
def State.quarterBytes (s : State) (q frame : Nat) : List (Byte × Bool) :=
  s.spaceRead 0 (s.frameAt q frame) (s.geo 5 4 * s.quarterLayer)

/-- Write a quarter to the Reserve in bursts of 512 bytes: none where its window cannot be reached. To a host, poison is
written as 0 (R196). -/
def State.spillOut (s : State) (d : Nat) (a : Word64) (bs : List (Byte × Bool)) : Option State :=
  let pieces := (piecesOf 512 (ceilDiv bs.length 512) bs).zipIdx
  if s.ownNode a then
    match s.hostWin a bs.length true with
    | some (p, fn, h) =>
      if s.portUp p then
        some (pieces.foldl (fun s e => s.send (.hostWrite p fn (h + BitVec.ofNat 64 (512 * e.2))
          (e.1.map (fun b => if b.2 then 0 else b.1)))) s)
      else none
    | none => none
  else pieces.foldl (fun o e => o.bind (fun s => s.writeNode d a (512 * e.2) e.1)) (some s)

/-- A quarter's copy ends. -/
def State.spillEnd (s : State) (e q : Nat) (ok : Bool) : State :=
  let x := s.folioOf e
  match x.frame with
  | none => s
  | some fr =>
    if x.st ≠ 4 ∨ x.failed = true ∨ x.copied.contains q = true then s
    else
      let a := x.reserve + BitVec.ofNat 64 (q * s.pitchBytes)
      let bs := s.quarterBytes q fr
      match (if ok then s.spillOut q a bs else none) with
      | none => (s.setFolio e { x with failed := true }).bump (FOL_CNT_FETCHERR q) 1
      | some s =>
        let taint := s.ownNode a && bs.any Prod.snd
        (s.setFolio e { x with copied := x.copied ++ [q], tainted := x.tainted || taint }).bump (FOL_CNT_SPILL q) 1

/-! ### Meanings -/

/-- FOLIO_APPEND (R227). -/
def execFolioAppend (u : EngUnit) (decode : Bool) (s : State) : Host.Outcome State Fault Refusal :=
  .next (s.issue u decode 7 0 appendWork)
/-- FOLIO_STAGE (R227, R195). -/
def execFolioStage (u : EngUnit) (decode : Bool) (s : State) : Host.Outcome State Fault Refusal :=
  .next (if s.stageRoom u decode then s.issue u decode 7 1 stageWork else s)
/-- SPILL_COPY_COMPLETE (R193). -/
def execSpillCopyComplete (e : Fin 32768) (quarter : Fin 4) (ok : Bool) (s : State) : Host.Outcome State Fault Refusal :=
  .next (s.spillEnd e.val quarter.val ok)
/-- PREFETCH_COMPLETE (R195). -/
def execPrefetchComplete (d : Die) (n : Nat) (ok : Bool) (data : List (Byte × Bool)) (s : State) :
    Host.Outcome State Fault Refusal :=
  .next (s.prefetchEnd d.val n ok data)

end Sys2Proof.Machine
end

