-- ==== Sys2Proof/Machine/Tickets.lean ====
section
/-! DEFINITION. Tickets and their answers, accounts and the statuses (09_serving_and_steps.md R273, R274, R279, R280,
R303), and reading or writing a range by its Ledger address. -/

namespace Sys2Proof.Machine

/-! ### Statuses (R303, R332, R378) -/

def stOk : Nat := 0x0000
def stAlready : Nat := 0x0001
def stBadTicket : Nat := 0x0100
def stBadAccount : Nat := 0x0101
def stNotWarrant : Nat := 0x0102
def stNoCharter : Nat := 0x0103
def stBadHandle : Nat := 0x0104
def stBadField : Nat := 0x0106
def stBadLength : Nat := 0x0107
def stDeadlinePast : Nat := 0x0108
def stDeadlineRequired : Nat := 0x0109
def stFetchError : Nat := 0x010A
def stSlotFull : Nat := 0x0200
def stSeqQuota : Nat := 0x0201
def stLedgerFull : Nat := 0x0202
def stRegionTooLong : Nat := 0x0203
def stFolioQuota : Nat := 0x0204
def stTallyFull : Nat := 0x0205
def stRegionFull : Nat := 0x0206
def stEndStop : Nat := 0x0400
def stEndMaxNew : Nat := 0x0401
def stEndLength : Nat := 0x0402
def stCancelled : Nat := 0x0403
def stDeadline : Nat := 0x0404
def stFolioLost : Nat := 0x0405
def stOrderFault : Nat := 0x0406
def stPoisoned : Nat := 0x0407
def stRetired : Nat := 0x0408
def stParked : Nat := 0x0409
def stTuned : Nat := 0x040A
def stEpochStale : Nat := 0x0300
def stEpochBusy : Nat := 0x0301
def stBadManifest : Nat := 0x0302
def stShardLost : Nat := 0x0303
def stEndoInUse : Nat := 0x0306
def stEndoAbsent : Nat := 0x0307
def stEndoTooLarge : Nat := 0x0308
def stEndoCorrupt : Nat := 0x0309
def stEpochExpired : Nat := 0x030A
def stImageMismatch : Nat := 0x030B
def stProbeBad : Nat := 0x0600
def stProbeStale : Nat := 0x0601
def stWeightLost : Nat := 0x0602

/-! ### Tickets (R279) -/

def Ticket.type (t : Ticket) : Nat := byteAt t.bytes 0
def Ticket.flags (t : Ticket) : Nat := byteAt t.bytes 1
def Ticket.account (t : Ticket) : Nat := fieldB t.bytes 3 2 % 4096
def Ticket.cookie (t : Ticket) : Nat := fieldB t.bytes 7 4
/-- Bytes [hi:lo] of a ticket. -/
def Ticket.field (t : Ticket) (hi lo : Nat) : Nat := fieldB t.bytes hi lo

/-- The handle of an answer that has none (R301). -/
def noHandle : Nat := 0xFFFFFFFF

/-- A ticket's answer, for the Statement of the next posting point (R280, R300). -/
def State.reply (s : State) (t : Ticket) (status handle detail : Nat) : State :=
  { s with serve := { s.serve with answers := s.serve.answers ++
    [⟨t.port, t.lane, t.order, Entry.answer t.type status t.cookie handle detail⟩] } }

/-! ### Accounts (R273, R274) -/

/-- Bytes [hi:lo] of an account's entry of the account map. -/
def State.acctMap (s : State) (a hi lo : Nat) : Nat :=
  let o := 32 + 32 * s.chr secClasses 1 0 + 8 * a
  s.chr secClasses (o + hi) (o + lo)

def State.acctDefined (s : State) (a : Nat) : Bool := nbit (s.acctMap a 1 1) 0
/-- The port that owns an account. -/
def State.acctPort (s : State) (a : Nat) : Nat := s.acctMap a 1 1 / 2 % 2
def State.sealed (s : State) (a : Nat) : Bool := nbit (s.acctMap a 1 1) 2
/-- Is the account's epoch policy flip? -/
def State.flips (s : State) (a : Nat) : Bool := nbit (s.acctMap a 1 1) 3
def State.endoCount (s : State) (a : Nat) : Nat := s.acctMap a 3 2
def State.endoBase (s : State) (a : Nat) : Nat := s.acctMap a 7 4

/-- Bytes [hi:lo] of the class entry of an account. -/
def State.classFld (s : State) (a hi lo : Nat) : Nat :=
  let o := 32 + 32 * s.acctMap a 0 0
  s.chr secClasses (o + hi) (o + lo)

def State.priority (s : State) (a : Nat) : Nat := s.classFld a 0 0

/-- Does the Charter define a sealed account (R310)? -/
def State.anySealed (s : State) : Bool := (List.range 4096).any (fun a => s.acctDefined a && s.sealed a)

/-! ### Ranges by their Ledger address (R390) -/

/-- Bytes of a range that lies in this device's Vault, Till or Charter store: none where it lies elsewhere, and none of
them where one is poison. -/
def State.ledgerRead (s : State) (a : Word64) (n : Nat) : Option (List Byte) :=
  if s.ownNode a && (adSpace a == 0 || adSpace a == 1 || adSpace a == 7) then
    let bs := s.spaceRead (adSpace a) (adOff a) n
    some (if bs.any Prod.snd then [] else bs.map Prod.fst)
  else none

/-- Write a range wherever its address lies: to this device's memory, to a host through its window, or to another node.
What cannot be reached is not written. -/
def State.ledgerWrite (s : State) (die : Nat) (a : Word64) (bs : List Byte) : State :=
  if s.ownNode a then
    match s.hostWin a bs.length true with
    | some (p, fn, h) => if s.portUp p then s.send (.hostWrite p fn h bs) else s
    | none => if adSpace a ≤ 1 then s.spaceWrite (adSpace a) (adOff a) (bs.map (fun b => (b, false))) else s
  else
    ((piecesOf 512 (ceilDiv bs.length 512) bs).zipIdx).foldl (fun s e =>
      (s.writeNode die a (512 * e.2) (e.1.map (fun b => (b, false)))).getD s) s

end Sys2Proof.Machine
end

