-- ==== Sys2Proof/Machine/Loads.lean ====
section
/-! DEFINITION. Weight Loads (10_weights_and_endorsements.md R306 to R321): manifests, the chain, shards, programming and
verification, and the restoring of master planes (R320, 12 R367). The flip itself is the posting point's. -/

namespace Sys2Proof.Machine

/-! ### Manifests (R309) -/

/-- Where a manifest's signature block starts. -/
def manifestBlock (b : List Byte) : Nat := 64 + 40 * fieldB b 11 8 + 2 * fieldB b 25 24

/-- The fields of a manifest. -/
def manifestOf (b : List Byte) : Manifest :=
  let n := fieldB b 11 8
  let f := byteAt b 3
  { kind := byteAt b 2, digests := nbit f 0, holdFlip := nbit f 1, refresh := nbit f 2,
    epoch := BitVec.ofNat 16 (fieldB b 5 4), generation := BitVec.ofNat 16 (fieldB b 7 6), shards := n,
    tiles := fieldB b 15 12, home := BitVec.ofNat 64 (fieldB b 23 16),
    chain := (List.range (fieldB b 25 24)).map (fun i => fieldB b (64 + 40 * n + 2 * i + 1) (64 + 40 * n + 2 * i)),
    rank := byteAt b 26, matrices := BitVec.ofNat 8 (byteAt b 27), grad := BitVec.ofNat 64 (fieldB b 35 28),
    entries := (List.range n).map (fun i =>
      (BitVec.ofNat 256 (fieldB b (64 + 40 * i + 31) (64 + 40 * i)), fieldB b (64 + 40 * i + 35) (64 + 40 * i + 32))),
    digest := sha256n b }

/-- Bytes of the image a manifest describes. -/
def Manifest.length (m : Manifest) : Nat := m.entries.foldl (fun a e => a + e.2) 0

/-- Are a manifest's sizes and fields in their ranges? Every shard but the last has 4 MiB (R308). -/
def manifestFormOk (b : List Byte) : Bool :=
  let n := fieldB b 11 8
  let m := manifestOf b
  decide (64 ≤ b.length) && fieldB b 1 0 == 1 && decide (byteAt b 2 ≤ 1) && decide (byteAt b 3 < 8) &&
    decide (n ≤ 1048576) && decide (fieldB b 25 24 ≤ 4095) && fieldB b 63 36 == 0 &&
    decide (manifestBlock b < b.length) && blockFormOk b (manifestBlock b) &&
    (if m.kind = 0 then m.rank == 0 && m.matrices == 0 && (!m.refresh || n == 0)
     else m.epoch == 0 && decide (1 ≤ m.rank) && decide (m.rank ≤ 64) && !m.refresh) &&
    m.chain.all (fun c => decide (c < 4096)) &&
    (List.range n).all (fun i => fieldB b (64 + 40 * i + 39) (64 + 40 * i + 36) == 0) &&
    (m.entries.take (n - 1)).all (fun e => e.2 == shardSize) &&
    m.entries.all (fun e => decide (1 ≤ e.2) && decide (e.2 ≤ shardSize) && (m.digests || e.1 == 0))

/-- Does the device take a manifest of a kind (R309, R310)? `need`: digests must be present. -/
def State.manifestOk (s : State) (b : List Byte) (kind : Nat) (need : Bool) : Bool :=
  manifestFormOk b && (manifestOf b).kind == kind && s.mram.postedGen == some (manifestOf b).generation &&
    (!need || (manifestOf b).digests) && s.signatureOk b (manifestBlock b) useManifest

/-! ### The chain (R311) -/

/-- This device's place in a chain; none for its head. -/
def State.chainPos (s : State) (m : Manifest) : Option Nat := m.chain.findIdx? (· == s.node)

/-- The next device of a chain. -/
def State.successor (s : State) (m : Manifest) : Option Nat :=
  match s.chainPos m with
  | none => m.chain[0]?
  | some i => m.chain[i + 1]?

/-- The head of a chain: the Treasury for every device that the list names. -/
def State.headOf_ (s : State) (m : Manifest) : Nat := if (s.chainPos m).isNone then s.node else s.treasury

/-- The device before this one; the head's shards come from `home`. -/
def State.predecessor (s : State) (m : Manifest) : Nat :=
  match s.chainPos m with
  | none => s.node
  | some 0 => s.treasury
  | some (i + 1) => m.chain.getD i 0

def State.setLoad (s : State) (l : Load) : State := { s with epochs := { s.epochs with load := some l } }

/-! ### Covered tiles and readiness (R307, R314) -/

/-- Tiles that an epoch covers. -/
def State.covered (s : State) : List Nat := (s.dir.filter (fun e => e.2.holds)).map Prod.fst

/-- Has a bank the state Live or Draining for an epoch? -/
def DirEntry.serves (d : DirEntry) (e : BitVec 16) : Bool :=
  (d.state false == bankLive || d.state false == bankDraining) && d.epochA == e ||
    (d.state true == bankLive || d.state true == bankDraining) && d.epochB == e

/-- Is a tile fit to be struck for an epoch, as far as R314 asks? -/
def State.tileReady (s : State) (t : Nat) (e : BitVec 16) : Bool :=
  let x := s.tile t
  (s.dirOf t).serves e && !x.restoring && !x.lost && !x.mismatched &&
    !s.log.fenced.contains (tileDie t, blkAssay, tileUnit t)

/-- Are the members of a group all fenced? -/
def State.allFenced (s : State) (d blk : Nat) (us : List Nat) : Bool :=
  !us.isEmpty && us.all (fun i => s.log.fenced.contains (d, blk, i))

/-- Does a die lack an unfenced engine of a kind its Charter allots, or an unfenced channel of the Clerks or of step programs
(R374)? Then every layer is unready. -/
def State.dieBlocked (s : State) : Bool :=
  s.serve.posted && (List.range 4).any (fun d =>
    let o := 272 + 16 * d
    s.allFenced d blkAttn ((List.range 48).filter (nbit (s.chr secEngines (o + 5) o))) ||
    s.allFenced d blkVec ((List.range 24).filter (nbit (s.chr secEngines (o + 8) (o + 6)))) ||
    [0, 1].any (fun w => s.allFenced d blkDma ((List.range 64).filter (fun k =>
      s.chr secEngines (16 + 64 * d + k) (16 + 64 * d + k) % 4 == w))))

/-- Is every layer ready for an epoch (R314)? -/
def State.allReady (s : State) (e : BitVec 16) : Bool := s.covered.all (fun t => s.tileReady t e) && !s.dieBlocked

/-- Unready layers for the Live epoch, at most 255 (`GLB_EPOCH`). -/
def State.unreadyLayers (s : State) : Nat :=
  if s.dieBlocked then Nat.min s.layerCount 255
  else
    let bad := s.covered.filter (fun t => match s.epochs.live with | some e => !s.tileReady t e | none => true)
    Nat.min ((bad.map (fun t => (s.dirOf t).lay)).eraseDups).length 255

/-! ### Starting a Load (R315, R318) -/

/-- Is a Load refused with EPOCH_BUSY (R315, R370)? -/
def State.epochBusy (s : State) : Bool :=
  s.dir.any (fun e => e.2.state false == bankDraining || e.2.state true == bankDraining) || s.epochs.load.isSome ||
    s.mirrorOn

/-- Is an epoch refused with EPOCH_STALE? -/
def State.epochStale (s : State) (e : BitVec 16) : Bool :=
  match s.epochs.live with
  | none => e == 0
  | some l => let d := (e - l).toNat; decide (d < 1) || decide (32767 < d)

/-- A Load with nothing landed. -/
def Load.fresh (m : Manifest) : Load :=
  { manifest := m, landed := [], arrived := [], acked := [], asked := [], records := [], issued := [], retried := [],
    verified := [], reported := [], told := false, flipSeen := false, failed := none }

/-! ### Reports (R318) -/

/-- Does every covered tile hold a Verified bank for the Load? -/
def State.loadVerified (s : State) (l : Load) : Bool := s.covered.all l.verified.contains && !s.covered.isEmpty

/-- Once the device's own tiles are Verified it reports so; the head of a chain that holds its flip sends the flip command
once every member has reported. -/
def State.reportLoad (s : State) : State :=
  match s.epochs.load with
  | none => s
  | some l =>
    if !s.loadVerified l then s
    else if (s.chainPos l.manifest).isSome then
      (if l.told then s else (s.setLoad { l with told := true }).send (.report (s.headOf_ l.manifest) false))
    else if l.manifest.holdFlip && !l.flipSeen && l.manifest.chain.all l.reported.contains then
      l.manifest.chain.foldl (fun s n => s.send (.flip n)) (s.setLoad { l with flipSeen := true })
    else s

/-! ### Tile records (R306, R308) -/

/-- Where the next tile record starts. -/
def Load.next (l : Load) : Nat := match l.records.getLast? with | none => 0 | some (off, _, n) => recordEnd off n

/-- Have all shards of bytes `[lo, hi)` of the image arrived? -/
def Load.has (l : Load) (lo hi : Nat) : Bool := (range (lo / shardSize) ((hi + shardSize - 1) / shardSize)).all l.arrived.contains

/-- Find the tile records that have come, and whether the image is one to refuse (R306): a record of a tile that an epoch
does not cover or that has one, a reserved byte set, or not every tile covered. -/
def State.scan (s : State) : Nat → Load → Load × Bool
  | 0, l => (l, false)
  | fuel + 1, l =>
    let off := l.next
    let len := l.manifest.length
    if l.manifest.refresh then (l, false)
    else if len ≤ off then
      (l, len < off || l.records.length != l.manifest.tiles || l.records.length != s.covered.length)
    else if !l.arrived.contains (off / shardSize) then (l, false)
    else
      let h := s.read (s.landKey l off) 64
      let t := fieldB h 1 0
      let n := fieldB h 3 2
      if 4096 < n ∨ fieldB h 63 4 ≠ 0 ∨ 32768 ≤ t ∨ (s.dirOf t).holds = false ∨ (l.recordOf t).isSome ∨ len < recordEnd off n then
        (l, true)
      else s.scan fuel { l with records := l.records ++ [(off, t, n)] }

/-! ### Programming (R316, R317, R321) -/

/-- A surplus word with its bank bit set for a bank (R308). -/
def retag (k : Bank) (w : Nat) : Nat := w - w / 2 ^ 29 % 2 * 2 ^ 29 + k.toNat * 2 ^ 29

/-- A number of bytes of the image, from byte `off` on. -/
def State.landRead (s : State) (l : Load) (off n : Nat) : List Byte := (List.range n).map (fun i => s.byte (s.landKey l (off + i)))

/-- The surplus words and the set checksums that a Load gives a tile: the record's, or the Live bank's for a refresh. -/
def State.loadParts (s : State) (l : Load) (t : Nat) (k : Bank) : List Nat × List Byte :=
  if l.manifest.refresh then
    ((s.surplusWords t).filter (wordBank !k), s.read (s.auxAt t (if k then 0x2400 else 0x2600)) 512)
  else match l.recordOf t with
    | some (off, _, n) => ((List.range n).map (fun i => leNat (s.landRead l (off + 0x240 + 4 * i) 4)), s.landRead l (off + 0x40) 512)
    | none => ([], [])

/-- Issue the program command of a tile: its surplus entries and checksums for the inactive bank, then the command (R316).
A list that would pass its capacity fails the record, and nothing is written (R317). A command that the controller cannot
take now is issued later. -/
def State.issueTile (s : State) (l : Load) (t : Nat) : State :=
  let k := !(s.dirOf t).active
  let g := s.groupOf (tileDie t) (tileUnit t)
  if s.mram.sweepPending || s.programRefused t k g.queue || decide (16 ≤ g.queue.length) then s
  else if h : tileSub t < 16 then
    let parts := s.loadParts l t k
    let kept := (s.surplusWords t).filter (wordBank !k)
    if s.surplusCap t < kept.length + parts.1.length then
      (s.programRecord t 0 stProgramFailed 0).failLoad stProgramFailed
    else
      let s := s.setSurplus t (addWords kept (parts.1.map (retag k)))
      let s := s.auxWrite t (if k then 0x2600 else 0x2400) parts.2
      let s := s.setLoad { l with issued := l.issued ++ [t] }
      s.programAdd (tileDie t) (tileUnit t) ⟨⟨tileSub t, h⟩, k, 0, l.manifest.epoch, none⟩
  else s

/-- May a tile's record be programmed: it has come whole, or the refresh finds the tile's own master plane (R320, R321)? -/
def State.recordReady (s : State) (l : Load) (t : Nat) : Bool :=
  if l.manifest.refresh then
    (match (s.dirOf t).live with | some k => s.masterOwn t k | none => false)
  else match l.recordOf t with
    | some (off, _, n) => l.has off (recordEnd off n)
    | none => false

/-- Go on with a Load: find records and issue what can be issued. -/
def State.loadAdvance (s : State) : State :=
  match s.epochs.load with
  | none => s
  | some l =>
    if l.failed.isSome then s
    else
      let (l, bad) := s.scan 32769 l
      let s := s.setLoad l
      if bad then s.failLoad stImageMismatch
      else s.covered.foldl (fun s t =>
        match s.epochs.load with
        | some l => if l.failed.isNone && !l.issued.contains t && s.recordReady l t then s.issueTile l t else s
        | none => s) s

/-- Landing slots given up: the successor has the shard and every record that touches it has verified (R311). -/
def State.freeSlots (s : State) : State :=
  match s.epochs.load with
  | none => s
  | some l =>
    let done (n : Nat) : Bool :=
      let lo := n * shardSize
      let hi := Nat.min (lo + shardSize) l.manifest.length
      ((s.successor l.manifest).isNone || l.acked.contains n) && decide (hi ≤ l.next) &&
        l.records.all (fun r => decide (recordEnd r.1 r.2.2 ≤ lo) || decide (hi ≤ r.1) || l.verified.contains r.2.1)
    s.setLoad { l with landed := l.landed.filter (fun e => !done e.1) }

/-! ### Shards (R311 to R313) -/

/-- The lowest landing slot free for shard `n`, in its stack. -/
def State.landSlot (s : State) (l : Load) (n : Nat) : Option Nat :=
  (List.range (s.chr secLayers 1 0)).find? (fun k => !l.landed.any (fun e => e.1 % 4 == n % 4 && e.2 == k + 1))

/-- Shard `n` is corrupt or missing: asked for again from the predecessor, then from the head, then lost (R313). -/
def State.refetch (s : State) (l : Load) (relay : Bool) (n : Nat) (nak : Bool) : State :=
  let c := look 0 l.asked n
  let l' := { l with asked := put 0 l.asked n (c + 1) }
  let keep (s : State) (l : Load) : State :=
    if relay then { s with epochs := { s.epochs with relay := some l } } else s.setLoad l
  if c < 2 then
    let to_ := if c = 0 then s.predecessor l.manifest else s.headOf_ l.manifest
    ((keep s l').eventHolder 0x12 n c).send (.shardRequest to_ n nak)
  else
    let s := s.fault (faultOf clsProgram 0xFF 0xFF 0 0 stShardLost)
    if relay then { s with epochs := { s.epochs with relay := none } } else s.failLoad stShardLost

/-- Is an arrived shard whole (R313)? -/
def Manifest.shardOk (m : Manifest) (n : Nat) (data : List Byte) (poisoned : Bool) : Bool :=
  match m.entries[n]? with
  | some (d, len) => !poisoned && data.length == len && (!m.digests || sha256n data == d)
  | none => false

/-- Pass a good shard on, and acknowledge it. -/
def State.passShard (s : State) (m : Manifest) (n : Nat) : State :=
  let s := match s.successor m with | some d => s.send (.shard d n) | none => s
  if (s.chainPos m).isSome then s.send (.shardAck (s.predecessor m) n) else s

/-- A shard arrives for the device's own Load. With no landing slot free it is withheld, and nothing changes (R312). -/
def State.shardIn (s : State) (l : Load) (n : Nat) (data : List Byte) (poisoned : Bool) : State :=
  if !l.manifest.shardOk n data poisoned then s.refetch l false n true
  else match s.landSlot l n with
    | none => s
    | some k =>
      let l := { l with landed := put 0 l.landed n (k + 1), arrived := l.arrived ++ [n] }
      let s := (s.setLoad l).write (s.landKey l (n * shardSize)) data
      ((s.passShard l.manifest n).loadAdvance).freeSlots

/-- A shard arrives that the device only relays (R315). -/
def State.shardRelay (s : State) (l : Load) (n : Nat) (data : List Byte) (poisoned : Bool) : State :=
  if !l.manifest.shardOk n data poisoned then s.refetch l true n true
  else
    let l := { l with arrived := l.arrived ++ [n] }
    let s := { s with epochs := { s.epochs with relay := if l.arrived.length = l.manifest.shards then none else some l } }
    s.passShard l.manifest n

/-- Does a Load still lack a shard? -/
def Load.lacks (l : Load) (n : Nat) : Bool := l.failed.isNone && decide (n < l.manifest.shards) && !l.arrived.contains n

/-- A shard arrives. -/
def State.shardArrive (s : State) (n : Nat) (data : List Byte) (poisoned : Bool) : State :=
  match s.epochs.load, s.epochs.relay with
  | some l, r =>
    if l.lacks n then s.shardIn l n data poisoned
    else match r with
      | some r => if r.lacks n then s.shardRelay r n data poisoned else s
      | none => s
  | none, some r => if r.lacks n then s.shardRelay r n data poisoned else s
  | none, none => s

/-- A shard is missing (R313). -/
def State.shardMissing (s : State) (n : Nat) : State :=
  match s.epochs.load, s.epochs.relay with
  | some l, r =>
    if l.lacks n then s.refetch l false n false
    else match r with
      | some r => if r.lacks n then s.refetch r true n false else s
      | none => s
  | none, some r => if r.lacks n then s.refetch r true n false else s
  | none, none => s

/-- The successor has a shard. -/
def State.shardAcked (s : State) (n : Nat) : State :=
  match s.epochs.load with
  | some l => if l.acked.contains n then s else (s.setLoad { l with acked := l.acked ++ [n] }).freeSlots
  | none => s

/-- A device after this one asks for a shard again: it is sent where it stands in its landing slot; the head reads it
afresh from `home`. -/
def State.shardAsked (s : State) (n : Nat) (fromHead : Bool) (by_ : Nat) : State :=
  match s.epochs.load with
  | some l => if look 0 l.landed n != 0 || (fromHead && (s.chainPos l.manifest).isNone) then s.send (.shard by_ n) else s
  | none => s

/-! ### Arriving manifests (R311, R315) -/

/-- Begin a Load: the manifest goes down the chain, and a refresh needs no shard. -/
def State.beginLoad (s : State) (m : Manifest) : State :=
  let s := s.setLoad (Load.fresh m)
  let s := match s.successor m with | some d => s.send (.manifest d) | none => s
  s.loadAdvance

/-- The manifest of a Load-Weights ticket has been read (R309, R315). Its epoch is the ticket's. -/
def State.ticketManifest (s : State) (t : Ticket) (img : List Byte) : State :=
  let m := manifestOf img
  if !s.manifestOk img 0 s.anySealed || m.epoch.toNat != t.field 21 20 then
    ({ s with serve := { s.serve with loadTicket := none } } : State).reply t stBadManifest noHandle 0
  else s.beginLoad m

/-- A manifest reaches a member of a chain: it takes part, or relays and reports EPOCH_BUSY (R315). -/
def State.memberManifest (s : State) (img : List Byte) : State :=
  let m := manifestOf img
  if !s.manifestOk img 0 s.anySealed || (s.chainPos m).isNone then s
  else if s.epochBusy || s.epochStale m.epoch then
    let s := { s with epochs := { s.epochs with relay := some (Load.fresh m) } }
    let s := match s.successor m with | some d => s.send (.manifest d) | none => s
    s.send (.report (s.headOf_ m) true)
  else s.beginLoad m

/-! ### Verification (R316) -/

/-- A verify that fails: once more for a Load's tile, then Failed. -/
def State.verifyFail (s : State) (t : Nat) (k : Bank) : State :=
  let again : Option Load := match s.epochs.load with
    | some l => if l.issued.contains t && !l.retried.contains t && l.failed.isNone then some l else none
    | none => none
  match again with
  | some l =>
    let s := s.setLoad { l with retried := l.retried ++ [t], issued := l.issued.filter (· != t) }
    s.loadAdvance
  | none =>
    let s := s.setDir t ((s.dirOf t).setState k bankFailed)
    let s := s.programRecord t 0 stVerifyFailed 0
    match s.epochs.load with
    | some l => if l.issued.contains t then s.failLoad stVerifyFailed else s
    | none => s

/-- The 16 vectors of a Programmed bank have been struck and compared. -/
def State.verify (s : State) (t : Nat) (k : Bank) (passes : Bool) : State :=
  if (s.dirOf t).state k ≠ bankProgrammed then s
  else if !passes then s.verifyFail t k
  else
    let s := s.setDir t ((s.dirOf t).setState k bankVerified)
    match s.epochs.load with
    | some l =>
      if l.issued.contains t && k != (s.dirOf t).active then
        (((s.setLoad { l with verified := l.verified ++ [t] }).freeSlots).reportLoad).loadAdvance
      else s
    | none => s

/-- A member of the chain reports Verified to the head (R318). -/
def State.takeReport (s : State) (n : Nat) : State :=
  match s.epochs.load with
  | some l =>
    if l.manifest.chain.contains n && !l.reported.contains n then
      (s.setLoad { l with reported := l.reported ++ [n] }).reportLoad
    else s
  | none => s

/-- The head's flip command arrives (R318). -/
def State.takeFlip (s : State) : State :=
  match s.epochs.load with
  | some l => s.setLoad { l with flipSeen := true }
  | none => s

/-! ### Drift refresh (R321) -/

/-- A manifest of the device's own for a refresh: the next epoch, no shards. -/
def refreshManifest (e generation : BitVec 16) : Manifest :=
  { kind := 0, digests := false, holdFlip := false, refresh := true, epoch := e, generation := generation, shards := 0,
    tiles := 0, home := 0, chain := [], rank := 0, matrices := 0, grad := 0, entries := [], digest := 0 }

/-- The Clerks start a refresh for a tile marked as drifted, where R315 and R370 allow it; else it waits. -/
def State.refreshStart (s : State) (t : Nat) : State :=
  match s.epochs.live with
  | none => s
  | some e =>
    if !(s.tile t).drifted || !s.serve.posted then s
    else if s.epochBusy || s.serve.loadTicket.isSome then
      { s with epochs := { s.epochs with refreshDue := true } }
    else
      ({ s with epochs := { s.epochs with refreshDue := false } } : State).beginLoad
        (refreshManifest (e + 1) (s.mram.postedGen.getD 0))

/-! ### Master planes (R320, R367) -/

/-- Do a bank's cells, corrected by its stuck-cell entries, pass the checksums of all 128 phases? -/
def State.setsMatch (s : State) (t : Nat) (k : Bank) : Bool :=
  let xs := s.surplusOf t k
  (List.range 128).all (fun ph => (crc32c (setBytes (s.soundLevel t k xs) ph)).toNat == s.setCrc t k ph)

/-- The first phase whose set fails its checksum. -/
def State.badPhase (s : State) (t : Nat) (k : Bank) : Nat :=
  let xs := s.surplusOf t k
  ((List.range 128).find? (fun ph => (crc32c (setBytes (s.soundLevel t k xs) ph)).toNat != s.setCrc t k ph)).getD 0

/-- Copy a bank's levels into the tile's master plane. -/
def State.rewriteMaster (s : State) (t : Nat) (k : Bank) : State :=
  s.write (s.masterAt t) (s.read (planeBase t k) (2 ^ 19))

/-- A tile's master plane has been rewritten from its Live bank: its epoch becomes the bank's, unless a set fails its
checksum (R320). -/
def State.masterDone (s : State) (t : Nat) : State :=
  match (s.dirOf t).live with
  | none => s
  | some k =>
    if (s.tile t).masterEpoch.isSome then s
    else if s.setsMatch t k then
      (s.rewriteMaster t k).setTile t { s.tile t with masterEpoch := some ((s.dirOf t).epoch k) }
    else s.fault (faultTile clsCells t (s.badPhase t k) 0)

/-- Copy a range of the auxiliary area and its shadow, whichever is good to the other; false where both hold poison. -/
def State.mend (s : State) (t o n : Nat) : State × Bool :=
  let a := s.auxAt t o
  let b := s.shadowAt t o
  if !s.bad a n then (if s.bad b n then s.write b (s.read a n) else s, true)
  else if !s.bad b n then (s.write a (s.read b n), true)
  else (s, false)

/-- A poisoned assay set is cleared and loaded again (R367). -/
def State.renewSet (s : State) (t : Nat) : State :=
  if s.bad (s.auxAt t 0x1400) 0x1000 then (s.write (s.auxAt t 0x1400) (List.replicate 0x1000 0)).startSet t else s

/-- Is a granule of the tile's master plane poison? -/
def State.masterSpoiled (s : State) (t : Nat) : Bool := s.bad (s.masterAt t) (2 ^ 19)

/-- A poisoned master plane is read back from the Live bank where its sets match (R367, R368); otherwise it is lost. -/
def State.renewMaster (s : State) (t : Nat) (ok : Bool) : State × Bool :=
  match (s.dirOf t).live with
  | some k =>
    if s.masterSpoiled t then
      (if s.setsMatch t k && !(s.dirOf t).fallback then (s.rewriteMaster t k, ok) else (s, false))
    else (s, ok)
  | none => (s, ok)

/-- Restore what is poisoned of a tile's structures (R367): master plane from the Live bank, auxiliary area and shadow from
each other, the assay set by a reload. -/
def State.restoreTile (s : State) (t : Nat) : State × Bool :=
  let a := s.mend t 0 0x1400
  let b := a.1.mend t 0x2400 0x6C00
  (b.1.renewSet t).renewMaster t (a.2 && b.2)

/-- A restore ends (R367), or every source has failed and the tile's master weights are lost (R368). -/
def State.restoreEnd (s : State) (t : Nat) (ok : Bool) : State :=
  if !(s.tile t).restoring then s
  else
    let (s', good) := s.restoreTile t
    if ok && good then s'.setTile t { s'.tile t with restoring := false }
    else
      let s := s.setTile t { s.tile t with restoring := false, lost := true }
      { s with serve := { s.serve with lostTiles := s.serve.lostTiles ++ [t] } }

/-! ### Meanings -/

/-- BANK_VERIFY (R316). -/
def execBankVerify (t : TileId) (b : Bank) (passes : Bool) (s : State) : Host.Outcome State Fault Refusal :=
  .next (s.verify t.val b passes)
/-- DRIFT_REFRESH_START (R321). -/
def execDriftRefreshStart (t : TileId) (s : State) : Host.Outcome State Fault Refusal := .next (s.refreshStart t.val)
/-- SHARD_ARRIVAL (R311, R313). -/
def execShardArrival (n : Nat) (data : List Byte) (poisoned : Bool) (s : State) : Host.Outcome State Fault Refusal :=
  .next (s.shardArrive n data poisoned)
/-- SHARD_ACK (R311). -/
def execShardAck (n : Nat) (s : State) : Host.Outcome State Fault Refusal := .next (s.shardAcked n)
/-- SHARD_TIMEOUT (R313). -/
def execShardTimeout (n : Nat) (s : State) : Host.Outcome State Fault Refusal := .next (s.shardMissing n)
/-- SHARD_REFETCH_REQUEST (R313). -/
def execShardRefetchRequest (n : Nat) (_nak fromHead : Bool) (by_ : Node) (s : State) :
    Host.Outcome State Fault Refusal :=
  .next (s.shardAsked n fromHead by_.val)
/-- VERIFIED_REPORT (R318). -/
def execVerifiedReport (n : Node) (s : State) : Host.Outcome State Fault Refusal := .next (s.takeReport n.val)
/-- FLIP_COMMAND (R318). -/
def execFlipCommand (s : State) : Host.Outcome State Fault Refusal := .next s.takeFlip
/-- MASTER_REWRITE_DONE (R320). -/
def execMasterRewriteDone (t : TileId) (s : State) : Host.Outcome State Fault Refusal := .next (s.masterDone t.val)
/-- WEIGHT_SCOPE_RESTORE_DONE (R367, R368). -/
def execWeightScopeRestoreDone (t : TileId) (ok : Bool) (s : State) : Host.Outcome State Fault Refusal :=
  .next (s.restoreEnd t.val ok)

end Sys2Proof.Machine
end

