-- ==== Sys2Proof/Machine/Endorse.lean ====
section
/-! DEFINITION. Endorsements (10_weights_and_endorsements.md R310, R322 to R327): the table, registering, the cache,
fetches, rechecks and gradient images. -/

namespace Sys2Proof.Machine

/-! ### The table (R322) -/

/-- The 32 bytes of a table entry. -/
def EndoEntry.encode (e : EndoEntry) : List Byte :=
  natLe 1 e.st ++ natLe 1 e.rank ++ natLe 1 e.matrices.toNat ++ natLe 1 e.sealed_.toNat
    ++ natLe 2 (match e.cache with | some c => c % 1024 | none => 2 ^ 15) ++ natLe 2 e.refs ++ natLe 8 e.home.toNat
    ++ natLe 4 e.length ++ natLe 8 e.grad.toNat ++ natLe 4 e.checked.toNat

/-- Write a table entry, in the table in stack V0 too. -/
def State.putEndo (s : State) (n : Nat) (e : EndoEntry) : State :=
  (s.setEndo n e).write (keyOf 0 (Config.endoTable.toNat + 32 * n)) e.encode

/-- The table index of endorsement `i` of an account; none for the base model (R274, R281). -/
def State.endoIndex (s : State) (a i : Nat) : Option Nat := if i = 0xFFFF then none else some ((s.endoBase a + i) % 262144)

/-- The account whose run holds a table index. -/
def State.endoAccount (s : State) (n : Nat) : Option Nat :=
  (List.range 4096).find? (fun a => s.acctDefined a && decide (s.endoBase a ≤ n) && decide (n < s.endoBase a + s.endoCount a))

/-! ### The cache (R325, R328) -/

/-- Units of 1 MiB that an image takes. -/
def unitsFor (len : Nat) : Nat := ceilDiv len (2 ^ 20)

/-- Units of each stack's cache area. -/
def State.cacheSize (s : State) : Nat := s.chr secLayers 23 20

/-- Free units of a stack. -/
def State.cacheFree (s : State) (v : Nat) : Nat :=
  s.cacheSize - (s.cache.filter (fun e => e.2.stack == v)).foldl (fun a e => a + e.2.units) 0

/-- The stack with the most free units, the lowest first. -/
def State.cacheStack (s : State) : Nat :=
  [1, 2, 3].foldl (fun b v => if s.cacheFree b < s.cacheFree v then v else b) 0

/-- Do units `[b, b+n)` of a stack lie free? -/
def State.cacheFits (s : State) (v b n : Nat) : Bool :=
  decide (b + n ≤ s.cacheSize) && s.cache.all (fun e =>
    e.2.stack != v || decide (e.2.base + e.2.units ≤ b) || decide (b + n ≤ e.2.base))

/-- The lowest run of `n` free units of a stack: it starts at 0 or where an entry ends. -/
def State.cacheRun (s : State) (v n : Nat) : Option Nat :=
  let starts := 0 :: (s.cache.filter (fun e => e.2.stack == v)).map (fun e => e.2.base + e.2.units)
  (sortBy (fun a b => decide (a ≤ b)) starts).find? (fun b => s.cacheFits v b n)

/-- The lowest free cache entry. -/
def State.cacheSlot (s : State) : Option Nat := (List.range 1024).find? (fun i => !s.cache.any (fun e => e.1 == i))

/-- Is a table entry in use: a row of the step names it (R325)? -/
def State.endoInUse (s : State) (n : Nat) : Bool := s.serve.rows.any (fun r => r.endo == some n)

/-- Drop a cache entry: its image is Home. -/
def State.evict (s : State) (c : Nat) (e : CacheEntry) : State :=
  let x := s.endoOf e.entry
  let s := { s with cache := s.cache.filter (fun y => y.1 != c) }
  s.putEndo e.entry { x with st := 2, cache := none }

/-- The least recently used Resident entry that is not in use, the lower cache index first. -/
def State.victim (s : State) : Option (Nat × CacheEntry) :=
  (s.cache.filter (fun e => (s.endoOf e.2.entry).st == 4 && !s.endoInUse e.2.entry)).foldl
    (fun (b : Option (Nat × CacheEntry)) e =>
      match b with
      | none => some e
      | some x => if e.2.used < x.2.used then some e else some x) none

/-- Find room for `n` units, evicting as R325 says; none where the image cannot fit. -/
def State.makeRoom (s : State) (n : Nat) : Nat → Option (State × Nat × Nat × Nat)
  | 0 => none
  | fuel + 1 =>
    let v := s.cacheStack
    match s.cacheRun v n, s.cacheSlot with
    | some b, some c => some (s, c, v, b)
    | _, _ =>
      match s.victim with
      | some (c, e) => (s.evict c e).makeRoom n fuel
      | none => none

/-- Start fetching a Home entry into the cache; unchanged where it cannot fit. -/
def State.fetchEndo (s : State) (n : Nat) : State :=
  let x := s.endoOf n
  if x.st ≠ 2 then s
  else match s.makeRoom (unitsFor x.length) 1025 with
    | none => s
    | some (s, c, v, b) =>
      let s := { s with cache := put CacheEntry.none s.cache c ⟨n, v, b, unitsFor x.length, s.stepNow⟩ }
      let s := s.putEndo n { s.endoOf n with st := 3, cache := some c }
      match s.hostWin x.home x.length false with
      | some (p, fn, h) => if s.portUp p then s.send (.hostRead p fn h x.length) else s
      | none => s

/-- The index of the first shard of an image whose digest differs; none where all agree (R310). -/
def badShard (ds : List (BitVec 256 × Nat)) (data : List Byte) : Option Nat :=
  ((ds.zipIdx).find? (fun e => sha256n ((data.drop (shardSize * e.2)).take e.1.2) != e.1.1)).map Prod.snd

/-- A fetch ends: Resident, or Corrupt (R325). -/
def State.endoFetched (s : State) (n : Nat) (ok : Bool) (data : List Byte) : State :=
  let x := s.endoOf n
  match x.cache with
  | none => s
  | some c =>
    if x.st ≠ 3 then s
    else
      let e := look CacheEntry.none s.cache c
      if ok && data.length == x.length && (badShard x.digests data).isNone then
        (s.write (s.cacheAt e) data).putEndo n { x with st := 4, checked := BitVec.ofNat 32 s.now.toNat }
      else
        let s := { s with cache := s.cache.filter (fun y => y.1 != c) }
        let s := s.fault (FaultRecord.at_ (faultOf clsProgram 0xFF 0xFF 0 0 stShardLost) x.home.toNat)
        s.putEndo n { x with st := 5, cache := none }

/-! ### Registering (R324) -/

/-- A Load-Endorsement's table index. -/
def State.ticketEndo (s : State) (t : Ticket) : Nat := (s.endoBase t.account + t.field 9 8) % 262144

/-- Release the cache entry that a table entry holds. -/
def State.dropCached (s : State) (n : Nat) : State :=
  match (s.endoOf n).cache with
  | some c => { s with cache := s.cache.filter (fun y => y.1 != c) }
  | none => s

/-- The state of an entry before it was Registering. -/
def EndoEntry.before (x : EndoEntry) : EndoEntry :=
  { x with st := if x.length = 0 then 0 else if x.cache.isSome then 4 else 2 }

/-- A manifest of a Load-Endorsement ticket has been read: the entry is Home, and fetched where the ticket asks for it; or
the ticket is refused. -/
def State.registerEndo (s : State) (t : Ticket) (img : List Byte) : State :=
  let n := s.ticketEndo t
  let m := manifestOf img
  let x := s.endoOf n
  let refuse (st : Nat) : State :=
    let s := { s with serve := { s.serve with endoTickets := s.serve.endoTickets.filter (fun e => e.1 != t) } }
    (if x.st = 1 then s.putEndo n x.before else s).reply t st noHandle 0
  if !s.manifestOk img 1 (s.sealed t.account) then refuse stBadManifest
  else if s.cacheSize * 2 ^ 20 < m.length then refuse stEndoTooLarge
  else
    let s := s.dropCached n
    let s := s.putEndo n { st := 2, rank := m.rank, matrices := m.matrices, sealed_ := s.sealed t.account, cache := none,
                           refs := 0, home := m.home, length := m.length, grad := m.grad, checked := 0,
                           digests := if m.digests then m.entries else [], steps := 0 }
    if nbit t.flags 0 then s.fetchEndo n else s

/-! ### Recheck (R326) -/

/-- A recheck of a Resident entry of a sealed account: a shard that differs is recorded and reported, and the entry is Home
from the next posting point on. -/
def State.recheck (s : State) (n : Nat) : State :=
  let x := s.endoOf n
  match x.cache with
  | none => s
  | some c =>
    if x.st ≠ 4 ∨ x.sealed_ = false then s
    else
      let e := look CacheEntry.none s.cache c
      match badShard x.digests (s.read (s.cacheAt e) x.length) with
      | none => s.putEndo n { x with checked := BitVec.ofNat 32 s.now.toNat }
      | some k =>
        let s := s.fault (FaultRecord.at_ (faultOf clsLedger e.stack blkVault 0 0 0) (n : Nat))
        let a := (s.endoAccount n).getD 0
        let s := s.event (s.acctPort a == 0) (s.acctPort a == 1) 0x13 a n k
        { s with serve := { s.serve with stale := s.serve.stale ++ [n] } }

/-! ### Manifests that arrive -/

/-- Does a pending Load-Endorsement await its manifest? -/
def State.awaitsManifest (s : State) : Option Ticket :=
  (s.serve.endoTickets.find? (fun e => (s.endoOf e.2).st == 1)).map Prod.fst

/-- A manifest arrives: for the Load-Weights ticket that waits for one, for a Load-Endorsement, or down a chain. -/
def State.manifestIn (s : State) (img : List Byte) : State :=
  match s.serve.loadTicket, s.epochs.load with
  | some t, none => s.ticketManifest t img
  | _, _ =>
    match s.awaitsManifest with
    | some t => if byteAt img 2 = 1 then s.registerEndo t img else s.memberManifest img
    | none => s.memberManifest img

/-! ### Meanings -/

/-- ENDO_FETCH_COMPLETE (R325). -/
def execEndoFetchComplete (n : Nat) (ok : Bool) (data : List Byte) (s : State) : Host.Outcome State Fault Refusal :=
  .next (s.endoFetched n ok data)
/-- ENDO_RECHECK (R326). -/
def execEndoRecheck (n : Nat) (s : State) : Host.Outcome State Fault Refusal := .next (s.recheck n)
/-- MANIFEST_ARRIVAL (R309, R311). -/
def execManifestArrival (image : List Byte) (s : State) : Host.Outcome State Fault Refusal := .next (s.manifestIn image)

end Sys2Proof.Machine
end

