-- ==== Sys2Proof/Machine/ProbeOps.lean ====
section
/-! DEFINITION. Probe sets and probes (12_faults_and_containment.md R376, R377), and the fault log's tail (R364). -/

namespace Sys2Proof.Machine

/-! ### Probe sets (R376) -/

/-- An entry of a probe set from its 32 bytes. -/
def probeEntryOf (b : List Byte) : ProbeEntry :=
  { kind := byteAt b 0, targeted := nbit (byteAt b 1) 0, first := fieldB b 7 4, count := fieldB b 11 8,
    seed := BitVec.ofNat 64 (fieldB b 19 12), vectors := fieldB b 21 20, width := byteAt b 22,
    expect := BitVec.ofNat 32 (fieldB b 27 24) }

/-- Units of a kind that one Array die holds; granules for ranges (R21, R26, R31). -/
def probePer (kind : Nat) : Nat :=
  match kind with
  | 1 => 8192
  | 2 => 512
  | 3 => 48
  | 4 => 24
  | 5 => 2 ^ 22
  | 6 => 2 ^ 31
  | _ => 64

/-- Is an entry's field broken? -/
def probeEntryOk (b : List Byte) : Bool :=
  let k := byteAt b 0
  decide (1 ≤ k) && decide (k ≤ 7) && decide (byteAt b 1 ≤ 1) && fieldB b 3 2 == 0 && byteAt b 23 == 0 &&
    fieldB b 31 28 == 0 && decide (1 ≤ fieldB b 11 8) && decide (fieldB b 7 4 + fieldB b 11 8 ≤ 4 * probePer k) &&
    decide (1 ≤ fieldB b 21 20) && decide (fieldB b 21 20 ≤ 4096) && decide (1 ≤ byteAt b 22) && decide (byteAt b 22 ≤ 8) &&
    ((decide (2 ≤ k) && decide (k ≤ 4)) || k == 7 || fieldB b 27 24 == 0)

/-- A probe set from its image. -/
def probeSetOf (b : List Byte) : ProbeSet :=
  { setId := BitVec.ofNat 32 (fieldB b 3 0), gap := BitVec.ofNat 32 (fieldB b 11 8),
    entries := (List.range (fieldB b 7 6)).map (fun i => probeEntryOf ((b.drop (64 + 32 * i)).take 32)),
    digest := sha256n b }

/-- Does the device accept a probe set (R376, R458)? -/
def State.probeSetOk (s : State) (b : List Byte) : Bool :=
  let n := fieldB b 7 6
  decide (64 ≤ b.length) && fieldB b 5 4 == 1 && decide (1 ≤ n) && decide (n ≤ 4096) && decide (1000 ≤ fieldB b 11 8) &&
    fieldB b 13 12 == s.fld GLB_IDENT 31 16 && fieldB b 63 14 == 0 &&
    (List.range n).all (fun i => probeEntryOk ((b.drop (64 + 32 * i)).take 32)) &&
    s.signatureOk b (64 + 32 * n) useProbe

/-- Take a probe set at a posting point: its status (R377). An accepted one replaces the active set, is measured, and goes
to every Branch from the Treasury. -/
def State.installSet (s : State) (b : List Byte) : State × Nat :=
  let p := probeSetOf b
  let old := match s.mram.probeSet with | some q => q.setId.toNat | none => 0
  if !s.probeSetOk b then (s, stProbeBad)
  else if p.setId.toNat ≤ old then (s, stProbeStale)
  else
    let s := { s with mram := { s.mram with probeSet := some p }, probes := { s.probes with next := [], running := [] } }
    let s := s.extend 7 (natLe 32 p.digest.toNat)
    let s := s.eventAll 0x35 p.setId.toNat p.entries.length
    let s := if s.role = 2 then
        s.clr.dir.foldl (fun s e => if e.2.st = 1 then s.send (.probeSet e.1) else s) s
      else s
    (s, stOk)

/-! ### Which probe a die runs next (R377) -/

/-- The units of an entry on die `d`: the first, and the one past the last. -/
def ProbeEntry.onDie (e : ProbeEntry) (d : Nat) : Nat × Nat :=
  (Nat.max e.first (probePer e.kind * d), Nat.min (e.first + e.count) (probePer e.kind * (d + 1)))

/-- The die, block and instance of a unit of an entry; of a granule for ranges (R21, R26, R371). -/
def probeUnit (kind i : Nat) : Nat × Nat × Nat :=
  match kind with
  | 1 => (dieMint (tileMint i), blkTile, i)
  | 2 => (i / 512, blkAssay, i % 512)
  | 3 => (i / 48, blkAttn, i % 48)
  | 4 => (i / 24, blkVec, i % 24)
  | 5 => (i / 2 ^ 22, blkTill, i % 2 ^ 22 / 49152)
  | 6 => (0x20 + i / 2 ^ 31, blkVault, i / 8 % 64)
  | _ => (i / 64, blkDma, i % 64)

/-- Does an entry cover a unit of die `d`, and by which index? -/
def ProbeEntry.covers (e : ProbeEntry) (d : Nat) (u : Nat × Nat × Nat) : Option Nat :=
  let (lo, hi) := e.onDie d
  let i := match e.kind with
    | 1 => u.2.2
    | 2 => u.1 * 512 + u.2.2
    | 3 => u.1 * 48 + u.2.2
    | 4 => u.1 * 24 + u.2.2
    | 7 => u.1 * 64 + u.2.2
    | _ => lo
  let hit := if e.kind = 5 then u.2.1 == blkTill && u.1 == d
    else if e.kind = 6 then u.2.1 == blkVault && u.1 == 0x20 + d
    else (probeUnit e.kind i) == u
  if hit && decide (lo ≤ i) && decide (i < hi) then some i else none

/-- The first entry from `k` on that covers a unit. -/
def coverFrom (es : List ProbeEntry) (d k : Nat) (u : Nat × Nat × Nat) : Option (Nat × Nat) :=
  ((es.zipIdx).drop k).findSome? (fun e => (e.1.covers d u).map (fun i => (e.2, i)))

/-- The loop's next probe on die `d` from entry `k`, unit `i`: entries not targeted-only, in order; a range is one probe. -/
def loopFrom (es : List ProbeEntry) (d k i : Nat) : Option (Nat × Nat) :=
  ((es.zipIdx).drop k).findSome? (fun e =>
    let (lo, hi) := e.1.onDie d
    let j := if e.2 = k then Nat.max lo i else lo
    if !e.1.targeted && decide (j < hi) then some (e.2, j) else none)

/-- The target units that lie on die `d`. -/
def State.dieTargets (s : State) (d : Nat) : List (Nat × Nat × Nat) :=
  s.probes.targets.filter (fun u =>
    u.1 == d || u.1 == 0x20 + d || (decide (0x10 ≤ u.1) && decide (u.1 < 0x20) && (u.1 - 0x10) / 4 == d))

/-- The probe that die `d` starts next, and whether it is a targeted one. -/
def State.nextProbe (s : State) (p : ProbeSet) (d : Nat) : Option (Bool × Nat × Nat) :=
  let k := (look (0, 0) s.probes.next (4 + d)).1
  match (s.dieTargets d).findSome? (coverFrom p.entries d k) with
  | some (e, i) => some (true, e, i)
  | none =>
    let (e, i) := look (0, 0) s.probes.next d
    ((loopFrom p.entries d e i).orElse (fun _ => loopFrom p.entries d 0 0)).map (fun x => (false, x))

/-- Is the unit that a probe covers free of the step's work: a tile without a slice, an engine or channel with both queues
empty or held? -/
def State.probeIdle (s : State) (kind i : Nat) : Bool :=
  let free (d : Nat) (k : UnitKind) (n : Nat) : Bool :=
    if h : d < 4 then
      let g := s.eng ⟨⟨d, h⟩, k, n⟩
      (g.pre.entries.isEmpty || g.pre.hold) && (g.dec.entries.isEmpty || g.dec.hold)
    else false
  match kind with
  | 1 => (s.tile i).slice.isNone
  | 2 => free (i / 512) .assay (i % 512)
  | 3 => free (i / 48) .attn (i % 48)
  | 4 => free (i / 24) .vec (i % 24)
  | 7 => free (i / 64) .dma (i % 64)
  | _ => true

/-! ### Running probes (R376, R377) -/

/-- Has the device finished its boot (R451 phase 8)? -/
def State.booted (s : State) : Bool := s.flag RST_BOOT 31

/-- A probe starts on die `d`. Targets that no entry covers are dropped. -/
def State.probeBegin (s : State) (d : Nat) : State :=
  match s.mram.probeSet with
  | none => s
  | some p =>
    if (look none s.probes.running d).isSome || !s.booted || !s.coreRuns (d / 2) then s
    else
      let dead := (s.dieTargets d).filter (fun u => (coverFrom p.entries d 0 u).isNone)
      let s := { s with probes := { s.probes with targets := s.probes.targets.filter (fun u => !dead.contains u) } }
      match s.nextProbe p d with
      | none => s
      | some (aim, e, i) =>
        let kind := (p.entries.getD e ⟨0, false, 0, 0, 0, 0, 0, 0⟩).kind
        if !s.probeIdle kind i then s
        else
          let next := if aim then put (0, 0) s.probes.next (4 + d) (e + 1, 0)
            else put (0, 0) s.probes.next d (e, if kind = 5 ∨ kind = 6 then 2 ^ 40 else i + 1)
          ({ s with probes := { s.probes with running := put none s.probes.running d (some (e, i)), next := next } } : State).bump
            DBK_CNT_PROBE 1

/-- The unit has been probed by every entry that covers it: its records no longer await a targeted probe. -/
def State.probedAll (s : State) (u : Nat × Nat × Nat) : State :=
  let f (d : DayRec) : DayRec :=
    if d.die.toNat = u.1 ∧ d.block.toNat = u.2.1 ∧ d.inst.toNat = u.2.2 then { d with flags := d.flags &&& 0xFD } else d
  { s with mram := { s.mram with daybook := s.mram.daybook.map (fun e => (e.1, f e.2)) },
           probes := { s.probes with targets := s.probes.targets.filter (· != u) } }

/-- A probe ends (R377): a failure is a probe record and an event at its site, reproduced where a targeted probe was
pending there. `site` is the sub-site that failed, or the granule of a range. -/
def State.probeEnd (s : State) (d : Nat) (passed : Bool) (site : Nat) : State :=
  match s.mram.probeSet, look none s.probes.running d with
  | some p, some (e, i) =>
    let kind := (p.entries.getD e ⟨0, false, 0, 0, 0, 0, 0, 0⟩).kind
    let range := kind == 5 || kind == 6
    let s := { s with probes := { s.probes with running := put none s.probes.running d none } }
    let u := probeUnit kind (if range && !passed then site else i)
    let s := if passed then s
      else
        let r := FaultRecord.byProbe (faultOf clsProbe u.1 u.2.1 u.2.2 (if range then 0xFFFF else site) 0)
        (s.bump DBK_CNT_PROBEFAIL 1).faultWith r true
    let k := (look (0, 0) s.probes.next (4 + d)).1
    if k = 0 then s
    else
      (s.dieTargets d).foldl (fun s u =>
        if (coverFrom p.entries d k u).isNone then
          ({ s with probes := { s.probes with next := put (0, 0) s.probes.next (4 + d) (0, 0) } } : State).probedAll u
        else s) s
  | _, _ => s

/-- A probe set arrives: one that the Treasury pushes, or the one a Probe ticket's source holds outside the device. -/
def State.probeSetIn (s : State) (b : List Byte) : State :=
  { s with serve := { s.serve with probeIn := s.serve.probeIn ++ [b] } }

/-! ### The fault log's tail (R364) -/

/-- A write of DBK_FLOG_TAIL by the Warrant holder: beyond `head` it is discarded. -/
def State.flogTail (s : State) (w : Src) (tail : Nat) : State :=
  let head := s.fld DBK_FLOG_HEAD 15 0
  let old := s.fld DBK_FLOG_TAIL 15 0
  if s.holder w && decide ((tail + 65536 - old) % 65536 ≤ (head + 65536 - old) % 65536) then
    s.setFld DBK_FLOG_TAIL 15 0 tail
  else s

/-! ### Meanings -/

/-- PROBE_START (R377). -/
def execProbeStart (d : Die) (s : State) : Host.Outcome State Fault Refusal := .next (s.probeBegin d.val)
/-- PROBE_COMPLETE (R376, R377). -/
def execProbeComplete (d : Die) (passed : Bool) (site : Nat) (s : State) : Host.Outcome State Fault Refusal :=
  .next (s.probeEnd d.val passed site)
/-- PROBE_SET_ARRIVAL (R377). -/
def execProbeSetArrival (image : List Byte) (s : State) : Host.Outcome State Fault Refusal := .next (s.probeSetIn image)
/-- FAULT_LOG_TAIL_WRITE (R364). -/
def execFaultLogTailWrite (w : Src) (tail : BitVec 16) (s : State) : Host.Outcome State Fault Refusal :=
  .next (s.flogTail w tail.toNat)

end Sys2Proof.Machine
end

