-- ==== Sys2Proof/Machine/CharterCheck.lean ====
section
/-! DEFINITION. The check of a staged Charter (15_steward_reset_and_boot.md R445, R446, R448, R449) and the hardware-check
conditions that the other chapters name (R89, R118, R131, R203, R236, R254, R258, R274, R322, R328, R331, R333, R337, R354,
R379, R403). Each section's check gives the lowest entry index that breaks a rule. -/

namespace Sys2Proof.Machine

/-! ### Statuses (R455) -/

def stCharterSignature : Nat := 0x0500
def stCharterStale : Nat := 0x0501
def stCharterTarget : Nat := 0x0502
def stCharterCheck : Nat := 0x0503
def stCharterBusy : Nat := 0x0504
def stCharterNotStaged : Nat := 0x0505
def stCharterConflict : Nat := 0x0506
def stCharterTooLarge : Nat := 0x0507

/-- The entry index of a failure that concerns a section as a whole (R446). -/
def wholeSection : Nat := 0xFFFFFF

/-- The first index below `n` that breaks a rule. -/
def firstBad (n : Nat) (p : Nat → Bool) : Option Nat := (List.range n).find? p

/-- `n` bytes of a section of the image at `base`, from byte `o` on. -/
def State.sx (s : State) (base ty o n : Nat) : Nat := s.img base (s.secOff base ty + o) n

/-- A whole-section failure where a test fails, else what `next` finds. -/
def wholeOr (ok : Bool) (next : Option Nat) : Option Nat := if ok then next else some wholeSection

/-! ### The header and the section table (R445, R446) -/

/-- Order 3: does the header suit the device and the ticket? -/
def State.charterTarget (s : State) (base gen : Nat) : Bool :=
  s.img base 0 2 == 1 && s.img base 4 2 == s.fld GLB_IDENT 31 16 && decide (s.img base 6 1 ≤ s.fld GLB_IDENT 15 12) &&
    s.img base 7 1 == 14 && s.img base 12 2 == 32768 && s.img base 14 1 == 4 && s.img base 15 1 == 2 && s.img base 2 2 == gen

/-- Order 4: lengths, table, checksums and signature. -/
def State.charterSound (s : State) (base len : Nat) : Bool :=
  let bytes := s.read base len
  let sig := s.secOff base secSign
  let entryOk (i : Nat) : Bool :=
    let o := 64 + 16 * i
    let off := s.img base (o + 4) 4
    let n := s.img base (o + 8) 4
    s.img base (o + 2) 2 == 0 && decide (288 ≤ off) && decide (off + n ≤ len) &&
      (crc32c ((bytes.drop off).take n)).toNat == s.img base (o + 12) 4
  s.img base 8 4 == len && s.img base 16 48 == 0 && !s.bad base len &&
    (List.range 14).all (fun k => ((List.range 14).filter (fun i => s.img base (64 + 16 * i) 2 == k + 1)).length == 1) &&
    (List.range 14).all entryOk && sig + s.secLen base secSign == len &&
    (List.range 13).all (fun k => decide (s.secOff base (k + 1) + s.secLen base (k + 1) ≤ sig)) &&
    s.signatureOk bytes sig useCharter

/-- Order 5: is the generation stale (R448)? -/
def State.charterStale (s : State) (gen : Nat) : Bool :=
  match s.mram.postedGen with
  | none => false
  | some p => let d := (gen + 65536 - p.toNat) % 65536; d == 0 || decide (32767 < d)

/-! ### Areas (R203, R236, R331, R354, R446) -/

/-- An area that a Charter gives: the section and entry that name it, its place (0 to 3 a die's Till, 4 to 7 a stack), and
its bytes. A `strict` area may overlap no other. -/
structure Area where
  sec    : Nat
  idx    : Nat
  place  : Nat
  lo     : Nat
  len    : Nat
  strict : Bool

/-- Do two areas overlap against the rules? -/
def Area.clash (a b : Area) : Bool :=
  a.place == b.place && (a.strict || b.strict) && decide (a.lo < b.lo + b.len) && decide (b.lo < a.lo + a.len)

/-- Does an area leave its die's Till or its stack, or reach the top 256 MiB of V0 or V1 (R446)? -/
def Area.leaves (a : Area) : Bool :=
  if a.place < 4 then decide (tillSize < a.lo + a.len)
  else if a.place < 6 then decide (2 ^ 36 - 2 ^ 28 < a.lo + a.len)
  else decide (2 ^ 36 < a.lo + a.len)

/-- The first area of section `sec` that leaves its place or clashes with an area of the same or an earlier section, by its
entry index. -/
def areaFault (as : List Area) (sec : Nat) : Option Nat :=
  let prior := as.filter (fun a => decide (a.sec ≤ sec))
  ((as.zipIdx).filter (fun e => e.1.sec == sec)).findSome? (fun e =>
    if e.1.leaves || ((prior.zipIdx).any (fun f => f.1.clash e.1 &&
        !(f.1.sec == sec && f.1.idx == e.1.idx && f.1.lo == e.1.lo && f.1.len == e.1.len))) then some e.1.idx else none)

/-- The same area in every one of four places from `p` on. -/
def fourAreas (sec idx p lo len : Nat) (strict : Bool) : List Area :=
  (List.range 4).map (fun d => ⟨sec, idx, p + d, lo, len, strict⟩)

/-- Bytes of a lane block of a staged Folio geometry, times its kinds and heads: a quarter-layer (R177). -/
def State.stagedQuarter (s : State) (base : Nat) : Nat :=
  let g := s.sx base secFolio
  let e := g 3 1 * 4 * (g 0 1 + 1)
  g 2 1 * 2 * (64 * e + 64 * g 3 1)

/-- Programs of the section. -/
def State.progCount (s : State) (base : Nat) : Nat := s.sx base secPrograms 0 1
/-- Offset in the section, and length, of die `d`'s copy of program `n`. -/
def State.copyOf (s : State) (base n d : Nat) : Nat × Nat :=
  (s.sx base secPrograms (16 + 48 * n + 8 * d) 4, s.sx base secPrograms (16 + 48 * n + 8 * d + 4) 4)

/-- Areas of a program's copy on a die (R229, R236). -/
def State.copyAreas (s : State) (base n d : Nat) : List Area :=
  let (o, len) := s.copyOf base n d
  if len = 0 then []
  else
    let g (k : Nat) : Nat := 32 * s.sx base secPrograms (o + k) 4
    let idx := 65536 * n + 0xFFFF
    [⟨secPrograms, idx, d, g 4, 32 * s.sx base secPrograms (o + 2) 2, true⟩, ⟨secPrograms, idx, d, g 8, 4096, true⟩,
     ⟨secPrograms, idx, d, g 12, 256, true⟩, ⟨secPrograms, idx, d, g 16, 8191 * 32, true⟩,
     ⟨secPrograms, idx, d, g 20, 65536, true⟩, ⟨secPrograms, idx, d, g 24, 8191 * 8 * 128, true⟩]

/-- The areas of a staged Charter. A tile's auxiliary area has the size that its header in Till gives. -/
def State.areasOf (s : State) (base : Nat) : List Area :=
  let e (t o n : Nat) : Nat := s.sx base secDirectory (32 * t + o) n
  let tiles := (List.range 32768).filter (fun t => e t 0 1 == 1 || e t 0 1 == 3)
  let auxLen (t : Nat) : Nat :=
    let h := till (tileDie t) (e t 16 4)
    0x2800 + 1056 * Nat.min (s.readNat h 2) 8 + 4 * s.readNat (h + 4) 2
  let layers := s.sx base secLayers 36 2
  let ent (l o n : Nat) : Nat := s.sx base secLayers (s.sx base secLayers 44 4 + 64 * l + o) n
  let w (o n : Nat) : Nat := s.sx base secLayers o n
  let g (o n : Nat) : Nat := s.sx base secFolio o n
  let c (o n : Nat) : Nat := s.sx base secCal o n
  tiles.map (fun t => ⟨secDirectory, t, tileDie t, e t 16 4, auxLen t, false⟩)
    ++ tiles.map (fun t => ⟨secDirectory, t, 4 + tileDie t, e t 20 4 * 4096, 2 ^ 19, false⟩)
    ++ fourAreas secLayers wholeSection 4 (w 2 4 * 4096) (w 0 2 * 2 ^ 22) false
    ++ fourAreas secLayers wholeSection 4 (w 16 4 * 4096) (w 20 4 * 2 ^ 20) false
    ++ (List.range layers).flatMap (fun l => if ent l 8 4 = 0 then [] else fourAreas secLayers l 0 (ent l 8 4) 32 true)
    ++ (List.range (s.progCount base)).flatMap (fun n => (List.range 4).flatMap (s.copyAreas base n))
    ++ (List.range (s.sx base secFormats 1 2)).map (fun l =>
        let o := s.sx base secFormats (16 + 32 * l + 20) 4
        ⟨secFormats, l, o / 2 ^ 27 % 4, o % 2 ^ 27, 64, false⟩)
    ++ fourAreas secMirror wholeSection 4 (s.sx base secMirror 4 4 * 4096) (288 * 2 ^ 20) false
    ++ [⟨secMirror, wholeSection, 4, s.sx base secMirror 8 4 * 4096, 2 ^ 22, false⟩]
    ++ fourAreas secFolio wholeSection 4 (g 20 4 * 4096) (g 6 2 * g 8 2 * 4096) true
    ++ fourAreas secFolio wholeSection 4 (g 24 4 * 4096) (g 14 2 * (ceilDiv (s.stagedQuarter base) 4096 * 4096)) true
    ++ fourAreas secFolio wholeSection 4 (g 28 4 * 4096) (2 ^ 31) true
    ++ fourAreas secCal wholeSection 0 (c 18 4 * 4096) (c 10 2 * c 16 2 * 4096) true
    ++ fourAreas secCal wholeSection 0 (c 22 4 * 4096) (512 * 8192) true

/-! ### 0x01 Mint directory (R130, R131, R374, R375) -/

/-- Tile `t`'s entry of a staged directory. -/
def State.stagedEntry (s : State) (base t : Nat) : DirEntry :=
  DirEntry.ofBytes (s.read (base + s.secOff base secDirectory + 32 * t) 32) DirEntry.unused

/-- The tile whose slice an entry took over. -/
def DirEntry.tookOver (d : DirEntry) : Option Nat :=
  if nbit d.origin.toNat 15 then some (nbits d.origin.toNat 14 0) else none

/-- Does tile `t`'s entry break a rule? -/
def State.tileBad (s : State) (base t : Nat) : Bool :=
  let d := s.stagedEntry base t
  let raw (o n : Nat) : Nat := s.sx base secDirectory (32 * t + o) n
  let role := d.role.toNat
  let holds := role == 1 || role == 3
  let layerMate := (List.range t).find? (fun u =>
    let x := s.stagedEntry base u
    x.holds && holds && x.lay == d.lay && (x.budget != d.budget || x.head != d.head))
  let partnerBad := match d.mate with
    | none => role == 3
    | some m =>
      let x := s.stagedEntry base m
      tileMint m == tileMint t || x.mate != some t || (role == 1 && x.role != 1 && x.role != 3) || (role == 3 && x.role != 1)
  let originBad := match d.tookOver with
    | none => false
    | some o =>
      (s.stagedEntry base o).role != 4 || s.log.fenced.contains (tileDie t, blkAssay, tileUnit t) ||
        s.dir.any (fun e => e.2.state false == bankDraining || e.2.state true == bankDraining)
  decide (4 < role) || decide (4 < nbits d.geom.toNat 5 3) || decide (3 < d.fmt) || decide (8 < d.matrix) ||
    raw 7 1 != 0 || raw 14 2 != 0 || raw 24 8 != 0 ||
    (if holds then d.segs == 0 || decide (16 < d.segs.toNat) || d.cols == 0 else d.segs != 0) || decide (1024 < d.cols.toNat) ||
    (d.w8 && d.cols.toNat % 2 == 1) || (holds && d.aux.toNat % 256 != 0) || layerMate.isSome || partnerBad || originBad

def State.checkDirectory (s : State) (base : Nat) (as : List Area) : Option Nat :=
  wholeOr (s.secLen base secDirectory == 2 ^ 20) ((firstBad 32768 (s.tileBad base)).orElse (fun _ => areaFault as secDirectory))

/-! ### 0x02 layer map (R328 to R331) -/

/-- A withheld list of a layer of the staged image: its channels, and whether it lies in the section. -/
def State.stagedList (s : State) (base l kind : Nat) : List Nat × Bool :=
  let o := s.sx base secLayers (s.sx base secLayers 44 4 + 64 * l + 12 + 4 * kind) 4
  if o = 0 then ([], true)
  else
    let n := s.sx base secLayers o 2
    if s.secLen base secLayers < o + 2 + 2 * n then ([], false)
    else ((List.range n).map (fun i => s.sx base secLayers (o + 2 + 2 * i) 2), true)

/-- Is a list strictly ascending? -/
def ascending : List Nat → Bool
  | [] => true
  | [_] => true
  | a :: b :: l => decide (a < b) && ascending (b :: l)

/-- Does a withheld list break a rule of R331? -/
def State.listBad (s : State) (base l kind : Nat) : Bool :=
  let (cs, ok) := s.stagedList base l kind
  let width := if kind = 3 then s.sx base secLayers 42 2 else s.sx base secLayers 38 2
  !ok || !ascending cs || cs.any (fun c => decide (width ≤ c)) ||
    cs.any (fun c => decide (8 < (cs.filter (fun x => x / 1024 == c / 1024)).length))

/-- Does a layer's entry, or a tile of the layer beside it, break a rule? -/
def State.layerBad (s : State) (base l : Nat) : Bool :=
  let ent (o n : Nat) : Nat := s.sx base secLayers (s.sx base secLayers 44 4 + 64 * l + o) n
  let beta := ent 4 4
  let tiles := ((List.range 32768).map (fun t => (t, s.stagedEntry base t))).filter (fun e => e.2.holds && e.2.lay == l)
  let recordMissing (t : Nat) (d : DirEntry) : Bool :=
    let h := till (tileDie t) d.aux.toNat
    let rows := (List.range (Nat.min (s.readNat h 2) 8)).map (fun n => s.readNat (h + 0x2800 + 1056 * n) 2 % 1024)
    (s.stagedList base l (inputKind d.matrix)).1.any (fun c => c / 1024 == d.rowBlk.toNat && !rows.contains (c % 1024))
  decide (4 < nbits (ent 0 1) 5 3) || decide (3 < nbits (ent 0 1) 2 0) || decide (127 < ent 1 1) || ent 2 1 == 0 ||
    decide (16 < ent 2 1) || (beta != 0 && (decide (2 ^ 31 ≤ beta) || decide (0x7F800000 ≤ beta % 2 ^ 31))) ||
    ent 8 4 % 32 != 0 || ent 28 36 != 0 || (List.range 4).any (s.listBad base l) ||
    tiles.any (fun e => e.2.geom.toNat != ent 0 1 || (decide (e.2.matrix < 8) && !nbit (ent 3 1) e.2.matrix) ||
      recordMissing e.1 e.2)

def State.checkLayers (s : State) (base : Nat) (as : List Area) : Option Nat :=
  let w (o n : Nat) : Nat := s.sx base secLayers o n
  let layers := w 36 2
  wholeOr (decide (64 ≤ s.secLen base secLayers) && decide (1 ≤ w 0 2) && decide (w 0 2 ≤ 4096) && decide (1 ≤ w 6 4) &&
      decide (1 ≤ w 10 2) && w 24 8 == 0 && decide (1 ≤ w 32 4) && decide (w 32 4 ≤ 131072) && decide (1 ≤ layers) &&
      decide (layers ≤ 4095) && decide (1 ≤ w 38 2) && decide (1 ≤ w 40 2) && decide (w 40 2 ≤ 2048) &&
      decide (w 44 4 + 64 * layers ≤ s.secLen base secLayers) && decide (1 ≤ w 48 2) && decide (w 48 2 ≤ 2048) && w 50 14 == 0 &&
      (List.range 32768).all (fun t => let d := s.stagedEntry base t; !d.holds || decide (d.lay < layers)))
    ((firstBad layers (s.layerBad base)).orElse (fun _ => areaFault as secLayers))

/-! ### 0x03 step-program templates (R229 to R236, R258) -/

/-- May step programs use the unit that a target names (R258)? -/
def State.stagedTargetOk (s : State) (base d target : Nat) : Bool :=
  let inst := nbits target 8 0
  let die := 272 + 16 * d
  match nbits target 10 9 with
  | 0 => decide (inst < 512) && inst != 0x1FF || inst == 0x1FF
  | 1 => inst == 0x1FF || (decide (inst < 48) && nbit (s.sx base secEngines die 6) inst)
  | 2 => inst == 0x1FF || (decide (inst < 24) && nbit (s.sx base secEngines (die + 6) 3) inst)
  | _ => decide (inst < 64) && s.sx base secEngines (16 + 64 * d + inst) 1 % 4 == 0

/-- Does a patch break R233? -/
def patchBad (rowMode : Bool) (src lsb ctl : Nat) : Bool :=
  nbit ctl 7 && (decide (120 < lsb + nbits ctl 4 0 + 1) || (nbit ctl 6 && !rowMode) ||
    (if nbit ctl 6 then src != 0xFF && decide (31 < src) else decide (63 < src)))

/-- Does template entry `e` of a copy at offset `o` break a rule? -/
def State.templateBad (s : State) (base d o e : Nat) : Bool :=
  let b (k n : Nat) : Nat := s.sx base secPrograms (o + 64 + 32 * e + k) n
  let rowMode := nbit (b 18 2) 12
  decide (4096 ≤ b 16 2) || decide (8192 ≤ b 18 2) || decide (63 < b 20 1) || decide (119 < b 21 1) || decide (16 < b 22 1) ||
    decide (120 < b 21 1 + b 22 1) || decide (4096 ≤ b 24 2) || !s.stagedTargetOk base d (b 16 2) ||
    patchBad rowMode (b 26 1) (b 27 1) (b 28 1) || patchBad rowMode (b 29 1) (b 30 1) (b 31 1)

/-- Does a copy's header, or its directory entry, break a rule? -/
def State.copyBad (s : State) (base n d : Nat) : Bool :=
  let (o, len) := s.copyOf base n d
  let h (k w : Nat) : Nat := s.sx base secPrograms (o + k) w
  let role := if s.sx base secPrograms 1 1 = n then some 0 else if s.sx base secPrograms 2 1 = n then some 1
    else if s.sx base secPrograms 3 1 = n then some 2 else if s.sx base secPrograms 4 1 = n then some 3 else none
  len != 0 && (decide (s.secLen base secPrograms < o + len) || len != 64 + 32 * h 2 2 + 4096 + 192 || decide (3 < h 0 1) ||
    h 1 1 != n || h 2 2 == 0 || h 56 8 != 0 || (match role with | some k => h 0 1 != k | none => false))

/-- The first entry of program `n` that breaks a rule. -/
def State.programFault (s : State) (base n : Nat) : Option Nat :=
  let entries := (List.range 4).findSome? (fun d =>
    let (o, len) := s.copyOf base n d
    if len = 0 then none else firstBad (s.sx base secPrograms (o + 2) 2) (s.templateBad base d o))
  match entries with
  | some e => some (65536 * n + e)
  | none =>
    if s.sx base secPrograms (16 + 48 * n + 32) 16 ≠ 0 || (List.range 4).any (s.copyBad base n) then some (65536 * n + 0xFFFF)
    else none

def State.checkPrograms (s : State) (base : Nat) (as : List Area) : Option Nat :=
  let n := s.progCount base
  let named (k : Nat) : Bool := decide (s.sx base secPrograms k 1 < n)
  wholeOr (decide (1 ≤ n) && named 1 && named 2 && (s.sx base secPrograms 3 1 == 0xFF || named 3) && named 4 &&
      s.sx base secPrograms 5 11 == 0 && decide (16 + 48 * n ≤ s.secLen base secPrograms))
    (((List.range n).findSome? (s.programFault base)).orElse (fun _ => areaFault as secPrograms))

/-! ### 0x04 formats policy (R89) -/

/-- Does a layer's entry break its ranges? The narrowest width of a width map is that of die 0's map in Till. -/
def State.formatBad (s : State) (base l : Nat) : Bool :=
  let f (o n : Nat) : Nat := s.sx base secFormats (16 + 32 * l + o) n
  let blocks := ceilDiv (s.sx base secLayers 38 2) 32
  let narrow := if f 0 1 ≠ 0 then f 0 1
    else (List.range blocks).foldl (fun m k => Nat.min m (s.byte (till 0 (f 16 4 % 2 ^ 27 + k))).toNat) 8
  decide (8 < f 0 1) || decide (1 < f 1 1) || (if f 1 1 = 1 then f 2 1 == 0 || f 2 1 == 0xFF else f 2 1 != 0) ||
    decide (1 < f 3 1) || decide (1 < f 4 1) || (f 5 1 != 0x0F && decide (strikeRungs narrow ≤ f 5 1)) || f 6 2 == 0 ||
    decide (f 12 2 < 0x0120) || decide (0x4000 < f 12 2) || decide (f 14 2 < 0x0120) || decide (0x4000 < f 14 2) ||
    (f 0 1 != 0 && f 16 4 != 0) || f 20 4 % 64 != 0 || f 24 8 != 0

def State.checkFormats (s : State) (base : Nat) (as : List Area) : Option Nat :=
  let n := s.sx base secFormats 1 2
  wholeOr (decide (1 ≤ s.sx base secFormats 0 1) && decide (s.sx base secFormats 0 1 ≤ 100) && s.sx base secFormats 3 5 == 0 &&
      n == s.sx base secLayers 36 2 && decide (16 + 32 * n ≤ s.secLen base secFormats))
    ((firstBad n (s.formatBad base)).orElse (fun _ => areaFault as secFormats))

/-! ### 0x05 to 0x0B -/

/-- Mirror sets: the containment header (R379). -/
def State.checkMirror (s : State) (base : Nat) (as : List Area) : Option Nat :=
  let m (o n : Nat) : Nat := s.sx base secMirror o n
  wholeOr (decide (32 ≤ s.secLen base secMirror) && decide (m 0 1 ≤ 1) && m 1 3 == 0 && decide (1000 ≤ m 12 4) &&
    decide (2 ≤ m 16 1) && decide (m 16 1 ≤ 15) && m 17 15 == 0) (areaFault as secMirror)

/-- Does partition entry `i` break a rule of R254? -/
def State.partitionBad (s : State) (base i : Nat) : Bool :=
  let p (i o n : Nat) : Nat := s.sx base secTallies (16 + 8 * i + o) n
  let first := p i 0 2
  let count := p i 2 2
  decide (16384 ≤ first) || count == 0 || decide (4096 < first % 4096 + count) || decide (2 < p i 4 1) || p i 5 1 != 0 ||
    (if p i 4 1 = 1 then p i 6 2 == 0 || decide (1023 < p i 6 2) else p i 6 2 != 0) ||
    (List.range i).any (fun k => decide (p k 0 2 < first + count) && decide (first < p k 0 2 + p k 2 2))

def State.checkTallies (s : State) (base : Nat) : Option Nat :=
  let n := s.sx base secTallies 4 2
  wholeOr (decide (1 ≤ n) && decide (n ≤ 1024) && s.sx base secTallies 6 10 == 0 &&
    decide (16 + 8 * n ≤ s.secLen base secTallies)) (firstBad n (s.partitionBad base))

/-- Does Reserve window `i` break a rule of R202? -/
def State.reserveBad (s : State) (base i : Nat) : Bool :=
  let w (o n : Nat) : Nat := s.sx base secFolio (48 + 16 * i + o) n
  let a : Word64 := BitVec.ofNat 64 (w 0 8)
  let own := adNode a == s.sx base secRoutes 0 2 % 4096
  w 0 8 % 4096 != 0 || w 8 4 == 0 || w 12 4 != 0 ||
    !(if own then adSpace a == 5 || adSpace a == 6 else adSpace a == 0)

def State.checkFolio (s : State) (base : Nat) (as : List Area) : Option Nat :=
  let g (o n : Nat) : Nat := s.sx base secFolio o n
  let groups := (List.range (s.sx base secLayers 36 2)).all (fun l =>
    s.sx base secLayers (s.sx base secLayers 44 4 + 64 * l + 2) 1 * g 2 1 == s.sx base secLayers 40 2)
  wholeOr ((g 0 1 == 3 || g 0 1 == 7) && decide (1 ≤ g 2 1) && decide (1 ≤ g 3 1) && decide (g 3 1 ≤ 8) &&
      g 4 2 == s.sx base secLayers 36 2 && decide (1 ≤ g 6 2) && decide (g 6 2 ≤ 16383) && decide (50 ≤ g 10 1) &&
      decide (g 10 1 ≤ 99) && decide (1 ≤ g 11 1) && decide (g 11 1 < g 10 1) && decide (1 ≤ g 12 1) && decide (g 12 1 ≤ 16) &&
      decide (g 13 1 ≤ 1) && decide (1 ≤ g 14 2) && decide (g 14 2 ≤ 4096) && decide (1 ≤ g 18 2) && decide (g 32 1 ≤ 16) &&
      g 33 15 == 0 && decide (g 4 2 * s.stagedQuarter base ≤ g 8 2 * 4096) &&
      decide (g 1 1 + g 2 1 ≤ s.sx base secLayers 48 2) && (g 13 1 == 1 || g 32 1 != 0) && groups &&
      decide (48 + 16 * g 32 1 ≤ s.secLen base secFolio))
    ((firstBad (g 32 1) (s.reserveBad base)).orElse (fun _ => areaFault as secFolio))

/-- Engine allotment: 256 channel entries, then 4 die entries (R258). -/
def State.checkEngines (s : State) (base : Nat) : Option Nat :=
  let chan (i : Nat) : Nat := s.sx base secEngines (16 + i) 1
  let dieBad (d : Nat) : Bool :=
    let o := 272 + 16 * d
    decide (((List.range 64).filter (fun k => chan (64 * d + k) % 4 == 1)).length < 4) || s.sx base secEngines o 6 == 0 ||
      s.sx base secEngines (o + 6) 3 == 0 || s.sx base secEngines (o + 9) 7 != 0
  wholeOr (s.sx base secEngines 0 2 == 1 && s.sx base secEngines 2 14 == 0 && decide (336 ≤ s.secLen base secEngines))
    ((firstBad 256 (fun i => decide (2 < chan i))).orElse (fun _ => (firstBad 4 dieBad).map (· + 256)))

/-- Strike ceiling (R118). -/
def State.checkCeiling (s : State) (base : Nat) : Option Nat :=
  let c := s.sx base secCeiling 0 2
  wholeOr (s.secLen base secCeiling == 16 && c % 16 == 0 && decide (16 ≤ c) && decide (c ≤ 8192) &&
    s.sx base secCeiling 2 14 == 0) none

/-- Calibration policy (R354). -/
def State.checkCal (s : State) (base : Nat) (as : List Area) : Option Nat :=
  let c (o n lo hi : Nat) : Bool := decide (lo ≤ s.sx base secCal o n) && decide (s.sx base secCal o n ≤ hi)
  wholeOr (decide (32 ≤ s.secLen base secCal) && c 0 1 0 10 && c 1 1 4 80 && c 2 2 1 65535 && c 4 2 4096 65535 && c 6 2 64 512 &&
    c 8 1 1 64 && c 9 1 5 100 && c 10 2 1 512 && c 12 2 60 65535 && c 14 2 1 3600 && c 16 2 1 256 &&
    s.sx base secCal 26 6 == 0) (areaFault as secCal)

/-- A channel that a converter's multiplexer has (R333). -/
def audChannel (i ch : Nat) : Bool :=
  if i < 4 then decide (ch ≤ 35) || (decide (40 ≤ ch) && decide (ch ≤ 42)) else decide (ch ≤ 18)

/-- Audit presets: for each converter eight entries, then eight limits (R337). -/
def State.checkAudit (s : State) (base : Nat) : Option Nat :=
  let entryBad (k : Nat) : Bool :=
    let i := k / 16
    let e := k % 16
    if 8 ≤ e then decide (2 ^ 28 ≤ s.sx base secAudit (16 + 96 * i + 64 + 4 * (e - 8)) 4)
    else
      let w : Word64 := BitVec.ofNat 64 (s.sx base secAudit (16 + 96 * i + 8 * e) 8)
      let span := bits w 59 54
      bits w 53 53 != 0 || bits w 47 45 != 0 || bits w 23 14 != 0 ||
        (bitOf w 63 && ((bitOf w 61 && (decide (bits w 44 40 < 24) || decide (31 < bits w 44 40 + span))) ||
          (bitOf w 60 && (decide (bits w 52 48 < 24) || decide (31 < bits w 52 48 + span))) ||
          decide (63 < bits w 5 0 + span) ||
          (range (bits w 5 0) (bits w 5 0 + span + 1)).any (fun ch => !audChannel i ch)))
  wholeOr (decide (592 ≤ s.secLen base secAudit) && s.sx base secAudit 0 16 == 0) (firstBad 96 entryBad)

/-! ### 0x0C account classes (R274, R322) -/

def State.checkClasses (s : State) (base : Nat) : Option Nat :=
  let h (o n : Nat) : Nat := s.sx base secClasses o n
  let n := h 0 2
  let cls (i o w : Nat) : Nat := h (32 + 32 * i + o) w
  let classBad (i : Nat) : Bool :=
    decide (3 < cls i 0 1) || decide (64 < cls i 1 1) || decide (8192 < cls i 2 2) || decide (32768 < cls i 4 4) ||
      decide (2 < cls i 8 1) || cls i 9 1 != 0 || (if cls i 8 1 = 2 then cls i 12 4 == 0 else cls i 12 4 != 0) ||
      cls i 16 16 != 0
  let acct (a o w : Nat) : Nat := h (32 + 32 * n + 8 * a + o) w
  let defined (a : Nat) : Bool := nbit (acct a 1 1) 0
  let acctBad (a : Nat) : Bool :=
    decide (15 < acct a 1 1) || (defined a && (decide (n ≤ acct a 0 1) || decide (1024 < acct a 2 2) ||
      decide (262144 < acct a 4 4 + acct a 2 2) ||
      (List.range a).any (fun b => defined b && decide (acct b 4 4 < acct a 4 4 + acct a 2 2) &&
        decide (acct a 4 4 < acct b 4 4 + acct b 2 2) && acct b 2 2 != 0 && acct a 2 2 != 0)))
  wholeOr (decide (1 ≤ n) && decide (n ≤ 256) && decide (1 ≤ h 2 2) && decide (1 ≤ h 4 2) && decide (1 ≤ h 6 2) &&
      decide (h 8 1 ≤ 15) && decide (h 9 1 ≤ 8) && decide (1 ≤ h 10 1) && decide (h 10 1 ≤ 4) && decide (1 ≤ h 11 1) &&
      decide (1 ≤ h 12 2) && decide (h 12 2 ≤ 4096) && h 14 18 == 0 &&
      decide (32 + 32 * n + 32768 ≤ s.secLen base secClasses))
    ((firstBad n classBad).orElse (fun _ => (firstBad 4096 acctBad).map (· + n)))

/-! ### 0x0D Clearing routes (R395, R403) -/

def State.checkRoutes (s : State) (base : Nat) : Option Nat :=
  let r (o n : Nat) : Nat := s.sx base secRoutes o n
  let node := r 0 2
  let role := r 2 1
  let en := r 26 2
  let route (k : Nat) : Nat := r (64 + 2 * k) 2
  let routeBad (k : Nat) : Bool :=
    let e := route k
    nbits e 14 8 != 0 || (nbit e 15 && (decide (11 < e % 16) || !nbit en (e % 16) ||
      (e / 16 % 16 != 0xF && (decide (11 < e / 16 % 16) || !nbit en (e / 16 % 16))))) || (k == node && nbit e 15)
  let win (i o n : Nat) : Nat := r (64 + 8192 + 16 * i + o) n
  let winBad (i : Nat) : Bool :=
    let a : Word64 := BitVec.ofNat 64 (win i 0 8)
    adNode a != node || win i 8 4 == 0 || decide (4096 ≤ win i 14 2) || nbit (win i 12 2) 12 || nbit (win i 12 2) 13 ||
      (List.range i).any (fun k => decide (win k 0 8 < win i 0 8 + win i 8 4 * 4096) &&
        decide (win i 0 8 < win k 0 8 + win k 8 4 * 4096))
  wholeOr (decide (node < 4096) && decide (role ≤ 2) && decide (r 3 1 ≤ 1) && decide (r 4 2 < 4096) &&
      (role != 1 || r 4 2 != node) && (nbit (r 6 2) 15 || r 3 1 == 0) && r 6 2 / 4096 % 8 == 0 && decide (100000 ≤ r 8 4) &&
      decide (r 8 4 ≤ 100000000) && decide (3 * r 8 4 ≤ r 12 4) && decide (r 12 4 ≤ r 16 4) && decide (1000 ≤ r 20 4) &&
      decide (r 20 4 ≤ 100000000) && decide (r 24 1 ≤ 64) && r 25 1 == 0 && decide (en < 4096) && r 36 28 == 0 &&
      decide (64 + 8192 + 16 * r 24 1 ≤ s.secLen base secRoutes))
    ((firstBad 4096 routeBad).orElse (fun _ => (firstBad (r 24 1) winBad).map (· + 4096)))

/-! ### The whole check -/

/-- The detail of CHARTER_CHECK and CHARTER_CONFLICT: section type and entry index. -/
def checkDetail (sec idx : Nat) : Nat := sec + idx % 2 ^ 24 * 256

/-- Order 6: the first section, in type order, that breaks a rule of the hardware check, as the answer's detail. -/
def State.hardwareCheck (s : State) (base : Nat) : Option Nat :=
  let as := s.areasOf base
  [(secDirectory, s.checkDirectory base as), (secLayers, s.checkLayers base as), (secPrograms, s.checkPrograms base as),
   (secFormats, s.checkFormats base as), (secMirror, s.checkMirror base as), (secTallies, s.checkTallies base),
   (secFolio, s.checkFolio base as), (secEngines, s.checkEngines base), (secCeiling, s.checkCeiling base),
   (secCal, s.checkCal base as), (secAudit, s.checkAudit base), (secClasses, s.checkClasses base),
   (secRoutes, s.checkRoutes base)].findSome? (fun e => e.2.map (checkDetail e.1))

/-- Order 7: a conflict with live sequences and active accounts under the posted Charter (R449). -/
def State.conflict (s : State) (base : Nat) : Option Nat :=
  if !s.serve.posted then none
  else
    let n := s.sx base secClasses 0 2
    let flags (a : Nat) : Nat := s.sx base secClasses (32 + 32 * n + 8 * a + 1) 1
    let inUse (a : Nat) : Bool := (s.acct a).active || s.seqs.any (fun e => e.2.st != 0 && e.2.account == a)
    let layersDiffer := s.anyLive && (s.sx base secLayers 36 2 != s.chr secLayers 37 36 || s.sx base secLayers 48 2 != s.chr secLayers 49 48)
    let folioDiffers := s.anyLive && (s.sx base secFolio 0 10 != s.geo 9 0 || s.sx base secFolio 20 4 != s.geo 23 20)
    if layersDiffer then some (checkDetail secLayers wholeSection)
    else if folioDiffers then some (checkDetail secFolio wholeSection)
    else (firstBad 4096 (fun a => inUse a && (!nbit (flags a) 0 || flags a / 2 % 2 != s.acctPort a))).map
      (fun a => checkDetail secClasses (n + a))

/-- The status and detail of a copied image (R446, orders 3 to 7); `programmed` tells whether the programming that the
check requires has succeeded. -/
def State.charterStatus (s : State) (base len gen : Nat) (programmed : Bool) : Nat × Nat :=
  if !s.charterTarget base gen then (stCharterTarget, 0)
  else if !s.charterSound base len then (stCharterSignature, 0)
  else if s.charterStale gen then (stCharterStale, 0)
  else match s.hardwareCheck base with
    | some d => (stCharterCheck, d)
    | none =>
      if !programmed then (stCharterCheck, checkDetail secDirectory wholeSection)
      else match s.conflict base with
        | some d => (stCharterConflict, d)
        | none => (stOk, 0)

/-! ### The programming of a check (R369, R375, R451) -/

/-- Bytes of a tile's slot of the shadow area under the staged Charter (R367). -/
def State.stagedShadow (s : State) (base t : Nat) : Nat :=
  keyOf 0 (vaultBase (tileDie t) + s.sx base secMirror 4 4 * 4096 + sliceIndex t * 36864)

/-- A taking-over tile: the origin's master plane and shadow in its areas, its bank programmed for the Live epoch and
Verified (R375). -/
def State.takeOver (s : State) (base t o : Nat) : State :=
  let d := s.stagedEntry base t
  let k := match s.covered.find? (fun u => (s.dirOf u).live.isSome) with
    | some u => ((s.dirOf u).live).getD false
    | none => false
  let plane := s.read (s.masterAt o) (2 ^ 19)
  let shadow := s.read (s.shadowAt o 0) 36864
  let s := s.write (keyOf 0 (vaultBase (tileDie t) + d.master.toNat * 4096)) plane
  let s := (s.write (till (tileDie t) d.aux.toNat) shadow).write (s.stagedShadow base t) shadow
  let s := (s.write (planeBase t k) plane).keepCrc0 t k
  let e := s.epochs.live.getD 0
  let s := s.setDir t (((s.dirOf t).setState k bankVerified).setEpoch k e)
  s.setTile t { s.tile t with masterEpoch := some e }

/-- A mirrored tile's partner holds its master plane in Bank B, Verified (R369). -/
def State.mirrorBank (s : State) (base t m : Nat) : State :=
  let d := s.stagedEntry base t
  let plane := s.read (keyOf 0 (vaultBase (tileDie t) + d.master.toNat * 4096)) (2 ^ 19)
  let s := (s.write (planeBase m true) plane).keepCrc0 m true
  s.setDir m (((s.dirOf m).setState true bankVerified).setEpoch true ((s.dirOf t).epoch false))

/-- What a check that ends ready has done: takeovers, mirrors, and for the first Charter the master planes of the tiles
that hold a Live bank. -/
def State.checkPrograms_ (s : State) (base : Nat) : State :=
  let es := (List.range 32768).map (fun t => (t, s.stagedEntry base t))
  let s := es.foldl (fun s e =>
    match e.2.tookOver with
    | some o => if (s.dirOf o).role = 1 ∨ (s.dirOf o).role = 3 then s.takeOver base e.1 o else s
    | none => s) s
  let s := if s.sx base secMirror 0 1 = 1 then
      es.foldl (fun s e =>
        match e.2.mate with
        | some m => if e.2.role = 1 then s.mirrorBank base e.1 m else s
        | none => s) s
    else s
  if s.serve.posted then s
  else
    es.foldl (fun s e =>
      match (s.dirOf e.1).live with
      | some k =>
        if e.2.holds && (s.tile e.1).masterEpoch.isNone then
          (s.write (keyOf 0 (vaultBase (tileDie e.1) + e.2.master.toNat * 4096)) (s.read (planeBase e.1 k) (2 ^ 19))).setTile e.1
            { s.tile e.1 with masterEpoch := some ((s.dirOf e.1).epoch k) }
        else s
      | none => s) s

/-- A staged image comes to the end of its copy and check (R446). Its bytes are those of a source inside the device, or the
ones that the copy brought. The answer waits for the next posting point. -/
def State.stageEnd (s : State) (image : List Byte) (programmed : Bool) : State :=
  match s.serve.stageTicket with
  | none => s
  | some t =>
    if s.serve.stageStatus.isSome then s
    else
      let len := t.field 19 16
      let gen := t.field 21 20
      let bytes := (s.ledgerRead (BitVec.ofNat 64 (t.field 15 8)) len).getD image
      let finish (s : State) (st d : Nat) : State :=
        { s with serve := { s.serve with staged := some (BitVec.ofNat 16 gen), stagedOk := st == stOk,
                                         stageStatus := some (BitVec.ofNat 16 st, BitVec.ofNat 32 d) } }
      if bytes.length ≠ len then
        { s with serve := { s.serve with staged := none, stagedOk := false,
                                         stageStatus := some (BitVec.ofNat 16 stFetchError, 0) } }
      else
        let s := s.write stagedSlot bytes
        let (st, d) := s.charterStatus stagedSlot len gen programmed
        finish (if st = stOk then s.checkPrograms_ stagedSlot else s) st d

/-! ### Meaning -/

/-- CHARTER_READY (R446). -/
def execCharterReady (image : List Byte) (programmed : Bool) (s : State) : Host.Outcome State Fault Refusal :=
  .next (s.stageEnd image programmed)

end Sys2Proof.Machine
end

