-- ==== Sys2Proof/Machine/Sampling.lean ====
section
/-! DEFINITION. SAMPLE (07 R227): drawing one token from a row's logits (09_serving_and_steps.md R298, R299). -/

namespace Sys2Proof.Machine

/-- Is one FP32 value at most another? NaN compares with nothing. -/
def fp32Le (a b : Nat) : Bool := (fp32.decode a).lt (fp32.decode b) || (!fp32.isNan a && !fp32.isNan b && !(fp32.decode b).lt (fp32.decode a))

/-- Does candidate `a` rank before `b`: the larger logit first, the lower index among equals? -/
def ranksBefore (a b : Nat × Nat) : Bool :=
  (fp32.decode b.2).lt (fp32.decode a.2) || (!(fp32.decode a.2).lt (fp32.decode b.2) && decide (a.1 < b.1))

/-- The `k` first candidates in rank order (R298 step 4). -/
def topRanked (k : Nat) (zs : List Nat) : List (Nat × Nat) :=
  (zs.zipIdx).foldl (fun best e => (insertBy ranksBefore (e.2, e.1) best).take k) []

/-- FP32 sums of a list from the left, one rounding for each addition. -/
def runningSums (xs : List Nat) : List Nat :=
  (xs.foldl (fun (acc : Nat × List Nat) x => let t := fp32.add acc.1 x; (t, acc.2 ++ [t])) (0, [])).2

/-- Candidates kept: up to the first at which the running share reaches `top_p` (R298 step 5). -/
def keepTo (p : Nat) (shares : List Nat) (n : Nat) : Nat :=
  match (runningSums shares).findIdx? (fun t => fp32Le p t) with
  | some i => i + 1
  | none => n

/-- Logits that yield no token: a NaN, a plus infinity, or minus infinity alone (R298 step 1). -/
def badLogits (zs : List Nat) : Bool :=
  zs.any (fun z => fp32.isNan z || z == fp32Inf) || zs.all (· == fp32NegInf)

/-- The token of R298 for FP32 logits, or none: `temp` and `top_p` are BF16 codes, `g` the tokens produced before. -/
def drawToken (zs : List Nat) (temp topP topK seed g : Nat) : Option Nat :=
  if badLogits zs then none
  else if temp % 2 ^ 15 = 0 then ((topRanked 1 zs).head?).map Prod.fst
  else
    let inv := fp32.div fp32One (temp * 2 ^ 16)
    let ys := zs.map (fun z => fp32.mul z inv)
    if ys.any (fun y => y == fp32Inf || fp32.isNan y) then none
    else
      let m := fp32MaxOf ys
      let x (y : Nat) : Nat := fnVal 1 (fp32.sub y m)
      let xs := ys.map x
      let z := ((Hoard.zero.addAll (xs.map fp32.decode)).readOut fp32).getD fp32.qnan
      let k := Nat.min (if topK = 0 then 256 else topK) zs.length
      let cand := topRanked k ys
      let p := if topP = 0 then fp32One else topP * 2 ^ 16
      let kept := cand.take (keepTo p (cand.map (fun c => fp32.div (x c.2) z)) cand.length)
      let sums := runningSums (kept.map (fun c => x c.2))
      let u := (Num.ofInt ((philox seed g 0 0 0).getD 0 0) (-32)).mul (fp32.decode (sums.getLast?.getD 0))
      let at_ := (sums.findIdx? (fun t => u.lt (fp32.decode t))).getD (kept.length - 1)
      (kept[at_]?).map Prod.fst

/-- The model's vocabulary (R329). -/
def State.vocab (s : State) : Nat := s.chr secLayers 35 32

/-- Store a token's number at an operand: added to what stands there under ACC (DESIGN CHOICE, log entry 24). -/
def State.putToken (s : State) (j : Job) (o : Operand) (g token : Nat) : State :=
  s.onDies o g (fun s a => s.writeNat a 4 ((if j.acc then s.readNat a 4 + token else token) % 2 ^ 32))

/-- SAMPLE: a row that does not sample draws nothing (R293; DEDUCED, log entry 46). -/
def sampleWork (j : Job) (s : State) : Done :=
  let a := s.opnd j (j.body 55 48)
  let o := s.opnd j (j.body 47 40)
  let ga := s.opGranule j a (j.body 39 28)
  let go := s.opGranule j o (j.body 39 28)
  if a.len < s.vocab then failed s reasonOperand
  else if !inTill ga a.fmt a.len then failed s reasonWindow
  else if destFault j o go 1 ≠ 0 then failed s (destFault j o go 1)
  else match (s.rowsIn j.prog)[j.row]? with
    | none => done s
    | some r =>
      if !r.sample || j.row == wholeBatch then done s
      else
        let (vs, bad) := s.vals (till (a.readDie j.die) (32 * ga)) a.fmt s.vocab
        let s := s.addRec j.layer recInvalid bad
        if vs.any Option.isNone then done (s.poisonRows j)
        else
          let q := s.seq r.slot
          let zs := vs.map (fun v => fp32.encode (v.getD .nan))
          match drawToken zs q.temp.toNat q.topP.toNat q.topK q.seed.toNat q.produced with
          | none => done ((s.fault (s.tellJob j (faultUnit clsFormat j.unit 0 0xFF))).poisonRows j)
          | some tk =>
            done ((s.putToken j o go tk).markRows j.prog j.row (fun w => { w with token := some tk }))

/-! ### Meaning -/

/-- SAMPLE (R227, R298). -/
def execSample (u : EngUnit) (decode : Bool) (s : State) : Host.Outcome State Fault Refusal :=
  .next (s.issue u decode 8 0 sampleWork)

end Sys2Proof.Machine
end

