-- ==== Sys2Proof/Machine/Ledger.lean ====
section
/-! DEFINITION. Sequences and the Folio Ledger at a posting point: slots, regions, compaction, endings
(09_serving_and_steps.md R275 to R278, R289, R296; 06_attention_and_folios.md R178 to R182) and items 1 to 4 of R192. -/

namespace Sys2Proof.Machine

/-! ### Sequences (R275 to R278) -/

/-- The live sequences, by slot. -/
def State.live (s : State) : List (Nat × Seq) := s.seqs.filter (fun e => e.2.st != 0)

/-- The live sequences of an account. -/
def State.liveOf (s : State) (a : Nat) : List (Nat × Seq) := s.live.filter (fun e => e.2.account == a)

/-- Has this posting point given the sequence its end (R289)? Its slot and region go at action 7. -/
def Seq.ending (q : Seq) : Bool := q.st != 0 && q.endStatus.isSome

/-- Slots withdrawn (R277). -/
def State.withdrawnSlots (s : State) : Nat := (s.seqs.filter (fun e => e.2.st == 0 && e.2.withdrawn)).length

/-- Free slots: neither live nor withdrawn. -/
def State.freeSlots_ (s : State) : Nat := 8192 - s.live.length - s.withdrawnSlots

/-- The Free slot that has been Free longest; the lowest among those no sequence has left (R277; DESIGN CHOICE, log entry 47). -/
def State.nextSlot (s : State) : Option Nat :=
  let fresh := lowestFree (s.seqs.map Prod.fst) 0
  let idle := s.seqs.filter (fun e => e.2.st == 0 && !e.2.withdrawn)
  let start : Option (Nat × Nat) := if fresh < 8192 then some (0, fresh) else none
  (idle.foldl (fun (b : Option (Nat × Nat)) e =>
    match b with
    | none => some (e.2.freedAt, e.1)
    | some x => if e.2.freedAt < x.1 ∨ (e.2.freedAt = x.1 ∧ e.1 < x.2) then some (e.2.freedAt, e.1) else some x)
    start).map Prod.snd

/-! ### Token logs (R202) -/

/-- The key of the log entry of position `t` of a slot. -/
def State.tokenKey (s : State) (slot t : Nat) : Nat :=
  keyOf 0 (vaultBase (slot % 4) + s.geo 31 28 * 4096 + slot / 4 * 2 ^ 20 + 4 * t)

/-- Append a token to a log. -/
def State.logToken (s : State) (slot t token : Nat) : State := s.writeNat (s.tokenKey slot t) 4 token

/-! ### Regions (R178 to R180) -/

/-- The lowest index from `b` on at which `n` entries lie free; `ks` are the entries taken, rising. -/
def fitFrom (n : Nat) : List Nat → Nat → Option Nat
  | [], b => if b + n ≤ 32768 then some b else none
  | k :: ks, b => if b + n ≤ k then some b else fitFrom n ks (k + 1)

/-- The longest run of free entries from `b` on. -/
def runFrom : List Nat → Nat → Nat
  | [], b => 32768 - b
  | k :: ks, b => Nat.max (k - b) (runFrom ks (k + 1))

/-- First fit for a region (R179). -/
def State.firstFit (s : State) (n : Nat) : Option Nat := fitFrom n (s.folio.map Prod.fst) 0

/-- The longest run of Free entries. -/
def State.longestRun (s : State) : Nat := runFrom (s.folio.map Prod.fst) 0

/-- Entries that regions hold, pending ones counted as taken (R180). -/
def State.entriesTaken (s : State) : Nat :=
  s.folio.length + (s.live.filter (fun e => e.2.unplaced)).foldl (fun n e => n + e.2.entries) 0

/-- Entries of an account's regions: what its folio quota counts (R179). -/
def State.entriesOf (s : State) (a : Nat) : Nat := (s.liveOf a).foldl (fun n e => n + e.2.entries) 0

/-- The entries of a placed region. -/
def Seq.regionEntries (q : Seq) : List Nat := if q.unplaced then [] else range q.region (q.region + q.entries)

/-- Give a slot a region at `b`: every entry Reserved. -/
def State.placeRegion (s : State) (slot b : Nat) : State :=
  let q := s.seq slot
  (range b (b + q.entries)).foldl (fun s e => s.setFolio e { Folio.free with st := 1, slot := slot })
    (s.setSeq slot { q with region := b, unplaced := false })

/-- Is an entry one of a region? -/
def Seq.owns (q : Seq) (e : Nat) : Bool := !q.unplaced && decide (q.region ≤ e) && decide (e < q.region + q.entries)

/-- Free a region with its frames, Reserve slots and staging slots (R192 item 2). -/
def State.freeRegion (s : State) (slot : Nat) : State :=
  let q := s.seq slot
  { s with folio := s.folio.filter (fun e => !q.owns e.1), staging := s.staging.filter (fun e => !q.owns e.2.entry) }

/-- The placed live sequences in the order of their regions. -/
def State.byRegion (s : State) : List (Nat × Seq) :=
  sortBy (fun a b => decide (a.2.region ≤ b.2.region)) (s.live.filter (fun e => !e.2.unplaced))

/-- Move every region down to the lowest free indices, in order of base (R180). -/
def State.moveRegions (s : State) : State :=
  let step (acc : State × Nat × List (Nat × Folio)) (e : Nat × Seq) : State × Nat × List (Nat × Folio) :=
    let moved := (s.folio.filter (fun x => e.2.owns x.1)).map (fun x => (x.1 - e.2.region + acc.2.1, x.2))
    (acc.1.setSeq e.1 { e.2 with region := acc.2.1 }, acc.2.1 + e.2.entries, acc.2.2 ++ moved)
  let r := s.byRegion.foldl step (s, 0, [])
  { r.1 with folio := r.2.2 }

/-- Compaction where a region is pending, then the pending regions by first fit in intake order (R180). -/
def State.compact (s : State) : State :=
  let waiting := sortBy (fun a b => decide (a.2.accepted ≤ b.2.accepted)) (s.live.filter (fun e => e.2.unplaced))
  if waiting.isEmpty then s
  else
    let s := (List.range 4).foldl (fun s d => s.bump (FOL_CNT_COMPACT d) 1) s.moveRegions
    waiting.foldl (fun s e =>
      match s.firstFit e.2.entries with
      | some b => s.placeRegion e.1 b
      | none => s) s

/-! ### Endings (R289, R296, R301) -/

/-- An entry about a sequence, for its home lane (R300). -/
def State.say (s : State) (slot : Nat) (e : Entry) : State :=
  let q := s.seq slot
  { s with serve := { s.serve with said := s.serve.said ++ [⟨slot, q.port, q.lane, e⟩] } }

/-- A sequence ends with a status: its End entry; the first end that a posting point gives it stands. A ticket whose token
fetch it discards is answered OK (R291; DESIGN CHOICE, log entry 52). -/
def State.endSeq (s : State) (slot status : Nat) : State :=
  let q := s.seq slot
  if q.st = 0 ∨ q.endStatus.isSome = true then s
  else
    let s := match q.fetch with
      | some t => s.reply t stOk (s.handleOf slot) 0
      | none => s
    let s := s.say slot (Entry.finish status (s.handleOf slot) q.produced q.cookie.toNat)
    s.setSeq slot { q with endStatus := some (BitVec.ofNat 16 status), fetch := none, fetched := none }

/-- A slot becomes Free (R277): the endorsement loses a reference, and a slot at the last generation is withdrawn. -/
def State.freeSeq (s : State) (slot : Nat) : State :=
  let q := s.seq slot
  let s := s.freeRegion slot
  let s := match q.endo with
    | some n => s.putEndo n { s.endoOf n with refs := (s.endoOf n).refs - 1 }
    | none => s
  let last := decide (q.gen = 0x7FFFF)
  let s := { s with serve := { s.serve with frees := s.serve.frees + 1 } }
  let s := s.setSeq slot { Seq.fresh with gen := q.gen, withdrawn := last, endStatus := q.endStatus, freedAt := s.serve.frees }
  if last then s.eventAll 0x05 slot s.withdrawnSlots else s

/-- End a sequence and free its slot at once: for the ends of action 8 on. -/
def State.retireNow (s : State) (slot status : Nat) : State :=
  if (s.seq slot).st = 0 then s else (s.endSeq slot status).freeSeq slot

/-- Generation ends with `park` set (R296): the End entry shows PARKED, with the completing status's low byte in byte 1 (log
entry 48). A Parked sequence has no deadline and pins no epoch (R290, R319). -/
def State.parkSeq (s : State) (slot status : Nat) : State :=
  let q := s.seq slot
  let e := Entry.finish stParked (s.handleOf slot) q.produced q.cookie.toNat
  let s := s.say slot { e with b1 := BitVec.ofNat 8 status }
  s.setSeq slot { q with st := 6, deadline := 0, epoch := none, peerHeld := false, waited := 0, deferred := 0, faults := 0 }

/-- Generation ends (R296). -/
def State.completeSeq (s : State) (slot status : Nat) : State :=
  if (s.seq slot).park then s.parkSeq slot status else s.endSeq slot status

/-! ### Reserve windows (R193, R194, R202) -/

/-- The base of a Reserve window, its size in Reserve slots, and the bytes of a Reserve slot. -/
def State.winBase (s : State) (n : Nat) : Word64 := BitVec.ofNat 64 (s.geo (48 + 16 * n + 7) (48 + 16 * n))
/-- See `winBase`. -/
def State.winSlots (s : State) (n : Nat) : Nat := s.geo (48 + 16 * n + 11) (48 + 16 * n + 8)
/-- See `winBase`. -/
def State.reserveBytes (s : State) : Nat := 4 * s.pitchBytes
/-- Windows of the Charter. -/
def State.winCount (s : State) : Nat := s.geo 32 32

/-- Is a window reachable (R194)? -/
def State.winReach (s : State) (n : Nat) : Bool :=
  let b := s.winBase n
  if s.ownNode b then (adSpace b == 5 && s.portUp 0) || (adSpace b == 6 && s.portUp 1)
  else (s.routeOf (adNode b)).isSome

/-- Does an entry hold a Reserve slot (R182)? -/
def Folio.reserved (x : Folio) : Bool := x.st == 4 || x.st == 5

/-- The Reserve slots of a window that entries hold, rising. -/
def State.winUsed (s : State) (n : Nat) : List Nat :=
  let b := (s.winBase n).toNat
  sortBy (fun x y => decide (x ≤ y)) ((s.folio.filter (fun e => e.2.reserved && decide (b ≤ e.2.reserve.toNat) &&
    decide (e.2.reserve.toNat < b + s.winSlots n * s.reserveBytes))).map (fun e => (e.2.reserve.toNat - b) / s.reserveBytes))

/-- Free slots of a window. -/
def State.winFree (s : State) (n : Nat) : Nat := s.winSlots n - (s.winUsed n).length

/-- A free slot in the first reachable window from `n` on, in Charter order: its window and its address. -/
def State.reserveSlot (s : State) (n : Nat) : Option (Nat × Word64) :=
  (range n s.winCount).findSome? (fun w =>
    let k := lowestFree (s.winUsed w) 0
    if s.winReach w && decide (k < s.winSlots w) then
      some (w, s.winBase w + BitVec.ofNat 64 (k * s.reserveBytes))
    else none)

/-! ### The Ledger's posting actions (R192 to R197) -/

/-- Frames of a stack, and those in use (R192). -/
def State.frames (s : State) : Nat := s.geo 7 6
/-- Is an entry's frame in use? -/
def Folio.inFrame (x : Folio) : Bool := x.st == 2 || x.st == 3 || x.st == 4 || x.st == 7
/-- See `frames`. -/
def State.framesUsed (s : State) : Nat := (s.folio.filter (fun e => e.2.inFrame)).length

/-- Drop a folio (R194): its frame is free, and the sequence's recompute clock starts with its first drop (R197). -/
def State.dropFolio (s : State) (e step : Nat) : State :=
  let x := s.folioOf e
  let s := s.setFolio e { Folio.free with st := 6, slot := x.slot, fill := x.fill, pin := x.pin, lastRead := x.lastRead }
  let q := s.seq x.slot
  let s := if q.dropStep.isNone then s.setSeq x.slot { q with dropStep := some step } else s
  (List.range 4).foldl (fun s d => s.bump (FOL_CNT_DROP d) 1) s

/-- A spill copy fails: the next window, or none is left (R193). -/
def State.nextWindow (s : State) (e step : Nat) : State :=
  let x := s.folioOf e
  match s.reserveSlot (x.window + 1) with
  | some (w, a) => s.setFolio e { x with window := w, reserve := a, copied := [], failed := false, tainted := false }
  | none => s.dropFolio e step

/-- Item 1: spill copies that have ended (R193, R196). -/
def State.spillsDone (s : State) (step : Nat) : State :=
  (s.folio.filter (fun e => e.2.st == 4)).foldl (fun s e =>
    let x := s.folioOf e.1
    if x.failed then s.nextWindow e.1 step
    else if x.copied.length = 4 then
      s.setFolio e.1 { x with st := 5, frame := none, poisoned := x.poisoned || x.tainted, copied := [], tainted := false }
    else s) s

/-- Spilled folios that a prefetch has lost are Dropped, and every staging slot is free (R195). -/
def State.lostFolios (s : State) (step : Nat) : State :=
  let s := (s.folio.filter (fun e => e.2.st == 5 && e.2.failed)).foldl (fun s e => s.dropFolio e.1 step) s
  { s with staging := [] }

/-- Item 3: `fill` follows the tokens that have run; a full folio is Sealed. -/
def State.fillSeq (s : State) (slot : Nat) : State :=
  let q := s.seq slot
  if q.st = 0 then s
  else
    (range (q.nextPos / 256 - 16) (q.nextPos / 256 + 1)).foldl (fun s f =>
      let x := s.folioOf (q.region + f)
      if !q.unplaced && decide (f < q.entries) && x.st == 2 then
        let n := Nat.min 256 (q.nextPos - 256 * f)
        s.setFolio (q.region + f) { x with fill := n, st := if n = 256 then 3 else 2 }
      else s) s

/-- A recompute slice has run (R197): the entry is Sealed, or Open for the sequence's last folio; withheld, it is Dropped
again. -/
def State.recomputed (s : State) (e step : Nat) (ok : Bool) : State :=
  let x := s.folioOf e
  if x.st ≠ 7 then s
  else if ok then
    let s := s.setFolio e { x with st := if x.fill = 256 then 3 else 2, recomp := true, guardTo := step + s.geo 17 16 }
    (List.range 4).foldl (fun s d => s.bump (FOL_CNT_RECOMP d) 1) s
  else s.setFolio e { x with st := 6, frame := none }

/-- Has a sequence a folio that is not restored? -/
def State.unrestored (s : State) (slot : Nat) : Bool :=
  (s.seq slot).regionEntries.any (fun e => (s.folioOf e).st == 6 || (s.folioOf e).st == 7)

/-- Decode and Recovering follow the Dropped folios (R275). A sequence that takes no slices for now, being Parked, Fetching
or held, starts its recompute clock when it takes them again (R197; DEDUCED, log entry 49). -/
def State.recovery (s : State) (slot step : Nat) : State :=
  let q := s.seq slot
  let bad := s.unrestored slot
  let q := if q.st = 4 ∧ bad = true then { q with st := 5 } else if q.st = 5 ∧ bad = false then { q with st := 4 } else q
  let q := if !bad then { q with dropStep := none }
    else if q.st = 1 ∨ q.st = 6 ∨ q.peerHeld = true then { q with dropStep := some step } else q
  s.setSeq slot q

/-- Does victim `a` go before `b`: the older first, then the lower position, then the lower slot (R192)? -/
def victimLe (a b : Nat × Nat × Nat × Nat) : Bool :=
  decide (b.2.1 < a.2.1) || (a.2.1 == b.2.1 && (decide (a.2.2.1 < b.2.2.1) || (a.2.2.1 == b.2.2.1 && decide (a.2.2.2 ≤ b.2.2.2))))

/-- The entries that may be victims, in the order of their taking: entry, age, position, slot. -/
def State.victims (s : State) (step : Nat) : List (Nat × Nat × Nat × Nat) :=
  sortBy victimLe ((s.folio.filter (fun e => e.2.st == 3 && !e.2.pin && decide (e.2.guardTo ≤ step))).map (fun e =>
    (e.1, step - e.2.lastRead, e.1 - (s.seq e.2.slot).region, e.2.slot)))

/-- Spill a victim, or drop it (R193, R194). -/
def State.spillVictim (s : State) (e step : Nat) : State :=
  match (if s.geo 13 13 = 1 then none else s.reserveSlot 0) with
  | some (w, a) =>
    s.setFolio e { s.folioOf e with st := 4, reserve := a, window := w, copied := [], failed := false, tainted := false }
  | none => s.dropFolio e step

/-- Item 4: spill selection between the high- and the low-water marks (R192). -/
def State.selectSpills (s : State) (step : Nat) : State :=
  let used := s.framesUsed
  if used * 100 ≤ s.geo 10 10 * s.frames then s
  else
    let want := used - s.geo 11 11 * s.frames / 100
    ((s.victims step).take want).foldl (fun s v => s.spillVictim v.1 step) s

/-- Action 7: items 1 to 4 of R192, with the endings of the posting point; `done` lists the recompute slices of the step:
entry and whether it succeeded. -/
def State.ledgerActions (s : State) (step : Nat) (done : List (Nat × Bool)) : State :=
  let s := s.spillsDone step
  let s := (s.live.filter (fun e => e.2.ending)).foldl (fun s e => s.freeSeq e.1) s
  let s := done.foldl (fun s e => s.recomputed e.1 step e.2) s
  let s := s.live.foldl (fun s e => (s.fillSeq e.1).recovery e.1 step) s
  let s := s.selectSpills step
  s.live.foldl (fun s e => s.recovery e.1 step) s

end Sys2Proof.Machine
end

