-- ==== Sys2Proof/Machine/Ladder.lean ====
section
/-! DEFINITION. Action 6 of a posting point: the norm watch, the fall-back ladder and the layer format records
(03_number_formats_and_accumulation.md R68 to R72, R86 to R90), with the storm of 09_serving_and_steps.md R295. A request's
key is 2 × layer, plus 1 for the backward rung. -/

namespace Sys2Proof.Machine

/-! ### The norm watch (R86, R87) -/

/-- The square root of plus `p / q` in FP32, rounded once. -/
def rootQ (p q : Nat) : Nat :=
  if p = 0 then 0
  else
    let k : Int := (200 - log2Q p q) / 2
    let (a, b) := scaleQ p q (-(2 * k))
    let r := isqrt (a / b)
    let r2 := 2 * r + (if r * r * b = a then 0 else 1)
    let (x, y) := if 0 ≤ k + 1 then (r2, 2 ^ (k + 1).toNat) else (r2 * 2 ^ (-(k + 1)).toNat, 1)
    (fp32.roundPos x y).1

/-- The RMS of a sum of squares, rounded once to FP32; of poison, the quiet NaN (DEDUCED, log entry 50). -/
def rmsCode (h : Hoard) : Nat :=
  match h.value with
  | none => fp32.qnan
  | some (.fin _ _ _) => rootQ h.val.toNat (h.terms * 2 ^ 270)
  | some (.inf _) => fp32Inf
  | some .nan => fp32.qnan

/-- m + (r - m) / 16, each operation rounded once in FP32 (DESIGN CHOICE, log entry 35). -/
def meanStep (m r : Nat) : Nat := fp32.add m (fp32.div (fp32.sub r m) (fp32.ofInt 16))

/-- A ratio of a request's severity; 0 over 0 is 0 (DEDUCED, log entry 50). -/
def ratioCode (a b : Nat) : Nat := let q := fp32.div a b; if fp32.isNan q then 0 else q

/-- Where a watch keeps its mean, and the flag bit that shows it seeded (R90). -/
def meanAt (back : Bool) : Nat := if back then 40 else 32
/-- See `meanAt`. -/
def seededBit (back : Bool) : Nat := if back then 4 else 3

/-- What a watch found in the step: whether it triggered, and the ratio of R69; none where the layer had no tokens. -/
structure Watched where
  trigger : Bool
  ratio   : Nat

/-- A 1-byte flags field with a bit set or cleared. -/
def withBit (f k : Nat) (v : Bool) : Nat := f - (if nbit f k then 2 ^ k else 0) + (if v then 2 ^ k else 0)

/-- Set or clear a flag of a layer's record (R90). -/
def State.setRecFlag (s : State) (l k : Nat) (v : Bool) : State := s.setRec l 2 2 (withBit (s.recFld l 2 2) k v)

/-- One watch of one layer at a posting point (R86, R87); `warm` is the layer's warm-up before it. -/
def State.watchLayer (s : State) (l : Nat) (back : Bool) (warm : Nat) : State × Watched :=
  let h := look Hoard.zero s.watch (2 * l + back.toNat)
  if h.terms = 0 then (s, ⟨false, 0⟩)
  else
    let o := meanAt back
    let r := rmsCode h
    let ok := fp32Finite r
    let m := s.recFld l (o + 3) o
    let seeded := nbit (s.recFld l 2 2) (seededBit back)
    let policy := if back then s.layerPol l 15 14 else s.layerPol l 13 12
    let past := seeded && (((fp32.decode m).mul (Num.ofInt policy (-8))).lt (fp32.decode r))
    let ratio := if !ok then fp32Inf else if seeded then ratioCode r m else 0
    let s := s.setRec l (o + 7) (o + 4) r
    let s := if ok then (s.setRec l (o + 3) o (if seeded then meanStep m r else r)).setRecFlag l (seededBit back) true else s
    let s := if !back && decide (0 < warm) then
        (s.setRec l 3 3 (warm - 1)).setRecFlag l 2 (decide (1 < warm)) else s
    (s, ⟨warm == 0 && (!ok || past), ratio⟩)

/-! ### Requests (R68, R69) -/

/-- Strike rungs of a layer (R68). -/
def State.layerRungs (s : State) (l : Nat) : Nat :=
  strikeRungs (s.narrowest 0 l (Nat.max (s.inputLen 0) (s.inputLen 3)))

/-- A layer's forward or backward rung, its hold, and the policy's hold count. -/
def State.rungOf (s : State) (k : Nat) : Nat := s.recFld (k / 2) (k % 2) (k % 2)
/-- See `rungOf`. -/
def State.holdOf (s : State) (k : Nat) : Nat := s.recFld (k / 2) (4 + 2 * (k % 2) + 1) (4 + 2 * (k % 2))
/-- See `rungOf`. -/
def State.setHold (s : State) (k v : Nat) : State := s.setRec (k / 2) (4 + 2 * (k % 2) + 1) (4 + 2 * (k % 2)) v
/-- See `rungOf`. -/
def State.fullHold (s : State) (k : Nat) : Nat := s.layerPol (k / 2) 7 6

/-- Does a rung stand at the layer's highest (R68)? -/
def State.atTop (s : State) (k : Nat) : Bool :=
  let top := s.layerPol (k / 2) 5 5
  s.rungOf k == 0x0F || (top != 0x0F && decide (top ≤ s.rungOf k))

/-- The tiles of a layer that hold weights or mirrors. -/
def State.layerTiles (s : State) (l : Nat) : List Nat :=
  (s.dir.filter (fun e => e.2.holds && e.2.lay == l)).map Prod.fst

/-- The requests a layer makes in the step (R69): keys with FP32 severities. A norm-watch trigger starts bursts (R88). -/
def State.askLayer (s : State) (l : Nat) : State × List (Nat × Nat) :=
  let warm := s.recFld l 3 3
  let (s, f) := s.watchLayer l false warm
  let (s, g) := s.watchLayer l true warm
  let sat := s.recFld l 11 8
  let limit := s.layerPol l 11 8
  let past := limit != 0 && decide (limit < sat)
  let first := if limit = 0 then 0 else fp32.div (fp32.ofInt sat) (fp32.ofInt limit)
  let s := if f.trigger || g.trigger then (s.layerTiles l).foldl (fun s t => s.startBurst t) s else s
  (s, (if past || f.trigger then [(2 * l, fp32Max first f.ratio)] else []) ++
    (if g.trigger then [(2 * l + 1, g.ratio)] else []))

/-- The requests of every layer. -/
def State.askAll (s : State) : State × List (Nat × Nat) :=
  (List.range s.layerCount).foldl (fun (acc : State × List (Nat × Nat)) l =>
    let (s, rs) := acc.1.askLayer l
    (s, acc.2 ++ rs)) (s, [])

/-! ### Decisions (R70 to R72) -/

/-- The directory's digital flag follows the layer's digital rung; a tile in digital fall-back keeps it (R130, R374). -/
def State.markDigital (s : State) (l : Nat) (on : Bool) : State :=
  (s.layerTiles l).foldl (fun s t =>
    let keep := s.log.fenced.contains (dieMint (tileMint t), blkTile, t)
    s.setDir t ((s.dirOf t).mark 2 (on || keep))) s

/-- Put a layer on a rung. -/
def State.setRung (s : State) (k v : Nat) : State :=
  let old := s.rungOf k
  let s := s.setRec (k / 2) (k % 2) (k % 2) v
  if k % 2 = 0 ∧ (old = 0x0F ∨ v = 0x0F) then s.markDigital (k / 2) (v == 0x0F) else s

/-- A request refused at the highest rung (R68). -/
def State.refuseAsk (s : State) (k : Nat) : State := (s.addRec (k / 2) 60 1).setHold k (s.fullHold k)

/-- A granted request raises its rung (R70). -/
def State.grantAsk (s : State) (k : Nat) : State :=
  let r := s.rungOf k
  let s := s.setRung k (if r + 1 < s.layerRungs (k / 2) then r + 1 else 0x0F)
  (s.addRec (k / 2) 48 1).setHold k (s.fullHold k)

/-- A layer without a request: its hold runs down, and at 0 it drops a rung (R71). -/
def State.cool (s : State) (k : Nat) : State :=
  let h := s.holdOf k
  let r := s.rungOf k
  if h = 0 then s
  else if h = 1 ∧ 0 < r then
    (s.setRung k (if r = 0x0F then s.layerRungs (k / 2) - 1 else r - 1)).setHold k (s.fullHold k)
  else s.setHold k (h - 1)

/-- Does a request go before another: the larger severity, then the lower layer, forward first (R72)? -/
def askLe (a b : Nat × Nat) : Bool := decide (b.2 < a.2) || (a.2 == b.2 && decide (a.1 ≤ b.1))

/-- Layers that rise in one step (R72). -/
def State.askBudget (s : State) : Nat := Nat.max 1 (s.chr secFormats 0 0 * s.layerCount / 100)

/-- Decide a step's requests: refusals, grants, holds, and what stays pending. -/
def State.decideAsks (s : State) (asked : List (Nat × Nat)) : State :=
  let refused := (asked.filter (fun e => s.atTop e.1)).map Prod.fst
  let fresh := asked.filter (fun e => !s.atTop e.1)
  let all := fresh.foldl (fun m e => (e.1, e.2) :: m.filter (fun x => x.1 != e.1))
    (s.serve.asks.map (fun e => (e.1, e.2 - 1)))
  let order := sortBy askLe all
  let granted := (order.take s.askBudget).map Prod.fst
  let waiting := order.drop s.askBudget
  let counted := refused ++ order.map Prod.fst
  let s := refused.foldl (fun s k => s.refuseAsk k) s
  let s := granted.foldl (fun s k => s.grantAsk k) s
  let s := (List.range (2 * s.layerCount)).foldl (fun s k => if counted.contains k then s else s.cool k) s
  { s with serve := { s.serve with asks := putAll 0 [] (waiting.map (fun e => (e.1, e.2 + 1))) } }

/-- A layer's pending flags, the severity shown, and its step counters into the totals and back to 0 (R90). -/
def State.closeRecord (s : State) (l : Nat) : State :=
  let fwd := s.serve.asks.find? (fun e => e.1 == 2 * l)
  let bwd := s.serve.asks.find? (fun e => e.1 == 2 * l + 1)
  let sev := match fwd, bwd with
    | some e, _ => e.2 - 1
    | none, some e => e.2 - 1
    | none, none => 0
  let s := (s.setRecFlag l 0 fwd.isSome).setRecFlag l 1 bwd.isSome
  let s := (s.setRec l 59 56 sev).addRec l 52 (s.recFld l 11 8)
  s.setRec l 31 8 0

/-- Layers with a request pending. -/
def State.pendingLayers (s : State) : Nat := ((s.serve.asks.map (fun e => e.1 / 2)).eraseDups).length

/-- A storm begins or ends (R295). -/
def State.storm (s : State) (step : Nat) : State :=
  let n := s.pendingLayers
  if s.serve.storm = false ∧ 0 < n then
    (({ s with serve := { s.serve with storm := true, stormAt := step } } : State).setFlag GLB_SERVE 31 true).eventAll 0x01 n 0
  else if s.serve.storm = true ∧ n = 0 then
    (({ s with serve := { s.serve with storm := false } } : State).setFlag GLB_SERVE 31 false).eventAll 0x02
      (step - s.serve.stormAt) 0
  else s

/-- Action 6. -/
def State.formatActions (s : State) (step : Nat) : State :=
  let (s, asked) := s.askAll
  let s := s.decideAsks asked
  let s := (List.range s.layerCount).foldl (fun s l => s.closeRecord l) s
  ({ s with watch := [] } : State).storm step

/-- A layer's record as a posting Charter leaves it: all zero, warming up (R87, R90; DEDUCED, log entry 51). -/
def State.freshRecord (s : State) (l : Nat) : State :=
  (s.write (s.recAt l 0) (List.replicate 64 0)).setRec l 3 2 (16 * 256 + 4)

/-- A layer warms up again because its weight epoch has changed (R87). -/
def State.warmAgain (s : State) (l : Nat) : State :=
  (((s.setRec l 3 3 16).setRecFlag l 2 true).setRecFlag l 3 false).setRecFlag l 4 false

end Sys2Proof.Machine
end

