-- ==== Sys2Proof/Machine/Intake.lean ====
section
/-! DEFINITION. Tickets at a posting point (09_serving_and_steps.md R279 to R287, R290 to R292): refusal in the order of R283,
and what each type does. -/

namespace Sys2Proof.Machine

/-! ### Ticket types (R279) -/

def tyAdmit : Nat := 0x01
def tyExtend : Nat := 0x02
def tyCancel : Nat := 0x03
def tyRetire : Nat := 0x04
def tyEndo : Nat := 0x05
def tyWeights : Nat := 0x06
def tyStage : Nat := 0x07
def tyPost : Nat := 0x08
def tyProbe : Nat := 0x09
def tyQuery : Nat := 0x0A

/-- `release` of an Extend (R282). -/
def Ticket.release (t : Ticket) : Bool := t.type == tyExtend && nbit t.flags 0
/-- `park`, `tune` and `peer` of an Admit (R281). -/
def Ticket.tune (t : Ticket) : Bool := nbit t.flags 1
/-- The handle a ticket names. -/
def Ticket.handle (t : Ticket) : Nat := if t.type = tyQuery then t.field 15 12 else t.field 11 8
/-- Its slot and its generation (R276). -/
def Ticket.hSlot (t : Ticket) : Nat := t.handle % 8192
/-- See `hSlot`. -/
def Ticket.hGen (t : Ticket) : Nat := t.handle / 8192
/-- `what` of a Query (R285). -/
def Ticket.what (t : Ticket) : Nat := t.field 8 8
/-- Does a ticket name a handle? -/
def Ticket.hasHandle (t : Ticket) : Bool :=
  t.type == tyExtend || t.type == tyCancel || t.type == tyRetire || (t.type == tyQuery && t.what == 1)
/-- A deadline in the ticket: of an Admit or an Extend without `release`. -/
def Ticket.deadline (t : Ticket) : Nat := if t.type = tyAdmit then t.field 43 36 else t.field 31 24
/-- Does a ticket start or go on with a sequence, so that R283's rows about deadlines ask about it? -/
def Ticket.starts (t : Ticket) : Bool := t.type == tyAdmit || (t.type == tyExtend && !t.release)

/-! ### Refusal (R283, R418) -/

/-- Flag bits that a type defines. -/
def flagsOf (ty : Nat) : Nat := if ty = tyAdmit then 8 else if ty = tyExtend ∨ ty = tyEndo then 2 else 1

/-- Body bytes that a type reserves, as [hi:lo] ranges (R281, R282). -/
def reservedOf (t : Ticket) : List (Nat × Nat) :=
  match t.type with
  | 0x01 => [(19, 19), (35, 34), (59, 52)]
  | 0x02 => [(59, 32)]
  | 0x03 => [(59, 12)]
  | 0x04 => [(59, 12)]
  | 0x05 => [(15, 10), (59, 28)]
  | 0x06 => [(59, 22)]
  | 0x07 => [(59, 22)]
  | 0x08 => [(59, 10)]
  | 0x09 => [(59, 20)]
  | 0x0A => [(11, 9), (59, 28)] ++ (if t.what = 1 then [] else [(15, 12)])
  | _ => []

/-- BAD_TICKET. -/
def Ticket.malformed (t : Ticket) : Bool :=
  decide (t.type < 1) || decide (tyQuery < t.type) || decide (flagsOf t.type ≤ t.flags) || decide (4096 ≤ t.field 3 2) ||
    (reservedOf t).any (fun r => t.field r.1 r.2 != 0) || (t.type == tyQuery && decide (4 ≤ t.what))

/-- Is a lane bound to another account, or an unbound lane of a VF; or the ticket one for account 0 on a VF's lane (R418)? -/
def State.laneRefuses (s : State) (t : Ticket) : Bool :=
  let r := TLR_LSTAT t.port t.lane
  let vf := s.laneFn t.port t.lane != 0
  (if s.flag r 27 then s.fld r 23 12 != t.account else vf) || (vf && t.account == 0)

/-- BAD_ACCOUNT: before a Charter there is no account map to ask (DESIGN CHOICE, log entry 53). -/
def State.badAccount (s : State) (t : Ticket) : Bool :=
  let a := t.account
  s.laneRefuses t || (a == 0 && decide (t.type ≤ tyEndo)) ||
    (a != 0 && s.serve.posted && (!s.acctDefined a || s.acctPort a != t.port))

/-- NOT_WARRANT. -/
def State.notWarrant (s : State) (t : Ticket) : Bool :=
  if tyWeights ≤ t.type ∧ t.type ≤ tyPost then t.account != 0 || s.senior != some t.port
  else if t.type = tyProbe then t.account != 0
  else t.type == tyQuery && decide (2 ≤ t.what) && t.account != 0

/-- BAD_HANDLE: a later generation than the slot's, generation 0, or a live sequence of another account (DEDUCED, log entry 54). -/
def State.badHandle (s : State) (t : Ticket) : Bool :=
  let q := s.seq t.hSlot
  t.hasHandle && (decide (q.gen < t.hGen) || t.hGen == 0 ||
    (q.st != 0 && q.gen == t.hGen && q.account != t.account && t.account != 0))

/-- Has a handle ended (R291, R292)? -/
def State.hasEnded (s : State) (t : Ticket) : Bool :=
  let q := s.seq t.hSlot
  decide (t.hGen < q.gen) || (t.hGen == q.gen && q.st == 0)

/-- The detail of ALREADY_COMPLETE: the end status while the slot remembers it. -/
def State.endDetail (s : State) (t : Ticket) : Nat :=
  let q := s.seq t.hSlot
  if q.gen = t.hGen then (match q.endStatus with | some e => e.toNat | none => 0xFFFF) else 0xFFFF

/-- A ticket's address with its length, and whether the device writes there. -/
def Ticket.range (t : Ticket) : Option (Nat × Nat × Bool) :=
  match t.type with
  | 0x01 => some (t.field 15 8, 4 * (t.field 17 16 + t.field 18 18), false)
  | 0x02 => if t.release then none else some (t.field 19 12, 4 * t.field 21 20, false)
  | 0x05 => some (t.field 23 16, t.field 27 24, false)
  | 0x06 => some (t.field 15 8, t.field 19 16, false)
  | 0x07 => some (t.field 15 8, t.field 19 16, false)
  | 0x09 => some (t.field 15 8, t.field 19 16, false)
  | 0x0A => some (t.field 23 16, t.field 27 24, true)
  | _ => none

/-- Does a ticket's address lie outside the lane's host windows (R283, R418)? -/
def State.badAddress (s : State) (t : Ticket) : Bool :=
  match t.range with
  | none => false
  | some (a, n, w) =>
    match s.hostWin (BitVec.ofNat 64 a) (Nat.max n 1) w with
    | some (p, fn, _) => p != t.port || fn != s.laneFn t.port t.lane
    | none => true

/-- Is a BF16 code finite and not negative, minus zero counting as zero? -/
def tempOk (c : Nat) : Bool := c == 0x8000 || decide (c < 0x7F80)
/-- Is a BF16 code 0x0000, or above 0 and at most 1? -/
def topPOk (c : Nat) : Bool := decide (c ≤ 0x3F80)

/-- The table entry of an Admit's endorsement; none for the base model. -/
def State.admitEndo (s : State) (t : Ticket) : Option Nat := s.endoIndex t.account (t.field 27 26)

/-- BAD_FIELD of an Admit (R281, R327). -/
def State.badAdmit (s : State) (t : Ticket) : Bool :=
  let endo := t.field 27 26
  t.field 17 16 == 0 || decide (8 < t.field 18 18) || t.field 23 20 == 0 || !tempOk (t.field 29 28) ||
    !topPOk (t.field 31 30) || decide (256 < t.field 33 32) || (endo != 0xFFFF && decide (s.endoCount t.account ≤ endo)) ||
    (t.tune && (t.field 29 28 != 0 || t.field 31 30 != 0 || t.field 33 32 != 0 || t.field 18 18 != 0 || t.field 25 24 != 0 ||
      (match s.admitEndo t with | some n => (s.endoOf n).grad == 0 | none => false)))

/-- BAD_FIELD (R283). -/
def State.badField (s : State) (t : Ticket) : Bool :=
  (t.type == tyAdmit && s.badAdmit t) ||
    (t.release && (t.field 19 12 != 0 || t.field 23 22 != 0 || t.field 31 24 != 0)) ||
    (t.type == tyEndo && decide (s.endoCount t.account ≤ t.field 9 8)) || s.badAddress t

/-- BAD_LENGTH. -/
def Ticket.badLength (t : Ticket) : Bool :=
  if t.type = tyAdmit then decide (t.field 23 20 < t.field 17 16 + 1)
  else t.type == tyExtend && (t.release != (t.field 21 20 == 0))

/-- REGION_FULL. -/
def State.regionFull (s : State) (t : Ticket) : Bool :=
  let q := s.seq t.hSlot
  t.type == tyExtend && !t.release && decide (256 * q.entries - 1 < q.logLen + t.field 21 20)

/-- WRONG_STATE. -/
def State.wrongState (s : State) (t : Ticket) : Bool :=
  let q := s.seq t.hSlot
  if t.release then !(q.peerHeld && q.st == 2)
  else (t.type == tyExtend || t.type == tyRetire) && q.st != 6

/-- Pool Tallies of a die, rising, and those that no account holds (R255). -/
def State.poolOf (s : State) (d : Nat) : List Nat :=
  let o (i : Nat) : Nat := 16 + 8 * i
  sortBy (fun a b => decide (a ≤ b)) (((List.range (s.chr secTallies 5 4)).filter (fun i =>
    s.chr secTallies (o i + 4) (o i + 4) == 2 && s.chr secTallies (o i + 1) (o i) / 4096 % 4 == d)).flatMap (fun i =>
      range (s.chr secTallies (o i + 1) (o i)) (s.chr secTallies (o i + 1) (o i) + s.chr secTallies (o i + 3) (o i + 2))))
/-- See `poolOf`. -/
def State.poolFree (s : State) (d : Nat) : List Nat :=
  (s.poolOf d).filter (fun t => !s.serve.accts.any (fun e => e.2.held.contains t))

/-- An account's pool Tallies per die (R255). -/
def State.tallyQuota (s : State) (a : Nat) : Nat := s.classFld a 1 1

/-- TALLY_FULL: some die cannot give an account what it needs to become active. -/
def State.tallyFull (s : State) (a : Nat) : Bool :=
  !(s.acct a).active && (List.range 4).any (fun d => decide ((s.poolFree d).length < s.tallyQuota a))

/-- Entries of the region that an Admit asks for (R179). -/
def Ticket.regionSize (t : Ticket) : Nat := ceilDiv (t.field 23 20) 256

/-- The limits of R277, R278, R179 and R255, and ENDO_ABSENT after them (R326). -/
def State.limits (s : State) (t : Ticket) : Option Nat :=
  let a := t.account
  let n := t.regionSize
  if t.type = tyAdmit then
    if s.nextSlot.isNone then some stSlotFull
    else if s.classFld a 3 2 != 0 && decide (s.classFld a 3 2 ≤ (s.liveOf a).length) then some stSeqQuota
    else if 32768 < s.entriesTaken + n then some stLedgerFull
    else if s.classFld a 7 4 < s.entriesOf a + n then some stFolioQuota
    else if s.tallyFull a then some stTallyFull
    else match s.admitEndo t with
      | some e => if (s.endoOf e).st = 2 ∨ (s.endoOf e).st = 4 then none else some stEndoAbsent
      | none => none
  else if (t.type = tyEndo ∨ t.type = tyWeights) ∧ s.tallyFull a = true then some stTallyFull
  else none

/-- The deadline policy of an account (R274). -/
def State.dlMode (s : State) (a : Nat) : Nat := s.classFld a 8 8

/-- Why a ticket is refused at a posting point: the first row of R283 that holds. A handle that has ended is no refusal from
BAD_HANDLE's row on (R292). -/
def State.ticketRefusal (s : State) (t : Ticket) : Option Nat :=
  if t.malformed then some stBadTicket
  else if s.badAccount t then some stBadAccount
  else if s.notWarrant t then some stNotWarrant
  else if !s.serve.posted && t.type != tyStage && t.type != tyPost then some stNoCharter
  else if s.badHandle t then some stBadHandle
  else if t.hasHandle && t.type != tyQuery && s.hasEnded t then none
  else if t.type == tyAdmit && decide (262144 < t.field 23 20) then some stRegionTooLong
  else if s.badField t then some stBadField
  else if t.badLength then some stBadLength
  else if s.regionFull t then some stRegionFull
  else if t.starts && t.deadline != 0 && decide (t.deadline ≤ s.serve.cut.toNat) then some stDeadlinePast
  else if t.starts && t.deadline == 0 && s.dlMode t.account == 1 then some stDeadlineRequired
  else if s.wrongState t then some stWrongState
  else s.limits t

/-- Does a status of R283 write a fault record? -/
def recordsRefusal (st : Nat) : Bool := (decide (stBadTicket ≤ st) && decide (st ≤ stBadHandle)) || st == stBadField

/-- Refuse a ticket: its answer, the counter, and the record where R283 asks for one. -/
def State.refuse (s : State) (t : Ticket) (st : Nat) : State :=
  let s := s.bump GLB_CNT_REFUSED 1
  let r := faultOf clsTicket (0x30 + t.port) blkTeller t.lane t.lane (st + t.type * 65536)
  let s := if recordsRefusal st then s.fault (FaultRecord.about r t.account 0) else s
  s.reply t st noHandle 0

/-! ### Accounts (R255) -/

/-- An account becomes active: the lowest free pool Tallies of each die, counters at 0. -/
def State.activate (s : State) (a : Nat) : State :=
  if (s.acct a).active then s
  else
    let ts := (List.range 4).flatMap (fun d => (s.poolFree d).take (s.tallyQuota a))
    let s := ts.foldl (fun s t => s.setTally t { Tally.unused with kind := tallyCounter }) s
    s.setAcct a ⟨true, 0, ts⟩

/-- Has an account a ticket that waits for its answer? -/
def State.ticketWaits (s : State) (a : Nat) : Bool :=
  (match s.serve.loadTicket with | some t => t.account == a | none => false) ||
    s.serve.endoTickets.any (fun e => e.1.account == a)

/-- Accounts with no live sequence and no pending ticket stop being active, and their Tallies go back; the tokens delivered
are counted from the next time the account becomes active (R285). -/
def State.settleAccounts (s : State) : State :=
  s.serve.accts.foldl (fun s e =>
    if e.2.active && (s.liveOf e.1).isEmpty && !s.ticketWaits e.1 then s.setAcct e.1 { e.2 with active := false, held := [] } else s) s

/-! ### Requests to hosts -/

/-- Ask a host for a ticket's bytes. -/
def State.askHost (s : State) (t : Ticket) : State :=
  match t.range with
  | some (a, n, _) =>
    match s.hostWin (BitVec.ofNat 64 a) n false with
    | some (p, fn, h) => if s.portUp p then s.send (.hostRead p fn h n) else s
    | none => s
  | none => s

/-! ### Cancel and Retire (R291, R292) -/

/-- A Cancel. -/
def State.cancel (s : State) (t : Ticket) : State :=
  let q := s.seq t.hSlot
  if s.hasEnded t || q.ending then s.reply t stAlready t.handle (s.endDetail t)
  else if q.st = 6 then s.reply t stAlready t.handle 0xFFFF
  else (s.endSeq t.hSlot stCancelled).reply t stOk t.handle 0

/-- A Retire. -/
def State.retire (s : State) (t : Ticket) : State :=
  let q := s.seq t.hSlot
  if s.hasEnded t || q.ending then s.reply t stAlready t.handle (s.endDetail t)
  else (s.endSeq t.hSlot stRetired).reply t stOk t.handle 0

/-! ### Admit and Extend (R284, R179, R180, R319) -/

/-- The deadline that a ticket gives its sequence (R290). -/
def State.deadlineOf (s : State) (t : Ticket) : Word64 :=
  if t.deadline = 0 ∧ s.dlMode t.account = 2 then s.serve.cut + BitVec.ofNat 64 (s.classFld t.account 15 12)
  else BitVec.ofNat 64 t.deadline

/-- The epoch a ticket binds its sequence to: the Live one under drain policy (R319). -/
def State.bindNow (s : State) (a : Nat) : Option (BitVec 16) := if s.flips a then none else s.epochs.live

/-- A sequence as its Admit makes it: Fetching. -/
def State.admitted (s : State) (t : Ticket) (old : Seq) : Seq :=
  { Seq.fresh with
    st := 1, gen := old.gen + 1, account := t.account, port := t.port, lane := t.lane,
    cookie := BitVec.ofNat 32 t.cookie, park := nbit t.flags 0, tune := t.tune, peerHeld := nbit t.flags 2,
    maxLen := t.field 23 20, maxNew := t.field 25 24, endo := s.admitEndo t, temp := BitVec.ofNat 16 (t.field 29 28),
    topP := BitVec.ofNat 16 (t.field 31 30), topK := t.field 33 32, seed := BitVec.ofNat 64 (t.field 51 44),
    nStop := t.field 18 18, deadline := s.deadlineOf t, entries := t.regionSize, unplaced := true,
    epoch := s.bindNow t.account, accepted := t.order, fetch := some t }

/-- An Admit: slot, region or its reservation, reference, and the fetch of its tokens. -/
def State.takeAdmit (s : State) (t : Ticket) : State :=
  match s.nextSlot with
  | none => s
  | some k =>
    let s := (s.activate t.account).setSeq k (s.admitted t (s.seq k))
    let s := match s.admitEndo t with
      | some n => s.putEndo n { s.endoOf n with refs := (s.endoOf n).refs + 1 }
      | none => s
    let s := match s.firstFit t.regionSize with
      | some b => s.placeRegion k b
      | none => s
    s.askHost t

/-- An Extend: the release of a held part, or the fetch of more tokens (R284). -/
def State.extendSeq (s : State) (t : Ticket) : State :=
  let k := t.hSlot
  let q := s.seq k
  if s.hasEnded t then s.reply t stAlready t.handle (s.endDetail t)
  else if t.release then (s.setSeq k { q with peerHeld := false }).reply t stOk t.handle 0
  else (s.setSeq k { q with st := 1, fetch := some t, fetched := none, epoch := s.bindNow q.account }).askHost t

/-- The tokens of a fetch: a prompt with its stop tokens, or an extension. -/
def Ticket.fetchCount (t : Ticket) : Nat := if t.type = tyAdmit then t.field 17 16 + t.field 18 18 else t.field 21 20

/-- A token fetch has completed or failed: its tokens wait for the posting point (R284). -/
def State.fetchDone (s : State) (k : Nat) (ok : Bool) (tokens : List Word32) : State :=
  let q := s.seq k
  match q.fetch with
  | none => s
  | some t =>
    if q.fetched.isSome then s
    else s.setSeq k { q with fetched := some (ok && tokens.length == t.fetchCount, tokens) }

/-- A fetch that fails its check: a failed Admit gives up slot and region; a failed Extend leaves its sequence Parked. -/
def State.fetchFailed (s : State) (k : Nat) (t : Ticket) (st : Nat) : State :=
  let q := { s.seq k with fetch := none, fetched := none }
  let s := (s.setSeq k q).reply t st noHandle 0
  if t.type = tyAdmit then s.freeSeq k else s.setSeq k { q with st := 6, epoch := none }

/-- A fetch whose tokens are all in the vocabulary: they join the log, and the sequence is Queued. -/
def State.fetchTaken (s : State) (k : Nat) (t : Ticket) (tokens : List Nat) : State :=
  let q := s.seq k
  let n := if t.type = tyAdmit then t.field 17 16 else tokens.length
  let s := ((tokens.take n).zipIdx).foldl (fun s e => s.logToken k (q.logLen + e.2) e.1) s
  let q := { q with st := 2, fetch := none, fetched := none, logLen := q.logLen + n, waited := 0, deferred := 0 }
  let q := if t.type = tyAdmit then { q with stops := tokens.drop n }
    else { q with maxNew := t.field 23 22, deadline := s.deadlineOf t, sinceExt := 0, accepted := t.order }
  (s.setSeq k q).reply t stOk (s.handleOf k) 0

/-- The completed fetches of a posting point, in slot order (R284). -/
def State.takeFetches (s : State) : State :=
  s.live.foldl (fun s e =>
    match e.2.fetch, e.2.fetched with
    | some t, some (ok, ws) =>
      let tokens := ws.map BitVec.toNat
      if !ok then s.fetchFailed e.1 t stFetchError
      else if tokens.all (fun w => decide (w < s.vocab)) then s.fetchTaken e.1 t tokens
      else s.fetchFailed e.1 t stBadField
    | _, _ => s) s

/-! ### Loads, Charters and probes (R315, R324, R446, R447, R377) -/

/-- A Load-Endorsement. -/
def State.loadEndo (s : State) (t : Ticket) : State :=
  let n := s.ticketEndo t
  let x := s.endoOf n
  if x.st = 1 ∨ x.st = 3 ∨ x.refs ≠ 0 then s.reply t stEndoInUse noHandle 0
  else
    let s := (s.activate t.account).putEndo n { x with st := 1 }
    ({ s with serve := { s.serve with endoTickets := s.serve.endoTickets ++ [(t, n)] } } : State).askHost t

/-- A Load-Weights. -/
def State.loadWeights (s : State) (t : Ticket) : State :=
  if s.epochBusy || s.serve.loadTicket.isSome then s.reply t stEpochBusy noHandle 0
  else if s.epochStale (BitVec.ofNat 16 (t.field 21 20)) then s.reply t stEpochStale noHandle 0
  else
    let s := s.activate t.account
    ({ s with serve := { s.serve with loadTicket := some t } } : State).askHost t

/-- A Stage-Charter: the copy replaces a staged image that has not posted (R446). -/
def State.stageCharter (s : State) (t : Ticket) : State :=
  let n := t.field 19 16
  if s.serve.postTicket.isSome || s.serve.stageTicket.isSome then s.reply t stCharterBusy noHandle 0
  else if 2 ^ 28 < n ∨ n < 288 then s.reply t stCharterTooLarge noHandle 0
  else
    ({ s with serve := { s.serve with stageTicket := some t, staged := none, stagedOk := false, stageStatus := none } } : State).askHost t

/-- A Post-Charter: the ready image posts at the next posting point (R447). -/
def State.postCharter (s : State) (t : Ticket) : State :=
  if s.serve.postTicket.isSome then s.reply t stCharterBusy noHandle 0
  else if s.serve.stagedOk && s.serve.staged == some (BitVec.ofNat 16 (t.field 9 8)) then
    { s with serve := { s.serve with postTicket := some t } }
  else s.reply t stCharterNotStaged noHandle 0

/-- A Probe. -/
def State.probeTicket (s : State) (t : Ticket) : State :=
  ({ s with serve := { s.serve with probeTickets := s.serve.probeTickets ++ [t] } } : State).askHost t

/-! ### Query (R285) -/

/-- The account reply. -/
def State.queryAccount (s : State) (a : Nat) : List Byte :=
  natLe 2 (s.liveOf a).length ++ natLe 2 (s.entriesOf a) ++ natLe 1 ((s.acct a).held.length / 4) ++ natLe 1 (s.priority a)
    ++ natLe 2 0 ++ natLe 8 (s.acct a).tokens ++ natLe 16 0

/-- The sequence reply; of a handle that has ended, state 0 and the end status while the slot remembers it. -/
def State.querySeq (s : State) (t : Ticket) : List Byte :=
  let q := s.seq t.hSlot
  if s.hasEnded t then
    let e := if q.gen = t.hGen then (match q.endStatus with | some e => e.toNat | none => 0) else 0
    natLe 2 0 ++ natLe 2 e ++ natLe 28 0
  else
    natLe 1 q.st ++ natLe 1 (q.park.toNat + 2 * q.tune.toNat + 4 * q.peerHeld.toNat) ++ natLe 2 0 ++ natLe 4 q.logLen
      ++ natLe 4 q.produced ++ natLe 2 q.region ++ natLe 2 q.entries
      ++ natLe 2 (match q.epoch with | some e => e.toNat | none => 0) ++ natLe 2 q.account ++ natLe 8 q.deadline.toNat
      ++ natLe 4 0

/-- The limits reply. -/
def State.queryLimits (s : State) : List Byte :=
  let pool := (List.range 4).foldl (fun m d => Nat.min m (s.poolFree d).length) 4096
  natLe 2 s.freeSlots_ ++ natLe 2 s.withdrawnSlots ++ natLe 2 (32768 - s.entriesTaken) ++ natLe 2 s.longestRun ++ natLe 2 pool
    ++ natLe 2 (s.serve.accts.filter (fun e => e.2.active)).length ++ natLe 20 0

/-- The bytes of a Query's reply. -/
def State.queryReply (s : State) (t : Ticket) : List Byte :=
  match t.what with
  | 0 => s.queryAccount t.account
  | 1 => s.querySeq t
  | 2 => (List.range s.layerCount).flatMap (fun l => s.read (s.recAt l 0) 64)
  | _ => s.queryLimits

/-- A Query: the reply before the answer, or nothing where it does not fit. -/
def State.query (s : State) (t : Ticket) : State :=
  let bs := s.queryReply t
  let h := if t.what = 1 then t.handle else noHandle
  if t.field 27 24 < bs.length then s.reply t stBadField noHandle bs.length
  else (s.ledgerWrite 0 (BitVec.ofNat 64 (t.field 23 16)) bs).reply t stOk h 0

/-! ### The intakes (R286, R287, R304) -/

/-- Tickets a posting point takes from each port: 1,024 before a Charter says (DESIGN CHOICE, log entry 53). -/
def State.intakeMax (s : State) : Nat := if s.serve.posted then s.chr secClasses 13 12 else 1024

/-- Action 1: the cut. The tickets it takes, in intake order; an intake that was full says so once. -/
def State.takeCut (s : State) : State × List Ticket :=
  let s := { s with serve := { s.serve with cut := s.now, said := [], pressed := false } }
  let n := s.intakeMax
  let s := (List.range 2).foldl (fun s p =>
    let q := s.port p
    let full := q.intake.length == intakeSize
    let s := if full && !q.fullSent then s.event (p == 0) (p == 1) 0x04 0 intakeSize 0 else s
    s.setPort p { q with fullSent := full }) s
  let cut := sortBy (fun a b => decide (a.order ≤ b.order)) (((s.port 0).intake.take n) ++ ((s.port 1).intake.take n))
  let s := (List.range 2).foldl (fun s p =>
    let q := s.port p
    s.setPort p { q with intake := q.intake.drop n }) s
  (s.bump GLB_CNT_TICKETS cut.length, cut)

/-- Does action 3 take a ticket? -/
def Ticket.early (t : Ticket) : Bool := t.type == tyCancel || t.type == tyRetire

/-- Action 3: Cancel and Retire tickets. -/
def State.earlyTicket (s : State) (t : Ticket) : State :=
  match s.ticketRefusal t with
  | some st => s.refuse t st
  | none => if t.type = tyCancel then s.cancel t else s.retire t

/-- Action 9: any other ticket. -/
def State.lateTicket (s : State) (t : Ticket) : State :=
  match s.ticketRefusal t with
  | some st => s.refuse t st
  | none =>
    match t.type with
    | 0x01 => s.takeAdmit t
    | 0x02 => s.extendSeq t
    | 0x05 => s.loadEndo t
    | 0x06 => s.loadWeights t
    | 0x07 => s.stageCharter t
    | 0x08 => s.postCharter t
    | 0x09 => s.probeTicket t
    | _ => s.query t

/-- Action 9: accounts that the actions before have left idle stop being active (R255), then the other tickets of the cut and
the completed fetches. -/
def State.lateTickets (s : State) (cut : List Ticket) : State :=
  ((cut.filter (fun t => !t.early)).foldl (fun s t => s.lateTicket t) s.settleAccounts).takeFetches

/-! ### Meaning -/

/-- TOKEN_FETCH_COMPLETE (R284). -/
def execTokenFetchComplete (sl : Slot) (ok : Bool) (tokens : List Word32) (s : State) : Host.Outcome State Fault Refusal :=
  .next (s.fetchDone sl.val ok tokens)

end Sys2Proof.Machine
end

