-- ==== Sys2Proof/Machine/Forming.lean ====
section
/-! DEFINITION. Actions 10 and 11 of a posting point: the formation of the next step and its frames
(09_serving_and_steps.md R293 to R295; 06_attention_and_folios.md R197, R198), its share, batch tables, parameter slots and
the release of the queues (07_orders.md R213, R231, R232, R234, R235). -/

namespace Sys2Proof.Machine

/-! ### The plan (R293, R295) -/

/-- What a piece of work is: a decode token, a recompute slice, or a slice of a log that is still to run. -/
inductive PickKind where
  | decode | recompute | prefill
  deriving DecidableEq, Repr

/-- One piece of work of the step being formed. -/
structure Pick where
  kind   : PickKind
  slot   : Nat
  first  : Nat
  tokens : Nat
  /-- The Ledger entry that a recompute slice rewrites. -/
  entry  : Option Nat
  deriving DecidableEq, Repr

/-- Program indices of the decode, prefill and tuning programs (R236); 0xFF for no tuning program. -/
def State.decodeProg (s : State) : Nat := s.chr secPrograms 1 1
/-- See `decodeProg`. -/
def State.prefillProg (s : State) : Nat := s.chr secPrograms 2 2
/-- See `decodeProg`. -/
def State.tuningProg (s : State) : Nat := s.chr secPrograms 3 3

/-- Is a row of a sequence deferred by the storm (R295)? -/
def State.stormDefers (s : State) (q : Seq) : Bool :=
  s.serve.storm && decide (s.chr secClasses 10 10 ≤ s.priority q.account) && decide (q.deferred < s.chr secClasses 11 11)

/-- A class priority less one for every `age_steps` waited, never below 1; class 0 stays 0 (R293). -/
def State.effective (s : State) (q : Seq) : Nat :=
  let p := s.priority q.account
  let age := s.classFld q.account 11 10
  if p = 0 then 0 else if age = 0 then p else Nat.max 1 (p - q.waited / age)

/-- The Dropped entry of a sequence with the oldest position. -/
def State.oldestDropped (s : State) (q : Seq) : Option Nat := q.regionEntries.find? (fun e => (s.folioOf e).st == 6)

/-- May a sequence take slices at all: none is held or Fetching or Parked (R275, R281)? -/
def Seq.active (q : Seq) : Bool := decide (2 ≤ q.st) && decide (q.st ≤ 5) && !q.peerHeld && !q.unplaced

/-- Does a decode candidate go before another (R293)? -/
def State.decodeLe (s : State) (a b : Nat × Seq) : Bool :=
  let p := s.priority a.2.account
  let r := s.priority b.2.account
  decide (p < r) || (p == r && decide (a.1 ≤ b.1))

/-- Does a slice candidate go before another? -/
def State.sliceLe (s : State) (a b : Nat × Seq) : Bool :=
  let p := s.effective a.2
  let r := s.effective b.2
  decide (p < r) || (p == r && decide (a.2.accepted ≤ b.2.accepted))

/-- The candidates of R293: Decode sequences, those with a folio to recompute, and those with tokens of the log to run. A
sequence whose folios are not all restored takes recompute slices alone; a tuning sequence needs a tuning program. -/
def State.candidates (s : State) : List (Nat × Seq) × List (Nat × Seq) × List (Nat × Seq) :=
  let act := s.live.filter (fun e => e.2.active)
  let dec := act.filter (fun e => e.2.st == 4)
  let rec_ := act.filter (fun e => (s.oldestDropped e.2).isSome)
  let pre := act.filter (fun e => (e.2.st == 2 || e.2.st == 3) && !s.unrestored e.1 &&
    !(e.2.tune && s.tuningProg == 0xFF))
  (sortBy s.decodeLe dec, sortBy s.sliceLe rec_, sortBy s.sliceLe pre)

/-- A plan being made: the work so far, the budget left, the sequences deferred under R293 or R295, and those of them that
the storm defers. -/
structure StepPlan where
  picks  : List Pick
  budget : Nat
  late   : List Nat
  storm  : List Nat

/-- The Decode sequences of the plan. -/
def State.planDecode (s : State) (cs : List (Nat × Seq)) (p : StepPlan) : StepPlan :=
  cs.foldl (fun p e =>
    if 8191 ≤ p.picks.length then { p with late := e.1 :: p.late }
    else if s.stormDefers e.2 then { p with late := e.1 :: p.late, storm := e.1 :: p.storm }
    else { p with picks := p.picks ++ [⟨.decode, e.1, e.2.nextPos, 1, none⟩] }) p

/-- A slice of a sequence within a budget: a recompute slice runs its folio's `fill` tokens, whole (DEDUCED, log entry 55). -/
def State.sliceOf (s : State) (k : PickKind) (e : Nat × Seq) (budget : Nat) : Option Pick :=
  match k with
  | .recompute =>
    match s.oldestDropped e.2 with
    | some i =>
      let n := (s.folioOf i).fill
      if n ≤ budget then some ⟨.recompute, e.1, 256 * (i - e.2.region), n, some i⟩ else none
    | none => none
  | _ =>
    let n := Nat.min (e.2.logLen - e.2.nextPos) (Nat.min 4096 budget)
    if 0 < n then some ⟨.prefill, e.1, e.2.nextPos, n, none⟩ else none

/-- The slices of the plan: the work stops at the row limit and when the budget is used up. -/
def State.planSlices (s : State) (k : PickKind) : List (Nat × Seq) → StepPlan → StepPlan
  | [], p => p
  | e :: es, p =>
    if 8191 ≤ p.picks.length ∨ p.budget = 0 then p
    else if s.stormDefers e.2 then s.planSlices k es { p with late := e.1 :: p.late, storm := e.1 :: p.storm }
    else match s.sliceOf k e p.budget with
      | some x => s.planSlices k es { p with picks := p.picks ++ [x], budget := p.budget - x.tokens }
      | none => p

/-- The plan of R293. -/
def State.stepPlan (s : State) : StepPlan :=
  let (dec, rec_, pre) := s.candidates
  let p := s.planDecode dec ⟨[], s.chr secClasses 3 2, [], []⟩
  s.planSlices .prefill pre (s.planSlices .recompute rec_ p)

/-! ### Rows that cannot run now (R297, R314, R325, R423) -/

/-- Is the endorsement of a sequence in the cache? -/
def State.endoReady (s : State) (q : Seq) : Bool :=
  match q.endo with
  | some n => (s.endoOf n).st == 4
  | none => true

/-- May a row of a sequence be formed: its layers are ready for its epoch, its home lane has no backlog, its endorsement is
Resident? -/
def State.rowMay (s : State) (q : Seq) : Bool :=
  (match q.epoch with | some e => s.allReady e | none => false) && (s.laneOf q.port q.lane).backlog.isEmpty && s.endoReady q

/-- Start the fetch of the endorsements that the plan's rows lack (R325). -/
def State.fetchMissing (s : State) (ps : List Pick) : State :=
  ps.foldl (fun s p =>
    match (s.seq p.slot).endo with
    | some n => if (s.endoOf n).st = 2 then s.fetchEndo n else s
    | none => s) s

/-! ### Frames (R198) -/

/-- The Reserved entries that a piece of work opens. -/
def State.opens (s : State) (p : Pick) : List Nat :=
  let q := s.seq p.slot
  if p.kind = .recompute then p.entry.toList
  else ((range (p.first / 256) ((p.first + p.tokens - 1) / 256 + 1)).map (· + q.region)).filter (fun e => (s.folioOf e).st == 1)

/-- Does work go before other work in the order of deferral: recompute, prefill and decode in turn, the lowest priority class
first, in a class the highest slot first? -/
def State.deferLe (s : State) (a b : Pick) : Bool :=
  let rank (p : Pick) : Nat := match p.kind with | .recompute => 0 | .prefill => 1 | .decode => 2
  let cls (p : Pick) : Nat := if p.kind = .recompute then 0 else s.priority (s.seq p.slot).account
  decide (rank a < rank b) || (rank a == rank b && (decide (cls b < cls a) || (cls a == cls b && decide (b.slot ≤ a.slot))))

/-- Work deferred until the frames wanted fit the frames free. -/
def deferFrames (need : Pick → Nat) (free : Nat) : List Pick → Nat → List Pick
  | [], _ => []
  | p :: ps, want => if want ≤ free then [] else p :: deferFrames need free ps (want - need p)

/-- The work that R198 defers. -/
def State.frameDefers (s : State) (ps : List Pick) : List Pick :=
  let need (p : Pick) : Nat := (s.opens p).length
  let wants := ps.filter (fun p => decide (0 < need p))
  deferFrames need (s.frames - s.framesUsed) (sortBy s.deferLe wants) (wants.foldl (fun n p => n + need p) 0)

/-- The lowest frame that no entry uses. -/
def State.freeFrame (s : State) : Nat :=
  lowestFree (sortBy (fun a b => decide (a ≤ b)) ((s.folio.filter (fun e => e.2.inFrame)).filterMap (fun e => e.2.frame))) 0

/-- Give an entry a frame: a Reserved one is Open, a Dropped one Recomputing; entries of a tuning sequence are pinned. -/
def State.openEntry (s : State) (e : Nat) (tune : Bool) : State :=
  let x := s.folioOf e
  let n := s.freeFrame
  if x.st = 1 then s.setFolio e { x with st := 2, frame := some n, pin := tune, lastRead := s.stepNow }
  else s.setFolio e { x with st := 7, frame := some n, pin := x.pin || tune, poisoned := false }

/-- Assign the frames of the work that stays. -/
def State.assignFrames (s : State) (ps : List Pick) : State :=
  ps.foldl (fun s p => (s.opens p).foldl (fun s e => s.openEntry e (s.seq p.slot).tune) s) s

/-- Deferral under R198 as the hosts see it: the counter, the event to each port of an account deferred, and the mark for the
Statements' Headers. -/
def State.tellPressure (s : State) (ps : List Pick) : State :=
  if ps.isEmpty then s
  else
    let s := (List.range 4).foldl (fun s d => s.bump (FOL_CNT_DEFER d) ps.length) s
    let port (p : Nat) : Bool := ps.any (fun x => s.acctPort (s.seq x.slot).account == p)
    let s := s.event (port 0) (port 1) 0x03 0 ps.length (s.frames - s.framesUsed)
    { s with serve := { s.serve with pressed := true } }

/-- `FOL_USE` of every die (R203). -/
def State.showFrames (s : State) : State :=
  (List.range 4).foldl (fun s d => s.setReg (FOL_USE d)
    (BitVec.ofNat 64 (s.framesUsed * 65536 + (s.frames - s.framesUsed)))) s

/-! ### Rows (R232, R319) -/

/-- The bank that an epoch has on the tiles. -/
def State.bankOf (s : State) (e : BitVec 16) : Bank :=
  !(s.dir.any (fun x => x.2.holds && (x.2.state false == bankLive || x.2.state false == bankDraining) && x.2.epochA == e))

/-- The program of a piece of work. -/
def State.progOf (s : State) (p : Pick) : Nat :=
  if p.kind = .decode then s.decodeProg
  else if p.kind = .prefill ∧ (s.seq p.slot).tune = true then s.tuningProg else s.prefillProg

/-- The batch row of a piece of work whose program has given `qbase` query positions so far. -/
def State.rowOf (s : State) (p : Pick) (qbase : Nat) : Row :=
  let q := s.seq p.slot
  let e := q.epoch.getD 0
  let tuning := p.kind == .prefill && q.tune
  { slot := p.slot, account := q.account, position := p.first, tokens := p.tokens, region := q.region, endo := q.endo,
    epoch := e, bank := s.bankOf e, tuning := tuning,
    sample := p.kind == .decode || (p.kind == .prefill && !q.tune && p.first + p.tokens == q.logLen),
    recompute := p.entry, qbase := qbase, prog := s.progOf p, faulted := false, lostChunk := false, poisoned := false,
    replayBad := false, assay := 0, token := none }

/-- The rows of a plan, in its order. -/
def State.rowsFrom (s : State) (ps : List Pick) : List Row :=
  ps.foldl (fun rows p =>
    let n := (rows.filter (fun r => r.prog == s.progOf p)).foldl (fun a r => a + r.tokens) 0
    rows ++ [s.rowOf p n]) []

/-- The share of R294 for a plan: decode rows against prefill tokens, beside the share of the step before. -/
def State.nextShare (s : State) (ps : List Pick) : Nat :=
  let d := (ps.filter (fun p => p.kind == .decode)).length * s.chr secClasses 5 4
  let p := (ps.filter (fun p => p.kind != .decode)).foldl (fun n p => n + p.tokens) 0 * s.chr secClasses 7 6
  let was := s.serve.share
  if p = 0 then 16
  else if d = 0 then 0
  else
    let t := Nat.min (Nat.max (divRne (16 * d) (d + p)).toNat (s.chr secClasses 8 8)) 15
    if 0 < was ∧ was < 16 ∧ (if t < was then was - t else t - was) < s.chr secClasses 9 9 then was else t

/-! ### Formation (R293 to R295, R198) -/

/-- Flip policy binds the Live epoch at each step's formation, and so does a drain sequence that found none (R319). -/
def State.bindEpochs (s : State) : State :=
  s.live.foldl (fun s e =>
    let q := e.2
    if q.active && (s.flips q.account || q.epoch.isNone) then s.setSeq e.1 { q with epoch := s.epochs.live } else s) s

/-- What waiting and deferral leave in a sequence (R293, R295). -/
def Seq.aged (q : Seq) (got storm : Bool) : Seq :=
  { q with waited := if got || !(q.st == 2 || q.st == 3 || q.st == 5) then 0 else q.waited + 1,
           deferred := if storm then q.deferred + 1 else 0 }

/-- Action 10: compaction, the plan, what cannot run now, and frames. The rows of the next step and its share. -/
def State.formStep (s : State) : State × List Row × Nat :=
  let s := s.compact.bindEpochs
  let p := s.stepPlan
  let s := s.bump GLB_CNT_DEFER p.late.length
  let s := s.fetchMissing p.picks
  let picks := p.picks.filter (fun x => s.rowMay (s.seq x.slot))
  let late := s.frameDefers picks
  let picks := picks.filter (fun x => !late.contains x)
  let s := s.assignFrames picks
  let s := (s.tellPressure late).showFrames
  let got := picks.map Pick.slot
  let s := s.live.foldl (fun s e => s.setSeq e.1 (e.2.aged (got.contains e.1) (p.storm.contains e.1))) s
  (s, s.rowsFrom picks, s.nextShare picks)

/-! ### Action 11 (R213, R231, R232, R235) -/

/-- The 32 bytes of a batch row. -/
def State.rowBytes32 (s : State) (r : Row) : List Byte :=
  let endo := match r.endo with
    | some n => (s.endoOf n).cache.getD (2 ^ 15)
    | none => 2 ^ 15
  natLe 2 r.slot ++ natLe 2 r.account ++ natLe 4 r.position ++ natLe 2 r.tokens ++ natLe 2 r.region ++ natLe 2 endo
    ++ natLe 2 r.epoch.toNat ++ natLe 1 r.bank.toNat
    ++ natLe 1 (r.tuning.toNat + 2 * r.sample.toNat + 4 * r.recompute.isSome.toNat) ++ natLe 4 r.qbase ++ natLe 10 0

/-- Largest run count of any row: runs of 32 folios of 256 tokens (R184, R231). -/
def runCount (rs : List Row) : Nat := maxOr 0 (rs.map (fun r => ceilDiv (ceilDiv (r.position + r.tokens) 256) 32))

/-- Write the batch table and parameter slots 0 to 15 of one copy of a program. -/
def State.fillProgram (s : State) (n d step share : Nat) (rs : List Row) : State :=
  let s := (rs.zipIdx).foldl (fun s e => s.write (s.rowAt n d e.2) (s.rowBytes32 e.1)) s
  let ps := [rs.length, step % 2 ^ 32, step / 2 ^ 32, rs.foldl (fun a r => a + r.tokens) 0, runCount rs, d, s.geo 0 0, share]
  s.write (s.paramAt n d 0) ((ps ++ List.replicate 8 0).flatMap (natLe 4))

/-- The programs that run in a step: those that have rows. -/
def runningProgs (rows : List Row) : List Nat := (rows.map Row.prog).eraseDups

/-- Write the tables of every copy of the programs that run. -/
def State.fillTables (s : State) (rows : List Row) (step share : Nat) : State :=
  (runningProgs rows).foldl (fun s n => (List.range 4).foldl (fun s d =>
    if s.copyLen n d = 0 then s else s.fillProgram n d step share (rows.filter (fun r => r.prog == n))) s) s

/-- Every unit whose `ENG_QCTL` takes the share (R213). -/
def shareUnits : List EngUnit :=
  [(0 : Die), 1, 2, 3].flatMap (fun d => [UnitKind.assay, .attn, .vec, .dma].flatMap (fun k =>
    (List.range (unitsOf k)).map (fun i => ⟨d, k, i⟩)))

/-- A queue released for the next step (R235). -/
def Queue.release (q : Queue) : Queue := { q with hold := false, stepped := false }

/-- Release every queue, and give every unit its share. -/
def State.releaseQueues (s : State) (share : Nat) : State :=
  let freed := (s.queues.map (fun e => (e.1, { e.2 with pre := e.2.pre.release, dec := e.2.dec.release }))).filter
    (fun e => e.2 != EngState.idle)
  let s := s.queues.foldl (fun s e => s.setFlag (ENG_QCTL (unitOfKey e.1)) 0 false) s
  let s := shareUnits.foldl (fun s u => s.setFld (ENG_QCTL u) 20 16 share) s
  { s with queues := freed }

/-- The endorsements of a step's rows are used by it (R325). -/
def State.useEndos (s : State) (rows : List Row) (step : Nat) : State :=
  { s with cache := s.cache.map (fun e =>
      if rows.any (fun r => r.endo == some e.2.entry) then (e.1, { e.2 with used := step }) else e) }

/-- Action 11: the step after the one posted, `posted`, is released. -/
def State.releaseStep (s : State) (rows : List Row) (share posted : Nat) : State :=
  let s := s.fillTables rows (posted + 1) share
  let s := s.useEndos rows (posted + 1)
  let s := s.setReg GLB_STEP (BitVec.ofNat 64 posted)
  let s := ((s.setFld GLB_SERVE 20 16 share).setFld GLB_SERVE 12 0 rows.length).releaseQueues share
  let (ticks, s) := s.draw
  let s := s.setReg GLB_POST (BitVec.ofNat 64 (ticks % 2 ^ 32))
  { s with serve := { s.serve with rows := rows, running := true, share := share }, log := { s.log with weight := [] } }

end Sys2Proof.Machine
end

