-- ==== Sys2Proof/Machine/Epoch.lean ====
section
/-! DEFINITION. Action 8 of a posting point: lost weights, restores, units newly permanent, epoch flips and their drain
(10_weights_and_endorsements.md R318 to R326; 12_faults_and_containment.md R367, R368, R374 to R377), and the posting of a
Charter (15_steward_reset_and_boot.md R447, R449). -/

namespace Sys2Proof.Machine

/-! ### Weights lost and weight scope (R365 to R368) -/

/-- End every live sequence that a test picks. -/
def State.retireWhere (s : State) (status : Nat) (p : Seq → Bool) : State :=
  (s.live.filter (fun e => p e.2)).foldl (fun s e => s.retireNow e.1 status) s

/-- Tiles whose master weights are newly lost: their sequences end, and the event says how many (R368). -/
def State.endLost (s : State) : State :=
  let s := s.serve.lostTiles.foldl (fun s t =>
    let bound (q : Seq) : Bool := match q.epoch with | some e => (s.dirOf t).serves e | none => false
    let n := (s.live.filter (fun e => bound e.2)).length
    (s.retireWhere stWeightLost bound).eventAll 0x33 t n) s
  { s with serve := { s.serve with lostTiles := [] } }

/-- An entry goes Home and is fetched again (R325, R326, R367). -/
def State.goHome (s : State) (n : Nat) : State :=
  let x := s.endoOf n
  if x.st ≠ 4 then s else ((s.dropCached n).putEndo n { x with st := 2, cache := none }).fetchEndo n

/-- What weight-scope records of the step start: a tile's restore, an endorsement's refetch (R367). -/
def State.startRestores (s : State) : State :=
  s.log.weight.eraseDups.foldl (fun s k =>
    if k < 32768 then s.setTile k { s.tile k with restoring := true } else s.goHome (k - 32768)) s

/-- Endorsements found corrupt by a recheck (R326). -/
def State.dropStale (s : State) : State :=
  let s := s.serve.stale.foldl (fun s n => s.goHome n) s
  { s with serve := { s.serve with stale := [] } }

/-- The bank whose cells a permanent site of a tile lies in, by the class of its record: cell content is read from the Live
bank, and a row is programmed in the other (R125, R158, R371; DEDUCED, log entry 64). -/
def State.siteBank (s : State) (t : Nat) : Option Bank :=
  match s.mram.daybook.find? (fun e => e.2.state.toNat == 2 && e.2.block.toNat == blkTile && e.2.inst.toNat == t) with
  | some (_, r) => if r.cls.toNat = clsCells then (s.dirOf t).live
      else if r.cls.toNat = clsProgram then (s.dirOf t).live.map not else none
  | none => none

/-- Rows bound to a Draining bank whose own cells hold the permanent site of a tile in digital fall-back (R374). -/
def State.endSited (s : State) : State :=
  s.tiles.foldl (fun s e =>
    let d := s.dirOf e.1
    match e.2.site with
    | some k => if d.digital ∧ d.state k = bankDraining ∧ e.2.masterEpoch ≠ some (d.epoch k) then
        s.retireWhere stWeightLost (fun q => q.epoch == some (d.epoch k)) else s
    | none => s) s

/-- Units made permanent are treated so from now on (R374): a tile goes to digital fall-back, unless a sound partner takes
its results over (R370). -/
def State.fenceUnits (s : State) : State :=
  let new := s.log.newPerm
  let s := { s with log := { s.log with fenced := s.log.fenced ++ new, newPerm := [] } }
  new.foldl (fun s u =>
    let t := u.2.2
    let covered := s.mirrorOn && (match (s.dirOf t).mate with | some m => !s.permanent m | none => false)
    if u.2.1 = blkTile ∧ covered = false then
      (s.setTile t { s.tile t with site := s.siteBank t }).setDir t (((s.dirOf t).mark 1 true).mark 2 true)
    else s) s

/-! ### Flips and drains (R318 to R320) -/

/-- Is a sequence pinned to an epoch: under drain policy, and neither Parked nor ended (R319)? -/
def State.pinned (s : State) (e : BitVec 16) : Bool :=
  s.live.any (fun x => !s.flips x.2.account && x.2.epoch == some e)

/-- A tile at the flip of a Load (R318, R320, R321): its Verified bank is Live, the bank that was Live is Draining. -/
def State.flipTile (s : State) (e : BitVec 16) (refresh : Bool) (t : Nat) : State :=
  let d := s.dirOf t
  let k := !d.active
  let d := if d.state (!k) = bankLive then d.setState (!k) bankDraining else d
  let s := s.setDir t (((d.setState k bankLive).setEpoch k e).mark 0 k)
  let x := s.tile t
  let s := s.setTile t { x with masterEpoch := if refresh then some e else none, lost := false, mismatched := false,
                                restoring := false, count := 0, drifted := x.drifted && !refresh }
  s.startSet t

/-- A tile's record in the surplus store, of its Live bank (R452). -/
def State.saveSurplus (s : State) (t : Nat) : State :=
  match (s.dirOf t).live with
  | none => s
  | some k =>
    let r : SurplusRec := ⟨(s.dirOf t).epoch k, ((s.surplusWords t).filter (wordBank k)).map (BitVec.ofNat 32),
      (List.range 128).map (fun ph => BitVec.ofNat 32 (s.setCrc t k ph))⟩
    { s with mram := { s.mram with surplus := put ⟨0, [], []⟩ s.mram.surplus t r } }

/-- The bank that drains is Empty once no sequence is pinned to its epoch (R319). -/
def State.emptyDrained (s : State) (step : Nat) : State :=
  match s.epochs.draining with
  | none => s
  | some e =>
    if s.pinned e then s
    else
      let f (d : DirEntry) : DirEntry :=
        let g (d : DirEntry) (k : Bank) : DirEntry := if d.state k = bankDraining then d.setState k bankEmpty else d
        g (g d false) true
      let s := s.mapDir f
      ({ s with epochs := { s.epochs with draining := none } } : State).eventAll 0x11 e.toNat step

/-- Sequences that a drain has waited for too long (R319). -/
def State.expireDrained (s : State) (step : Nat) : State :=
  let limit := s.chr secLayers 15 12
  match s.epochs.draining with
  | none => s
  | some e =>
    if limit = 0 ∨ step < s.epochs.drainFrom + limit then s
    else s.live.foldl (fun s x =>
      if !s.flips x.2.account && x.2.epoch == some e then s.retireNow x.1 stEpochExpired else s) s

/-- Answer the Load-Weights ticket. -/
def State.answerLoad (s : State) (status : Nat) : State :=
  let s := match s.serve.loadTicket with
    | some t => s.reply t status noHandle 0
    | none => s
  { s with serve := { s.serve with loadTicket := none }, epochs := { s.epochs with load := none } }

/-- The flip of a Load: banks, epochs, the surplus store, the measurement, calibration and warm-up. -/
def State.flip (s : State) (l : Load) (step : Nat) : State :=
  let e := l.manifest.epoch
  let tiles := s.covered
  let old := s.epochs.live
  let s := tiles.foldl (fun s t => s.flipTile e l.manifest.refresh t) s
  let s := tiles.foldl (fun s t => s.saveSurplus t) s
  let s := s.extend 6 (natLe 32 l.manifest.digest.toNat ++ natLe 2 e.toNat)
  let s := ((tiles.map (fun t => (tileDie t, tileUnit t))).eraseDups).foldl (fun s g => s.calTrigger g.1 g.2 2) s
  let s := (List.range s.layerCount).foldl (fun s n => s.warmAgain n) s
  let s := { s with epochs := { s.epochs with live := some e, draining := old, drainFrom := step } }
  ((s.answerLoad stOk).eventAll 0x10 e.toNat step).emptyDrained step

/-- A Load at a posting point: failed, ready to flip, or going on. No flip while a half is Held (R434). -/
def State.settleLoad (s : State) (step : Nat) : State :=
  match s.epochs.load with
  | none => s
  | some l =>
    match l.failed with
    | some st => s.answerLoad st.toNat
    | none =>
      if s.loadVerified l && (!l.manifest.holdFlip || l.flipSeen) && !s.anyHeld then s.flip l step else s

/-! ### Posting a Charter (R447, R449) -/

/-- A tile's directory entry under the Charter now posted: the Charter's fields beside those the device maintains; a retired
tile leaves digital fall-back, and a taking-over tile's bank is Live (R375). -/
def State.postedEntry (s : State) (t : Nat) : DirEntry :=
  let d := DirEntry.ofBytes (s.read (postedSlot + s.secOff postedSlot secDirectory + 32 * t) 32) (s.dirOf t)
  let d := if d.role = 4 then (d.mark 1 false).mark 2 false else d
  match d.tookOver, d.bankIn bankVerified with
  | some _, some k => if d.holds && d.live.isNone then (d.setState k bankLive).mark 0 k else d
  | _, _ => d

/-- The directory that a posting writes, whole, in each half. -/
def State.postDirectory (s : State) : State :=
  { s with dir := (((List.range 32768).map (fun t => (t, s.postedEntry t))).filter (fun e => e.2 != DirEntry.unused)) }

/-- The Daybook record of a tile whose slice has been taken over is Retired, and the tile is no longer fenced (R375). -/
def State.retireTile (s : State) (t : Nat) : State :=
  let mine (r : DayRec) : Bool := r.die.toNat == dieMint (tileMint t) && r.block.toNat == blkTile && r.inst.toNat == t &&
    r.state.toNat == 2
  { s with mram := { s.mram with daybook := s.mram.daybook.map (fun e => if mine e.2 then (e.1, { e.2 with state := 3 }) else e) },
           log := { s.log with fenced := s.log.fenced.filter (fun u => u != (dieMint (tileMint t), blkTile, t)) } }

/-- The slices that the posted Charter moves. -/
def State.postTakeovers (s : State) : State :=
  s.dir.foldl (fun s e =>
    match e.2.tookOver with
    | some o => if (s.dirOf o).role = 4 then s.retireTile o else s
    | none => s) s

/-- Tallies as the partitions give them (R254, R255): counters, and barriers with their participants. A Tally that an account
holds and that stays in the pool keeps its value. -/
def State.postTallies (s : State) : State :=
  let p (i hi lo : Nat) : Nat := s.chr secTallies (16 + 8 * i + hi) (16 + 8 * i + lo)
  let order := sortBy (fun a b => decide (p a 1 0 ≤ p b 1 0)) (List.range (s.chr secTallies 5 4))
  let fresh := order.flatMap (fun i =>
    let use := p i 4 4
    let y : Tally := if use = 1 then { Tally.unused with kind := tallyBarrier, parts := p i 7 6 }
      else { Tally.unused with kind := tallyCounter }
    (range (p i 1 0) (p i 1 0 + p i 3 2)).map (fun t => (t, y)))
  let pool := (List.range 4).flatMap s.poolOf
  let accts := s.serve.accts.map (fun e => (e.1, { e.2 with held := e.2.held.filter pool.contains }))
  let kept := (accts.flatMap (fun e => e.2.held)).foldl
    (fun m t => put Tally.unused m t (look Tally.unused s.tallies t)) fresh
  (List.range 4).foldl (fun s d => s.setReg (TAL_WDOG d) (BitVec.ofNat 64 (s.chr secTallies 3 0)))
    { s with tallies := kept, signals := [], serve := { s.serve with accts := accts } }

/-- One copy of a program goes to its die's Till: entries, operand table, and the first values of slots 16 to 63 (R236). -/
def State.loadCopy (s : State) (n d : Nat) : State :=
  if s.copyLen n d = 0 then s
  else
    let o := postedSlot + s.secOff postedSlot secPrograms + s.chr secPrograms (16 + 48 * n + 8 * d + 3) (16 + 48 * n + 8 * d)
    let k := 32 * s.progHdr n d 3 2
    let s := s.write (till d (32 * s.progHdr n d 7 4)) (s.read (o + 64) k)
    let s := s.write (till d (32 * s.progHdr n d 11 8)) (s.read (o + 64 + k) 4096)
    s.write (s.paramAt n d 16) (s.read (o + 64 + k + 4096) 192)

/-- Every copy of every program. -/
def State.loadPrograms (s : State) : State :=
  (List.range (s.chr secPrograms 0 0)).foldl (fun s n => (List.range 4).foldl (fun s d => s.loadCopy n d) s) s

/-- Registers that show the posted Charter (R118, R170, R203, R271). -/
def State.showCharter (s : State) : State :=
  let s := (List.range 16).foldl (fun s m => s.setFld (MGV_CEIL m) 9 0 (s.chr secCeiling 1 0 / 16)) s
  let s := (List.range 2048).foldl (fun s i =>
    (s.setFld (ASY_SPOT (i / 512) (i % 512)) 19 16 (s.calPol 0 0)).setFld (ASY_SPOT (i / 512) (i % 512)) 15 0 (s.calPol 3 2)) s
  let s := (List.range 4).foldl (fun s d =>
    let s := s.setReg (FOL_GEOM d) (BitVec.ofNat 64 (s.geo 0 0 % 16 * 2 ^ 28 + s.geo 7 6 % 2 ^ 14 * 2 ^ 14 + s.geo 9 8 % 2 ^ 14))
    s.setReg (FOL_MARKS d) (BitVec.ofNat 64 (s.geo 13 13 % 2 * 2 ^ 24 + s.geo 10 10 * 2 ^ 16 + s.geo 11 11 * 2 ^ 8 + s.geo 12 12 % 32))) s
  let s := (List.range 256).foldl (fun s i =>
    s.setFld (DMA_CTRL (i / 64) (i % 64)) 31 30 (s.chr secEngines (16 + i) (16 + i) % 4)) s
  s.settlePower

/-- The Audit presets wait for each converter's wrap (R337). -/
def State.postAudit (s : State) : State :=
  (List.range 6).foldl (fun s i =>
    let o := 16 + 96 * i
    let es := (List.range 8).map (fun n => BitVec.ofNat 64 (s.chr secAudit (o + 8 * n + 7) (o + 8 * n)))
    let ls := (List.range 8).map (fun n => BitVec.ofNat 32 (s.chr secAudit (o + 64 + 4 * n + 3) (o + 64 + 4 * n)))
    s.setAudit i { s.audit i with shadow := some (es, ls) }) s

/-- Every endorsement entry is Empty (R449). -/
def State.emptyEndos (s : State) : State :=
  let s := { s with cache := [] }
  s.endo.foldl (fun s e => s.putEndo e.1 { EndoEntry.empty with refs := e.2.refs }) s

/-- The replica cells at the posting stand for later comparison (R344). -/
def State.keepReplicas (s : State) : State :=
  { s with cal := { s.cal with replica := (List.range 16).foldl (fun m k =>
      put (0, 0) m (16 + k) (look (0, 0) m k)) s.cal.replica } }

/-- The ready image becomes the posted Charter, at the posting point of a step. -/
def State.postImage (s : State) (step : Nat) : State :=
  let bytes := s.read stagedSlot (s.img stagedSlot 8 4)
  let gen := s.img stagedSlot 2 2
  let layersBefore := if s.serve.posted then some (s.chr secLayers 37 36) else none
  let wasNode := if s.serve.posted then some (s.node, s.role) else none
  let s := s.write postedSlot bytes
  let s := { s with serve := { s.serve with posted := true, staged := none, stagedOk := false, asks := [] },
                    mram := { s.mram with postedGen := some (BitVec.ofNat 16 gen) } }
  let s := ((s.extend 5 (sha256 bytes)).eventAll 0x53 gen step).newRole wasNode
  let s := ((s.postDirectory.postTakeovers).postTallies).loadPrograms
  let s := ((s.showCharter.postAudit).keepReplicas)
  let s := (List.range s.layerCount).foldl (fun s l => s.freshRecord l) s
  let s := match layersBefore with
    | some n => if n = s.chr secLayers 37 36 then s else s.emptyEndos
    | none => s
  (List.range 2048).foldl (fun s i => s.calTrigger (i / 512) (i % 512) 6) s

/-- A Post-Charter at its posting point: the conflicts are tested again (R449). -/
def State.settlePost (s : State) (step : Nat) : State :=
  match s.serve.postTicket with
  | none => s
  | some t =>
    let s := { s with serve := { s.serve with postTicket := none } }
    match s.conflict stagedSlot with
    | some d => s.reply t stCharterConflict noHandle d
    | none => (s.postImage step).reply t stOk noHandle 0

/-! ### Answers that wait for a posting point -/

/-- The answer of a Stage-Charter whose check has ended (R446). -/
def State.answerStage (s : State) : State :=
  match s.serve.stageTicket, s.serve.stageStatus with
  | some t, some (st, d) =>
    ({ s with serve := { s.serve with stageTicket := none, stageStatus := none } } : State).reply t st.toNat noHandle d.toNat
  | _, _ => s

/-- A Load-Endorsement answers once its entry is Home, or Resident where the ticket asks for it (R324); a fetch that failed
answers SHARD_LOST, and one that has not begun begins. -/
def State.answerEndos (s : State) : State :=
  let step (s : State) (e : Ticket × Nat) : State :=
    let st := (s.endoOf e.2).st
    let preload := nbit e.1.flags 0
    let finish (s : State) (status : Nat) : State :=
      ({ s with serve := { s.serve with endoTickets := s.serve.endoTickets.filter (fun x => x.1 != e.1) } } : State).reply e.1
        status noHandle 0
    if st = 4 ∨ (st = 2 ∧ preload = false) then finish s stOk
    else if st = 2 then s.fetchEndo e.2
    else if st = 5 then finish s stShardLost
    else s
  s.serve.endoTickets.foldl step s

/-- Probe sets that have arrived, each with the oldest Probe ticket that waits (R377). -/
def State.installSets (s : State) : State :=
  let sets := s.serve.probeIn
  let s := { s with serve := { s.serve with probeIn := [] } }
  sets.foldl (fun s b =>
    let (s, st) := s.installSet b
    match s.serve.probeTickets with
    | t :: ts => ({ s with serve := { s.serve with probeTickets := ts } } : State).reply t st noHandle 0
    | [] => s) s

/-- Ladder trims take effect, and their groups are calibrated again (R344). -/
def State.takeLadders (s : State) : State :=
  let ls := s.cal.ladder
  let s := { s with cal := { s.cal with ladder := [] } }
  ls.foldl (fun s e => (s.setFld (MGV_LADDER e.1) 9 0 (toTwos 10 (e.2 - 1024))).calTriggerMint e.1 3) s

/-- A refresh that had to wait starts where it may (R321). -/
def State.retryRefresh (s : State) : State :=
  if s.epochs.refreshDue then
    match s.tiles.find? (fun e => e.2.drifted) with
    | some e => s.refreshStart e.1
    | none => { s with epochs := { s.epochs with refreshDue := false } }
  else s

/-- A requested Sleep begins (R482). -/
def State.fallAsleep (s : State) : State :=
  if s.fld GLB_PWR 29 28 = 3 ∧ s.maySleep = true then
    ({ s with power := { s.power with asleep := true } } : State).settlePower
  else s

/-! ### Action 8 -/

/-- Sequences bound to a Corrupt endorsement (R325). -/
def State.endCorrupt (s : State) : State :=
  s.retireWhere stEndoCorrupt (fun q => match q.endo with | some n => (s.endoOf n).st == 5 | none => false)

/-- Action 8 of the posting point of a step; 0 before the first. -/
def State.epochActions (s : State) (step : Nat) : State :=
  let s := s.endLost.startRestores
  let s := s.dropStale.fenceUnits
  let s := s.endCorrupt.expireDrained step
  let s := ((s.emptyDrained step).settleLoad step).endSited
  let s := s.settlePost step
  let s := s.takeLadders.installSets
  let s := s.answerStage.answerEndos
  s.retryRefresh.loadAdvance

end Sys2Proof.Machine
end

