-- ==== Sys2Proof/Machine/Posting.lean ====
section
/-! DEFINITION. The posting point (09_serving_and_steps.md R287 to R304): when a step has finished, what becomes of each row
and each sequence at actions 2 to 5, the order of the twelve actions, the Statements, and the empty posting point before a
Charter (15 R450) or with a handover (R437). -/

namespace Sys2Proof.Machine

/-! ### A step has finished (R235, R288) -/

/-- The queue that a MARK STEP entry of die `d`'s copy of a program targets; none for another entry. -/
def State.stepTarget (s : State) (d : Die) (n k : Nat) : Option (EngUnit × Bool) :=
  let te := s.read (till d.val (32 * s.progHdr n d.val 7 4 + 32 * k)) 32
  let o : BitVec 128 := BitVec.ofNat 128 (fieldB te 15 0)
  let target := fieldB te 17 16
  if ordClass o = 9 ∧ ordOp o = 0 ∧ target % 512 ≠ 0x1FF then
    (s.targetUnit d target).map (fun e => (e.1, nbit target 11))
  else none

/-- The queues that the running step targets. -/
def State.stepQueues (s : State) : List (EngUnit × Bool) :=
  (runningProgs s.serve.rows).flatMap (fun n => [(0 : Die), 1, 2, 3].flatMap (fun d =>
    (List.range (s.progHdr n d.val 3 2)).filterMap (s.stepTarget d n)))

/-- Has every queue of the step finished, nothing being left in any? -/
def State.stepFinished (s : State) : Bool :=
  s.queues.all (fun e => e.2.pre.entries.isEmpty && e.2.dec.entries.isEmpty && e.2.flying.isEmpty) &&
    s.stepQueues.all (fun e => (s.queueOf e.1 e.2).stepped)

/-- May the Clerks hold a posting point (R435, R480, R482)? -/
def State.mayPost (s : State) : Bool :=
  s.flag RST_BOOT 31 && !s.anyHeld && s.senior.isSome && !s.power.asleep && s.serve.heldPost.isNone

/-! ### Rows (R240, R195, R366, R208) -/

/-- Compare the maxima of the backward rows with those saved (R208). -/
def State.checkReplays (s : State) : State :=
  let s' : State := { s with replays := [] }
  s.replays.foldl (fun s r =>
    if r.best = r.saved then s
    else
      let detail := r.saved / 65536 + r.best / 65536 * 65536
      let about (f : FaultRecord) : FaultRecord := match (s.rowsIn r.prog)[r.row]? with
        | some w => FaultRecord.about f w.account (s.handleOf w.slot)
        | none => f
      let s := s.fault (about (faultUnit clsReplay r.unit r.head detail))
      let s := s.bump (ATN_CNT_REPLAY r.unit.die.val r.unit.inst) 1
      s.markRows r.prog r.row (fun w => { w with replayBad := true })) s'

/-- Does the step hold a weight-scope record for something that a row used (R366)? -/
def State.weightHit (s : State) (r : Row) : Bool :=
  s.log.weight.any (fun k =>
    if k < 32768 then (s.dirOf k).holds && ((s.dirOf k).matrix != 7 || r.sample) else r.endo == some (k - 32768))

/-- The class of the step's first record of poison (R363, R366): ledger, residue or format; 0 where there is none. -/
def State.poisonClass (s : State) : Nat :=
  let mine := s.log.slots.filter (fun e => e.2.step.toNat == s.stepNow &&
    [clsLedger, clsResidue, clsFormat].contains e.2.cls.toNat)
  match sortBy (fun a b => decide (a.2.serial.toNat ≤ b.2.serial.toNat)) mine with
  | e :: _ => e.2.cls.toNat
  | [] => 0

/-- A row's token is withheld for a reason (R302). -/
def State.withhold (s : State) (r : Row) (reason : Nat) : State :=
  if r.tuning then s.say r.slot (Entry.token 4 (r.assay.toNat % 16) reason (s.handleOf r.slot) 0 r.position)
  else if r.sample then s.say r.slot (Entry.token 0 (r.assay.toNat % 16) reason (s.handleOf r.slot) 0 (s.seq r.slot).logLen)
  else s

/-- A row that has consumed poison: its record, and the end of its sequence (R366). -/
def State.poisonRow (s : State) (r : Row) : State :=
  let b := ((s.rowsIn r.prog).findIdx? (fun w => w.slot == r.slot)).getD 0
  let f := faultOf clsRetired (0x40 + s.senior.getD 0) blkClerk 0 b s.poisonClass
  (s.fault (FaultRecord.about f r.account (s.handleOf r.slot))).endSeq r.slot stPoisoned

/-- A row withheld under R240: the third step in a row ends its sequence (R241). -/
def State.faultRow (s : State) (r : Row) : State :=
  let q := s.seq r.slot
  let s := (s.withhold r 1).setSeq r.slot { q with faults := q.faults + 1 }
  if 3 ≤ q.faults + 1 then s.endSeq r.slot stOrderFault else s

/-- A row withheld under R195. -/
def State.lostRow (s : State) (r : Row) : State :=
  (s.withhold r 2).setSeq r.slot { s.seq r.slot with faults := 0 }

/-- Is a sequence past its deadline at the cut (R290)? -/
def State.pastDeadline (s : State) (q : Seq) : Bool := q.deadline != 0 && decide (q.deadline.toNat ≤ s.serve.cut.toNat)

/-- A row that sampled a token (R289, R296): the token log, the Token entry, and what ends the sequence. -/
def State.deliverToken (s : State) (r : Row) (tk : Nat) : State :=
  let q := s.seq r.slot
  let late := s.pastDeadline q
  let stop := q.stops.contains tk
  let s := (s.logToken r.slot q.logLen tk).bump GLB_CNT_TOKENS 1
  let s := s.setAcct q.account { s.acct q.account with tokens := (s.acct q.account).tokens + 1 }
  let s := s.say r.slot (Entry.token (late.toNat + 2 * stop.toNat) (r.assay.toNat % 16) 0 (s.handleOf r.slot) tk q.logLen)
  let q := { q with st := 4, faults := 0, nextPos := r.position + r.tokens, logLen := q.logLen + 1, produced := q.produced + 1,
                    sinceExt := q.sinceExt + 1 }
  let s := s.setSeq r.slot q
  if late then s.endSeq r.slot stDeadline
  else if stop then s.completeSeq r.slot stEndStop
  else if q.maxNew ≠ 0 ∧ q.maxNew ≤ q.sinceExt then s.completeSeq r.slot stEndMaxNew
  else if q.maxLen ≤ q.logLen then s.completeSeq r.slot stEndLength
  else s

/-- A tuning row that ran: completed, or failed under R208; the last slice ends the sequence (R296). -/
def State.tuneRow (s : State) (r : Row) : State :=
  let q := s.seq r.slot
  let late := s.pastDeadline q
  let s := s.say r.slot (Entry.token (late.toNat + 4) (r.assay.toNat % 16) (if r.replayBad then 3 else 4) (s.handleOf r.slot)
    r.tokens r.position)
  let s := s.setSeq r.slot { q with st := 3, faults := 0, nextPos := r.position + r.tokens }
  if late then s.endSeq r.slot stDeadline
  else if q.logLen ≤ r.position + r.tokens then s.endSeq r.slot stTuned
  else s

/-- A row that ran and delivers no token: a slice that does not end its log, or a recompute slice. A sampling row for which
no token was drawn leaves its sequence as it was (DEDUCED, log entry 57). -/
def State.plainRow (s : State) (r : Row) : State :=
  let q := s.seq r.slot
  let s := if r.sample then s
    else if r.recompute.isSome then s.setSeq r.slot { q with faults := 0 }
    else s.setSeq r.slot { q with st := 3, faults := 0, nextPos := r.position + r.tokens }
  if s.pastDeadline q then s.endSeq r.slot stDeadline else s

/-- Is a row withheld? -/
def State.rowWithheld (s : State) (r : Row) : Bool :=
  (r.poisoned && s.weightHit r) || (!r.poisoned && (r.faulted || r.lostChunk))

/-- What becomes of a row whose sequence nothing has ended yet: the first case of R289 that applies. -/
def State.settleRow (s : State) (r : Row) : State :=
  let q := s.seq r.slot
  if q.st = 0 ∨ q.ending = true then s
  else if r.poisoned ∧ s.weightHit r = false then s.poisonRow r
  else if s.rowWithheld r then (if r.faulted || r.poisoned then s.faultRow r else s.lostRow r)
  else if r.tuning then s.tuneRow r
  else match r.sample, r.token with
    | true, some tk => s.deliverToken r tk
    | _, _ => s.plainRow r

/-- Actions 2 to 5 for the rows of the step. -/
def State.settleRows (s : State) : State := s.serve.rows.foldl (fun s r => s.settleRow r) s

/-- The recompute slices of the step: entry, and whether it succeeded. -/
def State.recomputeDone (s : State) : List (Nat × Bool) :=
  s.serve.rows.filterMap (fun r => r.recompute.map (fun e => (e, !r.poisoned && !r.faulted && !r.lostChunk)))

/-- Sequences whose folios were not all restored within `timeout` steps of the first drop (R197). -/
def State.endLostFolios (s : State) (step : Nat) : State :=
  let good := (s.recomputeDone.filter Prod.snd).map Prod.fst
  s.live.foldl (fun s e =>
    let q := e.2
    match q.dropStep with
    | some d =>
      if q.active && !q.ending && decide (d + s.geo 19 18 ≤ step) &&
          q.regionEntries.any (fun i => ((s.folioOf i).st == 6 || (s.folioOf i).st == 7) && !good.contains i) then
        s.endSeq e.1 stFolioLost
      else s
    | none => s) s

/-- Deadlines of sequences that had no row in the step (R289, R290). -/
def State.endDeadlines (s : State) : State :=
  s.live.foldl (fun s e =>
    if e.2.st != 6 && !e.2.ending && s.pastDeadline e.2 && !s.serve.rows.any (fun r => r.slot == e.1) then
      s.endSeq e.1 stDeadline
    else s) s

/-! ### Gradient images (R327) -/

/-- The gradient image of one endorsement entry: its record, then the image, in the place whose turn it is. -/
def State.writeGradient (s : State) (n rows step : Nat) : State :=
  let x := s.endoOf n
  if x.grad = 0 then s
  else
    let size := Config.gradientSize x.length
    let (c, s) := s.draw
    let at_ := x.grad + BitVec.ofNat 64 (x.steps % 2 * (32 + size))
    let s := s.ledgerWrite 0 at_ (natLe 8 step ++ natLe 4 rows ++ natLe 20 0)
    let s := s.ledgerWrite 0 (at_ + 32) ((List.range size).map (Config.gradientByte c))
    s.setEndo n { x with steps := x.steps + 1 }

/-- The gradient images of the step: for each entry that a tuning row named whose contribution stands. -/
def State.writeGradients (s : State) (step : Nat) : State :=
  let good := s.serve.rows.filter (fun r => r.tuning && !r.poisoned && !r.faulted && !r.lostChunk && !r.replayBad)
  let es := (good.filterMap Row.endo).eraseDups
  es.foldl (fun s n => s.writeGradient n (good.filter (fun r => r.endo == some n)).length step) s

/-! ### Events of a posting point (R304, R364, R373, R397) -/

/-- The fault log's events: records gained, and the first posting point at which the log is full. -/
def State.logEvents (s : State) : State :=
  let s := if s.log.gained = 0 then s else s.eventHolder 0x30 s.log.gained (s.fld DBK_FLOG_HEAD 15 0)
  let full := s.logFull
  let s := if full && !s.log.fullSent then s.eventHolder 0x31 s.log.lostNow 0 else s
  let s := if s.log.missedN = 0 then s else s.eventAll 0x34 0 s.log.missedN
  let s := if s.log.missedS = 0 then s else s.eventAll 0x34 1 s.log.missedS
  let s := if s.log.missedN = 0 then s else s.setFlag DBK_STAT 29 false
  let s := if s.log.missedS = 0 then s else s.setFlag DBK_STAT 30 false
  { s with log := { s.log with gained := 0, lostNow := 0, missedN := 0, missedS := 0, fullSent := full } }

/-- Nodes that the route table names and that cannot be reached. -/
def State.unreachable (s : State) : List Nat :=
  if !s.serve.posted then []
  else (List.range 4096).filter (fun n => nbit (s.chr secRoutes (64 + 2 * n + 1) (64 + 2 * n)) 15 && (s.routeOf n).isNone)

/-- ROUTE_FAILED for each node that has become unreachable, or reachable again. -/
def State.routeEvents (s : State) : State :=
  let now := s.unreachable
  let was := s.clr.cutOff
  let s := (now.filter (fun n => !was.contains n)).foldl (fun s n => s.eventAll 0x42 n 0) s
  let s := (was.filter (fun n => !now.contains n)).foldl (fun s n => s.eventAll 0x42 n 1) s
  { s with clr := { s.clr with cutOff := now } }

/-- Is a source node a member of the domain, or of the peer domain (R394, R401, R402)? Only a Treasury keeps the
directory of its domain; elsewhere, and for a peer domain, the node's range is what the device has (DEDUCED, log entry 63). -/
def State.isMember (s : State) (node : Nat) : Bool :=
  let pair := nbit (s.chr secRoutes 7 6) 15
  if s.role = 0 then true
  else if s.role = 2 && (!pair || node / 2048 == s.node / 2048) then
    node == s.node || (look DomEntry.absent s.clr.dir (node % 2048)).st == 1
  else pair || decide (node < 2048)

/-- Held signals of nodes that are no members are discarded (R394). -/
def State.dropHeld (s : State) : State :=
  let gone := s.clr.held.filter (fun h => !s.isMember h.node)
  let s := gone.foldl (fun s h => s.bump (CLR_CNT_STALE h.port) 1) s
  { s with clr := { s.clr with held := s.clr.held.filter (fun h => s.isMember h.node) } }

/-! ### Action 12: Statements (R300, R301) -/

/-- The lanes that have an entry, as 256 × port + lane. -/
def State.sayingLanes (s : State) : List Nat :=
  let a := s.serve.answers.map (fun x => 256 * x.port + x.lane)
  let b := s.serve.said.map (fun x => 256 * x.port + x.lane)
  let e := s.serve.events.flatMap (fun x => (if x.p0 then [0] else []) ++ (if x.p1 then [256] else []))
  sortBy (fun x y => decide (x ≤ y)) (a ++ b ++ e).eraseDups

/-- The entries of a lane, in the order of R300. -/
def State.entriesFor (s : State) (p l : Nat) : List Entry :=
  let answers := sortBy (fun x y => decide (x.order ≤ y.order)) (s.serve.answers.filter (fun x => x.port == p && x.lane == l))
  let said := sortBy (fun x y => decide (x.slot ≤ y.slot)) (s.serve.said.filter (fun x => x.port == p && x.lane == l))
  let events := if l = 0 then s.serve.events.filter (fun e => if p = 0 then e.p0 else e.p1) else []
  answers.map Answer.entry ++ said.map Said.entry ++ events.map Entry.ofEvent

/-- Write the Statements of a posting point. -/
def State.statements (s : State) (step : Nat) : State :=
  let flags := s.serve.storm.toNat + 2 * s.serve.pressed.toNat
  let out := s.sayingLanes.map (fun k => (k, s.entriesFor (k / 256) (k % 256)))
  let head (es : List Entry) : Entry := Entry.header flags es.length (step % 2 ^ 32) s.serve.cut
  let s := out.foldl (fun s e => s.deliver (e.1 / 256) (e.1 % 256) (head e.2 :: e.2)) s
  { s with serve := { s.serve with answers := [], said := [], events := [] } }

/-- The end of a posting point: the lifetime count (R372), what it says, and Sleep where it may begin. -/
def State.finishPost (s : State) (step : Nat) : State :=
  let s := { s with mram := { s.mram with life := s.mram.life + 1 } }
  (((s.logEvents.routeEvents.dropHeld).settleAccounts).statements step).fallAsleep

/-! ### The posting point (R288) -/

/-- Actions 1 to 10 of the posting point of a step: the state, and the next step's rows and share. -/
def State.postActions (s : State) (step : Nat) : State × List Row × Nat :=
  let (s, cut) := s.takeCut
  let s := (cut.filter Ticket.early).foldl (fun s t => s.earlyTicket t) s
  let s := (s.lostFolios step).checkReplays
  let s := ((s.settleRows).endLostFolios step).endDeadlines
  let s := (s.writeGradients step).formatActions step
  let s := s.ledgerActions step s.recomputeDone
  let s := (s.epochActions step).lateTickets cut
  s.formStep

/-- Does a handover request hold action 11 until the next comparison (R437)? -/
def State.holdsRelease (s : State) : Bool := s.flag (STW_WARRANT 0) 31 && s.contact

/-- Action 11 and 12 of the posting point of a step. -/
def State.releaseAndSay (s : State) (rows : List Row) (share step : Nat) : State :=
  (s.releaseStep rows share step).finishPost step

/-- The posting point of the running step: it is held once every queue of the step has finished. -/
def State.postStep (s : State) : State :=
  if !s.mayPost || !s.serve.posted || !s.serve.running || s.inHold || !s.stepFinished then s
  else
    let n := s.stepNow
    let (s, rows, share) := s.postActions n
    if s.holdsRelease then { s with serve := { s.serve with heldPost := some (rows, share) } }
    else s.releaseAndSay rows share n

/-- The empty posting point before the first step (R450): actions 1, 8, 9 and 12. Where a Charter has posted, step 1 is formed
and released, unless a Hold stands (DEDUCED, log entry 58). -/
def State.postEmpty (s : State) : State :=
  if !s.mayPost || s.serve.running then s
  else
    let (s, cut) := s.takeCut
    let s := (cut.filter Ticket.early).foldl (fun s t => s.earlyTicket t) s
    let s := (s.epochActions 0).lateTickets cut
    if s.serve.posted && !s.inHold then
      let (s, rows, share) := s.formStep
      s.releaseAndSay rows share 0
    else s.finishPost 0

/-- The comparison of the copies (R42) ends what a handover held: the handover where they are equal, and the release
(R437). -/
def State.endHold (s : State) : State :=
  match s.serve.heldPost with
  | none => s
  | some (rows, share) =>
    let n := s.stepNow
    let s := { s with serve := { s.serve with heldPost := none } }
    let s := if s.time.north = s.time.south then s.handover else s
    s.releaseAndSay rows share n

/-! ### Meanings -/

/-- POSTING_POINT (R288). -/
def execPostingPoint (s : State) : Host.Outcome State Fault Refusal := .next s.postStep
/-- EMPTY_POSTING_POINT (R450). -/
def execEmptyPostingPoint (s : State) : Host.Outcome State Fault Refusal := .next s.postEmpty

end Sys2Proof.Machine
end

