-- ==== Sys2Proof/Machine/Boot.lean ====
section
/-! DEFINITION. The phases of boot (15_steward_reset_and_boot.md R451, R452; 16 R463) and the comparison of the two copies of
the device counter (02 R42, 15 R437). -/

namespace Sys2Proof.Machine

/-! ### Phase 1: firmware (R451, R453, R463) -/

/-- The slot that a Steward boots, and whether the newest failed its verification; none where neither slot verifies. -/
def State.bootSlot (s : State) (h : Nat) : Option (Nat × Bool) :=
  let n := s.fwNewest h
  if (s.fwSlot h n).verifies then some (n, false)
  else if (s.fwSlot h (1 - n)).verifies then some (1 - n, true)
  else none

/-- A Steward runs a slot. -/
def State.runSlot (s : State) (h k : Nat) (fallback : Bool) : State :=
  let s := { s with mram := { s.mram with running := put 0 s.mram.running h k } }
  let s := if fallback then s.setFlag RST_CAUSE 6 true else { s with mram := { s.mram with fwFails := 0 } }
  s.extend (1 + h) (natLe 32 (s.fwSlot h k).digest.toNat)

/-- The measurements of phase 1 beside those of the firmware (R463). -/
def State.measureBoot (s : State) : State :=
  let s := s.extend 0 (natLe 32 Config.romDigest.toNat)
  let s := s.extend 3 (natLe 32 (Config.portRomDigest 0).toNat ++ natLe 32 (Config.portRomDigest 1).toNat)
  let s := s.extend 4 (natLe 32 Config.fuseWord.toNat)
  match s.mram.probeSet with
  | some p => s.extend 7 (natLe 32 p.digest.toNat)
  | none => s

/-- Are rows 1 to 3 released in every half that is being released? -/
def State.rowsDone (s : State) (n : Nat) : Bool :=
  (List.range 2).any (fun h => decide (n ≤ s.rowsOf h)) &&
    (List.range 2).all (fun h => s.rowsOf h == 0 || decide (n ≤ s.rowsOf h))

/-- Phase 1 ends: the firmware is chosen and measured, or boot stalls. -/
def State.firmwareBoot (s : State) : State :=
  match s.bootSlot 0, s.bootSlot 1 with
  | some (a, fa), some (b, fb) =>
    let s := ((s.runSlot 0 a fa).runSlot 1 b fb).measureBoot
    let s := s.setFld RST_BOOT 29 26 (if s.mram.sweepPending then 2 else 3)
    let s := if fa then s.fwFailed else s
    if fb then s.fwFailed else s
  | _, _ => (s.setFlag RST_BOOT 30 true).fwFailed

/-! ### Phases 5 and 6: the directory and the surplus store (R451, R452) -/

/-- A bank whose state phase 5 verifies. -/
def DirEntry.verified (d : DirEntry) (k : Bank) : Bool :=
  let st := d.state k
  st != bankEmpty && st != bankFailed && st != bankSwept

/-- Verify one bank against MRAM. -/
def State.verifyBank (s : State) (t : Nat) (k : Bank) : State :=
  if (s.dirOf t).verified k && crc32c (setBytes (s.level t k) 0) != look 0 s.mram.setCrc0 (2 * t + k.toNat) then
    (s.setDir t ((s.dirOf t).setState k bankFailed)).programRecord t 0 stVerifyFailed 0
  else s

/-- Phase 5: every bank of the directory. -/
def State.verifyDirectory (s : State) : State :=
  s.dir.foldl (fun s e => (s.verifyBank e.1 false).verifyBank e.1 true) s

/-- Restore one tile's surplus entries and checksums where its record is of its Live bank's epoch. -/
def State.restoreSurplus (s : State) (t : Nat) (r : SurplusRec) : State :=
  match (s.dirOf t).live with
  | none => s
  | some k =>
    if (s.dirOf t).epoch k = r.epoch then
      (s.setSurplus t (r.words.map BitVec.toNat)).auxWrite t (if k then 0x2600 else 0x2400)
        ((r.checks.map BitVec.toNat).flatMap (natLe 4))
    else s.setTile t { s.tile t with mismatched := true }

/-- Phase 6. -/
def State.restoreAll (s : State) : State := s.mram.surplus.foldl (fun s e => s.restoreSurplus e.1 e.2) s

/-! ### The phases in turn (R451) -/

/-- The notice of a reset to lane 0 of each port, once it completes (R441). -/
def State.resetNotice (s : State) : State :=
  match s.rst.notice with
  | none => s
  | some level =>
    let e := noticeEvent 0x54 level (s.reg RST_CAUSE).toNat
    let s := { s with rst := { s.rst with notice := none } }
    (s.notice 0 0 e).notice 1 0 e

/-- The next phase begins. -/
def State.toPhase (s : State) (n : Nat) : State := s.setFld RST_BOOT 29 26 n

/-- Is a tile under bench calibration? -/
def State.anyBench (s : State) : Bool := s.tiles.any (fun e => e.2.benched.isSome)

/-- The work of the phase in progress is done; nothing happens where it cannot be. -/
def State.phaseDone (s : State) : State :=
  match s.phase with
  | 1 => if s.rowsDone 3 then s.firmwareBoot else s
  | 2 => if s.mram.sweepPending then s else s.toPhase 3
  | 3 => if s.rowsDone 4 then s.toPhase 4 else s
  | 4 => if s.rowsDone 7 then s.toPhase 5 else s
  | 5 => s.verifyDirectory.toPhase 6
  | 6 => s.restoreAll.toPhase 7
  | 7 => if s.anyBench then s else ((s.toPhase 8).setFlag RST_BOOT 31 true).resetNotice
  | _ => s

/-! ### The comparison (R42, R46, R437) -/

/-- Junior copy minus senior copy. -/
def State.lead (s : State) : Int :=
  let h := s.senior.getD 0
  (s.counter (1 - h) - s.counter h).toInt

/-- The junior Steward compares its copy with the senior copy: the difference to slew away, `offset`, and the end of a held
posting point. Out of contact there is no comparison. -/
def State.compareCounters (s : State) : State :=
  if s.senior.isNone || !s.contact then s
  else
    let d := s.lead
    let s := s.setFld GLB_CLKSTAT 23 16 (toTwos 8 (clampInt (-128) 127 d))
    ({ s with time := { s.time with slewDiff := d } } : State).endHold

/-! ### Meanings -/

/-- BOOT_PHASE_COMPLETE (R451). -/
def execBootPhaseComplete (s : State) : Host.Outcome State Fault Refusal := .next s.phaseDone
/-- COUNTER_COMPARE (R42). -/
def execCounterCompare (s : State) : Host.Outcome State Fault Refusal := .next s.compareCounters

end Sys2Proof.Machine
end

