-- ==== Sys2Proof/Machine/Registers.lean ====
section
/-! DEFINITION. What a register reads as, and what a write of a register does (00_scope.md R8 to R11, and the register
headings of every chapter). A write of a bit that has a row of its own is that row's command, and goes to the same
operation; the mailboxes' `go` alone has no effect here, as the rows ATTEST and the owner commands bring the data that it
fetches (DESIGN CHOICE, log entry 61). -/

namespace Sys2Proof.Machine

/-! ### 64-bit registers (R8) -/

/-- Is a word part of a 64-bit register (the headings that say 64-bit)? -/
def isWide (a : Nat) : Bool :=
  let within (o lo hi : Nat) : Bool := decide (lo ≤ o) && decide (o < hi)
  match siteOf a with
  | (.glb, o) => within o 0x10 0x18 || within o 0x100 0x108 || within o 0x120 0x140 || within o 0x188 0x190 ||
      within o 0x208 0x210
  | (.stw _, o) => within o 0x20 0x28
  | (.sec, o) => within o 0x48 0x50 || within o 0x58 0x60
  | (.aud _, o) => within o 0x100 0x300 || within o 0x400 0x500 || within o 0x800 0x818
  | (.hpt _, o) => within o 8 0x10 || within o 0x40 0x68
  | (.clr _, o) => within o 0x40 0x70 || (within o 0x100 0x280 && decide (8 ≤ o % 0x40))
  | (.tal _, o) => within o 0x8010 0x8028
  | (.dma _ _, o) => within o 0x40 0x70 || within o 0x100 0x130
  | (.dmaAll _, o) => within o 0x8000 0x8008
  | (.tmr _ _, o) => within o 0x10 0x18
  | (.fol _, o) => within o 0x40100 0x40138
  | (.mgc _ _, o) => within o 0x20 0x88 || within o 0xA0 0xC0 || within o 0x388 0x390
  | (.asy _ _, o) => within o 0x40 0xB8 || within o 0x100 0x130
  | (.atn _ _, o) => within o 0x40 0x88 || within o 0x100 0x130
  | (.vec _ _, o) => within o 0x40 0x78 || within o 0x100 0x130
  | (.tlr _ _, o) => within o 0 0x10
  | (.dbk, o) => within o 0x10 0x18 || within o 0x40 0x68
  | _ => false

/-! ### Views: registers that report what other parts of the state hold -/

/-- Bit `k` of a number being put together. -/
def bitAt (k : Nat) (b : Bool) : Nat := b.toNat * 2 ^ k

/-- The bits of a register that the bank holds, without those of a mask. -/
def State.regBut (s : State) (a mask : Nat) : Nat := (s.reg a).toNat - ((s.reg a).toNat &&& mask)

/-- The GLB block (R3, R45, R46, R304, R332, R490). -/
def State.glbView (s : State) (o : Nat) : Nat :=
  let a := glb o
  if o = 0x10 then s.now.toNat
  else if o = 0x20 then
    s.regBut a 0xC0000000 + bitAt 31 (s.senior.isSome && !s.contact) + bitAt 30 (s.senior == some 1)
  else if o = 0x108 then
    s.regBut a 0x60000000 + bitAt 30 (decide (intakeSize ≤ (s.port 1).intake.length))
      + bitAt 29 (decide (intakeSize ≤ (s.port 0).intake.length))
  else if o = 0x10C then s.live.length * 2 ^ 16 + s.freeSlots_
  else if o = 0x180 then
    let e := s.epochs
    let st := if e.draining.isSome then 3 else if e.load.isSome then 2 else if e.live.isSome then 1 else 0
    (e.live.getD 0).toNat * 2 ^ 16 + st * 2 ^ 14 + s.unreadyLayers * 2 ^ 6
  else if o = 0x188 then (s.endo.filter (fun e => e.2.st == 4)).length * 2 ^ 48 + Config.endoTable.toNat
  else if o = 0x210 then s.regBut a 0x80000000 + bitAt 31 s.mram.tripSeen
  else (s.reg a).toNat

/-- STW: the Warrant and firmware registers show the same values in both blocks (R456). -/
def State.stwView (s : State) (h o : Nat) : Nat :=
  let w := s.senior.getD 0
  if o = 0x2C then
    let other := s.fwSlot w (1 - s.fwRunning w)
    s.fwVersion w * 2 ^ 16 + (if other.verifies then other.version.toNat else 0)
  else if 0x10 ≤ o then (s.reg (stw 0 o)).toNat
  else (s.reg (stw h o)).toNat

/-- SEC (R459, R463, R465, R472). -/
def State.secView (s : State) (o : Nat) : Nat :=
  let a := secReg o
  if o = 0 then
    s.regBut a 0xE0000000 + bitAt 31 s.identity + bitAt 30 s.mram.erased + bitAt 29 s.alarmHold
  else if o = 8 then s.mram.levels.toNat
  else if 0x10 ≤ o ∧ o < 0x20 then
    let k := s.ownerSlot ((o - 0x10) / 4)
    bitAt 31 k.valid + k.uses.toNat * 2 ^ 8 + k.alg.toNat
  else if 0x80 ≤ o ∧ o < 0xA0 then s.sec.challenge.toNat / 2 ^ (8 * (o - 0x80)) % 2 ^ 32
  else if 0xA0 ≤ o ∧ o < 0xC0 then 0
  else if 0x800 ≤ o ∧ o < 0xA00 then
    (s.measure ((o - 0x800) / 32)).toNat / 2 ^ (8 * ((o - 0x800) % 32)) % 2 ^ 32
  else if 0x1000 ≤ o ∧ o < 0x1080 then
    (s.ownerSlot ((o - 0x1000) / 32)).hash.toNat / 2 ^ (8 * (o % 32)) % 2 ^ 32
  else if 0x8000 ≤ o ∧ o < 0x18000 then leNat ((Config.identityCert.drop (o - 0x8000)).take 4)
  else (s.reg a).toNat

/-- The 32 bytes of a host window entry (R420). -/
def HostWin.encode (h : HostWin) : List Byte :=
  natLe 8 h.rbase.toNat ++ natLe 8 h.hbase.toNat ++ natLe 4 h.size.toNat ++ natLe 1 h.fn.toNat ++ natLe 1 h.perm.toNat
    ++ List.replicate 10 0

/-- HPT (R420, R427). -/
def State.hptView (s : State) (p o : Nat) : Nat :=
  if 0x1000 ≤ o ∧ o < 0x1800 then leNat (tableRead 32 (fun n => (s.window p n).encode) (o - 0x1000) 4)
  else (s.reg (hpt p o)).toNat

/-- CLR (R395, R407): both blocks show the device's role and rolls. -/
def State.clrView (s : State) (p o : Nat) : Nat :=
  let on := s.serve.posted
  if o = 0 then
    if !on then bitAt 29 s.fencedOff
    else s.role * 2 ^ 30 + bitAt 29 s.fencedOff + bitAt 28 (s.role == 2 || (s.role == 1 && s.flag (CLR_ID 0) 28))
      + 2 ^ 27 + s.chr secRoutes 3 3 % 2 * 2 ^ 26 + s.treasury * 2 ^ 12 + s.node
  else if o = 4 then
    s.regBut (CLR_ROLL 0) 0x0FFFFFFF + Nat.min s.clr.kept.length 4095 * 2 ^ 16
      + (if s.role = 2 then (s.clr.dir.filter (fun e => e.2.st == 1)).length % 4096 else 0)
  else if 0x100 ≤ o ∧ o < 0x280 ∧ o % 0x40 = 0 then
    s.regBut (clrReg p o) 0x10000000 + bitAt 28 (s.linkKeyed (6 * p + (o - 0x100) / 0x40))
  else if 0x10000 ≤ o ∧ o < 0x12000 then
    (if on then s.chr secRoutes (64 + (o - 0x10000) + 3) (64 + (o - 0x10000)) else 0)
  else (s.reg (clrReg p o)).toNat

/-- TAL (R243): a Tally's value and control word. -/
def State.talView (s : State) (d o : Nat) : Nat :=
  let t := s.tallyOf (d * 4096 + o / 8 % 4096)
  if 0x8000 ≤ o then (s.reg (tal d o)).toNat
  else if o % 8 = 0 then toTwos 32 t.value
  else t.kind * 2 ^ 30 + bitAt 29 t.misused + t.round % 256 * 2 ^ 20 + t.parts % 1024 * 2 ^ 10 + t.next % 1024

/-- A head's part of `ENG_QHEAD`: does it wait on a Tally, and which (R215)? -/
def State.headWait (s : State) (u : EngUnit) (decode : Bool) : Bool × Nat :=
  let q := s.queueOf u decode
  match q.entries with
  | [] => (false, 0)
  | e :: _ => if s.waiting u q e.order then (true, waitTally u e.order % 4096) else (false, 0)

/-- The queue registers and the status of a unit (R204, R241). -/
def State.unitView (s : State) (u : EngUnit) (o : Nat) : Nat :=
  let a := unitReg u o
  let reset := bitAt 0 (s.rst.blockResets.contains (.unit u))
  if o = 0 then s.regBut a 1 + reset
  else if o = 0x24 then
    let (dw, dt) := s.headWait u true
    let (pw, pt) := s.headWait u false
    bitAt 31 dw + bitAt 30 pw + dt * 2 ^ 16 + pt
  else if o = 0x28 then (s.queueOf u true).skip * 2 ^ 16 + (s.queueOf u false).skip
  else if o = 4 then
    match u.kind with
    | .dma => (s.reg a).toNat
    | .assay =>
      let ts := groupTiles u.die.val u.inst
      s.regBut a 0x8000FFFF
        + bitAt 31 (s.unitBusy u || ts.any (fun t => (s.tile t).slice.isSome))
        + (List.range 16).foldl (fun n k => n + bitAt k (s.setState (ts.getD k 0) == 1)) 0
    | _ =>
      let stuck (b : Bool) : Bool := !(s.queueOf u b).entries.isEmpty && !s.headMay u b
      s.regBut a 0xA1FF01FF + bitAt 31 (s.unitBusy u) + bitAt 29 (stuck true || stuck false)
        + (s.queueOf u true).entries.length * 2 ^ 16 + (s.queueOf u false).entries.length
  else (s.reg a).toNat

/-- MGC and, from 0x380 on, the governor of the group's Mint die (R133, R134, R357). -/
def State.mgcView (s : State) (d u o : Nat) : Nat :=
  let a := mgc d u o
  let g := s.groupOf d u
  let ts := groupTiles d u
  let bitsOf (p : Nat → Bool) : Nat := (List.range 16).foldl (fun n k => n + bitAt k (p (ts.getD k 0))) 0
  if 0x380 ≤ o then
    let m := d * 4 + u / 128
    if o = 0x384 then s.regBut (MGV_OCC m) 0x3FF + s.occupancy m
    else if o = 0x390 then s.regBut (MGV_SWEEP m) 0xC0000000 + bitAt 31 s.mram.sweepPending
      + bitAt 30 (s.mram.sweepPending && s.coreRuns (d / 2))
    else (s.reg (mgv m o)).toNat
  else if o = 0 then s.regBut a 1 + bitAt 0 (s.rst.blockResets.any (fun b =>
    match b with | .group e v => e.val == d && v.val == u | _ => false))
  else if o = 4 then
    s.regBut a 0x1FFFFFFF + bitAt 28 (s.mram.sweepPending && s.coreRuns (d / 2)) + bitAt 27 (!g.queue.isEmpty)
      + (match g.queue with | c :: _ => c.tile.val | [] => 0) * 2 ^ 23 + g.queue.length * 2 ^ 18
      + bitsOf (fun t => (s.tile t).striking)
  else if o = 8 then
    g.row % 1024 * 2 ^ 20 + bitAt 19 (match g.queue with | c :: _ => c.bank | [] => false)
      + Nat.min g.extra 255 * 2 ^ 8 + Nat.min g.stuck 255
  else if o = 0xC then
    bitsOf (fun t => (s.dirOf t).state false == bankProgramming || (s.dirOf t).state true == bankProgramming) * 2 ^ 16
      + bitsOf (fun t => (s.dirOf t).active)
  else (s.reg a).toNat

/-- The 16 bytes of a Folio Ledger entry (R181). -/
def Folio.encode (x : Folio) : List Byte :=
  natLe 1 x.st ++ natLe 1 (bitAt 0 x.pin + bitAt 1 x.recomp + bitAt 2 x.poisoned) ++ natLe 2 x.fill
    ++ natLe 2 (x.frame.getD 0xFFFF) ++ natLe 2 x.slot ++ natLe 8 x.reserve.toNat

/-- FOL (R203, R204): 16,384 entries of the ledger, chosen by `win`, and the control registers. -/
def State.folView (s : State) (d o : Nat) : Nat :=
  let on := s.serve.posted
  if o < 0x40000 then
    leNat (tableRead 16 (fun k => (s.folioOf (k + 16384 * s.fld (FOL_CTRL d) 0 0)).encode) o 4)
  else if o = 0x4000C then (if on then s.entriesTaken * 2 ^ 16 + s.longestRun else 0)
  else if 0x40020 ≤ o ∧ o < 0x40060 then
    let n := (o - 0x40020) / 4
    if on && decide (n < s.winCount) then bitAt 31 (s.winReach n) + 2 ^ 30 + s.winFree n % 2 ^ 28 else 0
  else (s.reg (fol d o)).toNat

/-- The lane registers (R428). -/
def State.tlrView (s : State) (p l o : Nat) : Nat :=
  let lane := s.laneOf p l
  if o = 0x1C then
    s.regBut (tlr p l o) 0x2000007F + bitAt 29 (!lane.backlog.isEmpty)
      + (lane.slots.filter (fun e => e.2.full)).length
  else (s.reg (tlr p l o)).toNat

/-- An MSI-X table word, or 32 bits of the pending array, of a function: 16 bytes an entry, the array from `pba` on
(R412, R413; PCIe gives the layout, PRESUMED, log entry 60). -/
def State.msixView (s : State) (p fn pba o : Nat) : Nat :=
  let q := s.port p
  if o < pba then
    let k := msixKey fn (o / 16)
    if o % 16 = 12 then bitAt 0 (look true q.masked k) else (look 0 q.vectors (4 * k + o % 16 / 4)).toNat
  else (List.range 32).foldl (fun n i => n + bitAt i (look false q.msiPend (msixKey fn (8 * (o - pba) + i)))) 0

/-- DBK (R380). -/
def State.dbkView (s : State) (o : Nat) : Nat :=
  if o = 8 then
    s.regBut DBK_STAT 0x9000FFFF + bitAt 31 s.logFull + bitAt 28 s.mirrorOn
      + Nat.min (s.dir.filter (fun e => e.2.fallback)).length 0xFFFF
  else if o = 0xC then (match s.mram.probeSet with | some x => x.setId.toNat | none => 0)
  else if o = 0x10 then s.mram.life.toNat
  else if 0x100000 ≤ o ∧ o < 0x300000 then leNat (s.bookRead (o - 0x100000) 4)
  else if 0x400000 ≤ o ∧ o < 0x800000 then leNat (s.bookRead (o - 0x400000 + 0x1000000) 4)
  else (s.reg (dbk o)).toNat

/-- A unit of a die. -/
def unitAt (d : Nat) (k : UnitKind) (i : Nat) : EngUnit := ⟨⟨d % 4, Nat.mod_lt _ (by decide)⟩, k, i⟩

/-- What the register at `a`, whole, reads as through the PF of port `p`. An offset that no block assigns reads 0 (R9). -/
def State.regView (s : State) (p a : Nat) : Nat :=
  match siteOf a with
  | (.glb, o) => s.glbView o
  | (.stw h, o) => s.stwView h o
  | (.rst, o) => (s.reg (rstReg o)).toNat
  | (.sec, o) => s.secView o
  | (.aud i, o) => (s.reg (Machine.aud i o)).toNat
  | (.hpt q, o) => s.hptView q o
  | (.clr q, o) => s.clrView q o
  | (.vlt d, o) => if o = 0x40 then bitAt 31 (s.flag (VLT_CAL d) 31) + s.slotOf d % 1024 else 0
  | (.tal d, o) => s.talView d o
  | (.dma d k, o) => s.unitView (unitAt d .dma k) o
  | (.dmaAll d, o) =>
    if o = 0x8000 then (List.range 64).foldl (fun n k => n + bitAt k (s.flag (DMA_STAT d k) 31)) 0 else 0
  | (.tmr d k, o) => (s.reg (tmr d k o)).toNat
  | (.fol d, o) => s.folView d o
  | (.dir d, o) =>
    leNat (tableRead 32 (fun k => (s.dirOf (tileAt d (k / 16) (k % 16))).encode s.mram.sweepPending) o 4)
  | (.mgc d u, o) => s.mgcView d u o
  | (.asy d u, o) => s.unitView (unitAt d .assay u) o
  | (.atn d k, o) => s.unitView (unitAt d .attn k) o
  | (.vec d k, o) => s.unitView (unitAt d .vec k) o
  | (.tlr q l, o) => s.tlrView q l o
  | (.msix, o) => s.msixView p 0 0x8000 o
  | (.dbk, o) => s.dbkView o
  | (.other, _) => 0

/-- The 32-bit word at offset `a` of BAR0. -/
def State.busWord (s : State) (p a : Nat) : Nat :=
  let a := a / 4 * 4
  (if isWide a then s.regView p (a / 8 * 8) / 2 ^ (8 * (a % 8)) else s.regView p a) % 2 ^ 32

/-- `n` bytes from offset `a` of BAR0 on. -/
def State.busRead (s : State) (p a n : Nat) : List Byte :=
  (List.range n).map (fun i => BitVec.ofNat 8 (s.busWord p (a + i) / 2 ^ (8 * ((a + i) % 4))))

/-! ### Writing -/

/-- W1C: clear the bits of a mask that are written 1 (R10). -/
def State.w1c (s : State) (a mask v : Nat) : State :=
  let clear := v &&& mask
  s.setReg a (s.reg a - BitVec.ofNat 64 ((s.reg a).toNat &&& clear))

/-- GLB: the power and pin registers, from the Warrant holder alone (R490). `req` 1 is reserved and changes nothing (log
entry 61). -/
def State.glbWrite (s : State) (w : Src) (o v : Nat) : State :=
  if !s.holder w then s
  else if o = 0x200 then
    let s := (s.w1c GLB_PWR (2 ^ 27) v).writeCap w (nbits v 25 16)
    match nbits v 29 28 with
    | 0 => s.reqRun w
    | 2 => s.reqHold w
    | 3 => s.reqSleep w
    | _ => s
  else if o = 0x210 then
    let s := if nbit v 31 then s.clearTrip w else s
    s.writeThrottle w (nbits v 23 16)
  else if o = 0x214 then s.w1c GLB_PINS 0x7FF v
  else s

/-- STW: the Warrant and firmware registers act through either block (R456). -/
def State.stwWrite (s : State) (w : Src) (o v : Nat) : State :=
  if o = 0x10 then
    let s := s.w1c (STW_WARRANT 0) (2 ^ 30) v
    let s := if nbit v 1 then s.claimWrite w else s
    if nbit v 0 then s.handoverWrite w else s
  else if !s.holder w then s
  else if o = 0x20 then s.setFld (STW_FWSRC 0) 31 0 v
  else if o = 0x24 then s.setFld (STW_FWSRC 0) 63 32 v
  else if o = 0x28 then
    let s := s.setFld (STW_FWCTL 0) 23 0 (v % 2 ^ 24)
    if nbit v 30 then s.fwStart w else s
  else s

/-- RST (R440, R454, R456). -/
def State.rstWrite (s : State) (w : Src) (o v : Nat) : State :=
  if o = 0 then s.w1c RST_CAUSE 0xFF v
  else if o = 4 then
    match v with
    | 1 => s.cmdSystem w
    | 2 => s.cmdCore w
    | 3 => s.cmdArm w
    | 4 => s.cmdDecommission w
    | _ => s
  else s

/-- A word of `SEC_EXTEND`: the last performs the extend (R463, R472). -/
def State.extendWord (s : State) (w : Src) (o v : Nat) : State :=
  if !s.holder w then s
  else
    let s := s.setReg (secReg o) (BitVec.ofNat 64 v)
    if o = 0xBC then
      s.extendWrite w (BitVec.ofNat 256 (leNat ((List.range 8).flatMap (fun i => natLe 4 (s.reg (secReg (0xA0 + 4 * i))).toNat))))
    else s

/-- SEC (R472): a mailbox is written by the PF of its port (DESIGN CHOICE, log entry 61). -/
def State.secWrite (s : State) (w : Src) (o v : Nat) : State :=
  if o = 0 then (if nbit v 28 then s.alarmRelease w else s)
  else if o = 4 then s.w1c SEC_ALARM 0x3F v
  else if o = 8 then s.raiseLevels w (BitVec.ofNat 12 v)
  else if 0x40 ≤ o ∧ o < 0x60 then
    let p := (o - 0x40) / 0x10
    if w.port.val ≠ p then s
    else if o % 0x10 = 0 then (s.setFld (SEC_MBCTL p) 29 28 (nbits v 29 28)).setFld (SEC_MBCTL p) 23 0 (v % 2 ^ 24)
    else if o % 0x10 = 8 then s.setFld (SEC_MBADDR p) 31 0 v
    else if o % 0x10 = 12 then s.setFld (SEC_MBADDR p) 63 32 v
    else s
  else if 0xA0 ≤ o ∧ o < 0xC0 then s.extendWord w o v
  else s

/-- AUD: from the Warrant holder's port alone (R356). -/
def State.audWrite (s : State) (w : Src) (i o v : Nat) : State :=
  if !s.holder w then s
  else if o = 0 then
    let s := s.setFlag (AUD_CTRL i) 0 (nbit v 0)
    if nbit v 1 then s.refbufOn w i else s.setFlag (AUD_CTRL i) 1 false
  else if o = 4 then s.w1c (AUD_STAT i) (2 ^ 27) v
  else if o = 0x300 then s.w1c (AUD_NEW i) 0xFFFFFFFF v
  else if 0x400 ≤ o ∧ o < 0x500 ∧ o % 8 = 4 then s.w1c (Machine.aud i (o - 4)) (3 * 2 ^ 61) (v * 2 ^ 32)
  else if o = 0x600 then s.clearTrackers w i v
  else if o = 0x700 then s.w1c (AUD_DATA i) (2 ^ 30) v
  else s

/-- HPT: through the block's own port (R414, R420, R427). -/
def State.hptWrite (s : State) (w : Src) (p o v : Nat) : State :=
  if w.port.val ≠ p then s
  else if o = 0 then s.w1c (HPT_LINK p) (2 ^ 29) v
  else if o = 8 then (if s.holder w then s.setFld (HPT_B4BASE p) 31 30 (nbits v 31 30) else s)
  else if o = 0xC then (if s.holder w then s.setFld (HPT_B4BASE p) 37 32 (nbits v 5 0) else s)
  else if 0x1000 ≤ o ∧ o < 0x1800 then s.windowWrite w p ((o - 0x1000) / 32) (o % 32 / 4) v
  else s

/-- A Tally's control word: `misused`, from the Warrant holder's port (R243). -/
def State.talWrite (s : State) (w : Src) (d o v : Nat) : State :=
  let t := d * 4096 + o / 8 % 4096
  if s.holder w && decide (o < 0x8000) && o % 8 == 4 && nbit v 29 then s.setTally t { s.tallyOf t with misused := false }
  else s

/-- The control and status words that every block has (R133, R170, R204, R443). -/
def State.blockWrite (s : State) (w : Src) (b : Block) (v : Nat) : State :=
  let s := s.quiesceWrite w b (nbit v 1)
  if nbit v 0 then s.blockReset w b else s

/-- A DMA channel (R271). -/
def State.dmaWrite (s : State) (w : Src) (d : Die) (k o v : Nat) : State :=
  if o = 0 then
    if !s.holder w then s
    else
      let s := s.setFld (DMA_CTRL d.val k) 29 19 (nbits v 29 19)
      let s := if nbit v 2 then s.dmaStop w d k else s
      let s := if nbit v 1 then s.dmaGo w d k else s
      if nbit v 0 then s.blockReset w (.unit ⟨d, .dma, k⟩) else s
  else if o = 4 then s.w1c (DMA_STAT d.val k) 0x7E000000 v
  else if o = 8 then
    (if s.holder w && s.owner d.val k == 2 then s.setFld (DMA_DESC d.val k) 21 0 (v % 2 ^ 22) else s)
  else s

/-- A Mint group and its die's governor (R133, R134, R357). -/
def State.mgcWrite (s : State) (w : Src) (d : Die) (u : Nat) (o v : Nat) : State :=
  if o = 0 then s.blockWrite w (.group d ⟨u % 512, Nat.mod_lt _ (by decide)⟩) v
  else if o = 4 then s.w1c (MGC_STAT d.val u) (2 ^ 29) v
  else if o = 0x90 then (if nbit v 30 then s.calStart w d.val u else s)
  else if o = 0x384 then
    (if nbit v 31 then s.setFld (MGV_OCC (d.val * 4 + u / 128)) 25 16 0 else s)
  else s

/-- An Assay unit or an engine (R170, R204). -/
def State.unitWrite (s : State) (w : Src) (u : EngUnit) (o v : Nat) : State :=
  if o = 0 then s.blockWrite w (.unit u) v
  else if o = 4 then s.w1c (unitReg u 4) (2 ^ 30) v
  else if o = 0x10 then (match u.kind with | .assay => s.w1c (unitReg u 0x10) 0x1F v | _ => s)
  else s

/-- A lane's status: the PF alone binds it (R418, R428). -/
def State.lstatWrite (s : State) (w : Src) (p l v : Nat) : State :=
  let a := TLR_LSTAT p l
  let s := s.w1c a 0xD0000000 v
  if w.fn.val = 0 then (s.setFlag a 27 (nbit v 27)).setFld a 23 12 (nbits v 23 12) else s

/-- A lane's registers: through their own port, by the PF or the VF that owns the lane (R414, R428). -/
def State.tlrWrite (s : State) (w : Src) (p l o v : Nat) : State :=
  if w.port.val ≠ p ∨ s.mayLane w l = false then s
  else
    match o with
    | 0x00 => s.ringConfig w l 0 (setBits (s.reg (TLR_RBASE p l)) 31 0 v).toNat
    | 0x04 => s.ringConfig w l 0 (setBits (s.reg (TLR_RBASE p l)) 63 32 v).toNat
    | 0x08 => s.ringConfig w l 1 (setBits (s.reg (TLR_HADDR p l)) 31 0 v).toNat
    | 0x0C => s.ringConfig w l 1 (setBits (s.reg (TLR_HADDR p l)) 63 32 v).toNat
    | 0x10 => s.ringConfig w l 2 v
    | 0x14 => s.tailWrite w l (v / 65536)
    | 0x18 => s.stampWrite w l v
    | 0x1C => s.lstatWrite w p l v
    | _ => s

/-- A word of a function's MSI-X table: an address or data word, or the mask (R424). -/
def State.msixWrite (s : State) (p fn pba o v : Nat) : State :=
  let q := s.port p
  let k := msixKey fn (o / 16)
  if pba ≤ o then s
  else if o % 16 = 12 then (if nbit v 0 then s.msixMask p fn (o / 16) else s.msixClear p fn (o / 16))
  else s.setPort p { q with vectors := put 0 q.vectors (4 * k + o % 16 / 4) (BitVec.ofNat 32 v) }

/-- A write of the 32-bit word at offset `a` of a PF's BAR0. What no field can take is discarded (R9, R10). -/
def State.wordWrite (s : State) (w : Src) (a v : Nat) : State :=
  let die (d : Nat) : Die := ⟨d % 4, Nat.mod_lt _ (by decide)⟩
  match siteOf a with
  | (.glb, o) => s.glbWrite w o v
  | (.stw _, o) => s.stwWrite w o v
  | (.rst, o) => s.rstWrite w o v
  | (.sec, o) => s.secWrite w o v
  | (.aud i, o) => s.audWrite w i o v
  | (.hpt p, o) => s.hptWrite w p o v
  | (.clr _, _) => s
  | (.vlt _, _) => s
  | (.tal d, o) => s.talWrite w d o v
  | (.dma d k, o) => s.dmaWrite w (die d) k o v
  | (.dmaAll _, _) => s
  | (.tmr d k, o) => if o = 0 then s.timerCtrl w d k v else if o = 4 then s.timerPeriod w d k v else s
  | (.fol d, o) => if o = 0x40000 then s.setFld (FOL_CTRL d) 0 0 (v % 2) else s
  | (.dir _, _) => s
  | (.mgc d u, o) => s.mgcWrite w (die d) u o v
  | (.asy d u, o) => s.unitWrite w (unitAt d .assay u) o v
  | (.atn d k, o) => s.unitWrite w (unitAt d .attn k) o v
  | (.vec d k, o) => s.unitWrite w (unitAt d .vec k) o v
  | (.tlr p l, o) => s.tlrWrite w p l o v
  | (.msix, o) => s.msixWrite w.port.val 0 0x8000 o v
  | (.dbk, o) => if o = 4 then s.flogTail w (v % 65536) else s
  | (.other, _) => s

/-- A write of a word of a VF's BAR0: its lanes' registers and its MSI-X table (R412). -/
def State.vfWrite (s : State) (w : Src) (a v : Nat) : State :=
  if 0x1000 ≤ a ∧ a < 0x10E0 then
    let l := 32 + 7 * (w.fn.val - 1) + (a - 0x1000) / 0x20
    s.tlrWrite w w.port.val l (a % 0x20) v
  else if 0x8000 ≤ a ∧ a < 0x8400 then s.msixWrite w.port.val w.fn.val 0x4000 (a - 0x8000) v
  else s

/-- The bytes of a function's BAR0; a VF that is not enabled has none (R412). -/
def State.bar0Size (s : State) (w : Src) : Nat :=
  if w.fn.val = 0 then 2 ^ 26 else if w.fn.val ≤ s.fld (HPT_LINK w.port.val) 13 8 then 2 ^ 16 else 0

/-- A register write: 32 or 64 bits, naturally aligned, inside BAR0 (R8, R9). -/
def State.regWrite (s : State) (w : Src) (a : Nat) (wide : Bool) (v : Nat) : Host.Outcome State Fault Refusal :=
  let n := if wide then 8 else 4
  let put (s : State) (a v : Nat) : State := if w.fn.val = 0 then s.wordWrite w a v else s.vfWrite w a v
  if s.bar0Size w < a + n then .fault .noSuchAddress
  else if a % n ≠ 0 then .fault .misaligned
  else if wide then .next (put (put s a (v % 2 ^ 32)) (a + 4) (v / 2 ^ 32 % 2 ^ 32))
  else .next (put s a (v % 2 ^ 32))

/-! ### Meanings -/

/-- REGISTER_WRITE (R8 to R11). -/
def execRegisterWrite (w : Src) (offset : Nat) (wide : Bool) (value : Word64) (s : State) :
    Host.Outcome State Fault Refusal := s.regWrite w offset wide value.toNat

end Sys2Proof.Machine
end

