-- ==== Sys2Proof/Machine/ClearingOps.lean ====
section
/-! DEFINITION. What arrives over the Clearing fabric (13_clearing_fabric_and_scale.md R384 to R402): flits, remote writes
and reads, settled signals, rolls, and the fault records of Branches. -/

namespace Sys2Proof.Machine

/-! ### A command's fields (R385) -/

def clrSrcNode (c : ClrCmd) : Nat := c.src.toNat % 4096
def clrSrcDie (c : ClrCmd) : Nat := c.src.toNat / 4096 % 4

/-- Bytes used in the last granule (R385). -/
def clrTail (c : ClrCmd) : Nat := if c.tail = 0 then 32 else c.tail.toNat

/-- The bytes a command moves. -/
def clrLen (c : ClrCmd) : Nat :=
  if c.gran.toNat ≤ 1 then Nat.min (clrTail c) (32 - c.lead.toNat)
  else 32 * (c.gran.toNat - 1) - c.lead.toNat + clrTail c

/-- The offset of its first byte. -/
def clrAt (c : ClrCmd) : Nat := adOff c.dst / 32 * 32 + c.lead.toNat

/-- The same address as a Ledger address. -/
def clrAddr (c : ClrCmd) : Word64 := ledger (adNode c.dst) (adSpace c.dst) (clrAt c)

/-- Are the fields of a command that moves granules in range (R7, R385)? -/
def clrFormOk (c : ClrCmd) : Bool :=
  decide (1 ≤ c.gran.toNat) && decide (c.gran.toNat ≤ 16) && decide (c.lead.toNat < 32) && decide (c.tail.toNat ≤ 32) &&
    decide (c.src.toNat < 2 ^ 14) && !c.hops.getLsbD 5

/-! ### Granules (R28, R29, R387) -/

/-- Check a granule's code at port `p`: its bytes and poison; an uncorrectable one becomes poison with a record (R29). -/
def State.takeGranule (s : State) (p : Nat) (g : Codeword) : State × List Byte × Bool :=
  match ledgerDecode (g.data ++ g.check) with
  | .good d _ => (s, d, false)
  | .poison => (s, List.replicate 32 0, true)
  | .uncorrectable => (s.fault (faultOf clsLedger (0x30 + p) blkLink 0 0 0), List.replicate 32 0, true)

/-- Check every granule of a command. -/
def State.takeGranules (s : State) (p : Nat) : List Codeword → State × List (List Byte × Bool)
  | [] => (s, [])
  | g :: gs =>
    let (s, d, b) := s.takeGranule p g
    let (s, rest) := s.takeGranules p gs
    (s, (d, b) :: rest)

/-- The bytes that a command's granules carry, from `lead` on. -/
def granuleBytes (c : ClrCmd) (gs : List (List Byte × Bool)) : List (Byte × Bool) :=
  ((gs.flatMap (fun g => g.1.map (fun b => (b, g.2)))).drop c.lead.toNat).take (clrLen c)

/-! ### Forwarding (R396) -/

/-- A command for another node: it goes on with one hop less, or ends at its hop limit. -/
def State.forward (s : State) (p : Nat) (c : ClrCmd) (data : List Codeword) : State :=
  if c.hops.toNat % 32 ≤ 1 then
    (s.fault (faultOf clsLink (0x30 + p) blkLink 0 0 0)).bump (CLR_CNT_HOPS p) 1
  else
    let (s, gs) := s.takeGranules p data
    match s.sendTo (adNode c.dst) { c with hops := c.hops - 1 } (gs.map (fun g => codewordOf g.1 g.2)) with
    | some s => s.bump (CLR_CNT_FWD p) 1
    | none => s

/-- Does the device take part in Clearing traffic: a posted Charter gives it a node (R395)? -/
def State.hasNode (s : State) : Bool := s.serve.posted

/-- Is a command for this node? -/
def State.forMe (s : State) (c : ClrCmd) : Bool := adNode c.dst == s.node

/-! ### Windows (R390, R391, R403) -/

/-- Byte `hi` to `lo` of window entry `n`. -/
def State.winFld (s : State) (n hi lo : Nat) : Nat := s.chr secRoutes (8256 + 16 * n + hi) (8256 + 16 * n + lo)

/-- Does an open window let a node read, or write, a range of this device's node (R391)? -/
def State.openFor (s : State) (node : Nat) (space at_ len : Nat) (write : Bool) : Bool :=
  (List.range (s.chr secRoutes 24 24)).any (fun n =>
    let base : Word64 := BitVec.ofNat 64 (s.winFld n 7 0)
    let lo := adOff base
    let hi := lo + s.winFld n 11 8 * 4096
    let perm := nbit (s.winFld n 13 12) (if write then 15 else 14)
    perm && adSpace base == space && decide (lo ≤ at_) && decide (at_ + len ≤ hi) &&
      decide (s.winFld n 13 12 % 4096 ≤ node) && decide (node ≤ s.winFld n 15 14 % 4096))

/-- Is a node this device's Treasury (R390)? -/
def State.isTreasury (s : State) (node : Nat) : Bool := s.role == 1 && node == s.treasury

/-- May a remote write reach its range (R390)? -/
def State.remoteWriteOk (s : State) (c : ClrCmd) : Bool :=
  let sp := adSpace c.dst
  clrFormOk c && (sp == 0 || sp == 1) && s.inWindow (clrAddr c) (clrLen c) true &&
    s.openFor (clrSrcNode c) sp (clrAt c) (clrLen c) true

/-- May a remote read reach its range (R390)? -/
def State.remoteReadOk (s : State) (c : ClrCmd) : Bool :=
  let at_ := clrAt c
  let n := clrLen c
  clrFormOk c &&
    (match adSpace c.dst with
     | 0 => s.inWindow (clrAddr c) n false && s.openFor (clrSrcNode c) 0 at_ n false
     | 1 => s.inWindow (clrAddr c) n false && s.openFor (clrSrcNode c) 1 at_ n false
     | 4 => (decide (at_ + n ≤ 2 ^ 20) || s.inWindow (clrAddr c) n false) && s.openFor (clrSrcNode c) 4 at_ n false
     | 2 => s.isTreasury (clrSrcNode c) && decide (at_ + n ≤ 2 ^ 26)
     | 3 => s.isTreasury (clrSrcNode c) && decide (at_ + n ≤ 2 ^ 17)
     | 8 => s.isTreasury (clrSrcNode c) && s.inWindow (clrAddr c) n false
     | _ => false)

/-- A refused access: a record of class dma, and the count (R391). -/
def State.refuseRemote (s : State) (p : Nat) (c : ClrCmd) : State :=
  (s.fault (FaultRecord.at_ (faultOf clsDma (0x30 + p) 0xFF 0 0 0) c.dst.toNat)).bump (CLR_CNT_REFUSED p) 1

/-! ### Writes (R391, R393) -/

/-- The key of a landed count: port, source node, source die (R393). -/
def landedKey (p node die : Nat) : Nat := (p * 4096 + node) * 4 + die
/-- The key of a landed count as an Array die has heard it. -/
def heardKey (d p node die : Nat) : Nat := ((d * 2 + p) * 4096 + node) * 4 + die

/-- A remote write arrives at port `p`. -/
def State.remoteWrite (s : State) (p : Nat) (c : ClrCmd) (data : List Codeword) : State :=
  if !s.hasNode then s
  else if !s.forMe c then s.forward p c data
  else
    let (s, gs) := s.takeGranules p data
    if !s.remoteWriteOk c || decide (data.length ≠ c.gran.toNat) then s.refuseRemote p c
    else
      let s := s.spaceWrite (adSpace c.dst) (clrAt c) (granuleBytes c gs)
      { s with clr := { s.clr with
        landed := upd 0 s.clr.landed (landedKey p (clrSrcNode c) (clrSrcDie c)) (· + 1) } }

/-! ### Reads (R385, R390, R391) -/

/-- The Array die that a range of memory lies at; 0 for the spaces that no die holds. -/
def spaceDie (space at_ : Nat) : Nat :=
  match space with
  | 0 => at_ / 2 ^ 36 % 4
  | 1 => at_ / 2 ^ 27 % 4
  | 4 => (if at_ < 2 ^ 32 then 0 else (at_ - 2 ^ 32) / 2 ^ 20 / 8192 % 4)
  | _ => 0

/-- What a remote read of a range gives, and what it does to the device: a read of AUD_DATA clears `valid` (R340). -/
def State.remoteData (s : State) (p : Nat) (c : ClrCmd) : State × List (Byte × Bool) :=
  let at_ := clrAt c
  let n := clrLen c
  match adSpace c.dst with
  | 2 =>
    let bs := (s.busRead p at_ n).map (fun b => (b, false))
    ((List.range 6).foldl (fun s i =>
      if at_ < AUD_DATA i + 4 ∧ AUD_DATA i < at_ + n then s.setFlag (AUD_DATA i) 31 false else s) s, bs)
  | 3 =>
    (s, (List.range n).map (fun i =>
      let t := (at_ + i) / 8
      let w := s.talView (t / 4096) (8 * (t % 4096) + (at_ + i) % 8 / 4 * 4)
      (BitVec.ofNat 8 (w / 2 ^ (8 * ((at_ + i) % 4))), false)))
  | sp => (s, s.spaceRead sp at_ n)

/-- The answer to a read: a response on the response channel, or a refusal; it goes where the route leads (R385, R391). -/
def State.answerRead (s : State) (c : ClrCmd) (op : Nat) (gs : List Codeword) : State :=
  let r := s.newCmd op 1 (spaceDie (adSpace c.dst) (clrAt c)) (ledger (clrSrcNode c) 0 0)
  let r := { r with gran := BitVec.ofNat 8 gs.length, lead := c.lead, tail := c.tail, tag := c.tag }
  (s.sendTo (clrSrcNode c) r gs).getD s

/-- A remote read request arrives at port `p`. -/
def State.remoteRead (s : State) (p : Nat) (c : ClrCmd) : State :=
  if !s.hasNode then s
  else if !s.forMe c then s.forward p c []
  else if !s.remoteReadOk c then (s.refuseRemote p c).answerRead c 6 []
  else
    let (s, bs) := s.remoteData p c
    s.answerRead c 3 (granulesOf (clrAt c) bs)

/-- The read that a tag names: die, channel and first byte (R385). -/
def State.readOf (s : State) (tag : BitVec 16) : Option (Die × Nat × Nat) :=
  let (d, k, lo) := look (64, 64, 0) s.clr.reads tag.toNat
  if h : d < 4 then some (⟨d, h⟩, k, lo) else none

/-- A read is over. -/
def State.dropRead (s : State) (tag : BitVec 16) : State :=
  { s with clr := { s.clr with reads := put (64, 64, 0) s.clr.reads tag.toNat (64, 64, 0) } }

/-- A read response arrives: its data is there for the channel that asked. -/
def State.readBack (s : State) (p : Nat) (c : ClrCmd) (data : List Codeword) : State :=
  if !s.hasNode then s
  else if !s.forMe c then s.forward p c data
  else match s.readOf c.tag with
    | none => s
    | some (d, k, lo) =>
      let (s, gs) := s.takeGranules p data
      let s := s.dropRead c.tag
      let x := s.chan d.val k
      s.setChan d.val k { x with arrived := x.arrived ++ [(lo, granuleBytes c gs)] }

/-- A read fails, by refusal or for want of a response: its transfer ends with code 9 (R391, R397). -/
def State.readFailed (s : State) (tag : BitVec 16) : State :=
  match s.readOf tag with
  | none => s
  | some (d, k, _) => (s.dropRead tag).transferError d k

/-- A refusal arrives. -/
def State.readRefused (s : State) (p : Nat) (c : ClrCmd) : State :=
  if !s.hasNode then s
  else if !s.forMe c then s.forward p c []
  else s.readFailed c.tag

/-! ### Settled signals (R393, R394) -/

/-- The landed counts an Array die has received from both Port dies, summed. -/
def State.heardSum (s : State) (d node die : Nat) : Word32 :=
  look 0 s.clr.heard (heardKey d 0 node die) + look 0 s.clr.heard (heardKey d 1 node die)

/-- May a held signal be released (R394)? -/
def State.settled (s : State) (h : HeldSignal) : Bool :=
  decide ((s.heardSum (h.tally / 4096) h.node h.die - h.count).toNat < 2 ^ 31)

/-- Release every held signal that has settled: it reaches its Tally as an increment (R249). -/
def State.releaseHeld (s : State) : State :=
  let ready := s.clr.held.filter s.settled
  let s := { s with clr := { s.clr with held := s.clr.held.filter (fun h => !s.settled h) } }
  ready.foldl (fun s h => (s.tallyAdd h.tally h.inc none).1) s

/-- A settled signal arrives at port `p`: the Clearing port of its Tally's die holds it until it settles. -/
def State.signalIn (s : State) (p : Nat) (c : ClrCmd) : State :=
  if !s.hasNode then s
  else if !s.forMe c then s.forward p c []
  else if c.inc = 0 ∨ 15 < c.inc.toNat ∨ 2 ^ 14 ≤ c.tally.toNat ∨ 2 ^ 14 ≤ c.src.toNat then s.refuseRemote p c
  else
    let h : HeldSignal := { port := p, node := clrSrcNode c, die := clrSrcDie c, count := c.count, tally := c.tally.toNat,
                            inc := c.inc.toNat }
    ({ s with clr := { s.clr with held := s.clr.held ++ [h] } } : State).releaseHeld

/-- A landed count reaches the Array dies (R393). -/
def State.hearLanded (s : State) (p node die : Nat) : State :=
  let n := look 0 s.clr.landed (landedKey p node die)
  let heard := (List.range 4).foldl (fun m d => put 0 m (heardKey d p node die) n) s.clr.heard
  ({ s with clr := { s.clr with heard := heard } } : State).releaseHeld

/-! ### Flits (R384, R386, R387, R468) -/

/-- A command of a flit, by its `op`. Management traffic has rows of its own (R385; DEDUCED, log entry 62). -/
def State.applyClr (s : State) (p : Nat) (c : ClrCmd) (data : List Codeword) : State :=
  match c.op.toNat with
  | 1 => s.remoteWrite p c data
  | 2 => s.remoteRead p c
  | 3 => s.readBack p c data
  | 4 => s.signalIn p c
  | 5 => s
  | 6 => s.readRefused p c
  | _ => s.refuseRemote p c

/-- A flit that passes the checks: its acknowledgement, its credit, and its commands in order. -/
def State.acceptFlit (s : State) (l : Nat) (f : Flit) : State :=
  let s := s.bump (CLR_L_RX (l / 6) (l % 6)) 1
  let k := s.linkOf l
  let s := s.setLink l (k.take f.seq f.ack f.chan.val f.credit)
  let s := if f.newKey then s.rollKey l true else s
  let s := s.dropOldKeys l f.ack
  let s := if f.nak then s.replayAll l else s
  let s := if k.waiting.isEmpty then s else s.pump l
  f.cmds.foldl (fun s e => s.applyClr (l / 6) e.1 e.2) s

/-- A flit arrives: FEC, tag and sequence are checked, and one that fails is discarded with a `nak` (R387). A link without a
key carries no command (R388). -/
def State.flitIn (s : State) (l : Nat) (f : Flit) : State :=
  if !s.linkUp l then s
  else
    let p := l / 6
    let s := s.bump (CLR_L_FECCOR p (l % 6)) f.corrected
    let k := s.linkOf l
    let drop (s : State) : State := s.send (.nak l k.rxSeq)
    if !f.fecOk then drop (s.bump (CLR_L_FECBAD p (l % 6)) 1)
    else if !f.tagOk then drop (s.bump (CLR_L_TAGBAD p (l % 6)) 1)
    else if f.seq ≠ k.rxSeq + 1 then drop s
    else if s.linkKeyed l then s.acceptFlit l f
    else s.acceptFlit l { f with cmds := [] }

/-! ### Rolls (R399 to R402) -/

/-- The bytes of a directory entry (R401). -/
def DomEntry.encode (e : DomEntry) : List Byte :=
  natLe 2 e.node ++ natLe 1 e.st ++ natLe 1 0 ++ natLe 2 e.generation.toNat ++ natLe 2 e.epoch.toNat
    ++ natLe 4 e.probe.toNat ++ natLe 8 e.seen.toNat ++ natLe 8 e.forwarded.toNat ++ natLe 4 0

/-- Write a directory entry, in V0 too (R401). -/
def State.putDom (s : State) (n : Nat) (e : DomEntry) : State :=
  ({ s with clr := { s.clr with dir := put DomEntry.absent s.clr.dir n e } } : State).write (s.dirAt n) e.encode

/-- Is the domain one of a pair, and the other Treasury's node (R402)? -/
def State.paired (s : State) : Bool := s.serve.posted && nbit (s.chr secRoutes 7 6) 15
def State.peer (s : State) : Nat := s.chr secRoutes 7 6 % 4096

/-- The device's own roll. -/
def State.ownRoll (s : State) : Roll :=
  { node := ⟨s.node % 4096, Nat.mod_lt _ (by decide)⟩, generation := s.mram.postedGen.getD 0,
    epoch := s.epochs.live.getD 0,
    probe := (match s.mram.probeSet with | some x => x.setId | none => 0), counter := s.now,
    identity := leNat Config.identityKey, isPeer := s.role == 2 }

/-- Every `roll_period` a Branch rolls to its Treasury, and a paired Treasury to its peer (R399, R402). -/
def State.roll (s : State) : State :=
  let dst := if s.role = 1 then some s.treasury else if s.role = 2 && s.paired then some s.peer else none
  match dst with
  | some n => if (s.linkFor n).isSome then s.send (.roll n s.ownRoll) else s
  | none => s

/-- The index in the directory of a node of this Treasury's range; none outside it (R399, R401). -/
def State.domIndex (s : State) (node : Nat) : Option Nat :=
  let d := if s.paired then s.chr secRoutes 3 3 % 2 else 0
  if node / 2048 = d then some (node % 2048) else none

/-- A roll that conflicts: the event here, and the answer that fences its sender (R399). -/
def State.rollConflict (s : State) (node : Nat) (range : Bool) : State :=
  (s.eventAll 0x45 node range.toNat).send (.rollConflict node range)

/-- A roll of a Branch arrives at its Treasury (R399). -/
def State.branchRoll (s : State) (r : Roll) : State :=
  match s.domIndex r.node.val with
  | none => s.rollConflict r.node.val true
  | some n =>
    let e := look DomEntry.absent s.clr.dir n
    if r.node.val = s.node ∨ (e.st ≠ 0 ∧ e.identity ≠ r.identity) then s.rollConflict r.node.val false
    else
      let s := s.putDom n { e with node := r.node.val, st := 1, generation := r.generation, epoch := r.epoch,
                                   probe := r.probe, seen := s.now, identity := r.identity }
      let s := if e.st = 0 then s.eventAll 0x43 r.node.val r.generation.toNat else s
      s.send (.rollAck r.node.val)

/-- A roll arrives: at a Treasury, of a Branch or of the peer Treasury. -/
def State.rollIn (s : State) (r : Roll) : State :=
  if s.role ≠ 2 then s
  else if r.isPeer then
    (if s.paired && r.node.val == s.peer then
      ({ s with clr := { s.clr with peerSeen := s.now } } : State).setFlag (CLR_ROLL 0) 30 false
     else s)
  else s.branchRoll r

/-- No roll from a member for `roll_timeout` (R399). -/
def State.memberLost (s : State) (node : Nat) : State :=
  match s.domIndex node with
  | none => s
  | some n =>
    let e := look DomEntry.absent s.clr.dir n
    if s.role = 2 ∧ e.st = 1 then (s.putDom n { e with st := 2 }).eventAll 0x44 node (e.seen.toNat % 2 ^ 32) else s

/-- No acknowledgement of a Branch's rolls for `roll_timeout` (R399, R400). -/
def State.treasuryLost (s : State) : State :=
  if s.role = 1 ∧ s.flag (CLR_ROLL 0) 31 = false then
    ((s.setFlag (CLR_ROLL 0) 31 true).setFlag (CLR_ID 0) 28 false).eventAll 0x46 s.treasury 0
  else s

/-- No roll from the peer Treasury for `pair_timeout` (R402). -/
def State.peerLost (s : State) : State :=
  if s.role = 2 ∧ s.paired = true ∧ s.flag (CLR_ROLL 0) 30 = false then
    (s.setFlag (CLR_ROLL 0) 30 true).eventAll 0x47 s.peer 0
  else s

/-- The Treasury answers a Branch's roll: acknowledged, or a conflict that fences the Branch, `true` for a node out of range
(R399, R400). -/
def State.rollAnswered (s : State) (conflict : Option Bool) : State :=
  if s.role ≠ 1 then s
  else match conflict with
    | some range => ((s.setFlag (CLR_ID 0) 29 true).setFlag (CLR_ID 0) 28 false).eventAll 0x45 s.node range.toNat
    | none =>
      let kept := s.clr.kept
      let s := { s with clr := { s.clr with kept := [], ackSeen := s.now } }
      let s := (s.setFlag (CLR_ROLL 0) 31 false).setFlag (CLR_ID 0) 28 true
      kept.foldl (fun s r => s.send (.faultRecord s.treasury r)) s

/-- A Branch's record reaches the Treasury: it logs the copy, with `forwarded` set and `node` the Branch (R364, R401). -/
def State.recordIn (s : State) (node : Nat) (r : FaultRecord) : State :=
  if s.role ≠ 2 then s
  else
    let at_ := s.domIndex node
    let s := s.logPut { r with flags := r.flags ||| 8, node := BitVec.ofNat 16 (2 ^ 15 + node) }
    match at_ with
    | none => s
    | some n =>
      let e := look DomEntry.absent s.clr.dir n
      if e.st = 0 then s else s.putDom n { e with forwarded := e.forwarded + 1 }

/-! ### Meanings -/

/-- FLIT_RECEIVE (R387). -/
def execFlitReceive (l : Link) (f : Flit) (s : State) : Host.Outcome State Fault Refusal := .next (s.flitIn l.val f)
/-- CLR_WRITE (R391, R393). -/
def execClrWrite (p : Port) (c : ClrCmd) (data : List Codeword) (s : State) : Host.Outcome State Fault Refusal :=
  .next (s.remoteWrite p.val c data)
/-- CLR_READ_REQUEST (R390, R391). -/
def execClrReadRequest (p : Port) (c : ClrCmd) (s : State) : Host.Outcome State Fault Refusal :=
  .next (s.remoteRead p.val c)
/-- CLR_READ_RESPONSE (R385). -/
def execClrReadResponse (p : Port) (c : ClrCmd) (data : List Codeword) (s : State) : Host.Outcome State Fault Refusal :=
  .next (s.readBack p.val c data)
/-- CLR_REFUSAL (R391). -/
def execClrRefusal (p : Port) (c : ClrCmd) (s : State) : Host.Outcome State Fault Refusal := .next (s.readRefused p.val c)
/-- SETTLED_SIGNAL (R394). -/
def execSettledSignal (p : Port) (c : ClrCmd) (s : State) : Host.Outcome State Fault Refusal := .next (s.signalIn p.val c)
/-- LANDED_COUNT_UPDATE (R393, R394). -/
def execLandedCountUpdate (p : Port) (node : Node) (die : Die) (s : State) : Host.Outcome State Fault Refusal :=
  .next (s.hearLanded p.val node.val die.val)
/-- READ_TIMEOUT (R397). -/
def execReadTimeout (tag : BitVec 16) (s : State) : Host.Outcome State Fault Refusal := .next (s.readFailed tag)
/-- ROLL_SEND (R399, R402). -/
def execRollSend (s : State) : Host.Outcome State Fault Refusal := .next s.roll
/-- ROLL_RECEIVE (R399, R402). -/
def execRollReceive (r : Roll) (s : State) : Host.Outcome State Fault Refusal := .next (s.rollIn r)
/-- MEMBER_ROLL_TIMEOUT (R399). -/
def execMemberRollTimeout (n : Node) (s : State) : Host.Outcome State Fault Refusal := .next (s.memberLost n.val)
/-- TREASURY_ACK_TIMEOUT (R399). -/
def execTreasuryAckTimeout (s : State) : Host.Outcome State Fault Refusal := .next s.treasuryLost
/-- PEER_ROLL_TIMEOUT (R402). -/
def execPeerRollTimeout (s : State) : Host.Outcome State Fault Refusal := .next s.peerLost
/-- FAULT_RECORD_FORWARD (R364). -/
def execFaultRecordForward (n : Node) (r : FaultRecord) (s : State) : Host.Outcome State Fault Refusal :=
  .next (s.recordIn n.val r)
/-- ROLL_ACKNOWLEDGEMENT (R399, R400). -/
def execRollAcknowledgement (conflict : Option Bool) (s : State) : Host.Outcome State Fault Refusal :=
  .next (s.rollAnswered conflict)

end Sys2Proof.Machine
end

