-- ==== Sys2Proof/Machine/Dispatch.lean ====
section
/-! DEFINITION. Which meaning each command has: one arm for each row of spec/opcode_table.json. -/

namespace Sys2Proof.Machine

open Sys2Proof

def exec (i : Instr) (s : State) : Host.Outcome State Fault Refusal :=
  match i with
  | .powerOnReset => Sys2Proof.Machine.execPowerOnReset s
  | .pwrgdRise => Sys2Proof.Machine.execPwrgdRise s
  | .systemResetPin => Sys2Proof.Machine.execSystemResetPin s
  | .systemResetCmd w => Sys2Proof.Machine.execSystemResetCmd w s
  | .coreResetCmd w => Sys2Proof.Machine.execCoreResetCmd w s
  | .decommissionArm w => Sys2Proof.Machine.execDecommissionArm w s
  | .decommission w => Sys2Proof.Machine.execDecommission w s
  | .firmwareWatchdogExpiry h clerk2 => Sys2Proof.Machine.execFirmwareWatchdogExpiry h clerk2 s
  | .domainRelease h straps locks railsOk alone => Sys2Proof.Machine.execDomainRelease h straps locks railsOk alone s
  | .releaseLockTimeout h => Sys2Proof.Machine.execReleaseLockTimeout h s
  | .arbiterTimeout => Sys2Proof.Machine.execArbiterTimeout s
  | .bootPhaseComplete => Sys2Proof.Machine.execBootPhaseComplete s
  | .bootPhaseStall => Sys2Proof.Machine.execBootPhaseStall s
  | .pllLockLost h pll => Sys2Proof.Machine.execPllLockLost h pll s
  | .heartbeatSend h => Sys2Proof.Machine.execHeartbeatSend h s
  | .heartbeatReceive h heldFlag => Sys2Proof.Machine.execHeartbeatReceive h heldFlag s
  | .contactLost h => Sys2Proof.Machine.execContactLost h s
  | .counterCompare => Sys2Proof.Machine.execCounterCompare s
  | .handoverRequest w => Sys2Proof.Machine.execHandoverRequest w s
  | .warrantClaim w => Sys2Proof.Machine.execWarrantClaim w s
  | .firmwareUpdateStart w => Sys2Proof.Machine.execFirmwareUpdateStart w s
  | .firmwareUpdateDone img flashError => Sys2Proof.Machine.execFirmwareUpdateDone img flashError s
  | .postingPoint => Sys2Proof.Machine.execPostingPoint s
  | .emptyPostingPoint => Sys2Proof.Machine.execEmptyPostingPoint s
  | .charterReady image programmed => Sys2Proof.Machine.execCharterReady image programmed s
  | .tellerSlotWrite w offset bytes intact => Sys2Proof.Machine.execTellerSlotWrite w offset bytes intact s
  | .ticketConsume p lane => Sys2Proof.Machine.execTicketConsume p lane s
  | .tellerStampWrite w lane value => Sys2Proof.Machine.execTellerStampWrite w lane value s
  | .ringTailWrite w lane tail => Sys2Proof.Machine.execRingTailWrite w lane tail s
  | .ringConfigWrite w lane reg value => Sys2Proof.Machine.execRingConfigWrite w lane reg value s
  | .hostWindowWrite w p n word value => Sys2Proof.Machine.execHostWindowWrite w p n word value s
  | .bar4Write w offset bytes intact => Sys2Proof.Machine.execBar4Write w offset bytes intact s
  | .bar4Read w offset len => Sys2Proof.Machine.execBar4Read w offset len s
  | .msixModerationTimer p lane => Sys2Proof.Machine.execMsixModerationTimer p lane s
  | .msixUnmask p fn vector => Sys2Proof.Machine.execMsixUnmask p fn vector s
  | .perstAssert p => Sys2Proof.Machine.execPerstAssert p s
  | .perstRelease p => Sys2Proof.Machine.execPerstRelease p s
  | .pcieLinkDown p => Sys2Proof.Machine.execPcieLinkDown p s
  | .functionLevelReset p fn => Sys2Proof.Machine.execFunctionLevelReset p fn s
  | .hostCompletion d ch bytes intact => Sys2Proof.Machine.execHostCompletion d ch bytes intact s
  | .completionTimeout d ch => Sys2Proof.Machine.execCompletionTimeout d ch s
  | .queueEntryEnqueue d prog entry row => Sys2Proof.Machine.execQueueEntryEnqueue d prog entry row s
  | .skipEntry u decode => Sys2Proof.Machine.execSkipEntry u decode s
  | .strikeSlice u decode => Sys2Proof.Machine.execStrikeSlice u decode s
  | .strikeVerify u decode => Sys2Proof.Machine.execStrikeVerify u decode s
  | .tstrikeSlice u decode => Sys2Proof.Machine.execTstrikeSlice u decode s
  | .assayRead u decode => Sys2Proof.Machine.execAssayRead u decode s
  | .assayEnda u decode => Sys2Proof.Machine.execAssayEnda u decode s
  | .assayEndb u decode => Sys2Proof.Machine.execAssayEndb u decode s
  | .assayImport u decode => Sys2Proof.Machine.execAssayImport u decode s
  | .attendFwd u decode => Sys2Proof.Machine.execAttendFwd u decode s
  | .attendBwd u decode => Sys2Proof.Machine.execAttendBwd u decode s
  | .attendDense u decode => Sys2Proof.Machine.execAttendDense u decode s
  | .attendDout u decode => Sys2Proof.Machine.execAttendDout u decode s
  | .vecQuant u decode => Sys2Proof.Machine.execVecQuant u decode s
  | .vecConvert u decode => Sys2Proof.Machine.execVecConvert u decode s
  | .vecAdd u decode => Sys2Proof.Machine.execVecAdd u decode s
  | .vecMul u decode => Sys2Proof.Machine.execVecMul u decode s
  | .vecFunc u decode => Sys2Proof.Machine.execVecFunc u decode s
  | .vecReduce u decode => Sys2Proof.Machine.execVecReduce u decode s
  | .vecCombine u decode => Sys2Proof.Machine.execVecCombine u decode s
  | .vecNorm u decode => Sys2Proof.Machine.execVecNorm u decode s
  | .vecRope u decode => Sys2Proof.Machine.execVecRope u decode s
  | .vecAcomb u decode => Sys2Proof.Machine.execVecAcomb u decode s
  | .vecWatch u decode => Sys2Proof.Machine.execVecWatch u decode s
  | .vecDgrad u decode => Sys2Proof.Machine.execVecDgrad u decode s
  | .folioAppend u decode => Sys2Proof.Machine.execFolioAppend u decode s
  | .folioStage u decode => Sys2Proof.Machine.execFolioStage u decode s
  | .sample u decode => Sys2Proof.Machine.execSample u decode s
  | .move u decode => Sys2Proof.Machine.execMove u decode s
  | .tallyInc u decode => Sys2Proof.Machine.execTallyInc u decode s
  | .tallyDec u decode => Sys2Proof.Machine.execTallyDec u decode s
  | .tallyArrive u decode => Sys2Proof.Machine.execTallyArrive u decode s
  | .barrierNextRound t => Sys2Proof.Machine.execBarrierNextRound t s
  | .tallyWait u decode => Sys2Proof.Machine.execTallyWait u decode s
  | .markStep u decode => Sys2Proof.Machine.execMarkStep u decode s
  | .markFence u decode => Sys2Proof.Machine.execMarkFence u decode s
  | .markTrace u decode => Sys2Proof.Machine.execMarkTrace u decode s
  | .orderComplete u decode => Sys2Proof.Machine.execOrderComplete u decode s
  | .signalLand t => Sys2Proof.Machine.execSignalLand t s
  | .watchdogExpiry u decode => Sys2Proof.Machine.execWatchdogExpiry u decode s
  | .dmaGo w d ch => Sys2Proof.Machine.execDmaGo w d ch s
  | .dmaStop w d ch => Sys2Proof.Machine.execDmaStop w d ch s
  | .dmaGrant d => Sys2Proof.Machine.execDmaGrant d s
  | .dmaBurstAck d ch burst => Sys2Proof.Machine.execDmaBurstAck d ch burst s
  | .dmaTriggerEvent d ch => Sys2Proof.Machine.execDmaTriggerEvent d ch s
  | .dmaTransferError d ch => Sys2Proof.Machine.execDmaTransferError d ch s
  | .timerEvent d k => Sys2Proof.Machine.execTimerEvent d k s
  | .timerCtrlWrite w d k value => Sys2Proof.Machine.execTimerCtrlWrite w d k value s
  | .timerPeriodWrite w d k value => Sys2Proof.Machine.execTimerPeriodWrite w d k value s
  | .quiesceWrite w b value => Sys2Proof.Machine.execQuiesceWrite w b value s
  | .blockResetRequest w b => Sys2Proof.Machine.execBlockResetRequest w b s
  | .blockResetComplete b => Sys2Proof.Machine.execBlockResetComplete b s
  | .programCommand d u c => Sys2Proof.Machine.execProgramCommand d u c s
  | .programRowDone d u extra stuck => Sys2Proof.Machine.execProgramRowDone d u extra stuck s
  | .bankVerify t b passes => Sys2Proof.Machine.execBankVerify t b passes s
  | .mintSweepStart => Sys2Proof.Machine.execMintSweepStart s
  | .mintSweepDone => Sys2Proof.Machine.execMintSweepDone s
  | .governorGrant m => Sys2Proof.Machine.execGovernorGrant m s
  | .strikeConvertEnd t => Sys2Proof.Machine.execStrikeConvertEnd t s
  | .sliceComplete t => Sys2Proof.Machine.execSliceComplete t s
  | .mirrorAccumulators t => Sys2Proof.Machine.execMirrorAccumulators t s
  | .spotAssay t => Sys2Proof.Machine.execSpotAssay t s
  | .spotBurstEnd t => Sys2Proof.Machine.execSpotBurstEnd t s
  | .phaseBoundary => Sys2Proof.Machine.execPhaseBoundary s
  | .assaySetLoaded t => Sys2Proof.Machine.execAssaySetLoaded t s
  | .calStartWrite w d u => Sys2Proof.Machine.execCalStartWrite w d u s
  | .benchCalibration t b => Sys2Proof.Machine.execBenchCalibration t b s
  | .benchCalibrationDone t => Sys2Proof.Machine.execBenchCalibrationDone t s
  | .driftRefreshStart t => Sys2Proof.Machine.execDriftRefreshStart t s
  | .auditConversion ix code hi lo => Sys2Proof.Machine.execAuditConversion ix code hi lo s
  | .auditBurstStart ix => Sys2Proof.Machine.execAuditBurstStart ix s
  | .auditBurstDone ix b => Sys2Proof.Machine.execAuditBurstDone ix b s
  | .refbufEnable w ix => Sys2Proof.Machine.execRefbufEnable w ix s
  | .refbufSettled ix => Sys2Proof.Machine.execRefbufSettled ix s
  | .audDataRead w ix => Sys2Proof.Machine.execAudDataRead w ix s
  | .trackerClear w ix mask => Sys2Proof.Machine.execTrackerClear w ix mask s
  | .vaultModeChange v temp => Sys2Proof.Machine.execVaultModeChange v temp s
  | .thermalTrip => Sys2Proof.Machine.execThermalTrip s
  | .tripSeenClear w => Sys2Proof.Machine.execTripSeenClear w s
  | .powerReqRun w => Sys2Proof.Machine.execPowerReqRun w s
  | .powerReqHold w => Sys2Proof.Machine.execPowerReqHold w s
  | .powerReqSleep w => Sys2Proof.Machine.execPowerReqSleep w s
  | .powerCapWrite w cap => Sys2Proof.Machine.execPowerCapWrite w cap s
  | .sleepExit => Sys2Proof.Machine.execSleepExit s
  | .tamperTestPulse h fell => Sys2Proof.Machine.execTamperTestPulse h fell s
  | .pinFaultDetect bit detected => Sys2Proof.Machine.execPinFaultDetect bit detected s
  | .alarmSourceFire sources => Sys2Proof.Machine.execAlarmSourceFire sources s
  | .alarmRelease w => Sys2Proof.Machine.execAlarmRelease w s
  | .alarmLevelWrite w value => Sys2Proof.Machine.execAlarmLevelWrite w value s
  | .mailboxAttest w nonce => Sys2Proof.Machine.execMailboxAttest w nonce s
  | .attestReportDone p => Sys2Proof.Machine.execAttestReportDone p s
  | .enrolSlot w image => Sys2Proof.Machine.execEnrolSlot w image s
  | .revokeSlot w image => Sys2Proof.Machine.execRevokeSlot w image s
  | .setAlarmLevels w image => Sys2Proof.Machine.execSetAlarmLevels w image s
  | .installDomainKey w image => Sys2Proof.Machine.execInstallDomainKey w image s
  | .measurementExtend w data => Sys2Proof.Machine.execMeasurementExtend w data s
  | .debugUnlock claim response => Sys2Proof.Machine.execDebugUnlock claim response s
  | .jtagInstruction ix => Sys2Proof.Machine.execJtagInstruction ix s
  | .linkTrain l lanes flight farNode farNonce confirm => Sys2Proof.Machine.execLinkTrain l lanes flight farNode farNonce confirm s
  | .linkRetrain l => Sys2Proof.Machine.execLinkRetrain l s
  | .linkLockLost l => Sys2Proof.Machine.execLinkLockLost l s
  | .linkKeyRollover l => Sys2Proof.Machine.execLinkKeyRollover l s
  | .flitReceive l f => Sys2Proof.Machine.execFlitReceive l f s
  | .replayTimeout l => Sys2Proof.Machine.execReplayTimeout l s
  | .clrWrite p c data => Sys2Proof.Machine.execClrWrite p c data s
  | .clrReadRequest p c => Sys2Proof.Machine.execClrReadRequest p c s
  | .clrReadResponse p c data => Sys2Proof.Machine.execClrReadResponse p c data s
  | .clrRefusal p c => Sys2Proof.Machine.execClrRefusal p c s
  | .settledSignal p c => Sys2Proof.Machine.execSettledSignal p c s
  | .landedCountUpdate p node die => Sys2Proof.Machine.execLandedCountUpdate p node die s
  | .readTimeout tag => Sys2Proof.Machine.execReadTimeout tag s
  | .rollSend => Sys2Proof.Machine.execRollSend s
  | .rollReceive r => Sys2Proof.Machine.execRollReceive r s
  | .memberRollTimeout n => Sys2Proof.Machine.execMemberRollTimeout n s
  | .treasuryAckTimeout => Sys2Proof.Machine.execTreasuryAckTimeout s
  | .peerRollTimeout => Sys2Proof.Machine.execPeerRollTimeout s
  | .faultRecordForward n r => Sys2Proof.Machine.execFaultRecordForward n r s
  | .shardArrival n data poisoned => Sys2Proof.Machine.execShardArrival n data poisoned s
  | .shardAck n => Sys2Proof.Machine.execShardAck n s
  | .shardTimeout n => Sys2Proof.Machine.execShardTimeout n s
  | .verifiedReport n => Sys2Proof.Machine.execVerifiedReport n s
  | .flipCommand => Sys2Proof.Machine.execFlipCommand s
  | .masterRewriteDone t => Sys2Proof.Machine.execMasterRewriteDone t s
  | .tokenFetchComplete sl ok tokens => Sys2Proof.Machine.execTokenFetchComplete sl ok tokens s
  | .endoFetchComplete n ok data => Sys2Proof.Machine.execEndoFetchComplete n ok data s
  | .endoRecheck n => Sys2Proof.Machine.execEndoRecheck n s
  | .spillCopyComplete e quarter ok => Sys2Proof.Machine.execSpillCopyComplete e quarter ok s
  | .prefetchComplete d n ok data => Sys2Proof.Machine.execPrefetchComplete d n ok data s
  | .probeStart d => Sys2Proof.Machine.execProbeStart d s
  | .probeComplete d passed site => Sys2Proof.Machine.execProbeComplete d passed site s
  | .faultLogTailWrite w tail => Sys2Proof.Machine.execFaultLogTailWrite w tail s
  | .registerWrite w offset wide value => Sys2Proof.Machine.execRegisterWrite w offset wide value s
  | .pcieLinkUp p gen width => Sys2Proof.Machine.execPcieLinkUp p gen width s
  | .rollAcknowledgement conflict => Sys2Proof.Machine.execRollAcknowledgement conflict s
  | .probeSetArrival image => Sys2Proof.Machine.execProbeSetArrival image s
  | .manifestArrival image => Sys2Proof.Machine.execManifestArrival image s
  | .shardRefetchRequest n nak fromHead by_ => Sys2Proof.Machine.execShardRefetchRequest n nak fromHead by_ s
  | .weightScopeRestoreDone t ok => Sys2Proof.Machine.execWeightScopeRestoreDone t ok s
  | .alarmSourceInactive k => Sys2Proof.Machine.execAlarmSourceInactive k s
  | .ideStreamSetup p stream base size sessionOk => Sys2Proof.Machine.execIdeStreamSetup p stream base size sessionOk s

end Sys2Proof.Machine
end

