-- ==== Sys2Proof/WellFormed.lean ====
section
/-! DEFINITION. Which commands are well-formed: the parts they name exist and what they carry has the size its rule
gives it. -/

namespace Sys2Proof

/-- How many units of a kind an Array die has (R31). -/
def unitCount : UnitKind → Nat
  | .assay => 512 | .attn => 48 | .vec => 24 | .dma => 64

/-- The unit exists (R31). -/
def EngUnit.wf (u : EngUnit) : Bool := decide (u.inst < unitCount u.kind)

/-- A codeword is 32 data bytes and 4 check bytes (R27). -/
def Codeword.wf (c : Codeword) : Bool := c.data.length == 32 && c.check.length == 4

/-- A command of the fabric with its granules: as many as `gran` says, 1 to 16 (R385). -/
def clrWf (c : ClrCmd) (data : List Codeword) : Bool :=
  data.all Codeword.wf && data.length == c.gran.toNat && decide (1 ≤ data.length) && decide (data.length ≤ 16)

/-- A flit has 16 slots, and a command it ends may have begun at most 16 slots earlier (R384, R385). -/
def Flit.wf (f : Flit) : Bool :=
  f.cmds.all (fun e => e.2.all Codeword.wf) && decide ((f.cmds.map (fun e => 1 + e.2.length)).sum ≤ 32)
    && decide (f.credit ≤ 1024)

/-- A block that has a reset of its own exists (R443). -/
def Block.wf : Block → Bool
  | .group _ _ => true
  | .unit e => e.wf

/-- A posted write carries 1 to 512 bytes (R409). -/
def payloadWf (bytes : List Byte) : Bool := decide (1 ≤ bytes.length) && decide (bytes.length ≤ 512)

/-- A register access is aligned to its width, inside BAR0, and its value fits (R8, R413). -/
def regWf (offset : Nat) (wide : Bool) (value : Word64) : Bool :=
  if wide then offset % 8 == 0 && decide (offset < 2 ^ 26)
  else offset % 4 == 0 && decide (offset < 2 ^ 26) && decide (value.toNat < 2 ^ 32)

/-- Well-formed commands. -/
def Instr.wf : Instr → Bool
  | .tellerSlotWrite _ off bytes _ => payloadWf bytes && decide (off + bytes.length ≤ 2 ^ 20)
  | .bar4Write _ _ bytes _ => payloadWf bytes
  | .bar4Read _ _ len => decide (1 ≤ len) && decide (len ≤ 4096)
  | .hostCompletion _ _ bytes _ => payloadWf bytes
  | .queueEntryEnqueue _ _ entry row => decide (entry < 65536) && decide (row < 8192)
  | .skipEntry u _ => u.wf
  | .strikeSlice u _ | .strikeVerify u _ | .tstrikeSlice u _ | .assayRead u _ | .assayEnda u _ | .assayEndb u _
  | .assayImport u _ => u.wf && u.kind == .assay
  | .attendFwd u _ | .attendBwd u _ | .attendDense u _ | .attendDout u _ => u.wf && u.kind == .attn
  | .vecQuant u _ | .vecConvert u _ | .vecAdd u _ | .vecMul u _ | .vecFunc u _ | .vecReduce u _ | .vecCombine u _
  | .vecNorm u _ | .vecRope u _ | .vecAcomb u _ | .vecWatch u _ | .vecDgrad u _ | .folioAppend u _ | .folioStage u _
  | .sample u _ => u.wf && u.kind == .vec
  | .move u _ => u.wf && u.kind == .dma
  | .tallyInc u _ | .tallyDec u _ | .tallyArrive u _ | .tallyWait u _ | .markStep u _ | .markFence u _
  | .markTrace u _ | .orderComplete u _ | .watchdogExpiry u _ => u.wf
  | .quiesceWrite _ b _ | .blockResetRequest _ b | .blockResetComplete b => b.wf
  | .programCommand _ _ c => decide (c.plane + 2 ^ 19 ≤ 2 ^ 38)
  | .programRowDone _ _ _ stuck => decide (stuck.length ≤ 1024)
  | .auditBurstDone i b =>
    if i.val < 4 then b.ladders.length == 4 && b.replicas.length == 4 else b.ladders.isEmpty && b.replicas.isEmpty
  | .flitReceive _ f => f.wf
  | .clrWrite _ c data | .clrReadResponse _ c data => clrWf c data
  | .shardArrival _ data _ => decide (data.length ≤ 2 ^ 22)
  | .endoRecheck n | .endoFetchComplete n _ _ => decide (n < 262144)
  | .prefetchComplete _ n _ _ => decide (n < 4096)
  | .registerWrite _ off wide value => regWf off wide value
  | .powerOnReset | .pwrgdRise | .systemResetPin | .systemResetCmd _ | .coreResetCmd _ | .decommissionArm _
  | .decommission _ | .firmwareWatchdogExpiry _ _ | .domainRelease _ _ _ _ _ | .releaseLockTimeout _
  | .arbiterTimeout | .bootPhaseComplete | .bootPhaseStall | .pllLockLost _ _ | .heartbeatSend _
  | .heartbeatReceive _ _ | .contactLost _ | .counterCompare | .handoverRequest _ | .warrantClaim _
  | .firmwareUpdateStart _ | .firmwareUpdateDone _ _ | .postingPoint | .emptyPostingPoint | .charterReady _ _
  | .ticketConsume _ _ | .tellerStampWrite _ _ _ | .ringTailWrite _ _ _ | .ringConfigWrite _ _ _ _
  | .hostWindowWrite _ _ _ _ _ | .msixModerationTimer _ _ | .msixUnmask _ _ _ | .perstAssert _ | .perstRelease _
  | .pcieLinkDown _ | .functionLevelReset _ _ | .completionTimeout _ _ | .barrierNextRound _ | .signalLand _
  | .dmaGo _ _ _ | .dmaStop _ _ _ | .dmaGrant _ | .dmaBurstAck _ _ _ | .dmaTriggerEvent _ _
  | .dmaTransferError _ _ | .timerEvent _ _ | .timerCtrlWrite _ _ _ _ | .timerPeriodWrite _ _ _ _
  | .bankVerify _ _ _ | .mintSweepStart | .mintSweepDone | .governorGrant _ | .strikeConvertEnd _
  | .sliceComplete _ | .mirrorAccumulators _ | .spotAssay _ | .spotBurstEnd _ | .phaseBoundary | .assaySetLoaded _
  | .calStartWrite _ _ _ | .benchCalibration _ _ | .benchCalibrationDone _ | .driftRefreshStart _
  | .auditConversion _ _ _ _ | .auditBurstStart _ | .refbufEnable _ _ | .refbufSettled _ | .audDataRead _ _
  | .trackerClear _ _ _ | .vaultModeChange _ _ | .thermalTrip | .tripSeenClear _ | .powerReqRun _ | .powerReqHold _
  | .powerReqSleep _ | .powerCapWrite _ _ | .sleepExit | .tamperTestPulse _ _ | .pinFaultDetect _ _
  | .alarmSourceFire _ | .alarmRelease _ | .alarmLevelWrite _ _ | .mailboxAttest _ _ | .attestReportDone _
  | .enrolSlot _ _ | .revokeSlot _ _ | .setAlarmLevels _ _ | .installDomainKey _ _ | .measurementExtend _ _
  | .debugUnlock _ _ | .jtagInstruction _ | .linkTrain _ _ _ _ _ _ | .linkRetrain _ | .linkLockLost _
  | .linkKeyRollover _ | .replayTimeout _ | .clrReadRequest _ _ | .clrRefusal _ _ | .settledSignal _ _
  | .landedCountUpdate _ _ _ | .readTimeout _ | .rollSend | .rollReceive _ | .memberRollTimeout _
  | .treasuryAckTimeout | .peerRollTimeout | .faultRecordForward _ _ | .shardAck _ | .shardTimeout _
  | .verifiedReport _ | .flipCommand | .masterRewriteDone _ | .tokenFetchComplete _ _ _ | .spillCopyComplete _ _ _
  | .probeStart _ | .probeComplete _ _ _ | .faultLogTailWrite _ _ | .pcieLinkUp _ _ _ | .rollAcknowledgement _
  | .probeSetArrival _ | .manifestArrival _ | .shardRefetchRequest _ _ _ _ | .weightScopeRestoreDone _ _
  | .alarmSourceInactive _ | .ideStreamSetup _ _ _ _ _ => true

end Sys2Proof
end

