-- ==== Sys2Proof/Safety.lean ====
section
/-! DEFINITION. What a good state of the device is, in the terms the statements use. -/

namespace Sys2Proof.Machine

/-- Memory keeps its canonical form: addresses strictly rising, no byte listed that reads 0 (DESIGN CHOICE, log entry 3). -/
def Memory.wf (m : List Host.Cell) : Bool := memWf m

/-- The register bank keeps its canonical form: keys strictly rising, no register listed at its own reset value. -/
def bankWf : Nat → SMap Word64 → Bool
  | _, [] => true
  | b, (a, v) :: m => decide (b ≤ a) && decide (v ≠ resetVal a) && bankWf (a + 1) m

/-- Every command that waits is well-formed. -/
def waitingWf (l : List Instr) : Bool := l.all Instr.wf

/-- A good state: memory, the map of poisoned granules and the register bank are canonical, so that equal contents are
equal data, and only well-formed commands wait. -/
def State.good (s : State) : Bool :=
  Memory.wf s.mem && smapWf false 0 s.poison && bankWf 0 s.regs && waitingWf s.pending

/-- Every counter lies from 0 to 0x7FFF_FFFF (R246). -/
def State.countersInRange (s : State) : Prop :=
  ∀ e ∈ s.tallies, e.2.kind = tallyCounter → 0 ≤ e.2.value ∧ e.2.value ≤ 0x7FFFFFFF

/-! ### Footprints -/

/-- The parts of the state a command may change. -/
inductive StatePart where
  | regs | mem | poison | time | rst | mram | dir | tiles | groups | gov | assay | lanes | sides | watch |
  replays | queues | signals | tallies | dma | dmaArb | ports | serve | seqs | folio | staging | epochs | endo
  | cache | cal | aud | sec | clr | log | probes | power | pins | out | free
  deriving DecidableEq, Repr

/-- The number of a part. -/
def StatePart.index : StatePart → Nat
  | .regs => 1
  | .mem => 2
  | .poison => 3
  | .time => 4
  | .rst => 5
  | .mram => 6
  | .dir => 7
  | .tiles => 8
  | .groups => 9
  | .gov => 10
  | .assay => 11
  | .lanes => 12
  | .sides => 13
  | .watch => 14
  | .replays => 15
  | .queues => 16
  | .signals => 17
  | .tallies => 18
  | .dma => 19
  | .dmaArb => 20
  | .ports => 21
  | .serve => 22
  | .seqs => 23
  | .folio => 24
  | .staging => 25
  | .epochs => 26
  | .endo => 27
  | .cache => 28
  | .cal => 29
  | .aud => 30
  | .sec => 31
  | .clr => 32
  | .log => 33
  | .probes => 34
  | .power => 35
  | .pins => 36
  | .out => 37
  | .free => 38

/-- Two states agree on a part. -/
def StatePart.same (s t : State) : StatePart → Prop
  | .regs => t.regs = s.regs
  | .mem => t.mem = s.mem
  | .poison => t.poison = s.poison
  | .time => t.time = s.time
  | .rst => t.rst = s.rst
  | .mram => t.mram = s.mram
  | .dir => t.dir = s.dir
  | .tiles => t.tiles = s.tiles
  | .groups => t.groups = s.groups
  | .gov => t.gov = s.gov
  | .assay => t.assay = s.assay
  | .lanes => t.lanes = s.lanes
  | .sides => t.sides = s.sides
  | .watch => t.watch = s.watch
  | .replays => t.replays = s.replays
  | .queues => t.queues = s.queues
  | .signals => t.signals = s.signals
  | .tallies => t.tallies = s.tallies
  | .dma => t.dma = s.dma
  | .dmaArb => t.dmaArb = s.dmaArb
  | .ports => t.ports = s.ports
  | .serve => t.serve = s.serve
  | .seqs => t.seqs = s.seqs
  | .folio => t.folio = s.folio
  | .staging => t.staging = s.staging
  | .epochs => t.epochs = s.epochs
  | .endo => t.endo = s.endo
  | .cache => t.cache = s.cache
  | .cal => t.cal = s.cal
  | .aud => t.aud = s.aud
  | .sec => t.sec = s.sec
  | .clr => t.clr = s.clr
  | .log => t.log = s.log
  | .probes => t.probes = s.probes
  | .power => t.power = s.power
  | .pins => t.pins = s.pins
  | .out => t.out = s.out
  | .free => t.free = s.free

/-- The parts of the state a command may change; it leaves every other as it was. -/
def footprint : Instr → List StatePart
  | .powerOnReset =>
    [.regs, .mem, .poison, .time, .rst, .dir, .tiles, .groups, .gov, .assay, .lanes, .sides, .watch, .replays,
      .queues, .signals, .tallies, .dma, .dmaArb, .ports, .serve, .seqs, .folio, .staging, .epochs, .endo,
      .cache, .cal, .aud, .sec, .clr, .log, .probes, .power, .pins, .free]
  | .pwrgdRise | .releaseLockTimeout _ | .handoverRequest _ | .warrantClaim _ | .blockResetRequest _ _ =>
    [.regs, .rst]
  | .systemResetPin | .systemResetCmd _ | .firmwareWatchdogExpiry _ _ =>
    [.regs, .mem, .poison, .time, .rst, .dir, .tiles, .groups, .gov, .assay, .lanes, .sides, .watch, .replays,
      .queues, .signals, .tallies, .dma, .dmaArb, .ports, .serve, .seqs, .folio, .staging, .epochs, .endo,
      .cache, .cal, .aud, .sec, .clr, .log, .probes, .power]
  | .coreResetCmd _ =>
    [.regs, .mem, .poison, .time, .rst, .dir, .tiles, .groups, .gov, .assay, .lanes, .sides, .watch, .replays,
      .queues, .signals, .tallies, .dma, .dmaArb, .ports, .serve, .seqs, .folio, .staging, .epochs, .endo,
      .cache, .cal, .clr, .log, .probes, .power]
  | .decommissionArm _ | .decommission _ => [.rst]
  | .domainRelease _ _ _ _ _ => [.regs, .mem, .poison, .rst, .mram, .serve, .clr, .log, .probes, .pins, .out]
  | .arbiterTimeout | .contactLost _ => [.regs, .rst, .ports, .out]
  | .bootPhaseComplete | .pllLockLost _ _ | .alarmSourceFire _ | .registerWrite _ _ _ _ =>
    [.regs, .mem, .poison, .time, .rst, .mram, .dir, .tiles, .groups, .gov, .assay, .lanes, .sides, .watch,
      .replays, .queues, .signals, .tallies, .dma, .dmaArb, .ports, .serve, .seqs, .folio, .staging, .epochs,
      .endo, .cache, .cal, .aud, .sec, .clr, .log, .probes, .power, .out]
  | .bootPhaseStall | .firmwareUpdateStart _ | .timerEvent _ _ | .timerCtrlWrite _ _ _ _
   | .timerPeriodWrite _ _ _ _ | .quiesceWrite _ _ _ | .refbufEnable _ _ | .refbufSettled _
   | .trackerClear _ _ _ | .vaultModeChange _ _ | .faultLogTailWrite _ _ | .alarmSourceInactive _ => [.regs]
  | .heartbeatSend _ | .bar4Read _ _ _ | .rollSend | .shardRefetchRequest _ _ _ _ => [.out]
  | .heartbeatReceive _ _ => [.regs, .rst, .ports, .serve, .out]
  | .counterCompare =>
    [.regs, .mem, .poison, .time, .rst, .mram, .queues, .ports, .serve, .cache, .clr, .log, .power, .out, .free]
  | .firmwareUpdateDone _ _ | .debugUnlock _ _ =>
    [.regs, .mem, .poison, .time, .rst, .mram, .dir, .tiles, .groups, .gov, .assay, .lanes, .sides, .watch,
      .replays, .queues, .signals, .tallies, .dma, .dmaArb, .ports, .serve, .seqs, .folio, .staging, .epochs,
      .endo, .cache, .cal, .aud, .sec, .clr, .log, .probes, .power, .out, .free]
  | .postingPoint =>
    [.regs, .mem, .poison, .mram, .dir, .tiles, .groups, .watch, .replays, .queues, .signals, .tallies, .ports,
      .serve, .seqs, .folio, .staging, .epochs, .endo, .cache, .cal, .aud, .sec, .clr, .log, .probes, .power,
      .out, .free]
  | .emptyPostingPoint =>
    [.regs, .mem, .poison, .mram, .dir, .tiles, .groups, .queues, .signals, .tallies, .ports, .serve, .seqs,
      .folio, .staging, .epochs, .endo, .cache, .cal, .aud, .sec, .clr, .log, .probes, .power, .out, .free]
  | .charterReady _ _ => [.mem, .poison, .mram, .dir, .tiles, .serve]
  | .tellerSlotWrite _ _ _ _ | .tellerStampWrite _ _ _ | .ringConfigWrite _ _ _ _ | .hostWindowWrite _ _ _ _ _
   | .functionLevelReset _ _ => [.regs, .ports]
  | .ticketConsume _ _ => [.regs, .ports, .serve]
  | .ringTailWrite _ _ _ | .pcieLinkUp _ _ _ => [.regs, .ports, .out]
  | .bar4Write _ _ _ _ => [.regs, .mem, .poison]
  | .msixModerationTimer _ _ | .msixUnmask _ _ _ => [.ports, .out]
  | .perstAssert _ | .pcieLinkDown _ | .dmaBurstAck _ _ _ =>
    [.regs, .mem, .poison, .mram, .queues, .signals, .dma, .ports, .serve, .sec, .clr, .log, .probes, .out]
  | .perstRelease _ => [.ports]
  | .hostCompletion _ _ _ _ | .completionTimeout _ _ | .dmaStop _ _ _ | .dmaTransferError _ _ | .clrRefusal _ _
   | .readTimeout _ =>
    [.regs, .mem, .poison, .mram, .queues, .signals, .dma, .serve, .sec, .clr, .log, .probes, .out]
  | .queueEntryEnqueue _ _ _ _ =>
    [.regs, .mem, .poison, .mram, .queues, .signals, .serve, .clr, .log, .probes, .out]
  | .skipEntry _ _ | .orderComplete _ _ => [.regs, .queues, .signals]
  | .strikeSlice _ _ | .strikeVerify _ _ | .tstrikeSlice _ _ =>
    [.regs, .mem, .poison, .mram, .tiles, .assay, .queues, .signals, .tallies, .serve, .clr, .log, .probes, .out]
  | .assayRead _ _ | .assayEndb _ _ | .assayImport _ _ =>
    [.regs, .mem, .poison, .mram, .assay, .queues, .signals, .tallies, .serve, .clr, .log, .probes, .out]
  | .assayEnda _ _ | .attendDout _ _ | .vecConvert _ _ | .vecAdd _ _ | .vecMul _ _ | .vecFunc _ _
   | .vecReduce _ _ | .vecCombine _ _ | .vecNorm _ _ | .vecRope _ _ | .vecAcomb _ _ | .vecDgrad _ _
   | .folioAppend _ _ | .sample _ _ | .tallyInc _ _ | .tallyDec _ _ | .tallyArrive _ _ | .tallyWait _ _
   | .markStep _ _ | .markFence _ _ | .markTrace _ _ | .signalLand _ | .watchdogExpiry _ _ =>
    [.regs, .mem, .poison, .mram, .queues, .signals, .tallies, .serve, .clr, .log, .probes, .out]
  | .attendFwd _ _ =>
    [.regs, .mem, .poison, .mram, .queues, .signals, .tallies, .serve, .folio, .clr, .log, .probes, .out]
  | .attendBwd _ _ =>
    [.regs, .mem, .poison, .mram, .replays, .queues, .signals, .tallies, .serve, .folio, .clr, .log, .probes,
      .out]
  | .attendDense _ _ =>
    [.regs, .mem, .poison, .mram, .lanes, .queues, .signals, .tallies, .serve, .clr, .log, .probes, .out]
  | .vecQuant _ _ =>
    [.regs, .mem, .poison, .mram, .sides, .queues, .signals, .tallies, .serve, .clr, .log, .probes, .out]
  | .vecWatch _ _ =>
    [.regs, .mem, .poison, .mram, .watch, .queues, .signals, .tallies, .serve, .clr, .log, .probes, .out]
  | .folioStage _ _ =>
    [.regs, .mem, .poison, .mram, .queues, .signals, .tallies, .serve, .folio, .staging, .clr, .log, .probes,
      .out]
  | .move _ _ => [.regs, .mem, .poison, .mram, .queues, .signals, .tallies, .dma, .serve, .clr, .log, .probes, .out]
  | .barrierNextRound _ => [.regs, .queues, .signals, .tallies]
  | .dmaGo _ _ _ => [.regs, .mem, .poison, .mram, .dma, .serve, .clr, .log, .probes, .out]
  | .dmaGrant _ =>
    [.regs, .mem, .poison, .mram, .queues, .signals, .dma, .dmaArb, .serve, .sec, .clr, .log, .probes, .out]
  | .dmaTriggerEvent _ _ => [.regs, .dma]
  | .blockResetComplete _ => [.regs, .rst, .tiles, .groups, .assay, .lanes, .queues, .dma]
  | .programCommand _ _ _ => [.regs, .mem, .poison, .mram, .dir, .groups, .serve, .clr, .log, .probes, .out]
  | .programRowDone _ _ _ _ =>
    [.regs, .mem, .poison, .mram, .dir, .groups, .tallies, .serve, .epochs, .clr, .log, .probes, .out]
  | .bankVerify _ _ _ | .driftRefreshStart _ | .shardArrival _ _ _ =>
    [.regs, .mem, .poison, .mram, .dir, .groups, .serve, .epochs, .clr, .log, .probes, .out]
  | .mintSweepStart => [.regs, .mram, .groups]
  | .mintSweepDone =>
    [.regs, .mem, .poison, .time, .rst, .mram, .dir, .tiles, .groups, .gov, .assay, .lanes, .sides, .watch,
      .replays, .queues, .signals, .tallies, .dma, .dmaArb, .ports, .serve, .seqs, .folio, .staging, .epochs,
      .endo, .cache, .cal, .aud, .sec, .clr, .log, .probes, .power]
  | .governorGrant _ => [.regs, .tiles, .gov]
  | .strikeConvertEnd _ => [.regs, .mem, .poison, .mram, .tiles, .serve, .clr, .log, .probes, .out, .free]
  | .sliceComplete _ => [.regs, .mem, .poison, .mram, .tiles, .assay, .queues, .serve, .clr, .log, .probes, .out]
  | .mirrorAccumulators _ | .masterRewriteDone _ =>
    [.regs, .mem, .poison, .mram, .tiles, .serve, .clr, .log, .probes, .out]
  | .spotAssay _ => [.regs, .mem, .poison, .mram, .tiles, .serve, .cal, .clr, .log, .probes, .out]
  | .spotBurstEnd _ | .benchCalibration _ _ => [.tiles]
  | .phaseBoundary => [.regs, .mem, .poison, .mram, .dir, .tiles, .serve, .cal, .clr, .log, .probes, .out]
  | .assaySetLoaded _ | .tamperTestPulse _ _ | .pinFaultDetect _ _ | .probeComplete _ _ _ =>
    [.regs, .mem, .poison, .mram, .serve, .clr, .log, .probes, .out]
  | .calStartWrite _ _ _ => [.regs, .mem, .poison, .cal]
  | .benchCalibrationDone _ => [.regs, .mem, .poison, .mram, .dir, .tiles, .serve, .clr, .log, .probes, .out, .free]
  | .auditConversion _ _ _ _ => [.regs, .mem, .poison, .mram, .serve, .cal, .aud, .clr, .log, .probes, .power, .out]
  | .auditBurstStart _ => [.regs, .aud]
  | .auditBurstDone _ _ => [.regs, .mem, .poison, .mram, .serve, .cal, .aud, .clr, .log, .probes, .out]
  | .audDataRead _ _ | .attestReportDone _ => [.regs, .out]
  | .thermalTrip => [.mram, .power]
  | .tripSeenClear _ => [.regs, .mram]
  | .powerReqRun _ | .powerReqHold _ | .powerReqSleep _ | .powerCapWrite _ _ | .sleepExit | .alarmRelease _ =>
    [.regs, .serve, .power]
  | .alarmLevelWrite _ _ => [.mram]
  | .mailboxAttest _ _ => [.regs, .sec]
  | .enrolSlot _ _ | .revokeSlot _ _ | .setAlarmLevels _ _ | .installDomainKey _ _ => [.regs, .mram, .sec]
  | .measurementExtend _ _ | .linkKeyRollover _ => [.sec]
  | .jtagInstruction _ => [.regs, .serve, .sec, .power, .pins]
  | .linkTrain _ _ _ _ _ _ => [.regs, .serve, .sec, .clr, .free]
  | .linkRetrain _ => [.clr]
  | .linkLockLost _ | .replayTimeout _ | .clrWrite _ _ _ | .clrReadRequest _ _ =>
    [.regs, .mem, .poison, .mram, .serve, .sec, .clr, .log, .probes, .out]
  | .flitReceive _ _ =>
    [.regs, .mem, .poison, .mram, .queues, .signals, .tallies, .dma, .serve, .sec, .clr, .log, .probes, .out]
  | .clrReadResponse _ _ _ => [.regs, .mem, .poison, .mram, .dma, .serve, .sec, .clr, .log, .probes, .out]
  | .settledSignal _ _ => [.regs, .mem, .poison, .mram, .tallies, .serve, .sec, .clr, .log, .probes, .out]
  | .landedCountUpdate _ _ _ => [.regs, .mem, .poison, .mram, .tallies, .serve, .clr, .log, .probes, .out]
  | .rollReceive _ => [.regs, .mem, .poison, .serve, .clr, .out]
  | .memberRollTimeout _ => [.mem, .poison, .serve, .clr]
  | .treasuryAckTimeout | .peerRollTimeout => [.regs, .serve]
  | .faultRecordForward _ _ => [.regs, .mem, .poison, .clr, .log]
  | .shardAck _ | .flipCommand => [.epochs]
  | .shardTimeout _ => [.regs, .mem, .poison, .mram, .serve, .epochs, .clr, .log, .probes, .out]
  | .verifiedReport _ => [.epochs, .out]
  | .tokenFetchComplete _ _ _ => [.seqs]
  | .endoFetchComplete _ _ _ => [.regs, .mem, .poison, .mram, .serve, .endo, .cache, .clr, .log, .probes, .out]
  | .endoRecheck _ => [.regs, .mem, .poison, .mram, .serve, .endo, .clr, .log, .probes, .out]
  | .spillCopyComplete _ _ _ => [.regs, .folio, .sec, .clr, .out]
  | .prefetchComplete _ _ _ _ => [.regs, .mem, .poison, .folio, .staging]
  | .probeStart _ => [.regs, .probes]
  | .rollAcknowledgement _ => [.regs, .serve, .clr, .out]
  | .probeSetArrival _ => [.serve]
  | .manifestArrival _ =>
    [.regs, .mem, .poison, .mram, .dir, .groups, .serve, .epochs, .endo, .cache, .clr, .log, .probes, .out]
  | .weightScopeRestoreDone _ _ => [.mem, .poison, .tiles, .serve]
  | .ideStreamSetup _ _ _ _ _ => [.regs, .ports, .free]

/-! ### Terms -/

/-- Every part of the state outside a list is the same. -/
def onlyParts (ps : List StatePart) (s t : State) : Prop := ∀ p : StatePart, p ∉ ps → p.same s t

/-- Every register outside a list is the same. -/
def onlyRegs (as : List Nat) (s t : State) : Prop := ∀ a, a ∉ as → t.reg a = s.reg a

/-- A counter has counted `n` more, as far as it goes (R14). -/
def counted (a n : Nat) (s t : State) : Prop := (t.reg a).toNat = Nat.min ((s.reg a).toNat + n) (2 ^ 64 - 1)

/-- The registers that writing a record may change (R364, R373, R374, R400). -/
def recordRegs : List Nat :=
  [DBK_STAT, DBK_FLOG_HEAD, DBK_CNT_RECORDS, DBK_CNT_LOST, DBK_CNT_PERM, CLR_CNT_FWDLOST 0, CLR_CNT_FWDLOST 1]

/-- The parts of the state that writing a record may change. -/
def recordParts : List StatePart := [.regs, .mem, .poison, .mram, .serve, .clr, .log, .probes, .out]

/-- Every byte of memory outside `[a, a+n)` reads as before, and every granule outside keeps its poison. -/
def onlyBytes (a n : Nat) (s t : State) : Prop :=
  (∀ k, k < a ∨ a + n ≤ k → t.byte k = s.byte k) ∧
  (∀ g, 32 * g + 32 ≤ a ∨ a + n ≤ 32 * g → look false t.poison g = look false s.poison g)

/-- Entry `e` heads a queue of `u` and may issue now (R211 to R213): an order of the class and opcode with one repetition,
no predicate and no misused wait, and no head of the unit's other queue that could issue too. -/
def State.starts (s : State) (u : EngUnit) (decode : Bool) (cls op : Nat) (e : QEntry) : Bool :=
  s.good && accepts u.kind cls && s.headMay u decode && !s.contested u && (s.queueOf u decode).entries.head? == some e &&
    ordClass e.order == cls && ordOp e.order == op && (s.queueOf u decode).reps == 0 && e.count == 1 &&
    ordSkipK e.order == 0 && !s.waitMisuse u (s.queueOf u decode) e.order

/-- The order of an entry in its unit's hand at its first repetition. -/
def firstJob (u : EngUnit) (decode : Bool) (e : QEntry) : Job := jobOf u decode e e.order (ordAcc e.order)

/-- The issue counter of a queue (R205). -/
def issueCounter (u : EngUnit) (decode : Bool) : Nat := if decode then ENG_CNT_ISSUE_D u else ENG_CNT_ISSUE_P u

/-- The order of a one-time entry has issued (R211, R237): it is in progress, with its results written or not, and its
queue is left as `q`. -/
def issuedTo (u : EngUnit) (decode : Bool) (e : QEntry) (ready : Bool) (q : Queue) (s t : State) : Prop :=
  let g : EngState := { s.eng u with flying := (s.eng u).flying ++ [⟨e, e.order, decode, ready, false⟩] }
  t.queues = (s.setEng u (g.setQueue decode q)).queues ∧ counted (issueCounter u decode) 1 s t

/-- Values stand from key `a` on in a floating-point format, each rounded once; a poison value says nothing here. -/
def holdsFloats (a fmt : Nat) (vs : List Val) (t : State) : Prop :=
  ∀ i x, vs[i]? = some (some x) → t.read (a + elemBytes fmt * i) (elemBytes fmt) = natLe (elemBytes fmt) ((fmtOf fmt).encode x)

/-- Values stand added, element by element and rounded once, to what stood at key `a` in state `s` (R78); an element whose
granule was poison keeps it and is left out here. -/
def addsFloats (a fmt : Nat) (vs : List Val) (s t : State) : Prop :=
  ∀ i x, vs[i]? = some (some x) → s.bad (a + elemBytes fmt * i) (elemBytes fmt) = false →
    t.read (a + elemBytes fmt * i) (elemBytes fmt) = natLe (elemBytes fmt)
      ((fmtOf fmt).encode (((fmtOf fmt).decode (s.readNat (a + elemBytes fmt * i) (elemBytes fmt))).add x))

/-- The blocks of 32 that values quantise to (R56, R59); `us` gives the draws of an element's position. -/
def quantised (n : Nat) (static : Option Nat) (us : Option (Nat → Nat)) (vs : List Val) : List Quant :=
  ((piecesOf 32 (vs.length + 1) vs).zipIdx).map (fun e =>
    quantVals n static (us.map (fun f => (List.range 32).map (fun i => f (32 * e.2 + i)))) e.1)

/-- Quantised blocks stand at key `a`: the packed elements of each, and behind them all its denomination, 0xFF for poison
(R52). -/
def holdsBlocks (a n len : Nat) (qs : List Quant) (t : State) : Prop :=
  ∀ k q, qs[k]? = some q →
    t.read (a + 4 * n * k) (4 * n) = (if q.poison ∨ q.denom = 0 then List.replicate (4 * n) 0 else dbPack n q.elems) ∧
    t.read (a + roundUp32 (4 * n * ceilDiv len 32) + k) 1 = natLe 1 (if q.poison then 0xFF else q.denom)

/-- The result of an order stands at its operand, on every die it writes to: in a DB format quantised dynamically, in a
floating-point format rounded once, and under ACC added to what stood there in state `s` (R76 to R78). -/
def valuesAt (o : Operand) (g : Nat) (acc : Bool) (vs : List Val) (s t : State) : Prop :=
  ∀ d, d ∈ o.writeDies →
    (isDb o.fmt = true → holdsBlocks (till d (32 * g)) (o.fmt + 1) vs.length (quantised (o.fmt + 1) none none vs) t) ∧
    (fmtFloat o.fmt = true → acc = false → holdsFloats (till d (32 * g)) o.fmt vs t) ∧
    (fmtFloat o.fmt = true → acc = true → vs.any Option.isNone = false → addsFloats (till d (32 * g)) o.fmt vs s t)

/-- Outside `n` bytes at a granule of every die an operand is written on, memory reads as before. -/
def onlyOperand (o : Operand) (g n : Nat) (s t : State) : Prop :=
  ∀ k, (∀ d, d ∈ o.writeDies → k < till d (32 * g) ∨ till d (32 * g) + n ≤ k) → t.byte k = s.byte k

/-- Hoards stand from key `a` on as partial records written by `source` (R81). -/
def holdsRecords (a source : Nat) (hs : List Hoard) (t : State) : Prop :=
  ∀ i h, hs[i]? = some h → t.read (a + 96 * i) 96 = h.encode source

/-- A queue without its head. -/
def Queue.rest (q : Queue) : Queue := { q with entries := q.entries.tail }

/-- The order of a one-time entry has issued and left the head of its queue. -/
def issued (u : EngUnit) (decode : Bool) (e : QEntry) (ready : Bool) (s t : State) : Prop :=
  issuedTo u decode e ready (s.queueOf u decode).rest s t

end Sys2Proof.Machine
end

