-- ==== Sys2Proof/Certificates/Slice0/Obligations.lean ====
section
/-! DEFINITION. The statements about the device: one Prop each, listed in OBLIGATIONS.json. The rules a statement rests on
stand in brackets; a clause that rests on a choice of the model names its log entry (notes/assumptions). -/

open Sys2Proof Sys2Proof.Machine

/-- A step with a command waiting runs the command at the front of the queue with the rest of the queue. -/
def Obligations.StepRunsFrontCommand : Prop :=
  ∀ (c : Instr) (rest : List Instr) (s : State),
    step { s with pending := c :: rest } = exec c { s with pending := rest }

/-- With no command waiting one tick passes (R41 to R43): the copy of the half that leads advances by one, and the other
too unless it is slewing; nothing but time and registers changes. That a tick is what an empty queue does is the
model's choice (log entry 1). No command adds to the queue, removes from it or reorders it; a step takes exactly the
command at the front. -/
def Obligations.EmptyQueueIsOneTick : Prop :=
  (∀ s : State, s.pending = [] → ∃ t, step s = .next t ∧
     (s.senior ≠ some 1 → t.time.north = s.time.north + 1) ∧
     (s.senior = some 1 → t.time.south = s.time.south + 1) ∧
     (s.contact = false ∨ s.time.slewDiff = 0 ∨ 0 < s.time.slewWait →
       t.time.north = s.time.north + 1 ∧ t.time.south = s.time.south + 1) ∧
     (∀ p : StatePart, p ≠ .time → p ≠ .regs → p.same s t) ∧ t.pending = []) ∧
  ((∀ (i : Instr) (s t : State), exec i s = .next t → t.pending = s.pending) ∧
   (∀ (c : Instr) (rest : List Instr) (s t : State), s.pending = c :: rest → step s = .next t → t.pending = rest))

/-- Every step keeps memory, the poison map and the register bank canonical, and leaves only well-formed commands waiting. -/
def Obligations.StepKeepsGoodState : Prop :=
  ∀ s t : State, s.good = true → step s = .next t → t.good = true

/-- The state after reset is good. -/
def Obligations.ResetStateIsGood : Prop := State.reset.good = true ∧ State.reset.pending = []

/-- Every command changes only the parts of the state in its footprint: every other register file, table, buffer and
memory stays as it was. -/
def Obligations.CommandStaysInFootprint : Prop :=
  ∀ (i : Instr) (s t : State) (p : StatePart), exec i s = .next t → p ∉ footprint i → p.same s t

/-- Counters stay within their range (R246): in every state whose counters lie from 0 to 0x7FFF_FFFF, whatever command
runs or tick passes, they lie there still; so they do after reset. -/
def Obligations.CountersNeverWrap : Prop :=
  (∀ s t : State, s.countersInRange → step s = .next t → t.countersInRange) ∧ State.reset.countersInRange

/-- What Destroy takes never comes back: the erasure fuse stays blown and an erased seed stays erased, whatever steps
follow (R454, R462, R470). The owner command counter survives everything and never falls (R454, R460, R461). -/
def Obligations.DestroyedIdentityAndUsedCountersStay : Prop :=
  (∀ s t : State, step s = .next t →
     (s.mram.fuseBlown = true → t.mram.fuseBlown = true) ∧ (s.mram.seed = false → t.mram.seed = false)) ∧
  (∀ (s t : State) (c : Word32), step s = .next t → s.mram.ownerCounter = some c →
     ∃ d, t.mram.ownerCounter = some d ∧ c ≤ d)

/-- A staged Charter's generation (R448): one whose target and signature are sound is refused as stale unless it lies 1 to
32,767 past the last posted, and never before any has posted. Every reset keeps the last posted generation. -/
def Obligations.StaleChartersAreRefused : Prop :=
  (∀ (s : State) (base len gen : Nat) (done : Bool), gen < 65536 →
    ((s.charterStatus base len gen done).1 = stCharterStale ↔
      s.charterTarget base gen = true ∧ s.charterSound base len = true ∧ ∃ p, s.mram.postedGen = some p ∧
        ¬(1 ≤ (gen + 65536 - p.toNat) % 65536 ∧ (gen + 65536 - p.toNat) % 65536 ≤ 32767))) ∧
  (∀ (i : Instr) (s : State),
    (i = .powerOnReset ∨ i = .systemResetPin ∨ (∃ w, i = .systemResetCmd w) ∨ (∃ w, i = .coreResetCmd w) ∨
      ∃ h c, i = .firmwareWatchdogExpiry h c) →
    ∃ t, exec i s = .next t ∧ t.mram.postedGen = s.mram.postedGen)

/-- The swap of a transfer (R260): code 0 moves no byte, 1 swaps the two bytes of each halfword, 2 reverses each word and
3 swaps its halfwords, in units counted from byte 0 of the transfer. A whole unit is rearranged within itself, and a
reserved code starts no transfer. -/
def Obligations.SwapsRearrangeUnits : Prop :=
  (∀ i, swapIndex 0 i = i ∧ swapIndex 1 i = 2 * (i / 2) + (1 - i % 2) ∧ swapIndex 2 i = 4 * (i / 4) + (3 - i % 4) ∧
    swapIndex 3 i = 4 * (i / 4) + (i % 4 + 2) % 4) ∧
  (swapUnit 0 = 1 ∧ swapUnit 1 = 2 ∧ swapUnit 2 = 4 ∧ swapUnit 3 = 4) ∧
  (∀ (s : State) (d k n : Nat) (x : Desc) (raw : List Byte), 4 ≤ x.swap → s.checkDesc d k n x raw ≠ 0) ∧
  (∀ (x : Desc) (b : Burst) (lo i : Nat) (span : List (Byte × Bool)), i < b.len →
    (∀ v ∈ span, v.2 = false) →
    (burstBytes x b lo span)[i]? =
      some (swapIndex x.swap (b.off + i), span.getD (swapIndex x.swap (b.off + i) - lo) (0, false)))

/-- Denominated blocks (R48, R50): a packed block has 4n bytes, and 32 elements within DBn's range unpack as they were
packed, with no invalid code. A DB1 code is -1 or +1, a wider one its two's complement, its lowest code alone invalid;
and under a denomination D from 0x01 to 0xFE an element e stands for e · 2^(D - 127). -/
def Obligations.BlocksUnpackWhatWasPacked : Prop :=
  (∀ (n : Nat) (es : List Int), 1 ≤ n → n ≤ 8 → es.length = 32 →
    (∀ e ∈ es, if n = 1 then e = -1 ∨ e = 1 else -(2 ^ (n - 1) - 1) ≤ e ∧ e ≤ 2 ^ (n - 1) - 1) →
    (dbPack n es).length = 4 * n ∧ dbUnpack n (dbPack n es) = (es, 0)) ∧
  (∀ (n c : Nat), 1 ≤ n → n ≤ 8 → c < 2 ^ n →
    (n = 1 → dbElem n c = (if c = 0 then -1 else 1, false)) ∧
    (2 ≤ n → c < 2 ^ (n - 1) → dbElem n c = ((c : Int), false)) ∧
    (2 ≤ n → 2 ^ (n - 1) < c → dbElem n c = ((c : Int) - 2 ^ n, false)) ∧
    (2 ≤ n → c = 2 ^ (n - 1) → (dbElem n c).2 = true)) ∧
  (∀ (d : Nat) (e : Int), 1 ≤ d → d ≤ 0xFE →
    dbValue d e = some (.fin (decide (e < 0)) e.natAbs ((d : Int) - 127)))

/-- A system reset by pin, by command of the Warrant holder, or by a Clerk's watchdog (R439, R440, R456): every register
reads its reset value but the held causes, the unlock failures and the boot phase; MRAM and the level planes are kept.
A power-on reset keeps MRAM and the levels in the cells alone; a core reset by the Warrant holder keeps in addition
the counters, the time, the ports' registers and the causes (R439, R440). What a core reset keeps beyond the rule is
read in log entry 16. -/
def Obligations.ResetsLeaveResetValues : Prop :=
  (∀ (i : Instr) (n : Nat) (s : State), s.good = true →
     (i = .systemResetPin ∧ n = 1) ∨
       (∃ w, i = .systemResetCmd w ∧ n = 2 ∧ s.holder w = true ∧ s.contact = true ∧ s.anyHeld = false) ∨
       (∃ h c, i = .firmwareWatchdogExpiry h c ∧ n = 4) →
     ∃ t, exec i s = .next t ∧ t.flag RST_CAUSE n = true ∧
       (∀ k, k ≠ n → k < 64 → t.flag RST_CAUSE k = s.flag RST_CAUSE k) ∧
       (∀ a, a ≠ RST_CAUSE → a ≠ SEC_DBG → a ≠ RST_BOOT → t.reg a = resetVal a) ∧ t.reg SEC_DBG = s.reg SEC_DBG ∧
       t.fld RST_BOOT 29 26 = (if s.rst.pwrgd then 1 else 0) ∧
       t.mram = s.mram ∧ (∀ a, t.byte a = if isLevel a then s.byte a else 0) ∧
       t.time = Time.zero ∧ t.seqs = [] ∧ t.tallies = [] ∧ t.queues = [] ∧ t.folio = [] ∧ t.dma = [] ∧ t.aud = []) ∧
  ((∀ s : State, ∃ t, exec .powerOnReset s = .next t ∧ t.mram = s.mram ∧ (∀ a, t.reg a = resetVal a) ∧
     (∀ a, t.byte a = if isLevel a then s.byte a else 0) ∧ t.rst.pwrgd = false ∧ t.time = Time.zero ∧ t.seqs = [] ∧
     t.out = s.out) ∧
   (∀ (w : Src) (s : State), s.good = true → s.holder w = true → s.contact = true → s.anyHeld = false →
     ∃ t, exec (.coreResetCmd w) s = .next t ∧ t.flag RST_CAUSE 3 = true ∧
       (∀ k, k ≠ 3 → k < 64 → t.flag RST_CAUSE k = s.flag RST_CAUSE k) ∧ t.fld RST_BOOT 29 26 = 3 ∧
       (∀ a, isCounter a = true → t.reg a = s.reg a) ∧
       (∀ a, coreClears a = true → a ≠ RST_BOOT → t.reg a = resetVal a) ∧
       (∀ a, coreClears a = false → a ≠ RST_CAUSE → a ≠ RST_BOOT → t.reg a = s.reg a) ∧
       t.mram = s.mram ∧ t.time.north = s.time.north ∧ t.time.south = s.time.south ∧
       (∀ a, t.byte a = if isLevel a then s.byte a else 0) ∧ t.queues = [] ∧ t.tallies = [] ∧ t.folio = []))

/-- Decommissioning (R454, R128, R129): the arm, the write within 100,000 ticks, the sweep, and what its end clears and
keeps. -/
def Obligations.DecommissioningSequence : Prop :=
  (∀ (w : Src) (s : State), s.holder w = true → s.contact = true → s.anyHeld = false → s.anyLive = false →
    exec (.decommissionArm w) s = .next { s with rst := { s.rst with armedAt := some s.now } }) ∧
  (∀ (w : Src) (s : State) (a : Word64), s.holder w = true → s.contact = true → s.anyHeld = false →
    s.anyLive = false → s.rst.armedAt = some a → (s.now - a).toNat ≤ 100000 →
    exec (.decommission w) s = .next { s with rst := { s.rst with armedAt := none, decommissioning := true } }) ∧
  (∀ s : State, s.good = true → s.mram.destroyPending = true ∨ s.rst.decommissioning = true →
    s.mram.sweepPending = false →
    ∃ t, exec .mintSweepStart s = .next t ∧ t.mram = { s.mram with sweepPending := true } ∧ t.groups = [] ∧
      (∀ m, m < 16 → t.fld (MGV_SWEEP m) 15 0 = 0) ∧ (∀ a, (∀ m, m < 16 → a ≠ MGV_SWEEP m) → t.reg a = s.reg a)) ∧
  (∀ s : State, s.good = true → s.mram.sweepPending = true → s.mram.destroyPending = false →
    s.rst.decommissioning = true →
    ∃ t, exec .mintSweepDone s = .next t ∧ t.flag RST_CAUSE 2 = true ∧ (∀ a, isLevel a = true → t.byte a = 0) ∧
      t.dir = [] ∧ t.mram = { s.mram with
        sweepPending := false, daybook := [], surplus := [], setCrc0 := [], postedGen := none, probeSet := none,
        owner := [], domainKey := none })

/-- The release order and boot (R442, R451): PWRGD starts phase 1, a row whose PLLs report lock is released, a row that
does not lock stops its half, and a finished phase gives way to the next. Heartbeats, the loss of contact and a silent
arbiter (R433 to R435). -/
def Obligations.ReleaseOrderAndContact : Prop :=
  ((∀ s : State, s.good = true → s.rst.pwrgd = false →
     ∃ t, exec .pwrgdRise s = .next t ∧ t.rst = { s.rst with pwrgd := true } ∧ t.phase = 1 ∧
       ∀ a, a ≠ RST_BOOT → t.reg a = s.reg a) ∧
   (∀ (h : Half) (x : StrapSample) (locks : BitVec 8) (alone : Bool) (s : State), s.rst.pwrgd = true →
     look false s.rst.stopped h.val = false → s.rowsOf h.val < 7 → s.phase = rowPhase (s.rowsOf h.val + 1) →
     rowLocks (s.rowsOf h.val + 1) &&& locks.toNat = rowLocks (s.rowsOf h.val + 1) →
     h = 0 ∨ 1 ≤ s.rowsOf 0 ∨ alone = true → s.flag GLB_PINS 10 = false →
     ∃ t, exec (.domainRelease h x locks true alone) s = .next t ∧ t.rowsOf h.val = s.rowsOf h.val + 1 ∧
       t.rowsOf (1 - h.val) = s.rowsOf (1 - h.val) ∧ t.tiles = s.tiles) ∧
   (∀ (h : Half) (s : State), s.good = true →
     ∃ t, exec (.releaseLockTimeout h) s = .next t ∧ t.flag RST_BOOT 30 = true ∧
       look false t.rst.stopped h.val = true ∧ ∀ a, a ≠ RST_BOOT → t.reg a = s.reg a) ∧
   (∀ s : State, s.good = true → s.phase ≠ 0 →
     ∃ t, exec .bootPhaseStall s = .next t ∧ t.flag RST_BOOT 30 = true ∧ t.phase = s.phase ∧
       ∀ a, a ≠ RST_BOOT → t.reg a = s.reg a) ∧
   (∀ s : State, s.good = true → s.phase = 3 → s.rowsDone 4 = true →
     ∃ t, exec .bootPhaseComplete s = .next t ∧ t.phase = 4 ∧ ∀ a, a ≠ RST_BOOT → t.reg a = s.reg a) ∧
   (∀ s : State, s.good = true → s.phase = 4 → s.rowsDone 7 = true →
     ∃ t, exec .bootPhaseComplete s = .next t ∧ t.phase = 5 ∧ ∀ a, a ≠ RST_BOOT → t.reg a = s.reg a)) ∧
  ((∀ (h : Half) (s : State), 1 ≤ s.rowsOf h.val →
     exec (.heartbeatSend h) s = .next { s with out := s.out ++ [.heartbeat h (s.held h.val)] }) ∧
   (∀ (h : Half) (s : State), s.good = true → s.anyHeld = false → s.counter h.val ≠ 0 →
     ∃ t, exec (.heartbeatReceive h false) s = .next t ∧ look 0 t.rst.lastBeat h.val = s.counter h.val ∧
       t.held 0 = false ∧ t.held 1 = false ∧ t.serve = s.serve ∧ t.out = s.out) ∧
   (∀ (h : Half) (s : State), s.good = true → s.held h.val = false →
     ∃ t, exec (.contactLost h) s = .next t ∧ t.flag (STW_STAT h.val) 28 = false ∧ t.held h.val = true ∧
       t.fld (STW_STAT h.val) 27 26 = 1 ∧ t.contact = false) ∧
   (∀ s : State, s.good = true → s.rst.arbitrated = false → s.held 0 = false → s.held 1 = false →
     ∃ t, exec .arbiterTimeout s = .next t ∧ t.rst.arbitrated = true ∧ t.held 0 = true ∧ t.held 1 = true ∧
       t.fld (STW_STAT 0) 27 26 = 2 ∧ t.fld (STW_STAT 1) 27 26 = 2))

/-- Handover of the Warrant and the comparison of the two counters (R437, R438, R42). A firmware update (R453): the start
needs contact and a length; the end tests the signature, then the floor, and writes both Stewards' inactive slots.
What the firmware image holds is log entry 10. -/
def Obligations.WarrantAndFirmwareUpdates : Prop :=
  ((∀ (w : Src) (s : State), s.good = true → s.holder w = true → s.anyHeld = false →
     ∃ t, exec (.handoverRequest w) s = .next t ∧ t.flag (STW_WARRANT 0) 31 = true ∧
       t.rst = { s.rst with byClaim := false } ∧ ∀ a, a ≠ STW_WARRANT 0 → t.reg a = s.reg a) ∧
   (∀ (w : Src) (h : Nat) (s : State), s.good = true → s.senior = some h → w.fn = 0 → w.port.val ≠ h →
     ∃ t, exec (.warrantClaim w) s = .next t ∧ (∀ a, a ≠ STW_WARRANT 0 → t.reg a = s.reg a) ∧
       (if s.holderAway h then t.flag (STW_WARRANT 0) 31 = true ∧ t.rst = { s.rst with byClaim := true }
        else t.flag (STW_WARRANT 0) 30 = true ∧ t.rst = s.rst)) ∧
   (∀ (h : Nat) (s : State), s.good = true → s.senior = some h → s.contact = true → s.serve.heldPost = none →
     ∃ t, exec .counterCompare s = .next t ∧ t.time.slewDiff = (s.counter (1 - h) - s.counter h).toInt ∧
       t.fld GLB_CLKSTAT 23 16 = toTwos 8 (clampInt (-128) 127 (s.counter (1 - h) - s.counter h).toInt) ∧
       t.time.north = s.time.north ∧ t.time.south = s.time.south ∧ ∀ a, a ≠ GLB_CLKSTAT → t.reg a = s.reg a)) ∧
  ((∀ (w : Src) (s : State), s.good = true → s.holder w = true → s.flag (STW_FWCTL 0) 31 = false →
     ∃ t, exec (.firmwareUpdateStart w) s = .next t ∧ (∀ a, a ≠ STW_FWCTL 0 → t.reg a = s.reg a) ∧
       t.flag (STW_FWCTL 0) 31 = (s.contact && decide (s.fld (STW_FWCTL 0) 23 0 ≠ 0)) ∧
       t.fld (STW_FWCTL 0) 29 26 = (if s.contact = false then 6 else if s.fld (STW_FWCTL 0) 23 0 = 0 then 5 else 0)) ∧
   (∀ (img : FwImage) (s : State), s.good = true → s.flag (STW_FWCTL 0) 31 = true → img.verifies = true →
     ∃ t, exec (.firmwareUpdateDone img false) s = .next t ∧ t.flag (STW_FWCTL 0) 31 = false ∧ t.mram.fwFails = 0 ∧
       (∀ a, a ≠ STW_FWCTL 0 → t.reg a = s.reg a) ∧
       (if img.version.toNat < Config.firmwareFloor then t.fld (STW_FWCTL 0) 29 26 = 3 ∧ t.mram.flash = s.mram.flash
        else t.fld (STW_FWCTL 0) 29 26 = 1)))

/-- Requests, caps and sleep (R480 to R482): the request or cap is written, and the power state, every Mint die's
effective ceiling and the lowest thermal cap follow it; a cap above 512 is discarded. -/
def Obligations.PowerRequestsAreFollowed : Prop :=
  (∀ (i : Instr) (w : Src) (q : Nat) (s : State), s.good = true → s.holder w = true →
    (i = .powerReqRun w ∧ q = 0) ∨ (i = .powerReqHold w ∧ q = 2) ∨ (i = .powerReqSleep w ∧ q = 3) →
    ∃ t, exec i s = .next t ∧ t.fld GLB_PWR 29 28 = q ∧ t.fld GLB_PWR 31 30 = t.powerState ∧
      t.fld GLB_PWR 25 16 = s.fld GLB_PWR 25 16 ∧ (∀ m, m < 16 → t.fld (MGV_CEIL m) 25 16 = t.ceiling m) ∧
      (q = 2 → s.power.asleep = false → t.powerState = 2 ∧ ∀ m, m < 16 → t.ceiling m = 0) ∧
      (∀ a, a ≠ GLB_PWR → (∀ m, m < 16 → a ≠ MGV_CEIL m) → t.reg a = s.reg a)) ∧
  (∀ (w : Src) (cap : BitVec 10) (s : State), s.good = true → s.holder w = true →
    ∃ t, exec (.powerCapWrite w cap) s = .next t ∧
      (if cap.toNat ≤ 512 then
         t.fld GLB_PWR 25 16 = cap.toNat ∧ t.fld GLB_PWR 29 28 = s.fld GLB_PWR 29 28 ∧
         t.fld GLB_PWR 31 30 = t.powerState ∧ (∀ m, m < 16 → t.fld (MGV_CEIL m) 25 16 = t.ceiling m) ∧
         (∀ a, a ≠ GLB_PWR → (∀ m, m < 16 → a ≠ MGV_CEIL m) → t.reg a = s.reg a)
       else t = s)) ∧
  (∀ s : State, s.good = true → s.power.asleep = true → s.intakeHolds = true ∨ s.fld GLB_PWR 29 28 = 0 →
    ∃ t, exec .sleepExit s = .next t ∧ t.power.asleep = false ∧ t.fld GLB_PWR 31 30 = t.powerState ∧
      (∀ m, m < 16 → t.fld (MGV_CEIL m) 25 16 = t.ceiling m) ∧
      (∀ a, a ≠ GLB_PWR → (∀ m, m < 16 → a ≠ MGV_CEIL m) → t.reg a = s.reg a))

/-- The thermal trip and its record (R485), and the faults of pins (R488, R489), each with its bit and its event. A PLL
that loses lock has its lock bit cleared and raises the clock-glitch source (R33, R469); one that has no lock to lose
changes nothing. A command whose own conditions do not hold changes nothing: the model's choice (log entry 2). -/
def Obligations.TripPinAndLockFaults : Prop :=
  ((∀ s : State, exec .thermalTrip s =
     .next { s with power := { s.power with thermTrip := true }, mram := { s.mram with tripSeen := true } }) ∧
   (∀ (w : Src) (s : State), s.good = true → s.holder w = true →
     ∃ t, exec (.tripSeenClear w) s = .next t ∧ t.mram = { s.mram with tripSeen := false } ∧
       t.flag GLB_THERM 31 = false ∧ (∀ a, a ≠ GLB_THERM → t.reg a = s.reg a)) ∧
   (∀ (h : Half) (s : State), s.good = true → 1 ≤ s.rowsOf h.val → s.flag GLB_PINS 9 = false →
     ∃ t, exec (.tamperTestPulse h false) s = .next t ∧ t.flag GLB_PINS 9 = true ∧
       (∃ e ∈ t.serve.events, e.code = 0x70 ∧ e.d1 = 9 ∧ e.d2 = 1) ∧ t.log.serial = s.log.serial + 1) ∧
   (∀ (h : Half) (s : State), exec (.tamperTestPulse h true) s = .next s) ∧
   (∀ (b : Fin 11) (found : Bool) (s : State), s.good = true →
     ∃ t, exec (.pinFaultDetect b found) s = .next t ∧ t.flag GLB_PINS b.val = (found || s.flag GLB_PINS b.val) ∧
       (∀ k, k ≠ b.val → k < 64 → t.flag GLB_PINS k = s.flag GLB_PINS k) ∧
       (∃ e ∈ t.serve.events, e.code = 0x70 ∧ e.d1.toNat = b.val ∧ e.d2 = (if found then 1 else 0)) ∧
       t.log.serial = s.log.serial + 1)) ∧
  ((∀ (h : Half) (k : Fin 8) (s : State), s.good = true → s.flag GLB_CLKSTAT (8 * h.val + k.val) = true →
     s.mram.levels = 0 →
     ∃ t, exec (.pllLockLost h k) s = .next t ∧ t.flag GLB_CLKSTAT (8 * h.val + k.val) = false ∧
       t.flag SEC_ALARM 0 = true ∧ t.flag SEC_ALARM 16 = true) ∧
   (∀ (h : Half) (k : Fin 8) (s : State), s.flag GLB_CLKSTAT (8 * h.val + k.val) = false →
     exec (.pllLockLost h k) s = .next s))

/-- Security alarm sources act at the highest of their levels (R469 to R471): Notice latches and records, Hold holds,
Erase clears the domain key and resets, Destroy blows the fuse and starts the sweep. -/
def Obligations.AlarmActsAtHighestLevel : Prop :=
  (∀ (m : BitVec 6) (s : State), s.good = true → m ≠ 0 → s.mram.destroyPending = false →
    let level := maxOr 0 ((sourcesOf m.toNat).map s.alarmLevel)
    ∃ t, exec (.alarmSourceFire m) s = .next t ∧
      (level ≤ 1 → (∀ k, k < 6 → t.flag SEC_ALARM k = (m.getLsbD k || s.flag SEC_ALARM k) ∧
        t.flag SEC_ALARM (16 + k) = (m.getLsbD k || s.flag SEC_ALARM (16 + k)))) ∧
      (level = 1 → t.flag SEC_STAT 29 = true ∧ t.fld GLB_PWR 31 30 = t.powerState) ∧
      (level ≤ 1 → t.mram.domainKey = s.mram.domainKey ∧ t.mram.fuseBlown = s.mram.fuseBlown) ∧
      (level = 2 → t.mram.domainKey = none ∧ t.mram.erased = true ∧ t.flag RST_CAUSE 5 = true ∧
        t.mram.fuseBlown = s.mram.fuseBlown) ∧
      (level = 3 → t.mram.domainKey = none ∧ t.mram.erased = true ∧ t.mram.fuseBlown = true ∧
        t.mram.destroyPending = true ∧ t.mram.sweepPending = true)) ∧
  (∀ (k : Fin 6) (s : State), s.good = true →
    ∃ t, exec (.alarmSourceInactive k) s = .next t ∧ t.flag SEC_ALARM (16 + k.val) = false ∧
      (∀ j, j ≠ 16 + k.val → j < 64 → t.flag SEC_ALARM j = s.flag SEC_ALARM j) ∧
      (∀ a, a ≠ SEC_ALARM → t.reg a = s.reg a)) ∧
  (∀ (w : Src) (s : State), s.good = true → s.holder w = true →
    (∀ k, k < 6 → s.flag SEC_ALARM (16 + k) = true → s.alarmLevel k = 0) →
    ∃ t, exec (.alarmRelease w) s = .next t ∧ t.flag SEC_STAT 29 = false ∧ t.fld GLB_PWR 31 30 = t.powerState ∧
      (∀ m, m < 16 → t.fld (MGV_CEIL m) 25 16 = t.ceiling m) ∧
      (∀ a, a ≠ SEC_STAT → a ≠ GLB_PWR → (∀ m, m < 16 → a ≠ MGV_CEIL m) → t.reg a = s.reg a)) ∧
  (∀ (w : Src) (v : BitVec 12) (s : State), s.holder w = true →
    (∀ k, k < 6 → s.alarmLevel k ≤ nbits v.toNat (2 * k + 1) (2 * k)) →
    exec (.alarmLevelWrite w v) s = .next { s with mram := { s.mram with levels := v } }) ∧
  (∀ (w : Src) (v : BitVec 12) (k : Nat) (s : State), k < 6 → nbits v.toNat (2 * k + 1) (2 * k) < s.alarmLevel k →
    exec (.alarmLevelWrite w v) s = .next s)

/-- An owner command leaves its result in the mailbox; accepted, it sets the owner counter and does what its code says,
and refused it changes nothing of MRAM (R460, R461, R464). Which result an owner command gets: from any port but the
Warrant holder's 5, with a counter that has been used 3, and never two acceptances of one counter (R460, R461, R464).
The order of the checks is the model's (log entry 20), and the cryptographic checks are uninterpreted (log entry 8). -/
def Obligations.OwnerCommands : Prop :=
  (∀ (i : Instr) (cmd : Nat) (w : Src) (img : List Byte) (s : State), s.good = true → w.fn = 0 →
     s.flag (SEC_MBCTL w.port.val) 31 = false →
     (i = .enrolSlot w img ∧ cmd = 1) ∨ (i = .revokeSlot w img ∧ cmd = 2) ∨ (i = .setAlarmLevels w img ∧ cmd = 3) ∨
       (i = .installDomainKey w img ∧ cmd = 4) →
     ∃ t, exec i s = .next t ∧ t.fld (SEC_MBCTL w.port.val) 27 24 = s.ownerResult w cmd img ∧
       t.fld (SEC_MBCTL w.port.val) 29 28 = 2 ∧ t.flag (SEC_MBCTL w.port.val) 31 = false ∧
       (∀ a, a ≠ SEC_MBCTL w.port.val → t.reg a = s.reg a) ∧
       (s.ownerResult w cmd img ≠ 1 → t.mram = s.mram ∧ t.sec = s.sec) ∧
       (s.ownerResult w cmd img = 1 → t.mram.ownerCounter = some (BitVec.ofNat 32 (fieldB img 7 4)) ∧
         t.mram.owner = slotsAfter cmd img s.mram.owner ∧ t.mram.seed = s.mram.seed ∧ t.mram.life = s.mram.life ∧
         (cmd = 3 → t.mram.levels = BitVec.ofNat 12 (fieldB img 67 64)) ∧ (cmd ≠ 3 → t.mram.levels = s.mram.levels) ∧
         (cmd = 4 → t.mram.domainKey = Config.unwrapDomainKey ((img.drop 64).take (payloadLen 4)) ∧
           t.mram.erased = false) ∧
         (cmd ≠ 4 → t.mram.domainKey = s.mram.domainKey ∧ t.mram.erased = s.mram.erased))) ∧
  (∀ (w : Src) (cmd : Nat) (img : List Byte) (s : State),
     s.holder w = false ∨ s.contact = false ∨ s.mram.seed = false ∨ s.mram.fuseBlown = true ∨ byteAt img 0 ≠ cmd ∨
       (img.drop 8).take 32 ≠ deviceHash ∨ (∃ c, s.mram.ownerCounter = some c ∧ fieldB img 7 4 ≤ c.toNat) →
     s.ownerResult w cmd img ≠ 1)

/-- Attestation, measurements, the debug state and the TAP (R463 to R466, R490). Signatures, hashes and the form of the
report are the model's (log entries 8, 19 and 20). -/
def Obligations.AttestationAndDebug : Prop :=
  (∀ (w : Src) (nonce : BitVec 256) (s : State), s.good = true → w.fn = 0 → s.flag (SEC_MBCTL w.port.val) 31 = false →
    ∃ t, exec (.mailboxAttest w nonce) s = .next t ∧ t.fld (SEC_MBCTL w.port.val) 29 28 = 1 ∧
      t.flag (SEC_MBCTL w.port.val) 31 = s.identity ∧
      t.fld (SEC_MBCTL w.port.val) 27 24 = (if s.identity then 0 else 6) ∧
      (∀ a, a ≠ SEC_MBCTL w.port.val → t.reg a = s.reg a) ∧ (s.identity = false → t.sec = s.sec)) ∧
  (∀ (p : Port) (s : State), s.good = true → s.flag (SEC_MBCTL p.val) 31 = true → s.fld (SEC_MBCTL p.val) 29 28 = 1 →
    ∃ t, exec (.attestReportDone p) s = .next t ∧ t.flag (SEC_MBCTL p.val) 31 = false ∧
      (∀ a, a ≠ SEC_MBCTL p.val → t.reg a = s.reg a) ∧
      ((t.fld (SEC_MBCTL p.val) 27 24 = 1 ∧ ∃ a bs, t.out = s.out ++ [.hostWrite p.val 0 a bs] ∧
          bs.take (s.keptReport p.val).length = s.keptReport p.val) ∨
        (t.fld (SEC_MBCTL p.val) 27 24 = 4 ∧ t.out = s.out))) ∧
  (∀ (w : Src) (d : BitVec 256) (s : State), s.holder w = true → s.good = true →
    let n := d.toNat / 2 ^ 224 % 16
    ∃ t, exec (.measurementExtend w d) s = .next t ∧ (∀ k, k ≠ n → t.measure k = s.measure k) ∧
      (10 ≤ n → sha256n (natLe 32 (s.measure n).toNat ++ natLe 32 d.toNat) ≠ 0 →
        t.measure n = sha256n (natLe 32 (s.measure n).toNat ++ natLe 32 d.toNat)) ∧ (n < 10 → t = s)) ∧
  (∀ (c : DebugClaim) (r : List Byte) (s : State), s.good = true →
    ∃ t, exec (.debugUnlock c r) s = .next t ∧
      (s.unlocks c r = true → t.fld SEC_STAT 27 26 = (match c with | .owner => 1 | .laronson => 2) ∧
        t.reg SEC_DBG = s.reg SEC_DBG ∧ t.mram = s.mram) ∧
      (s.unlocks c r = false → s.fld SEC_DBG 7 0 < 2 →
        t.fld SEC_DBG 7 0 = s.fld SEC_DBG 7 0 + 1 ∧ t.fld SEC_STAT 27 26 = s.fld SEC_STAT 27 26 ∧ t.mram = s.mram)) ∧
  (∀ (i : JtagIns) (s : State), s.good = true →
    ∃ t, exec (.jtagInstruction i) s = .next t ∧
      (if tapAlways i = true ∨ s.fld SEC_STAT 27 26 ≠ 0 then t.pins.jtag = i ∧ t.sec.extest = tapDrives i ∧
          t.fld GLB_PWR 31 30 = t.powerState
       else t = s))

/-- A ticket written whole into an empty slot with the expected stamp is latched, and a latched ticket is consumed into
the intake while it has room, advancing the stamp (R415, R416); a write of TLR_STAMP sets it and clears the masks
(R419). -/
def Obligations.TellerTakesTickets : Prop :=
  (∀ (w : Src) (l : Nat) (bytes : List Byte) (s : State), w.fn = 0 → l < 32 → bytes.length = 64 →
    let p := w.port.val
    let k := s.stampOf p l % 64
    (s.laneOf p l).slot k = TSlot.empty → leNat (bytes.drop 60) = s.stampOf p l →
    ∃ t, exec (.tellerSlotWrite w (4096 * l + 64 * k) bytes true) s = .next t ∧
      ((t.laneOf p l).slot k).latched = true ∧ ((t.laneOf p l).slot k).content = bytes ∧
      t.stampOf p l = s.stampOf p l ∧ t.regs = s.regs ∧ (t.port p).intake = (s.port p).intake) ∧
  (∀ (w : Src) (off : Nat) (bytes : List Byte) (s : State), s.good = true → off + bytes.length ≤ bar2Size w.fn.val →
    ∃ t, exec (.tellerSlotWrite w off bytes false) s = .next t ∧ t.ports = s.ports ∧
      (t.reg (HPT_CNT_INBAD w.port.val)).toNat = Nat.min ((s.reg (HPT_CNT_INBAD w.port.val)).toNat + 1) (2 ^ 64 - 1) ∧
      (∀ a, a ≠ HPT_CNT_INBAD w.port.val → t.reg a = s.reg a)) ∧
  (∀ (p : Port) (l : Fin 256) (s : State), s.good = true →
    let k := s.stampOf p.val l.val % 64
    ((s.laneOf p.val l.val).slot k).latched = true → (s.port p.val).intake.length < 4096 →
    (s.laneOf p.val l.val).backlog = [] →
    ∃ t, exec (.ticketConsume p l) s = .next t ∧
      (t.port p.val).intake = (s.port p.val).intake ++ [⟨((s.laneOf p.val l.val).slot k).content, p.val, l.val,
        BitVec.ofNat 32 (s.stampOf p.val l.val), s.serve.accepts⟩] ∧
      t.stampOf p.val l.val = (s.stampOf p.val l.val + 1) % 2 ^ 32 ∧ t.serve.accepts = s.serve.accepts + 1) ∧
  (∀ (w : Src) (l : Fin 256) (v : Word32) (s : State), s.good = true → s.mayLane w l.val = true →
    ∃ t, exec (.tellerStampWrite w l v) s = .next t ∧ t.stampOf w.port.val l.val = v.toNat ∧
      (t.laneOf w.port.val l.val).slots = [] ∧ t.flag (TLR_LSTAT w.port.val l.val) 31 = false ∧
      (∀ a, a ≠ TLR_STAMP w.port.val l.val → a ≠ TLR_LSTAT w.port.val l.val → t.reg a = s.reg a))

/-- Rings and windows (R420, R421): the tail moves up to the head and no further, the ring's addresses move only while it
is disabled and aligned, and a window entry takes each word unless it would overlap. MSI-X (R424): `mod_time` and an
unmasking send the message that waits, a masked vector only marks it pending. What a vector's mask is, is PCIe's (log
entry 60); reserved ring sizes are log entry 17. -/
def Obligations.RingsWindowsAndMessages : Prop :=
  ((∀ (w : Src) (l : Fin 256) (v : BitVec 16) (s : State), s.good = true → s.mayLane w l.val = true →
     (s.laneOf w.port.val l.val).backlog = [] →
     let p := w.port.val
     let n := s.ringSize p l.val
     let head := s.fld (TLR_RPTR p l.val) 15 0
     let old := s.fld (TLR_RPTR p l.val) 31 16
     ∃ t, exec (.ringTailWrite w l v) s = .next t ∧
       (if v.toNat < n ∧ (v.toNat + n - old % n) % n ≤ (head + n - old % n) % n then
          t.fld (TLR_RPTR p l.val) 31 16 = v.toNat ∧ t.fld (TLR_RPTR p l.val) 15 0 = head ∧
          (∀ a, a ≠ TLR_RPTR p l.val → t.reg a = s.reg a) ∧ t.out = s.out
        else t = s)) ∧
   (∀ (w : Src) (l : Fin 256) (v : Word64) (s : State), s.good = true → s.mayLane w l.val = true →
     s.flag (TLR_RCFG w.port.val l.val) 31 = false →
     ∃ t, exec (.ringConfigWrite w l 0 v) s = .next t ∧
       (t.reg (TLR_RBASE w.port.val l.val)).toNat = v.toNat / 64 * 64 ∧ t.ports = s.ports ∧
       (∀ a, a ≠ TLR_RBASE w.port.val l.val → t.reg a = s.reg a)) ∧
   (∀ (w : Src) (l : Fin 256) (v : Word64) (s : State), s.good = true → s.mayLane w l.val = true →
     s.flag (TLR_RCFG w.port.val l.val) 31 = false →
     ∃ t, exec (.ringConfigWrite w l 1 v) s = .next t ∧
       (t.reg (TLR_HADDR w.port.val l.val)).toNat = v.toNat / 8 * 8 ∧ t.ports = s.ports ∧
       (∀ a, a ≠ TLR_HADDR w.port.val l.val → t.reg a = s.reg a)) ∧
   (∀ (w : Src) (l : Fin 256) (v : Word64) (s : State), s.good = true → s.mayLane w l.val = true →
     s.flag (TLR_RCFG w.port.val l.val) 31 = false → nbits v.toNat 30 27 ≤ 10 → nbit v.toNat 31 = true →
     ∃ t, exec (.ringConfigWrite w l 2 v) s = .next t ∧ t.flag (TLR_RCFG w.port.val l.val) 31 = true ∧
       t.ringSize w.port.val l.val = 64 * 2 ^ nbits v.toNat 30 27 ∧ t.fld (TLR_RPTR w.port.val l.val) 15 0 = 0 ∧
       t.fld (TLR_RPTR w.port.val l.val) 31 16 = s.fld (TLR_RPTR w.port.val l.val) 31 16 ∧ t.ports = s.ports) ∧
   (∀ (w : Src) (n : Fin 64) (word : Fin 8) (v : Word32) (s : State), s.good = true → w.fn = 0 →
     let h := (s.window w.port.val n.val).patch word.val v.toNat
     ∃ t, exec (.hostWindowWrite w w.port n word v) s = .next t ∧
       (if ∃ e ∈ (s.port w.port.val).windows, e.1 ≠ n.val ∧ e.2.overlaps h = true then
          t.flag (HPT_LINK w.port.val) 29 = true ∧ t.ports = s.ports
        else (h ≠ HostWin.none → t.window w.port.val n.val = h) ∧ t.regs = s.regs))) ∧
  ((∀ (p : Port) (l : Fin 256) (s : State), 0 < (s.laneOf p.val l.val).unsaid → s.flag (TLR_RCFG p.val l.val) 31 = true →
     let fn := s.laneFn p.val l.val
     let v := s.fld (TLR_RCFG p.val l.val) 26 16
     ∃ t, exec (.msixModerationTimer p l) s = .next t ∧
       (look true (s.port p.val).masked (msixKey fn v) = false → t.out = s.out ++ [.msix p.val fn v]) ∧
       (look true (s.port p.val).masked (msixKey fn v) = true → t.out = s.out ∧
         look false (t.port p.val).msiPend (msixKey fn v) = true) ∧ t.regs = s.regs) ∧
   (∀ (p : Port) (fn : Fin 33) (v : Fin 2048) (s : State),
     look true (s.port p.val).masked (msixKey fn.val v.val) = true →
     ∃ t, exec (.msixUnmask p fn v) s = .next t ∧
       t.out = (if look false (s.port p.val).msiPend (msixKey fn.val v.val) then s.out ++ [.msix p.val fn.val v.val]
         else s.out) ∧ (t.port p.val).intake = (s.port p.val).intake))

/-- BAR4 (R411, R414): the Warrant holder's PF writes the Vault, and every byte outside the write reads as before; a PF
reads it, with EP and zeros for poison; what lies outside the Vault or in the Charter store answers no access. That an
access outside the Vault ends in a fault is the model's choice (log entry 17). -/
def Obligations.VaultApertureWritesAndReads : Prop :=
  (∀ (w : Src) (off : Nat) (bs : List Byte) (s : State), s.good = true → s.holder w = true →
    offVault (s.bar4Addr w.port.val off) bs.length = false →
    ∃ t, exec (.bar4Write w off bs true) s = .next t ∧ t.regs = s.regs ∧
      (∀ i, i < bs.length → some (t.byte (keyOf 0 (s.bar4Addr w.port.val off) + i)) = bs[i]?) ∧
      (∀ a, a < keyOf 0 (s.bar4Addr w.port.val off) ∨ keyOf 0 (s.bar4Addr w.port.val off) + bs.length ≤ a →
        t.byte a = s.byte a)) ∧
  (∀ (w : Src) (off : Nat) (bs : List Byte) (s : State), s.good = true → s.holder w = false →
    ∃ t, exec (.bar4Write w off bs true) s = .next t ∧ t.mem = s.mem ∧
      (t.reg (HPT_CNT_DENIED w.port.val)).toNat = Nat.min ((s.reg (HPT_CNT_DENIED w.port.val)).toNat + 1) (2 ^ 64 - 1) ∧
      (∀ a, a ≠ HPT_CNT_DENIED w.port.val → t.reg a = s.reg a)) ∧
  (∀ (w : Src) (off : Nat) (bs : List Byte) (s : State), s.holder w = true →
    offVault (s.bar4Addr w.port.val off) bs.length = true →
    exec (.bar4Write w off bs true) s = .fault .noSuchAddress) ∧
  (∀ (w : Src) (off len : Nat) (s : State), w.fn = 0 → offVault (s.bar4Addr w.port.val off) len = false →
    exec (.bar4Read w off len) s = .next { s with out := s.out ++ [.completion w.port.val
      (if s.bad (keyOf 0 (s.bar4Addr w.port.val off)) len then List.replicate len 0
       else s.read (keyOf 0 (s.bar4Addr w.port.val off)) len)
      (s.bad (keyOf 0 (s.bar4Addr w.port.val off)) len)] })

/-- A port's PERST#, its link and its functions (R419, R426, R427): PERST# resets the PCIe function and keeps the intake
and the stream keys, a link that comes up shows its width and rate, an FLR restarts the stamps of its own lanes. -/
def Obligations.PortResetsKeepTheIntake : Prop :=
  (∀ (p : Port) (s : State), s.good = true →
    ∃ t, exec (.perstAssert p) s = .next t ∧ (t.port p.val).perst = true ∧ (t.port p.val).windows = [] ∧
      (t.port p.val).lanes = [] ∧ (t.port p.val).intake = (s.port p.val).intake ∧ (t.port p.val).ide = (s.port p.val).ide ∧
      t.flag (HPT_LINK p.val) 31 = false ∧ t.fld (HPT_LINK p.val) 13 8 = 0 ∧
      (∀ l, l < 256 → t.reg (TLR_STAMP p.val l) = 0) ∧ t.seqs = s.seqs) ∧
  (∀ (p : Port) (s : State), exec (.perstRelease p) s =
    .next { s with ports := put PortState.clear s.ports p.val { s.port p.val with perst := false } }) ∧
  (∀ (p : Port) (s : State), s.good = true → s.portChannels p.val = [] →
    ∃ t, exec (.pcieLinkDown p) s = .next t ∧ t.flag (HPT_LINK p.val) 31 = false ∧ t.fld (HPT_LINK p.val) 7 0 = 0 ∧
      (∀ a, a ≠ HPT_LINK p.val → t.reg a = s.reg a) ∧ (t.port p.val).intake = (s.port p.val).intake ∧
      (t.port p.val).lanes = (s.port p.val).lanes ∧ (t.port p.val).windows = (s.port p.val).windows ∧
      (t.port p.val).downAt.isSome = true) ∧
  (∀ (p : Port) (gen width : Fin 6) (s : State), s.good = true → (s.port p.val).perst = false →
    s.flag (HPT_LINK p.val) 31 = false → 3 ≤ s.rowsOf p.val → (s.port p.val).lanes = [] →
    ∃ t, exec (.pcieLinkUp p gen width) s = .next t ∧ t.flag (HPT_LINK p.val) 31 = true ∧
      t.fld (HPT_LINK p.val) 7 4 = width.val ∧ t.fld (HPT_LINK p.val) 3 0 = gen.val ∧
      (∀ a, a ≠ HPT_LINK p.val → t.reg a = s.reg a) ∧ (t.port p.val).intake = (s.port p.val).intake ∧ t.out = s.out) ∧
  (∀ (p : Port) (fn : Fin 33) (s : State), s.good = true →
    ∃ t, exec (.functionLevelReset p fn) s = .next t ∧
      (∀ l, l < 256 → t.stampOf p.val l = (if s.laneFn p.val l = fn.val then 0 else s.stampOf p.val l)) ∧
      (∀ l, l < 256 → s.laneFn p.val l = fn.val → (t.laneOf p.val l).slots = []) ∧
      (t.port p.val).intake = (s.port p.val).intake) ∧
  (∀ (p : Port) (n : Fin 4) (base size : Nat) (s : State), s.good = true → s.identity = true →
    ∃ t, exec (.ideStreamSetup p n base size true) s = .next t ∧ t.flag (HPT_LINK p.val) 30 = true ∧
      (∃ key, look none (t.port p.val).ide n.val = some ⟨base, size, key⟩) ∧
      (t.port p.val).intake = (s.port p.val).intake ∧ (∀ a, a ≠ HPT_LINK p.val → t.reg a = s.reg a))

/-- Register writes (R8, R9): an access outside the BAR or not aligned reaches nothing, a write to an unassigned offset is
discarded, and a 32-bit write of a PF to FOL_CTRL sets its bit. The two faults are the model's choice (log entry 61). -/
def Obligations.RegisterWritesReachTheirRegister : Prop :=
  (∀ (w : Src) (a : Nat) (wide : Bool) (v : Word64) (s : State), s.bar0Size w < a + (if wide then 8 else 4) →
    exec (.registerWrite w a wide v) s = .fault .noSuchAddress) ∧
  (∀ (w : Src) (a : Nat) (wide : Bool) (v : Word64) (s : State), a + (if wide then 8 else 4) ≤ s.bar0Size w →
    a % (if wide then 8 else 4) ≠ 0 → exec (.registerWrite w a wide v) s = .fault .misaligned) ∧
  (∀ (w : Src) (d : Die) (v : Word64) (s : State), s.good = true → w.fn = 0 →
    ∃ t, exec (.registerWrite w (FOL_CTRL d.val) false v) s = .next t ∧
      t.fld (FOL_CTRL d.val) 0 0 = v.toNat % 2 ∧ (∀ a, a ≠ FOL_CTRL d.val → t.reg a = s.reg a) ∧ t.mem = s.mem) ∧
  (∀ (w : Src) (v : Word64) (s : State), w.fn = 0 → exec (.registerWrite w 0x3F00000 false v) s = .next s)

/-- A filled entry goes to the tail of its queue (R211, R230, R233, R234): a full queue makes the Clerk hold it, and an
order the queue refuses is recorded with its reason and does not enter. A live predicate skips the head whole, with
the signals it would have sent (R217); MARK orders are not skipped. A command whose own conditions do not hold changes
nothing: the model's choice (log entry 2). -/
def Obligations.QueuesTakeAndSkipEntries : Prop :=
  (∀ (d : Die) (n k row : Nat) (u : EngUnit) (s s' : State), s.good = true → EngUnit.ok u = true → n < 256 → k < 65536 →
     row < wholeBatch →
     let te := s.read (till d.val (32 * s.progHdr n d.val 7 4 + 32 * k)) 32
     let f := fieldB te 19 18
     let dec := nbit (fieldB te 17 16) 11
     let count := if f % 4096 = 0 then s.param n d.val (byteAt te 20) else f % 4096
     let raw : BitVec 128 := BitVec.ofNat 128 (fieldB te 15 0)
     let q := s.queueOf u dec
     k < s.progHdr n d.val 3 2 → (nbit f 12 = true → row < (s.rowsIn n).length) →
     s.targetUnit d (fieldB te 17 16) = some (u, s') → 1 ≤ count → count ≤ 4095 → byteAt te 28 < 128 → byteAt te 31 < 128 →
     (256 ≤ q.entries.length → exec (.queueEntryEnqueue d n k row) s = .next s) ∧
     (q.entries.length < 256 → s'.refusal u n raw = none →
       ∃ t x, exec (.queueEntryEnqueue d n k row) s = .next t ∧
         t.queues = (s.setQueue u dec { q with entries := q.entries ++ [x] }).queues ∧
         x.order = raw ∧ x.count = count ∧ x.prog = n ∧ x.index = k ∧ x.row = (if nbit f 12 then row else wholeBatch) ∧
         onlyParts [.queues, .serve] s t) ∧
     (∀ r, q.entries.length < 256 → s'.refusal u n raw = some r →
       ∃ t, exec (.queueEntryEnqueue d n k row) s = .next t ∧ t.queues = s.queues ∧
         t.fld (ENG_QFAULT u) 31 28 = ordClass raw ∧ t.fld (ENG_QFAULT u) 23 20 = r ∧
         t.flag (ENG_QFAULT u) 19 = dec ∧ counted (ENG_CNT_FAULT u) 1 s t ∧ t.log.serial = s.log.serial + 1 ∧
         onlyRegs (ENG_QFAULT u :: ENG_CNT_FAULT u :: recordRegs) s t)) ∧
  (∀ (u : EngUnit) (dec : Bool) (e : QEntry) (es : List QEntry) (s : State), s.good = true →
     let q := s.queueOf u dec
     q.entries = e :: es → 0 < q.skip → q.reps = 0 → q.hold = false → q.arrive = none →
     (ordClass e.order ≠ 9 →
       ∃ t, exec (.skipEntry u dec) s = .next t ∧
         t.queues = (s.setQueue u dec { q with entries := es, skip := q.skip - 1 }).queues ∧
         counted (ENG_CNT_SKIP u) 1 s t ∧ onlyRegs [ENG_CNT_SKIP u] s t ∧ onlyParts [.regs, .queues, .signals] s t ∧
         (ordSigInc e.order = 0 ∨ e.count = 0 → t.signals = s.signals) ∧
         (ordSigInc e.order ≠ 0 → e.count = 1 → s.everyDie u e.prog e.order = false →
           t.signals = s.signals ++ [⟨ordSigTally e.order, ordSigInc e.order, none, u, dec⟩])) ∧
     (ordClass e.order = 9 → exec (.skipEntry u dec) s = .next s))

/-- INC and DEC change a counter within its bounds, and leave every other Tally alone; one that would go below 0 or past
0x7FFFFFFF, or that is no counter, changes no value and is a misuse (R245 to R247). ARRIVE stays at its queue's head
until its round completes; its arrival goes out when it completes and lands at the barrier, in the current round or
the next; the last arrival of a round starts the next (R250, R251, R237, R239). A command whose own conditions do not
hold changes nothing: the model's choice (log entry 2). -/
def Obligations.CountersAndBarriers : Prop :=
  (∀ (i : Instr) (up : Bool) (u : EngUnit) (dec : Bool) (e : QEntry) (s : State),
     (i = .tallyInc u dec ∧ up = true ∧ s.starts u dec 6 0 e = true) ∨
       (i = .tallyDec u dec ∧ up = false ∧ s.starts u dec 6 1 e = true) →
     let t0 := ordBody e.order 55 42
     let v := ordBody e.order 41 26
     let y := s.tallyOf t0
     let new : Int := if up then y.value + v else y.value - v
     (y.kind = tallyCounter → 0 ≤ new → new ≤ 0x7FFFFFFF →
       ∃ t, exec i s = .next t ∧ issued u dec e true s t ∧ t.tallies = (s.setTally t0 { y with value := new }).tallies ∧
         onlyParts [.regs, .queues, .tallies] s t ∧ onlyRegs [issueCounter u dec] s t) ∧
     (y.kind ≠ tallyCounter ∨ (up = false ∧ new < 0) ∨ (up = true ∧ 0x7FFFFFFF < new) → t0 < 16384 →
       ∃ t, exec i s = .next t ∧ t.tallies = (s.setTally t0 { y with misused := true }).tallies ∧
         t.fld (TAL_LASTMIS (t0 / 4096)) 13 0 = t0 ∧ t.fld (TAL_LASTMIS (t0 / 4096)) 31 28 =
           (if y.kind = 0 then misUnused else if y.kind ≠ tallyCounter then misKind else if up then misPast else misBelow) ∧
         counted (TAL_CNT_MISUSE (t0 / 4096)) 1 s t ∧ counted (ENG_CNT_FAULT u) 1 s t ∧
         t.fld (ENG_QFAULT u) 23 20 = reasonTally)) ∧
  ((∀ (u : EngUnit) (dec : Bool) (e : QEntry) (s : State), s.starts u dec 6 2 e = true →
     ∃ t, exec (.tallyArrive u dec) s = .next t ∧
       issuedTo u dec e true { s.queueOf u dec with
         reps := 1, arrive := some (ordBody e.order 55 42, ordBody e.order 25 18) } s t ∧
       onlyParts [.regs, .queues] s t ∧ onlyRegs [issueCounter u dec] s t) ∧
   (∀ (t0 : TallyId) (s : State), s.good = true →
     let y := s.tallyOf t0.val
     (y.kind = tallyBarrier → 1 ≤ y.parts → y.value = y.parts → s.queues = [] →
       ∃ t, exec (.barrierNextRound t0) s = .next t ∧
         t.tallies = (s.setTally t0.val { y with round := (y.round + 1) % 256, value := y.next, next := 0 }).tallies ∧
         counted (TAL_CNT_ROUNDS (t0.val / 4096)) 1 s t ∧ onlyRegs [TAL_CNT_ROUNDS (t0.val / 4096)] s t ∧
         onlyParts [.regs, .tallies] s t) ∧
     (y.kind ≠ tallyBarrier ∨ y.value ≠ y.parts → exec (.barrierNextRound t0) s = .next s)) ∧
   (∀ (t0 : TallyId) (x : Signal) (rest : List Signal) (s : State), s.good = true → s.signals = x :: rest →
     x.tally = t0.val → x.round = none →
     let y := s.tallyOf t0.val
     y.kind = tallyCounter → y.value + x.inc ≤ 0x7FFFFFFF →
       ∃ t, exec (.signalLand t0) s = .next t ∧ t.signals = rest ∧
         t.tallies = (s.setTally t0.val { y with value := y.value + x.inc }).tallies ∧
         onlyParts [.signals, .tallies] s t) ∧
   (∀ (t0 : TallyId) (x : Signal) (rest : List Signal) (e : QEntry) (es : List QEntry) (r : Nat) (s : State),
     s.signals = x :: rest → x.tally = t0.val → x.round = some r → (s.queueOf x.src x.decode).entries = e :: es →
     let y := s.tallyOf t0.val
     y.kind = tallyBarrier → y.round = r → y.value + 1 < y.parts →
       ∃ t, exec (.signalLand t0) s = .next t ∧ t.signals = rest ∧
         t.tallies = (s.setTally t0.val { y with value := y.value + 1 }).tallies ∧
         t.queues = (s.setQueue x.src x.decode { s.queueOf x.src x.decode with arrive := some (t0.val, r + 256) }).queues ∧
         onlyParts [.signals, .tallies, .queues] s t))

/-- WAIT and FENCE do nothing but issue; STEP holds its queue until the posting Clerk clears the hold, and ends its skip;
TRACE writes 16 bytes to the status array and nothing else (R228, R235). -/
def Obligations.MarksActOnTheirQueue : Prop :=
  (∀ (i : Instr) (u : EngUnit) (dec : Bool) (e : QEntry) (s : State),
    (i = .tallyWait u dec ∧ s.starts u dec 6 3 e = true) ∨ (i = .markFence u dec ∧ s.starts u dec 9 1 e = true) →
    ∃ t, exec i s = .next t ∧ issued u dec e true s t ∧ onlyParts [.regs, .queues] s t ∧
      onlyRegs [issueCounter u dec] s t) ∧
  (∀ (u : EngUnit) (dec : Bool) (e : QEntry) (s : State), s.starts u dec 9 0 e = true →
    ∃ t, exec (.markStep u dec) s = .next t ∧
      issuedTo u dec e true { (s.queueOf u dec).rest with hold := true, stepped := true, skip := 0 } s t ∧
      t.flag (ENG_QCTL u) 0 = true ∧ (∀ k, 0 < k → k < 64 → t.flag (ENG_QCTL u) k = s.flag (ENG_QCTL u) k) ∧
      onlyParts [.regs, .queues] s t ∧ onlyRegs [issueCounter u dec, ENG_QCTL u] s t) ∧
  (∀ (u : EngUnit) (dec : Bool) (e : QEntry) (s : State), s.starts u dec 9 2 e = true →
    let a := s.statusAt e.prog u.die.val (ordBody e.order 39 28)
    ∃ t, exec (.markTrace u dec) s = .next t ∧ issued u dec e true s t ∧
      t.read a 8 = natLe 8 (s.counter (u.die.val / 2)).toNat ∧ t.read (a + 8) 2 = natLe 2 (ordBody e.order 55 40) ∧
      onlyBytes a 16 s t ∧ onlyParts [.regs, .queues, .mem, .poison] s t ∧ onlyRegs [issueCounter u dec] s t)

/-- The oldest order of a queue whose results are written completes, and only then does its signal go out (R237, R239); an
ARRIVE sends its arrival. The watchdog ends the wait of a head that waits on its Tally (R253): the order is recorded
with its reason and leaves its queue. A head that waits on nothing is left alone. A command whose own conditions do
not hold changes nothing: the model's choice (log entry 2). -/
def Obligations.CompletionAndWatchdog : Prop :=
  (∀ (u : EngUnit) (dec : Bool) (f : InFlight) (s : State), s.good = true →
     (s.eng u).flying.find? (fun f => f.decode == dec && f.ready) = some f → EngUnit.ok u = true →
     (ordClass f.order ≠ 6 → ordSigInc f.order ≠ 0 → s.everyDie u f.entry.prog f.order = false →
       ∃ t, exec (.orderComplete u dec) s = .next t ∧
         t.queues = (s.setEng u { s.eng u with flying := (s.eng u).flying.erase f }).queues ∧
         t.signals = s.signals ++ [⟨ordSigTally f.order, ordSigInc f.order, none, u, dec⟩] ∧
         onlyParts [.regs, .queues, .signals] s t) ∧
     (ordClass f.order = 6 → ordOp f.order = 2 →
       ∃ t, exec (.orderComplete u dec) s = .next t ∧
         t.queues = (s.setEng u { s.eng u with flying := (s.eng u).flying.erase f }).queues ∧
         t.signals = s.signals ++ [⟨ordBody f.order 55 42, 0, some (ordBody f.order 25 18), u, dec⟩] ∧
         onlyParts [.queues, .signals] s t)) ∧
  (∀ (u : EngUnit) (dec : Bool) (e : QEntry) (es : List QEntry) (s : State), s.good = true → EngUnit.ok u = true →
     let q := s.queueOf u dec
     q.entries = e :: es → q.arrive = none →
     (s.waiting u q e.order = true → q.skip = 0 → q.hold = false →
       ∃ t, exec (.watchdogExpiry u dec) s = .next t ∧ t.queues = (s.setQueue u dec { q with entries := es }).queues ∧
         t.fld (ENG_QFAULT u) 31 28 = ordClass e.order ∧ t.fld (ENG_QFAULT u) 23 20 = reasonWatchdog ∧
         counted (TAL_CNT_WDOG u.die.val) 1 s t ∧ counted (ENG_CNT_FAULT u) 1 s t ∧
         t.log.serial = s.log.serial + 1 ∧ t.tallies = s.tallies) ∧
     (s.waiting u q e.order = false → exec (.watchdogExpiry u dec) s = .next s))

/-- A strike whose bank, epoch and operand are as its order says begins one slice on its tile, with nothing struck yet,
and clears its set unless it accumulates; a wrong epoch, or a bank that its kind of strike may not name, strikes
nothing and is recorded (R113, R120, R121, R223, R235). -/
def Obligations.StrikesBeginTheirSlices : Prop :=
  ∀ (i : Instr) (kind : SliceKind) (u : EngUnit) (dec : Bool) (e : QEntry) (s : State),
    (i = .strikeSlice u dec ∧ kind = .order ∧ s.starts u dec 0 0 e = true) ∨
      (i = .strikeVerify u dec ∧ kind = .verify ∧ s.starts u dec 0 1 e = true) ∨
      (i = .tstrikeSlice u dec ∧ kind = .transposed ∧ s.starts u dec 1 0 e = true) →
    let j := firstJob u dec e
    let t0 := strikeTile u e.order
    let d := s.dirOf t0
    let bank := nbit (j.body 51 51) 0
    let o := s.opnd j (j.body 33 26)
    let good := d.epoch bank = BitVec.ofNat 16 (j.body 49 34) ∧ bankStrikes (kind == .verify) (d.state bank) = true
    s.mateOf t0 = none →
    (good → inTill (s.opGranule j o (j.body 25 14)) o.fmt o.len = true → s.surplusBad t0 = false →
      ∃ t x, exec i s = .next t ∧ issued u dec e false s t ∧
        t.tiles = (s.setTile t0 { s.tile t0 with slice := some x, partnerAcc := none }).tiles ∧
        x.kind = kind ∧ x.decode = dec ∧ x.bank = bank ∧ x.set = j.body 50 50 ∧ x.row = e.row ∧ x.running = none ∧
        x.slots = [] ∧ x.acc = [] ∧ x.paired = false ∧
        (t.assay = if ordAcc e.order = true ∧ (s.resultSet u (j.body 50 50)).isOpen = true then s.assay
          else (s.setResultSet u (j.body 50 50)
            { ResultSet.free with isOpen := true, decode := dec, tile := t0 }).assay) ∧
        onlyParts [.regs, .mem, .poison, .tiles, .assay, .queues] s t) ∧
    (¬ good →
      ∃ t, exec i s = .next t ∧ t.tiles = s.tiles ∧ t.assay = s.assay ∧ t.fld (ENG_QFAULT u) 23 20 = reasonBank ∧
        counted (ENG_CNT_FAULT u) 1 s t)

/-- The strikes of a plane (R105, R106): a plane with no active row is skipped; every other is cut into runs of at most
`b` active rows, which together are all of them, in order. A conversion's code lies within R101's bounds of the exact
sum: within 1.5 LSB, 3 LSB while the group is calibrating, and within full scale; sums to 254 LSB never over-range and
sums from 256 LSB on always do. Between its bounds a code is a free value (log entry 5). -/
def Obligations.PlanesAndCodes : Prop :=
  (∀ (b n rows : Nat) (struck : List Int) (seg : Nat × Nat) (k : Nat), 0 < b → k < n →
     let lines := planeLines n k (64 * seg.1) (Nat.min (64 * (seg.1 + seg.2)) rows) id struck
     let own := (planForward b n rows struck seg ⟨[], 0, 0⟩).strikes.filter (fun p => p.plane == k)
     own.flatMap (fun p => p.lines) = lines ∧ (∀ p ∈ own, p.lines ≠ [] ∧ p.lines.length ≤ b ∧ p.level = 0) ∧
     own.length = ceilDiv lines.length b) ∧
  (∀ (s : State) (d : DirEntry) (sum : Int) (wide : Bool),
     let r := s.code d sum wide
     (sum.natAbs * d.lsbDen ≤ 254 * d.lsbNum → r.2.1 = false) ∧
     (256 * d.lsbNum ≤ sum.natAbs * d.lsbDen → r.2.1 = true) ∧
     (r.2.1 = true → r.1 = if sum < 0 then -255 else 255) ∧
     (r.2.1 = false → -255 ≤ r.1 ∧ r.1 ≤ 255 ∧
       (2 * r.1 * d.lsbNum - 2 * sum * d.lsbDen).natAbs ≤ (if wide then 6 else 3) * d.lsbNum))

/-- The governor begins strikes only below its die's ceiling (R116, R117, R119), and a tile that alone asks for an order's
strike, with room left, begins it. The conversions of what runs on a tile end (R107): the tile is idle again, and what
over-ranged waits as slots of two halves one re-strike level up. A command whose own conditions do not hold changes
nothing: the model's choice (log entry 2). -/
def Obligations.GovernorAndOverRange : Prop :=
  ((∀ (m : MintDie) (s : State), ∃ t, exec (.governorGrant m) s = .next t ∧
     t.occupancy m.val ≤ Nat.max (s.occupancy m.val) (s.ceiling m.val) ∧ onlyParts [.regs, .tiles, .gov] s t) ∧
   (∀ (m : MintDie) (t0 : Nat) (tile : Tile) (x : Slice) (p : Part) (rest : List Part) (s : State),
     s.tiles = [(t0, tile)] → tileMint t0 = m.val → tile.slice = some x → x.running = none → x.slots = [] →
     x.strikes = p :: rest → x.kind = .order → s.groupStrikes t0 = true → 0 < s.ceiling m.val →
     ∃ t y, exec (.governorGrant m) s = .next t ∧ (t.tile t0).slice = some y ∧ y.running = some [p] ∧
       y.strikes = rest ∧ (t.tile t0).lastBank = some x.bank)) ∧
  ((∀ (t0 : TileId) (x : Slice) (ps : List Part) (s : State), (s.tile t0.val).slice = some x → x.running = some ps →
     ∃ t y, exec (.strikeConvertEnd t0) s = .next t ∧ (t.tile t0.val).slice = some y ∧ y.running = none ∧
       y.strikes = x.strikes ∧ y.bank = x.bank ∧ y.set = x.set ∧
       (∀ sl ∈ y.slots, sl ∈ x.slots ∨ ∃ p ∈ ps, ∃ cols, p.level < 3 ∧ 1 < p.lines.length ∧
         sl = [{ p with level := p.level + 1, lines := p.lines.take ((p.lines.length + 1) / 2), cols := cols },
               { p with level := p.level + 1, lines := p.lines.drop ((p.lines.length + 1) / 2), cols := cols }])) ∧
   (∀ (t0 : TileId) (s : State), (s.tile t0.val).slice = none → exec (.strikeConvertEnd t0) s = .next s))

/-- A slice that has struck all it had to enters its set (R112, R142, R166): the status gathers its flags, a poisoned
slice poisons every lane it has (R165), the tile is free and its order's results are written. Mirrored accumulators
meet (R164, R370): the partner is free, the primary keeps what it delivered, a permanent primary takes it for its own,
and otherwise the columns apart by more than both bounds become digital. A command whose own conditions do not hold
changes nothing: the model's choice (log entry 2). -/
def Obligations.SliceEndsAndMirrors : Prop :=
  (∀ (t0 : TileId) (x : Slice) (s : State), (s.tile t0.val).slice = some x →
     x.kind = .order ∨ x.kind = .verify ∨ x.kind = .transposed → x.paired = false →
     let e := tileEngine t0.val
     let old := s.resultSet e x.set
     (x.ended = true →
       ∃ t r, exec (.sliceComplete t0) s = .next t ∧ t.assay = (s.setResultSet e x.set r).assay ∧
         t.tiles = (s.setTile t0.val { s.tile t0.val with slice := none, partnerAcc := none }).tiles ∧
         r.isOpen = old.isOpen ∧ r.decode = old.decode ∧
         (∀ k, k < 4 → r.status.getLsbD k = (old.status.getLsbD k ||
           (if k = 0 then x.stale else if k = 1 then !x.sat.isEmpty else if k = 2 then x.split else x.mirrorMiss))) ∧
         (x.poisoned = true → ∀ n, n < (if x.kind = .transposed then (s.dirOf t0.val).rows else (s.dirOf t0.val).outputs) →
           (look Hoard.zero r.lanes n).poison = true) ∧
         (∀ f, s.strikeOrder t0.val x = some f → ∃ g ∈ (t.eng e).flying, g.order = f.order ∧ g.ready = true)) ∧
     (x.ended = false → exec (.sliceComplete t0) s = .next s)) ∧
  (∀ (t0 : TileId) (m : Nat) (x y : Slice) (s : State), s.mateOf t0.val = some m → m ≠ t0.val →
     (s.tile t0.val).slice = some x → (s.tile m).slice = some y → (s.tile t0.val).partnerAcc = none →
     (x.paired = true → x.ended = true → y.kind = .mirror → y.ended = true →
       ∃ t z, exec (.mirrorAccumulators t0) s = .next t ∧ (t.tile t0.val).slice = some z ∧
         (t.tile t0.val).partnerAcc = some (y.acc, y.weight) ∧
         (∀ n, n ≠ m → n ≠ t0.val → t.tile n = s.tile n) ∧
         (s.permanent t0.val = true → z.acc = y.acc ∧ z.weight = y.weight ∧ z.stale = (x.stale || y.stale)) ∧
         (s.permanent t0.val = false → z.acc = x.acc ∧
           ∀ c, c ∈ z.digital ↔ c ∈ x.digital ∨
             (c ∈ convertedLines (s.dirOf t0.val) (x.kind == .transposed) ∧ c ∉ x.sat ∧ c ∉ y.sat ∧ c ∉ x.digital ∧
               mirrorApart x y c = true))) ∧
     (x.paired = false ∨ x.ended = false → exec (.mirrorAccumulators t0) s = .next s))

/-- A spot assay takes a selected strike once (R160): it is counted and the selection gone; with no conversion of a column
of the set it does nothing else. A burst with no strike left ends (R159). One column of a set (R160, R161, R163): the
first conversion whose residual exceeds its bound makes the column digital, is counted and named in ASY_LASTFAIL; else
nothing of the slice changes. A command whose own conditions do not hold changes nothing: the model's choice (log
entry 2). How a residual is rounded is the model's choice (log entry 38). -/
def Obligations.SpotAssays : Prop :=
  ((∀ (t0 : TileId) (x : Slice) (s : State), s.good = true → (s.tile t0.val).slice = some x → x.spot = true →
     x.running = none → x.slots = [] →
     ∃ t y, exec (.spotAssay t0) s = .next t ∧ counted (ASY_CNT_SPOT (tileDie t0.val) (tileUnit t0.val)) 1 s t ∧
       (t.tile t0.val).slice = some y ∧ y.spot = false ∧ y.convs = [] ∧ y.acc = x.acc ∧ (∀ c ∈ x.digital, c ∈ y.digital) ∧
       (x.convs = [] → y.digital = x.digital ∧ onlyParts [.regs, .tiles] s t)) ∧
   (∀ (t0 : TileId) (s : State),
     ((s.tile t0.val).burst = 1 → ∃ t, exec (.spotBurstEnd t0) s = .next t ∧
       t.tiles = (s.setTile t0.val { s.tile t0.val with burst := 0 }).tiles ∧ onlyParts [.tiles] s t) ∧
     ((s.tile t0.val).burst ≠ 1 → exec (.spotBurstEnd t0) s = .next s))) ∧
  (∀ (s : State) (t0 m : Nat) (x : Slice), s.good = true → t0 < 32768 →
     let d := s.dirOf t0
     let c := s.setPhase t0 + 128 * m
     let r := s.spotColumn t0 x m
     (d.colsUsed ≤ c → r = (s, x)) ∧
     (c < d.colsUsed → (∃ v ∈ x.convs, v.col = c ∧ v.past = false ∧ spotFails d x.stale (s.spotResid t0 x m v).2 = true) →
       c ∈ r.2.digital ∧ counted (ASY_CNT_SPOTFAIL (tileDie t0) (tileUnit t0)) 1 s r.1 ∧
       r.1.fld (ASY_LASTFAIL (tileDie t0) (tileUnit t0)) 26 23 = tileSub t0 ∧
       r.1.fld (ASY_LASTFAIL (tileDie t0) (tileUnit t0)) 22 13 = c) ∧
     (c < d.colsUsed → (∀ v ∈ x.convs, v.col = c → v.past = false → spotFails d x.stale (s.spotResid t0 x m v).2 = false) →
       r.2 = x ∧ r.1.reg (ASY_LASTFAIL (tileDie t0) (tileUnit t0)) = s.reg (ASY_LASTFAIL (tileDie t0) (tileUnit t0))))

/-- Assay sets (R157, R158): at a phase boundary the phase moves on and the pairs are gone; a set that has been read from
the Live bank is valid where its checksum holds, and otherwise comes from the master plane with a record. A command
whose own conditions do not hold changes nothing: the model's choice (log entry 2). -/
def Obligations.AssaySetsAreChecked : Prop :=
  (∀ s : State, s.now.toNat / 125000000 = s.cal.window → exec .phaseBoundary s = .next s) ∧
  (∀ s : State, s.now.toNat / 125000000 ≠ s.cal.window → ∃ t, exec .phaseBoundary s = .next t ∧
    t.cal.window = s.now.toNat / 125000000 ∧ t.cal.ring = []) ∧
  (∀ (t0 : TileId) (k : Bank) (s : State), (s.dirOf t0.val).live = some k → s.setState t0.val = 1 →
    let own := setBytes (s.soundLevel t0.val k (s.surplusOf t0.val k)) (s.setPhase t0.val)
    ∃ t, exec (.assaySetLoaded t0) s = .next t ∧
      (if (crc32c own).toNat = s.setCrc t0.val k (s.setPhase t0.val) then
         t.read (s.auxAt t0.val 0x1400) 4096 = own ∧ t.setState t0.val = 0 ∧ t.log = s.log
       else t.read (s.auxAt t0.val 0x1400) 4096 = setBytes (s.levelAt (s.masterAt t0.val)) (s.setPhase t0.val) ∧
         t.setState t0.val = 2 ∧ t.log.serial = s.log.serial + 1)) ∧
  (∀ (t0 : TileId) (s : State), (s.dirOf t0.val).live = none ∨ s.setState t0.val ≠ 1 →
    exec (.assaySetLoaded t0) s = .next s)

/-- Program commands (R120 to R123): a command that is taken alone starts, and its bank is Programming; one behind others
waits; one for a bank that serves, or beside a bank that programs, is refused with a record and nothing else. A row
that has been programmed holds its plane's levels (R124, R125): rows 0 to 1,022 only advance the controller; the last
makes the bank Programmed with its command's epoch, signals its Tally and takes the next command. A verified bank
(R316): a pass makes a Programmed bank Verified, a failure outside a Load makes it Failed with a record, and a bank in
any other state is left alone. A command whose own conditions do not hold changes nothing: the model's choice (log
entry 2). The status of a refused command is log entry 32. -/
def Obligations.ProgrammingLeavesItsLevels : Prop :=
  (∀ (d : Die) (u : Fin 512) (c : ProgCmd) (s : State), s.mram.sweepPending = false →
     let t0 := tileAt d.val u.val c.tile.val
     let g := s.groupOf d.val u.val
     (s.programRefused t0 c.bank g.queue = false → g.queue = [] →
       ∃ t, exec (.programCommand d u c) s = .next t ∧
         t.dir = (s.setDir t0 ((s.dirOf t0).setState c.bank bankProgramming)).dir ∧ t.groupOf d.val u.val = ⟨[c], 0, 0, 0⟩ ∧
         onlyParts [.mem, .poison, .dir, .groups] s t) ∧
     (s.programRefused t0 c.bank g.queue = false → g.queue ≠ [] → g.queue.length < 16 →
       exec (.programCommand d u c) s = .next (s.setGroup d.val u.val { g with queue := g.queue ++ [c] })) ∧
     (s.programRefused t0 c.bank g.queue = true →
       ∃ t, exec (.programCommand d u c) s = .next t ∧ t.dir = s.dir ∧ t.groups = s.groups ∧
         t.log.serial = s.log.serial + 1 ∧ onlyParts recordParts s t)) ∧
  (∀ (d : Die) (u : Fin 512) (c : ProgCmd) (rest : List ProgCmd) (extra : Nat) (s : State), s.good = true →
     let t0 := tileAt d.val u.val c.tile.val
     let g := s.groupOf d.val u.val
     let src := s.planeRow t0 c g.row
     let want := s.read src 512
     let dst := planeBase t0 c.bank + 512 * g.row
     g.queue = c :: rest → s.strikeRuns d.val = true → s.mram.sweepPending = false → s.bad src 512 = false →
     (∀ b ∈ want, b.toNat % 16 ≠ 8 ∧ b.toNat / 16 ≠ 8) → (s.surplusWords t0).length ≤ s.surplusCap t0 → extra < 8 →
     (g.row < 1023 →
       ∃ t, exec (.programRowDone d u extra []) s = .next t ∧ t.read dst 512 = want ∧ onlyBytes dst 512 s t ∧
         t.groupOf d.val u.val = { g with row := g.row + 1, extra := g.extra + extra } ∧ t.dir = s.dir ∧
         counted (MGC_CNT_PROGROW d.val u.val) 1 s t ∧ counted (MGC_CNT_VERIFY d.val u.val) extra s t ∧
         onlyParts [.regs, .mem, .poison, .groups] s t) ∧
     (g.row = 1023 → rest = [] → c.tally = none →
       ∃ t, exec (.programRowDone d u extra []) s = .next t ∧ t.read dst 512 = want ∧ onlyBytes dst 512 s t ∧
         t.dir = (s.setDir t0 (((s.dirOf t0).setState c.bank bankProgrammed).setEpoch c.bank c.epoch)).dir ∧
         t.tallies = s.tallies ∧ onlyParts [.regs, .mem, .poison, .groups, .dir, .mram] s t)) ∧
  (∀ (t0 : TileId) (k : Bank) (s : State),
     let d := s.dirOf t0.val
     (d.state k ≠ bankProgrammed → ∀ p, exec (.bankVerify t0 k p) s = .next s) ∧
     (d.state k = bankProgrammed → s.epochs.load = none →
       exec (.bankVerify t0 k true) s = .next (s.setDir t0.val (d.setState k bankVerified)) ∧
       ∃ t, exec (.bankVerify t0 k false) s = .next t ∧ t.dir = (s.setDir t0.val (d.setState k bankFailed)).dir ∧
         t.log.serial = s.log.serial + 1 ∧ t.epochs = s.epochs))

/-- Calibration is started only by its rules (R345, R346): the Warrant holder's write marks the group calibrating with
reason 5, bench calibration begins where it is allowed, and its end leaves the tile. An accepted fit writes its trim
word and counts a generation; a rejected fit leaves the word as it is (R348, R349). A command whose own conditions do
not hold changes nothing: the model's choice (log entry 2). -/
def Obligations.CalibrationAndFits : Prop :=
  ((∀ (w : Src) (d : Die) (u : Fin 512) (s : State), s.good = true →
     (s.holder w = true → ∃ t, exec (.calStartWrite w d u) s = .next t ∧ t.flag (MGC_STAT d.val u.val) 31 = true ∧
       t.fld (MGC_CAL d.val u.val) 19 16 = 5 ∧ onlyRegs [MGC_STAT d.val u.val, MGC_CAL d.val u.val] s t ∧
       onlyParts [.regs, .mem, .poison, .cal] s t) ∧
     (s.holder w = false → exec (.calStartWrite w d u) s = .next s)) ∧
   (∀ (t0 : TileId) (k : Bank) (s : State),
     (s.benchAllowed t0.val k = true → (s.tile t0.val).slice = none → (s.tile t0.val).benched = none →
       s.groupStrikes t0.val = true →
       exec (.benchCalibration t0 k) s = .next (s.setTile t0.val { s.tile t0.val with benched := some k })) ∧
     (s.benchAllowed t0.val k = false → exec (.benchCalibration t0 k) s = .next s)) ∧
   (∀ (t0 : TileId) (k : Bank) (s : State), (s.tile t0.val).benched = some k →
     ∃ t, exec (.benchCalibrationDone t0) s = .next t ∧ (t.tile t0.val).benched = none ∧
       (t.tile t0.val).lastBank = some k ∧ (t.tile t0.val).slice = (s.tile t0.val).slice) ∧
   (∀ (t0 : TileId) (s : State), (s.tile t0.val).benched = none → exec (.benchCalibrationDone t0) s = .next s)) ∧
  (∀ (s : State) (t0 line : Nat) (rowSide : Bool) (ps : List (Int × Int)), s.good = true → s.serve.posted = false →
     t0 < 32768 → line < 1024 →
     let f := s.fitOf (s.dirOf t0) (fitSums ps)
     let r := s.fitLine t0 rowSide line ps
     (s.starved (s.dirOf t0) (fitSums ps) = true → r.2.1 = 0 ∧ r.1.mem = s.mem) ∧
     (s.starved (s.dirOf t0) (fitSums ps) = false → f.accepted = true → r.2.1 = 1 ∧
       r.1.read (s.auxAt t0 (trimOffset rowSide line)) 4 = natLe 4 (trimWord (f.g.getD 0) (f.o.getD 0)) ∧
       counted (MGC_CNT_FIT (tileDie t0) (tileUnit t0)) 1 s r.1) ∧
     (s.starved (s.dirOf t0) (fitSums ps) = false → f.accepted = false → r.2.1 = 2 ∧ r.1.mem = s.mem ∧
       counted (MGC_CNT_REJECT (tileDie t0) (tileUnit t0)) 1 s r.1))

/-- READ drains a set into partial records, writes its status word and frees it; IMPORT adds records into a set, lane by
lane (R142, R166, R224). The endorsement's stages (R154 to R156): a row without one for the matrix changes nothing but
the set that ENDB opens; ENDA leaves the same values on all four dies and is counted. Operand formats are read in log
entry 24. -/
def Obligations.SetsAndEndorsements : Prop :=
  ((∀ (u : EngUnit) (dec : Bool) (e : QEntry) (s : State), s.starts u dec 2 0 e = true →
     let j := firstJob u dec e
     let n := j.body 55 55
     let r := s.resultSet u n
     let o := s.opnd j (j.body 54 47)
     let g := s.opGranule j o (j.body 46 35)
     let len := Nat.min o.len 1024
     let st := s.statusAt e.prog u.die.val (j.body 34 23)
     let hs := (List.range len).map (look Hoard.zero r.lanes)
     destFault j o g len = 0 →
       ∃ t, exec (.assayRead u dec) s = .next t ∧ issued u dec e true s t ∧
         t.assay = (s.setResultSet u n ResultSet.free).assay ∧
         (isDb o.fmt = false → t.read st 4 = natLe 4 (r.digital * 65536 + (r.status.toNat ||| 16 * (hs.any Hoard.poison).toNat))) ∧
         (o.fmt = 0xC → o.allDies = false → j.acc = false →
           (st + 4 ≤ till o.die (32 * g) ∨ till o.die (32 * g) + 96 * len ≤ st) →
           holdsRecords (till o.die (32 * g)) (sourceOf u) hs t) ∧ t.tiles = s.tiles ∧ t.dir = s.dir) ∧
   (∀ (u : EngUnit) (dec : Bool) (e : QEntry) (s : State), s.starts u dec 2 3 e = true →
     let j := firstJob u dec e
     let n := j.body 55 55
     let o := s.opnd j (j.body 54 47)
     let g := s.opGranule j o (j.body 46 35)
     let len := Nat.min o.len 1024
     let at_ (k : Nat) : Nat := till (o.readDie u.die.val) (32 * g) + 96 * k
     inTill g o.fmt len = true → (∀ k, k < len → (s.partialAt (at_ k)).isSome = true) → j.acc = false →
       ∃ t r, exec (.assayImport u dec) s = .next t ∧ issued u dec e true s t ∧
         t.assay = (s.setResultSet u n r).assay ∧ r.isOpen = true ∧ r.decode = dec ∧
         (∀ k h, k < len → s.partialAt (at_ k) = some h → look Hoard.zero r.lanes k = Hoard.zero.join h) ∧
         onlyParts [.regs, .queues, .assay] s t)) ∧
  ((∀ (u : EngUnit) (dec : Bool) (e : QEntry) (s : State), s.starts u dec 2 1 e = true →
     let j := firstJob u dec e
     let m := j.body 47 44
     let o := s.opnd j (j.body 55 48)
     let slot (d : Nat) : Nat := s.endoSlot e.prog d e.row m
     inTill (s.opGranule j o (j.body 43 32)) o.fmt o.len = true →
     (s.endoOfJob j m = none → ∃ t, exec (.assayEnda u dec) s = .next t ∧ issued u dec e true s t ∧
       onlyParts [.regs, .queues] s t ∧ onlyRegs [issueCounter u dec] s t) ∧
     (∀ n r a b, s.endoOfJob j m = some (n, r, a, b) → (∀ d, d < 4 → 32 * slot d + 2 * r ≤ 2 ^ 27) →
       (∀ k, (s.db8At a (r * s.matrixIn m) k).denom ≠ 0xFF) →
       ∃ t vs, exec (.assayEnda u dec) s = .next t ∧ issued u dec e true s t ∧ vs.length = r ∧
         (∀ d, d < 4 → holdsFloats (till d (32 * slot d)) 8 vs t) ∧
         counted (ASY_CNT_ENDA u.die.val u.inst) 1 s t ∧ t.assay = s.assay)) ∧
   (∀ (u : EngUnit) (dec : Bool) (e : QEntry) (s : State), s.starts u dec 2 2 e = true →
     let j := firstJob u dec e
     let n := j.body 55 55
     let r0 := s.resultSet u n
     let r1 := if j.acc && r0.isOpen then r0 else { ResultSet.free with isOpen := true, decode := dec }
     (s.endoOfJob j (j.body 54 51) = none → ∃ t, exec (.assayEndb u dec) s = .next t ∧ issued u dec e true s t ∧
       t.assay = (s.setResultSet u n r1).assay ∧ onlyParts [.regs, .queues, .assay] s t) ∧
     (s.endoOfJob j (j.body 54 51) ≠ none → ∃ t r, exec (.assayEndb u dec) s = .next t ∧ issued u dec e true s t ∧
       t.assay = (s.setResultSet u n r).assay ∧ r.isOpen = r1.isOpen ∧ r.decode = r1.decode ∧ r.status = r1.status ∧
       counted (ASY_CNT_ENDB u.die.val u.inst) 1 s t)))

/-- A forward pass reads its chunks (R183, R185, R192): the folios it reads take the step, the engine counts them, and a
single query's partial is what its unmasked keys give; a chunk it may not read faults the order instead. What a
partial says (R186, R187): with no key it is empty or lost with maximum minus infinity and no weight; with keys it has
their number, and poison in any score poisons it. -/
def Obligations.ForwardPassesWritePartials : Prop :=
  (∀ (u : EngUnit) (dec : Bool) (e : QEntry) (s : State), s.starts u dec 3 0 e = true → s.runStaged u dec = true →
     let j := firstJob u dec e
     let fs := (s.runChunks j).1
     let gone := fs.filter (fun f => (s.chunkBase j f).isNone)
     let oq := s.opnd j (j.body 19 12)
     let op := s.opnd j (j.body 11 4)
     let kvh := j.body 55 48
     let place (i h : Nat) : Nat := op.granule + (((s.jobRow j 21 18 + i) * (s.groupSize j * s.kvCount) + h) * 4 +
       u.die.val) * 32 * 18 + j.body 47 43 * 18
     let fits := ∀ q ∈ s.jobQueries j, 32 * place q.1 (kvh * s.groupSize j + s.groupSize j) + 576 ≤ tillSize ∧
       inTill (s.opGranule j oq q.1) oq.fmt oq.len = true
     (fs.any (s.chunkFaults j) = true → ∃ t, exec (.attendFwd u dec) s = .next t ∧
       t.fld (ENG_QFAULT u) 23 20 = reasonWindow ∧ t.folio = s.folio ∧ counted (ENG_CNT_FAULT u) 1 s t) ∧
     (fs.any (s.chunkFaults j) = false → fits →
       ∃ t, exec (.attendFwd u dec) s = .next t ∧ issued u dec e true s t ∧
         counted (ATN_CNT_CHUNKS u.die.val u.inst) (fs.length - gone.length) s t ∧
         counted (ATN_CNT_LOST u.die.val u.inst) gone.length s t ∧
         t.fld (ATN_RUN u.die.val u.inst) 6 0 = j.body 47 43 ∧ t.fld (ATN_RUN u.die.val u.inst) 18 7 = e.layer ∧
         (∀ f ∈ fs, (s.folioOf (s.jobRow j 11 10 + f)).st ≠ 0 →
           (t.folioOf (s.jobRow j 11 10 + f)).lastRead = s.stepNow ∧
           (t.folioOf (s.jobRow j 11 10 + f)).frame = (s.folioOf (s.jobRow j 11 10 + f)).frame) ∧
         (∀ i p, s.jobQueries j = [(i, p)] → s.groupSize j = 1 → isDb oq.fmt = false →
           (∀ f ∈ fs, s.chunkInvalid j kvh f = 0) →
           let seen := (s.runKeys j fs).filter (fun x => !maskedFor (s.maskWindow j) p x.1)
           let lost := gone.any (fun f => (chunkPositions u.die.val f).any (fun n => !maskedFor (s.maskWindow j) p n))
           t.read (till op.die (32 * place i kvh)) 576 =
             (s.forwardPart kvh (s.headOf j oq i kvh) seen lost).1.encode (sourceOf u)))) ∧
  (∀ (s : State) (kvh : Nat) (q : List Val) (keys : List (Nat × Nat × Nat × Bool)) (lost : Bool),
     let p := (s.forwardPart kvh q keys lost).1
     (keys = [] → p.m = fp32NegInf ∧ p.l = 0 ∧ p.keys = 0 ∧ p.lost = lost ∧ p.empty = !lost ∧ p.poison = false) ∧
     (keys ≠ [] → p.keys = keys.length ∧ p.lost = lost ∧ p.empty = false ∧ p.o.length = s.headDim ∧
       ((∃ k ∈ keys, k.2.2.2 = true) → q ≠ [] → 0 < s.headBlocks → p.poison = true)))

/-- A backward pass counts its chunks, and one that cannot read a chunk marks its rows as failed tuning steps (R207,
R209); a chunk it may not read at all faults the order. How the keys before a row's first token are treated is log
entry 33. -/
def Obligations.BackwardPassesMarkLostRows : Prop :=
  ∀ (u : EngUnit) (dec : Bool) (e : QEntry) (s : State), s.starts u dec 3 1 e = true → s.runStaged u dec = true →
    let j := firstJob u dec e
    let fs := (s.runChunks j).1
    let gone := fs.filter (fun f => (s.chunkBase j f).isNone)
    let first := j.body 11 4
    let fits (k i : Nat) : Prop := let o := s.opnd j k; inTill (s.opGranule j o i) o.fmt o.len = true
    (fs.any (s.chunkFaults j) = true → ∃ t, exec (.attendBwd u dec) s = .next t ∧
      t.fld (ENG_QFAULT u) 23 20 = reasonWindow ∧ t.replays = s.replays ∧ counted (ENG_CNT_FAULT u) 1 s t) ∧
    (fs.any (s.chunkFaults j) = false →
      (∀ q ∈ s.jobQueries j, fits (j.body 19 12) q.1 ∧ fits first q.1 ∧ fits (first + 1) q.1 ∧ fits (first + 2) q.1 ∧
        fits (first + 3) q.1) → fits (first + 4) (s.jobRow j 9 8 - 1) →
      ∃ t, exec (.attendBwd u dec) s = .next t ∧ issued u dec e true s t ∧
        counted (ATN_CNT_CHUNKS u.die.val u.inst) (fs.length - gone.length) s t ∧
        counted (ATN_CNT_LOST u.die.val u.inst) gone.length s t ∧
        (gone ≠ [] → t.serve.rows = mapRows e.prog e.row (fun w => { w with replayBad := true }) 0 s.serve.rows))

/-- DENSE puts a tile's whole slice on the engine's lanes, other engines' lanes as before; DOUT writes the lanes as
partial records and leaves them (R225). -/
def Obligations.DenseLanesAreSummedAndWritten : Prop :=
  (∀ (u : EngUnit) (dec : Bool) (e : QEntry) (s : State), s.starts u dec 3 2 e = true →
    let j := firstJob u dec e
    let t0 := j.body 55 41
    let o := s.opnd j (j.body 40 33)
    let g := s.opGranule j o (j.body 32 21)
    let v := s.denseLanes j t0 o g
    inTill g o.fmt o.len = true →
      ∃ t, exec (.attendDense u dec) s = .next t ∧ issued u dec e true s t ∧
        (∀ c ts bad, v.1[c]? = some (ts, bad) →
          let old := if j.acc then look Hoard.zero s.lanes (laneKey u.die.val u.inst c) else Hoard.zero
          bad = true ∨ ts ≠ [] → v.1.length ≤ 1024 →
          look Hoard.zero t.lanes (laneKey u.die.val u.inst c) =
            (if bad then (old.addAll ts).spoil else old.addAll ts)) ∧
        (∀ k, k / 2 ^ 20 ≠ u.die.val * 64 + u.inst → v.1.length ≤ 1024 →
          look Hoard.zero t.lanes k = look Hoard.zero s.lanes k)) ∧
  (∀ (u : EngUnit) (dec : Bool) (e : QEntry) (s : State), s.starts u dec 3 3 e = true →
    let j := firstJob u dec e
    let o := s.opnd j (j.body 55 48)
    let g := s.opGranule j o (j.body 47 36)
    let len := Nat.min o.len 1024
    let hs := (List.range len).map (fun c => look Hoard.zero s.lanes (laneKey u.die.val u.inst c))
    destFault j o g len = 0 → o.fmt = 0xC →
      ∃ t, exec (.attendDout u dec) s = .next t ∧ issued u dec e true s t ∧ t.lanes = s.lanes ∧
        (o.allDies = false → j.acc = false → holdsRecords (till o.die (32 * g)) (sourceOf u) hs t ∧
          onlyBytes (till o.die (32 * g)) (96 * len) s t) ∧
        onlyParts [.regs, .queues, .mem, .poison] s t ∧ onlyRegs [issueCounter u dec] s t)

/-- QUANT writes each block of 32 elements quantised by its layer's policy, and nothing withheld: packed elements,
denominations, poison for a block that holds a non-finite or poison value (R52, R56, R58, R59, R226). CONVERT, ADD,
MUL and FUNC give each element its value and round it once into the destination's format, poison staying poison; under
ACC the value is added to what stood there (R54, R57, R77, R78, R226). They touch nothing else. Which outputs are a
layer's gradients is log entry 34. -/
def Obligations.QuantAndElementwise : Prop :=
  (∀ (u : EngUnit) (dec : Bool) (e : QEntry) (s : State), s.starts u dec 4 0 e = true →
     let j := firstJob u dec e
     let a := s.vecIn j j.vecA
     let o := s.opnd j j.vecC
     let g := s.opGranule j o j.vecTok
     let xs := (s.takeVals j a).2
     let us := if s.isGradient j && s.layerPol e.layer 4 4 == 1 then
       some (s.roundDraws e.layer ((s.jobRow j 21 18 + j.vecTok) * a.op.len)) else none
     let static := if s.layerPol e.layer 1 1 = 1 then some (s.layerPol e.layer 2 2) else none
     a.why = 0 → j.vecC ≠ noOperand → destFault j o g a.op.len = 0 → isDb o.fmt = true →
     s.isGradient j = true ∨ s.withheldList e.layer (j.vecImm 1 0) = [] →
       ∃ t, exec (.vecQuant u dec) s = .next t ∧ issued u dec e true s t ∧
         counted (VEC_CNT_QUANT u.die.val u.inst) (ceilDiv a.op.len 32) s t ∧
         ∀ d, d ∈ o.writeDies →
           holdsBlocks (till d (32 * g)) (o.fmt + 1) a.op.len (quantised (o.fmt + 1) static us xs) t) ∧
  (∀ (i : Instr) (u : EngUnit) (dec : Bool) (e : QEntry) (vs : List Val) (s m : State),
     let j := firstJob u dec e
     let a := s.vecIn j j.vecA
     let b := s.vecIn j j.vecB
     let o := s.opnd j j.vecC
     let g := s.opGranule j o j.vecTok
     let xs := (s.takeVals j a).2
     let m2 := ((s.takeVals j a).1.takeVals j b).1
     let ys := ((s.takeVals j a).1.takeVals j b).2
     (i = .vecConvert u dec ∧ s.starts u dec 4 1 e = true ∧ vs = xs ∧ m = (s.takeVals j a).1) ∨
       (i = .vecAdd u dec ∧ s.starts u dec 4 2 e = true ∧ b.why = 0 ∧ m = m2 ∧
         vs = (xs.zip ys).map (fun e => lift2 Sys2Proof.Machine.Num.add e.1 e.2)) ∨
       (i = .vecMul u dec ∧ s.starts u dec 4 3 e = true ∧ b.why = 0 ∧ m = m2 ∧
         vs = (xs.zip ys).map (fun e => lift2 Sys2Proof.Machine.Num.mul e.1 e.2)) ∨
       (i = .vecFunc u dec ∧ s.starts u dec 4 4 e = true ∧ m = (s.takeVals j a).1 ∧
         vs = xs.map (lift1 (fun x => fp32.decode (fnVal (j.vecImm 3 0) (fp32.encode x))))) →
     a.why = 0 → j.vecC ≠ noOperand → fmtFloat o.fmt = true → destFault j o g vs.length = 0 →
       ∃ t, exec i s = .next t ∧ issued u dec e true s t ∧ valuesAt o g j.acc vs m t ∧
         counted (VEC_CNT_NAN u.die.val u.inst) (nansIn o.fmt vs) s t ∧
         onlyOperand o g (elemBytes o.fmt * vs.length) m t ∧ onlyParts [.regs, .queues, .mem, .poison] s t ∧
         onlyRegs [issueCounter u dec, VEC_CNT_NAN u.die.val u.inst] s t)

/-- SUM and SUMSQ leave an exact record of every element, under ACC joined to the record that stood there, MEANVAR its two
values, and COMBINE the one value that its records sum to (R75, R80 to R82, R226). -/
def Obligations.ReductionsAreExact : Prop :=
  (∀ (u : EngUnit) (dec : Bool) (e : QEntry) (s : State), s.starts u dec 4 5 e = true →
    let j := firstJob u dec e
    let a := s.vecIn j j.vecA
    let o := s.opnd j j.vecC
    let g := s.opGranule j o j.vecTok
    let m := (s.takeVals j a).1
    let xs := (s.takeVals j a).2
    let h := hoardOf (if j.vecImm 1 0 = 1 then xs.map (lift1 (squareOf a.op.fmt)) else xs)
    let mv := meanVar (xs.map (fun x => fp32.encode (x.getD Sys2Proof.Machine.Num.zero)))
    a.why = 0 → j.vecC ≠ noOperand →
    (j.vecImm 1 0 < 2 → o.fmt = 0xC → destFault j o g 1 = 0 →
      ∃ t, exec (.vecReduce u dec) s = .next t ∧ issued u dec e true s t ∧
        onlyParts [.regs, .queues, .mem, .poison] s t ∧
        ∀ d, d ∈ o.writeDies → holdsRecords (till d (32 * g)) (sourceOf u)
          [if j.acc then (match m.partialAt (till d (32 * g)) with | some x => x.join h | none => h.spoil) else h] t) ∧
    (j.vecImm 1 0 = 2 → o.fmt = 9 → destFault j o g 2 = 0 →
      ∃ t, exec (.vecReduce u dec) s = .next t ∧ issued u dec e true s t ∧
        onlyParts [.regs, .queues, .mem, .poison] s t ∧
        valuesAt o g j.acc (if xs.any Option.isNone then [none, none]
          else [some (fp32.decode mv.1), some (fp32.decode mv.2)]) m t)) ∧
  (∀ (u : EngUnit) (dec : Bool) (e : QEntry) (s : State), s.starts u dec 4 6 e = true →
    let j := firstJob u dec e
    let a := s.vecIn j j.vecA
    let o := s.opnd j j.vecC
    let g := s.opGranule j o j.vecTok
    let n := j.vecImm 11 0
    let hs := (List.range n).map (fun k => (s.partialAt (a.at_ u.die.val + 96 * k)).getD Hoard.zero)
    j.vecA ≠ noOperand → inTill a.granule 0xC n = true → j.vecC ≠ noOperand → destFault j o g 1 = 0 →
    (∀ k, k < n → (s.partialAt (a.at_ u.die.val + 96 * k)).isSome = true) → fmtFloat o.fmt = true →
      ∃ t, exec (.vecCombine u dec) s = .next t ∧ issued u dec e true s t ∧
        valuesAt o g j.acc [(hs.foldl Hoard.join Hoard.zero).value] s t ∧
        counted (VEC_CNT_PARTIAL u.die.val u.inst) n s t ∧ onlyParts [.regs, .queues, .mem, .poison] s t)

/-- NORM, ROPE and DGRAD write what their rules give of their operands, rounded once into the destination (R175, R207,
R226): NORM a · b · rsqrt(S / len + 2^-e), ROPE the rotation by position, DGRAD the sums of each head. ACOMB counts
the partials it combines and, for a head that is alone in its group, writes the combine of R188 and marks the row of a
lost chunk; WATCH adds exact squares to its layer's sum and changes no other sum (R86, R188, R205). Where the rounding
of these operations is not stated, it is the model's (log entry 35). -/
def Obligations.NormRopeAndPartials : Prop :=
  (∀ (i : Instr) (u : EngUnit) (dec : Bool) (e : QEntry) (vs : List Val) (s m : State),
     let j := firstJob u dec e
     let a := s.vecIn j j.vecA
     let b := s.vecIn j j.vecB
     let z := s.vecIn j (j.vecImm 19 12)
     let o := s.opnd j j.vecC
     let g := s.opGranule j o j.vecTok
     let xs := (s.takeVals j a).2
     let m2 := ((s.takeVals j a).1.takeVals j b).1
     let ys := ((s.takeVals j a).1.takeVals j b).2
     let r := (m2.floatAt (z.at_ u.die.val) z.op.fmt 0).map (fun v => fp32.decode (fnVal 4
       (fp32.add (fp32.div (fp32.encode v) (fp32.ofInt a.op.len)) (fp32.encode (.fin false 1 (-(j.vecImm 6 0 : Int)))))))
     let turned := rotated s.headDim (s.layEnt e.layer 7 4) (s.jobRow j 7 4 + j.vecTok) xs
     (i = .vecNorm u dec ∧ s.starts u dec 4 7 e = true ∧ b.why = 0 ∧ z.why = 0 ∧ m = m2 ∧
         vs = (xs.zip ys).map (fun e => lift2 (fp32Op fp32.mul) (lift2 (fp32Op fp32.mul) e.1 e.2) r)) ∨
       (i = .vecRope u dec ∧ s.starts u dec 4 8 e = true ∧ m = (s.takeVals j a).1 ∧
         vs = if j.vecImm 0 0 = 0 then
             turned.map (lift1 (fun x => fp32Op fp32.mul x (fp32.decode (rsqrtCode s.headDim)))) else turned) ∨
       (i = .vecDgrad u dec ∧ s.starts u dec 4 0xB e = true ∧ b.why = 0 ∧ m = m2 ∧
         let ps := (xs.zip ys).map (fun e => lift2 (hoardProd a.op.fmt b.op.fmt) e.1 e.2)
         vs = (piecesOf s.headDim (ps.length + 1) ps).map (fun l => (hoardOf l).value)) →
     a.why = 0 → j.vecC ≠ noOperand → destFault j o g vs.length = 0 →
       ∃ t, exec i s = .next t ∧ issued u dec e true s t ∧ valuesAt o g j.acc vs m t ∧
         (fmtFloat o.fmt = true → onlyParts [.regs, .queues, .mem, .poison] s t ∧
           counted (VEC_CNT_NAN u.die.val u.inst) (nansIn o.fmt vs) s t) ∧ t.watch = s.watch ∧ t.folio = s.folio) ∧
  ((∀ (u : EngUnit) (dec : Bool) (e : QEntry) (s : State), s.starts u dec 4 9 e = true →
     let j := firstJob u dec e
     let a := s.opnd j j.vecA
     let o := s.opnd j j.vecC
     let k := j.vecImm 7 0
     let kvh := j.vecImm 15 8
     let gs := s.groupSize j
     let q := s.jobRow j 21 18 + j.vecTok
     let g := s.opGranule j o j.vecTok
     let place (h : Nat) : Nat := a.granule + (q * (gs * s.kvCount) + h) * 4 * 32 * 18
     let parts (h : Nat) := (List.range k).map (fun n =>
       s.readPart (till (a.readDie u.die.val) (32 * (place h + ((n % 4) * 32 + n / 4) * 18))))
     j.vecA ≠ noOperand → j.vecC ≠ noOperand → j.vecB = noOperand → 32 * place (kvh * gs + gs) ≤ tillSize →
     destFault j o g ((kvh * gs + gs) * s.headDim) = 0 →
       ∃ t, exec (.vecAcomb u dec) s = .next t ∧ issued u dec e true s t ∧
         counted (VEC_CNT_COMBINE u.die.val u.inst) (k * gs) s t ∧
         (gs = 1 → fmtFloat o.fmt = true → (∀ d, d ∈ o.writeDies → j.acc = false →
           (parts kvh).any (fun p => p.poison) = false →
             holdsFloats (till d (32 * g) + elemBytes o.fmt * (kvh * s.headDim)) o.fmt
               ((combineParts s.headDim (parts kvh)).1.map (fun c => some (fp32.decode c))) t) ∧
           t.serve.rows = (if (parts kvh).any (fun p => p.lost) then
             mapRows e.prog e.row (fun w => { w with lostChunk := true }) 0 s.serve.rows else s.serve.rows))) ∧
   (∀ (u : EngUnit) (dec : Bool) (e : QEntry) (s : State), s.starts u dec 4 0xA e = true →
     let j := firstJob u dec e
     let a := s.vecIn j j.vecA
     a.why = 0 →
       ∃ t, exec (.vecWatch u dec) s = .next t ∧ issued u dec e true s t ∧
         t.watch = upd Hoard.zero s.watch (2 * e.layer + j.vecImm 0 0)
           (fun w => w.join (hoardOf ((s.takeVals j a).2.map (lift1 (squareOf a.op.fmt))))) ∧
         onlyParts [.regs, .queues, .watch, .mem, .poison] s t ∧ onlyRegs [issueCounter u dec] s t))

/-- APPEND copies its tokens' keys and values from the operands into their folios: for one token and one head, the key and
the value row as the operands hold them, in the token's quarter; ACC is refused, for Vault takes no addition (R77,
R177, R227). -/
def Obligations.AppendedRowsReachTheirFolio : Prop :=
  ∀ (u : EngUnit) (dec : Bool) (e : QEntry) (s : State), s.starts u dec 7 0 e = true →
    let j := firstJob u dec e
    let ka := s.opnd j (j.body 55 48)
    let va := s.opnd j (j.body 47 40)
    let i := j.body 39 28
    let p := s.jobRow j 7 4 + i
    let base (fr : Nat) : Nat := s.frameAt (p % 4) fr + e.layer * s.quarterLayer
    let src (o : Operand) : Nat := till (o.readDie u.die.val) (32 * s.opGranule j o i)
    (j.acc = true → ∃ t, exec (.folioAppend u dec) s = .next t ∧ t.fld (ENG_QFAULT u) 23 20 = reasonAcc ∧
      counted (ENG_CNT_FAULT u) 1 s t ∧ t.folio = s.folio) ∧
    (∀ fr, j.acc = false → j.body 27 20 = 1 → ka.fmt + 1 = s.folioWidth → va.fmt + 1 = s.folioWidth →
      s.appendable j i = true → inTill (s.opGranule j ka i) ka.fmt ka.len = true →
      inTill (s.opGranule j va i) va.fmt va.len = true → e.layer < s.geo 5 4 → (s.jobFolio j (p / 256)).frame = some fr →
      s.kvCount = 1 →
      ∃ t, exec (.folioAppend u dec) s = .next t ∧ issued u dec e true s t ∧
        (∀ o n, (o = ka ∧ n = 0) ∨ (o = va ∧ n = 1) →
          t.read (s.blockKeys (base fr) 0 n (p % 256 / 4) 0).1 s.rowBytes = s.read (src o) s.rowBytes ∧
          t.read (s.blockKeys (base fr) 0 n (p % 256 / 4) 0).2 s.headBlocks =
            s.read (src o + roundUp32 (4 * s.folioWidth * ceilDiv o.len 32)) s.headBlocks) ∧
        onlyBytes (base fr) (2 * s.laneBlock) s t ∧ t.folio = s.folio)

/-- STAGE asks for the folios that its rows need and no slot has; a slot's prefetch fills it, and one that fails marks its
folio (R195). A quarter's spill copy is sent to its Reserve slot and noted, or marks its folio failed (R193, R196). A
command whose own conditions do not hold changes nothing: the model's choice (log entry 2). Staging slots are the
model's (log entry 45). -/
def Obligations.StagedFoliosArrive : Prop :=
  (∀ (u : EngUnit) (dec : Bool) (e : QEntry) (s : State), s.starts u dec 7 1 e = true →
    let j := firstJob u dec e
    (s.stageRoom u dec = false → exec (.folioStage u dec) s = .next s) ∧
    (s.stageRoom u dec = true → s.toStage j = [] → ∃ t, exec (.folioStage u dec) s = .next t ∧ issued u dec e true s t ∧
      onlyParts [.regs, .queues] s t) ∧
    (∀ f n p fn h, s.stageRoom u dec = true → s.toStage j = [f] → s.staging = [] → s.freeStage u.die.val = some n →
      let k := s.jobRow j 11 10 + f
      let at_ := (s.folioOf k).reserve + BitVec.ofNat 64 (u.die.val * s.pitchBytes + e.layer * s.quarterLayer)
      k < 32768 → s.ownNode at_ = true → s.hostWin at_ s.quarterLayer false = some (p, fn, h) → s.portUp p = true →
      ∃ t, exec (.folioStage u dec) s = .next t ∧ issued u dec e true s t ∧
        t.staging = [(u.die.val * 4096 + n, ⟨k, e.layer, none⟩)] ∧ t.out = s.out ++ [.hostRead p fn h s.quarterLayer])) ∧
  (∀ (d : Die) (n : Nat) (g : Stage) (data : List (Byte × Bool)) (s : State), s.good = true →
    s.staging.find? (fun e => e.1 == d.val * 4096 + n) = some (d.val * 4096 + n, g) → g.entry < 32768 →
    (g.done.isSome = true → ∀ ok, exec (.prefetchComplete d n ok data) s = .next s) ∧
    (g.done = none → data.length = s.quarterLayer →
      ∃ t, exec (.prefetchComplete d n true data) s = .next t ∧ counted (FOL_CNT_FETCH d.val) 1 s t ∧
        t.staging = put Stage.none s.staging (d.val * 4096 + n) { g with done := some true } ∧ t.folio = s.folio ∧
        (s.stageAt d.val n + s.quarterLayer ≤ 2 ^ 48 → t.read (s.stageAt d.val n) s.quarterLayer = data.map Prod.fst)) ∧
    (g.done = none → ∃ t, exec (.prefetchComplete d n false data) s = .next t ∧
      counted (FOL_CNT_FETCHERR d.val) 1 s t ∧ (t.folioOf g.entry).failed = true ∧ t.mem = s.mem ∧
      t.staging = put Stage.none s.staging (d.val * 4096 + n) { g with done := some false })) ∧
  (∀ (n : Fin 32768) (q : Fin 4) (fr : Nat) (s : State), s.good = true →
    let x := s.folioOf n.val
    x.frame = some fr → x.st = 4 → x.failed = false → q.val ∉ x.copied →
    (∃ t, exec (.spillCopyComplete n q false) s = .next t ∧ t.folio = (s.setFolio n.val { x with failed := true }).folio ∧
      counted (FOL_CNT_FETCHERR q.val) 1 s t ∧ onlyParts [.regs, .folio] s t) ∧
    (∀ z, s.spillOut q.val (x.reserve + BitVec.ofNat 64 (q.val * s.pitchBytes)) (s.quarterBytes q.val fr) = some z →
      ∃ t, exec (.spillCopyComplete n q true) s = .next t ∧ (t.folioOf n.val).copied = x.copied ++ [q.val] ∧
        (t.folioOf n.val).st = 4 ∧ (t.folioOf n.val).failed = false ∧ t.out = z.out ∧ t.mem = z.mem))

/-- SAMPLE draws one token for a row that samples (R227, R298, R299): the row takes it and the operand holds it; poison
among the logits poisons the row instead, and a row that does not sample is left alone. The draw: a NaN, a plus
infinity or minus infinity alone yields no token; at temperature 0 the token is a largest logit, the lowest index of
equals; every token drawn is in the vocabulary. What a row that does not sample does is log entry 46. -/
def Obligations.SampledRowsTakeOneToken : Prop :=
  (∀ (u : EngUnit) (dec : Bool) (e : QEntry) (s : State), s.starts u dec 8 0 e = true →
    let j := firstJob u dec e
    let a := s.opnd j (j.body 55 48)
    let o := s.opnd j (j.body 47 40)
    let ga := s.opGranule j a (j.body 39 28)
    let go := s.opGranule j o (j.body 39 28)
    let vs := (s.vals (till (a.readDie u.die.val) (32 * ga)) a.fmt s.vocab).1
    s.vocab ≤ a.len → inTill ga a.fmt a.len = true → destFault j o go 1 = 0 →
    (∀ r, (s.rowsIn e.prog)[e.row]? = some r → r.sample = false →
      ∃ t, exec (.sample u dec) s = .next t ∧ issued u dec e true s t ∧ onlyParts [.regs, .queues] s t) ∧
    (∀ r tk, (s.rowsIn e.prog)[e.row]? = some r → r.sample = true → e.row ≠ wholeBatch → vs.any Option.isNone = false →
      let q := s.seq r.slot
      drawToken (vs.map (fun v => fp32.encode (v.getD .nan))) q.temp.toNat q.topP.toNat q.topK q.seed.toNat q.produced =
        some tk →
      ∃ t, exec (.sample u dec) s = .next t ∧ issued u dec e true s t ∧
        t.serve.rows = mapRows e.prog e.row (fun w => { w with token := some tk }) 0 s.serve.rows ∧
        (∀ d, d ∈ o.writeDies → j.acc = false → o.fmt = 9 → t.read (till d (32 * go)) 4 = natLe 4 (tk % 2 ^ 32)) ∧
        t.seqs = s.seqs) ∧
    (∀ r, (s.rowsIn e.prog)[e.row]? = some r → r.sample = true → e.row ≠ wholeBatch → vs.any Option.isNone = true →
      ∃ t, exec (.sample u dec) s = .next t ∧ issued u dec e true s t ∧
        t.serve.rows = mapRows e.prog e.row (fun w => { w with poisoned := true }) 0 s.serve.rows)) ∧
  (∀ (zs : List Nat) (temp topP topK seed n : Nat),
    (badLogits zs = true → drawToken zs temp topP topK seed n = none) ∧
    (∀ tk, drawToken zs temp topP topK seed n = some tk → tk < zs.length) ∧
    (∀ tk, temp % 2 ^ 15 = 0 → drawToken zs temp topP topK seed n = some tk →
      ∀ i, i < zs.length → (fp32.decode (zs.getD tk 0)).lt (fp32.decode (zs.getD i 0)) = false ∧
        (i < tk → (fp32.decode (zs.getD i 0)).lt (fp32.decode (zs.getD tk 0)) = true)))

/-- A MOVE or a host's `go` starts its channel with a descriptor that passes the checks of R261, and records the code of
the first check that fails; `stop` lets the bursts in flight end (R228, R261, R268, R269, R271). A grant slot lets the
arbiter's channel issue its next burst and counts the wait of every other ready channel; an event of its trigger
releases a channel's bursts, waits, or overruns (R263, R264, R266). A command whose own conditions do not hold changes
nothing: the model's choice (log entry 2). -/
def Obligations.TransfersAndTriggers : Prop :=
  ((∀ (u : EngUnit) (dec : Bool) (e : QEntry) (s : State), s.starts u dec 5 0 e = true →
     let d := u.die.val
     let g := ordBody e.order 55 34
     let raw := s.read (till d (32 * g)) 32
     let x := Desc.ofBytes raw
     let code := s.checkDesc d u.inst 1 x raw
     32 * g + 32 ≤ tillSize → s.bad (till d (32 * g)) 32 = false →
     (code = 0 → ∃ t, exec (.move u dec) s = .next t ∧ issued u dec e false s t ∧
       t.chan d u.inst = { Channel.idle with
         desc := some x, chain := 1, released := if x.trigKind = 0 then x.bursts else 0,
         srcWin := s.hostWin x.src x.len false, dstWin := s.hostWin x.dst x.len true, mover := some dec } ∧
       t.flag (DMA_STAT d u.inst) 31 = true ∧ t.fld (DMA_DESC d u.inst) 21 0 = g ∧ t.reg (DMA_DONE d u.inst) = 0 ∧
       onlyParts [.regs, .queues, .dma] s t) ∧
     (code ≠ 0 → ∃ t, exec (.move u dec) s = .next t ∧ t.dma = (s.setChan d u.inst Channel.idle).dma ∧
       t.fld (ENG_QFAULT u) 23 20 = (if code = 2 ∨ code = 4 ∨ code = 5 then reasonWindow else reasonReserved) ∧
       counted (ENG_CNT_FAULT u) 1 s t)) ∧
   (∀ (w : Src) (d : Die) (ch : Fin 64) (s : State), s.good = true → s.holder w = true → s.owner d.val ch.val = 2 →
     let k := ch.val
     let g := s.fld (DMA_DESC d.val k) 21 0
     let raw := s.read (till d.val (32 * g)) 32
     let x := Desc.ofBytes raw
     let code := s.checkDesc d.val k 1 x raw
     (s.chan d.val k).desc = none → s.coreRuns (d.val / 2) = true → s.rst.blockResets.contains (.unit ⟨d, .dma, k⟩) = false →
     32 * g + 32 ≤ tillSize → s.bad (till d.val (32 * g)) 32 = false →
     (code = 0 → ∃ t, exec (.dmaGo w d ch) s = .next t ∧ (t.chan d.val k).desc = some x ∧ (t.chan d.val k).flight = [] ∧
       t.flag (DMA_STAT d.val k) 31 = true ∧ onlyParts [.regs, .dma] s t ∧
       onlyRegs [DMA_STAT d.val k, DMA_DESC d.val k, DMA_DONE d.val k] s t) ∧
     (code ≠ 0 → ∃ t, exec (.dmaGo w d ch) s = .next t ∧ t.dma = s.dma ∧ t.flag (DMA_STAT d.val k) 27 = true ∧
       t.fld (DMA_STAT d.val k) 24 21 = code ∧ t.log.serial = s.log.serial + 1)) ∧
   (∀ (w : Src) (d : Die) (ch : Fin 64) (x : Desc) (s : State), s.good = true → s.holder w = true →
     s.owner d.val ch.val = 2 →
     let c := s.chan d.val ch.val
     c.desc = some x → c.stopping = false → c.mover = none →
     ∃ t, exec (.dmaStop w d ch) s = .next t ∧ t.flag (DMA_STAT d.val ch.val) 27 = true ∧
       t.fld (DMA_STAT d.val ch.val) 24 21 = 10 ∧ t.log.serial = s.log.serial + 1 ∧
       (if c.flight = [] then t.dma = (s.setChan d.val ch.val Channel.idle).dma ∧ t.flag (DMA_STAT d.val ch.val) 31 = false
        else t.chan d.val ch.val = { c with stopping := true } ∧ t.flag (DMA_CTRL d.val ch.val) 2 = true))) ∧
  ((∀ (d : Die) (k : Nat) (a : DmaArb) (x : Desc) (s : State), s.good = true → s.coreRuns (d.val / 2) = true →
     (s.wanting d.val = [] → exec (.dmaGrant d) s = .next s) ∧
     (arbitrateDma (look DmaArb.fresh s.dmaArb d.val) (s.wanting d.val) = some (k, a) →
       let c := s.chan d.val k
       c.desc = some x → c.pending = 0 → c.srcWin = none → s.ownNode x.src = true →
       let n := Nat.min (x.len - c.cut) (512 - (adOff x.dst + c.cut) % 512)
       ∃ t, exec (.dmaGrant d) s = .next t ∧
         t.chan d.val k = { c with cut := c.cut + n, released := c.released - 1, flight := c.flight ++ [⟨c.cut, n⟩] } ∧
         t.dmaArb = put DmaArb.fresh s.dmaArb d.val a ∧ onlyParts [.regs, .dma, .dmaArb] s t ∧
         ∀ m p, (m, p) ∈ s.wanting d.val → m ≠ k → counted (DMA_CNT_ARBWAIT d.val m) 1 s t)) ∧
   (∀ (d : Die) (ch : Fin 64) (s : State), s.good = true →
     let c := s.chan d.val ch.val
     (c.desc = none → exec (.dmaTriggerEvent d ch) s = .next s) ∧
     (∀ x, c.desc = some x → x.trigKind = 0 → exec (.dmaTriggerEvent d ch) s = .next s) ∧
     (∀ x, c.desc = some x → x.trigKind ≠ 0 → c.released = 0 →
       exec (.dmaTriggerEvent d ch) s = .next (s.setChan d.val ch.val { c with
         released := if x.pace = 0 then c.held x else Nat.min x.pace (c.held x) })) ∧
     (∀ x, c.desc = some x → x.trigKind ≠ 0 → c.released ≠ 0 → c.pending < 255 →
       ∃ t, exec (.dmaTriggerEvent d ch) s = .next t ∧ t.chan d.val ch.val = { c with pending := c.pending + 1 } ∧
         t.fld (DMA_STAT d.val ch.val) 20 13 = c.pending + 1 ∧ onlyRegs [DMA_STAT d.val ch.val] s t) ∧
     (∀ x, c.desc = some x → x.trigKind ≠ 0 → c.released ≠ 0 → 255 ≤ c.pending →
       ∃ t, exec (.dmaTriggerEvent d ch) s = .next t ∧ t.dma = s.dma ∧ t.flag (DMA_STAT d.val ch.val) 25 = true ∧
         counted (DMA_CNT_OVERRUN d.val ch.val) 1 s t)))

/-- A burst acknowledged has its bytes at the destination: for a move within the device's Vault and Till without a swap,
the source's bytes; the counts follow, and the last one ends an unchained transfer with its tag (R263, R265, R267).
Host data that passes the checks of R410 fills what the oldest burst lacks; data that does not, a completion that
never comes and a transfer error end the chain with code 9 (R269, R410). A command whose own conditions do not hold
changes nothing: the model's choice (log entry 2). -/
def Obligations.TransfersEnd : Prop :=
  (∀ (d : Die) (ch : Fin 64) (x : Desc) (b : Burst) (s : State), s.good = true →
     let c := s.chan d.val ch.val
     let total := (c.acked ++ [b]).foldl (fun a b => a + b.len) 0
     c.desc = some x → c.flight.find? (fun f => f.off == b.off) = some b → c.srcWin = none → c.dstWin = none →
     c.stopping = false → s.ownNode x.src = true → s.ownNode x.dst = true → adSpace x.src ≤ 1 → adSpace x.dst ≤ 1 →
     x.swap = 0 → b.off + b.len ≤ x.len → adOff x.src + x.len ≤ 2 ^ 48 → adOff x.dst + x.len ≤ 2 ^ 48 →
     (total ≠ x.len →
       ∃ t, exec (.dmaBurstAck d ch b.off) s = .next t ∧
         (t.spaceRead (adSpace x.dst) (adOff x.dst + b.off) b.len).map Prod.fst =
           (s.spaceRead (adSpace x.src) (adOff x.src + b.off) b.len).map Prod.fst ∧
         onlyBytes (keyOf (adSpace x.dst) (adOff x.dst + b.off)) b.len s t ∧
         (t.chan d.val ch.val).flight = c.flight.erase b ∧ (t.chan d.val ch.val).acked = c.acked ++ [b] ∧
         t.reg (DMA_DONE d.val ch.val) = BitVec.ofNat 64 total ∧ counted (DMA_CNT_BYTES d.val ch.val) b.len s t) ∧
     (total = x.len → x.chains = false → c.mover = none →
       ∃ t, exec (.dmaBurstAck d ch b.off) s = .next t ∧
         (t.spaceRead (adSpace x.dst) (adOff x.dst + b.off) b.len).map Prod.fst =
           (s.spaceRead (adSpace x.src) (adOff x.src + b.off) b.len).map Prod.fst ∧
         t.dma = (s.setChan d.val ch.val Channel.idle).dma ∧ t.flag (DMA_STAT d.val ch.val) 31 = false ∧
         t.reg (DMA_TAG d.val ch.val) = BitVec.ofNat 64 x.tag.toNat ∧ counted (DMA_CNT_DESC d.val ch.val) 1 s t)) ∧
  (∀ (d : Die) (ch : Fin 64) (x : Desc) (s : State), s.good = true →
     let c := s.chan d.val ch.val
     let ended (t : State) : Prop := t.dma = (s.setChan d.val ch.val Channel.idle).dma ∧
       t.flag (DMA_STAT d.val ch.val) 27 = true ∧ t.fld (DMA_STAT d.val ch.val) 24 21 = 9 ∧
       t.flag (DMA_STAT d.val ch.val) 31 = false ∧ t.log.serial = s.log.serial + 1
     (c.desc = none → exec (.dmaTransferError d ch) s = .next s) ∧
     (c.desc = some x → c.mover = none → ∃ t, exec (.dmaTransferError d ch) s = .next t ∧ ended t) ∧
     (∀ dec f, c.desc = some x → c.mover = some dec → s.moveOf ⟨d, .dma, ch.val⟩ dec = some f →
       ∃ t, exec (.dmaTransferError d ch) s = .next t ∧ ended t ∧
         t.serve.rows = mapRows f.entry.prog f.entry.row (fun w => { w with faulted := true }) 0 s.serve.rows) ∧
     (∀ w bs i hi, c.desc = some x → c.srcWin = some w → c.lacks x = some (i, hi) →
       exec (.hostCompletion d ch bs true) s = .next (s.setChan d.val ch.val { c with
         arrived := c.arrived ++ [(i, (bs.take (hi - i)).map (fun b => (b, false)))] }) ∧
       (c.mover = none → (∃ t, exec (.hostCompletion d ch bs false) s = .next t ∧ ended t) ∧
         ∃ t, exec (.completionTimeout d ch) s = .next t ∧ ended t)) ∧
     (∀ w, c.desc = some x → c.srcWin = some w → c.lacks x = none → exec (.completionTimeout d ch) s = .next s))

/-- Local timers (R270): a period written is taken unless it is 0, `run` rising loads the count, and the end of a period
counts an event and starts the next, or stops a timer that runs once. `quiesce`, a block reset's request and its end
(R443): only an idle block is reset, a busy one shows the refusal, and the end clears the block's own state and no
counter. A command whose own conditions do not hold changes nothing: the model's choice (log entry 2). -/
def Obligations.TimersAndBlockResets : Prop :=
  (∀ (w : Src) (d : Die) (k : Fin 16) (v : Word32) (s : State), s.good = true →
     (s.holder w = false → exec (.timerCtrlWrite w d k v) s = .next s ∧ exec (.timerPeriodWrite w d k v) s = .next s) ∧
     (s.holder w = true →
       (∃ t, exec (.timerCtrlWrite w d k v) s = .next t ∧
         t.reg (TMR_CTRL d.val k.val) = BitVec.ofNat 64 (v.toNat % 4) ∧
         (s.flag (TMR_CTRL d.val k.val) 0 = false → v.toNat % 2 = 1 →
           t.fld (TMR_COUNT d.val k.val) 31 0 = s.fld (TMR_PERIOD d.val k.val) 31 0) ∧
         (s.flag (TMR_CTRL d.val k.val) 0 = true ∨ v.toNat % 2 = 0 →
           t.reg (TMR_COUNT d.val k.val) = s.reg (TMR_COUNT d.val k.val)) ∧
         onlyRegs [TMR_CTRL d.val k.val, TMR_COUNT d.val k.val] s t) ∧
       (v = 0 → exec (.timerPeriodWrite w d k v) s = .next s) ∧
       (v ≠ 0 → ∃ t, exec (.timerPeriodWrite w d k v) s = .next t ∧
         t.reg (TMR_PERIOD d.val k.val) = BitVec.ofNat 64 v.toNat ∧ onlyRegs [TMR_PERIOD d.val k.val] s t)) ∧
     (s.flag (TMR_CTRL d.val k.val) 0 = false → exec (.timerEvent d k) s = .next s) ∧
     (s.flag (TMR_CTRL d.val k.val) 0 = true →
       ∃ t, exec (.timerEvent d k) s = .next t ∧ counted (TMR_EVENTS d.val k.val) 1 s t ∧
         t.flag (TMR_CTRL d.val k.val) 0 = s.flag (TMR_CTRL d.val k.val) 1 ∧
         t.fld (TMR_COUNT d.val k.val) 31 0 =
           (if s.flag (TMR_CTRL d.val k.val) 1 then s.fld (TMR_PERIOD d.val k.val) 31 0 else 0) ∧
         onlyRegs [TMR_EVENTS d.val k.val, TMR_CTRL d.val k.val, TMR_COUNT d.val k.val] s t)) ∧
  (∀ (w : Src) (b : Block) (s : State), s.good = true → blockOk b = true →
     (s.holder w = true → (∀ e, b = .unit e → e.kind ≠ .dma) → ∀ v,
       ∃ t, exec (.quiesceWrite w b v) s = .next t ∧ t.flag (blockCtrl b) 1 = v ∧
         (∀ k, k ≠ 1 → k < 64 → t.flag (blockCtrl b) k = s.flag (blockCtrl b) k) ∧
         onlyRegs [blockCtrl b] s t ∧ onlyParts [.regs] s t) ∧
     (∀ e v, b = .unit e → e.kind = .dma → exec (.quiesceWrite w b v) s = .next s) ∧
     (s.holder w = true → s.rst.blockResets.contains b = false →
       (s.blockIdle b = true → exec (.blockResetRequest w b) s =
         .next { s with rst := { s.rst with blockResets := s.rst.blockResets ++ [b] } }) ∧
       (s.blockIdle b = false → ∃ t, exec (.blockResetRequest w b) s = .next t ∧ t.rst = s.rst ∧
         t.flag (blockStat b).1 (blockStat b).2 = true ∧ onlyRegs [(blockStat b).1] s t)) ∧
     (s.rst.blockResets.contains b = false → exec (.blockResetComplete b) s = .next s) ∧
     (s.rst.blockResets.contains b = true →
       ∃ t, exec (.blockResetComplete b) s = .next t ∧ t.rst = { s.rst with blockResets := s.rst.blockResets.erase b } ∧
         (∀ e, b = .unit e → e.kind ≠ .dma → t.queues = (s.setEng e EngState.idle).queues) ∧
         (∀ e, b = .unit e → e.kind = .dma → t.dma = (s.setChan e.die.val e.inst Channel.idle).dma) ∧
         (∀ d u, b = .group d u → t.groups = (s.setGroup d.val u.val Group.idle).groups) ∧
         (∀ a, isCounter a = true → t.reg a = s.reg a) ∧ t.mem = s.mem ∧ t.mram = s.mram ∧ t.serve = s.serve))

/-- A conversion adds to its entry's accumulator, moves its tracker and stands in AUD_DATA in Denja mode; the last of a
channel's conversions latches the accumulator (R334, R336, R338 to R340). A command whose own conditions do not hold
changes nothing: the model's choice (log entry 2). -/
def Obligations.ConversionsAreAccumulated : Prop :=
  ∀ (i : Fin 6) (code : BitVec 12) (hi lo : Bool) (s : State), s.good = true →
    let a := s.audit i.val
    let w := s.reg (AUD_ENT i.val a.entry)
    let unset := s.fld (AUD_SETTLE i.val) 17 0 != 0
    let sum := a.sum + (if hi || lo then 0 else code.toNat)
    let cnt := a.cnt + (if hi || lo then 0 else 1)
    let trk := bits w 52 48 + a.chan
    let acc := bits w 44 40 + a.chan
    let v := if hi then 0xFFF else if lo then 0 else code.toNat
    s.entryOn i.val a.entry = true → trk < 32 → acc < 32 →
    (s.flag (AUD_STAT i.val) 31 = false ∨ a.burst = true → exec (.auditConversion i code hi lo) s = .next s) ∧
    (s.flag (AUD_STAT i.val) 31 = true → a.burst = false →
      (a.rep < bits w 13 6 →
        ∃ t, exec (.auditConversion i code hi lo) s = .next t ∧ counted (AUD_CNT_CONV i.val) 1 s t ∧
          (hi || lo → counted (AUD_CNT_RANGE i.val) 1 s t) ∧
          t.aud = (s.setAudit i.val { a with
            sum := sum, cnt := cnt, hi := a.hi || hi, lo := a.lo || lo, unset := a.unset || unset, rep := a.rep + 1 }).aud ∧
          (bitOf w 60 = true → unset = false →
            t.fld (AUD_TRK i.val trk) 11 0 = Nat.min (s.fld (AUD_TRK i.val trk) 11 0) v ∧
            t.fld (AUD_TRK i.val trk) 43 32 = Nat.max (s.fld (AUD_TRK i.val trk) 43 32) v ∧
            t.flag (AUD_TRK i.val trk) 63 = false) ∧
          (bitOf w 62 = true → s.flag (AUD_CTRL i.val) 0 = true →
            t.fld (AUD_DATA i.val) 11 0 = code.toNat ∧ t.flag (AUD_DATA i.val) 31 = true ∧
            t.flag (AUD_DATA i.val) 30 = (s.flag (AUD_DATA i.val) 31 || s.flag (AUD_DATA i.val) 30)) ∧
          onlyParts [.regs, .aud, .serve] s t) ∧
      (bits w 13 6 ≤ a.rep → a.chan < bits w 59 54 →
        ∃ t, exec (.auditConversion i code hi lo) s = .next t ∧ counted (AUD_CNT_CONV i.val) 1 s t ∧
          t.aud = (s.setAudit i.val { a with
            sum := 0, cnt := 0, hi := false, lo := false, unset := false, rep := 0, chan := a.chan + 1 }).aud ∧
          (bitOf w 61 = true →
            t.fld (AUD_ACC i.val acc) 19 0 = sum % 2 ^ 20 ∧ t.fld (AUD_ACC i.val acc) 40 32 = cnt % 512 ∧
            t.flag (AUD_ACC i.val acc) 61 = (a.hi || hi) ∧ t.flag (AUD_ACC i.val acc) 60 = (a.lo || lo) ∧
            t.flag (AUD_ACC i.val acc) 62 = (a.unset || unset) ∧ t.flag (AUD_ACC i.val acc) 63 = false ∧
            t.flag (AUD_NEW i.val) acc = true)))

/-- A burst makes every accumulator and tracker stale, and its end leaves the offset, and the gain of the reference that
is plausible: the external one, or the bandgap with its record (R341, R342). Registers of the Audit converters and a
Vault's refresh mode: the reference buffer settles in 160,000 ticks, AUD_DATA is read once, trackers 24 to 31 alone
are cleared, a stack is hot above 85 °C until it is below 80 °C (R23, R335, R339, R340). A command whose own
conditions do not hold changes nothing: the model's choice (log entry 2). The rounding of the gain is log entry 21. -/
def Obligations.AuditBurstsAndRegisters : Prop :=
  ((∀ (i : Fin 6) (s : State), s.good = true →
     (s.flag (AUD_STAT i.val) 31 = false ∨ (s.audit i.val).burst = true → exec (.auditBurstStart i) s = .next s) ∧
     (s.flag (AUD_STAT i.val) 31 = true → (s.audit i.val).burst = false →
       ∃ t, exec (.auditBurstStart i) s = .next t ∧ t.aud = (s.setAudit i.val { s.audit i.val with burst := true }).aud ∧
         t.flag (AUD_STAT i.val) 29 = true ∧ counted (AUD_CNT_BURST i.val) 1 s t ∧
         (∀ n, n < 32 → t.flag (AUD_ACC i.val n) 63 = true ∧ t.flag (AUD_TRK i.val n) 63 = true ∧
           t.fld (AUD_ACC i.val n) 62 0 = s.fld (AUD_ACC i.val n) 62 0) ∧ onlyParts [.regs, .aud] s t)) ∧
   (∀ (i : Fin 6) (b : BurstData) (s : State), s.good = true →
     let ge := gainExt ((b.ext : Int) - b.ground)
     let ok := plausible b (s.fld (AUD_SETTLE i.val) 17 0 != 0)
     ((s.audit i.val).burst = false → exec (.auditBurstDone i b) s = .next s) ∧
     ((s.audit i.val).burst = true → ok = true →
       s.reg (AUD_CALG i.val) = 0 ∨ s.flag (AUD_STAT i.val) 28 = true ∨ 1 ≤ (s.audit i.val).goodRun →
       ∃ t, exec (.auditBurstDone i b) s = .next t ∧ t.flag (AUD_STAT i.val) 29 = false ∧
         t.flag (AUD_STAT i.val) 28 = true ∧ t.fld (AUD_CALO i.val) 15 0 = toTwos 16 b.ground ∧
         t.fld (AUD_CALG i.val) 31 0 = toTwos 32 ge ∧ (t.audit i.val).burst = false ∧
         (t.audit i.val).goodRun = (s.audit i.val).goodRun + 1) ∧
     ((s.audit i.val).burst = true → ok = false →
       ∃ t, exec (.auditBurstDone i b) s = .next t ∧ t.flag (AUD_STAT i.val) 29 = false ∧
         t.flag (AUD_STAT i.val) 28 = false ∧ t.flag (AUD_STAT i.val) 27 = true ∧
         t.fld (AUD_CALO i.val) 15 0 = toTwos 16 b.ground ∧
         t.fld (AUD_CALG i.val) 31 0 = toTwos 32 (gainOf ((b.bandgap : Int) - b.ground) (Config.bandgapFuse i)) ∧
         (4 ≤ i.val → t.log.serial = s.log.serial + 1)))) ∧
  ((∀ (w : Src) (i : Fin 6) (s : State), s.good = true →
     (s.holder w = true → s.flag (AUD_CTRL i.val) 1 = false →
       ∃ t, exec (.refbufEnable w i) s = .next t ∧ t.flag (AUD_CTRL i.val) 1 = true ∧
         t.fld (AUD_SETTLE i.val) 17 0 = 160000 ∧ t.flag (AUD_STAT i.val) 30 = false ∧
         onlyRegs [AUD_CTRL i.val, AUD_SETTLE i.val, AUD_STAT i.val] s t) ∧
     (s.flag (AUD_CTRL i.val) 1 = true →
       ∃ t, exec (.refbufSettled i) s = .next t ∧ t.fld (AUD_SETTLE i.val) 17 0 = 0 ∧ t.flag (AUD_STAT i.val) 30 = true ∧
         onlyRegs [AUD_SETTLE i.val, AUD_STAT i.val] s t) ∧
     (s.flag (AUD_CTRL i.val) 1 = false → exec (.refbufSettled i) s = .next s) ∧
     (∃ t, exec (.audDataRead w i) s = .next t ∧
       t.out = s.out ++ [.completion w.port.val (natLe 4 (s.reg (AUD_DATA i.val)).toNat) false] ∧
       t.flag (AUD_DATA i.val) 31 = false ∧ onlyRegs [AUD_DATA i.val] s t) ∧
     (s.holder w = true → ∀ mask : Word32,
       ∃ t, exec (.trackerClear w i mask) s = .next t ∧
         (∀ n, 24 ≤ n → n < 32 → mask.getLsbD n = true →
           t.fld (AUD_TRK i.val n) 11 0 = 0xFFF ∧ t.fld (AUD_TRK i.val n) 43 32 = 0) ∧
         (∀ n, n < 24 ∨ mask.getLsbD n = false → n < 32 → t.reg (AUD_TRK i.val n) = s.reg (AUD_TRK i.val n)) ∧
         onlyParts [.regs] s t)) ∧
   (∀ (v : Fin 4) (temp : Int) (s : State), s.good = true →
     ∃ t, exec (.vaultModeChange v temp) s = .next t ∧
       t.flag (VLT_CAL v.val) 31 = (if 680 < temp then true else if temp < 640 then false else s.flag (VLT_CAL v.val) 31) ∧
       (∀ k, k < 31 → t.flag (VLT_CAL v.val) k = s.flag (VLT_CAL v.val) k) ∧ onlyRegs [VLT_CAL v.val] s t))

/-- Shards of a Load (R311 to R313): a good one lands in a free slot or is withheld, a bad or missing one is asked for
again from the predecessor, then from the head, and then fails the Load; acknowledgements and requests follow the
chain. A command whose own conditions do not hold changes nothing: the model's choice (log entry 2). -/
def Obligations.ShardsLandOrAreAskedAgain : Prop :=
  (∀ (n : Nat) (data : List Byte) (p : Bool) (l : Load) (s : State), s.good = true → s.epochs.load = some l →
    s.epochs.relay = none →
    (l.lacks n = false → exec (.shardArrival n data p) s = .next s ∧ exec (.shardTimeout n) s = .next s) ∧
    (l.lacks n = true → l.manifest.shardOk n data p = true → s.landSlot l n = none →
      exec (.shardArrival n data p) s = .next s) ∧
    (∀ k, l.lacks n = true → l.manifest.shardOk n data p = true → s.landSlot l n = some k → l.records = [] →
      l.manifest.refresh = false → 0 < l.manifest.length → n ≠ 0 → l.arrived.contains 0 = false →
      let m := { l with landed := put 0 l.landed n (k + 1), arrived := l.arrived ++ [n] }
      ∃ t, exec (.shardArrival n data p) s = .next t ∧ t.epochs = { s.epochs with load := some m } ∧
        t.read (s.landKey m (n * shardSize)) data.length = data ∧
        onlyBytes (s.landKey m (n * shardSize)) data.length s t)) ∧
  (∀ (i : Instr) (nak : Bool) (n : Nat) (l : Load) (s : State), s.epochs.load = some l → l.lacks n = true →
    (∃ data p, i = .shardArrival n data p ∧ l.manifest.shardOk n data p = false ∧ nak = true) ∨
      (i = .shardTimeout n ∧ nak = false) →
    let c := look 0 l.asked n
    (c < 2 → ∃ t, exec i s = .next t ∧
      t.epochs = { s.epochs with load := some { l with asked := put 0 l.asked n (c + 1) } } ∧
      t.out = s.out ++ [.shardRequest (if c = 0 then s.predecessor l.manifest else s.headOf_ l.manifest) n nak] ∧
      t.serve.events = s.serve.events ++
        [⟨s.senior == some 0, s.senior == some 1, 0x12, 0, BitVec.ofNat 32 n, BitVec.ofNat 64 c⟩] ∧ t.mem = s.mem) ∧
    (2 ≤ c → ∃ t, exec i s = .next t ∧ t.log.serial = s.log.serial + 1 ∧
      t.epochs = { s.epochs with load := some { l with failed := some (BitVec.ofNat 16 stShardLost) } })) ∧
  (∀ (n : Nat) (data : List Byte) (r : Load) (s : State), s.epochs.load = none → s.epochs.relay = some r →
    r.lacks n = true → r.manifest.shardOk n data false = true →
    ∃ t, exec (.shardArrival n data false) s = .next t ∧ t.mem = s.mem ∧
      t.epochs = { s.epochs with
        relay := if (r.arrived ++ [n]).length = r.manifest.shards then none
          else some { r with arrived := r.arrived ++ [n] } } ∧
      t.out = s.out ++ (match s.successor r.manifest with | some d => [.shard d n] | none => []) ++
        (if (s.chainPos r.manifest).isSome then [.shardAck (s.predecessor r.manifest) n] else [])) ∧
  (∀ (n : Nat) (l : Load) (s : State), s.epochs.load = some l → l.acked.contains n = false →
    ∃ t m, exec (.shardAck n) s = .next t ∧ t.epochs = { s.epochs with load := some m } ∧ m.acked = l.acked ++ [n] ∧
      m.arrived = l.arrived ∧ onlyParts [.epochs] s t) ∧
  (∀ (n : Nat) (nak fromHead : Bool) (by_ : Node) (l : Load) (s : State), s.epochs.load = some l →
    exec (.shardRefetchRequest n nak fromHead by_) s =
      .next (if look 0 l.landed n ≠ 0 ∨ (fromHead = true ∧ s.chainPos l.manifest = none) then
        { s with out := s.out ++ [.shard by_.val n] } else s))

/-- Along a chain a member's report and the head's flip are noted; a manifest that does not verify changes nothing, and
one that meets a busy device is relayed and reported busy (R309, R315, R318). Master planes and drift: a plane
rewritten takes its bank's levels and epoch unless a set fails its checksum; a restore ends, or the tile's weights are
lost; a refresh waits while a Load may not start (R320, R321, R367, R368). A command whose own conditions do not hold
changes nothing: the model's choice (log entry 2). -/
def Obligations.ChainsAndMasterPlanes : Prop :=
  ((∀ (n : Node) (l : Load) (s : State), s.epochs.load = some l →
     (l.manifest.chain.contains n.val = false ∨ l.reported.contains n.val = true →
       exec (.verifiedReport n) s = .next s) ∧
     (l.manifest.chain.contains n.val = true → l.reported.contains n.val = false →
       ∃ t m, exec (.verifiedReport n) s = .next t ∧ t.epochs = { s.epochs with load := some m } ∧
         m.reported = l.reported ++ [n.val] ∧ onlyParts [.epochs, .out] s t ∧
         (s.loadVerified l = false → t.out = s.out ∧ m.flipSeen = l.flipSeen))) ∧
   (∀ (l : Load) (s : State), s.epochs.load = some l → exec .flipCommand s =
     .next { s with epochs := { s.epochs with load := some { l with flipSeen := true } } }) ∧
   (∀ s : State, s.epochs.load = none → exec .flipCommand s = .next s) ∧
   (∀ (img : List Byte) (s : State), s.serve.loadTicket = none → s.awaitsManifest = none →
     let m := manifestOf img
     (s.manifestOk img 0 s.anySealed = false → exec (.manifestArrival img) s = .next s) ∧
     ((s.chainPos m).isSome = true → s.epochBusy = true ∨ s.epochStale m.epoch = true →
       ∃ t, exec (.manifestArrival img) s = .next t ∧
         (if s.manifestOk img 0 s.anySealed then
            t.epochs = { s.epochs with relay := some (Load.fresh m) } ∧ onlyParts [.epochs, .out] s t ∧
            t.out = s.out ++ (match s.successor m with | some d => [.manifest d] | none => []) ++
              [.report (s.headOf_ m) true]
          else t = s)))) ∧
  (∀ (n : TileId) (s : State), s.good = true →
     let x := s.tile n.val
     (∀ k, (s.dirOf n.val).live = some k → x.masterEpoch = none →
       ∃ t, exec (.masterRewriteDone n) s = .next t ∧
         (if s.setsMatch n.val k then onlyParts [.mem, .poison, .tiles] s t ∧
            t.read (s.masterAt n.val) (2 ^ 19) = s.read (planeBase n.val k) (2 ^ 19) ∧
            t.tile n.val = { x with masterEpoch := some ((s.dirOf n.val).epoch k) } ∧
            onlyBytes (s.masterAt n.val) (2 ^ 19) s t
          else t.tiles = s.tiles ∧ t.log.serial = s.log.serial + 1)) ∧
     ((s.dirOf n.val).live = none ∨ x.masterEpoch.isSome = true → exec (.masterRewriteDone n) s = .next s) ∧
     (x.restoring = false → ∀ ok, exec (.weightScopeRestoreDone n ok) s = .next s) ∧
     (∀ ok, x.restoring = true →
       ∃ t, exec (.weightScopeRestoreDone n ok) s = .next t ∧
         (if ok = true ∧ (s.restoreTile n.val).2 = true then
            t.mem = (s.restoreTile n.val).1.mem ∧ t.serve = (s.restoreTile n.val).1.serve
          else t.mem = s.mem ∧ t.tile n.val = { x with restoring := false, lost := true } ∧
            t.serve.lostTiles = s.serve.lostTiles ++ [n.val] ∧ onlyParts [.tiles, .serve] s t)) ∧
     (s.epochs.live = none ∨ x.drifted = false ∨ s.serve.posted = false → exec (.driftRefreshStart n) s = .next s) ∧
     (∀ e, s.epochs.live = some e → x.drifted = true → s.serve.posted = true →
       (s.epochBusy = true ∨ s.serve.loadTicket.isSome = true → exec (.driftRefreshStart n) s =
         .next { s with epochs := { s.epochs with refreshDue := true } }) ∧
       (s.epochBusy = false → s.serve.loadTicket = none →
         ∃ t l, exec (.driftRefreshStart n) s = .next t ∧ t.epochs.load = some l ∧ t.epochs.refreshDue = false ∧
           l.manifest = refreshManifest (e + 1) (s.mram.postedGen.getD 0))))

/-- Links (R383, R387, R388, R468): training brings a link up with its lanes or fails it, no link of a device with a
domain key is up without keys, a lost lock takes it down, retry replays what is unacknowledged and is exhausted after
8 times, and a sending key gives way to the next at 2^40 flits. A flit is taken only in sequence and whole (R386,
R387): one that fails its FEC, its tag or its place is answered with a `nak`, a good one takes its acknowledgement and
credit and moves the sequence on by one. A command whose own conditions do not hold changes nothing: the model's
choice (log entry 2). Link keys and confirmations are uninterpreted (log entries 8 and 27). -/
def Obligations.LinksAndFlits : Prop :=
  ((∀ (l : Link) (lanes : BitVec 4) (flight : BitVec 16) (far : Node) (nonce confirm : BitVec 256) (s : State),
     s.good = true →
     let use := usableLanes lanes.toNat
     let i : Instr := .linkTrain l lanes flight far nonce confirm
     let event (x : State) (code d2 : Nat) : Prop :=
       x.serve.events = s.serve.events ++ [⟨true, true, BitVec.ofNat 8 code, 0, BitVec.ofNat 32 l.val, BitVec.ofNat 64 d2⟩]
     (s.linkUp l.val = true ∨ s.rowsOf (l.val / 6) < 3 ∨ s.linkEnabled l.val = false → exec i s = .next s) ∧
     (s.linkUp l.val = false → 3 ≤ s.rowsOf (l.val / 6) → s.linkEnabled l.val = true →
       (use = 0 → ∃ t, exec i s = .next t ∧ event t 0x40 2 ∧ onlyParts [.clr, .serve] s t ∧
         t.clr = (s.setLink l.val { s.linkOf l.val with failedAt := some s.now }).clr) ∧
       (use ≠ 0 → s.mram.domainKey = none →
         ∃ t, exec i s = .next t ∧ t.linkUp l.val = true ∧ t.flag (linkStat l.val) 30 = decide (use ≠ 15) ∧
           t.flag (linkStat l.val) 29 = true ∧ t.fld (linkStat l.val) 27 24 = use ∧
           t.fld (linkStat l.val) 15 0 = flight.toNat ∧ event t 0x41 (if use = 15 then 4 else 2) ∧
           (∀ c, c < 4 → look 0 (t.linkOf l.val).credit c = 1024) ∧ (t.linkOf l.val).rxSeq = 0 ∧
           onlyRegs [linkStat l.val] s t ∧ onlyParts [.regs, .clr, .serve] s t) ∧
       (use ≠ 0 → s.mram.domainKey ≠ none →
         ∃ t, exec i s = .next t ∧ (t.linkUp l.val = true → t.linkKeyed l.val = true) ∧ t.mram = s.mram)) ∧
     exec (.linkRetrain l) s = .next (if s.linkUp l.val then s
       else s.setLink l.val { s.linkOf l.val with failedAt := some s.now }) ∧
     (s.linkUp l.val = false → exec (.linkLockLost l) s = .next s) ∧
     (s.linkUp l.val = true → (s.linkOf l.val).waiting = [] →
       ∃ t, exec (.linkLockLost l) s = .next t ∧ t.linkUp l.val = false ∧ t.flag (linkStat l.val) 29 = false ∧
         counted (CLR_L_DISC (l.val / 6) (l.val % 6)) (s.linkOf l.val).replay.length s t ∧ event t 0x40 1 ∧
         t.clr = (s.setLink l.val { LinkState.down with failedAt := some s.now }).clr ∧
         onlyParts [.regs, .clr, .serve] s t)) ∧
   (∀ (l : Link) (s : State), s.good = true →
     let k := s.linkOf l.val
     (k.replay = [] → exec (.replayTimeout l) s = .next s) ∧
     (k.replay ≠ [] → (∀ e, e ∈ k.replay → e.2 < 8) →
       ∃ t, exec (.replayTimeout l) s = .next t ∧
         t.clr = (s.setLink l.val { k with replay := k.replay.map (fun e => (e.1, e.2 + 1)) }).clr ∧
         t.out = s.out ++ k.replay.map (fun e => .replay l.val e.1) ∧
         counted (CLR_L_REPLAY (l.val / 6) (l.val % 6)) k.replay.length s t ∧ onlyParts [.regs, .clr, .out] s t) ∧
     (∀ e, e ∈ k.replay → 8 ≤ e.2 → k.waiting = [] →
       ∃ t, exec (.replayTimeout l) s = .next t ∧ t.linkUp l.val = false ∧ t.log.serial = s.log.serial + 1 ∧
         counted (CLR_L_DISC (l.val / 6) (l.val % 6)) k.replay.length s t)) ∧
   (∀ (l : Link) (key : BitVec 256) (s : State), s.mram.domainKey = some key →
     let o := look (0, 0, 0) s.sec.linkKeys (2 * l.val)
     (s.linkKeyed l.val = false ∨ look 0 s.sec.linkFlits (2 * l.val) < 2 ^ 40 → exec (.linkKeyRollover l) s = .next s) ∧
     (s.linkKeyed l.val = true → 2 ^ 40 ≤ look 0 s.sec.linkFlits (2 * l.val) →
       ∃ t, exec (.linkKeyRollover l) s = .next t ∧ (look (0, 0, 0) t.sec.linkKeys (2 * l.val)).2.2 = o.2.2 + 1 ∧
         t.sec.oldKeys = put (0, 0, 0, 0) s.sec.oldKeys (2 * l.val) (o.1, o.2.1, o.2.2, (s.linkOf l.val).txSeq + 1) ∧
         t.sec.linkFlits = put 0 s.sec.linkFlits (2 * l.val) 0 ∧ onlyParts [.sec] s t))) ∧
  (∀ (l : Link) (f : Flit) (s : State), s.good = true →
     let p := l.val / 6
     let k := s.linkOf l.val
     (s.linkUp l.val = false → exec (.flitReceive l f) s = .next s) ∧
     (s.linkUp l.val = true →
       (f.fecOk = false ∨ f.tagOk = false ∨ f.seq ≠ k.rxSeq + 1 →
         ∃ t, exec (.flitReceive l f) s = .next t ∧ t.out = s.out ++ [.nak l.val k.rxSeq] ∧
           counted (CLR_L_FECCOR p (l.val % 6)) f.corrected s t ∧
           (f.fecOk = false → counted (CLR_L_FECBAD p (l.val % 6)) 1 s t) ∧
           (f.fecOk = true → f.tagOk = false → counted (CLR_L_TAGBAD p (l.val % 6)) 1 s t) ∧
           onlyParts [.regs, .out] s t) ∧
       (f.fecOk = true → f.tagOk = true → f.seq = k.rxSeq + 1 → f.nak = false → f.newKey = false →
         f.cmds = [] ∨ s.linkKeyed l.val = false → k.waiting = [] →
         ∃ t, exec (.flitReceive l f) s = .next t ∧ counted (CLR_L_RX p (l.val % 6)) 1 s t ∧
           t.clr = (s.setLink l.val { k with
             rxSeq := f.seq, replay := k.replay.filter (fun e => !seqAcked f.ack e.1),
             credit := put 0 k.credit f.chan.val (Nat.min (look 0 k.credit f.chan.val + f.credit) 1024) }).clr ∧
           onlyParts [.regs, .clr, .sec] s t)))

/-- Remote accesses (R385, R390, R391, R393, R397): a write that its checks allow stands in memory and its landed count
rises, one they refuse is counted and recorded and lands nothing; a read is answered with its bytes; the answer
reaches the channel that asked, and a refusal or a silence ends its transfer. A settled signal waits at its die's
Clearing port until the landed counts reach its count, and then adds to its Tally (R249, R393, R394). A command whose
own conditions do not hold changes nothing: the model's choice (log entry 2). -/
def Obligations.RemoteAccessesAndSignals : Prop :=
  ((∀ (p : Port) (c : ClrCmd) (data : List Codeword) (s : State), s.good = true →
     let gs := (s.takeGranules p.val data).2
     (s.hasNode = false → exec (.clrWrite p c data) s = .next s ∧ exec (.clrReadRequest p c) s = .next s ∧
       exec (.clrReadResponse p c data) s = .next s ∧ exec (.clrRefusal p c) s = .next s) ∧
     (s.hasNode = true → s.forMe c = true → (s.takeGranules p.val data).1 = s →
       (s.remoteWriteOk c = true → data.length = c.gran.toNat →
         let bs := granuleBytes c gs
         ∃ t, exec (.clrWrite p c data) s = .next t ∧
           t.read (spaceKey (adSpace c.dst) (clrAt c)) bs.length = bs.map Prod.fst ∧
           onlyBytes (spaceKey (adSpace c.dst) (clrAt c)) bs.length s t ∧
           t.clr = { s.clr with
             landed := upd 0 s.clr.landed (landedKey p.val (clrSrcNode c) (clrSrcDie c)) (· + 1) } ∧
           onlyParts [.mem, .poison, .clr] s t) ∧
       (s.remoteWriteOk c = false ∨ data.length ≠ c.gran.toNat →
         ∃ t, exec (.clrWrite p c data) s = .next t ∧ counted (CLR_CNT_REFUSED p.val) 1 s t ∧
           t.log.serial = s.log.serial + 1 ∧ t.clr.landed = s.clr.landed) ∧
       (∀ d k lo, s.readOf c.tag = some (d, k, lo) →
         ∃ t, exec (.clrReadResponse p c data) s = .next t ∧
           t.chan d.val k = { s.chan d.val k with
             arrived := (s.chan d.val k).arrived ++ [(lo, granuleBytes c gs)] } ∧
           t.clr = { s.clr with reads := put (64, 64, 0) s.clr.reads c.tag.toNat (64, 64, 0) } ∧
           onlyParts [.clr, .dma] s t) ∧
       (s.readOf c.tag = none → exec (.clrReadResponse p c data) s = .next s ∧ exec (.clrRefusal p c) s = .next s))) ∧
   (∀ (p : Port) (c : ClrCmd) (s : State), s.good = true → s.hasNode = true → s.forMe c = true →
     (s.remoteReadOk c = false → ∃ t, exec (.clrReadRequest p c) s = .next t ∧ counted (CLR_CNT_REFUSED p.val) 1 s t ∧
       t.log.serial = s.log.serial + 1) ∧
     (s.remoteReadOk c = true → adSpace c.dst = 0 ∨ adSpace c.dst = 1 ∨ adSpace c.dst = 4 →
       let gs := granulesOf (clrAt c) (s.spaceRead (adSpace c.dst) (clrAt c) (clrLen c))
       (s.routeOf (clrSrcNode c) = none → exec (.clrReadRequest p c) s = .next s) ∧
       (∀ l, s.routeOf (clrSrcNode c) = some l → (s.linkOf l).waiting = [] →
         1 + gs.length ≤ look 0 (s.linkOf l).credit 1 → (s.linkOf l).replay.length + cmdFlits gs ≤ 256 →
         ∃ t r, exec (.clrReadRequest p c) s = .next t ∧ t.out = s.out ++ [.clr l r gs] ∧ r.op = 3 ∧ r.tag = c.tag ∧
           r.lead = c.lead ∧ r.tail = c.tail ∧ t.mem = s.mem ∧
           (t.linkOf l).credit = upd 0 (s.linkOf l).credit 1 (fun x => x - (1 + gs.length))))) ∧
   (∀ (i : Instr) (p : Port) (c : ClrCmd) (tag : BitVec 16) (s : State), s.good = true →
     (i = .clrRefusal p c ∧ c.tag = tag ∧ s.hasNode = true ∧ s.forMe c = true) ∨ i = .readTimeout tag →
     (s.readOf tag = none → exec i s = .next s) ∧
     (∀ d k lo x, s.readOf tag = some (d, k, lo) → k < 64 → (s.chan d.val k).desc = some x → (s.chan d.val k).mover = none →
       ∃ t, exec i s = .next t ∧ t.flag (DMA_STAT d.val k) 27 = true ∧ t.fld (DMA_STAT d.val k) 24 21 = 9 ∧
         t.dma = (s.setChan d.val k Channel.idle).dma ∧ t.log.serial = s.log.serial + 1))) ∧
  ((∀ (p : Port) (c : ClrCmd) (s : State), s.good = true → s.hasNode = true → s.forMe c = true →
     let h : HeldSignal := ⟨p.val, clrSrcNode c, clrSrcDie c, c.count, c.tally.toNat, c.inc.toNat⟩
     let y := s.tallyOf h.tally
     (c.inc = 0 ∨ 15 < c.inc.toNat ∨ 2 ^ 14 ≤ c.tally.toNat →
       ∃ t, exec (.settledSignal p c) s = .next t ∧ counted (CLR_CNT_REFUSED p.val) 1 s t ∧ t.tallies = s.tallies ∧
         t.clr.held = s.clr.held) ∧
     (c.inc ≠ 0 → c.inc.toNat ≤ 15 → c.tally.toNat < 2 ^ 14 → c.src.toNat < 2 ^ 14 →
       (∀ x, x ∈ s.clr.held → s.settled x = false) →
       (s.settled h = false → exec (.settledSignal p c) s =
         .next { s with clr := { s.clr with held := s.clr.held ++ [h] } }) ∧
       (s.settled h = true → y.kind = tallyCounter → y.value + h.inc ≤ 0x7FFFFFFF →
         ∃ t, exec (.settledSignal p c) s = .next t ∧ t.clr = s.clr ∧
           t.tallies = (s.setTally h.tally { y with value := y.value + h.inc }).tallies ∧ onlyParts [.tallies] s t))) ∧
   (∀ (p : Port) (node : Node) (die : Die) (s : State), s.good = true →
     let n := look 0 s.clr.landed (landedKey p.val node.val die.val)
     let heard := (List.range 4).foldl (fun m d => put 0 m (heardKey d p.val node.val die.val) n) s.clr.heard
     let z : State := { s with clr := { s.clr with heard := heard } }
     ((∀ h, h ∈ s.clr.held → z.settled h = false) → exec (.landedCountUpdate p node die) s = .next z) ∧
     (∀ h, s.clr.held = [h] → z.settled h = true →
       let y := s.tallyOf h.tally
       y.kind = tallyCounter → y.value + h.inc ≤ 0x7FFFFFFF →
       ∃ t, exec (.landedCountUpdate p node die) s = .next t ∧ t.clr = { z.clr with held := [] } ∧
         t.tallies = (s.setTally h.tally { y with value := y.value + h.inc }).tallies ∧
         onlyParts [.clr, .tallies] s t)))

/-- Rolls keep the domain (R399 to R402): a Branch's roll is sent, taken into the directory and acknowledged, or
conflicts; silence marks a member, the Treasury or the peer lost; a Branch's records reach its Treasury. A command
whose own conditions do not hold changes nothing: the model's choice (log entry 2). -/
def Obligations.RollsKeepTheDomain : Prop :=
  (∀ s : State, s.good = true →
    let flags := s.flag (CLR_ROLL 0)
    let event (x : State) (code d1 d2 : Nat) : Prop := x.serve.events = s.serve.events ++
      [⟨true, true, BitVec.ofNat 8 code, 0, BitVec.ofNat 32 d1, BitVec.ofNat 64 d2⟩]
    (s.role = 1 → exec .rollSend s = .next (if (s.linkFor s.treasury).isSome then
      { s with out := s.out ++ [.roll s.treasury s.ownRoll] } else s)) ∧
    (s.role = 0 → exec .rollSend s = .next s) ∧
    (s.role = 1 → flags 31 = false →
      ∃ t, exec .treasuryAckTimeout s = .next t ∧ t.flag (CLR_ROLL 0) 31 = true ∧ t.flag (CLR_ID 0) 28 = false ∧
        event t 0x46 s.treasury 0 ∧ onlyRegs [CLR_ROLL 0, CLR_ID 0] s t) ∧
    (s.role ≠ 1 ∨ flags 31 = true → exec .treasuryAckTimeout s = .next s) ∧
    (s.role = 2 → s.paired = true → flags 30 = false →
      ∃ t, exec .peerRollTimeout s = .next t ∧ t.flag (CLR_ROLL 0) 30 = true ∧ event t 0x47 s.peer 0 ∧
        onlyRegs [CLR_ROLL 0] s t) ∧
    (s.role ≠ 2 ∨ s.paired = false ∨ flags 30 = true → exec .peerRollTimeout s = .next s) ∧
    (s.role ≠ 1 → ∀ c, exec (.rollAcknowledgement c) s = .next s) ∧
    (s.role = 1 → ∃ t, exec (.rollAcknowledgement none) s = .next t ∧ t.flag (CLR_ROLL 0) 31 = false ∧
      t.flag (CLR_ID 0) 28 = true ∧ t.clr = { s.clr with kept := [], ackSeen := s.now } ∧
      t.out = s.out ++ s.clr.kept.map (fun r => .faultRecord s.treasury r) ∧ onlyRegs [CLR_ROLL 0, CLR_ID 0] s t) ∧
    (∀ range, s.role = 1 → ∃ t, exec (.rollAcknowledgement (some range)) s = .next t ∧ t.flag (CLR_ID 0) 29 = true ∧
      t.flag (CLR_ID 0) 28 = false ∧ event t 0x45 s.node range.toNat ∧ onlyRegs [CLR_ID 0] s t)) ∧
  (∀ (r : Roll) (s : State), s.good = true →
    (s.role ≠ 2 → exec (.rollReceive r) s = .next s) ∧
    (s.role = 2 → r.isPeer = true → s.paired = true → r.node.val = s.peer →
      ∃ t, exec (.rollReceive r) s = .next t ∧ t.flag (CLR_ROLL 0) 30 = false ∧
        t.clr = { s.clr with peerSeen := s.now } ∧ onlyRegs [CLR_ROLL 0] s t) ∧
    (s.role = 2 → r.isPeer = false → s.domIndex r.node.val = none →
      ∃ t, exec (.rollReceive r) s = .next t ∧ t.clr = s.clr ∧ t.out = s.out ++ [.rollConflict r.node.val true]) ∧
    (∀ n, s.role = 2 → r.isPeer = false → s.domIndex r.node.val = some n →
      let e := look DomEntry.absent s.clr.dir n
      (r.node.val = s.node ∨ (e.st ≠ 0 ∧ e.identity ≠ r.identity) →
        ∃ t, exec (.rollReceive r) s = .next t ∧ t.clr = s.clr ∧ t.out = s.out ++ [.rollConflict r.node.val false]) ∧
      (r.node.val ≠ s.node → e.st = 0 ∨ e.identity = r.identity →
        ∃ t, exec (.rollReceive r) s = .next t ∧ t.out = s.out ++ [.rollAck r.node.val] ∧
          t.clr = { s.clr with dir := put DomEntry.absent s.clr.dir n { e with
            node := r.node.val, st := 1, generation := r.generation, epoch := r.epoch, probe := r.probe, seen := s.now,
            identity := r.identity } } ∧ onlyParts [.mem, .poison, .clr, .serve, .out] s t))) ∧
  (∀ (m : Node) (r : FaultRecord) (n : Nat) (s : State), s.good = true → s.domIndex m.val = some n →
    let e := look DomEntry.absent s.clr.dir n
    (s.role ≠ 2 → exec (.memberRollTimeout m) s = .next s ∧ exec (.faultRecordForward m r) s = .next s) ∧
    (s.role = 2 → e.st ≠ 1 → exec (.memberRollTimeout m) s = .next s) ∧
    (s.role = 2 → e.st = 1 →
      ∃ t, exec (.memberRollTimeout m) s = .next t ∧
        t.clr = { s.clr with dir := put DomEntry.absent s.clr.dir n { e with st := 2 } } ∧
        onlyParts [.mem, .poison, .clr, .serve] s t) ∧
    (s.role = 2 → e.st ≠ 0 → s.logFull = false →
      ∃ t, exec (.faultRecordForward m r) s = .next t ∧
        t.clr.dir = put DomEntry.absent s.clr.dir n { e with forwarded := e.forwarded + 1 } ∧
        counted DBK_CNT_RECORDS 1 s t ∧
        t.fld DBK_FLOG_HEAD 15 0 = (s.fld DBK_FLOG_HEAD 15 0 + 1) % 65536 ∧ t.log.serial = s.log.serial))

/-- What a fetch brings is checked before it is used (R284, R310, R325, R326): tokens wait for the posting point, an
endorsement's image is Resident or Corrupt, and a sealed one that no longer agrees is recorded and given up. Probes
(R364, R376, R377): a set that arrives waits for the posting point, a die runs the probe whose turn it is once its
unit is free, a failure is counted and recorded, and the fault log's tail moves only as far as its head. A command
whose own conditions do not hold changes nothing: the model's choice (log entry 2). -/
def Obligations.FetchedImagesAndProbes : Prop :=
  ((∀ (k : Slot) (ok : Bool) (ws : List Word32) (s : State),
     let q := s.seq k.val
     (q.fetch = none ∨ q.fetched.isSome = true → exec (.tokenFetchComplete k ok ws) s = .next s) ∧
     (∀ t, q.fetch = some t → q.fetched = none → exec (.tokenFetchComplete k ok ws) s =
       .next (s.setSeq k.val { q with fetched := some (ok && ws.length == t.fetchCount, ws) }))) ∧
   (∀ (n c : Nat) (ok : Bool) (data : List Byte) (s : State), s.good = true →
     let x := s.endoOf n
     let e := look CacheEntry.none s.cache c
     let table := keyOf 0 (Config.endoTable.toNat + 32 * n)
     let good : Bool := ok && data.length == x.length && (badShard x.digests data).isNone
     (x.cache = none → exec (.endoFetchComplete n ok data) s = .next s ∧ exec (.endoRecheck n) s = .next s) ∧
     (x.cache = some c → x.st ≠ 3 → exec (.endoFetchComplete n ok data) s = .next s) ∧
     (x.cache = some c → x.st ≠ 4 ∨ x.sealed_ = false → exec (.endoRecheck n) s = .next s) ∧
     (x.cache = some c → x.st = 3 → good = true →
       ∃ t, exec (.endoFetchComplete n ok data) s = .next t ∧ onlyParts [.mem, .poison, .endo] s t ∧
         t.endo = (s.setEndo n { x with st := 4, checked := BitVec.ofNat 32 s.now.toNat }).endo ∧
         ∀ i b, data[i]? = some b → s.cacheAt e + i < table ∨ table + 32 ≤ s.cacheAt e + i → t.byte (s.cacheAt e + i) = b) ∧
     (x.cache = some c → x.st = 3 → good = false →
       ∃ t, exec (.endoFetchComplete n ok data) s = .next t ∧ t.log.serial = s.log.serial + 1 ∧
         t.cache = s.cache.filter (fun y => y.1 != c) ∧
         t.endo = (s.setEndo n { x with st := 5, cache := none }).endo) ∧
     (x.cache = some c → x.st = 4 → x.sealed_ = true →
       (badShard x.digests (s.read (s.cacheAt e) x.length) = none →
         ∃ t, exec (.endoRecheck n) s = .next t ∧ onlyParts [.mem, .poison, .endo] s t ∧
           t.endo = (s.setEndo n { x with checked := BitVec.ofNat 32 s.now.toNat }).endo) ∧
       (badShard x.digests (s.read (s.cacheAt e) x.length) ≠ none →
         ∃ t, exec (.endoRecheck n) s = .next t ∧ t.log.serial = s.log.serial + 1 ∧
           t.serve.stale = s.serve.stale ++ [n] ∧ t.endo = s.endo)))) ∧
  ((∀ (img : List Byte) (s : State), exec (.probeSetArrival img) s =
     .next { s with serve := { s.serve with probeIn := s.serve.probeIn ++ [img] } }) ∧
   (∀ (d : Die) (p : ProbeSet) (e i : Nat) (s : State), s.good = true → s.mram.probeSet = some p →
     let kind := (p.entries.getD e ⟨0, false, 0, 0, 0, 0, 0, 0⟩).kind
     (look none s.probes.running d.val ≠ none ∨ s.booted = false ∨ s.coreRuns (d.val / 2) = false →
       exec (.probeStart d) s = .next s) ∧
     (look none s.probes.running d.val = none → s.booted = true → s.coreRuns (d.val / 2) = true →
       s.dieTargets d.val = [] → s.nextProbe p d.val = some (false, e, i) →
       (s.probeIdle kind i = false → exec (.probeStart d) s = .next s) ∧
       (s.probeIdle kind i = true →
         ∃ t, exec (.probeStart d) s = .next t ∧ counted DBK_CNT_PROBE 1 s t ∧ onlyParts [.regs, .probes] s t ∧
           look none t.probes.running d.val = some (e, i) ∧
           t.probes.next = put (0, 0) s.probes.next d.val (e, if kind = 5 ∨ kind = 6 then 2 ^ 40 else i + 1)))) ∧
   (∀ (d : Die) (p : ProbeSet) (e i site : Nat) (s : State), s.good = true → s.mram.probeSet = some p →
     (look none s.probes.running d.val = none → ∀ ok, exec (.probeComplete d ok site) s = .next s) ∧
     (look none s.probes.running d.val = some (e, i) → (look (0, 0) s.probes.next (4 + d.val)).1 = 0 →
       (∃ t, exec (.probeComplete d true site) s = .next t ∧ onlyParts [.probes] s t ∧
         t.probes.running = put none s.probes.running d.val none ∧ t.probes.targets = s.probes.targets) ∧
       (∃ t, exec (.probeComplete d false site) s = .next t ∧ counted DBK_CNT_PROBEFAIL 1 s t ∧
         t.log.serial = s.log.serial + 1 ∧ t.probes.running = put none s.probes.running d.val none))) ∧
   (∀ (w : Src) (tail : BitVec 16) (s : State), s.good = true → s.holder w = true →
     let head := s.fld DBK_FLOG_HEAD 15 0
     let old := s.fld DBK_FLOG_TAIL 15 0
     let inside : Prop := (tail.toNat + 65536 - old) % 65536 ≤ (head + 65536 - old) % 65536
     (inside → ∃ t, exec (.faultLogTailWrite w tail) s = .next t ∧ t.fld DBK_FLOG_TAIL 15 0 = tail.toNat ∧
       onlyRegs [DBK_FLOG_TAIL] s t ∧ onlyParts [.regs] s t) ∧
     (¬inside → exec (.faultLogTailWrite w tail) s = .next s)))

/-- A staged Charter comes to the end of its copy and check once (R446): one of the wrong length is a FETCH_ERROR, any
other stands in the staged slot with the status of its check; nothing but a check that ends ready programs a bank. A
command whose own conditions do not hold changes nothing: the model's choice (log entry 2). -/
def Obligations.StagedChartersAreChecked : Prop :=
  ∀ (image : List Byte) (programmed : Bool) (k : Ticket) (s : State), s.good = true →
    let len := k.field 19 16
    let gen := k.field 21 20
    let bytes := (s.ledgerRead (BitVec.ofNat 64 (k.field 15 8)) len).getD image
    let z := s.write stagedSlot bytes
    let st := (z.charterStatus stagedSlot len gen programmed).1
    let d := (z.charterStatus stagedSlot len gen programmed).2
    (s.serve.stageTicket = none ∨ s.serve.stageStatus.isSome = true →
      exec (.charterReady image programmed) s = .next s) ∧
    (s.serve.stageTicket = some k → s.serve.stageStatus = none →
      (bytes.length ≠ len → exec (.charterReady image programmed) s = .next { s with serve := { s.serve with
        staged := none, stagedOk := false, stageStatus := some (BitVec.ofNat 16 stFetchError, 0) } }) ∧
      (bytes.length = len → ∃ t, exec (.charterReady image programmed) s = .next t ∧
        t.serve = { s.serve with
          staged := some (BitVec.ofNat 16 gen), stagedOk := st == stOk,
          stageStatus := some (BitVec.ofNat 16 st, BitVec.ofNat 32 d) } ∧
        (st ≠ stOk → onlyParts [.mem, .poison, .serve] s t ∧ t.read stagedSlot len = bytes ∧
          onlyBytes stagedSlot len s t)))

/-- Posting points (R288, R301, R437, R450): none is held while the Clerks may not, or while a queue of the step has not
finished; one that is held leaves no answer and no token unsaid, and counts the step, unless a handover holds its
release. What becomes of a row whose sequence still runs (R240, R241, R289, R296): a token drawn joins the log, is
counted and said, and ends the sequence at a stop token; a faulted row is withheld and the third in a row ends its
sequence. A command whose own conditions do not hold changes nothing: the model's choice (log entry 2). -/
def Obligations.PostingPointsAndRows : Prop :=
  (∀ s : State,
     (s.mayPost = false ∨ s.serve.posted = false ∨ s.serve.running = false ∨ s.inHold = true ∨ s.stepFinished = false →
       exec .postingPoint s = .next s) ∧
     (s.mayPost = false ∨ s.serve.running = true → exec .emptyPostingPoint s = .next s) ∧
     (s.mayPost = true → s.serve.posted = true → s.serve.running = true → s.inHold = false → s.stepFinished = true →
       ∃ t, exec .postingPoint s = .next t ∧ (t.serve.heldPost.isSome = true ∨
         (t.serve.answers = [] ∧ t.serve.said = [] ∧ t.serve.running = true ∧
           t.reg GLB_STEP = BitVec.ofNat 64 s.stepNow))) ∧
     (s.mayPost = true → s.serve.running = false →
       ∃ t, exec .emptyPostingPoint s = .next t ∧ t.serve.answers = [] ∧ t.serve.said = [])) ∧
  (∀ (r : Row) (s : State), s.good = true →
     let q := s.seq r.slot
     let handle := s.handleOf r.slot
     q.st ≠ 0 → q.ending = false → r.poisoned = false → r.tuning = false → r.sample = true →
     (∀ tk, r.faulted = false → r.lostChunk = false → r.token = some tk → s.pastDeadline q = false →
       q.stops.contains tk = false → q.maxNew = 0 ∨ q.sinceExt + 1 < q.maxNew → q.logLen + 1 < q.maxLen →
       (s.settleRow r).seq r.slot = { q with
         st := 4, faults := 0, nextPos := r.position + r.tokens, logLen := q.logLen + 1, produced := q.produced + 1,
         sinceExt := q.sinceExt + 1 } ∧
       (s.settleRow r).serve.said = s.serve.said ++
         [⟨r.slot, q.port, q.lane, Entry.token 0 (r.assay.toNat % 16) 0 handle tk q.logLen⟩] ∧
       (s.settleRow r).read (s.tokenKey r.slot q.logLen) 4 = natLe 4 tk ∧
       counted GLB_CNT_TOKENS 1 s (s.settleRow r)) ∧
     (∀ tk, r.faulted = false → r.lostChunk = false → r.token = some tk → s.pastDeadline q = false →
       q.stops.contains tk = true → q.park = false → q.endStatus = none →
       ((s.settleRow r).seq r.slot).endStatus = some (BitVec.ofNat 16 stEndStop)) ∧
     (r.faulted = true →
       ((s.settleRow r).seq r.slot).faults = q.faults + 1 ∧
       (q.faults + 1 < 3 → (s.settleRow r).serve.said = s.serve.said ++
         [⟨r.slot, q.port, q.lane, Entry.token 0 (r.assay.toNat % 16) 1 handle 0 q.logLen⟩]) ∧
       (3 ≤ q.faults + 1 → q.endStatus = none →
         ((s.settleRow r).seq r.slot).endStatus = some (BitVec.ofNat 16 stOrderFault)) ∧
       (s.settleRow r).mem = s.mem))

/-- Commands that only the Warrant holder's port may give change nothing from another function or port (R270, R335, R339,
R346, R364, R436, R440, R443, R453, R454, R464, R480 to R482). -/
def Obligations.OtherWritersChangeNothing : Prop :=
  ∀ (w : Src) (s : State), s.holder w = false →
    exec (.systemResetCmd w) s = .next s ∧ exec (.coreResetCmd w) s = .next s ∧
    exec (.decommissionArm w) s = .next s ∧ exec (.decommission w) s = .next s ∧
    exec (.handoverRequest w) s = .next s ∧ exec (.firmwareUpdateStart w) s = .next s ∧
    exec (.powerReqRun w) s = .next s ∧ exec (.powerReqHold w) s = .next s ∧ exec (.powerReqSleep w) s = .next s ∧
    exec (.tripSeenClear w) s = .next s ∧ exec (.alarmRelease w) s = .next s ∧
    (∀ v, exec (.alarmLevelWrite w v) s = .next s) ∧ (∀ b, exec (.measurementExtend w b) s = .next s) ∧ (∀ c, exec (.powerCapWrite w c) s = .next s) ∧
    (∀ d u, exec (.calStartWrite w d u) s = .next s) ∧ (∀ i, exec (.refbufEnable w i) s = .next s) ∧
    (∀ i m, exec (.trackerClear w i m) s = .next s) ∧
    (∀ d k v, exec (.timerCtrlWrite w d k v) s = .next s ∧ exec (.timerPeriodWrite w d k v) s = .next s) ∧
    (∀ d k, exec (.dmaGo w d k) s = .next s ∧ exec (.dmaStop w d k) s = .next s) ∧
    (∀ b, exec (.blockResetRequest w b) s = .next s) ∧ (∀ b v, exec (.quiesceWrite w b v) s = .next s) ∧
    (∀ tail, exec (.faultLogTailWrite w tail) s = .next s)
end

