-- ==== Sys2Proof/Laws/Maps.lean ====
section
/-! SUPPORT. The laws of the sparse maps: what is read after a write, and that writing keeps the canonical form. -/

namespace Sys2Proof.Machine

section
variable {α : Type}

theorem look_insertAt_self (d : α) (m : SMap α) (k : Nat) (v : α) : look d (insertAt m k v) k = v := by
  induction m with
  | nil => simp [insertAt, look]
  | cons e m ih =>
    obtain ⟨a, w⟩ := e
    unfold insertAt
    split
    · simp [look]
    · split
      · simp [look]
      · next h => simp only [look, if_neg (Ne.symm h)]; exact ih

theorem look_insertAt_other (d : α) (m : SMap α) {k j : Nat} (v : α) (h : k ≠ j) :
    look d (insertAt m k v) j = look d m j := by
  induction m with
  | nil => simp [insertAt, look, h]
  | cons e m ih =>
    obtain ⟨a, w⟩ := e
    unfold insertAt
    split
    · simp [look, h]
    · split
      · next hk => simp [look, h, ← hk]
      · simp [look, ih]

/-- Keys that a test drops read the default, the others as before. -/
theorem look_filter (d : α) (m : SMap α) (p : Nat → Bool) (k : Nat) :
    look d (m.filter (fun e => p e.1)) k = if p k then look d m k else d := by
  induction m with
  | nil => simp [look]
  | cons e m ih =>
    obtain ⟨a, w⟩ := e
    rw [List.filter_cons]
    by_cases ha : a = k
    · subst ha; cases hp : p a <;> simp_all [look]
    · cases hp : p a <;> simp_all [look]

theorem look_keepKeys (d : α) (m : SMap α) (p : Nat → Bool) (k : Nat) :
    look d (keepKeys m p) k = if p k then look d m k else d := look_filter d m p k

theorem filter_insertAt (m : SMap α) (k : Nat) (v : α) :
    (insertAt m k v).filter (fun e => e.1 != k) = m.filter (fun e => e.1 != k) := by
  induction m with
  | nil => simp [insertAt]
  | cons e m ih =>
    obtain ⟨a, w⟩ := e
    unfold insertAt
    split
    · simp
    · split
      · next h => subst h; simp
      · simp [List.filter_cons, ih]

theorem insertAt_insertAt (m : SMap α) (k : Nat) (v w : α) : insertAt (insertAt m k v) k w = insertAt m k w := by
  induction m with
  | nil => simp [insertAt]
  | cons e m ih =>
    obtain ⟨a, x⟩ := e
    by_cases h1 : k < a
    · simp [insertAt, h1]
    · by_cases h2 : k = a
      · simp [insertAt, h2]
      · simp [insertAt, h1, h2, ih]

variable [DecidableEq α]

/-- A write lists the value, or takes the key out where it is the default. -/
theorem put_eq (d : α) (m : SMap α) (k : Nat) (v : α) :
    put d m k v = if v = d then m.filter (fun e => e.1 != k) else insertAt m k v := by
  unfold put
  split
  · next h => simp only [h, ne_eq, not_true, decide_false, Bool.or_false]; exact filter_insertAt m k d
  · next h => simp [h]

/-- A key reads back what was written to it. -/
@[simp] theorem look_put_self (d : α) (m : SMap α) (k : Nat) (v : α) : look d (put d m k v) k = v := by
  rw [put_eq]
  split
  · next h => rw [look_filter d m (fun a => a != k)]; simp [h]
  · exact look_insertAt_self d m k v

/-- A write leaves every other key, whatever default it was written with. -/
theorem look_put_other (c d : α) (m : SMap α) {k j : Nat} (v : α) (h : k ≠ j) : look c (put d m k v) j = look c m j := by
  rw [put_eq]
  split
  · rw [look_filter c m (fun a => a != k)]; simp [Ne.symm h]
  · exact look_insertAt_other c m v h

theorem look_put (d : α) (m : SMap α) (k j : Nat) (v : α) : look d (put d m k v) j = if k = j then v else look d m j := by
  split
  · next h => subst h; exact look_put_self d m k v
  · next h => exact look_put_other d d m v h

/-- A key written twice holds what was written last, where the first value was listed. -/
theorem put_put {d : α} {m : SMap α} {k : Nat} {v w : α} (h : v ≠ d) : put d (put d m k v) k w = put d m k w := by
  rw [put_eq d m k v, if_neg h, put_eq, put_eq]
  split
  · exact filter_insertAt m k v
  · exact insertAt_insertAt m k v w

omit [DecidableEq α] in
/-- A read gives the default or what some entry of the map holds. -/
theorem look_mem (d : α) (m : SMap α) (k : Nat) : look d m k = d ∨ ∃ e ∈ m, e.2 = look d m k := by
  induction m with
  | nil => exact .inl rfl
  | cons e m ih =>
    obtain ⟨a, w⟩ := e
    unfold look
    split
    · exact .inr ⟨(a, w), List.mem_cons_self, rfl⟩
    · rcases ih with h | ⟨e, he, hv⟩
      · exact .inl h
      · exact .inr ⟨e, List.mem_cons_of_mem _ he, hv⟩

/-- What a map lists after a write it listed before, or it is what was written. -/
theorem mem_put {d : α} {m : SMap α} {k : Nat} {v : α} {e : Nat × α} (h : e ∈ put d m k v) : e ∈ m ∨ e = (k, v) := by
  rw [put_eq] at h
  split at h
  · exact .inl ((List.mem_filter.mp h).1)
  · induction m with
    | nil => exact .inr (by simpa [insertAt] using h)
    | cons f m ih =>
      obtain ⟨a, w⟩ := f
      unfold insertAt at h
      split at h
      · simp only [List.mem_cons] at h ⊢; rcases h with h | h <;> simp [h]
      · split at h
        · simp only [List.mem_cons] at h ⊢; rcases h with h | h <;> simp [h]
        · simp only [List.mem_cons] at h ⊢
          rcases h with h | h
          · simp [h]
          · rcases ih h with h | h <;> simp [h]

/-- A canonical map is canonical from any lower key. -/
theorem smapWf_lower {d : α} : ∀ {m : SMap α} {c b : Nat}, b ≤ c → smapWf d c m = true → smapWf d b m = true
  | [], _, _, _, _ => rfl
  | (a, w) :: m, c, b, hb, h => by
    simp only [smapWf, Bool.and_eq_true, decide_eq_true_eq] at h ⊢
    exact ⟨⟨by omega, h.1.2⟩, h.2⟩

/-- Dropping keys keeps the canonical form. -/
theorem filter_wf (d : α) (m : SMap α) (p : Nat → Bool) (b : Nat) (h : smapWf d b m = true) :
    smapWf d b (m.filter (fun e => p e.1)) = true := by
  induction m generalizing b with
  | nil => rfl
  | cons e m ih =>
    obtain ⟨a, w⟩ := e
    simp only [smapWf, Bool.and_eq_true, decide_eq_true_eq] at h
    rw [List.filter_cons]
    split
    · simp only [smapWf, Bool.and_eq_true, decide_eq_true_eq]
      exact ⟨h.1, ih (a + 1) h.2⟩
    · exact ih b (smapWf_lower (by omega) h.2)

theorem keepKeys_wf (d : α) (m : SMap α) (p : Nat → Bool) (b : Nat) (h : smapWf d b m = true) :
    smapWf d b (keepKeys m p) = true := filter_wf d m p b h

/-- A write keeps the canonical form. -/
theorem put_wf (d : α) (m : SMap α) (k : Nat) (v : α) (b : Nat) (hb : b ≤ k) (h : smapWf d b m = true) :
    smapWf d b (put d m k v) = true := by
  rw [put_eq]
  split
  · exact filter_wf d m (fun a => a != k) b h
  · next hv =>
    induction m generalizing b with
    | nil => simp [insertAt, smapWf, hb, hv]
    | cons e m ih =>
      obtain ⟨a, w⟩ := e
      simp only [smapWf, Bool.and_eq_true, decide_eq_true_eq] at h
      unfold insertAt
      split
      · simp only [smapWf, Bool.and_eq_true, decide_eq_true_eq]
        exact ⟨⟨hb, hv⟩, ⟨by omega, h.1.2⟩, h.2⟩
      · split
        · next e => subst e; simp only [smapWf, Bool.and_eq_true, decide_eq_true_eq]; exact ⟨⟨hb, hv⟩, h.2⟩
        · simp only [smapWf, Bool.and_eq_true, decide_eq_true_eq]
          exact ⟨h.1, ih (a + 1) (by omega) h.2⟩

end

/-! ### The register bank, whose default depends on the key -/

/-- A canonical bank is canonical from any lower key. -/
theorem bankWf_lower : ∀ {m : SMap Word64} {c b : Nat}, b ≤ c → bankWf c m = true → bankWf b m = true
  | [], _, _, _, _ => rfl
  | (a, w) :: m, c, b, hb, h => by
    simp only [bankWf, Bool.and_eq_true, decide_eq_true_eq] at h ⊢
    exact ⟨⟨by omega, h.1.2⟩, h.2⟩

/-- Putting registers back to their reset values keeps the bank's canonical form. -/
theorem bankWf_filter (m : SMap Word64) (p : Nat → Bool) (b : Nat) (h : bankWf b m = true) :
    bankWf b (m.filter (fun e => p e.1)) = true := by
  induction m generalizing b with
  | nil => rfl
  | cons e m ih =>
    obtain ⟨a, w⟩ := e
    simp only [bankWf, Bool.and_eq_true, decide_eq_true_eq] at h
    rw [List.filter_cons]
    split
    · simp only [bankWf, Bool.and_eq_true, decide_eq_true_eq]
      exact ⟨h.1, ih (a + 1) h.2⟩
    · exact ih b (bankWf_lower (by omega) h.2)

theorem bankWf_keep (m : SMap Word64) (p : Nat → Bool) (b : Nat) (h : bankWf b m = true) :
    bankWf b (keepKeys m p) = true := bankWf_filter m p b h

/-- Writing a register keeps the bank's canonical form. -/
theorem bankWf_put (m : SMap Word64) (a : Nat) (v : Word64) (b : Nat) (hb : b ≤ a) (h : bankWf b m = true) :
    bankWf b (put (resetVal a) m a v) = true := by
  rw [put_eq]
  split
  · exact bankWf_filter m (fun c => c != a) b h
  · next hv =>
    induction m generalizing b with
    | nil => simp [insertAt, bankWf, hb, hv]
    | cons e m ih =>
      obtain ⟨c, w⟩ := e
      simp only [bankWf, Bool.and_eq_true, decide_eq_true_eq] at h
      unfold insertAt
      split
      · simp only [bankWf, Bool.and_eq_true, decide_eq_true_eq]
        exact ⟨⟨hb, hv⟩, ⟨by omega, h.1.2⟩, h.2⟩
      · split
        · next e => subst e; simp only [bankWf, Bool.and_eq_true, decide_eq_true_eq]; exact ⟨⟨hb, hv⟩, h.2⟩
        · simp only [bankWf, Bool.and_eq_true, decide_eq_true_eq]
          exact ⟨h.1, ih (c + 1) (by omega) h.2⟩

end Sys2Proof.Machine
end

