-- ==== Sys2Proof/Laws/Leads.lean ====
section
/-! SUPPORT. What no command can undo. `View` is what the whole-machine invariants look at; `Closed` lists every way a
command can change it; `Leads m s t` says that t is reached from s by such changes alone and that every part of the state outside
the set m (a number, one bit a part) stays as it was. The files Leads<Group> show it of
every operation of the model, one lemma each, and LeadsExec of every command. -/

namespace Sys2Proof.Machine

/-- Every counter of a table lies in its range (R246). -/
def countersOk (m : SMap Tally) : Prop :=
  ∀ e ∈ m, e.2.kind = tallyCounter → 0 ≤ e.2.value ∧ e.2.value ≤ 0x7FFFFFFF
/-- What the invariants of the device look at. -/
structure View where
  mem : List Host.Cell
  poison : SMap Bool
  tallies : SMap Tally
  regs : SMap Word64
  pending : List Instr
  fuse : Bool
  seed : Bool
  life : Word64
  count : Option Word32
abbrev State.view (s : State) : View := ⟨s.mem, s.poison, s.tallies, s.regs, s.pending, s.mram.fuseBlown, s.mram.seed, s.mram.life, s.mram.ownerCounter⟩
structure Closed (Q : View → Prop) : Prop where
  cell : ∀ v a b, Q v → Q { v with mem := put 0 v.mem a b }
  keep : ∀ v p, Q v → Q { v with mem := keepKeys v.mem p }
  spoil : ∀ v a b, Q v → Q { v with poison := put false v.poison a b }
  clean : ∀ v p, Q v → Q { v with poison := keepKeys v.poison p }
  tally : ∀ v m, (countersOk v.tallies → countersOk m) → Q v → Q { v with tallies := m }
  reg : ∀ v a w, Q v → Q { v with regs := put (resetVal a) v.regs a w }
  clear : ∀ v p, Q v → Q { v with regs := keepKeys v.regs p }
  fuse : ∀ v, Q v → Q { v with fuse := true }
  seed : ∀ v, Q v → Q { v with seed := false }
  life : ∀ v, Q v → Q { v with life := v.life + 1 }
  count : ∀ v c, (∀ o, v.count = some o → o < c) → Q v → Q { v with count := some c }
/-- The set `m` of parts holds every part of the set `k`, as numbers bit by bit. -/
structure Has (m k : Nat) : Prop where
  eq : k &&& m = k
theorem Has.self {m : Nat} : Has m m := ⟨Nat.and_self m⟩
theorem Has.sub {m k j : Nat} (h : Has m k) (e : j &&& k = j) : Has m j :=
  ⟨by rw [← e, Nat.and_assoc, h.eq]⟩
theorem Has.off {m k i : Nat} (h : Has m k) (e : m.testBit i = false) : k.testBit i = false := by
  have := congrArg (fun n => n.testBit i) h.eq
  simpa [Nat.testBit_and, e] using this.symm
theorem StatePart.same_trans {p : StatePart} {s t u : State} (h : p.same s t) (k : p.same t u) : p.same s u := by
  cases p <;> exact Eq.trans k h
structure Leads (fp : Nat) (s t : State) : Prop where
  go : ∀ Q, Closed Q → Q s.view → Q t.view
  same : ∀ p : StatePart, fp.testBit p.index = false → p.same s t
theorem Leads.self {fp : Nat} {s : State} : Leads fp s s := ⟨fun _ _ h => h, fun p _ => by cases p <;> rfl⟩
theorem Leads.on {fp k : Nat} {z s t : State} (hcap : Has fp k) (h : Leads fp z s)
    (g : ∀ Q, Closed Q → Q s.view → Q t.view) (d : ∀ p : StatePart, k.testBit p.index = false → p.same s t) : Leads fp z t :=
  ⟨fun Q hq h0 => g Q hq (h.go Q hq h0), fun p hp => StatePart.same_trans (h.same p hp) (d p (hcap.off hp))⟩
theorem keeps_ite {fp : Nat} {z : State} {c : Prop} [Decidable c] {a b : State} (ha : Leads fp z a) (hb : Leads fp z b) : Leads fp z (if c then a else b) := by split <;> assumption
theorem keeps_dite {fp : Nat} {z : State} {c : Prop} [Decidable c] {a : c → State} {b : ¬ c → State} (ha : ∀ h, Leads fp z (a h)) (hb : ∀ h, Leads fp z (b h)) : Leads fp z (if h : c then a h else b h) := by
  split
  · exact ha _
  · exact hb _
theorem keeps_ite1 {α : Type} {fp : Nat} {z : State} {c : Prop} [Decidable c] {a b : State × α} (ha : Leads fp z a.1) (hb : Leads fp z b.1) : Leads fp z (if c then a else b).1 := by split <;> assumption
theorem keeps_ite2 {α : Type} {fp : Nat} {z : State} {c : Prop} [Decidable c] {a b : α × State} (ha : Leads fp z a.2) (hb : Leads fp z b.2) : Leads fp z (if c then a else b).2 := by split <;> assumption
theorem keeps_ite3 {α β : Type} {fp : Nat} {z : State} {c : Prop} [Decidable c] {a b : α × β × State} (ha : Leads fp z a.2.2) (hb : Leads fp z b.2.2) : Leads fp z (if c then a else b).2.2 := by split <;> assumption
theorem keeps_iteD {fp : Nat} {z : State} {c : Prop} [Decidable c] {a b : Done} (ha : Leads fp z a.state) (hb : Leads fp z b.state) : Leads fp z (if c then a else b).state := by split <;> assumption
theorem keeps_mk {α : Type} {fp : Nat} {z a : State} {x : α} (h : Leads fp z a) : Leads fp z (a, x).1 := h
theorem keeps_mk2 {α : Type} {fp : Nat} {z a : State} {x : α} (h : Leads fp z a) : Leads fp z (x, a).2 := h
theorem keeps_mk3 {α β : Type} {fp : Nat} {z a : State} {x : α} {y : β} (h : Leads fp z a) : Leads fp z (x, y, a).2.2 := h
theorem keeps_doneMk {fp : Nat} {z a : State} {x y} (h : Leads fp z a) : Leads fp z (Done.mk a x y).state := h
theorem keeps_foldl {α : Type} {fp : Nat} {z : State} {f : State → α → State} (hf : ∀ s, Leads fp z s → ∀ x, Leads fp z (f s x)) :
    ∀ {l : List α} {i : State}, Leads fp z i → Leads fp z (l.foldl f i)
  | [], _, h => h
  | _ :: l, _, h => keeps_foldl hf (l := l) (hf _ h _)
theorem keeps_foldl1 {α β : Type} {fp : Nat} {z : State} {f : State × β → α → State × β} (hf : ∀ p, Leads fp z p.1 → ∀ x, Leads fp z (f p x).1) :
    ∀ {l : List α} {i : State × β}, Leads fp z i.1 → Leads fp z (l.foldl f i).1
  | [], _, h => h
  | _ :: l, _, h => keeps_foldl1 hf (l := l) (hf _ h _)
theorem keeps_eq1 {α : Type} {fp : Nat} {z s : State} {p : State × α} {a : α} (e : p = (s, a)) (h : Leads fp z p.1) : Leads fp z s := by
  subst e; exact h
theorem keeps_eq2 {α : Type} {fp : Nat} {z s : State} {p : α × State} {a : α} (e : p = (a, s)) (h : Leads fp z p.2) : Leads fp z s := by
  subst e; exact h
theorem keeps_eq3 {α β : Type} {fp : Nat} {z s : State} {p : α × β × State} {a : α} {b : β} (e : p = (a, b, s)) (h : Leads fp z p.2.2) :
    Leads fp z s := by
  subst e; exact h
/-! ### Primitive -/
theorem keeps_setReg {fp : Nat} (hcap : Has fp 0x2) {z s : State} {a v} (h : Leads fp z s) : Leads fp z (s.setReg a v) :=
  h.on hcap (fun Q hq h0 => hq.reg _ _ _ h0)
    (fun p e => by cases p <;> first | rfl | exact absurd e (by decide))
theorem keeps_clearRegs {fp : Nat} (hcap : Has fp 0x2) {z s : State} {p} (h : Leads fp z s) : Leads fp z (s.clearRegs p) :=
  h.on hcap (fun Q hq h0 => hq.clear _ (fun a => !p a) h0)
    (fun p e => by cases p <;> first | rfl | exact absurd e (by decide))
theorem closed_putBytes {Q} (hq : Closed Q) (bs : List Byte) : ∀ (v : View) (a : Nat), Q v → Q { v with mem := putBytes v.mem a bs } := by
  induction bs with
  | nil => intro v a h; exact h
  | cons b bs ih => intro v a h; exact ih _ _ (hq.cell v a b h)
theorem closed_putAll {Q} (hq : Closed Q) (l : List (Nat × Bool)) : ∀ v : View, Q v → Q { v with poison := putAll false v.poison l } := by
  induction l with
  | nil => intro v h; exact h
  | cons e l ih => intro v h; exact hq.spoil _ e.1 e.2 (ih v h)
theorem keeps_write {fp : Nat} (hcap : Has fp 0xC) {z s : State} {a bs} (h : Leads fp z s) : Leads fp z (s.write a bs) :=
  h.on hcap (fun Q hq h0 => closed_putBytes hq bs _ a (hq.clean _ (fun g => !covers a bs.length g) h0))
    (fun p e => by cases p <;> first | rfl | exact absurd e (by decide))
theorem keeps_spoil {fp : Nat} (hcap : Has fp 0x8) {z s : State} {a n} (h : Leads fp z s) : Leads fp z (s.spoil a n) :=
  h.on hcap (fun Q hq h0 => closed_putAll hq _ _ h0)
    (fun p e => by cases p <;> first | rfl | exact absurd e (by decide))
theorem keeps_wipe {fp : Nat} (hcap : Has fp 0xC) {z s : State} {p} (h : Leads fp z s) : Leads fp z (s.wipe p) :=
  h.on hcap (fun Q hq h0 => hq.keep _ (fun a => !p a) (hq.clean _ (fun g => !p (32 * g)) h0))
    (fun p e => by cases p <;> first | rfl | exact absurd e (by decide))
theorem keeps_put_poison {fp : Nat} (hcap : Has fp 0x8) {z s : State} {a n} (h : Leads fp z s) : Leads fp z ({ s with poison := cleansed s.poison a n }) :=
  h.on hcap (fun Q hq h0 => hq.clean _ (fun g => !covers a n g) h0)
    (fun p e => by cases p <;> first | rfl | exact absurd e (by decide))
theorem keeps_put_time {fp : Nat} (hcap : Has fp 0x10) {z s : State} {x : Time} (h : Leads fp z s) : Leads fp z ({ s with time := x }) :=
  h.on hcap (fun Q hq h0 => h0)
    (fun p e => by cases p <;> first | rfl | exact absurd e (by decide))
theorem keeps_put_rst {fp : Nat} (hcap : Has fp 0x20) {z s : State} {x : ResetCtl} (h : Leads fp z s) : Leads fp z ({ s with rst := x }) :=
  h.on hcap (fun Q hq h0 => h0)
    (fun p e => by cases p <;> first | rfl | exact absurd e (by decide))
theorem keeps_put_dir {fp : Nat} (hcap : Has fp 0x80) {z s : State} {x : SMap DirEntry} (h : Leads fp z s) : Leads fp z ({ s with dir := x }) :=
  h.on hcap (fun Q hq h0 => h0)
    (fun p e => by cases p <;> first | rfl | exact absurd e (by decide))
theorem keeps_put_tiles {fp : Nat} (hcap : Has fp 0x100) {z s : State} {x : SMap Tile} (h : Leads fp z s) : Leads fp z ({ s with tiles := x }) :=
  h.on hcap (fun Q hq h0 => h0)
    (fun p e => by cases p <;> first | rfl | exact absurd e (by decide))
theorem keeps_put_groups {fp : Nat} (hcap : Has fp 0x200) {z s : State} {x : SMap Group} (h : Leads fp z s) : Leads fp z ({ s with groups := x }) :=
  h.on hcap (fun Q hq h0 => h0)
    (fun p e => by cases p <;> first | rfl | exact absurd e (by decide))
theorem keeps_put_gov {fp : Nat} (hcap : Has fp 0x400) {z s : State} {x : SMap Governor} (h : Leads fp z s) : Leads fp z ({ s with gov := x }) :=
  h.on hcap (fun Q hq h0 => h0)
    (fun p e => by cases p <;> first | rfl | exact absurd e (by decide))
theorem keeps_put_assay {fp : Nat} (hcap : Has fp 0x800) {z s : State} {x : SMap Assay} (h : Leads fp z s) : Leads fp z ({ s with assay := x }) :=
  h.on hcap (fun Q hq h0 => h0)
    (fun p e => by cases p <;> first | rfl | exact absurd e (by decide))
theorem keeps_put_lanes {fp : Nat} (hcap : Has fp 0x1000) {z s : State} {x : SMap Hoard} (h : Leads fp z s) : Leads fp z ({ s with lanes := x }) :=
  h.on hcap (fun Q hq h0 => h0)
    (fun p e => by cases p <;> first | rfl | exact absurd e (by decide))
theorem keeps_put_sides {fp : Nat} (hcap : Has fp 0x2000) {z s : State} {x : SMap Nat} (h : Leads fp z s) : Leads fp z ({ s with sides := x }) :=
  h.on hcap (fun Q hq h0 => h0)
    (fun p e => by cases p <;> first | rfl | exact absurd e (by decide))
theorem keeps_put_watch {fp : Nat} (hcap : Has fp 0x4000) {z s : State} {x : SMap Hoard} (h : Leads fp z s) : Leads fp z ({ s with watch := x }) :=
  h.on hcap (fun Q hq h0 => h0)
    (fun p e => by cases p <;> first | rfl | exact absurd e (by decide))
theorem keeps_put_replays {fp : Nat} (hcap : Has fp 0x8000) {z s : State} {x : List Replay} (h : Leads fp z s) : Leads fp z ({ s with replays := x }) :=
  h.on hcap (fun Q hq h0 => h0)
    (fun p e => by cases p <;> first | rfl | exact absurd e (by decide))
theorem keeps_put_queues {fp : Nat} (hcap : Has fp 0x10000) {z s : State} {x : SMap EngState} (h : Leads fp z s) : Leads fp z ({ s with queues := x }) :=
  h.on hcap (fun Q hq h0 => h0)
    (fun p e => by cases p <;> first | rfl | exact absurd e (by decide))
theorem keeps_put_signals {fp : Nat} (hcap : Has fp 0x20000) {z s : State} {x : List Signal} (h : Leads fp z s) : Leads fp z ({ s with signals := x }) :=
  h.on hcap (fun Q hq h0 => h0)
    (fun p e => by cases p <;> first | rfl | exact absurd e (by decide))
theorem keeps_put_tallies {fp : Nat} (hcap : Has fp 0x40000) {z s : State} {x : SMap Tally} (h : Leads fp z s)
    (r : countersOk s.tallies → countersOk x) : Leads fp z ({ s with tallies := x }) :=
  h.on hcap (fun Q hq h0 => hq.tally _ _ r h0)
    (fun p e => by cases p <;> first | rfl | exact absurd e (by decide))
theorem countersOk_put {m : SMap Tally} {t : Nat} {y : Tally} (h : countersOk m)
    (r : y.kind = tallyCounter → 0 ≤ y.value ∧ y.value ≤ 0x7FFFFFFF) : countersOk (put Tally.unused m t y) := by
  intro e he
  rcases mem_put he with h1 | h1
  · exact h e h1
  · subst h1; exact r
theorem countersOk_look {m : SMap Tally} (h : countersOk m) (t : Nat)
    (k : (look Tally.unused m t).kind = tallyCounter) :
    0 ≤ (look Tally.unused m t).value ∧ (look Tally.unused m t).value ≤ 0x7FFFFFFF := by
  rcases look_mem Tally.unused m t with e | ⟨e, he, hk⟩
  · rw [e] at k; exact absurd k (by decide)
  · rw [← hk] at k ⊢; exact h e he k
theorem keeps_setTally {fp : Nat} (hcap : Has fp 0x40000) {z s : State} {t : Nat} {y : Tally} (h : Leads fp z s)
    (r : countersOk s.tallies → y.kind = tallyCounter → 0 ≤ y.value ∧ y.value ≤ 0x7FFFFFFF) :
    Leads fp z (s.setTally t y) :=
  keeps_put_tallies hcap h (fun o => countersOk_put o (r o))
theorem keeps_put_dma {fp : Nat} (hcap : Has fp 0x80000) {z s : State} {x : SMap Channel} (h : Leads fp z s) : Leads fp z ({ s with dma := x }) :=
  h.on hcap (fun Q hq h0 => h0)
    (fun p e => by cases p <;> first | rfl | exact absurd e (by decide))
theorem keeps_put_dmaArb {fp : Nat} (hcap : Has fp 0x100000) {z s : State} {x : SMap DmaArb} (h : Leads fp z s) : Leads fp z ({ s with dmaArb := x }) :=
  h.on hcap (fun Q hq h0 => h0)
    (fun p e => by cases p <;> first | rfl | exact absurd e (by decide))
theorem keeps_put_ports {fp : Nat} (hcap : Has fp 0x200000) {z s : State} {x : SMap PortState} (h : Leads fp z s) : Leads fp z ({ s with ports := x }) :=
  h.on hcap (fun Q hq h0 => h0)
    (fun p e => by cases p <;> first | rfl | exact absurd e (by decide))
theorem keeps_put_serve {fp : Nat} (hcap : Has fp 0x400000) {z s : State} {x : Serve} (h : Leads fp z s) : Leads fp z ({ s with serve := x }) :=
  h.on hcap (fun Q hq h0 => h0)
    (fun p e => by cases p <;> first | rfl | exact absurd e (by decide))
theorem keeps_put_seqs {fp : Nat} (hcap : Has fp 0x800000) {z s : State} {x : SMap Seq} (h : Leads fp z s) : Leads fp z ({ s with seqs := x }) :=
  h.on hcap (fun Q hq h0 => h0)
    (fun p e => by cases p <;> first | rfl | exact absurd e (by decide))
theorem keeps_put_folio {fp : Nat} (hcap : Has fp 0x1000000) {z s : State} {x : SMap Folio} (h : Leads fp z s) : Leads fp z ({ s with folio := x }) :=
  h.on hcap (fun Q hq h0 => h0)
    (fun p e => by cases p <;> first | rfl | exact absurd e (by decide))
theorem keeps_put_staging {fp : Nat} (hcap : Has fp 0x2000000) {z s : State} {x : SMap Stage} (h : Leads fp z s) : Leads fp z ({ s with staging := x }) :=
  h.on hcap (fun Q hq h0 => h0)
    (fun p e => by cases p <;> first | rfl | exact absurd e (by decide))
theorem keeps_put_epochs {fp : Nat} (hcap : Has fp 0x4000000) {z s : State} {x : Epochs} (h : Leads fp z s) : Leads fp z ({ s with epochs := x }) :=
  h.on hcap (fun Q hq h0 => h0)
    (fun p e => by cases p <;> first | rfl | exact absurd e (by decide))
theorem keeps_put_endo {fp : Nat} (hcap : Has fp 0x8000000) {z s : State} {x : SMap EndoEntry} (h : Leads fp z s) : Leads fp z ({ s with endo := x }) :=
  h.on hcap (fun Q hq h0 => h0)
    (fun p e => by cases p <;> first | rfl | exact absurd e (by decide))
theorem keeps_put_cache {fp : Nat} (hcap : Has fp 0x10000000) {z s : State} {x : SMap CacheEntry} (h : Leads fp z s) : Leads fp z ({ s with cache := x }) :=
  h.on hcap (fun Q hq h0 => h0)
    (fun p e => by cases p <;> first | rfl | exact absurd e (by decide))
theorem keeps_put_cal {fp : Nat} (hcap : Has fp 0x20000000) {z s : State} {x : Calib} (h : Leads fp z s) : Leads fp z ({ s with cal := x }) :=
  h.on hcap (fun Q hq h0 => h0)
    (fun p e => by cases p <;> first | rfl | exact absurd e (by decide))
theorem keeps_put_aud {fp : Nat} (hcap : Has fp 0x40000000) {z s : State} {x : SMap Audit} (h : Leads fp z s) : Leads fp z ({ s with aud := x }) :=
  h.on hcap (fun Q hq h0 => h0)
    (fun p e => by cases p <;> first | rfl | exact absurd e (by decide))
theorem keeps_put_sec {fp : Nat} (hcap : Has fp 0x80000000) {z s : State} {x : Sec} (h : Leads fp z s) : Leads fp z ({ s with sec := x }) :=
  h.on hcap (fun Q hq h0 => h0)
    (fun p e => by cases p <;> first | rfl | exact absurd e (by decide))
theorem keeps_put_clr {fp : Nat} (hcap : Has fp 0x100000000) {z s : State} {x : Clearing} (h : Leads fp z s) : Leads fp z ({ s with clr := x }) :=
  h.on hcap (fun Q hq h0 => h0)
    (fun p e => by cases p <;> first | rfl | exact absurd e (by decide))
theorem keeps_put_log {fp : Nat} (hcap : Has fp 0x200000000) {z s : State} {x : Log} (h : Leads fp z s) : Leads fp z ({ s with log := x }) :=
  h.on hcap (fun Q hq h0 => h0)
    (fun p e => by cases p <;> first | rfl | exact absurd e (by decide))
theorem keeps_put_probes {fp : Nat} (hcap : Has fp 0x400000000) {z s : State} {x : Probes} (h : Leads fp z s) : Leads fp z ({ s with probes := x }) :=
  h.on hcap (fun Q hq h0 => h0)
    (fun p e => by cases p <;> first | rfl | exact absurd e (by decide))
theorem keeps_put_power {fp : Nat} (hcap : Has fp 0x800000000) {z s : State} {x : Power} (h : Leads fp z s) : Leads fp z ({ s with power := x }) :=
  h.on hcap (fun Q hq h0 => h0)
    (fun p e => by cases p <;> first | rfl | exact absurd e (by decide))
theorem keeps_put_pins {fp : Nat} (hcap : Has fp 0x1000000000) {z s : State} {x : Pins} (h : Leads fp z s) : Leads fp z ({ s with pins := x }) :=
  h.on hcap (fun Q hq h0 => h0)
    (fun p e => by cases p <;> first | rfl | exact absurd e (by decide))
theorem keeps_put_out {fp : Nat} (hcap : Has fp 0x2000000000) {z s : State} {x : List Out} (h : Leads fp z s) : Leads fp z ({ s with out := x }) :=
  h.on hcap (fun Q hq h0 => h0)
    (fun p e => by cases p <;> first | rfl | exact absurd e (by decide))
theorem keeps_put_free {fp : Nat} (hcap : Has fp 0x4000000000) {z s : State} {x : Nat} (h : Leads fp z s) : Leads fp z ({ s with free := x }) :=
  h.on hcap (fun Q hq h0 => h0)
    (fun p e => by cases p <;> first | rfl | exact absurd e (by decide))
theorem keeps_put_mram {fp : Nat} (hcap : Has fp 0x40) {z s : State} {x : Mram} (h : Leads fp z s)
    (e : ({ s with mram := x } : State).view = s.view) : Leads fp z { s with mram := x } :=
  h.on hcap (fun Q hq h0 => e ▸ h0)
    (fun p e => by cases p <;> first | rfl | exact absurd e (by decide))
theorem keeps_fuse {fp : Nat} (hcap : Has fp 0x40) {z s : State} {d : Bool} (h : Leads fp z s) : Leads fp z ({ s with mram := { s.mram with destroyPending := d, fuseBlown := true } }) :=
  h.on hcap (fun Q hq h0 => hq.fuse _ h0)
    (fun p e => by cases p <;> first | rfl | exact absurd e (by decide))
theorem keeps_seed {fp : Nat} (hcap : Has fp 0x40) {z s : State} {d : Bool} (h : Leads fp z s) : Leads fp z ({ s with mram := { s.mram with seed := false, destroyPending := d } }) :=
  h.on hcap (fun Q hq h0 => hq.seed _ h0)
    (fun p e => by cases p <;> first | rfl | exact absurd e (by decide))
theorem keeps_life {fp : Nat} (hcap : Has fp 0x40) {z s : State}  (h : Leads fp z s) : Leads fp z ({ s with mram := { s.mram with life := s.mram.life + 1 } }) :=
  h.on hcap (fun Q hq h0 => hq.life _ h0)
    (fun p e => by cases p <;> first | rfl | exact absurd e (by decide))
theorem keeps_count {fp : Nat} (hcap : Has fp 0x40) {z s : State} {c : Word32} (h : Leads fp z s) (hc : ∀ o, s.mram.ownerCounter = some o → o < c) : Leads fp z ({ s with mram := { s.mram with ownerCounter := some c } }) :=
  h.on hcap (fun Q hq h0 => hq.count _ c hc h0)
    (fun p e => by cases p <;> first | rfl | exact absurd e (by decide))

end Sys2Proof.Machine
end

