-- ==== Sys2Proof/Laws/LeadsBase.lean ====
section
/-! SUPPORT. Every operation of registers, records, clock, rings, power and resets leads on from its state: one lemma each. -/

namespace Sys2Proof.Machine

/-! ### Regs -/

theorem keeps_setFld {fp : Nat} (hcap : Has fp 0x2) {z : State} {a0 : State} {a1 : Nat} {a2 : Nat} {a3 : Nat}
    {a4 : Nat} (h0 : Leads fp z a0) :
    Leads fp z (State.setFld a0 a1 a2 a3 a4) := by
  unfold State.setFld
  refine keeps_setReg hcap ?_
  exact h0

theorem keeps_setFlag {fp : Nat} (hcap : Has fp 0x2) {z : State} {a0 : State} {a1 : Nat} {a2 : Nat} {a3 : Bool}
    (h0 : Leads fp z a0) :
    Leads fp z (State.setFlag a0 a1 a2 a3) := by
  unfold State.setFlag
  refine keeps_setFld hcap ?_
  exact h0

theorem keeps_bump {fp : Nat} (hcap : Has fp 0x2) {z : State} {a0 : State} {a1 : Nat} {a2 : Nat}
    (h0 : Leads fp z a0) :
    Leads fp z (State.bump a0 a1 a2) := by
  unfold State.bump
  refine keeps_setReg hcap ?_
  exact h0

theorem keeps_clearReg {fp : Nat} (hcap : Has fp 0x2) {z : State} {a0 : State} {a1 : Nat} (h0 : Leads fp z a0) :
    Leads fp z (State.clearReg a0 a1) := by
  unfold State.clearReg
  refine keeps_setReg hcap ?_
  exact h0

/-! ### Ops -/

theorem keeps_writeNat {fp : Nat} (hcap : Has fp 0xC) {z : State} {a0 : State} {a1 : Nat} {a2 : Nat} {a3 : Nat}
    (h0 : Leads fp z a0) :
    Leads fp z (State.writeNat a0 a1 a2 a3) := by
  unfold State.writeNat
  refine keeps_write hcap ?_
  exact h0

theorem keeps_writeP {fp : Nat} (hcap : Has fp 0xC) {z : State} {a0 : State} {a1 : Nat} {a2 : List Byte}
    {a3 : Bool} (h0 : Leads fp z a0) :
    Leads fp z (State.writeP a0 a1 a2 a3) := by
  unfold State.writeP
  refine keeps_ite ?_ ?_
  · refine keeps_spoil (hcap.sub rfl) ?_
    refine keeps_write hcap ?_
    exact h0
  · refine keeps_write hcap ?_
    exact h0

theorem keeps_draw {fp : Nat} (hcap : Has fp 0x4000000000) {z : State} {a0 : State} (h0 : Leads fp z a0) :
    Leads fp z (State.draw a0).2 := by
  unfold State.draw
  refine keeps_mk2 ?_
  exact keeps_put_free hcap h0

theorem keeps_send {fp : Nat} (hcap : Has fp 0x2000000000) {z : State} {a0 : State} {a1 : Out} (h0 : Leads fp z a0) :
    Leads fp z (State.send a0 a1) := by
  unfold State.send
  exact keeps_put_out hcap h0

theorem keeps_event {fp : Nat} (hcap : Has fp 0x400000) {z : State} {a0 : State} {a1 : Bool} {a2 : Bool}
    {a3 : Nat} {a4 : Nat} {a5 : Nat} {a6 : Nat} (h0 : Leads fp z a0) :
    Leads fp z (State.event a0 a1 a2 a3 a4 a5 a6) := by
  unfold State.event
  extract_lets -merge -useContext -underBinder v0
  exact keeps_put_serve hcap h0

theorem keeps_eventAll {fp : Nat} (hcap : Has fp 0x400000) {z : State} {a0 : State} {a1 : Nat} {a2 : Nat}
    {a3 : Nat} (h0 : Leads fp z a0) :
    Leads fp z (State.eventAll a0 a1 a2 a3) := by
  unfold State.eventAll
  refine keeps_event hcap ?_
  exact h0

theorem keeps_eventHolder {fp : Nat} (hcap : Has fp 0x400000) {z : State} {a0 : State} {a1 : Nat} {a2 : Nat}
    {a3 : Nat} (h0 : Leads fp z a0) :
    Leads fp z (State.eventHolder a0 a1 a2 a3) := by
  unfold State.eventHolder
  refine keeps_event hcap ?_
  exact h0

theorem keeps_setTile {fp : Nat} (hcap : Has fp 0x100) {z : State} {a0 : State} {a1 : Nat} {a2 : Tile}
    (h0 : Leads fp z a0) :
    Leads fp z (State.setTile a0 a1 a2) := by
  unfold State.setTile
  exact keeps_put_tiles hcap h0

theorem keeps_setDir {fp : Nat} (hcap : Has fp 0x80) {z : State} {a0 : State} {a1 : Nat} {a2 : DirEntry}
    (h0 : Leads fp z a0) :
    Leads fp z (State.setDir a0 a1 a2) := by
  unfold State.setDir
  exact keeps_put_dir hcap h0

theorem keeps_setSeq {fp : Nat} (hcap : Has fp 0x800000) {z : State} {a0 : State} {a1 : Nat} {a2 : Seq}
    (h0 : Leads fp z a0) :
    Leads fp z (State.setSeq a0 a1 a2) := by
  unfold State.setSeq
  exact keeps_put_seqs hcap h0

theorem keeps_setPort {fp : Nat} (hcap : Has fp 0x200000) {z : State} {a0 : State} {a1 : Nat} {a2 : PortState}
    (h0 : Leads fp z a0) :
    Leads fp z (State.setPort a0 a1 a2) := by
  unfold State.setPort
  exact keeps_put_ports hcap h0

theorem keeps_setAcct {fp : Nat} (hcap : Has fp 0x400000) {z : State} {a0 : State} {a1 : Nat} {a2 : Acct}
    (h0 : Leads fp z a0) :
    Leads fp z (State.setAcct a0 a1 a2) := by
  unfold State.setAcct
  extract_lets -merge -useContext -underBinder v0
  exact keeps_put_serve hcap h0

theorem keeps_setFolio {fp : Nat} (hcap : Has fp 0x1000000) {z : State} {a0 : State} {a1 : Nat} {a2 : Folio}
    (h0 : Leads fp z a0) :
    Leads fp z (State.setFolio a0 a1 a2) := by
  unfold State.setFolio
  exact keeps_put_folio hcap h0

theorem keeps_setEndo {fp : Nat} (hcap : Has fp 0x8000000) {z : State} {a0 : State} {a1 : Nat} {a2 : EndoEntry}
    (h0 : Leads fp z a0) :
    Leads fp z (State.setEndo a0 a1 a2) := by
  unfold State.setEndo
  exact keeps_put_endo hcap h0

theorem keeps_setLink {fp : Nat} (hcap : Has fp 0x100000000) {z : State} {a0 : State} {a1 : Nat}
    {a2 : LinkState} (h0 : Leads fp z a0) :
    Leads fp z (State.setLink a0 a1 a2) := by
  unfold State.setLink
  extract_lets -merge -useContext -underBinder v0
  exact keeps_put_clr hcap h0

theorem keeps_setGroup {fp : Nat} (hcap : Has fp 0x200) {z : State} {a0 : State} {a1 : Nat} {a2 : Nat}
    {a3 : Group} (h0 : Leads fp z a0) :
    Leads fp z (State.setGroup a0 a1 a2 a3) := by
  unfold State.setGroup
  exact keeps_put_groups hcap h0

theorem keeps_setAudit {fp : Nat} (hcap : Has fp 0x40000000) {z : State} {a0 : State} {a1 : Nat} {a2 : Audit}
    (h0 : Leads fp z a0) :
    Leads fp z (State.setAudit a0 a1 a2) := by
  unfold State.setAudit
  exact keeps_put_aud hcap h0

theorem keeps_setChan {fp : Nat} (hcap : Has fp 0x80000) {z : State} {a0 : State} {a1 : Nat} {a2 : Nat}
    {a3 : Channel} (h0 : Leads fp z a0) :
    Leads fp z (State.setChan a0 a1 a2 a3) := by
  unfold State.setChan
  exact keeps_put_dma hcap h0

theorem keeps_setEng {fp : Nat} (hcap : Has fp 0x10000) {z : State} {a0 : State} {a1 : EngUnit} {a2 : EngState}
    (h0 : Leads fp z a0) :
    Leads fp z (State.setEng a0 a1 a2) := by
  unfold State.setEng
  exact keeps_put_queues hcap h0

/-! ### Records -/

theorem keeps_flogPut {fp : Nat} (hcap : Has fp 0xC) {z : State} {a0 : State} {a1 : Nat} {a2 : FaultRecord}
    (h0 : Leads fp z a0) :
    Leads fp z (State.flogPut a0 a1 a2) := by
  unfold State.flogPut
  refine keeps_ite ?_ ?_
  · refine keeps_write hcap ?_
    exact h0
  · exact h0

theorem keeps_logPut {fp : Nat} (hcap : Has fp 0x20000000E) {z : State} {a0 : State} {a1 : FaultRecord}
    (h0 : Leads fp z a0) :
    Leads fp z (State.logPut a0 a1) := by
  unfold State.logPut
  extract_lets -merge -useContext -underBinder v0 v1 v2 v3
  have kv3 : Leads fp z v3 := by
    dsimp -zeta only [v3]
    exact keeps_put_log (hcap.sub rfl) h0
  first | clear_value v3 | skip
  refine keeps_ite ?_ ?_
  · refine keeps_bump (hcap.sub rfl) ?_
    exact keeps_put_log (hcap.sub rfl) h0
  · refine keeps_bump (hcap.sub rfl) ?_
    refine keeps_setFld (hcap.sub rfl) ?_
    refine keeps_flogPut (hcap.sub rfl) ?_
    exact kv3

theorem keeps_forwardRecord {fp : Nat} (hcap : Has fp 0x2100000002) {z : State} {a0 : State} {a1 : FaultRecord}
    (h0 : Leads fp z a0) :
    Leads fp z (State.forwardRecord a0 a1) := by
  unfold State.forwardRecord
  extract_lets -merge -useContext -underBinder v0
  refine keeps_ite ?_ ?_
  · exact h0
  · refine keeps_ite ?_ ?_
    · refine keeps_ite ?_ ?_
      · exact keeps_put_clr (hcap.sub rfl) h0
      · refine keeps_bump (hcap.sub rfl) ?_
        refine keeps_bump (hcap.sub rfl) ?_
        exact h0
    · refine keeps_send (hcap.sub rfl) ?_
      exact h0

theorem keeps_number {fp : Nat} (hcap : Has fp 0x200000000) {z : State} {a0 : State} (h0 : Leads fp z a0) :
    Leads fp z (State.number a0) := by
  unfold State.number
  extract_lets -merge -useContext -underBinder v0
  exact keeps_put_log hcap h0

theorem keeps_writeRecord {fp : Nat} (hcap : Has fp 0x230000000E) {z : State} {a0 : State} {a1 : FaultRecord}
    (h0 : Leads fp z a0) :
    Leads fp z (State.writeRecord a0 a1) := by
  unfold State.writeRecord
  extract_lets -merge -useContext -underBinder v0
  refine keeps_forwardRecord (hcap.sub rfl) ?_
  refine keeps_logPut (hcap.sub rfl) ?_
  exact h0

theorem keeps_setDay {fp : Nat} (hcap : Has fp 0x40) {z : State} {a0 : State} {a1 : Nat} {a2 : Nat}
    {a3 : DayRec} (h0 : Leads fp z a0) :
    Leads fp z (State.setDay a0 a1 a2 a3) := by
  unfold State.setDay
  extract_lets -merge -useContext -underBinder v0
  first | exact keeps_put_mram hcap h0 rfl | exact keeps_fuse hcap h0 | exact keeps_seed hcap h0 | exact keeps_life hcap h0

theorem keeps_makePermanent {fp : Nat} (hcap : Has fp 0x200400002) {z : State} {a0 : State} {a1 : Nat}
    {a2 : Nat × Nat × Nat} (h0 : Leads fp z a0) :
    Leads fp z (State.makePermanent a0 a1 a2) := by
  unfold State.makePermanent
  extract_lets -merge -useContext -underBinder v0 v1 v2
  have kv0 : Leads fp z v0 := by
    dsimp -zeta only [v0]
    refine keeps_bump (hcap.sub rfl) ?_
    exact h0
  first | clear_value v0 | skip
  have kv1 : Leads fp z v1 := by
    dsimp -zeta only [v1]
    refine keeps_eventAll (hcap.sub rfl) ?_
    exact kv0
  first | clear_value v1 | skip
  refine keeps_ite ?_ ?_
  · exact kv1
  · exact keeps_put_log (hcap.sub rfl) kv1

theorem keeps_schedule {fp : Nat} (hcap : Has fp 0x400000000) {z : State} {a0 : State} {a1 : Nat × Nat × Nat}
    (h0 : Leads fp z a0) :
    Leads fp z (State.schedule a0 a1) := by
  unfold State.schedule
  extract_lets -merge -useContext -underBinder v0
  refine keeps_ite ?_ ?_
  · exact h0
  · exact keeps_put_probes hcap h0

theorem keeps_dayEvent {fp : Nat} (hcap : Has fp 0x600400042) {z : State} {a0 : State} {a1 : FaultRecord}
    {a2 : Bool} (h0 : Leads fp z a0) :
    Leads fp z (State.dayEvent a0 a1 a2).1 := by
  unfold State.dayEvent
  extract_lets -merge -useContext -underBinder v0 v1 v2 v3
  have kv3 : Leads fp z v3 := by
    dsimp -zeta only [v3]
    clear_value v2
    split
    · refine keeps_schedule (hcap.sub rfl) ?_
      exact h0
    · exact h0
  first | clear_value v3 | skip
  split
  · extract_lets -merge -useContext -underBinder v4 v5 v6
    have kv6 : Leads fp z v6 := by
      dsimp -zeta only [v6]
      refine keeps_setDay (hcap.sub rfl) ?_
      exact kv3
    first | clear_value v6 | skip
    clear_value v5
    clear_value v2
    split
    · refine keeps_mk ?_
      refine keeps_makePermanent (hcap.sub rfl) ?_
      exact kv6
    · refine keeps_mk ?_
      exact kv6
  · split
    · refine keeps_mk ?_
      refine keeps_setDay (hcap.sub rfl) ?_
      exact kv3
    · extract_lets -merge -useContext -underBinder v7 v8 v9 v10
      have kv7 : Leads fp z v7 := by
        dsimp -zeta only [v7]
        refine keeps_bump (hcap.sub rfl) ?_
        exact kv3
      first | clear_value v7 | skip
      have kv8 : Leads fp z v8 := by
        dsimp -zeta only [v8]
        refine keeps_setFlag (hcap.sub rfl) ?_
        exact kv7
      first | clear_value v8 | skip
      refine keeps_mk ?_
      refine keeps_ite ?_ ?_
      · exact keeps_put_log (hcap.sub rfl) kv8
      · exact keeps_put_log (hcap.sub rfl) kv8

theorem keeps_faultWith {fp : Nat} (hcap : Has fp 0x270040004E) {z : State} {a0 : State} {a1 : FaultRecord}
    {a2 : Bool} (h0 : Leads fp z a0) :
    Leads fp z (State.faultWith a0 a1 a2) := by
  unfold State.faultWith
  extract_lets -merge -useContext -underBinder v0 v1 v2 v3
  have kv0 : Leads fp z v0 := by
    dsimp -zeta only [v0]
    refine keeps_number (hcap.sub rfl) ?_
    exact h0
  first | clear_value v0 | skip
  have kv3 : Leads fp z v3 := by
    dsimp -zeta only [v3]
    refine keeps_ite ?_ ?_
    · exact keeps_put_log (hcap.sub rfl) kv0
    · exact kv0
  first | clear_value v3 | skip
  split
  rename_i x4 x5 e6
  have kx4 : Leads fp z x4 := by
    refine keeps_eq1 e6 ?_
    refine keeps_dayEvent (hcap.sub rfl) ?_
    exact kv3
  refine keeps_writeRecord (hcap.sub rfl) ?_
  exact kx4

theorem keeps_fault {fp : Nat} (hcap : Has fp 0x270040004E) {z : State} {a0 : State} {a1 : FaultRecord}
    (h0 : Leads fp z a0) :
    Leads fp z (State.fault a0 a1) := by
  unfold State.fault
  refine keeps_faultWith hcap ?_
  exact h0

/-! ### Clock -/

theorem keeps_tickVault {fp : Nat} (hcap : Has fp 0x10) {z : State} {a0 : State} (h0 : Leads fp z a0) :
    Leads fp z (State.tickVault a0) := by
  unfold State.tickVault
  extract_lets -merge -useContext -underBinder v0 v1
  exact keeps_put_time hcap h0

theorem keeps_tickTimers {fp : Nat} (hcap : Has fp 0x2) {z : State} {a0 : State} (h0 : Leads fp z a0) :
    Leads fp z (State.tickTimers a0) := by
  unfold State.tickTimers
  extract_lets -merge -useContext -underBinder v0
  refine keeps_foldl ?_ ?_
  · intro y1 hy1 y2
    refine keeps_setReg hcap ?_
    exact hy1
  · exact h0

theorem keeps_tickSettle {fp : Nat} (hcap : Has fp 0x2) {z : State} {a0 : State} (h0 : Leads fp z a0) :
    Leads fp z (State.tickSettle a0) := by
  unfold State.tickSettle
  extract_lets -merge -useContext -underBinder v0
  refine keeps_foldl ?_ ?_
  · intro y1 hy1 y2
    extract_lets -merge -useContext -underBinder v3 v4 v5
    have kv5 : Leads fp z v5 := by
      dsimp -zeta only [v5]
      refine keeps_setFld hcap ?_
      exact hy1
    first | clear_value v5 | skip
    refine keeps_ite ?_ ?_
    · refine keeps_setFlag hcap ?_
      exact kv5
    · exact hy1
  · exact h0

theorem keeps_tick {fp : Nat} (hcap : Has fp 0x12) {z : State} {a0 : State} (h0 : Leads fp z a0) :
    Leads fp z (State.tick a0) := by
  unfold State.tick
  extract_lets -merge -useContext -underBinder v0
  have kv0 : Leads fp z v0 := by
    dsimp -zeta only [v0]
    refine keeps_tickTimers (hcap.sub rfl) ?_
    refine keeps_tickVault (hcap.sub rfl) ?_
    refine keeps_tickSettle (hcap.sub rfl) ?_
    exact h0
  first | clear_value v0 | skip
  exact keeps_put_time (hcap.sub rfl) kv0

/-! ### Rings -/

theorem keeps_setLane {fp : Nat} (hcap : Has fp 0x200000) {z : State} {a0 : State} {a1 : Nat} {a2 : Nat}
    {a3 : Lane} (h0 : Leads fp z a0) :
    Leads fp z (State.setLane a0 a1 a2 a3) := by
  unfold State.setLane
  extract_lets -merge -useContext -underBinder v0
  refine keeps_setPort hcap ?_
  exact h0

theorem keeps_msix {fp : Nat} (hcap : Has fp 0x2000200000) {z : State} {a0 : State} {a1 : Nat} {a2 : Nat}
    {a3 : Nat} (h0 : Leads fp z a0) :
    Leads fp z (State.msix a0 a1 a2 a3) := by
  unfold State.msix
  extract_lets -merge -useContext -underBinder v0
  refine keeps_ite ?_ ?_
  · refine keeps_setPort (hcap.sub rfl) ?_
    exact h0
  · refine keeps_send (hcap.sub rfl) ?_
    exact h0

theorem keeps_announce {fp : Nat} (hcap : Has fp 0x2000200000) {z : State} {a0 : State} {a1 : Nat} {a2 : Nat}
    {a3 : Nat} (h0 : Leads fp z a0) :
    Leads fp z (State.announce a0 a1 a2 a3) := by
  unfold State.announce
  extract_lets -merge -useContext -underBinder v0 v1 v2
  have kv2 : Leads fp z v2 := by
    dsimp -zeta only [v2]
    refine keeps_setPort (hcap.sub rfl) ?_
    exact h0
  first | clear_value v2 | skip
  refine keeps_msix hcap ?_
  exact kv2

theorem keeps_ringWrite {fp : Nat} (hcap : Has fp 0x2000200002) {z : State} {a0 : State} {a1 : Nat} {a2 : Nat}
    {a3 : List Entry} (h0 : Leads fp z a0) :
    Leads fp z (State.ringWrite a0 a1 a2 a3) := by
  unfold State.ringWrite
  extract_lets -merge -useContext -underBinder v0 v1 v2 v3 v4 v5 v6 v7 v8 v9 v10 v11
  have kv4 : Leads fp z v4 := by
    dsimp -zeta only [v4]
    refine keeps_foldl ?_ ?_
    · intro y12 hy12 y13
      refine keeps_send (hcap.sub rfl) ?_
      exact hy12
    · exact h0
  first | clear_value v4 | skip
  have kv6 : Leads fp z v6 := by
    dsimp -zeta only [v6]
    refine keeps_setFld (hcap.sub rfl) ?_
    exact kv4
  first | clear_value v6 | skip
  have kv7 : Leads fp z v7 := by
    dsimp -zeta only [v7]
    refine keeps_send (hcap.sub rfl) ?_
    exact kv6
  first | clear_value v7 | skip
  have kv11 : Leads fp z v11 := by
    dsimp -zeta only [v11]
    refine keeps_setLane (hcap.sub rfl) ?_
    exact kv7
  first | clear_value v11 | skip
  refine keeps_ite ?_ ?_
  · refine keeps_announce (hcap.sub rfl) ?_
    exact kv11
  · exact kv11

theorem keeps_loseEntries {fp : Nat} (hcap : Has fp 0x2) {z : State} {a0 : State} {a1 : Nat} {a2 : Nat}
    {a3 : Nat} (h0 : Leads fp z a0) :
    Leads fp z (State.loseEntries a0 a1 a2 a3) := by
  unfold State.loseEntries
  refine keeps_ite ?_ ?_
  · exact h0
  · refine keeps_bump hcap ?_
    refine keeps_setFlag hcap ?_
    exact h0

theorem keeps_deliver {fp : Nat} (hcap : Has fp 0x2000200002) {z : State} {a0 : State} {a1 : Nat} {a2 : Nat}
    {a3 : List Entry} (h0 : Leads fp z a0) :
    Leads fp z (State.deliver a0 a1 a2 a3) := by
  unfold State.deliver
  extract_lets -merge -useContext -underBinder v0 v1 v2 v3
  have kv3 : Leads fp z v3 := by
    dsimp -zeta only [v3]
    refine keeps_ite ?_ ?_
    · exact h0
    · refine keeps_setLane (hcap.sub rfl) ?_
      exact h0
  first | clear_value v3 | skip
  refine keeps_ite ?_ ?_
  · refine keeps_loseEntries (hcap.sub rfl) ?_
    exact h0
  · refine keeps_ite ?_ ?_
    · refine keeps_ringWrite hcap ?_
      exact h0
    · refine keeps_loseEntries (hcap.sub rfl) ?_
      exact kv3

theorem keeps_drainList {fp : Nat} (hcap : Has fp 0x2000200002) {z : State} {p l : Nat} : ∀ {es : List
    (List Entry)} {s : State}, Leads fp z s → Leads fp z (drainList p l es s)
  | [], _, h => h
  | st :: rest, s, h => by
    unfold drainList
    refine keeps_ite ?_ h
    exact keeps_drainList hcap (keeps_ringWrite hcap (keeps_setLane (hcap.sub rfl) h))

theorem keeps_drain {fp : Nat} (hcap : Has fp 0x2000200002) {z : State} {a0 : State} {a1 : Nat} {a2 : Nat}
    (h0 : Leads fp z a0) :
    Leads fp z (State.drain a0 a1 a2) := by
  unfold State.drain
  refine keeps_ite ?_ ?_
  · refine keeps_drainList hcap ?_
    exact h0
  · exact h0

theorem keeps_notice {fp : Nat} (hcap : Has fp 0x2000200002) {z : State} {a0 : State} {a1 : Nat} {a2 : Nat}
    {a3 : Event} (h0 : Leads fp z a0) :
    Leads fp z (State.notice a0 a1 a2 a3) := by
  unfold State.notice
  refine keeps_deliver hcap ?_
  exact h0

/-! ### Banks -/

theorem keeps_mapDir {fp : Nat} (hcap : Has fp 0x80) {z : State} {a0 : State} {a1 : DirEntry → DirEntry}
    (h0 : Leads fp z a0) :
    Leads fp z (State.mapDir a0 a1) := by
  unfold State.mapDir
  exact keeps_put_dir hcap h0

theorem keeps_sweepProgress {fp : Nat} (hcap : Has fp 0x2) {z : State} {a0 : State} {a1 : Nat} (h0 : Leads fp z a0) :
    Leads fp z (State.sweepProgress a0 a1) := by
  unfold State.sweepProgress
  refine keeps_foldl ?_ ?_
  · intro y0 hy0 y1
    refine keeps_setFld hcap ?_
    exact hy0
  · exact h0

theorem keeps_sweepStart {fp : Nat} (hcap : Has fp 0x242) {z : State} {a0 : State} (h0 : Leads fp z a0) :
    Leads fp z (State.sweepStart a0) := by
  unfold State.sweepStart
  extract_lets -merge -useContext -underBinder v0
  refine keeps_sweepProgress (hcap.sub rfl) ?_
  exact h0.on (k := 0x240) (hcap.sub rfl) (fun _ _ h0 => h0)
    (fun p e => by cases p <;> first | exact absurd e (by decide) | rfl)

theorem keeps_sweepEnd {fp : Nat} (hcap : Has fp 0x40000CE) {z : State} {a0 : State} (h0 : Leads fp z a0) :
    Leads fp z (State.sweepEnd a0) := by
  unfold State.sweepEnd
  extract_lets -merge -useContext -underBinder v0 v1 v2
  have kv0 : Leads fp z v0 := by
    dsimp -zeta only [v0]
    refine keeps_sweepProgress (hcap.sub rfl) ?_
    refine keeps_wipe (hcap.sub rfl) ?_
    exact h0
  first | clear_value v0 | skip
  exact kv0.on (k := 0x40000C0) (hcap.sub rfl) (fun _ _ h0 => h0)
    (fun p e => by cases p <;> first | exact absurd e (by decide) | rfl)

/-! ### Power -/

theorem keeps_settlePower {fp : Nat} (hcap : Has fp 0x800400002) {z : State} {a0 : State} (h0 : Leads fp z a0) :
    Leads fp z (State.settlePower a0) := by
  unfold State.settlePower
  extract_lets -merge -useContext -underBinder v0 v1 v2 v3 v4
  have kv1 : Leads fp z v1 := by
    dsimp -zeta only [v1]
    refine keeps_foldl ?_ ?_
    · intro y5 hy5 y6
      refine keeps_setFld (hcap.sub rfl) ?_
      exact hy5
    · exact h0
  first | clear_value v1 | skip
  have kv2 : Leads fp z v2 := by
    dsimp -zeta only [v2]
    refine keeps_setFld (hcap.sub rfl) ?_
    exact kv1
  first | clear_value v2 | skip
  have kv3 : Leads fp z v3 := by
    dsimp -zeta only [v3]
    refine keeps_setFld (hcap.sub rfl) ?_
    exact kv2
  first | clear_value v3 | skip
  refine keeps_ite ?_ ?_
  · exact kv3
  · refine keeps_eventAll (hcap.sub rfl) ?_
    exact keeps_put_power (hcap.sub rfl) kv3

theorem keeps_reqRun {fp : Nat} (hcap : Has fp 0x800400002) {z : State} {a0 : State} {a1 : Src} (h0 : Leads fp z a0) :
    Leads fp z (State.reqRun a0 a1) := by
  unfold State.reqRun
  refine keeps_ite ?_ ?_
  · refine keeps_settlePower hcap ?_
    refine keeps_setFld (hcap.sub rfl) ?_
    exact h0
  · exact h0

theorem keeps_reqHold {fp : Nat} (hcap : Has fp 0x800400002) {z : State} {a0 : State} {a1 : Src}
    (h0 : Leads fp z a0) :
    Leads fp z (State.reqHold a0 a1) := by
  unfold State.reqHold
  refine keeps_ite ?_ ?_
  · refine keeps_settlePower hcap ?_
    refine keeps_setFld (hcap.sub rfl) ?_
    exact h0
  · exact h0

theorem keeps_reqSleep {fp : Nat} (hcap : Has fp 0x800400002) {z : State} {a0 : State} {a1 : Src}
    (h0 : Leads fp z a0) :
    Leads fp z (State.reqSleep a0 a1) := by
  unfold State.reqSleep
  extract_lets -merge -useContext -underBinder v0
  have kv0 : Leads fp z v0 := by
    dsimp -zeta only [v0]
    refine keeps_settlePower hcap ?_
    refine keeps_setFld (hcap.sub rfl) ?_
    exact h0
  first | clear_value v0 | skip
  refine keeps_ite ?_ ?_
  · refine keeps_ite ?_ ?_
    · exact kv0
    · refine keeps_setFlag (hcap.sub rfl) ?_
      exact kv0
  · exact h0

theorem keeps_writeCap {fp : Nat} (hcap : Has fp 0x800400002) {z : State} {a0 : State} {a1 : Src} {a2 : Nat}
    (h0 : Leads fp z a0) :
    Leads fp z (State.writeCap a0 a1 a2) := by
  unfold State.writeCap
  refine keeps_ite ?_ ?_
  · refine keeps_settlePower hcap ?_
    refine keeps_setFld (hcap.sub rfl) ?_
    exact h0
  · exact h0

theorem keeps_writeThrottle {fp : Nat} (hcap : Has fp 0x2) {z : State} {a0 : State} {a1 : Src} {a2 : Nat}
    (h0 : Leads fp z a0) :
    Leads fp z (State.writeThrottle a0 a1 a2) := by
  unfold State.writeThrottle
  refine keeps_ite ?_ ?_
  · refine keeps_setFld hcap ?_
    exact h0
  · exact h0

theorem keeps_wake {fp : Nat} (hcap : Has fp 0x800400002) {z : State} {a0 : State} (h0 : Leads fp z a0) :
    Leads fp z (State.wake a0) := by
  unfold State.wake
  extract_lets -merge -useContext -underBinder v0
  refine keeps_ite ?_ ?_
  · refine keeps_settlePower hcap ?_
    exact keeps_put_power (hcap.sub rfl) h0
  · exact h0

theorem keeps_trip {fp : Nat} (hcap : Has fp 0x800000040) {z : State} {a0 : State} (h0 : Leads fp z a0) :
    Leads fp z (State.trip a0) := by
  unfold State.trip
  extract_lets -merge -useContext -underBinder v0 v1
  exact h0.on (k := 0x800000040) hcap (fun _ _ h0 => h0)
    (fun p e => by cases p <;> first | exact absurd e (by decide) | rfl)

theorem keeps_clearTrip {fp : Nat} (hcap : Has fp 0x42) {z : State} {a0 : State} {a1 : Src} (h0 : Leads fp z a0) :
    Leads fp z (State.clearTrip a0 a1) := by
  unfold State.clearTrip
  extract_lets -merge -useContext -underBinder v0
  refine keeps_ite ?_ ?_
  · refine keeps_setFlag (hcap.sub rfl) ?_
    first | exact keeps_put_mram (hcap.sub rfl) h0 rfl | exact keeps_fuse (hcap.sub rfl) h0 | exact keeps_seed (hcap.sub rfl) h0 | exact keeps_life (hcap.sub rfl) h0
  · exact h0

theorem keeps_thermalPass {fp : Nat} (hcap : Has fp 0x2F0040004E) {z : State} {a0 : State} {a1 : Nat}
    (h0 : Leads fp z a0) :
    Leads fp z (State.thermalPass a0 a1) := by
  unfold State.thermalPass
  extract_lets -merge -useContext -underBinder v0 v1 v2 v3 v4 v5 v6 v7 v8 v9
  have kv4 : Leads fp z v4 := by
    dsimp -zeta only [v4]
    refine keeps_setFld (hcap.sub rfl) ?_
    exact h0
  first | clear_value v4 | skip
  have kv5 : Leads fp z v5 := by
    dsimp -zeta only [v5]
    refine keeps_ite ?_ ?_
    · refine keeps_ite ?_ ?_
      · refine keeps_eventAll (hcap.sub rfl) ?_
        exact kv4
      · exact kv4
    · refine keeps_ite ?_ ?_
      · refine keeps_setFld (hcap.sub rfl) ?_
        exact h0
      · exact h0
  first | clear_value v5 | skip
  have kv6 : Leads fp z v6 := by
    dsimp -zeta only [v6]
    refine keeps_setFlag (hcap.sub rfl) ?_
    exact kv5
  first | clear_value v6 | skip
  have kv7 : Leads fp z v7 := by
    dsimp -zeta only [v7]
    refine keeps_fault (hcap.sub rfl) ?_
    exact kv6
  first | clear_value v7 | skip
  have kv8 : Leads fp z v8 := by
    dsimp -zeta only [v8]
    refine keeps_ite ?_ ?_
    · refine keeps_eventAll (hcap.sub rfl) ?_
      exact kv7
    · exact kv5
  first | clear_value v8 | skip
  have kv9 : Leads fp z v9 := by
    dsimp -zeta only [v9]
    refine keeps_ite ?_ ?_
    · refine keeps_eventAll (hcap.sub rfl) ?_
      refine keeps_setFlag (hcap.sub rfl) ?_
      exact kv8
    · exact kv8
  first | clear_value v9 | skip
  refine keeps_settlePower (hcap.sub rfl) ?_
  refine keeps_setFld (hcap.sub rfl) ?_
  exact kv9

theorem keeps_railPass {fp : Nat} (hcap : Has fp 0x2F0040004E) {z : State} {a0 : State} {a1 : Nat}
    (h0 : Leads fp z a0) :
    Leads fp z (State.railPass a0 a1) := by
  unfold State.railPass
  extract_lets -merge -useContext -underBinder v0 v1
  clear_value v1
  split
  · extract_lets -merge -useContext -underBinder v2 v3 v4 v5 v6
    have kv3 : Leads fp z v3 := by
      dsimp -zeta only [v3]
      exact keeps_put_power (hcap.sub rfl) h0
    first | clear_value v3 | skip
    refine keeps_ite ?_ ?_
    · refine keeps_ite ?_ ?_
      · refine keeps_settlePower (hcap.sub rfl) ?_
        exact keeps_put_power (hcap.sub rfl) kv3
      · exact keeps_put_power (hcap.sub rfl) kv3
    · exact kv3
  · extract_lets -merge -useContext -underBinder v7 v8 v9 v10 v11 v12 v13
    have kv9 : Leads fp z v9 := by
      dsimp -zeta only [v9]
      exact keeps_put_power (hcap.sub rfl) h0
    first | clear_value v9 | skip
    have kv11 : Leads fp z v11 := by
      dsimp -zeta only [v11]
      exact keeps_put_power (hcap.sub rfl) kv9
    first | clear_value v11 | skip
    have kv12 : Leads fp z v12 := by
      dsimp -zeta only [v12]
      refine keeps_setFlag (hcap.sub rfl) ?_
      exact kv11
    first | clear_value v12 | skip
    have kv13 : Leads fp z v13 := by
      dsimp -zeta only [v13]
      refine keeps_fault (hcap.sub rfl) ?_
      exact kv12
    first | clear_value v13 | skip
    refine keeps_ite ?_ ?_
    · refine keeps_settlePower (hcap.sub rfl) ?_
      refine keeps_eventAll (hcap.sub rfl) ?_
      exact kv13
    · exact kv9

theorem keeps_pinFault {fp : Nat} (hcap : Has fp 0x270040004E) {z : State} {a0 : State} {a1 : Nat} {a2 : Bool}
    (h0 : Leads fp z a0) :
    Leads fp z (State.pinFault a0 a1 a2) := by
  unfold State.pinFault
  extract_lets -merge -useContext -underBinder v0 v1
  have kv0 : Leads fp z v0 := by
    dsimp -zeta only [v0]
    refine keeps_ite ?_ ?_
    · refine keeps_setFlag (hcap.sub rfl) ?_
      exact h0
    · exact h0
  first | clear_value v0 | skip
  have kv1 : Leads fp z v1 := by
    dsimp -zeta only [v1]
    refine keeps_fault hcap ?_
    exact kv0
  first | clear_value v1 | skip
  refine keeps_eventAll (hcap.sub rfl) ?_
  exact kv1

theorem keeps_tamperPulse {fp : Nat} (hcap : Has fp 0x270040004E) {z : State} {a0 : State} {a1 : Nat}
    {a2 : Bool} (h0 : Leads fp z a0) :
    Leads fp z (State.tamperPulse a0 a1 a2) := by
  unfold State.tamperPulse
  refine keeps_ite ?_ ?_
  · refine keeps_pinFault hcap ?_
    exact h0
  · exact h0

theorem leads_execThermalTrip {fp : Nat} (hcap : Has fp 0x800000040) {z t : State} {a0 : State}
    (h0 : Leads fp z a0) (e : (execThermalTrip a0) = .next t) :
    Leads fp z t := by
  unfold execThermalTrip at e
  injection e with e
  subst e
  refine keeps_trip hcap ?_
  exact h0

theorem leads_execTripSeenClear {fp : Nat} (hcap : Has fp 0x42) {z t : State} {a0 : Src} {a1 : State}
    (h1 : Leads fp z a1) (e : (execTripSeenClear a0 a1) = .next t) :
    Leads fp z t := by
  unfold execTripSeenClear at e
  injection e with e
  subst e
  refine keeps_clearTrip hcap ?_
  exact h1

theorem leads_execPowerReqRun {fp : Nat} (hcap : Has fp 0x800400002) {z t : State} {a0 : Src} {a1 : State}
    (h1 : Leads fp z a1) (e : (execPowerReqRun a0 a1) = .next t) :
    Leads fp z t := by
  unfold execPowerReqRun at e
  injection e with e
  subst e
  refine keeps_reqRun hcap ?_
  exact h1

theorem leads_execPowerReqHold {fp : Nat} (hcap : Has fp 0x800400002) {z t : State} {a0 : Src} {a1 : State}
    (h1 : Leads fp z a1) (e : (execPowerReqHold a0 a1) = .next t) :
    Leads fp z t := by
  unfold execPowerReqHold at e
  injection e with e
  subst e
  refine keeps_reqHold hcap ?_
  exact h1

theorem leads_execPowerReqSleep {fp : Nat} (hcap : Has fp 0x800400002) {z t : State} {a0 : Src} {a1 : State}
    (h1 : Leads fp z a1) (e : (execPowerReqSleep a0 a1) = .next t) :
    Leads fp z t := by
  unfold execPowerReqSleep at e
  injection e with e
  subst e
  refine keeps_reqSleep hcap ?_
  exact h1

theorem leads_execPowerCapWrite {fp : Nat} (hcap : Has fp 0x800400002) {z t : State} {a0 : Src} {a1 : BitVec 10}
    {a2 : State} (h2 : Leads fp z a2) (e : (execPowerCapWrite a0 a1 a2) = .next t) :
    Leads fp z t := by
  unfold execPowerCapWrite at e
  injection e with e
  subst e
  refine keeps_writeCap hcap ?_
  exact h2

theorem leads_execSleepExit {fp : Nat} (hcap : Has fp 0x800400002) {z t : State} {a0 : State}
    (h0 : Leads fp z a0) (e : (execSleepExit a0) = .next t) :
    Leads fp z t := by
  unfold execSleepExit at e
  injection e with e
  subst e
  refine keeps_wake hcap ?_
  exact h0

theorem leads_execTamperTestPulse {fp : Nat} (hcap : Has fp 0x270040004E) {z t : State} {a0 : Half} {a1 : Bool}
    {a2 : State} (h2 : Leads fp z a2) (e : (execTamperTestPulse a0 a1 a2) = .next t) :
    Leads fp z t := by
  unfold execTamperTestPulse at e
  injection e with e
  subst e
  refine keeps_tamperPulse hcap ?_
  exact h2

theorem leads_execPinFaultDetect {fp : Nat} (hcap : Has fp 0x270040004E) {z t : State} {a0 : Fin 11} {a1 : Bool}
    {a2 : State} (h2 : Leads fp z a2) (e : (execPinFaultDetect a0 a1 a2) = .next t) :
    Leads fp z t := by
  unfold execPinFaultDetect at e
  injection e with e
  subst e
  refine keeps_pinFault hcap ?_
  exact h2

/-! ### Resets -/

theorem keeps_coreReset {fp : Nat} (hcap : Has fp 0xF3FFFFFBE) {z : State} {a0 : State} (h0 : Leads fp z a0) :
    Leads fp z (State.coreReset a0) := by
  unfold State.coreReset
  extract_lets -merge -useContext -underBinder v0 v1 v2 v3 v4 v5 v6 v7 v8 v9
  have kv0 : Leads fp z v0 := by
    dsimp -zeta only [v0]
    refine keeps_wipe (hcap.sub rfl) ?_
    exact h0
  first | clear_value v0 | skip
  have kv1 : Leads fp z v1 := by
    dsimp -zeta only [v1]
    refine keeps_clearRegs (hcap.sub rfl) ?_
    exact kv0
  first | clear_value v1 | skip
  have kv2 : Leads fp z v2 := by
    dsimp -zeta only [v2]
    refine keeps_mapDir (hcap.sub rfl) ?_
    exact kv1
  first | clear_value v2 | skip
  exact kv2.on (k := 0xF3FFFFF30) (hcap.sub rfl) (fun _ hq h0 => hq.tally _ [] (fun _ _ e => absurd e (by simp)) h0)
    (fun p e => by cases p <;> first | exact absurd e (by decide) | rfl)

theorem keeps_bootFrom {fp : Nat} (hcap : Has fp 0x2) {z : State} {a0 : State} {a1 : Nat} (h0 : Leads fp z a0) :
    Leads fp z (State.bootFrom a0 a1) := by
  unfold State.bootFrom
  refine keeps_setFld hcap ?_
  refine keeps_setReg hcap ?_
  exact h0

theorem keeps_resetByCore {fp : Nat} (hcap : Has fp 0xF3FFFFFBE) {z : State} {a0 : State} (h0 : Leads fp z a0) :
    Leads fp z (State.resetByCore a0) := by
  unfold State.resetByCore
  extract_lets -merge -useContext -underBinder v0 v1 v2
  have kv0 : Leads fp z v0 := by
    dsimp -zeta only [v0]
    refine keeps_coreReset hcap ?_
    exact h0
  first | clear_value v0 | skip
  have kv1 : Leads fp z v1 := by
    dsimp -zeta only [v1]
    refine keeps_setFlag (hcap.sub rfl) ?_
    exact kv0
  first | clear_value v1 | skip
  refine keeps_bootFrom (hcap.sub rfl) ?_
  exact keeps_put_rst (hcap.sub rfl) kv1

theorem keeps_systemReset {fp : Nat} (hcap : Has fp 0xFFFFFFFBE) {z : State} {a0 : State} (h0 : Leads fp z a0) :
    Leads fp z (State.systemReset a0) := by
  unfold State.systemReset
  extract_lets -merge -useContext -underBinder v0 v1 v2 v3 v4
  have kv0 : Leads fp z v0 := by
    dsimp -zeta only [v0]
    refine keeps_coreReset (hcap.sub rfl) ?_
    exact h0
  first | clear_value v0 | skip
  have kv1 : Leads fp z v1 := by
    dsimp -zeta only [v1]
    refine keeps_clearRegs (hcap.sub rfl) ?_
    exact kv0
  first | clear_value v1 | skip
  exact kv1.on (k := 0xBC0A00030) (hcap.sub rfl) (fun _ _ h0 => h0)
    (fun p e => by cases p <;> first | exact absurd e (by decide) | rfl)

theorem keeps_resetBySystem {fp : Nat} (hcap : Has fp 0xFFFFFFFBE) {z : State} {a0 : State} {a1 : Nat}
    (h0 : Leads fp z a0) :
    Leads fp z (State.resetBySystem a0 a1) := by
  unfold State.resetBySystem
  extract_lets -merge -useContext -underBinder v0 v1 v2 v3
  have kv0 : Leads fp z v0 := by
    dsimp -zeta only [v0]
    refine keeps_systemReset hcap ?_
    exact h0
  first | clear_value v0 | skip
  have kv1 : Leads fp z v1 := by
    dsimp -zeta only [v1]
    refine keeps_setFlag (hcap.sub rfl) ?_
    exact kv0
  first | clear_value v1 | skip
  have kv3 : Leads fp z v3 := by
    dsimp -zeta only [v3]
    exact keeps_put_rst (hcap.sub rfl) kv1
  first | clear_value v3 | skip
  refine keeps_ite ?_ ?_
  · refine keeps_bootFrom (hcap.sub rfl) ?_
    exact kv3
  · exact kv3

theorem keepKeys_none {α : Type} (m : SMap α) : keepKeys m (fun _ => false) = [] := by
  induction m with
  | nil => rfl
  | cons e m ih => simp [keepKeys]
theorem keeps_powerReset {fp : Nat} (hcap : Has fp 0x1FFFFFFFBE) {z s : State}
    (h : Leads fp z s) : Leads fp z s.powerReset :=
  h.on (k := 0x1FFFFFFFBE) hcap (fun Q hq h0 => by
    have k := hq.tally _ [] (fun _ _ e => absurd e (by simp))
      (hq.clean _ (fun _ => false) (hq.clear _ (fun _ => false) (hq.keep _ isLevel h0)))
    simp only [keepKeys_none] at k
    exact k) (fun p e => by cases p <;> first | exact absurd e (by decide) | rfl)

theorem keeps_powerOn {fp : Nat} (hcap : Has fp 0x5FFFFFFFBE) {z : State} {a0 : State} (h0 : Leads fp z a0) :
    Leads fp z (State.powerOn a0) := by
  unfold State.powerOn
  split
  rename_i x0 x1 e4
  have kx1 : Leads fp z x1 := by
    refine keeps_eq2 e4 ?_
    refine keeps_draw (hcap.sub rfl) ?_
    exact h0
  extract_lets -merge -useContext -underBinder v2 v3
  have kv2 : Leads fp z v2 := by
    dsimp -zeta only [v2]
    refine keeps_powerReset (hcap.sub rfl) ?_
    exact kx1
  first | clear_value v2 | skip
  exact keeps_put_sec (hcap.sub rfl) kv2

theorem keeps_alarmNotice {fp : Nat} (hcap : Has fp 0x270040004E) {z : State} {a0 : State} {a1 : Nat}
    (h0 : Leads fp z a0) :
    Leads fp z (State.alarmNotice a0 a1) := by
  unfold State.alarmNotice
  extract_lets -merge -useContext -underBinder v0
  refine keeps_eventAll (hcap.sub rfl) ?_
  refine keeps_fault hcap ?_
  exact h0

theorem keeps_eraseKeys {fp : Nat} (hcap : Has fp 0x80200040) {z : State} {a0 : State} (h0 : Leads fp z a0) :
    Leads fp z (State.eraseKeys a0) := by
  unfold State.eraseKeys
  extract_lets -merge -useContext -underBinder v0 v1
  exact h0.on (k := 0x80200040) hcap (fun _ _ h0 => h0)
    (fun p e => by cases p <;> first | exact absurd e (by decide) | rfl)

theorem keeps_destroyStart {fp : Nat} (hcap : Has fp 0x80200242) {z : State} {a0 : State} (h0 : Leads fp z a0) :
    Leads fp z (State.destroyStart a0) := by
  unfold State.destroyStart
  extract_lets -merge -useContext -underBinder v0 v1
  have kv0 : Leads fp z v0 := by
    dsimp -zeta only [v0]
    refine keeps_eraseKeys (hcap.sub rfl) ?_
    exact h0
  first | clear_value v0 | skip
  refine keeps_sweepStart (hcap.sub rfl) ?_
  first | exact keeps_put_mram (hcap.sub rfl) kv0 rfl | exact keeps_fuse (hcap.sub rfl) kv0 | exact keeps_seed (hcap.sub rfl) kv0 | exact keeps_life (hcap.sub rfl) kv0

theorem keeps_alarmFire {fp : Nat} (hcap : Has fp 0x2FFFFFFFFE) {z : State} {a0 : State} {a1 : Nat}
    (h0 : Leads fp z a0) :
    Leads fp z (State.alarmFire a0 a1) := by
  unfold State.alarmFire
  split
  · exact h0
  · extract_lets -merge -useContext -underBinder v0 v1 v2
    have kv0 : Leads fp z v0 := by
      dsimp -zeta only [v0]
      refine keeps_setReg (hcap.sub rfl) ?_
      exact h0
    first | clear_value v0 | skip
    have kv1 : Leads fp z v1 := by
      dsimp -zeta only [v1]
      refine keeps_foldl ?_ ?_
      · intro y3 hy3 y4
        refine keeps_alarmNotice (hcap.sub rfl) ?_
        exact hy3
      · exact kv0
    first | clear_value v1 | skip
    refine keeps_ite ?_ ?_
    · exact kv1
    · refine keeps_ite ?_ ?_
      · refine keeps_destroyStart (hcap.sub rfl) ?_
        exact kv1
      · refine keeps_ite ?_ ?_
        · refine keeps_resetBySystem (hcap.sub rfl) ?_
          refine keeps_eraseKeys (hcap.sub rfl) ?_
          exact kv1
        · refine keeps_ite ?_ ?_
          · refine keeps_settlePower (hcap.sub rfl) ?_
            refine keeps_setFlag (hcap.sub rfl) ?_
            exact kv1
          · exact kv1

theorem keeps_alarmQuiet {fp : Nat} (hcap : Has fp 0x2) {z : State} {a0 : State} {a1 : Nat} (h0 : Leads fp z a0) :
    Leads fp z (State.alarmQuiet a0 a1) := by
  unfold State.alarmQuiet
  refine keeps_setFlag hcap ?_
  exact h0

theorem keeps_alarmRelease {fp : Nat} (hcap : Has fp 0x800400002) {z : State} {a0 : State} {a1 : Src}
    (h0 : Leads fp z a0) :
    Leads fp z (State.alarmRelease a0 a1) := by
  unfold State.alarmRelease
  extract_lets -merge -useContext -underBinder v0
  refine keeps_ite ?_ ?_
  · refine keeps_settlePower hcap ?_
    refine keeps_setFlag (hcap.sub rfl) ?_
    exact h0
  · exact h0

theorem keeps_raiseLevels {fp : Nat} (hcap : Has fp 0x40) {z : State} {a0 : State} {a1 : Src} {a2 : BitVec 12}
    (h0 : Leads fp z a0) :
    Leads fp z (State.raiseLevels a0 a1 a2) := by
  unfold State.raiseLevels
  extract_lets -merge -useContext -underBinder v0
  refine keeps_ite ?_ ?_
  · first | exact keeps_put_mram hcap h0 rfl | exact keeps_fuse hcap h0 | exact keeps_seed hcap h0 | exact keeps_life hcap h0
  · exact h0

theorem keeps_fwFailed {fp : Nat} (hcap : Has fp 0x2FFFFFFFFE) {z : State} {a0 : State} (h0 : Leads fp z a0) :
    Leads fp z (State.fwFailed a0) := by
  unfold State.fwFailed
  extract_lets -merge -useContext -underBinder v0 v1 v2
  have kv2 : Leads fp z v2 := by
    dsimp -zeta only [v2]
    first | exact keeps_put_mram (hcap.sub rfl) h0 rfl | exact keeps_fuse (hcap.sub rfl) h0 | exact keeps_seed (hcap.sub rfl) h0 | exact keeps_life (hcap.sub rfl) h0
  first | clear_value v2 | skip
  refine keeps_ite ?_ ?_
  · refine keeps_alarmFire hcap ?_
    exact kv2
  · exact kv2

theorem keeps_sweepDone {fp : Nat} (hcap : Has fp 0xFFFFFFFFE) {z : State} {a0 : State} (h0 : Leads fp z a0) :
    Leads fp z (State.sweepDone a0) := by
  unfold State.sweepDone
  extract_lets -merge -useContext -underBinder v0 v1 v2 v3
  have kv0 : Leads fp z v0 := by
    dsimp -zeta only [v0]
    refine keeps_sweepEnd (hcap.sub rfl) ?_
    exact h0
  first | clear_value v0 | skip
  refine keeps_ite ?_ ?_
  · exact h0
  · refine keeps_ite ?_ ?_
    · refine keeps_resetBySystem (hcap.sub rfl) ?_
      first | exact keeps_put_mram (hcap.sub rfl) kv0 rfl | exact keeps_fuse (hcap.sub rfl) kv0 | exact keeps_seed (hcap.sub rfl) kv0 | exact keeps_life (hcap.sub rfl) kv0
    · refine keeps_ite ?_ ?_
      · refine keeps_resetBySystem (hcap.sub rfl) ?_
        exact kv0.on (k := 0x6040000C0) (hcap.sub rfl) (fun _ _ h0 => h0)
          (fun p e => by cases p <;> first | exact absurd e (by decide) | rfl)
      · exact kv0

theorem leads_execAlarmSourceFire {fp : Nat} (hcap : Has fp 0x2FFFFFFFFE) {z t : State} {a0 : BitVec 6}
    {a1 : State} (h1 : Leads fp z a1) (e : (execAlarmSourceFire a0 a1) = .next t) :
    Leads fp z t := by
  unfold execAlarmSourceFire at e
  injection e with e
  subst e
  refine keeps_alarmFire hcap ?_
  exact h1

theorem leads_execAlarmSourceInactive {fp : Nat} (hcap : Has fp 0x2) {z t : State} {a0 : Fin 6} {a1 : State}
    (h1 : Leads fp z a1) (e : (execAlarmSourceInactive a0 a1) = .next t) :
    Leads fp z t := by
  unfold execAlarmSourceInactive at e
  injection e with e
  subst e
  refine keeps_alarmQuiet hcap ?_
  exact h1

theorem leads_execAlarmRelease {fp : Nat} (hcap : Has fp 0x800400002) {z t : State} {a0 : Src} {a1 : State}
    (h1 : Leads fp z a1) (e : (execAlarmRelease a0 a1) = .next t) :
    Leads fp z t := by
  unfold execAlarmRelease at e
  injection e with e
  subst e
  refine keeps_alarmRelease hcap ?_
  exact h1

theorem leads_execAlarmLevelWrite {fp : Nat} (hcap : Has fp 0x40) {z t : State} {a0 : Src} {a1 : BitVec 12}
    {a2 : State} (h2 : Leads fp z a2) (e : (execAlarmLevelWrite a0 a1 a2) = .next t) :
    Leads fp z t := by
  unfold execAlarmLevelWrite at e
  injection e with e
  subst e
  refine keeps_raiseLevels hcap ?_
  exact h2

theorem leads_execMintSweepDone {fp : Nat} (hcap : Has fp 0xFFFFFFFFE) {z t : State} {a0 : State}
    (h0 : Leads fp z a0) (e : (execMintSweepDone a0) = .next t) :
    Leads fp z t := by
  unfold execMintSweepDone at e
  injection e with e
  subst e
  refine keeps_sweepDone hcap ?_
  exact h0

theorem leads_execPowerOnReset {fp : Nat} (hcap : Has fp 0x5FFFFFFFBE) {z t : State} {a0 : State}
    (h0 : Leads fp z a0) (e : (execPowerOnReset a0) = .next t) :
    Leads fp z t := by
  unfold execPowerOnReset at e
  injection e with e
  subst e
  refine keeps_powerOn hcap ?_
  exact h0

theorem leads_execSystemResetPin {fp : Nat} (hcap : Has fp 0xFFFFFFFBE) {z t : State} {a0 : State}
    (h0 : Leads fp z a0) (e : (execSystemResetPin a0) = .next t) :
    Leads fp z t := by
  unfold execSystemResetPin at e
  injection e with e
  subst e
  refine keeps_resetBySystem hcap ?_
  exact h0

theorem leads_execFirmwareWatchdogExpiry {fp : Nat} (hcap : Has fp 0xFFFFFFFBE) {z t : State} {a0 : Half}
    {a1 : Bool} {a2 : State} (h2 : Leads fp z a2) (e : (execFirmwareWatchdogExpiry a0 a1 a2) = .next t) :
    Leads fp z t := by
  unfold execFirmwareWatchdogExpiry at e
  injection e with e
  subst e
  refine keeps_resetBySystem hcap ?_
  exact h2

end Sys2Proof.Machine
end

