-- ==== Sys2Proof/Laws/LeadsHost.lean ====
section
/-! SUPPORT. Every operation of the Teller window, the halves and the Strongroom leads on from its state: one lemma each. -/

namespace Sys2Proof.Machine

/-! ### Teller -/

theorem keeps_evalSlot {fp : Nat} (hcap : Has fp 0x200002) {z : State} {a0 : State} {a1 : Nat} {a2 : Nat}
    {a3 : Nat} (h0 : Leads fp z a0) :
    Leads fp z (State.evalSlot a0 a1 a2 a3) := by
  unfold State.evalSlot
  extract_lets -merge -useContext -underBinder v0 v1 v2 v3 v4
  have kv4 : Leads fp z v4 := by
    dsimp -zeta only [v4]
    refine keeps_setLane (hcap.sub rfl) ?_
    exact h0
  first | clear_value v4 | skip
  refine keeps_ite ?_ ?_
  · exact h0
  · refine keeps_ite ?_ ?_
    · refine keeps_bump (hcap.sub rfl) ?_
      refine keeps_setFlag (hcap.sub rfl) ?_
      exact kv4
    · refine keeps_ite ?_ ?_
      · refine keeps_setLane (hcap.sub rfl) ?_
        exact h0
      · exact h0

theorem keeps_slotWrite {fp : Nat} (hcap : Has fp 0x200002) {z : State} {a0 : State} {a1 : Nat} {a2 : Nat}
    {a3 : Nat} {a4 : Nat} {a5 : List Byte} (h0 : Leads fp z a0) :
    Leads fp z (State.slotWrite a0 a1 a2 a3 a4 a5) := by
  unfold State.slotWrite
  extract_lets -merge -useContext -underBinder v0 v1
  refine keeps_ite ?_ ?_
  · refine keeps_bump (hcap.sub rfl) ?_
    refine keeps_setFlag (hcap.sub rfl) ?_
    exact h0
  · refine keeps_setLane (hcap.sub rfl) ?_
    exact h0

theorem keeps_tellerWrite {fp : Nat} (hcap : Has fp 0x200002) {z : State} {a0 : State} {a1 : Nat} {a2 : Nat}
    {a3 : Nat} {a4 : List Byte} (h0 : Leads fp z a0) :
    Leads fp z (State.tellerWrite a0 a1 a2 a3 a4) := by
  unfold State.tellerWrite
  extract_lets -merge -useContext -underBinder v0 v1
  have kv1 : Leads fp z v1 := by
    dsimp -zeta only [v1]
    refine keeps_foldl ?_ ?_
    · intro y2 hy2 y3
      refine keeps_slotWrite hcap ?_
      exact hy2
    · exact h0
  first | clear_value v1 | skip
  refine keeps_foldl ?_ ?_
  · intro y4 hy4 y5
    refine keeps_evalSlot hcap ?_
    exact hy4
  · exact kv1

theorem keeps_inBad {fp : Nat} (hcap : Has fp 0x2) {z : State} {a0 : State} {a1 : Nat} (h0 : Leads fp z a0) :
    Leads fp z (State.inBad a0 a1) := by
  unfold State.inBad
  refine keeps_bump hcap ?_
  exact h0

theorem keeps_consume {fp : Nat} (hcap : Has fp 0x600002) {z : State} {a0 : State} {a1 : Nat} {a2 : Nat}
    (h0 : Leads fp z a0) :
    Leads fp z (State.consume a0 a1 a2) := by
  unfold State.consume
  extract_lets -merge -useContext -underBinder v0 v1 v2 v3 v4 v5 v6 v7 v8 v9 v10
  have kv7 : Leads fp z v7 := by
    dsimp -zeta only [v7]
    exact keeps_put_serve (hcap.sub rfl) h0
  first | clear_value v7 | skip
  have kv8 : Leads fp z v8 := by
    dsimp -zeta only [v8]
    refine keeps_setPort (hcap.sub rfl) ?_
    exact kv7
  first | clear_value v8 | skip
  have kv9 : Leads fp z v9 := by
    dsimp -zeta only [v9]
    refine keeps_setLane (hcap.sub rfl) ?_
    exact kv8
  first | clear_value v9 | skip
  refine keeps_ite ?_ ?_
  · refine keeps_evalSlot (hcap.sub rfl) ?_
    refine keeps_setFld (hcap.sub rfl) ?_
    exact kv9
  · exact h0

theorem keeps_restamp {fp : Nat} (hcap : Has fp 0x200002) {z : State} {a0 : State} {a1 : Nat} {a2 : Nat}
    {a3 : Nat} (h0 : Leads fp z a0) :
    Leads fp z (State.restamp a0 a1 a2 a3) := by
  unfold State.restamp
  extract_lets -merge -useContext -underBinder v0 v1
  have kv0 : Leads fp z v0 := by
    dsimp -zeta only [v0]
    refine keeps_setFld (hcap.sub rfl) ?_
    exact h0
  first | clear_value v0 | skip
  refine keeps_setLane (hcap.sub rfl) ?_
  exact kv0

theorem keeps_stampWrite {fp : Nat} (hcap : Has fp 0x200002) {z : State} {a0 : State} {a1 : Src} {a2 : Nat}
    {a3 : Nat} (h0 : Leads fp z a0) :
    Leads fp z (State.stampWrite a0 a1 a2 a3) := by
  unfold State.stampWrite
  refine keeps_ite ?_ ?_
  · refine keeps_setFlag (hcap.sub rfl) ?_
    refine keeps_restamp hcap ?_
    exact h0
  · exact h0

theorem keeps_flr {fp : Nat} (hcap : Has fp 0x200002) {z : State} {a0 : State} {a1 : Nat} {a2 : Nat}
    (h0 : Leads fp z a0) :
    Leads fp z (State.flr a0 a1 a2) := by
  unfold State.flr
  refine keeps_foldl ?_ ?_
  · intro y0 hy0 y1
    refine keeps_restamp hcap ?_
    exact hy0
  · exact h0

theorem keeps_tailWrite {fp : Nat} (hcap : Has fp 0x2000200002) {z : State} {a0 : State} {a1 : Src} {a2 : Nat}
    {a3 : Nat} (h0 : Leads fp z a0) :
    Leads fp z (State.tailWrite a0 a1 a2 a3) := by
  unfold State.tailWrite
  extract_lets -merge -useContext -underBinder v0 v1 v2 v3
  refine keeps_ite ?_ ?_
  · refine keeps_drain hcap ?_
    refine keeps_setFld (hcap.sub rfl) ?_
    exact h0
  · exact h0

theorem keeps_dropBacklog {fp : Nat} (hcap : Has fp 0x200002) {z : State} {a0 : State} {a1 : Nat} {a2 : Nat}
    (h0 : Leads fp z a0) :
    Leads fp z (State.dropBacklog a0 a1 a2) := by
  unfold State.dropBacklog
  extract_lets -merge -useContext -underBinder v0 v1
  refine keeps_loseEntries (hcap.sub rfl) ?_
  refine keeps_setLane (hcap.sub rfl) ?_
  exact h0

theorem keeps_rcfgWrite {fp : Nat} (hcap : Has fp 0x200002) {z : State} {a0 : State} {a1 : Nat} {a2 : Nat}
    {a3 : Nat} (h0 : Leads fp z a0) :
    Leads fp z (State.rcfgWrite a0 a1 a2 a3) := by
  unfold State.rcfgWrite
  extract_lets -merge -useContext -underBinder v0 v1 v2 v3
  have kv2 : Leads fp z v2 := by
    dsimp -zeta only [v2]
    refine keeps_setReg (hcap.sub rfl) ?_
    exact h0
  first | clear_value v2 | skip
  have kv3 : Leads fp z v3 := by
    dsimp -zeta only [v3]
    refine keeps_ite ?_ ?_
    · refine keeps_setFld (hcap.sub rfl) ?_
      exact kv2
    · exact kv2
  first | clear_value v3 | skip
  refine keeps_ite ?_ ?_
  · exact h0
  · refine keeps_ite ?_ ?_
    · refine keeps_dropBacklog hcap ?_
      exact kv3
    · exact kv3

theorem keeps_ringConfig {fp : Nat} (hcap : Has fp 0x200002) {z : State} {a0 : State} {a1 : Src} {a2 : Nat}
    {a3 : Nat} {a4 : Nat} (h0 : Leads fp z a0) :
    Leads fp z (State.ringConfig a0 a1 a2 a3 a4) := by
  unfold State.ringConfig
  extract_lets -merge -useContext -underBinder v0
  refine keeps_ite ?_ ?_
  · exact h0
  · refine keeps_ite ?_ ?_
    · refine keeps_rcfgWrite hcap ?_
      exact h0
    · refine keeps_ite ?_ ?_
      · exact h0
      · refine keeps_ite ?_ ?_
        · refine keeps_setReg (hcap.sub rfl) ?_
          exact h0
        · refine keeps_setReg (hcap.sub rfl) ?_
          exact h0

theorem keeps_windowWrite {fp : Nat} (hcap : Has fp 0x200002) {z : State} {a0 : State} {a1 : Src} {a2 : Nat}
    {a3 : Nat} {a4 : Nat} {a5 : Nat} (h0 : Leads fp z a0) :
    Leads fp z (State.windowWrite a0 a1 a2 a3 a4 a5) := by
  unfold State.windowWrite
  extract_lets -merge -useContext -underBinder v0 v1
  refine keeps_ite ?_ ?_
  · exact h0
  · refine keeps_ite ?_ ?_
    · refine keeps_setFlag (hcap.sub rfl) ?_
      exact h0
    · refine keeps_setPort (hcap.sub rfl) ?_
      exact h0

theorem leads_bar4W {fp : Nat} (hcap : Has fp 0xE) {z s t : State} {w : Src} {off : Nat} {bs : List Byte}
    {intact : Bool} (h : Leads fp z s)
    (e : s.bar4W w off bs intact = .next t) : Leads fp z t := by
  unfold State.bar4W at e
  split at e
  · injection e with e; subst e; exact keeps_inBad (hcap.sub rfl) h
  · split at e
    · injection e with e; subst e; exact keeps_bump (hcap.sub rfl) h
    · split at e
      · cases e
      · injection e with e; subst e; exact keeps_write (hcap.sub rfl) h

theorem leads_bar4R {fp : Nat} (hcap : Has fp 0x2000000000) {z s t : State} {w : Src} {off len : Nat}
    (h : Leads fp z s)
    (e : s.bar4R w off len = .next t) : Leads fp z t := by
  unfold State.bar4R at e
  dsimp only at e
  split at e
  · cases e
  · split at e
    · injection e with e; subst e; exact keeps_send hcap h
    · injection e with e; subst e; exact keeps_send hcap h

theorem keeps_modTimer {fp : Nat} (hcap : Has fp 0x2000200000) {z : State} {a0 : State} {a1 : Nat} {a2 : Nat}
    (h0 : Leads fp z a0) :
    Leads fp z (State.modTimer a0 a1 a2) := by
  unfold State.modTimer
  refine keeps_ite ?_ ?_
  · refine keeps_announce hcap ?_
    exact h0
  · exact h0

theorem keeps_msixMask {fp : Nat} (hcap : Has fp 0x200000) {z : State} {a0 : State} {a1 : Nat} {a2 : Nat}
    {a3 : Nat} (h0 : Leads fp z a0) :
    Leads fp z (State.msixMask a0 a1 a2 a3) := by
  unfold State.msixMask
  extract_lets -merge -useContext -underBinder v0
  refine keeps_setPort hcap ?_
  exact h0

theorem keeps_msixClear {fp : Nat} (hcap : Has fp 0x2000200000) {z : State} {a0 : State} {a1 : Nat} {a2 : Nat}
    {a3 : Nat} (h0 : Leads fp z a0) :
    Leads fp z (State.msixClear a0 a1 a2 a3) := by
  unfold State.msixClear
  extract_lets -merge -useContext -underBinder v0 v1 v2
  have kv2 : Leads fp z v2 := by
    dsimp -zeta only [v2]
    refine keeps_setPort (hcap.sub rfl) ?_
    exact h0
  first | clear_value v2 | skip
  refine keeps_ite ?_ ?_
  · refine keeps_ite ?_ ?_
    · refine keeps_send (hcap.sub rfl) ?_
      exact kv2
    · exact kv2
  · exact h0

theorem keeps_ideSetup {fp : Nat} (hcap : Has fp 0x4000200002) {z : State} {a0 : State} {a1 : Nat} {a2 : Nat}
    {a3 : Nat} {a4 : Nat} {a5 : Bool} (h0 : Leads fp z a0) :
    Leads fp z (State.ideSetup a0 a1 a2 a3 a4 a5) := by
  unfold State.ideSetup
  extract_lets -merge -useContext -underBinder v0
  refine keeps_ite ?_ ?_
  · split
    rename_i x1 x2 e3
    have kx2 : Leads fp z x2 := by
      refine keeps_eq2 e3 ?_
      refine keeps_draw (hcap.sub rfl) ?_
      exact h0
    refine keeps_setFlag (hcap.sub rfl) ?_
    refine keeps_setPort (hcap.sub rfl) ?_
    exact kx2
  · exact h0

theorem leads_execTellerSlotWrite {fp : Nat} (hcap : Has fp 0x200002) {z s t : State} {w : Src} {o : Nat}
    {bs : List Byte} {i : Bool} (h : Leads fp z s)
    (e : execTellerSlotWrite w o bs i s = .next t) : Leads fp z t := by
  unfold execTellerSlotWrite at e
  split at e
  · cases e
  · split at e
    · injection e with e; subst e; exact keeps_inBad (hcap.sub rfl) h
    · injection e with e; subst e; exact keeps_tellerWrite hcap h

theorem leads_execTicketConsume {fp : Nat} (hcap : Has fp 0x600002) {z t : State} {a0 : Port} {a1 : Fin 256}
    {a2 : State} (h2 : Leads fp z a2) (e : (execTicketConsume a0 a1 a2) = .next t) :
    Leads fp z t := by
  unfold execTicketConsume at e
  injection e with e
  subst e
  refine keeps_consume hcap ?_
  exact h2

theorem leads_execTellerStampWrite {fp : Nat} (hcap : Has fp 0x200002) {z t : State} {a0 : Src} {a1 : Fin 256}
    {a2 : Word32} {a3 : State} (h3 : Leads fp z a3) (e : (execTellerStampWrite a0 a1 a2 a3) = .next t) :
    Leads fp z t := by
  unfold execTellerStampWrite at e
  injection e with e
  subst e
  refine keeps_stampWrite hcap ?_
  exact h3

theorem leads_execRingTailWrite {fp : Nat} (hcap : Has fp 0x2000200002) {z t : State} {a0 : Src} {a1 : Fin 256}
    {a2 : BitVec 16} {a3 : State} (h3 : Leads fp z a3) (e : (execRingTailWrite a0 a1 a2 a3) = .next t) :
    Leads fp z t := by
  unfold execRingTailWrite at e
  injection e with e
  subst e
  refine keeps_tailWrite hcap ?_
  exact h3

theorem leads_execRingConfigWrite {fp : Nat} (hcap : Has fp 0x200002) {z t : State} {a0 : Src} {a1 : Fin 256}
    {a2 : Fin 3} {a3 : Word64} {a4 : State} (h4 : Leads fp z a4) (e :
    (execRingConfigWrite a0 a1 a2 a3 a4) = .next t) :
    Leads fp z t := by
  unfold execRingConfigWrite at e
  injection e with e
  subst e
  refine keeps_ringConfig hcap ?_
  exact h4

theorem leads_execHostWindowWrite {fp : Nat} (hcap : Has fp 0x200002) {z t : State} {a0 : Src} {a1 : Port}
    {a2 : Fin 64} {a3 : Fin 8} {a4 : Word32} {a5 : State} (h5 : Leads fp z a5) (e :
    (execHostWindowWrite a0 a1 a2 a3 a4 a5) = .next t) :
    Leads fp z t := by
  unfold execHostWindowWrite at e
  injection e with e
  subst e
  refine keeps_windowWrite hcap ?_
  exact h5

theorem leads_execBar4Write {fp : Nat} (hcap : Has fp 0xE) {z s t : State} {w : Src} {o : Nat} {bs : List Byte}
    {i : Bool} (h : Leads fp z s)
    (e : execBar4Write w o bs i s = .next t) : Leads fp z t := leads_bar4W hcap h e

theorem leads_execBar4Read {fp : Nat} (hcap : Has fp 0x2000000000) {z s t : State} {w : Src} {o n : Nat}
    (h : Leads fp z s)
    (e : execBar4Read w o n s = .next t) : Leads fp z t := leads_bar4R hcap h e

theorem leads_execMsixModerationTimer {fp : Nat} (hcap : Has fp 0x2000200000) {z t : State} {a0 : Port}
    {a1 : Fin 256} {a2 : State} (h2 : Leads fp z a2) (e : (execMsixModerationTimer a0 a1 a2) = .next t) :
    Leads fp z t := by
  unfold execMsixModerationTimer at e
  injection e with e
  subst e
  refine keeps_modTimer hcap ?_
  exact h2

theorem leads_execMsixUnmask {fp : Nat} (hcap : Has fp 0x2000200000) {z t : State} {a0 : Port} {a1 : Fin 33}
    {a2 : Fin 2048} {a3 : State} (h3 : Leads fp z a3) (e : (execMsixUnmask a0 a1 a2 a3) = .next t) :
    Leads fp z t := by
  unfold execMsixUnmask at e
  injection e with e
  subst e
  refine keeps_msixClear hcap ?_
  exact h3

theorem leads_execFunctionLevelReset {fp : Nat} (hcap : Has fp 0x200002) {z t : State} {a0 : Port} {a1 : Fin 33}
    {a2 : State} (h2 : Leads fp z a2) (e : (execFunctionLevelReset a0 a1 a2) = .next t) :
    Leads fp z t := by
  unfold execFunctionLevelReset at e
  injection e with e
  subst e
  refine keeps_flr hcap ?_
  exact h2

theorem leads_execIdeStreamSetup {fp : Nat} (hcap : Has fp 0x4000200002) {z t : State} {a0 : Port} {a1 : Fin 4}
    {a2 : Nat} {a3 : Nat} {a4 : Bool} {a5 : State} (h5 : Leads fp z a5) (e :
    (execIdeStreamSetup a0 a1 a2 a3 a4 a5) = .next t) :
    Leads fp z t := by
  unfold execIdeStreamSetup at e
  injection e with e
  subst e
  refine keeps_ideSetup hcap ?_
  exact h5

/-! ### Halves -/

theorem keeps_cmdSystem {fp : Nat} (hcap : Has fp 0xFFFFFFFBE) {z : State} {a0 : State} {a1 : Src}
    (h0 : Leads fp z a0) :
    Leads fp z (State.cmdSystem a0 a1) := by
  unfold State.cmdSystem
  refine keeps_ite ?_ ?_
  · refine keeps_resetBySystem hcap ?_
    exact h0
  · exact h0

theorem keeps_cmdCore {fp : Nat} (hcap : Has fp 0xF3FFFFFBE) {z : State} {a0 : State} {a1 : Src}
    (h0 : Leads fp z a0) :
    Leads fp z (State.cmdCore a0 a1) := by
  unfold State.cmdCore
  refine keeps_ite ?_ ?_
  · refine keeps_resetByCore hcap ?_
    exact h0
  · exact h0

theorem keeps_cmdArm {fp : Nat} (hcap : Has fp 0x20) {z : State} {a0 : State} {a1 : Src} (h0 : Leads fp z a0) :
    Leads fp z (State.cmdArm a0 a1) := by
  unfold State.cmdArm
  extract_lets -merge -useContext -underBinder v0
  refine keeps_ite ?_ ?_
  · exact keeps_put_rst hcap h0
  · exact h0

theorem keeps_cmdDecommission {fp : Nat} (hcap : Has fp 0x20) {z : State} {a0 : State} {a1 : Src}
    (h0 : Leads fp z a0) :
    Leads fp z (State.cmdDecommission a0 a1) := by
  unfold State.cmdDecommission
  split
  · exact h0
  · extract_lets -merge -useContext -underBinder v0
    refine keeps_ite ?_ ?_
    · exact keeps_put_rst hcap h0
    · exact h0

theorem keeps_pwrgdUp {fp : Nat} (hcap : Has fp 0x22) {z : State} {a0 : State} (h0 : Leads fp z a0) :
    Leads fp z (State.pwrgdUp a0) := by
  unfold State.pwrgdUp
  extract_lets -merge -useContext -underBinder v0
  refine keeps_ite ?_ ?_
  · exact h0
  · refine keeps_bootFrom (hcap.sub rfl) ?_
    exact keeps_put_rst (hcap.sub rfl) h0

theorem keeps_setLocks {fp : Nat} (hcap : Has fp 0x2) {z : State} {a0 : State} {a1 : Nat} {a2 : Nat}
    (h0 : Leads fp z a0) :
    Leads fp z (State.setLocks a0 a1 a2) := by
  unfold State.setLocks
  refine keeps_setFld hcap ?_
  exact h0

theorem keeps_arbitrate {fp : Nat} (hcap : Has fp 0x22) {z : State} {a0 : State} (h0 : Leads fp z a0) :
    Leads fp z (State.arbitrate a0) := by
  unfold State.arbitrate
  extract_lets -merge -useContext -underBinder v0 v1 v2 v3 v4 v5
  have kv4 : Leads fp z v4 := by
    dsimp -zeta only [v4]
    exact keeps_put_rst (hcap.sub rfl) h0
  first | clear_value v4 | skip
  have kv5 : Leads fp z v5 := by
    dsimp -zeta only [v5]
    refine keeps_setFld (hcap.sub rfl) ?_
    exact kv4
  first | clear_value v5 | skip
  refine keeps_ite ?_ ?_
  · exact h0
  · refine keeps_setFlag (hcap.sub rfl) ?_
    refine keeps_setFlag (hcap.sub rfl) ?_
    exact kv5

theorem keeps_stewardUp {fp : Nat} (hcap : Has fp 0x370040006E) {z : State} {a0 : State} {a1 : Nat}
    {a2 : StrapSample} {a3 : Bool} (h0 : Leads fp z a0) :
    Leads fp z (State.stewardUp a0 a1 a2 a3) := by
  unfold State.stewardUp
  split
  · extract_lets -merge -useContext -underBinder v0 v1 v2 v3 v4 v5 v6 v7
    have kv4 : Leads fp z v4 := by
      dsimp -zeta only [v4]
      exact h0.on (k := 0x1000000020) (hcap.sub rfl) (fun _ _ h0 => h0)
        (fun p e => by cases p <;> first | exact absurd e (by decide) | rfl)
    first | clear_value v4 | skip
    have kv5 : Leads fp z v5 := by
      dsimp -zeta only [v5]
      refine keeps_setFlag (hcap.sub rfl) ?_
      refine keeps_setFlag (hcap.sub rfl) ?_
      exact kv4
    first | clear_value v5 | skip
    have kv6 : Leads fp z v6 := by
      dsimp -zeta only [v6]
      refine keeps_ite ?_ ?_
      · refine keeps_setFlag (hcap.sub rfl) ?_
        exact kv5
      · exact kv5
    first | clear_value v6 | skip
    have kv7 : Leads fp z v7 := by
      dsimp -zeta only [v7]
      refine keeps_ite ?_ ?_
      · exact kv6
      · refine keeps_pinFault (hcap.sub rfl) ?_
        exact kv6
    first | clear_value v7 | skip
    refine keeps_arbitrate (hcap.sub rfl) ?_
    exact kv7

theorem keeps_auditUp {fp : Nat} (hcap : Has fp 0x2) {z : State} {a0 : State} {a1 : Nat} (h0 : Leads fp z a0) :
    Leads fp z (State.auditUp a0 a1) := by
  unfold State.auditUp
  refine keeps_dite (fun _ => ?_) (fun _ => ?_)
  · extract_lets -merge -useContext -underBinder v0 v1
    have kv0 : Leads fp z v0 := by
      dsimp -zeta only [v0]
      refine keeps_foldl ?_ ?_
      · intro y2 hy2 y3
        refine keeps_setReg hcap ?_
        exact hy2
      · exact h0
    first | clear_value v0 | skip
    have kv1 : Leads fp z v1 := by
      dsimp -zeta only [v1]
      refine keeps_foldl ?_ ?_
      · intro y4 hy4 y5
        refine keeps_setReg hcap ?_
        exact hy4
      · exact kv0
    first | clear_value v1 | skip
    refine keeps_setFlag hcap ?_
    exact kv1
  · exact h0

theorem keeps_release {fp : Nat} (hcap : Has fp 0x370040006E) {z : State} {a0 : State} {a1 : Nat}
    {a2 : StrapSample} {a3 : Nat} {a4 : Bool} {a5 : Bool} (h0 : Leads fp z a0) :
    Leads fp z (State.release a0 a1 a2 a3 a4 a5) := by
  unfold State.release
  extract_lets -merge -useContext -underBinder v0 v1 v2 v3
  have kv2 : Leads fp z v2 := by
    dsimp -zeta only [v2]
    exact keeps_put_rst (hcap.sub rfl) h0
  first | clear_value v2 | skip
  have kv3 : Leads fp z v3 := by
    dsimp -zeta only [v3]
    refine keeps_setLocks (hcap.sub rfl) ?_
    exact kv2
  first | clear_value v3 | skip
  refine keeps_ite ?_ ?_
  · exact h0
  · refine keeps_ite ?_ ?_
    · refine keeps_setFlag (hcap.sub rfl) ?_
      refine keeps_setFlag (hcap.sub rfl) ?_
      exact h0
    · refine keeps_ite ?_ ?_
      · refine keeps_stewardUp hcap ?_
        exact kv3
      · refine keeps_ite ?_ ?_
        · refine keeps_foldl ?_ ?_
          · intro y4 hy4 y5
            refine keeps_auditUp (hcap.sub rfl) ?_
            exact hy4
          · exact kv3
        · exact kv3

theorem keeps_lockTimeout {fp : Nat} (hcap : Has fp 0x22) {z : State} {a0 : State} {a1 : Nat} (h0 : Leads fp z a0) :
    Leads fp z (State.lockTimeout a0 a1) := by
  unfold State.lockTimeout
  extract_lets -merge -useContext -underBinder v0
  refine keeps_setFlag (hcap.sub rfl) ?_
  exact keeps_put_rst (hcap.sub rfl) h0

theorem keeps_phaseStall {fp : Nat} (hcap : Has fp 0x2) {z : State} {a0 : State} (h0 : Leads fp z a0) :
    Leads fp z (State.phaseStall a0) := by
  unfold State.phaseStall
  refine keeps_ite ?_ ?_
  · exact h0
  · refine keeps_setFlag hcap ?_
    exact h0

theorem keeps_enterHeld {fp : Nat} (hcap : Has fp 0x2000200022) {z : State} {a0 : State} {a1 : Nat} {a2 : Nat}
    (h0 : Leads fp z a0) :
    Leads fp z (State.enterHeld a0 a1 a2) := by
  unfold State.enterHeld
  extract_lets -merge -useContext -underBinder v0 v1 v2
  have kv0 : Leads fp z v0 := by
    dsimp -zeta only [v0]
    refine keeps_setFld (hcap.sub rfl) ?_
    refine keeps_setFlag (hcap.sub rfl) ?_
    exact h0
  first | clear_value v0 | skip
  have kv2 : Leads fp z v2 := by
    dsimp -zeta only [v2]
    exact keeps_put_rst (hcap.sub rfl) kv0
  first | clear_value v2 | skip
  refine keeps_ite ?_ ?_
  · exact h0
  · refine keeps_notice (hcap.sub rfl) ?_
    exact kv2

theorem keeps_leaveHeld {fp : Nat} (hcap : Has fp 0x400022) {z : State} {a0 : State} (h0 : Leads fp z a0) :
    Leads fp z (State.leaveHeld a0) := by
  unfold State.leaveHeld
  extract_lets -merge -useContext -underBinder v0 v1 v2 v3
  have kv2 : Leads fp z v2 := by
    dsimp -zeta only [v2]
    refine keeps_foldl ?_ ?_
    · intro y4 hy4 y5
      refine keeps_setFld (hcap.sub rfl) ?_
      refine keeps_setFlag (hcap.sub rfl) ?_
      exact hy4
    · exact h0
  first | clear_value v2 | skip
  refine keeps_eventAll (hcap.sub rfl) ?_
  exact keeps_put_rst (hcap.sub rfl) kv2

theorem keeps_heartbeat {fp : Nat} (hcap : Has fp 0x2000600022) {z : State} {a0 : State} {a1 : Nat} {a2 : Bool}
    (h0 : Leads fp z a0) :
    Leads fp z (State.heartbeat a0 a1 a2) := by
  unfold State.heartbeat
  extract_lets -merge -useContext -underBinder v0 v1 v2 v3 v4 v5 v6 v7
  have kv5 : Leads fp z v5 := by
    dsimp -zeta only [v5]
    exact keeps_put_rst (hcap.sub rfl) h0
  first | clear_value v5 | skip
  have kv6 : Leads fp z v6 := by
    dsimp -zeta only [v6]
    refine keeps_setFld (hcap.sub rfl) ?_
    exact kv5
  first | clear_value v6 | skip
  have kv7 : Leads fp z v7 := by
    dsimp -zeta only [v7]
    refine keeps_ite ?_ ?_
    · refine keeps_setFlag (hcap.sub rfl) ?_
      exact kv6
    · exact kv6
  first | clear_value v7 | skip
  refine keeps_ite ?_ ?_
  · refine keeps_leaveHeld (hcap.sub rfl) ?_
    exact kv6
  · refine keeps_ite ?_ ?_
    · refine keeps_enterHeld (hcap.sub rfl) ?_
      exact kv7
    · exact kv7

theorem keeps_loseContact {fp : Nat} (hcap : Has fp 0x2000200022) {z : State} {a0 : State} {a1 : Nat}
    (h0 : Leads fp z a0) :
    Leads fp z (State.loseContact a0 a1) := by
  unfold State.loseContact
  extract_lets -merge -useContext -underBinder v0 v1
  have kv0 : Leads fp z v0 := by
    dsimp -zeta only [v0]
    refine keeps_setFlag (hcap.sub rfl) ?_
    exact h0
  first | clear_value v0 | skip
  refine keeps_enterHeld hcap ?_
  exact keeps_put_rst (hcap.sub rfl) kv0

theorem keeps_arbiterSilent {fp : Nat} (hcap : Has fp 0x2000200022) {z : State} {a0 : State} (h0 : Leads fp z a0) :
    Leads fp z (State.arbiterSilent a0) := by
  unfold State.arbiterSilent
  extract_lets -merge -useContext -underBinder v0 v1
  have kv1 : Leads fp z v1 := by
    dsimp -zeta only [v1]
    exact keeps_put_rst (hcap.sub rfl) h0
  first | clear_value v1 | skip
  refine keeps_ite ?_ ?_
  · exact h0
  · refine keeps_enterHeld hcap ?_
    refine keeps_enterHeld hcap ?_
    exact kv1

theorem keeps_askHandover {fp : Nat} (hcap : Has fp 0x22) {z : State} {a0 : State} {a1 : Bool} (h0 : Leads fp z a0) :
    Leads fp z (State.askHandover a0 a1) := by
  unfold State.askHandover
  extract_lets -merge -useContext -underBinder v0
  refine keeps_setFlag (hcap.sub rfl) ?_
  exact keeps_put_rst (hcap.sub rfl) h0

theorem keeps_handoverWrite {fp : Nat} (hcap : Has fp 0x22) {z : State} {a0 : State} {a1 : Src} (h0 : Leads fp z a0) :
    Leads fp z (State.handoverWrite a0 a1) := by
  unfold State.handoverWrite
  refine keeps_ite ?_ ?_
  · refine keeps_askHandover hcap ?_
    exact h0
  · exact h0

theorem keeps_claimWrite {fp : Nat} (hcap : Has fp 0x22) {z : State} {a0 : State} {a1 : Src} (h0 : Leads fp z a0) :
    Leads fp z (State.claimWrite a0 a1) := by
  unfold State.claimWrite
  split
  · exact h0
  · refine keeps_ite ?_ ?_
    · exact h0
    · refine keeps_ite ?_ ?_
      · refine keeps_askHandover hcap ?_
        exact h0
      · refine keeps_setFlag (hcap.sub rfl) ?_
        exact h0

theorem keeps_handover {fp : Nat} (hcap : Has fp 0x400032) {z : State} {a0 : State} (h0 : Leads fp z a0) :
    Leads fp z (State.handover a0) := by
  unfold State.handover
  split
  · exact h0
  · extract_lets -merge -useContext -underBinder v0 v1 v2 v3 v4 v5
    have kv1 : Leads fp z v1 := by
      dsimp -zeta only [v1]
      refine keeps_setFld (hcap.sub rfl) ?_
      refine keeps_setFld (hcap.sub rfl) ?_
      exact h0
    first | clear_value v1 | skip
    have kv5 : Leads fp z v5 := by
      dsimp -zeta only [v5]
      exact kv1.on (k := 0x30) (hcap.sub rfl) (fun _ _ h0 => h0)
        (fun p e => by cases p <;> first | exact absurd e (by decide) | rfl)
    first | clear_value v5 | skip
    refine keeps_eventAll (hcap.sub rfl) ?_
    refine keeps_setFlag (hcap.sub rfl) ?_
    exact kv5

theorem keeps_setFwSlot {fp : Nat} (hcap : Has fp 0x40) {z : State} {a0 : State} {a1 : Nat} {a2 : Nat}
    {a3 : FwSlot} (h0 : Leads fp z a0) :
    Leads fp z (State.setFwSlot a0 a1 a2 a3) := by
  unfold State.setFwSlot
  extract_lets -merge -useContext -underBinder v0
  first | exact keeps_put_mram hcap h0 rfl | exact keeps_fuse hcap h0 | exact keeps_seed hcap h0 | exact keeps_life hcap h0

theorem keeps_fwResult {fp : Nat} (hcap : Has fp 0x2) {z : State} {a0 : State} {a1 : Nat} (h0 : Leads fp z a0) :
    Leads fp z (State.fwResult a0 a1) := by
  unfold State.fwResult
  refine keeps_setFld hcap ?_
  exact h0

theorem keeps_fwStart {fp : Nat} (hcap : Has fp 0x2) {z : State} {a0 : State} {a1 : Src} (h0 : Leads fp z a0) :
    Leads fp z (State.fwStart a0 a1) := by
  unfold State.fwStart
  refine keeps_ite ?_ ?_
  · exact h0
  · refine keeps_ite ?_ ?_
    · refine keeps_fwResult hcap ?_
      exact h0
    · refine keeps_ite ?_ ?_
      · refine keeps_fwResult hcap ?_
        exact h0
      · refine keeps_setFlag hcap ?_
        refine keeps_fwResult hcap ?_
        exact h0

theorem keeps_fwStore {fp : Nat} (hcap : Has fp 0x40) {z : State} {a0 : State} {a1 : FwSlot} (h0 : Leads fp z a0) :
    Leads fp z (State.fwStore a0 a1) := by
  unfold State.fwStore
  refine keeps_foldl ?_ ?_
  · intro y0 hy0 y1
    extract_lets -merge -useContext -underBinder v2 v3 v4
    have kv3 : Leads fp z v3 := by
      dsimp -zeta only [v3]
      refine keeps_setFwSlot hcap ?_
      exact hy0
    first | clear_value v3 | skip
    first | exact keeps_put_mram hcap kv3 rfl | exact keeps_fuse hcap kv3 | exact keeps_seed hcap kv3 | exact keeps_life hcap kv3
  · exact h0

theorem keeps_fwDone {fp : Nat} (hcap : Has fp 0x6FFFFFFFFE) {z : State} {a0 : State} {a1 : FwImage} {a2 : Bool}
    (h0 : Leads fp z a0) :
    Leads fp z (State.fwDone a0 a1 a2) := by
  unfold State.fwDone
  extract_lets -merge -useContext -underBinder v0 v1 v2
  have kv0 : Leads fp z v0 := by
    dsimp -zeta only [v0]
    refine keeps_setFlag (hcap.sub rfl) ?_
    exact h0
  first | clear_value v0 | skip
  have kv2 : Leads fp z v2 := by
    dsimp -zeta only [v2]
    first | exact keeps_put_mram (hcap.sub rfl) kv0 rfl | exact keeps_fuse (hcap.sub rfl) kv0 | exact keeps_seed (hcap.sub rfl) kv0 | exact keeps_life (hcap.sub rfl) kv0
  first | clear_value v2 | skip
  refine keeps_ite ?_ ?_
  · exact h0
  · refine keeps_ite ?_ ?_
    · refine keeps_fwResult (hcap.sub rfl) ?_
      refine keeps_fwFailed (hcap.sub rfl) ?_
      exact kv0
    · refine keeps_ite ?_ ?_
      · refine keeps_fwResult (hcap.sub rfl) ?_
        exact kv2
      · refine keeps_ite ?_ ?_
        · split
          rename_i x3 x4 e5
          have kx4 : Leads fp z x4 := by
            refine keeps_eq2 e5 ?_
            refine keeps_draw (hcap.sub rfl) ?_
            exact kv2
          refine keeps_fwResult (hcap.sub rfl) ?_
          refine keeps_fwStore (hcap.sub rfl) ?_
          exact kx4
        · refine keeps_fwResult (hcap.sub rfl) ?_
          refine keeps_fwStore (hcap.sub rfl) ?_
          exact kv2

theorem leads_execPwrgdRise {fp : Nat} (hcap : Has fp 0x22) {z t : State} {a0 : State} (h0 : Leads fp z a0) (e :
    (execPwrgdRise a0) = .next t) :
    Leads fp z t := by
  unfold execPwrgdRise at e
  injection e with e
  subst e
  refine keeps_pwrgdUp hcap ?_
  exact h0

theorem leads_execSystemResetCmd {fp : Nat} (hcap : Has fp 0xFFFFFFFBE) {z t : State} {a0 : Src} {a1 : State}
    (h1 : Leads fp z a1) (e : (execSystemResetCmd a0 a1) = .next t) :
    Leads fp z t := by
  unfold execSystemResetCmd at e
  injection e with e
  subst e
  refine keeps_cmdSystem hcap ?_
  exact h1

theorem leads_execCoreResetCmd {fp : Nat} (hcap : Has fp 0xF3FFFFFBE) {z t : State} {a0 : Src} {a1 : State}
    (h1 : Leads fp z a1) (e : (execCoreResetCmd a0 a1) = .next t) :
    Leads fp z t := by
  unfold execCoreResetCmd at e
  injection e with e
  subst e
  refine keeps_cmdCore hcap ?_
  exact h1

theorem leads_execDecommissionArm {fp : Nat} (hcap : Has fp 0x20) {z t : State} {a0 : Src} {a1 : State}
    (h1 : Leads fp z a1) (e : (execDecommissionArm a0 a1) = .next t) :
    Leads fp z t := by
  unfold execDecommissionArm at e
  injection e with e
  subst e
  refine keeps_cmdArm hcap ?_
  exact h1

theorem leads_execDecommission {fp : Nat} (hcap : Has fp 0x20) {z t : State} {a0 : Src} {a1 : State}
    (h1 : Leads fp z a1) (e : (execDecommission a0 a1) = .next t) :
    Leads fp z t := by
  unfold execDecommission at e
  injection e with e
  subst e
  refine keeps_cmdDecommission hcap ?_
  exact h1

theorem leads_execDomainRelease {fp : Nat} (hcap : Has fp 0x370040006E) {z t : State} {a0 : Half}
    {a1 : StrapSample} {a2 : BitVec 8} {a3 : Bool} {a4 : Bool} {a5 : State} (h5 : Leads fp z a5) (e :
    (execDomainRelease a0 a1 a2 a3 a4 a5) = .next t) :
    Leads fp z t := by
  unfold execDomainRelease at e
  injection e with e
  subst e
  refine keeps_release hcap ?_
  exact h5

theorem leads_execReleaseLockTimeout {fp : Nat} (hcap : Has fp 0x22) {z t : State} {a0 : Half} {a1 : State}
    (h1 : Leads fp z a1) (e : (execReleaseLockTimeout a0 a1) = .next t) :
    Leads fp z t := by
  unfold execReleaseLockTimeout at e
  injection e with e
  subst e
  refine keeps_lockTimeout hcap ?_
  exact h1

theorem leads_execArbiterTimeout {fp : Nat} (hcap : Has fp 0x2000200022) {z t : State} {a0 : State}
    (h0 : Leads fp z a0) (e : (execArbiterTimeout a0) = .next t) :
    Leads fp z t := by
  unfold execArbiterTimeout at e
  injection e with e
  subst e
  refine keeps_arbiterSilent hcap ?_
  exact h0

theorem leads_execBootPhaseStall {fp : Nat} (hcap : Has fp 0x2) {z t : State} {a0 : State} (h0 : Leads fp z a0)
    (e : (execBootPhaseStall a0) = .next t) :
    Leads fp z t := by
  unfold execBootPhaseStall at e
  injection e with e
  subst e
  refine keeps_phaseStall hcap ?_
  exact h0

theorem leads_execHeartbeatSend {fp : Nat} (hcap : Has fp 0x2000000000) {z t : State} {a0 : Half} {a1 : State}
    (h1 : Leads fp z a1) (e : (execHeartbeatSend a0 a1) = .next t) :
    Leads fp z t := by
  unfold execHeartbeatSend at e
  injection e with e
  subst e
  refine keeps_ite ?_ ?_
  · refine keeps_send hcap ?_
    exact h1
  · exact h1

theorem leads_execHeartbeatReceive {fp : Nat} (hcap : Has fp 0x2000600022) {z t : State} {a0 : Half} {a1 : Bool}
    {a2 : State} (h2 : Leads fp z a2) (e : (execHeartbeatReceive a0 a1 a2) = .next t) :
    Leads fp z t := by
  unfold execHeartbeatReceive at e
  injection e with e
  subst e
  refine keeps_heartbeat hcap ?_
  exact h2

theorem leads_execContactLost {fp : Nat} (hcap : Has fp 0x2000200022) {z t : State} {a0 : Half} {a1 : State}
    (h1 : Leads fp z a1) (e : (execContactLost a0 a1) = .next t) :
    Leads fp z t := by
  unfold execContactLost at e
  injection e with e
  subst e
  refine keeps_loseContact hcap ?_
  exact h1

theorem leads_execHandoverRequest {fp : Nat} (hcap : Has fp 0x22) {z t : State} {a0 : Src} {a1 : State}
    (h1 : Leads fp z a1) (e : (execHandoverRequest a0 a1) = .next t) :
    Leads fp z t := by
  unfold execHandoverRequest at e
  injection e with e
  subst e
  refine keeps_handoverWrite hcap ?_
  exact h1

theorem leads_execWarrantClaim {fp : Nat} (hcap : Has fp 0x22) {z t : State} {a0 : Src} {a1 : State}
    (h1 : Leads fp z a1) (e : (execWarrantClaim a0 a1) = .next t) :
    Leads fp z t := by
  unfold execWarrantClaim at e
  injection e with e
  subst e
  refine keeps_claimWrite hcap ?_
  exact h1

theorem leads_execFirmwareUpdateStart {fp : Nat} (hcap : Has fp 0x2) {z t : State} {a0 : Src} {a1 : State}
    (h1 : Leads fp z a1) (e : (execFirmwareUpdateStart a0 a1) = .next t) :
    Leads fp z t := by
  unfold execFirmwareUpdateStart at e
  injection e with e
  subst e
  refine keeps_fwStart hcap ?_
  exact h1

theorem leads_execFirmwareUpdateDone {fp : Nat} (hcap : Has fp 0x6FFFFFFFFE) {z t : State} {a0 : FwImage}
    {a1 : Bool} {a2 : State} (h2 : Leads fp z a2) (e : (execFirmwareUpdateDone a0 a1 a2) = .next t) :
    Leads fp z t := by
  unfold execFirmwareUpdateDone at e
  injection e with e
  subst e
  refine keeps_fwDone hcap ?_
  exact h2

/-! ### Security -/

theorem keeps_extend {fp : Nat} (hcap : Has fp 0x80000000) {z : State} {a0 : State} {a1 : Nat} {a2 : List Byte}
    (h0 : Leads fp z a0) :
    Leads fp z (State.extend a0 a1 a2) := by
  unfold State.extend
  extract_lets -merge -useContext -underBinder v0
  exact keeps_put_sec hcap h0

theorem keeps_extendWrite {fp : Nat} (hcap : Has fp 0x80000000) {z : State} {a0 : State} {a1 : Src}
    {a2 : BitVec 256} (h0 : Leads fp z a0) :
    Leads fp z (State.extendWrite a0 a1 a2) := by
  unfold State.extendWrite
  extract_lets -merge -useContext -underBinder v0
  refine keeps_ite ?_ ?_
  · refine keeps_extend hcap ?_
    exact h0
  · exact h0

theorem keeps_mbResult {fp : Nat} (hcap : Has fp 0x2) {z : State} {a0 : State} {a1 : Nat} {a2 : Nat}
    (h0 : Leads fp z a0) :
    Leads fp z (State.mbResult a0 a1 a2) := by
  unfold State.mbResult
  refine keeps_setFld hcap ?_
  refine keeps_setFlag hcap ?_
  exact h0

theorem keeps_keepReport {fp : Nat} (hcap : Has fp 0x80000000) {z : State} {a0 : State} {a1 : Nat}
    {a2 : List Byte} (h0 : Leads fp z a0) :
    Leads fp z (State.keepReport a0 a1 a2) := by
  unfold State.keepReport
  extract_lets -merge -useContext -underBinder v0 v1
  exact keeps_put_sec hcap h0

theorem keeps_attest {fp : Nat} (hcap : Has fp 0x80000002) {z : State} {a0 : State} {a1 : Src} {a2 : BitVec 256}
    (h0 : Leads fp z a0) :
    Leads fp z (State.attest a0 a1 a2) := by
  unfold State.attest
  extract_lets -merge -useContext -underBinder v0 v1
  have kv1 : Leads fp z v1 := by
    dsimp -zeta only [v1]
    refine keeps_setFld (hcap.sub rfl) ?_
    exact h0
  first | clear_value v1 | skip
  refine keeps_ite ?_ ?_
  · exact h0
  · refine keeps_ite ?_ ?_
    · refine keeps_mbResult (hcap.sub rfl) ?_
      exact kv1
    · refine keeps_keepReport (hcap.sub rfl) ?_
      refine keeps_setFlag (hcap.sub rfl) ?_
      refine keeps_mbResult (hcap.sub rfl) ?_
      exact kv1

theorem keeps_attestDone {fp : Nat} (hcap : Has fp 0x2000000002) {z : State} {a0 : State} {a1 : Nat}
    (h0 : Leads fp z a0) :
    Leads fp z (State.attestDone a0 a1) := by
  unfold State.attestDone
  extract_lets -merge -useContext -underBinder v0 v1 v2 v3
  refine keeps_ite ?_ ?_
  · exact h0
  · split
    · refine keeps_ite ?_ ?_
      · refine keeps_mbResult (hcap.sub rfl) ?_
        refine keeps_send (hcap.sub rfl) ?_
        exact h0
      · refine keeps_mbResult (hcap.sub rfl) ?_
        exact h0
    · refine keeps_mbResult (hcap.sub rfl) ?_
      exact h0

theorem leNat_lt (bs : List Byte) : leNat bs < 256 ^ bs.length := by
  induction bs with
  | nil => simp [leNat]
  | cons b bs ih =>
    simp only [leNat, List.length_cons, Nat.pow_succ]
    have := b.isLt
    omega
theorem fieldB_lt (bs : List Byte) (hi lo : Nat) : fieldB bs hi lo < 256 ^ (hi + 1 - lo) := by
  unfold fieldB
  refine Nat.lt_of_lt_of_le (leNat_lt _) (Nat.pow_le_pow_right (by decide) (by rw [List.length_take]; exact Nat.min_le_left _ _))
theorem ownerResult_ok {s : State} {w : Src} {cmd : Nat} {img : List Byte} (h : s.ownerResult w cmd img = 1) :
    ∀ o, s.mram.ownerCounter = some o → o < BitVec.ofNat 32 (fieldB img 7 4) := by
  intro o e
  have hb := fieldB_lt img 7 4
  unfold State.ownerResult at h
  rw [e] at h
  dsimp only at h
  by_cases hc : fieldB img 7 4 ≤ o.toNat
  · exfalso
    simp only [hc, decide_true, if_true] at h
    repeat' split at h
    all_goals contradiction
  · rw [BitVec.lt_def, BitVec.toNat_ofNat]
    omega
theorem keeps_ownerDo {fp : Nat} (hcap : Has fp 0x80000040) {z s : State} {cmd : Nat} {img : List Byte}
    (h : Leads fp z s)
    (hc : ∀ o, s.mram.ownerCounter = some o → o < BitVec.ofNat 32 (fieldB img 7 4)) : Leads fp z (s.ownerDo cmd img) := by
  have hn := keeps_count (hcap.sub rfl) h hc
  unfold State.ownerDo
  dsimp only
  refine keeps_ite ?_ (keeps_ite (hn.on (k := 0x40) (hcap.sub rfl) (fun _ _ h0 => h0) (fun p e => by cases p <;> first | exact absurd e (by decide) | rfl)) ?_)
  · exact keeps_extend (hcap.sub rfl) (hn.on (k := 0x40) (hcap.sub rfl) (fun _ _ h0 => h0) (fun p e => by cases p <;> first | exact absurd e (by decide) | rfl))
  · split
    · exact hn.on (k := 0x40) (hcap.sub rfl) (fun _ _ h0 => h0) (fun p e => by cases p <;> first | exact absurd e (by decide) | rfl)
    · exact h

theorem keeps_ownerCommand {fp : Nat} (hcap : Has fp 0x80000042) {z s : State} {w : Src} {cmd : Nat}
    {img : List Byte} (h : Leads fp z s) :
    Leads fp z (s.ownerCommand w cmd img) := by
  unfold State.ownerCommand
  extract_lets -merge p s1 r s2
  have h1 : Leads fp z s1 := keeps_setFld (hcap.sub rfl) h
  have h2 : Leads fp z s2 := by
    dsimp -zeta only [s2]
    split
    · rename_i hr
      exact keeps_ownerDo (hcap.sub rfl) h1 (ownerResult_ok hr)
    · exact h1
  clear_value s2
  exact keeps_ite h (keeps_mbResult (hcap.sub rfl) h2)

theorem keeps_debugTry {fp : Nat} (hcap : Has fp 0x6FFFFFFFFE) {z : State} {a0 : State} {a1 : DebugClaim}
    {a2 : List Byte} (h0 : Leads fp z a0) :
    Leads fp z (State.debugTry a0 a1 a2) := by
  unfold State.debugTry
  extract_lets -merge -useContext -underBinder v0
  split
  rename_i x1 x2 e8
  have kx2 : Leads fp z x2 := by
    refine keeps_eq2 e8 ?_
    refine keeps_draw (hcap.sub rfl) ?_
    exact h0
  extract_lets -merge -useContext -underBinder v3 v4 v5 v6 v7
  have kv4 : Leads fp z v4 := by
    dsimp -zeta only [v4]
    exact keeps_put_sec (hcap.sub rfl) kx2
  first | clear_value v4 | skip
  have kv7 : Leads fp z v7 := by
    dsimp -zeta only [v7]
    refine keeps_setFld (hcap.sub rfl) ?_
    exact kv4
  first | clear_value v7 | skip
  refine keeps_ite ?_ ?_
  · refine keeps_extend (hcap.sub rfl) ?_
    refine keeps_setFld (hcap.sub rfl) ?_
    exact kv4
  · refine keeps_ite ?_ ?_
    · refine keeps_alarmFire (hcap.sub rfl) ?_
      exact kv7
    · exact kv7

theorem keeps_tap {fp : Nat} (hcap : Has fp 0x1880400002) {z : State} {a0 : State} {a1 : JtagIns}
    (h0 : Leads fp z a0) :
    Leads fp z (State.tap a0 a1) := by
  unfold State.tap
  extract_lets -merge -useContext -underBinder v0 v1
  refine keeps_ite ?_ ?_
  · refine keeps_settlePower (hcap.sub rfl) ?_
    exact h0.on (k := 0x1080000000) (hcap.sub rfl) (fun _ _ h0 => h0)
      (fun p e => by cases p <;> first | exact absurd e (by decide) | rfl)
  · exact h0

theorem leads_execMailboxAttest {fp : Nat} (hcap : Has fp 0x80000002) {z t : State} {a0 : Src} {a1 : BitVec 256}
    {a2 : State} (h2 : Leads fp z a2) (e : (execMailboxAttest a0 a1 a2) = .next t) :
    Leads fp z t := by
  unfold execMailboxAttest at e
  injection e with e
  subst e
  refine keeps_attest hcap ?_
  exact h2

theorem leads_execAttestReportDone {fp : Nat} (hcap : Has fp 0x2000000002) {z t : State} {a0 : Port}
    {a1 : State} (h1 : Leads fp z a1) (e : (execAttestReportDone a0 a1) = .next t) :
    Leads fp z t := by
  unfold execAttestReportDone at e
  injection e with e
  subst e
  refine keeps_attestDone hcap ?_
  exact h1

theorem leads_execEnrolSlot {fp : Nat} (hcap : Has fp 0x80000042) {z t : State} {a0 : Src} {a1 : List Byte}
    {a2 : State} (h2 : Leads fp z a2) (e : (execEnrolSlot a0 a1 a2) = .next t) :
    Leads fp z t := by
  unfold execEnrolSlot at e
  injection e with e
  subst e
  refine keeps_ownerCommand hcap ?_
  exact h2

theorem leads_execRevokeSlot {fp : Nat} (hcap : Has fp 0x80000042) {z t : State} {a0 : Src} {a1 : List Byte}
    {a2 : State} (h2 : Leads fp z a2) (e : (execRevokeSlot a0 a1 a2) = .next t) :
    Leads fp z t := by
  unfold execRevokeSlot at e
  injection e with e
  subst e
  refine keeps_ownerCommand hcap ?_
  exact h2

theorem leads_execSetAlarmLevels {fp : Nat} (hcap : Has fp 0x80000042) {z t : State} {a0 : Src} {a1 : List Byte}
    {a2 : State} (h2 : Leads fp z a2) (e : (execSetAlarmLevels a0 a1 a2) = .next t) :
    Leads fp z t := by
  unfold execSetAlarmLevels at e
  injection e with e
  subst e
  refine keeps_ownerCommand hcap ?_
  exact h2

theorem leads_execInstallDomainKey {fp : Nat} (hcap : Has fp 0x80000042) {z t : State} {a0 : Src}
    {a1 : List Byte} {a2 : State} (h2 : Leads fp z a2) (e : (execInstallDomainKey a0 a1 a2) = .next t) :
    Leads fp z t := by
  unfold execInstallDomainKey at e
  injection e with e
  subst e
  refine keeps_ownerCommand hcap ?_
  exact h2

theorem leads_execMeasurementExtend {fp : Nat} (hcap : Has fp 0x80000000) {z t : State} {a0 : Src}
    {a1 : BitVec 256} {a2 : State} (h2 : Leads fp z a2) (e : (execMeasurementExtend a0 a1 a2) = .next t) :
    Leads fp z t := by
  unfold execMeasurementExtend at e
  injection e with e
  subst e
  refine keeps_extendWrite hcap ?_
  exact h2

theorem leads_execDebugUnlock {fp : Nat} (hcap : Has fp 0x6FFFFFFFFE) {z t : State} {a0 : DebugClaim}
    {a1 : List Byte} {a2 : State} (h2 : Leads fp z a2) (e : (execDebugUnlock a0 a1 a2) = .next t) :
    Leads fp z t := by
  unfold execDebugUnlock at e
  injection e with e
  subst e
  refine keeps_debugTry hcap ?_
  exact h2

theorem leads_execJtagInstruction {fp : Nat} (hcap : Has fp 0x1880400002) {z t : State} {a0 : JtagIns}
    {a1 : State} (h1 : Leads fp z a1) (e : (execJtagInstruction a0 a1) = .next t) :
    Leads fp z t := by
  unfold execJtagInstruction at e
  injection e with e
  subst e
  refine keeps_tap hcap ?_
  exact h1

end Sys2Proof.Machine
end

