-- ==== Sys2Proof/Laws/LeadsOrders.lean ====
section
/-! SUPPORT. Every operation of the Audit domain, operands and order queues leads on from its state: one lemma each. -/

namespace Sys2Proof.Machine

/-! ### AuditOps -/

theorem keeps_grantRing {fp : Nat} (hcap : Has fp 0x2000000E) {z : State} {a0 : State} {a1 : Nat} {a2 : Nat}
    (h0 : Leads fp z a0) :
    Leads fp z (State.grantRing a0 a1 a2) := by
  unfold State.grantRing
  extract_lets -merge -useContext -underBinder v0 v1 v2
  have kv2 : Leads fp z v2 := by
    dsimp -zeta only [v2]
    exact keeps_put_cal (hcap.sub rfl) h0
  first | clear_value v2 | skip
  refine keeps_ite ?_ ?_
  · refine keeps_writeNat (hcap.sub rfl) ?_
    refine keeps_setFlag (hcap.sub rfl) ?_
    exact kv2
  · exact h0

theorem keeps_calTrigger {fp : Nat} (hcap : Has fp 0x2000000E) {z : State} {a0 : State} {a1 : Nat} {a2 : Nat}
    {a3 : Nat} (h0 : Leads fp z a0) :
    Leads fp z (State.calTrigger a0 a1 a2 a3) := by
  unfold State.calTrigger
  extract_lets -merge -useContext -underBinder v0 v1 v2 v3 v4 v5 v6 v7
  have kv1 : Leads fp z v1 := by
    dsimp -zeta only [v1]
    refine keeps_setFld (hcap.sub rfl) ?_
    refine keeps_setFlag (hcap.sub rfl) ?_
    exact h0
  first | clear_value v1 | skip
  have kv2 : Leads fp z v2 := by
    dsimp -zeta only [v2]
    refine keeps_ite ?_ ?_
    · refine keeps_writeNat (hcap.sub rfl) ?_
      exact kv1
    · exact kv1
  first | clear_value v2 | skip
  have kv5 : Leads fp z v5 := by
    dsimp -zeta only [v5]
    exact keeps_put_cal (hcap.sub rfl) kv2
  first | clear_value v5 | skip
  have kv6 : Leads fp z v6 := by
    dsimp -zeta only [v6]
    refine keeps_setFlag (hcap.sub rfl) ?_
    exact kv5
  first | clear_value v6 | skip
  have kv7 : Leads fp z v7 := by
    dsimp -zeta only [v7]
    refine keeps_ite ?_ ?_
    · refine keeps_writeNat (hcap.sub rfl) ?_
      exact kv6
    · exact kv6
  first | clear_value v7 | skip
  refine keeps_ite ?_ ?_
  · refine keeps_ite ?_ ?_
    · exact kv2
    · exact keeps_put_cal (hcap.sub rfl) kv2
  · refine keeps_ite ?_ ?_
    · exact kv2
    · refine keeps_grantRing hcap ?_
      exact kv7

theorem keeps_calTriggerMint {fp : Nat} (hcap : Has fp 0x2000000E) {z : State} {a0 : State} {a1 : Nat}
    {a2 : Nat} (h0 : Leads fp z a0) :
    Leads fp z (State.calTriggerMint a0 a1 a2) := by
  unfold State.calTriggerMint
  refine keeps_foldl ?_ ?_
  · intro y0 hy0 y1
    refine keeps_calTrigger hcap ?_
    exact hy0
  · exact h0

theorem keeps_groupTemp {fp : Nat} (hcap : Has fp 0x2000000E) {z : State} {a0 : State} {a1 : Nat} {a2 : Nat}
    {a3 : Int} (h0 : Leads fp z a0) :
    Leads fp z (State.groupTemp a0 a1 a2 a3) := by
  unfold State.groupTemp
  extract_lets -merge -useContext -underBinder v0 v1
  have kv0 : Leads fp z v0 := by
    dsimp -zeta only [v0]
    refine keeps_setFld (hcap.sub rfl) ?_
    exact h0
  first | clear_value v0 | skip
  refine keeps_ite ?_ ?_
  · refine keeps_calTrigger hcap ?_
    exact kv0
  · exact kv0

theorem keeps_sensorLatched {fp : Nat} (hcap : Has fp 0x2000000E) {z : State} {a0 : State} {a1 : Nat} {a2 : Nat}
    (h0 : Leads fp z a0) :
    Leads fp z (State.sensorLatched a0 a1 a2) := by
  unfold State.sensorLatched
  extract_lets -merge -useContext -underBinder v0
  refine keeps_ite ?_ ?_
  · refine keeps_foldl ?_ ?_
    · intro y1 hy1 y2
      refine keeps_groupTemp hcap ?_
      exact hy1
    · exact h0
  · exact h0

theorem keeps_track {fp : Nat} (hcap : Has fp 0x400002) {z : State} {a0 : State} {a1 : Nat} {a2 : Nat}
    {a3 : Nat} {a4 : Bool} {a5 : Bool} (h0 : Leads fp z a0) :
    Leads fp z (State.track a0 a1 a2 a3 a4 a5) := by
  unfold State.track
  extract_lets -merge -useContext -underBinder v0 v1 v2 v3 v4 v5 v6 v7 v8 v9
  have kv2 : Leads fp z v2 := by
    dsimp -zeta only [v2]
    refine keeps_setFlag (hcap.sub rfl) ?_
    exact h0
  first | clear_value v2 | skip
  have kv3 : Leads fp z v3 := by
    dsimp -zeta only [v3]
    refine keeps_setFld (hcap.sub rfl) ?_
    exact kv2
  first | clear_value v3 | skip
  have kv4 : Leads fp z v4 := by
    dsimp -zeta only [v4]
    refine keeps_setFld (hcap.sub rfl) ?_
    exact kv3
  first | clear_value v4 | skip
  have kv8 : ∀ y0, Leads fp z y0 → ∀ y1, ∀ y2, Leads fp z (v8 y0 y1 y2) := by
    dsimp -zeta only [v8]
    intro y10 hy10 y11 y12
    extract_lets -merge -useContext -underBinder v13 v14
    have kv14 : Leads fp z v14 := by
      dsimp -zeta only [v14]
      refine keeps_setFlag (hcap.sub rfl) ?_
      exact hy10
    first | clear_value v14 | skip
    refine keeps_ite ?_ ?_
    · refine keeps_eventAll (hcap.sub rfl) ?_
      exact kv14
    · exact kv14
  first | clear_value v8 | skip
  have kv9 : Leads fp z v9 := by
    dsimp -zeta only [v9]
    refine keeps_ite ?_ ?_
    · refine kv8 _ ?_ _ _
      exact kv4
    · exact kv4
  first | clear_value v9 | skip
  refine keeps_ite ?_ ?_
  · refine kv8 _ ?_ _ _
    exact kv9
  · exact kv9

theorem keeps_denja {fp : Nat} (hcap : Has fp 0x2) {z : State} {a0 : State} {a1 : Nat} {a2 : Nat} {a3 : Nat}
    {a4 : Bool} {a5 : Bool} {a6 : Bool} (h0 : Leads fp z a0) :
    Leads fp z (State.denja a0 a1 a2 a3 a4 a5 a6) := by
  unfold State.denja
  extract_lets -merge -useContext -underBinder v0 v1
  have kv0 : Leads fp z v0 := by
    dsimp -zeta only [v0]
    refine keeps_ite ?_ ?_
    · refine keeps_setFlag hcap ?_
      exact h0
    · exact h0
  first | clear_value v0 | skip
  refine keeps_setReg hcap ?_
  exact kv0

theorem keeps_latch {fp : Nat} (hcap : Has fp 0x2000000E) {z : State} {a0 : State} {a1 : Nat} {a2 : Nat}
    {a3 : Nat} (h0 : Leads fp z a0) :
    Leads fp z (State.latch a0 a1 a2 a3) := by
  unfold State.latch
  extract_lets -merge -useContext -underBinder v0 v1
  have kv1 : Leads fp z v1 := by
    dsimp -zeta only [v1]
    refine keeps_setReg (hcap.sub rfl) ?_
    exact h0
  first | clear_value v1 | skip
  refine keeps_sensorLatched hcap ?_
  refine keeps_setFlag (hcap.sub rfl) ?_
  exact kv1

theorem keeps_takeShadow {fp : Nat} (hcap : Has fp 0x40000002) {z : State} {a0 : State} {a1 : Nat}
    (h0 : Leads fp z a0) :
    Leads fp z (State.takeShadow a0 a1) := by
  unfold State.takeShadow
  split
  · exact h0
  · extract_lets -merge -useContext -underBinder v0 v1 v2
    have kv0 : Leads fp z v0 := by
      dsimp -zeta only [v0]
      refine keeps_foldl ?_ ?_
      · intro y3 hy3 y4
        refine keeps_setReg (hcap.sub rfl) ?_
        exact hy3
      · exact h0
    first | clear_value v0 | skip
    have kv1 : Leads fp z v1 := by
      dsimp -zeta only [v1]
      refine keeps_foldl ?_ ?_
      · intro y5 hy5 y6
        refine keeps_setReg (hcap.sub rfl) ?_
        exact hy5
      · exact kv0
    first | clear_value v1 | skip
    refine keeps_setAudit (hcap.sub rfl) ?_
    exact kv1

theorem keeps_loopPass {fp : Nat} (hcap : Has fp 0x2F4040004E) {z : State} {a0 : State} {a1 : Nat}
    (h0 : Leads fp z a0) :
    Leads fp z (State.loopPass a0 a1) := by
  unfold State.loopPass
  extract_lets -merge -useContext -underBinder v0
  have kv0 : Leads fp z v0 := by
    dsimp -zeta only [v0]
    refine keeps_railPass (hcap.sub rfl) ?_
    refine keeps_takeShadow (hcap.sub rfl) ?_
    exact h0
  first | clear_value v0 | skip
  refine keeps_ite ?_ ?_
  · refine keeps_thermalPass (hcap.sub rfl) ?_
    exact kv0
  · exact kv0

theorem keeps_nextEntry {fp : Nat} (hcap : Has fp 0x2F4040004E) {z : State} {a0 : State} {a1 : Nat} {a2 : Nat}
    (h0 : Leads fp z a0) :
    Leads fp z (State.nextEntry a0 a1 a2) := by
  unfold State.nextEntry
  split
  · extract_lets -merge -useContext -underBinder v0
    refine keeps_setFld (hcap.sub rfl) ?_
    refine keeps_setAudit (hcap.sub rfl) ?_
    exact h0
  · extract_lets -merge -useContext -underBinder v1 v2 v3
    have kv1 : Leads fp z v1 := by
      dsimp -zeta only [v1]
      refine keeps_loopPass hcap ?_
      exact h0
    first | clear_value v1 | skip
    refine keeps_setFld (hcap.sub rfl) ?_
    refine keeps_setAudit (hcap.sub rfl) ?_
    exact kv1

theorem keeps_convert {fp : Nat} (hcap : Has fp 0x2F6040004E) {z : State} {a0 : State} {a1 : Nat} {a2 : Nat}
    {a3 : Bool} {a4 : Bool} (h0 : Leads fp z a0) :
    Leads fp z (State.convert a0 a1 a2 a3 a4) := by
  unfold State.convert
  extract_lets -merge -useContext -underBinder v0 v1 v2 v3 v4 v5 v6 v7 v8 v9 v10 v11 v12 v13 v14
  have kv0 : Leads fp z v0 := by
    dsimp -zeta only [v0]
    refine keeps_ite ?_ ?_
    · exact h0
    · refine keeps_nextEntry (hcap.sub rfl) ?_
      exact h0
  first | clear_value v0 | skip
  have kv5 : Leads fp z v5 := by
    dsimp -zeta only [v5]
    refine keeps_bump (hcap.sub rfl) ?_
    exact kv0
  first | clear_value v5 | skip
  have kv6 : Leads fp z v6 := by
    dsimp -zeta only [v6]
    refine keeps_ite ?_ ?_
    · refine keeps_bump (hcap.sub rfl) ?_
      exact kv5
    · exact kv5
  first | clear_value v6 | skip
  have kv7 : Leads fp z v7 := by
    dsimp -zeta only [v7]
    refine keeps_ite ?_ ?_
    · refine keeps_track (hcap.sub rfl) ?_
      exact kv6
    · exact kv6
  first | clear_value v7 | skip
  have kv8 : Leads fp z v8 := by
    dsimp -zeta only [v8]
    refine keeps_ite ?_ ?_
    · refine keeps_denja (hcap.sub rfl) ?_
      exact kv7
    · exact kv7
  first | clear_value v8 | skip
  have kv11 : Leads fp z v11 := by
    dsimp -zeta only [v11]
    refine keeps_setAudit (hcap.sub rfl) ?_
    exact kv8
  first | clear_value v11 | skip
  have kv12 : Leads fp z v12 := by
    dsimp -zeta only [v12]
    refine keeps_ite ?_ ?_
    · refine keeps_latch (hcap.sub rfl) ?_
      exact kv11
    · exact kv11
  first | clear_value v12 | skip
  have kv14 : Leads fp z v14 := by
    dsimp -zeta only [v14]
    refine keeps_setAudit (hcap.sub rfl) ?_
    exact kv12
  first | clear_value v14 | skip
  refine keeps_ite ?_ ?_
  · exact kv0
  · refine keeps_ite ?_ ?_
    · exact kv11
    · refine keeps_ite ?_ ?_
      · exact kv14
      · refine keeps_nextEntry (hcap.sub rfl) ?_
        exact kv14

theorem keeps_readData {fp : Nat} (hcap : Has fp 0x2000000002) {z : State} {a0 : State} {a1 : Src} {a2 : Nat}
    (h0 : Leads fp z a0) :
    Leads fp z (State.readData a0 a1 a2) := by
  unfold State.readData
  extract_lets -merge -useContext -underBinder v0
  refine keeps_setFlag (hcap.sub rfl) ?_
  refine keeps_send (hcap.sub rfl) ?_
  exact h0

theorem keeps_clearTrackers {fp : Nat} (hcap : Has fp 0x2) {z : State} {a0 : State} {a1 : Src} {a2 : Nat}
    {a3 : Nat} (h0 : Leads fp z a0) :
    Leads fp z (State.clearTrackers a0 a1 a2 a3) := by
  unfold State.clearTrackers
  refine keeps_ite ?_ ?_
  · refine keeps_foldl ?_ ?_
    · intro y0 hy0 y1
      refine keeps_setFld hcap ?_
      refine keeps_setFld hcap ?_
      exact hy0
    · exact h0
  · exact h0

theorem keeps_refbufOn {fp : Nat} (hcap : Has fp 0x2) {z : State} {a0 : State} {a1 : Src} {a2 : Nat}
    (h0 : Leads fp z a0) :
    Leads fp z (State.refbufOn a0 a1 a2) := by
  unfold State.refbufOn
  refine keeps_ite ?_ ?_
  · refine keeps_setFlag hcap ?_
    refine keeps_setFld hcap ?_
    refine keeps_setFlag hcap ?_
    exact h0
  · exact h0

theorem keeps_refbufDone {fp : Nat} (hcap : Has fp 0x2) {z : State} {a0 : State} {a1 : Nat} (h0 : Leads fp z a0) :
    Leads fp z (State.refbufDone a0 a1) := by
  unfold State.refbufDone
  refine keeps_ite ?_ ?_
  · refine keeps_setFlag hcap ?_
    refine keeps_setFld hcap ?_
    exact h0
  · exact h0

theorem keeps_burstStart {fp : Nat} (hcap : Has fp 0x40000002) {z : State} {a0 : State} {a1 : Nat}
    (h0 : Leads fp z a0) :
    Leads fp z (State.burstStart a0 a1) := by
  unfold State.burstStart
  extract_lets -merge -useContext -underBinder v0 v1 v2
  have kv1 : Leads fp z v1 := by
    dsimp -zeta only [v1]
    refine keeps_setAudit (hcap.sub rfl) ?_
    exact h0
  first | clear_value v1 | skip
  have kv2 : Leads fp z v2 := by
    dsimp -zeta only [v2]
    refine keeps_bump (hcap.sub rfl) ?_
    refine keeps_setFlag (hcap.sub rfl) ?_
    exact kv1
  first | clear_value v2 | skip
  refine keeps_ite ?_ ?_
  · exact h0
  · refine keeps_foldl ?_ ?_
    · intro y3 hy3 y4
      refine keeps_setFlag (hcap.sub rfl) ?_
      refine keeps_setFlag (hcap.sub rfl) ?_
      exact hy3
    · exact kv2

theorem keeps_reference {fp : Nat} (hcap : Has fp 0x274040004E) {z : State} {a0 : State} {a1 : Nat}
    {a2 : BurstData} (h0 : Leads fp z a0) :
    Leads fp z (State.reference a0 a1 a2) := by
  unfold State.reference
  extract_lets -merge -useContext -underBinder v0 v1 v2 v3 v4 v5 v6 v7 v8 v9 v10 v11 v12 v13 v14 v15 v16
  have kv5 : Leads fp z v5 := by
    dsimp -zeta only [v5]
    refine keeps_setReg (hcap.sub rfl) ?_
    exact h0
  first | clear_value v5 | skip
  have kv6 : ∀ y0, Leads fp z y0 → ∀ y1, Leads fp z (v6 y0 y1) := by
    dsimp -zeta only [v6]
    intro y17 hy17 y18
    refine keeps_setReg (hcap.sub rfl) ?_
    exact hy17
  first | clear_value v6 | skip
  have kv7 : Leads fp z v7 := by
    dsimp -zeta only [v7]
    refine keeps_setFlag (hcap.sub rfl) ?_
    refine keeps_setFlag (hcap.sub rfl) ?_
    refine kv6 _ ?_ _
    exact kv5
  first | clear_value v7 | skip
  have kv9 : Leads fp z v9 := by
    dsimp -zeta only [v9]
    refine keeps_setAudit (hcap.sub rfl) ?_
    exact kv7
  first | clear_value v9 | skip
  have kv10 : Leads fp z v10 := by
    dsimp -zeta only [v10]
    refine keeps_fault (hcap.sub rfl) ?_
    exact kv9
  first | clear_value v10 | skip
  have kv13 : Leads fp z v13 := by
    dsimp -zeta only [v13]
    refine keeps_setAudit (hcap.sub rfl) ?_
    exact kv5
  first | clear_value v13 | skip
  have kv15 : Leads fp z v15 := by
    dsimp -zeta only [v15]
    refine keeps_setFlag (hcap.sub rfl) ?_
    refine kv6 _ ?_ _
    exact kv13
  first | clear_value v15 | skip
  have kv16 : Leads fp z v16 := by
    dsimp -zeta only [v16]
    refine keeps_ite ?_ ?_
    · refine keeps_eventAll (hcap.sub rfl) ?_
      exact kv15
    · exact kv15
  first | clear_value v16 | skip
  refine keeps_ite ?_ ?_
  · refine keeps_eventAll (hcap.sub rfl) ?_
    exact kv10
  · refine keeps_ite ?_ ?_
    · refine kv6 _ ?_ _
      exact kv13
    · refine keeps_ite ?_ ?_
      · refine keeps_eventAll (hcap.sub rfl) ?_
        exact kv16
      · exact kv16

theorem keeps_ladderPass {fp : Nat} (hcap : Has fp 0x272040004E) {z : State} {a0 : State} {a1 : Nat} {a2 : Nat}
    {a3 : Nat} (h0 : Leads fp z a0) :
    Leads fp z (State.ladderPass a0 a1 a2 a3) := by
  unfold State.ladderPass
  extract_lets -merge -useContext -underBinder v0 v1 v2 v3 v4 v5 v6 v7 v8
  have kv3 : Leads fp z v3 := by
    dsimp -zeta only [v3]
    refine keeps_setFld (hcap.sub rfl) ?_
    exact h0
  first | clear_value v3 | skip
  have kv8 : Leads fp z v8 := by
    dsimp -zeta only [v8]
    exact keeps_put_cal (hcap.sub rfl) kv3
  first | clear_value v8 | skip
  refine keeps_ite ?_ ?_
  · refine keeps_ite ?_ ?_
    · refine keeps_fault (hcap.sub rfl) ?_
      exact kv8
    · exact kv8
  · exact kv3

theorem keeps_replicaPass {fp : Nat} (hcap : Has fp 0x2000000E) {z : State} {a0 : State} {a1 : Nat}
    {a2 : Nat × Nat} (h0 : Leads fp z a0) :
    Leads fp z (State.replicaPass a0 a1 a2) := by
  unfold State.replicaPass
  extract_lets -merge -useContext -underBinder v0 v1 v2 v3
  have kv1 : Leads fp z v1 := by
    dsimp -zeta only [v1]
    exact keeps_put_cal (hcap.sub rfl) h0
  first | clear_value v1 | skip
  refine keeps_ite ?_ ?_
  · refine keeps_calTriggerMint hcap ?_
    exact kv1
  · exact kv1

theorem keeps_burstDone {fp : Nat} (hcap : Has fp 0x276040004E) {z : State} {a0 : State} {a1 : Nat}
    {a2 : BurstData} (h0 : Leads fp z a0) :
    Leads fp z (State.burstDone a0 a1 a2) := by
  unfold State.burstDone
  extract_lets -merge -useContext -underBinder v0 v1 v2 v3
  have kv1 : Leads fp z v1 := by
    dsimp -zeta only [v1]
    refine keeps_setAudit (hcap.sub rfl) ?_
    exact h0
  first | clear_value v1 | skip
  have kv2 : Leads fp z v2 := by
    dsimp -zeta only [v2]
    refine keeps_reference (hcap.sub rfl) ?_
    refine keeps_setFlag (hcap.sub rfl) ?_
    exact kv1
  first | clear_value v2 | skip
  have kv3 : Leads fp z v3 := by
    dsimp -zeta only [v3]
    refine keeps_foldl ?_ ?_
    · intro y4 hy4 y5
      refine keeps_ite ?_ ?_
      · refine keeps_ladderPass (hcap.sub rfl) ?_
        exact hy4
      · exact hy4
    · exact kv2
  first | clear_value v3 | skip
  refine keeps_ite ?_ ?_
  · exact h0
  · refine keeps_ite ?_ ?_
    · refine keeps_foldl ?_ ?_
      · intro y6 hy6 y7
        refine keeps_ite ?_ ?_
        · refine keeps_replicaPass (hcap.sub rfl) ?_
          exact hy6
        · exact hy6
      · exact kv3
    · exact kv2

theorem keeps_calStart {fp : Nat} (hcap : Has fp 0x2000000E) {z : State} {a0 : State} {a1 : Src} {a2 : Nat}
    {a3 : Nat} (h0 : Leads fp z a0) :
    Leads fp z (State.calStart a0 a1 a2 a3) := by
  unfold State.calStart
  refine keeps_ite ?_ ?_
  · refine keeps_calTrigger hcap ?_
    exact h0
  · exact h0

theorem keeps_vaultMode {fp : Nat} (hcap : Has fp 0x2) {z : State} {a0 : State} {a1 : Nat} {a2 : Int}
    (h0 : Leads fp z a0) :
    Leads fp z (State.vaultMode a0 a1 a2) := by
  unfold State.vaultMode
  refine keeps_ite ?_ ?_
  · refine keeps_setFlag hcap ?_
    exact h0
  · refine keeps_ite ?_ ?_
    · refine keeps_setFlag hcap ?_
      exact h0
    · exact h0

theorem leads_execCalStartWrite {fp : Nat} (hcap : Has fp 0x2000000E) {z t : State} {a0 : Src} {a1 : Die}
    {a2 : Fin 512} {a3 : State} (h3 : Leads fp z a3) (e : (execCalStartWrite a0 a1 a2 a3) = .next t) :
    Leads fp z t := by
  unfold execCalStartWrite at e
  injection e with e
  subst e
  refine keeps_calStart hcap ?_
  exact h3

theorem leads_execAuditConversion {fp : Nat} (hcap : Has fp 0x2F6040004E) {z t : State} {a0 : Fin 6}
    {a1 : BitVec 12} {a2 : Bool} {a3 : Bool} {a4 : State} (h4 : Leads fp z a4) (e :
    (execAuditConversion a0 a1 a2 a3 a4) = .next t) :
    Leads fp z t := by
  unfold execAuditConversion at e
  injection e with e
  subst e
  refine keeps_convert hcap ?_
  exact h4

theorem leads_execAuditBurstStart {fp : Nat} (hcap : Has fp 0x40000002) {z t : State} {a0 : Fin 6} {a1 : State}
    (h1 : Leads fp z a1) (e : (execAuditBurstStart a0 a1) = .next t) :
    Leads fp z t := by
  unfold execAuditBurstStart at e
  injection e with e
  subst e
  refine keeps_burstStart hcap ?_
  exact h1

theorem leads_execAuditBurstDone {fp : Nat} (hcap : Has fp 0x276040004E) {z t : State} {a0 : Fin 6}
    {a1 : BurstData} {a2 : State} (h2 : Leads fp z a2) (e : (execAuditBurstDone a0 a1 a2) = .next t) :
    Leads fp z t := by
  unfold execAuditBurstDone at e
  injection e with e
  subst e
  refine keeps_burstDone hcap ?_
  exact h2

theorem leads_execRefbufEnable {fp : Nat} (hcap : Has fp 0x2) {z t : State} {a0 : Src} {a1 : Fin 6} {a2 : State}
    (h2 : Leads fp z a2) (e : (execRefbufEnable a0 a1 a2) = .next t) :
    Leads fp z t := by
  unfold execRefbufEnable at e
  injection e with e
  subst e
  refine keeps_refbufOn hcap ?_
  exact h2

theorem leads_execRefbufSettled {fp : Nat} (hcap : Has fp 0x2) {z t : State} {a0 : Fin 6} {a1 : State}
    (h1 : Leads fp z a1) (e : (execRefbufSettled a0 a1) = .next t) :
    Leads fp z t := by
  unfold execRefbufSettled at e
  injection e with e
  subst e
  refine keeps_refbufDone hcap ?_
  exact h1

theorem leads_execAudDataRead {fp : Nat} (hcap : Has fp 0x2000000002) {z t : State} {a0 : Src} {a1 : Fin 6}
    {a2 : State} (h2 : Leads fp z a2) (e : (execAudDataRead a0 a1 a2) = .next t) :
    Leads fp z t := by
  unfold execAudDataRead at e
  injection e with e
  subst e
  refine keeps_readData hcap ?_
  exact h2

theorem leads_execTrackerClear {fp : Nat} (hcap : Has fp 0x2) {z t : State} {a0 : Src} {a1 : Fin 6}
    {a2 : Word32} {a3 : State} (h3 : Leads fp z a3) (e : (execTrackerClear a0 a1 a2 a3) = .next t) :
    Leads fp z t := by
  unfold execTrackerClear at e
  injection e with e
  subst e
  refine keeps_clearTrackers hcap ?_
  exact h3

theorem leads_execVaultModeChange {fp : Nat} (hcap : Has fp 0x2) {z t : State} {a0 : Fin 4} {a1 : Int}
    {a2 : State} (h2 : Leads fp z a2) (e : (execVaultModeChange a0 a1 a2) = .next t) :
    Leads fp z t := by
  unfold execVaultModeChange at e
  injection e with e
  subst e
  refine keeps_vaultMode hcap ?_
  exact h2

/-! ### Operands -/

theorem keeps_putFloat {fp : Nat} (hcap : Has fp 0xC) {z : State} {a0 : State} {a1 : Nat} {a2 : Nat} {a3 : Bool}
    {a4 : Nat} {a5 : Val} (h0 : Leads fp z a0) :
    Leads fp z (State.putFloat a0 a1 a2 a3 a4 a5) := by
  unfold State.putFloat
  extract_lets -merge -useContext -underBinder v0 v1 v2
  split
  · refine keeps_spoil (hcap.sub rfl) ?_
    exact h0
  · refine keeps_ite ?_ ?_
    · refine keeps_ite ?_ ?_
      · exact h0
      · refine keeps_writeNat hcap ?_
        exact h0
    · refine keeps_writeNat hcap ?_
      exact h0

theorem keeps_putFloats {fp : Nat} (hcap : Has fp 0xC) {z : State} {a0 : State} {a1 : Nat} {a2 : Nat}
    {a3 : Bool} {a4 : List Val} (h0 : Leads fp z a0) :
    Leads fp z (State.putFloats a0 a1 a2 a3 a4) := by
  unfold State.putFloats
  extract_lets -merge -useContext -underBinder v0 v1
  have kv1 : Leads fp z v1 := by
    dsimp -zeta only [v1]
    refine keeps_ite ?_ ?_
    · exact h0
    · exact keeps_put_poison (hcap.sub rfl) h0
  first | clear_value v1 | skip
  refine keeps_foldl ?_ ?_
  · intro y2 hy2 y3
    refine keeps_putFloat hcap ?_
    exact hy2
  · exact kv1

theorem keeps_putBlock {fp : Nat} (hcap : Has fp 0xC) {z : State} {a0 : State} {a1 : Nat} {a2 : Nat} {a3 : Nat}
    {a4 : Nat} {a5 : Quant} (h0 : Leads fp z a0) :
    Leads fp z (State.putBlock a0 a1 a2 a3 a4 a5) := by
  unfold State.putBlock
  extract_lets -merge -useContext -underBinder v0 v1 v2
  refine keeps_writeNat hcap ?_
  refine keeps_write hcap ?_
  exact h0

theorem keeps_putBlocks {fp : Nat} (hcap : Has fp 0xC) {z : State} {a0 : State} {a1 : Nat} {a2 : Nat} {a3 : Nat}
    {a4 : List Quant} (h0 : Leads fp z a0) :
    Leads fp z (State.putBlocks a0 a1 a2 a3 a4) := by
  unfold State.putBlocks
  extract_lets -merge -useContext -underBinder v0
  have kv0 : Leads fp z v0 := by
    dsimp -zeta only [v0]
    exact keeps_put_poison (hcap.sub rfl) h0
  first | clear_value v0 | skip
  refine keeps_foldl ?_ ?_
  · intro y1 hy1 y2
    refine keeps_putBlock hcap ?_
    exact hy1
  · exact kv0

theorem keeps_putPartial {fp : Nat} (hcap : Has fp 0xC) {z : State} {a0 : State} {a1 : Nat} {a2 : Bool}
    {a3 : Nat} {a4 : Hoard} (h0 : Leads fp z a0) :
    Leads fp z (State.putPartial a0 a1 a2 a3 a4) := by
  unfold State.putPartial
  extract_lets -merge -useContext -underBinder v0
  refine keeps_write hcap ?_
  exact h0

theorem keeps_onDies {fp : Nat} {z : State} {a0 : State} {a1 : Operand} {a2 : Nat} {a3 : State → Nat → State}
    (h0 : Leads fp z a0) (h3 : ∀ y0, Leads fp z y0 → ∀ y1, Leads fp z (a3 y0 y1)) :
    Leads fp z (State.onDies a0 a1 a2 a3) := by
  unfold State.onDies
  refine keeps_foldl ?_ ?_
  · intro y0 hy0 y1
    refine h3 _ ?_ _
    exact hy0
  · exact h0

theorem keeps_setRec {fp : Nat} (hcap : Has fp 0xC) {z : State} {a0 : State} {a1 : Nat} {a2 : Nat} {a3 : Nat}
    {a4 : Nat} (h0 : Leads fp z a0) :
    Leads fp z (State.setRec a0 a1 a2 a3 a4) := by
  unfold State.setRec
  refine keeps_writeNat hcap ?_
  exact h0

theorem keeps_addRec {fp : Nat} (hcap : Has fp 0xC) {z : State} {a0 : State} {a1 : Nat} {a2 : Nat} {a3 : Nat}
    (h0 : Leads fp z a0) :
    Leads fp z (State.addRec a0 a1 a2 a3) := by
  unfold State.addRec
  refine keeps_ite ?_ ?_
  · exact h0
  · refine keeps_setRec hcap ?_
    exact h0

/-! ### Flags -/

theorem keeps_markRows {fp : Nat} (hcap : Has fp 0x400000) {z : State} {a0 : State} {a1 : Nat} {a2 : Nat}
    {a3 : Row → Row} (h0 : Leads fp z a0) :
    Leads fp z (State.markRows a0 a1 a2 a3) := by
  unfold State.markRows
  extract_lets -merge -useContext -underBinder v0
  exact keeps_put_serve hcap h0

theorem keeps_orderFault {fp : Nat} (hcap : Has fp 0x270040004E) {z : State} {a0 : State} {a1 : Job} {a2 : Nat}
    (h0 : Leads fp z a0) :
    Leads fp z (State.orderFault a0 a1 a2) := by
  unfold State.orderFault
  extract_lets -merge -useContext -underBinder v0 v1 v2 v3
  have kv0 : Leads fp z v0 := by
    dsimp -zeta only [v0]
    refine keeps_setReg (hcap.sub rfl) ?_
    exact h0
  first | clear_value v0 | skip
  have kv1 : Leads fp z v1 := by
    dsimp -zeta only [v1]
    refine keeps_bump (hcap.sub rfl) ?_
    exact kv0
  first | clear_value v1 | skip
  have kv3 : Leads fp z v3 := by
    dsimp -zeta only [v3]
    refine keeps_fault hcap ?_
    exact kv1
  first | clear_value v3 | skip
  refine keeps_markRows (hcap.sub rfl) ?_
  exact kv3

theorem keeps_signalAfter {fp : Nat} (hcap : Has fp 0x20000) {z : State} {a0 : State} {a1 : EngUnit} {a2 : Bool}
    {a3 : BitVec 128} {a4 : Bool} (h0 : Leads fp z a0) :
    Leads fp z (State.signalAfter a0 a1 a2 a3 a4) := by
  unfold State.signalAfter
  refine keeps_ite ?_ ?_
  · exact h0
  · exact keeps_put_signals hcap h0

theorem keeps_signalTimes {fp : Nat} (hcap : Has fp 0x20000) {z : State} {u : EngUnit} {dec : Bool}
    {o : BitVec 128} {every : Bool} :
    ∀ {n : Nat} {s : State}, Leads fp z s → Leads fp z (s.signalTimes u dec o every n)
  | 0, _, h => h
  | n + 1, s, h => by
    unfold State.signalTimes
    exact keeps_signalTimes hcap (n := n) (keeps_signalAfter hcap h)

theorem keeps_tallyMisuse {fp : Nat} (hcap : Has fp 0x270044004E) {z s : State} {t r v : Nat} {j : Option Job}
    (h : Leads fp z s) :
    Leads fp z (s.tallyMisuse t r v j) := by
  unfold State.tallyMisuse
  refine keeps_fault (hcap.sub rfl) ?_
  refine keeps_bump (hcap.sub rfl) ?_
  refine keeps_setReg (hcap.sub rfl) ?_
  exact keeps_setTally (hcap.sub rfl) h (fun o k => countersOk_look o t k)

theorem keeps_tallyAdd {fp : Nat} (hcap : Has fp 0x270044004E) {z s : State} {t v : Nat} {j : Option Job}
    (h : Leads fp z s) :
    Leads fp z (s.tallyAdd t v j).1 := by
  unfold State.tallyAdd
  dsimp only
  split
  · exact keeps_tallyMisuse hcap h
  · split
    · exact keeps_tallyMisuse hcap h
    · split
      · exact keeps_tallyMisuse hcap h
      · next h1 h2 h3 =>
        refine keeps_setTally (hcap.sub rfl) h (fun o k => ?_)
        have := countersOk_look o t k
        simp only [State.tallyOf] at *
        omega

theorem keeps_tallySub {fp : Nat} (hcap : Has fp 0x270044004E) {z s : State} {t v : Nat} {j : Option Job}
    (h : Leads fp z s) :
    Leads fp z (s.tallySub t v j).1 := by
  unfold State.tallySub
  dsimp only
  split
  · exact keeps_tallyMisuse hcap h
  · split
    · exact keeps_tallyMisuse hcap h
    · split
      · exact keeps_tallyMisuse hcap h
      · next h1 h2 h3 =>
        refine keeps_setTally (hcap.sub rfl) h (fun o k => ?_)
        have := countersOk_look o t k
        simp only [State.tallyOf] at *
        omega

theorem keeps_releaseAll {fp : Nat} (hcap : Has fp 0x30000) {z : State} {a0 : State} {a1 : Nat} {a2 : Nat}
    (h0 : Leads fp z a0) :
    Leads fp z (State.releaseAll a0 a1 a2) := by
  unfold State.releaseAll
  refine keeps_foldl ?_ ?_
  · intro y0 hy0 y1
    extract_lets -merge -useContext -underBinder v2
    refine keeps_foldl ?_ ?_
    · intro y3 hy3 y4
      extract_lets -merge -useContext -underBinder v5
      split
      · split
        · exact hy3
        · refine keeps_signalAfter (hcap.sub rfl) ?_
          refine keeps_setEng (hcap.sub rfl) ?_
          exact hy3
    · exact hy0
  · exact h0

theorem keeps_roundDone {fp : Nat} (hcap : Has fp 0x70002) {z s : State} {t : Nat} (h : Leads fp z s) (k :
    (s.tallyOf t).kind ≠ tallyCounter) :
    Leads fp z (s.roundDone t) := by
  unfold State.roundDone
  refine keeps_releaseAll (hcap.sub rfl) ?_
  refine keeps_setTally (hcap.sub rfl) (keeps_bump (hcap.sub rfl) h) (fun _ e => absurd e k)

theorem keeps_arriveAt {fp : Nat} (hcap : Has fp 0x270044004E) {z s : State} {t r : Nat} {j : Option Job}
    (h : Leads fp z s) :
    Leads fp z (s.arriveAt t r j).1 := by
  unfold State.arriveAt
  dsimp only
  split
  · exact keeps_tallyMisuse hcap h
  · split
    · exact keeps_tallyMisuse hcap h
    · next _ hk =>
      have hb : (s.tallyOf t).kind = tallyBarrier := Decidable.not_not.mp hk
      have hc : (s.tallyOf t).kind ≠ tallyCounter := by rw [hb]; decide
      split
      · exact keeps_setTally (hcap.sub rfl) h (fun _ e => absurd e hc)
      · split
        · split
          · exact keeps_tallyMisuse hcap h
          · exact keeps_setTally (hcap.sub rfl) h (fun _ e => absurd e hc)
        · exact keeps_tallyMisuse hcap h

theorem keeps_settleRound {fp : Nat} (hcap : Has fp 0x70002) {z s : State} {t : Nat}
    (h : Leads fp z s) : Leads fp z (s.settleRound t) := by
  unfold State.settleRound
  dsimp only
  split
  · next hk => exact keeps_roundDone hcap h (by rw [hk.1]; decide)
  · exact h

/-! ### Orders -/

theorem keeps_targetUnit {fp : Nat} (hcap : Has fp 0x400000) {z s : State} {d : Die} {n : Nat} (h : Leads fp z s) :
    ∀ r, s.targetUnit d n = some r → Leads fp z r.2 := by
  intro r e
  unfold State.targetUnit at e
  dsimp only at e
  repeat' split at e
  all_goals first
    | (injection e with e; subst e; exact h)
    | (injection e with e; subst e; exact keeps_put_serve hcap h)
    | (obtain ⟨i, -, hi⟩ := Option.map_eq_some_iff.mp e; subst hi; exact h)
    | exact absurd e (by simp)

theorem keeps_enqueue {fp : Nat} (hcap : Has fp 0x270043004E) {z s : State} {d : Die} {n entry row : Nat}
    (h : Leads fp z s) : Leads fp z (s.enqueue d n entry row) := by
  unfold State.enqueue
  extract_lets -merge -useContext -underBinder te rm rows b acct fixed count ctx exp raw
  refine keeps_ite h ?_
  split
  · exact h
  · rename_i u t e
    have k : Leads fp z t := keeps_targetUnit (hcap.sub rfl) h _ e
    extract_lets -merge -useContext -underBinder dec q
    refine keeps_ite h ?_
    refine keeps_ite (keeps_orderFault (hcap.sub rfl) k) ?_
    split
    · exact keeps_signalTimes (hcap.sub rfl) (keeps_orderFault (hcap.sub rfl) k)
    · split
      · exact keeps_signalTimes (hcap.sub rfl) (keeps_orderFault (hcap.sub rfl) k)
      · exact keeps_setEng (hcap.sub rfl) k

theorem keeps_setResultSet {fp : Nat} (hcap : Has fp 0x800) {z : State} {a0 : State} {a1 : EngUnit} {a2 : Nat}
    {a3 : ResultSet} (h0 : Leads fp z a0) :
    Leads fp z (State.setResultSet a0 a1 a2 a3) := by
  unfold State.setResultSet
  extract_lets -merge -useContext -underBinder v0 v1 v2
  exact keeps_put_assay hcap h0

theorem keeps_done {fp : Nat} {z : State} {a0 : State} (h0 : Leads fp z a0) :
    Leads fp z (done a0).state := by
  unfold done
  refine keeps_doneMk ?_
  exact h0

theorem keeps_failed {fp : Nat} {z : State} {a0 : State} {a1 : Nat} (h0 : Leads fp z a0) :
    Leads fp z (failed a0 a1).state := by
  unfold failed
  refine keeps_doneMk ?_
  exact h0

theorem keeps_setQueue {fp : Nat} (hcap : Has fp 0x10000) {z : State} {a0 : State} {a1 : EngUnit} {a2 : Bool}
    {a3 : Queue} (h0 : Leads fp z a0) :
    Leads fp z (State.setQueue a0 a1 a2 a3) := by
  unfold State.setQueue
  refine keeps_setEng hcap ?_
  exact h0

theorem keeps_noteContest {fp : Nat} (hcap : Has fp 0x10000) {z : State} {a0 : State} {a1 : EngUnit} {a2 : Bool}
    (h0 : Leads fp z a0) :
    Leads fp z (State.noteContest a0 a1 a2) := by
  unfold State.noteContest
  extract_lets -merge -useContext -underBinder v0
  refine keeps_ite ?_ ?_
  · refine keeps_setEng hcap ?_
    exact h0
  · exact h0

theorem keeps_predicate {fp : Nat} (hcap : Has fp 0x270045004E) {z : State} {a0 : State} {a1 : EngUnit}
    {a2 : Bool} {a3 : BitVec 128} (h0 : Leads fp z a0) :
    Leads fp z (State.predicate a0 a1 a2 a3) := by
  unfold State.predicate
  extract_lets -merge -useContext -underBinder v0 v1 v2
  have kv1 : Leads fp z v1 := by
    dsimp -zeta only [v1]
    refine keeps_ite ?_ ?_
    · refine keeps_tallyMisuse (hcap.sub rfl) ?_
      exact h0
    · exact h0
  first | clear_value v1 | skip
  refine keeps_ite ?_ ?_
  · exact h0
  · refine keeps_ite ?_ ?_
    · refine keeps_setQueue (hcap.sub rfl) ?_
      exact kv1
    · exact kv1

theorem keeps_issueHead {fp : Nat} (hcap : Has fp 0x270047004E) {z : State} {a0 : State} {a1 : EngUnit}
    {a2 : Bool} {a3 : QEntry} {a4 : Job → State → Done} (h0 : Leads fp z a0)
    (h4 : ∀ y0, ∀ y1, Leads fp z y1 → Leads fp z (a4 y0 y1).state) :
    Leads fp z (State.issueHead a0 a1 a2 a3 a4) := by
  unfold State.issueHead
  extract_lets -merge -useContext -underBinder v0 v1 v2 v3 v4 v5 v6 v7 v8 v9 v10 v11 v12 v13 v14 v15
  have kv1 : Leads fp z v1 := by
    dsimp -zeta only [v1]
    refine keeps_noteContest (hcap.sub rfl) ?_
    exact h0
  first | clear_value v1 | skip
  have kv4 : Leads fp z v4 := by
    dsimp -zeta only [v4]
    refine keeps_tallyMisuse (hcap.sub rfl) ?_
    exact kv1
  first | clear_value v4 | skip
  have kv5 : Leads fp z v5 := by
    dsimp -zeta only [v5]
    refine keeps_setQueue (hcap.sub rfl) ?_
    refine keeps_orderFault (hcap.sub rfl) ?_
    exact kv4
  first | clear_value v5 | skip
  have kv6 : Leads fp z v6 := by
    dsimp -zeta only [v6]
    refine keeps_ite ?_ ?_
    · refine keeps_predicate (hcap.sub rfl) ?_
      exact kv1
    · exact kv1
  first | clear_value v6 | skip
  have kv7 : Leads fp z v7 := by
    dsimp -zeta only [v7]
    refine keeps_bump (hcap.sub rfl) ?_
    exact kv6
  first | clear_value v7 | skip
  have kv10 : Leads fp z v10.state := by
    dsimp -zeta only [v10]
    refine keeps_iteD ?_ ?_
    · refine keeps_failed ?_
      exact kv7
    · refine h4 _ _ ?_
      exact kv7
  first | clear_value v10 | skip
  have kv11 : Leads fp z v11 := by
    dsimp -zeta only [v11]
    exact kv10
  first | clear_value v11 | skip
  have kv13 : Leads fp z v13 := by
    dsimp -zeta only [v13]
    refine keeps_setEng (hcap.sub rfl) ?_
    exact kv11
  first | clear_value v13 | skip
  have kv14 : Leads fp z v14 := by
    dsimp -zeta only [v14]
    refine keeps_orderFault (hcap.sub rfl) ?_
    exact kv10
  first | clear_value v14 | skip
  have kv15 : Leads fp z v15 := by
    dsimp -zeta only [v15]
    refine keeps_setQueue (hcap.sub rfl) ?_
    exact kv14
  first | clear_value v15 | skip
  refine keeps_ite ?_ ?_
  · refine keeps_signalTimes (hcap.sub rfl) ?_
    exact kv5
  · refine keeps_ite ?_ ?_
    · refine keeps_setQueue (hcap.sub rfl) ?_
      exact kv13
    · refine keeps_signalAfter (hcap.sub rfl) ?_
      exact kv15

theorem keeps_issue {fp : Nat} (hcap : Has fp 0x270047004E) {z : State} {a0 : State} {a1 : EngUnit} {a2 : Bool}
    {a3 : Nat} {a4 : Nat} {a5 : Job → State → Done} (h0 : Leads fp z a0)
    (h5 : ∀ y0, ∀ y1, Leads fp z y1 → Leads fp z (a5 y0 y1).state) :
    Leads fp z (State.issue a0 a1 a2 a3 a4 a5) := by
  unfold State.issue
  split
  · exact h0
  · refine keeps_ite ?_ ?_
    · refine keeps_issueHead hcap ?_ ?_
      · exact h0
      · intro y0 y1 hy1
        refine h5 _ _ ?_
        exact hy1
    · exact h0

theorem keeps_skipHead {fp : Nat} (hcap : Has fp 0x30002) {z : State} {a0 : State} {a1 : EngUnit} {a2 : Bool}
    (h0 : Leads fp z a0) :
    Leads fp z (State.skipHead a0 a1 a2) := by
  unfold State.skipHead
  extract_lets -merge -useContext -underBinder v0
  split
  · exact h0
  · extract_lets -merge -useContext -underBinder v1 v2 v3
    have kv2 : Leads fp z v2 := by
      dsimp -zeta only [v2]
      refine keeps_setQueue (hcap.sub rfl) ?_
      exact h0
    first | clear_value v2 | skip
    have kv3 : Leads fp z v3 := by
      dsimp -zeta only [v3]
      refine keeps_bump (hcap.sub rfl) ?_
      exact kv2
    first | clear_value v3 | skip
    refine keeps_ite ?_ ?_
    · refine keeps_signalTimes (hcap.sub rfl) ?_
      exact kv3
    · exact h0

theorem keeps_countOrder {fp : Nat} (hcap : Has fp 0x2) {z : State} {a0 : State} {a1 : EngUnit}
    {a2 : BitVec 128} (h0 : Leads fp z a0) :
    Leads fp z (State.countOrder a0 a1 a2) := by
  unfold State.countOrder
  split
  · refine keeps_ite ?_ ?_
    · refine keeps_bump hcap ?_
      exact h0
    · exact h0
  · refine keeps_ite ?_ ?_
    · refine keeps_bump hcap ?_
      exact h0
    · exact h0
  · exact h0

theorem keeps_complete {fp : Nat} (hcap : Has fp 0x30002) {z : State} {a0 : State} {a1 : EngUnit} {a2 : Bool}
    (h0 : Leads fp z a0) :
    Leads fp z (State.complete a0 a1 a2) := by
  unfold State.complete
  extract_lets -merge -useContext -underBinder v0
  split
  · exact h0
  · extract_lets -merge -useContext -underBinder v1
    have kv1 : Leads fp z v1 := by
      dsimp -zeta only [v1]
      refine keeps_countOrder (hcap.sub rfl) ?_
      refine keeps_setEng (hcap.sub rfl) ?_
      exact h0
    first | clear_value v1 | skip
    refine keeps_ite ?_ ?_
    · exact keeps_put_signals (hcap.sub rfl) kv1
    · refine keeps_signalAfter (hcap.sub rfl) ?_
      exact kv1

theorem keeps_arrivalFault {fp : Nat} (hcap : Has fp 0x270043004E) {z : State} {a0 : State} {a1 : Signal}
    {a2 : QEntry} (h0 : Leads fp z a0) :
    Leads fp z (State.arrivalFault a0 a1 a2) := by
  unfold State.arrivalFault
  extract_lets -merge -useContext -underBinder v0 v1 v2
  have kv0 : Leads fp z v0 := by
    dsimp -zeta only [v0]
    refine keeps_orderFault (hcap.sub rfl) ?_
    exact h0
  first | clear_value v0 | skip
  have kv2 : Leads fp z v2 := by
    dsimp -zeta only [v2]
    refine keeps_setQueue (hcap.sub rfl) ?_
    exact kv0
  first | clear_value v2 | skip
  refine keeps_signalAfter (hcap.sub rfl) ?_
  exact kv2

theorem keeps_landSignal {fp : Nat} (hcap : Has fp 0x270047004E) {z : State} {a0 : State} {a1 : Nat}
    (h0 : Leads fp z a0) :
    Leads fp z (State.landSignal a0 a1) := by
  unfold State.landSignal
  split
  · exact h0
  · extract_lets -merge -useContext -underBinder v0
    have kv0 : Leads fp z v0 := by
      dsimp -zeta only [v0]
      exact keeps_put_signals (hcap.sub rfl) h0
    first | clear_value v0 | skip
    split
    · refine keeps_tallyAdd (hcap.sub rfl) ?_
      exact kv0
    · extract_lets -merge -useContext -underBinder v1
      split
      · exact kv0
      · split
        rename_i x2 x3 e4
        have kx2 : Leads fp z x2 := by
          refine keeps_eq1 e4 ?_
          refine keeps_arriveAt (hcap.sub rfl) ?_
          exact kv0
        refine keeps_ite ?_ ?_
        · refine keeps_settleRound (hcap.sub rfl) ?_
          refine keeps_setQueue (hcap.sub rfl) ?_
          exact kx2
        · refine keeps_arrivalFault (hcap.sub rfl) ?_
          exact kx2

theorem keeps_withdraw {fp : Nat} (hcap : Has fp 0x70000) {z s : State} {u : EngUnit} {dec : Bool} {t r : Nat}
    (h : Leads fp z s) :
    Leads fp z (s.withdraw u dec t r) := by
  unfold State.withdraw
  dsimp only
  split
  · exact keeps_put_signals (hcap.sub rfl) (keeps_setEng (hcap.sub rfl) h)
  · split
    · exact h
    · next hk =>
      have hb : (s.tallyOf t).kind = tallyBarrier := by simpa using hk
      have hc : (s.tallyOf t).kind ≠ tallyCounter := by rw [hb]; decide
      split
      · exact keeps_setTally (hcap.sub rfl) h (fun _ e => absurd e hc)
      · exact keeps_setTally (hcap.sub rfl) h (fun _ e => absurd e hc)

theorem keeps_watchdog {fp : Nat} (hcap : Has fp 0x270047004E) {z : State} {a0 : State} {a1 : EngUnit}
    {a2 : Bool} (h0 : Leads fp z a0) :
    Leads fp z (State.watchdog a0 a1 a2) := by
  unfold State.watchdog
  extract_lets -merge -useContext -underBinder v0
  split
  · exact h0
  · extract_lets -merge -useContext -underBinder v1 v2 v3 v4 v5 v6
    have kv3 : Leads fp z v3 := by
      dsimp -zeta only [v3]
      refine keeps_bump (hcap.sub rfl) ?_
      exact h0
    first | clear_value v3 | skip
    have kv4 : Leads fp z v4 := by
      dsimp -zeta only [v4]
      split
      · refine keeps_withdraw (hcap.sub rfl) ?_
        exact kv3
      · exact kv3
    first | clear_value v4 | skip
    have kv5 : Leads fp z v5 := by
      dsimp -zeta only [v5]
      refine keeps_orderFault (hcap.sub rfl) ?_
      exact kv4
    first | clear_value v5 | skip
    have kv6 : Leads fp z v6 := by
      dsimp -zeta only [v6]
      refine keeps_setQueue (hcap.sub rfl) ?_
      exact kv5
    first | clear_value v6 | skip
    refine keeps_ite ?_ ?_
    · exact h0
    · refine keeps_signalTimes (hcap.sub rfl) ?_
      exact kv6

theorem keeps_tallyWork {fp : Nat} (hcap : Has fp 0x270044004E) {z : State} {a0 : Bool} {a1 : Job} {a2 : State}
    (h2 : Leads fp z a2) :
    Leads fp z (tallyWork a0 a1 a2).state := by
  unfold tallyWork
  extract_lets -merge -useContext -underBinder v0 v1
  split
  rename_i x2 x3 e4
  have kx2 : Leads fp z x2 := by
    refine keeps_eq1 e4 ?_
    refine keeps_ite1 ?_ ?_
    · refine keeps_tallyAdd hcap ?_
      exact h2
    · refine keeps_tallySub hcap ?_
      exact h2
  refine keeps_iteD ?_ ?_
  · refine keeps_done ?_
    exact kx2
  · refine keeps_failed ?_
    exact kx2

theorem keeps_arriveWork {fp : Nat} (hcap : Has fp 0x10000) {z : State} {a0 : Job} {a1 : State} (h1 : Leads fp z a1) :
    Leads fp z (arriveWork a0 a1).state := by
  unfold arriveWork
  extract_lets -merge -useContext -underBinder v0
  refine keeps_done ?_
  refine keeps_setQueue hcap ?_
  exact h1

theorem keeps_stepWork {fp : Nat} (hcap : Has fp 0x10002) {z : State} {a0 : Job} {a1 : State} (h1 : Leads fp z a1) :
    Leads fp z (stepWork a0 a1).state := by
  unfold stepWork
  extract_lets -merge -useContext -underBinder v0
  refine keeps_done ?_
  refine keeps_setFlag (hcap.sub rfl) ?_
  refine keeps_setQueue (hcap.sub rfl) ?_
  exact h1

theorem keeps_traceWork {fp : Nat} (hcap : Has fp 0xC) {z : State} {a0 : Job} {a1 : State} (h1 : Leads fp z a1) :
    Leads fp z (traceWork a0 a1).state := by
  unfold traceWork
  extract_lets -merge -useContext -underBinder v0 v1
  refine keeps_done ?_
  refine keeps_write hcap ?_
  exact h1

theorem keeps_noWork {fp : Nat} {z : State} {a0 : Job} {a1 : State} (h1 : Leads fp z a1) :
    Leads fp z (noWork a0 a1).state := by
  unfold noWork
  refine keeps_done ?_
  exact h1

theorem leads_execQueueEntryEnqueue {fp : Nat} (hcap : Has fp 0x270043004E) {z t : State} {a0 : Die} {a1 : Nat}
    {a2 : Nat} {a3 : Nat} {a4 : State} (h4 : Leads fp z a4) (e :
    (execQueueEntryEnqueue a0 a1 a2 a3 a4) = .next t) :
    Leads fp z t := by
  unfold execQueueEntryEnqueue at e
  injection e with e
  subst e
  refine keeps_enqueue hcap ?_
  exact h4

theorem leads_execSkipEntry {fp : Nat} (hcap : Has fp 0x30002) {z t : State} {a0 : EngUnit} {a1 : Bool}
    {a2 : State} (h2 : Leads fp z a2) (e : (execSkipEntry a0 a1 a2) = .next t) :
    Leads fp z t := by
  unfold execSkipEntry at e
  injection e with e
  subst e
  refine keeps_skipHead hcap ?_
  exact h2

theorem leads_execTallyInc {fp : Nat} (hcap : Has fp 0x270047004E) {z t : State} {a0 : EngUnit} {a1 : Bool}
    {a2 : State} (h2 : Leads fp z a2) (e : (execTallyInc a0 a1 a2) = .next t) :
    Leads fp z t := by
  unfold execTallyInc at e
  injection e with e
  subst e
  refine keeps_issue hcap ?_ ?_
  · exact h2
  · intro y0 y1 hy1
    refine keeps_tallyWork (hcap.sub rfl) ?_
    exact hy1

theorem leads_execTallyDec {fp : Nat} (hcap : Has fp 0x270047004E) {z t : State} {a0 : EngUnit} {a1 : Bool}
    {a2 : State} (h2 : Leads fp z a2) (e : (execTallyDec a0 a1 a2) = .next t) :
    Leads fp z t := by
  unfold execTallyDec at e
  injection e with e
  subst e
  refine keeps_issue hcap ?_ ?_
  · exact h2
  · intro y0 y1 hy1
    refine keeps_tallyWork (hcap.sub rfl) ?_
    exact hy1

theorem leads_execTallyArrive {fp : Nat} (hcap : Has fp 0x270047004E) {z t : State} {a0 : EngUnit} {a1 : Bool}
    {a2 : State} (h2 : Leads fp z a2) (e : (execTallyArrive a0 a1 a2) = .next t) :
    Leads fp z t := by
  unfold execTallyArrive at e
  injection e with e
  subst e
  refine keeps_issue hcap ?_ ?_
  · exact h2
  · intro y0 y1 hy1
    refine keeps_arriveWork (hcap.sub rfl) ?_
    exact hy1

theorem leads_execBarrierNextRound {fp : Nat} (hcap : Has fp 0x70002) {z t : State} {a0 : TallyId} {a1 : State}
    (h1 : Leads fp z a1) (e : (execBarrierNextRound a0 a1) = .next t) :
    Leads fp z t := by
  unfold execBarrierNextRound at e
  injection e with e
  subst e
  refine keeps_settleRound hcap ?_
  exact h1

theorem leads_execTallyWait {fp : Nat} (hcap : Has fp 0x270047004E) {z t : State} {a0 : EngUnit} {a1 : Bool}
    {a2 : State} (h2 : Leads fp z a2) (e : (execTallyWait a0 a1 a2) = .next t) :
    Leads fp z t := by
  unfold execTallyWait at e
  injection e with e
  subst e
  refine keeps_issue hcap ?_ ?_
  · exact h2
  · intro y0 y1 hy1
    refine keeps_noWork ?_
    exact hy1

theorem leads_execMarkStep {fp : Nat} (hcap : Has fp 0x270047004E) {z t : State} {a0 : EngUnit} {a1 : Bool}
    {a2 : State} (h2 : Leads fp z a2) (e : (execMarkStep a0 a1 a2) = .next t) :
    Leads fp z t := by
  unfold execMarkStep at e
  injection e with e
  subst e
  refine keeps_issue hcap ?_ ?_
  · exact h2
  · intro y0 y1 hy1
    refine keeps_stepWork (hcap.sub rfl) ?_
    exact hy1

theorem leads_execMarkFence {fp : Nat} (hcap : Has fp 0x270047004E) {z t : State} {a0 : EngUnit} {a1 : Bool}
    {a2 : State} (h2 : Leads fp z a2) (e : (execMarkFence a0 a1 a2) = .next t) :
    Leads fp z t := by
  unfold execMarkFence at e
  injection e with e
  subst e
  refine keeps_issue hcap ?_ ?_
  · exact h2
  · intro y0 y1 hy1
    refine keeps_noWork ?_
    exact hy1

theorem leads_execMarkTrace {fp : Nat} (hcap : Has fp 0x270047004E) {z t : State} {a0 : EngUnit} {a1 : Bool}
    {a2 : State} (h2 : Leads fp z a2) (e : (execMarkTrace a0 a1 a2) = .next t) :
    Leads fp z t := by
  unfold execMarkTrace at e
  injection e with e
  subst e
  refine keeps_issue hcap ?_ ?_
  · exact h2
  · intro y0 y1 hy1
    refine keeps_traceWork (hcap.sub rfl) ?_
    exact hy1

theorem leads_execOrderComplete {fp : Nat} (hcap : Has fp 0x30002) {z t : State} {a0 : EngUnit} {a1 : Bool}
    {a2 : State} (h2 : Leads fp z a2) (e : (execOrderComplete a0 a1 a2) = .next t) :
    Leads fp z t := by
  unfold execOrderComplete at e
  injection e with e
  subst e
  refine keeps_complete hcap ?_
  exact h2

theorem leads_execSignalLand {fp : Nat} (hcap : Has fp 0x270047004E) {z t : State} {a0 : TallyId} {a1 : State}
    (h1 : Leads fp z a1) (e : (execSignalLand a0 a1) = .next t) :
    Leads fp z t := by
  unfold execSignalLand at e
  injection e with e
  subst e
  refine keeps_landSignal hcap ?_
  exact h1

theorem leads_execWatchdogExpiry {fp : Nat} (hcap : Has fp 0x270047004E) {z t : State} {a0 : EngUnit}
    {a1 : Bool} {a2 : State} (h2 : Leads fp z a2) (e : (execWatchdogExpiry a0 a1 a2) = .next t) :
    Leads fp z t := by
  unfold execWatchdogExpiry at e
  injection e with e
  subst e
  refine keeps_watchdog hcap ?_
  exact h2

end Sys2Proof.Machine
end

