-- ==== Sys2Proof/Laws/LeadsFabric.lean ====
section
/-! SUPPORT. Every operation of links, Ledger spaces and DMA leads on from its state: one lemma each. -/

namespace Sys2Proof.Machine

/-! ### Fabric -/

theorem keeps_transmit {fp : Nat} (hcap : Has fp 0x2180000002) {z : State} {a0 : State} {a1 : Nat} {a2 : ClrCmd}
    {a3 : List Codeword} (h0 : Leads fp z a0) :
    Leads fp z (State.transmit a0 a1 a2 a3) := by
  unfold State.transmit
  extract_lets -merge -useContext -underBinder v0 v1 v2 v3 v4
  have kv2 : Leads fp z v2 := by
    dsimp -zeta only [v2]
    refine keeps_setLink (hcap.sub rfl) ?_
    exact h0
  first | clear_value v2 | skip
  have kv4 : Leads fp z v4 := by
    dsimp -zeta only [v4]
    exact keeps_put_sec (hcap.sub rfl) kv2
  first | clear_value v4 | skip
  refine keeps_send (hcap.sub rfl) ?_
  refine keeps_bump (hcap.sub rfl) ?_
  exact kv4

theorem keeps_offer {fp : Nat} (hcap : Has fp 0x2180000002) {z : State} {a0 : State} {a1 : Nat} {a2 : ClrCmd}
    {a3 : List Codeword} (h0 : Leads fp z a0) :
    Leads fp z (State.offer a0 a1 a2 a3) := by
  unfold State.offer
  extract_lets -merge -useContext -underBinder v0
  refine keeps_ite ?_ ?_
  · refine keeps_setLink (hcap.sub rfl) ?_
    exact h0
  · refine keeps_transmit hcap ?_
    exact h0

theorem keeps_pump {fp : Nat} (hcap : Has fp 0x2180000002) {z : State} {a0 : State} {a1 : Nat} (h0 : Leads fp z a0) :
    Leads fp z (State.pump a0 a1) := by
  unfold State.pump
  extract_lets -merge -useContext -underBinder v0 v1
  refine keeps_foldl ?_ ?_
  · intro y2 hy2 y3
    refine keeps_offer hcap ?_
    exact hy2
  · refine keeps_setLink (hcap.sub rfl) ?_
    exact h0

theorem keeps_getD {fp : Nat} {z s : State} {o : Option State} (h : Leads fp z s)
    (ho : ∀ t, o = some t → Leads fp z t) : Leads fp z (o.getD s) := by
  cases o with
  | none => exact h
  | some t => exact ho t rfl
theorem keeps_sendTo {fp : Nat} (hcap : Has fp 0x2180000002) {z s : State} {n : Nat} {c : ClrCmd}
    {data : List Codeword} (h : Leads fp z s) :
    ∀ t, s.sendTo n c data = some t → Leads fp z t := by
  intro t e
  obtain ⟨l, -, rfl⟩ := Option.map_eq_some_iff.mp e
  exact keeps_offer hcap h

theorem keeps_sendWrite {fp : Nat} (hcap : Has fp 0x2180000002) {z s : State} {die n : Nat} {c : ClrCmd}
    {data : List Codeword} (h : Leads fp z s) :
    ∀ t, s.sendWrite die n c data = some t → Leads fp z t := by
  intro t e
  obtain ⟨x, hx, rfl⟩ := Option.map_eq_some_iff.mp e
  exact keeps_put_clr (hcap.sub rfl) (keeps_sendTo hcap h x hx)

theorem keeps_linkDown {fp : Nat} (hcap : Has fp 0x278040004E) {z s : State} {l reason : Nat}
    (h : Leads fp z s) : Leads fp z (s.linkDown l reason) := by
  unfold State.linkDown
  extract_lets -merge -useContext -underBinder k s1 w s2 s3 s4 s5 s6
  have h1 : Leads fp z s1 := by
    dsimp -zeta only [s1]
    exact keeps_bump (hcap.sub rfl) h
  have h2 : Leads fp z s2 := by
    dsimp -zeta only [s2]
    exact keeps_setLink (hcap.sub rfl) h1
  have h3 : Leads fp z s3 := by
    dsimp -zeta only [s3]
    exact keeps_setFld (hcap.sub rfl) (keeps_setFld (hcap.sub rfl) h2)
  have h4 : Leads fp z s4 := by
    dsimp -zeta only [s4]
    exact keeps_ite (keeps_setFlag (hcap.sub rfl) h3) h3
  have h5 : Leads fp z s5 := by
    dsimp -zeta only [s5]
    exact keeps_ite (keeps_fault (hcap.sub rfl) h4) h4
  have h6 : Leads fp z s6 := by
    dsimp -zeta only [s6]
    exact keeps_eventAll (hcap.sub rfl) h5
  exact keeps_foldl (fun t ht e => keeps_getD ht (keeps_sendTo (hcap.sub rfl) ht)) h6

theorem keeps_replayAll {fp : Nat} (hcap : Has fp 0x278040004E) {z : State} {a0 : State} {a1 : Nat}
    (h0 : Leads fp z a0) :
    Leads fp z (State.replayAll a0 a1) := by
  unfold State.replayAll
  extract_lets -merge -useContext -underBinder v0 v1 v2
  have kv1 : Leads fp z v1 := by
    dsimp -zeta only [v1]
    refine keeps_setLink (hcap.sub rfl) ?_
    exact h0
  first | clear_value v1 | skip
  have kv2 : Leads fp z v2 := by
    dsimp -zeta only [v2]
    refine keeps_bump (hcap.sub rfl) ?_
    refine keeps_bump (hcap.sub rfl) ?_
    exact kv1
  first | clear_value v2 | skip
  refine keeps_ite ?_ ?_
  · exact h0
  · refine keeps_ite ?_ ?_
    · refine keeps_linkDown hcap ?_
      exact h0
    · refine keeps_foldl ?_ ?_
      · intro y3 hy3 y4
        refine keeps_send (hcap.sub rfl) ?_
        exact hy3
      · exact kv2

theorem keeps_dropOldKeys {fp : Nat} (hcap : Has fp 0x80000000) {z : State} {a0 : State} {a1 : Nat}
    {a2 : BitVec 16} (h0 : Leads fp z a0) :
    Leads fp z (State.dropOldKeys a0 a1 a2) := by
  unfold State.dropOldKeys
  extract_lets -merge -useContext -underBinder v0
  exact keeps_put_sec hcap h0

theorem keeps_newRole {fp : Nat} (hcap : Has fp 0x10000000E) {z s : State} {was : Option (Nat × Nat)}
    (h : Leads fp z s) : Leads fp z (s.newRole was) := by
  unfold State.newRole
  dsimp only
  exact keeps_ite h (keeps_ite (keeps_write (hcap.sub rfl) (keeps_put_clr (hcap.sub rfl) (keeps_setFld (hcap.sub rfl) (keeps_setFld (hcap.sub rfl) h))))
    (keeps_put_clr (hcap.sub rfl) (keeps_setFld (hcap.sub rfl) (keeps_setFld (hcap.sub rfl) h))))

theorem keeps_setLinkKey {fp : Nat} (hcap : Has fp 0x80000000) {z : State} {a0 : State} {a1 : Nat} {a2 : Bool}
    {a3 : BitVec 256} {a4 : Nat} (h0 : Leads fp z a0) :
    Leads fp z (State.setLinkKey a0 a1 a2 a3 a4) := by
  unfold State.setLinkKey
  split
  · split
    · extract_lets -merge -useContext -underBinder v0 v1
      exact keeps_put_sec hcap h0

theorem keeps_rollKey {fp : Nat} (hcap : Has fp 0x80000000) {z : State} {a0 : State} {a1 : Nat} {a2 : Bool}
    (h0 : Leads fp z a0) :
    Leads fp z (State.rollKey a0 a1 a2) := by
  unfold State.rollKey
  split
  · exact h0
  · extract_lets -merge -useContext -underBinder v0
    split
    · extract_lets -merge -useContext -underBinder v1 v2
      have kv2 : Leads fp z v2 := by
        dsimp -zeta only [v2]
        refine keeps_ite ?_ ?_
        · exact h0
        · exact keeps_put_sec hcap h0
      first | clear_value v2 | skip
      refine keeps_setLinkKey hcap ?_
      exact kv2

theorem keeps_linkStart {fp : Nat} (hcap : Has fp 0x100400002) {z : State} {a0 : State} {a1 : Nat} {a2 : Nat}
    {a3 : Nat} (h0 : Leads fp z a0) :
    Leads fp z (State.linkStart a0 a1 a2 a3) := by
  unfold State.linkStart
  extract_lets -merge -useContext -underBinder v0 v1 v2
  have kv1 : Leads fp z v1 := by
    dsimp -zeta only [v1]
    refine keeps_setLink (hcap.sub rfl) ?_
    exact h0
  first | clear_value v1 | skip
  have kv2 : Leads fp z v2 := by
    dsimp -zeta only [v2]
    refine keeps_setReg (hcap.sub rfl) ?_
    exact kv1
  first | clear_value v2 | skip
  refine keeps_eventAll (hcap.sub rfl) ?_
  exact kv2

theorem keeps_trainFailed {fp : Nat} (hcap : Has fp 0x100400000) {z : State} {a0 : State} {a1 : Nat}
    (h0 : Leads fp z a0) :
    Leads fp z (State.trainFailed a0 a1) := by
  unfold State.trainFailed
  extract_lets -merge -useContext -underBinder v0
  refine keeps_eventAll (hcap.sub rfl) ?_
  refine keeps_setLink (hcap.sub rfl) ?_
  exact h0

theorem keeps_train {fp : Nat} (hcap : Has fp 0x4180400002) {z : State} {a0 : State} {a1 : Nat} {a2 : Nat}
    {a3 : Nat} {a4 : Nat} {a5 : BitVec 256} {a6 : BitVec 256} (h0 : Leads fp z a0) :
    Leads fp z (State.train a0 a1 a2 a3 a4 a5 a6) := by
  unfold State.train
  extract_lets -merge -useContext -underBinder v0
  refine keeps_ite ?_ ?_
  · exact h0
  · refine keeps_ite ?_ ?_
    · refine keeps_trainFailed (hcap.sub rfl) ?_
      exact h0
    · split
      · refine keeps_linkStart (hcap.sub rfl) ?_
        exact h0
      · split
        rename_i x1 x2 e9
        have kx2 : Leads fp z x2 := by
          refine keeps_eq2 e9 ?_
          refine keeps_draw (hcap.sub rfl) ?_
          exact h0
        extract_lets -merge -useContext -underBinder v3 v4 v5 v6 v7 v8
        have kv8 : Leads fp z v8 := by
          dsimp -zeta only [v8]
          exact keeps_put_sec (hcap.sub rfl) kx2
        first | clear_value v8 | skip
        refine keeps_ite ?_ ?_
        · refine keeps_trainFailed (hcap.sub rfl) ?_
          exact kx2
        · refine keeps_linkStart (hcap.sub rfl) ?_
          refine keeps_setLinkKey (hcap.sub rfl) ?_
          refine keeps_setLinkKey (hcap.sub rfl) ?_
          exact kv8

theorem keeps_retrain {fp : Nat} (hcap : Has fp 0x100000000) {z : State} {a0 : State} {a1 : Nat}
    (h0 : Leads fp z a0) :
    Leads fp z (State.retrain a0 a1) := by
  unfold State.retrain
  extract_lets -merge -useContext -underBinder v0
  refine keeps_ite ?_ ?_
  · exact h0
  · refine keeps_setLink hcap ?_
    exact h0

theorem keeps_lockLost {fp : Nat} (hcap : Has fp 0x278040004E) {z : State} {a0 : State} {a1 : Nat}
    (h0 : Leads fp z a0) :
    Leads fp z (State.lockLost a0 a1) := by
  unfold State.lockLost
  refine keeps_ite ?_ ?_
  · refine keeps_linkDown hcap ?_
    exact h0
  · exact h0

theorem keeps_keyRollover {fp : Nat} (hcap : Has fp 0x80000000) {z : State} {a0 : State} {a1 : Nat}
    (h0 : Leads fp z a0) :
    Leads fp z (State.keyRollover a0 a1) := by
  unfold State.keyRollover
  refine keeps_ite ?_ ?_
  · refine keeps_rollKey hcap ?_
    exact h0
  · exact h0

theorem leads_execLinkTrain {fp : Nat} (hcap : Has fp 0x4180400002) {z t : State} {a0 : Link} {a1 : BitVec 4}
    {a2 : BitVec 16} {a3 : Node} {a4 : BitVec 256} {a5 : BitVec 256} {a6 : State} (h6 : Leads fp z a6) (e :
    (execLinkTrain a0 a1 a2 a3 a4 a5 a6) = .next t) :
    Leads fp z t := by
  unfold execLinkTrain at e
  injection e with e
  subst e
  refine keeps_train hcap ?_
  exact h6

theorem leads_execLinkRetrain {fp : Nat} (hcap : Has fp 0x100000000) {z t : State} {a0 : Link} {a1 : State}
    (h1 : Leads fp z a1) (e : (execLinkRetrain a0 a1) = .next t) :
    Leads fp z t := by
  unfold execLinkRetrain at e
  injection e with e
  subst e
  refine keeps_retrain hcap ?_
  exact h1

theorem leads_execLinkLockLost {fp : Nat} (hcap : Has fp 0x278040004E) {z t : State} {a0 : Link} {a1 : State}
    (h1 : Leads fp z a1) (e : (execLinkLockLost a0 a1) = .next t) :
    Leads fp z t := by
  unfold execLinkLockLost at e
  injection e with e
  subst e
  refine keeps_lockLost hcap ?_
  exact h1

theorem leads_execLinkKeyRollover {fp : Nat} (hcap : Has fp 0x80000000) {z t : State} {a0 : Link} {a1 : State}
    (h1 : Leads fp z a1) (e : (execLinkKeyRollover a0 a1) = .next t) :
    Leads fp z t := by
  unfold execLinkKeyRollover at e
  injection e with e
  subst e
  refine keeps_keyRollover hcap ?_
  exact h1

theorem leads_execReplayTimeout {fp : Nat} (hcap : Has fp 0x278040004E) {z t : State} {a0 : Link} {a1 : State}
    (h1 : Leads fp z a1) (e : (execReplayTimeout a0 a1) = .next t) :
    Leads fp z t := by
  unfold execReplayTimeout at e
  injection e with e
  subst e
  refine keeps_replayAll hcap ?_
  exact h1

/-! ### Spaces -/

theorem keeps_spaceWrite {fp : Nat} (hcap : Has fp 0xC) {z : State} {a0 : State} {a1 : Nat} {a2 : Nat}
    {a3 : List (Byte × Bool)} (h0 : Leads fp z a0) :
    Leads fp z (State.spaceWrite a0 a1 a2 a3) := by
  unfold State.spaceWrite
  extract_lets -merge -useContext -underBinder v0 v1
  have kv1 : Leads fp z v1 := by
    dsimp -zeta only [v1]
    refine keeps_write hcap ?_
    exact h0
  first | clear_value v1 | skip
  refine keeps_foldl ?_ ?_
  · intro y2 hy2 y3
    refine keeps_ite ?_ ?_
    · refine keeps_spoil (hcap.sub rfl) ?_
      exact hy2
    · exact hy2
  · exact kv1

/-! ### Dma -/

theorem keeps_startDesc {fp : Nat} (hcap : Has fp 0x80002) {z : State} {a0 : State} {a1 : Nat} {a2 : Nat}
    {a3 : Nat} {a4 : Nat} (h0 : Leads fp z a0) :
    Leads fp z (State.startDesc a0 a1 a2 a3 a4).1 := by
  unfold State.startDesc
  extract_lets -merge -useContext -underBinder v0 v1 v2 v3 v4 v5 v6
  have kv5 : Leads fp z v5 := by
    dsimp -zeta only [v5]
    refine keeps_setChan (hcap.sub rfl) ?_
    exact h0
  first | clear_value v5 | skip
  have kv6 : Leads fp z v6 := by
    dsimp -zeta only [v6]
    refine keeps_setFld (hcap.sub rfl) ?_
    refine keeps_setFlag (hcap.sub rfl) ?_
    exact kv5
  first | clear_value v6 | skip
  refine keeps_ite1 ?_ ?_
  · refine keeps_mk ?_
    exact h0
  · refine keeps_ite1 ?_ ?_
    · refine keeps_mk ?_
      exact h0
    · refine keeps_ite1 ?_ ?_
      · refine keeps_mk ?_
        exact h0
      · refine keeps_mk ?_
        refine keeps_setReg (hcap.sub rfl) ?_
        refine keeps_setFld (hcap.sub rfl) ?_
        exact kv6

theorem keeps_chanRecord {fp : Nat} (hcap : Has fp 0x270040004E) {z : State} {a0 : State} {a1 : Die} {a2 : Nat}
    {a3 : Nat} (h0 : Leads fp z a0) :
    Leads fp z (State.chanRecord a0 a1 a2 a3) := by
  unfold State.chanRecord
  extract_lets -merge -useContext -underBinder v0 v1 v2 v3
  refine keeps_fault hcap ?_
  exact h0

theorem keeps_chanError {fp : Nat} (hcap : Has fp 0x270040004E) {z : State} {a0 : State} {a1 : Die} {a2 : Nat}
    {a3 : Nat} (h0 : Leads fp z a0) :
    Leads fp z (State.chanError a0 a1 a2 a3) := by
  unfold State.chanError
  refine keeps_chanRecord hcap ?_
  refine keeps_setFld (hcap.sub rfl) ?_
  refine keeps_setFlag (hcap.sub rfl) ?_
  exact h0

theorem keeps_settle {fp : Nat} (hcap : Has fp 0x2180020002) {z s : State} {u : EngUnit} {dec : Bool}
    {o : BitVec 128} (h : Leads fp z s) :
    ∀ t, s.settle u dec o = some t → Leads fp z t := by
  intro t e
  unfold State.settle at e
  dsimp only at e
  split at e
  · injection e with e; subst e; exact h
  · split at e
    · injection e with e; subst e; exact keeps_put_signals (hcap.sub rfl) h
    · exact keeps_sendTo (hcap.sub rfl) h t e

theorem keeps_readyOrder {fp : Nat} (hcap : Has fp 0x10000) {z : State} {a0 : State} {a1 : EngUnit}
    {a2 : InFlight} (h0 : Leads fp z a0) :
    Leads fp z (State.readyOrder a0 a1 a2) := by
  unfold State.readyOrder
  extract_lets -merge -useContext -underBinder v0
  refine keeps_setEng hcap ?_
  exact h0

theorem keeps_restChan {fp : Nat} (hcap : Has fp 0x100080002) {z : State} {a0 : State} {a1 : Nat} {a2 : Nat}
    (h0 : Leads fp z a0) :
    Leads fp z (State.restChan a0 a1 a2) := by
  unfold State.restChan
  extract_lets -merge -useContext -underBinder v0 v1 v2
  have kv0 : Leads fp z v0 := by
    dsimp -zeta only [v0]
    refine keeps_setChan (hcap.sub rfl) ?_
    exact h0
  first | clear_value v0 | skip
  have kv2 : Leads fp z v2 := by
    dsimp -zeta only [v2]
    exact keeps_put_clr (hcap.sub rfl) kv0
  first | clear_value v2 | skip
  refine keeps_setFlag (hcap.sub rfl) ?_
  refine keeps_setFld (hcap.sub rfl) ?_
  refine keeps_setFlag (hcap.sub rfl) ?_
  exact kv2

theorem keeps_endChain {fp : Nat} (hcap : Has fp 0x27804B004E) {z s : State} {d : Die} {k : Nat}
    (h : Leads fp z s) : Leads fp z (s.endChain d k) := by
  unfold State.endChain
  extract_lets -merge -useContext -underBinder u c
  split
  · exact keeps_restChan (hcap.sub rfl) h
  · split
    · exact keeps_restChan (hcap.sub rfl) h
    · extract_lets -merge -useContext -underBinder mark s1
      have hm : ∀ t, Leads fp z t → Leads fp z (mark t) := fun t ht => keeps_markRows (hcap.sub rfl) ht
      have h1 : Leads fp z s1 := by
        dsimp -zeta only [s1]
        refine keeps_ite (hm _ h) ?_
        split
        · rename_i t e
          exact keeps_settle (hcap.sub rfl) h t e
        · exact hm _ (keeps_chanError (hcap.sub rfl) h)
      exact keeps_readyOrder (hcap.sub rfl) (keeps_restChan (hcap.sub rfl) h1)

theorem keeps_transferError {fp : Nat} (hcap : Has fp 0x27804B004E) {z : State} {a0 : State} {a1 : Die}
    {a2 : Nat} (h0 : Leads fp z a0) :
    Leads fp z (State.transferError a0 a1 a2) := by
  unfold State.transferError
  extract_lets -merge -useContext -underBinder v0 v1
  have kv0 : Leads fp z v0 := by
    dsimp -zeta only [v0]
    refine keeps_chanError (hcap.sub rfl) ?_
    exact h0
  first | clear_value v0 | skip
  refine keeps_ite ?_ ?_
  · exact h0
  · refine keeps_endChain hcap ?_
    refine keeps_setChan (hcap.sub rfl) ?_
    exact kv0

theorem keeps_chanInterrupt {fp : Nat} (hcap : Has fp 0x2000200002) {z : State} {a0 : State} {a1 : Nat}
    {a2 : Nat} {a3 : Nat} (h0 : Leads fp z a0) :
    Leads fp z (State.chanInterrupt a0 a1 a2 a3) := by
  unfold State.chanInterrupt
  extract_lets -merge -useContext -underBinder v0
  have kv0 : Leads fp z v0 := by
    dsimp -zeta only [v0]
    refine keeps_setFlag (hcap.sub rfl) ?_
    exact h0
  first | clear_value v0 | skip
  refine keeps_ite ?_ ?_
  · split
    · refine keeps_msix (hcap.sub rfl) ?_
      exact kv0
    · exact kv0
  · exact kv0

theorem keeps_descDone {fp : Nat} (hcap : Has fp 0x27806B004E) {z : State} {a0 : State} {a1 : Die} {a2 : Nat}
    {a3 : Desc} (h0 : Leads fp z a0) :
    Leads fp z (State.descDone a0 a1 a2 a3) := by
  unfold State.descDone
  extract_lets -merge -useContext -underBinder v0 v1
  have kv0 : Leads fp z v0 := by
    dsimp -zeta only [v0]
    refine keeps_bump (hcap.sub rfl) ?_
    refine keeps_setReg (hcap.sub rfl) ?_
    exact h0
  first | clear_value v0 | skip
  have kv1 : Leads fp z v1 := by
    dsimp -zeta only [v1]
    refine keeps_ite ?_ ?_
    · refine keeps_chanInterrupt (hcap.sub rfl) ?_
      exact kv0
    · exact kv0
  first | clear_value v1 | skip
  refine keeps_ite ?_ ?_
  · split
    rename_i x2 x3 e6
    have kx2 : Leads fp z x2 := by
      refine keeps_eq1 e6 ?_
      refine keeps_startDesc (hcap.sub rfl) ?_
      exact kv1
    extract_lets -merge -useContext -underBinder v4 v5
    have kv4 : Leads fp z v4 := by
      dsimp -zeta only [v4]
      refine keeps_chanError (hcap.sub rfl) ?_
      exact kx2
    first | clear_value v4 | skip
    refine keeps_ite ?_ ?_
    · exact kx2
    · refine keeps_endChain (hcap.sub rfl) ?_
      refine keeps_setChan (hcap.sub rfl) ?_
      exact kv4
  · refine keeps_endChain (hcap.sub rfl) ?_
    exact kv1

theorem keeps_trigger {fp : Nat} (hcap : Has fp 0x80002) {z : State} {a0 : State} {a1 : Nat} {a2 : Nat}
    (h0 : Leads fp z a0) :
    Leads fp z (State.trigger a0 a1 a2) := by
  unfold State.trigger
  extract_lets -merge -useContext -underBinder v0
  split
  · exact h0
  · refine keeps_ite ?_ ?_
    · exact h0
    · refine keeps_ite ?_ ?_
      · refine keeps_setChan (hcap.sub rfl) ?_
        exact h0
      · refine keeps_ite ?_ ?_
        · refine keeps_setFld (hcap.sub rfl) ?_
          refine keeps_setChan (hcap.sub rfl) ?_
          exact h0
        · refine keeps_bump (hcap.sub rfl) ?_
          refine keeps_setFlag (hcap.sub rfl) ?_
          exact h0

theorem keeps_spendPending {fp : Nat} (hcap : Has fp 0x80002) {z : State} {a0 : State} {a1 : Nat} {a2 : Nat}
    {a3 : Desc} (h0 : Leads fp z a0) :
    Leads fp z (State.spendPending a0 a1 a2 a3) := by
  unfold State.spendPending
  extract_lets -merge -useContext -underBinder v0
  refine keeps_ite ?_ ?_
  · refine keeps_setFld (hcap.sub rfl) ?_
    refine keeps_setChan (hcap.sub rfl) ?_
    exact h0
  · exact h0

theorem keeps_askNode {fp : Nat} (hcap : Has fp 0x2180000002) {z s : State} {d k : Nat} {a : Word64}
    {part : Nat × Nat} (h : Leads fp z s) :
    ∀ t, s.askNode d k a part = some t → Leads fp z t := by
  intro t e
  unfold State.askNode at e
  dsimp only at e
  refine keeps_sendTo hcap ?_ t e
  exact keeps_put_clr (hcap.sub rfl) h
theorem keeps_bindAll {fp : Nat} {α : Type} {z : State} {f : State → α → Option State}
    (hf : ∀ s, Leads fp z s → ∀ x t, f s x = some t → Leads fp z t) :
    ∀ {l : List α} {o : Option State}, (∀ t, o = some t → Leads fp z t) →
      ∀ t, l.foldl (fun o x => o.bind (fun s => f s x)) o = some t → Leads fp z t
  | [], _, h, t, e => h t e
  | x :: l, o, h, t, e => by
    refine keeps_bindAll hf (l := l) (o := o.bind (fun s => f s x)) ?_ t e
    intro u hu
    obtain ⟨s, hs, hu⟩ := Option.bind_eq_some_iff.mp hu
    exact hf s (h s hs) x u hu

theorem keeps_askSource {fp : Nat} (hcap : Has fp 0x27804B004E) {z s : State} {d : Die} {k : Nat} {x : Desc}
    {b : Burst} (h : Leads fp z s) :
    Leads fp z (s.askSource d k x b) := by
  unfold State.askSource
  split
  split
  · exact keeps_ite (keeps_send (hcap.sub rfl) h) (keeps_transferError hcap h)
  · refine keeps_ite h ?_
    split
    · rename_i t e
      refine keeps_bindAll (fun u hu p v => keeps_askNode (hcap.sub rfl) hu v) ?_ t e
      intro u hu
      injection hu with hu
      exact hu ▸ h
    · exact keeps_transferError hcap h

theorem keeps_issueBurst {fp : Nat} (hcap : Has fp 0x27804B004E) {z : State} {a0 : State} {a1 : Die} {a2 : Nat}
    (h0 : Leads fp z a0) :
    Leads fp z (State.issueBurst a0 a1 a2) := by
  unfold State.issueBurst
  extract_lets -merge -useContext -underBinder v0
  split
  · exact h0
  · extract_lets -merge -useContext -underBinder v1 v2 v3
    have kv3 : Leads fp z v3 := by
      dsimp -zeta only [v3]
      refine keeps_setChan (hcap.sub rfl) ?_
      exact h0
    first | clear_value v3 | skip
    refine keeps_askSource hcap ?_
    refine keeps_spendPending (hcap.sub rfl) ?_
    exact kv3

theorem keeps_grant {fp : Nat} (hcap : Has fp 0x27805B004E) {z : State} {a0 : State} {a1 : Die} (h0 : Leads fp z a0) :
    Leads fp z (State.grant a0 a1) := by
  unfold State.grant
  extract_lets -merge -useContext -underBinder v0
  refine keeps_ite ?_ ?_
  · exact h0
  · split
    · exact h0
    · extract_lets -merge -useContext -underBinder v1 v2
      have kv1 : Leads fp z v1 := by
        dsimp -zeta only [v1]
        exact keeps_put_dmaArb (hcap.sub rfl) h0
      first | clear_value v1 | skip
      have kv2 : Leads fp z v2 := by
        dsimp -zeta only [v2]
        refine keeps_foldl ?_ ?_
        · intro y3 hy3 y4
          refine keeps_ite ?_ ?_
          · exact hy3
          · refine keeps_bump (hcap.sub rfl) ?_
            exact hy3
        · exact kv1
      first | clear_value v2 | skip
      refine keeps_issueBurst (hcap.sub rfl) ?_
      exact kv2

theorem keeps_hostPoison {fp : Nat} (hcap : Has fp 0x270040004E) {z : State} {a0 : State} {a1 : Die} {a2 : Nat}
    {a3 : Nat} (h0 : Leads fp z a0) :
    Leads fp z (State.hostPoison a0 a1 a2 a3) := by
  unfold State.hostPoison
  refine keeps_ite ?_ ?_
  · exact h0
  · refine keeps_chanRecord hcap ?_
    refine keeps_bump (hcap.sub rfl) ?_
    refine keeps_setFlag (hcap.sub rfl) ?_
    exact h0

theorem keeps_writeNode {fp : Nat} (hcap : Has fp 0x2180000002) {z s : State} {d : Nat} {a : Word64} {off : Nat}
    {bs : List (Byte × Bool)} (h : Leads fp z s) :
    ∀ t, s.writeNode d a off bs = some t → Leads fp z t := by
  intro t e
  unfold State.writeNode at e
  exact keeps_sendWrite hcap h t e

theorem keeps_putBurst {fp : Nat} (hcap : Has fp 0x278040004E) {z s : State} {d : Die} {k : Nat} {c : Channel}
    {x : Desc} {b : Burst} {bs : List (Nat × Byte × Bool)}
    (h : Leads fp z s) : ∀ t, s.putBurst d k c x b bs = some t → Leads fp z t := by
  intro t e
  unfold State.putBurst at e
  dsimp only at e
  split at e
  · split at e
    · injection e with e; subst e; exact keeps_hostPoison (hcap.sub rfl) (keeps_send (hcap.sub rfl) h)
    · exact absurd e (by simp)
  · split at e
    · injection e with e; subst e; exact keeps_spaceWrite (hcap.sub rfl) h
    · exact keeps_writeNode (hcap.sub rfl) h t e

theorem keeps_acked {fp : Nat} (hcap : Has fp 0x27806B004E) {z : State} {a0 : State} {a1 : Die} {a2 : Nat}
    {a3 : Desc} {a4 : Burst} (h0 : Leads fp z a0) :
    Leads fp z (State.acked a0 a1 a2 a3 a4) := by
  unfold State.acked
  extract_lets -merge -useContext -underBinder v0 v1 v2 v3 v4 v5 v6
  have kv3 : Leads fp z v3 := by
    dsimp -zeta only [v3]
    refine keeps_setChan (hcap.sub rfl) ?_
    exact h0
  first | clear_value v3 | skip
  have kv5 : Leads fp z v5 := by
    dsimp -zeta only [v5]
    refine keeps_bump (hcap.sub rfl) ?_
    refine keeps_setReg (hcap.sub rfl) ?_
    exact kv3
  first | clear_value v5 | skip
  have kv6 : Leads fp z v6 := by
    dsimp -zeta only [v6]
    refine keeps_ite ?_ ?_
    · refine keeps_chanInterrupt (hcap.sub rfl) ?_
      exact kv5
    · exact kv5
  first | clear_value v6 | skip
  refine keeps_ite ?_ ?_
  · refine keeps_ite ?_ ?_
    · refine keeps_endChain (hcap.sub rfl) ?_
      exact kv6
    · exact kv6
  · refine keeps_ite ?_ ?_
    · refine keeps_descDone hcap ?_
      exact kv6
    · exact kv6

theorem keeps_burstAck {fp : Nat} (hcap : Has fp 0x27806B004E) {z s : State} {d : Die} {k off : Nat}
    (h : Leads fp z s) : Leads fp z (s.burstAck d k off) := by
  unfold State.burstAck
  extract_lets -merge -useContext -underBinder c
  split
  · split
    split
    · exact h
    · split
      · rename_i t e
        exact keeps_acked hcap (keeps_putBurst (hcap.sub rfl) h t e)
      · exact keeps_transferError (hcap.sub rfl) h
  · exact h

theorem keeps_moveWork {fp : Nat} (hcap : Has fp 0x80002) {z : State} {a0 : Job} {a1 : State} (h1 : Leads fp z a1) :
    Leads fp z (moveWork a0 a1).state := by
  unfold moveWork
  extract_lets -merge -useContext -underBinder v0 v1 v2
  have kv2 : Leads fp z v2 := by
    dsimp -zeta only [v2]
    refine keeps_setChan (hcap.sub rfl) ?_
    exact h1
  first | clear_value v2 | skip
  split
  rename_i x3 x4 e6
  have kx3 : Leads fp z x3 := by
    refine keeps_eq1 e6 ?_
    refine keeps_startDesc hcap ?_
    exact kv2
  extract_lets -merge -useContext -underBinder v5
  have kv5 : Leads fp z v5 := by
    dsimp -zeta only [v5]
    refine keeps_setChan (hcap.sub rfl) ?_
    exact kx3
  first | clear_value v5 | skip
  refine keeps_iteD ?_ ?_
  · refine keeps_doneMk ?_
    exact kx3
  · refine keeps_failed ?_
    exact kv5

theorem keeps_dmaGo {fp : Nat} (hcap : Has fp 0x270048004E) {z : State} {a0 : State} {a1 : Src} {a2 : Die}
    {a3 : Nat} (h0 : Leads fp z a0) :
    Leads fp z (State.dmaGo a0 a1 a2 a3) := by
  unfold State.dmaGo
  refine keeps_ite ?_ ?_
  · split
    rename_i x0 x1 e2
    have kx0 : Leads fp z x0 := by
      refine keeps_eq1 e2 ?_
      refine keeps_startDesc (hcap.sub rfl) ?_
      exact h0
    refine keeps_ite ?_ ?_
    · exact kx0
    · refine keeps_chanError (hcap.sub rfl) ?_
      exact kx0
  · exact h0

theorem keeps_dmaStop {fp : Nat} (hcap : Has fp 0x27804B004E) {z : State} {a0 : State} {a1 : Src} {a2 : Die}
    {a3 : Nat} (h0 : Leads fp z a0) :
    Leads fp z (State.dmaStop a0 a1 a2 a3) := by
  unfold State.dmaStop
  extract_lets -merge -useContext -underBinder v0 v1
  have kv1 : Leads fp z v1 := by
    dsimp -zeta only [v1]
    refine keeps_chanError (hcap.sub rfl) ?_
    refine keeps_setChan (hcap.sub rfl) ?_
    exact h0
  first | clear_value v1 | skip
  refine keeps_ite ?_ ?_
  · refine keeps_ite ?_ ?_
    · refine keeps_endChain hcap ?_
      exact kv1
    · refine keeps_setFlag (hcap.sub rfl) ?_
      exact kv1
  · exact h0

theorem keeps_timerEvent {fp : Nat} (hcap : Has fp 0x2) {z : State} {a0 : State} {a1 : Nat} {a2 : Nat}
    (h0 : Leads fp z a0) :
    Leads fp z (State.timerEvent a0 a1 a2) := by
  unfold State.timerEvent
  extract_lets -merge -useContext -underBinder v0
  have kv0 : Leads fp z v0 := by
    dsimp -zeta only [v0]
    refine keeps_bump hcap ?_
    exact h0
  first | clear_value v0 | skip
  refine keeps_ite ?_ ?_
  · refine keeps_ite ?_ ?_
    · refine keeps_setFld hcap ?_
      exact kv0
    · refine keeps_setFld hcap ?_
      refine keeps_setFlag hcap ?_
      exact kv0
  · exact h0

theorem keeps_timerCtrl {fp : Nat} (hcap : Has fp 0x2) {z : State} {a0 : State} {a1 : Src} {a2 : Nat} {a3 : Nat}
    {a4 : Nat} (h0 : Leads fp z a0) :
    Leads fp z (State.timerCtrl a0 a1 a2 a3 a4) := by
  unfold State.timerCtrl
  extract_lets -merge -useContext -underBinder v0 v1
  have kv1 : Leads fp z v1 := by
    dsimp -zeta only [v1]
    refine keeps_setReg hcap ?_
    exact h0
  first | clear_value v1 | skip
  refine keeps_ite ?_ ?_
  · refine keeps_ite ?_ ?_
    · refine keeps_setFld hcap ?_
      exact kv1
    · exact kv1
  · exact h0

theorem keeps_timerPeriod {fp : Nat} (hcap : Has fp 0x2) {z : State} {a0 : State} {a1 : Src} {a2 : Nat}
    {a3 : Nat} {a4 : Nat} (h0 : Leads fp z a0) :
    Leads fp z (State.timerPeriod a0 a1 a2 a3 a4) := by
  unfold State.timerPeriod
  refine keeps_ite ?_ ?_
  · refine keeps_setReg hcap ?_
    exact h0
  · exact h0

theorem keeps_quiesceWrite {fp : Nat} (hcap : Has fp 0x2) {z : State} {a0 : State} {a1 : Src} {a2 : Block}
    {a3 : Bool} (h0 : Leads fp z a0) :
    Leads fp z (State.quiesceWrite a0 a1 a2 a3) := by
  unfold State.quiesceWrite
  extract_lets -merge -useContext -underBinder v0
  refine keeps_ite ?_ ?_
  · refine keeps_setFlag hcap ?_
    exact h0
  · exact h0

theorem keeps_blockReset {fp : Nat} (hcap : Has fp 0x22) {z : State} {a0 : State} {a1 : Src} {a2 : Block}
    (h0 : Leads fp z a0) :
    Leads fp z (State.blockReset a0 a1 a2) := by
  unfold State.blockReset
  extract_lets -merge -useContext -underBinder v0
  refine keeps_ite ?_ ?_
  · exact h0
  · refine keeps_ite ?_ ?_
    · exact keeps_put_rst (hcap.sub rfl) h0
    · refine keeps_setFlag (hcap.sub rfl) ?_
      exact h0

theorem keeps_blockClear {fp : Nat} (hcap : Has fp 0x91B02) {z : State} {a0 : State} {a1 : Block}
    (h0 : Leads fp z a0) :
    Leads fp z (State.blockClear a0 a1) := by
  unfold State.blockClear
  split
  · extract_lets -merge -useContext -underBinder v0
    have kv0 : Leads fp z v0 := by
      dsimp -zeta only [v0]
      refine keeps_foldl ?_ ?_
      · intro y1 hy1 y2
        extract_lets -merge -useContext -underBinder v3
        refine keeps_setTile (hcap.sub rfl) ?_
        exact hy1
      · exact h0
    first | clear_value v0 | skip
    refine keeps_setGroup (hcap.sub rfl) ?_
    exact kv0
  · split
    · extract_lets -merge -useContext -underBinder v4 v5
      have kv4 : Leads fp z v4 := by
        dsimp -zeta only [v4]
        refine keeps_setResultSet (hcap.sub rfl) ?_
        refine keeps_setResultSet (hcap.sub rfl) ?_
        exact h0
      first | clear_value v4 | skip
      have kv5 : Leads fp z v5 := by
        dsimp -zeta only [v5]
        refine keeps_foldl ?_ ?_
        · intro y6 hy6 y7
          extract_lets -merge -useContext -underBinder v8
          refine keeps_setTile (hcap.sub rfl) ?_
          exact hy6
        · exact kv4
      first | clear_value v5 | skip
      refine keeps_setEng (hcap.sub rfl) ?_
      exact kv5
    · refine keeps_setEng (hcap.sub rfl) ?_
      exact keeps_put_lanes (hcap.sub rfl) h0
    · refine keeps_setEng (hcap.sub rfl) ?_
      exact h0
    · refine keeps_setFld (hcap.sub rfl) ?_
      refine keeps_setChan (hcap.sub rfl) ?_
      exact h0

theorem keeps_blockDone {fp : Nat} (hcap : Has fp 0x91B22) {z : State} {a0 : State} {a1 : Block}
    (h0 : Leads fp z a0) :
    Leads fp z (State.blockDone a0 a1) := by
  unfold State.blockDone
  extract_lets -merge -useContext -underBinder v0
  refine keeps_ite ?_ ?_
  · refine keeps_blockClear (hcap.sub rfl) ?_
    exact keeps_put_rst (hcap.sub rfl) h0
  · exact h0

theorem leads_execMove {fp : Nat} (hcap : Has fp 0x27004F004E) {z t : State} {a0 : EngUnit} {a1 : Bool}
    {a2 : State} (h2 : Leads fp z a2) (e : (execMove a0 a1 a2) = .next t) :
    Leads fp z t := by
  unfold execMove at e
  injection e with e
  subst e
  refine keeps_issue (hcap.sub rfl) ?_ ?_
  · exact h2
  · intro y0 y1 hy1
    refine keeps_moveWork (hcap.sub rfl) ?_
    exact hy1

theorem leads_execDmaGo {fp : Nat} (hcap : Has fp 0x270048004E) {z t : State} {a0 : Src} {a1 : Die}
    {a2 : Fin 64} {a3 : State} (h3 : Leads fp z a3) (e : (execDmaGo a0 a1 a2 a3) = .next t) :
    Leads fp z t := by
  unfold execDmaGo at e
  injection e with e
  subst e
  refine keeps_dmaGo hcap ?_
  exact h3

theorem leads_execDmaStop {fp : Nat} (hcap : Has fp 0x27804B004E) {z t : State} {a0 : Src} {a1 : Die}
    {a2 : Fin 64} {a3 : State} (h3 : Leads fp z a3) (e : (execDmaStop a0 a1 a2 a3) = .next t) :
    Leads fp z t := by
  unfold execDmaStop at e
  injection e with e
  subst e
  refine keeps_dmaStop hcap ?_
  exact h3

theorem leads_execDmaGrant {fp : Nat} (hcap : Has fp 0x27805B004E) {z t : State} {a0 : Die} {a1 : State}
    (h1 : Leads fp z a1) (e : (execDmaGrant a0 a1) = .next t) :
    Leads fp z t := by
  unfold execDmaGrant at e
  injection e with e
  subst e
  refine keeps_grant hcap ?_
  exact h1

theorem leads_execDmaBurstAck {fp : Nat} (hcap : Has fp 0x27806B004E) {z t : State} {a0 : Die} {a1 : Fin 64}
    {a2 : Nat} {a3 : State} (h3 : Leads fp z a3) (e : (execDmaBurstAck a0 a1 a2 a3) = .next t) :
    Leads fp z t := by
  unfold execDmaBurstAck at e
  injection e with e
  subst e
  refine keeps_burstAck hcap ?_
  exact h3

theorem leads_execDmaTriggerEvent {fp : Nat} (hcap : Has fp 0x80002) {z t : State} {a0 : Die} {a1 : Fin 64}
    {a2 : State} (h2 : Leads fp z a2) (e : (execDmaTriggerEvent a0 a1 a2) = .next t) :
    Leads fp z t := by
  unfold execDmaTriggerEvent at e
  injection e with e
  subst e
  refine keeps_trigger hcap ?_
  exact h2

theorem leads_execDmaTransferError {fp : Nat} (hcap : Has fp 0x27804B004E) {z t : State} {a0 : Die}
    {a1 : Fin 64} {a2 : State} (h2 : Leads fp z a2) (e : (execDmaTransferError a0 a1 a2) = .next t) :
    Leads fp z t := by
  unfold execDmaTransferError at e
  injection e with e
  subst e
  refine keeps_transferError hcap ?_
  exact h2

theorem leads_execTimerEvent {fp : Nat} (hcap : Has fp 0x2) {z t : State} {a0 : Die} {a1 : Fin 16} {a2 : State}
    (h2 : Leads fp z a2) (e : (execTimerEvent a0 a1 a2) = .next t) :
    Leads fp z t := by
  unfold execTimerEvent at e
  injection e with e
  subst e
  refine keeps_timerEvent hcap ?_
  exact h2

theorem leads_execTimerCtrlWrite {fp : Nat} (hcap : Has fp 0x2) {z t : State} {a0 : Src} {a1 : Die}
    {a2 : Fin 16} {a3 : Word32} {a4 : State} (h4 : Leads fp z a4) (e :
    (execTimerCtrlWrite a0 a1 a2 a3 a4) = .next t) :
    Leads fp z t := by
  unfold execTimerCtrlWrite at e
  injection e with e
  subst e
  refine keeps_timerCtrl hcap ?_
  exact h4

theorem leads_execTimerPeriodWrite {fp : Nat} (hcap : Has fp 0x2) {z t : State} {a0 : Src} {a1 : Die}
    {a2 : Fin 16} {a3 : Word32} {a4 : State} (h4 : Leads fp z a4) (e :
    (execTimerPeriodWrite a0 a1 a2 a3 a4) = .next t) :
    Leads fp z t := by
  unfold execTimerPeriodWrite at e
  injection e with e
  subst e
  refine keeps_timerPeriod hcap ?_
  exact h4

theorem leads_execQuiesceWrite {fp : Nat} (hcap : Has fp 0x2) {z t : State} {a0 : Src} {a1 : Block} {a2 : Bool}
    {a3 : State} (h3 : Leads fp z a3) (e : (execQuiesceWrite a0 a1 a2 a3) = .next t) :
    Leads fp z t := by
  unfold execQuiesceWrite at e
  injection e with e
  subst e
  refine keeps_quiesceWrite hcap ?_
  exact h3

theorem leads_execBlockResetRequest {fp : Nat} (hcap : Has fp 0x22) {z t : State} {a0 : Src} {a1 : Block}
    {a2 : State} (h2 : Leads fp z a2) (e : (execBlockResetRequest a0 a1 a2) = .next t) :
    Leads fp z t := by
  unfold execBlockResetRequest at e
  injection e with e
  subst e
  refine keeps_blockReset hcap ?_
  exact h2

theorem leads_execBlockResetComplete {fp : Nat} (hcap : Has fp 0x91B22) {z t : State} {a0 : Block} {a1 : State}
    (h1 : Leads fp z a1) (e : (execBlockResetComplete a0 a1) = .next t) :
    Leads fp z t := by
  unfold execBlockResetComplete at e
  injection e with e
  subst e
  refine keeps_blockDone hcap ?_
  exact h1

/-! ### PortLinks -/

theorem keeps_failPort {fp : Nat} (hcap : Has fp 0x27804B004E) {z : State} {a0 : State} {a1 : Nat}
    (h0 : Leads fp z a0) :
    Leads fp z (State.failPort a0 a1) := by
  unfold State.failPort
  refine keeps_foldl ?_ ?_
  · intro y0 hy0 y1
    refine keeps_transferError hcap ?_
    exact hy0
  · exact h0

theorem keeps_linkOff {fp : Nat} (hcap : Has fp 0x200002) {z : State} {a0 : State} {a1 : Nat} (h0 : Leads fp z a0) :
    Leads fp z (State.linkOff a0 a1) := by
  unfold State.linkOff
  extract_lets -merge -useContext -underBinder v0 v1
  have kv0 : Leads fp z v0 := by
    dsimp -zeta only [v0]
    refine keeps_setFld (hcap.sub rfl) ?_
    refine keeps_setFlag (hcap.sub rfl) ?_
    exact h0
  first | clear_value v0 | skip
  refine keeps_setPort (hcap.sub rfl) ?_
  exact kv0

theorem keeps_pcieDown {fp : Nat} (hcap : Has fp 0x27806B004E) {z : State} {a0 : State} {a1 : Nat}
    (h0 : Leads fp z a0) :
    Leads fp z (State.pcieDown a0 a1) := by
  unfold State.pcieDown
  refine keeps_failPort (hcap.sub rfl) ?_
  refine keeps_linkOff (hcap.sub rfl) ?_
  exact h0

theorem keeps_perstOn {fp : Nat} (hcap : Has fp 0x27806B004E) {z : State} {a0 : State} {a1 : Nat}
    (h0 : Leads fp z a0) :
    Leads fp z (State.perstOn a0 a1) := by
  unfold State.perstOn
  extract_lets -merge -useContext -underBinder v0 v1 v2 v3
  have kv0 : Leads fp z v0 := by
    dsimp -zeta only [v0]
    refine keeps_failPort (hcap.sub rfl) ?_
    refine keeps_linkOff (hcap.sub rfl) ?_
    exact h0
  first | clear_value v0 | skip
  have kv1 : Leads fp z v1 := by
    dsimp -zeta only [v1]
    refine keeps_foldl ?_ ?_
    · intro y4 hy4 y5
      refine keeps_dropBacklog (hcap.sub rfl) ?_
      exact hy4
    · exact kv0
  first | clear_value v1 | skip
  have kv2 : Leads fp z v2 := by
    dsimp -zeta only [v2]
    refine keeps_setFld (hcap.sub rfl) ?_
    refine keeps_clearRegs (hcap.sub rfl) ?_
    exact kv1
  first | clear_value v2 | skip
  refine keeps_setPort (hcap.sub rfl) ?_
  exact kv2

theorem keeps_perstOff {fp : Nat} (hcap : Has fp 0x200000) {z : State} {a0 : State} {a1 : Nat} (h0 : Leads fp z a0) :
    Leads fp z (State.perstOff a0 a1) := by
  unfold State.perstOff
  extract_lets -merge -useContext -underBinder v0
  refine keeps_setPort hcap ?_
  exact h0

theorem keeps_pcieUp {fp : Nat} (hcap : Has fp 0x2000200002) {z : State} {a0 : State} {a1 : Nat} {a2 : Nat}
    {a3 : Nat} (h0 : Leads fp z a0) :
    Leads fp z (State.pcieUp a0 a1 a2 a3) := by
  unfold State.pcieUp
  extract_lets -merge -useContext -underBinder v0 v1 v2
  have kv0 : Leads fp z v0 := by
    dsimp -zeta only [v0]
    refine keeps_setFld (hcap.sub rfl) ?_
    refine keeps_setFld (hcap.sub rfl) ?_
    refine keeps_setFlag (hcap.sub rfl) ?_
    exact h0
  first | clear_value v0 | skip
  have kv2 : Leads fp z v2 := by
    dsimp -zeta only [v2]
    refine keeps_setPort (hcap.sub rfl) ?_
    exact kv0
  first | clear_value v2 | skip
  refine keeps_ite ?_ ?_
  · exact h0
  · refine keeps_foldl ?_ ?_
    · intro y3 hy3 y4
      refine keeps_drain hcap ?_
      exact hy3
    · exact kv2

theorem keeps_completion {fp : Nat} (hcap : Has fp 0x27804B004E) {z : State} {a0 : State} {a1 : Die} {a2 : Nat}
    {a3 : List Byte} {a4 : Bool} (h0 : Leads fp z a0) :
    Leads fp z (State.completion a0 a1 a2 a3 a4) := by
  unfold State.completion
  extract_lets -merge -useContext -underBinder v0
  split
  · refine keeps_ite ?_ ?_
    · refine keeps_transferError hcap ?_
      exact h0
    · split
      · refine keeps_setChan (hcap.sub rfl) ?_
        exact h0
      · exact h0
  · exact h0

theorem keeps_completionLate {fp : Nat} (hcap : Has fp 0x27804B004E) {z : State} {a0 : State} {a1 : Die}
    {a2 : Nat} (h0 : Leads fp z a0) :
    Leads fp z (State.completionLate a0 a1 a2) := by
  unfold State.completionLate
  extract_lets -merge -useContext -underBinder v0
  split
  · refine keeps_ite ?_ ?_
    · refine keeps_transferError hcap ?_
      exact h0
    · exact h0
  · exact h0

theorem keeps_pllLost {fp : Nat} (hcap : Has fp 0x2FFFFFFFFE) {z : State} {a0 : State} {a1 : Nat} {a2 : Nat}
    (h0 : Leads fp z a0) :
    Leads fp z (State.pllLost a0 a1 a2) := by
  unfold State.pllLost
  extract_lets -merge -useContext -underBinder v0 v1 v2 v3
  have kv1 : Leads fp z v1 := by
    dsimp -zeta only [v1]
    refine keeps_setFlag (hcap.sub rfl) ?_
    exact h0
  first | clear_value v1 | skip
  have kv2 : Leads fp z v2 := by
    dsimp -zeta only [v2]
    refine keeps_fault (hcap.sub rfl) ?_
    exact kv1
  first | clear_value v2 | skip
  have kv3 : Leads fp z v3 := by
    dsimp -zeta only [v3]
    refine keeps_ite ?_ ?_
    · refine keeps_pcieDown (hcap.sub rfl) ?_
      exact kv2
    · exact kv2
  first | clear_value v3 | skip
  refine keeps_ite ?_ ?_
  · exact h0
  · refine keeps_alarmFire hcap ?_
    exact kv3

theorem leads_execPerstAssert {fp : Nat} (hcap : Has fp 0x27806B004E) {z t : State} {a0 : Port} {a1 : State}
    (h1 : Leads fp z a1) (e : (execPerstAssert a0 a1) = .next t) :
    Leads fp z t := by
  unfold execPerstAssert at e
  injection e with e
  subst e
  refine keeps_perstOn hcap ?_
  exact h1

theorem leads_execPerstRelease {fp : Nat} (hcap : Has fp 0x200000) {z t : State} {a0 : Port} {a1 : State}
    (h1 : Leads fp z a1) (e : (execPerstRelease a0 a1) = .next t) :
    Leads fp z t := by
  unfold execPerstRelease at e
  injection e with e
  subst e
  refine keeps_perstOff hcap ?_
  exact h1

theorem leads_execPcieLinkDown {fp : Nat} (hcap : Has fp 0x27806B004E) {z t : State} {a0 : Port} {a1 : State}
    (h1 : Leads fp z a1) (e : (execPcieLinkDown a0 a1) = .next t) :
    Leads fp z t := by
  unfold execPcieLinkDown at e
  injection e with e
  subst e
  refine keeps_pcieDown hcap ?_
  exact h1

theorem leads_execPcieLinkUp {fp : Nat} (hcap : Has fp 0x2000200002) {z t : State} {a0 : Port} {a1 : Fin 6}
    {a2 : Fin 6} {a3 : State} (h3 : Leads fp z a3) (e : (execPcieLinkUp a0 a1 a2 a3) = .next t) :
    Leads fp z t := by
  unfold execPcieLinkUp at e
  injection e with e
  subst e
  refine keeps_pcieUp hcap ?_
  exact h3

theorem leads_execHostCompletion {fp : Nat} (hcap : Has fp 0x27804B004E) {z t : State} {a0 : Die} {a1 : Fin 64}
    {a2 : List Byte} {a3 : Bool} {a4 : State} (h4 : Leads fp z a4) (e :
    (execHostCompletion a0 a1 a2 a3 a4) = .next t) :
    Leads fp z t := by
  unfold execHostCompletion at e
  injection e with e
  subst e
  refine keeps_completion hcap ?_
  exact h4

theorem leads_execCompletionTimeout {fp : Nat} (hcap : Has fp 0x27804B004E) {z t : State} {a0 : Die}
    {a1 : Fin 64} {a2 : State} (h2 : Leads fp z a2) (e : (execCompletionTimeout a0 a1 a2) = .next t) :
    Leads fp z t := by
  unfold execCompletionTimeout at e
  injection e with e
  subst e
  refine keeps_completionLate hcap ?_
  exact h2

theorem leads_execPllLockLost {fp : Nat} (hcap : Has fp 0x2FFFFFFFFE) {z t : State} {a0 : Half} {a1 : Fin 8}
    {a2 : State} (h2 : Leads fp z a2) (e : (execPllLockLost a0 a1 a2) = .next t) :
    Leads fp z t := by
  unfold execPllLockLost at e
  injection e with e
  subst e
  refine keeps_pllLost hcap ?_
  exact h2

/-! ### Tiles -/

theorem keeps_setLevel {fp : Nat} (hcap : Has fp 0xC) {z : State} {a0 : State} {a1 : Nat} {a2 : Bank} {a3 : Nat}
    {a4 : Nat} {a5 : Int} (h0 : Leads fp z a0) :
    Leads fp z (State.setLevel a0 a1 a2 a3 a4 a5) := by
  unfold State.setLevel
  extract_lets -merge -useContext -underBinder v0 v1 v2
  refine keeps_write hcap ?_
  exact h0

theorem keeps_auxWrite {fp : Nat} (hcap : Has fp 0xC) {z : State} {a0 : State} {a1 : Nat} {a2 : Nat}
    {a3 : List Byte} (h0 : Leads fp z a0) :
    Leads fp z (State.auxWrite a0 a1 a2 a3) := by
  unfold State.auxWrite
  extract_lets -merge -useContext -underBinder v0
  have kv0 : Leads fp z v0 := by
    dsimp -zeta only [v0]
    refine keeps_write hcap ?_
    exact h0
  first | clear_value v0 | skip
  refine keeps_ite ?_ ?_
  · refine keeps_write hcap ?_
    exact kv0
  · exact kv0

theorem keeps_weightPoison {fp : Nat} (hcap : Has fp 0x270040004E) {z : State} {a0 : State} {a1 : Nat}
    {a2 : Nat} (h0 : Leads fp z a0) :
    Leads fp z (State.weightPoison a0 a1 a2) := by
  unfold State.weightPoison
  refine keeps_fault hcap ?_
  exact h0

theorem keeps_startBurst {fp : Nat} (hcap : Has fp 0x100) {z : State} {a0 : State} {a1 : Nat} (h0 : Leads fp z a0) :
    Leads fp z (State.startBurst a0 a1) := by
  unfold State.startBurst
  extract_lets -merge -useContext -underBinder v0
  refine keeps_setTile hcap ?_
  exact h0

end Sys2Proof.Machine
end

