-- ==== Sys2Proof/Laws/LeadsMint.lean ====
section
/-! SUPPORT. Every operation of strikes, Assay orders, calibration and programming leads on from its state: one lemma each. -/

namespace Sys2Proof.Machine

/-! ### Strikes -/

theorem keeps_buildSlice {fp : Nat} (hcap : Has fp 0xE) {z : State} {a0 : State} {a1 : Nat} {a2 : Nat}
    {a3 : Operand} {a4 : Slice} (h0 : Leads fp z a0) :
    Leads fp z (State.buildSlice a0 a1 a2 a3 a4).1 := by
  unfold State.buildSlice
  extract_lets -merge -useContext -underBinder v0 v1 v2 v3 v4 v5 v6 v7 v8 v9 v10 v11
  have kv9 : Leads fp z v9 := by
    dsimp -zeta only [v9]
    refine keeps_addRec (hcap.sub rfl) ?_
    exact h0
  first | clear_value v9 | skip
  split
  · extract_lets -merge -useContext -underBinder v12 v13 v14 v15 v16 v17 v18 v19 v20
    have kv14 : Leads fp z v14 := by
      dsimp -zeta only [v14]
      refine keeps_addRec (hcap.sub rfl) ?_
      exact kv9
    first | clear_value v14 | skip
    split
    · extract_lets -merge -useContext -underBinder v21 v22 v23 v24 v25
      have kv24 : Leads fp z v24 := by
        dsimp -zeta only [v24]
        refine keeps_ite ?_ ?_
        · exact kv14
        · refine keeps_bump (hcap.sub rfl) ?_
          refine keeps_bump (hcap.sub rfl) ?_
          exact kv14
      first | clear_value v24 | skip
      have kv25 : Leads fp z v25 := by
        dsimp -zeta only [v25]
        refine keeps_ite ?_ ?_
        · exact kv24
        · refine keeps_bump (hcap.sub rfl) ?_
          refine keeps_bump (hcap.sub rfl) ?_
          refine keeps_bump (hcap.sub rfl) ?_
          exact kv24
      first | clear_value v25 | skip
      refine keeps_mk ?_
      exact kv25

theorem keeps_strikeWork {fp : Nat} (hcap : Has fp 0x90E) {z : State} {a0 : Bool} {a1 : Bool} {a2 : Job}
    {a3 : State} (h3 : Leads fp z a3) :
    Leads fp z (strikeWork a0 a1 a2 a3).state := by
  unfold strikeWork
  extract_lets -merge -useContext -underBinder v0 v1 v2 v3 v4 v5 v6 v7 v8 v9 v10
  have kv8 : Leads fp z v8 := by
    dsimp -zeta only [v8]
    refine keeps_ite ?_ ?_
    · exact h3
    · refine keeps_setResultSet (hcap.sub rfl) ?_
      exact h3
  first | clear_value v8 | skip
  refine keeps_iteD ?_ ?_
  · refine keeps_failed ?_
    exact h3
  · refine keeps_iteD ?_ ?_
    · refine keeps_failed ?_
      exact h3
    · refine keeps_iteD ?_ ?_
      · refine keeps_failed ?_
        exact h3
      · refine keeps_iteD ?_ ?_
        · refine keeps_failed ?_
          exact h3
        · split
          rename_i x11 x12 e19
          have kx11 : Leads fp z x11 := by
            refine keeps_eq1 e19 ?_
            refine keeps_buildSlice (hcap.sub rfl) ?_
            exact kv8
          split
          · extract_lets -merge -useContext -underBinder v13 v14 v15 v16 v17
            have kv15 : Leads fp z v15 := by
              dsimp -zeta only [v15]
              refine keeps_setTile (hcap.sub rfl) ?_
              exact kx11
            first | clear_value v15 | skip
            refine keeps_iteD ?_ ?_
            · refine keeps_doneMk ?_
              refine keeps_setTile (hcap.sub rfl) ?_
              exact kx11
            · refine keeps_doneMk ?_
              refine keeps_setTile (hcap.sub rfl) ?_
              exact kv15
          · extract_lets -merge -useContext -underBinder v18
            refine keeps_doneMk ?_
            refine keeps_setTile (hcap.sub rfl) ?_
            exact kx11

theorem keeps_issueStrike {fp : Nat} (hcap : Has fp 0x270047094E) {z : State} {a0 : State} {a1 : EngUnit}
    {a2 : Bool} {a3 : Nat} {a4 : Nat} (h0 : Leads fp z a0) :
    Leads fp z (State.issueStrike a0 a1 a2 a3 a4) := by
  unfold State.issueStrike
  split
  · exact h0
  · refine keeps_ite ?_ ?_
    · refine keeps_issue (hcap.sub rfl) ?_ ?_
      · exact h0
      · intro y0 y1 hy1
        refine keeps_strikeWork (hcap.sub rfl) ?_
        exact hy1
    · exact h0

theorem keeps_beginStrike {fp : Nat} (hcap : Has fp 0x102) {z : State} {a0 : State} {a1 : Nat} {a2 : Slice}
    {a3 : Part} {a4 : List Part} (h0 : Leads fp z a0) :
    Leads fp z (State.beginStrike a0 a1 a2 a3 a4) := by
  unfold State.beginStrike
  extract_lets -merge -useContext -underBinder v0 v1 v2 v3 v4 v5 v6 v7 v8 v9 v10 v11
  have kv3 : Leads fp z v3 := by
    dsimp -zeta only [v3]
    refine keeps_ite ?_ ?_
    · refine keeps_bump (hcap.sub rfl) ?_
      exact h0
    · exact h0
  first | clear_value v3 | skip
  have kv4 : Leads fp z v4 := by
    dsimp -zeta only [v4]
    refine keeps_ite ?_ ?_
    · refine keeps_bump (hcap.sub rfl) ?_
      exact kv3
    · refine keeps_bump (hcap.sub rfl) ?_
      exact kv3
  first | clear_value v4 | skip
  have kv5 : Leads fp z v5 := by
    dsimp -zeta only [v5]
    refine keeps_ite ?_ ?_
    · refine keeps_bump (hcap.sub rfl) ?_
      exact kv4
    · exact kv4
  first | clear_value v5 | skip
  have kv9 : Leads fp z v9 := by
    dsimp -zeta only [v9]
    refine keeps_ite ?_ ?_
    · refine keeps_setFld (hcap.sub rfl) ?_
      exact kv5
    · exact kv5
  first | clear_value v9 | skip
  have kv11 : Leads fp z v11 := by
    dsimp -zeta only [v11]
    refine keeps_ite ?_ ?_
    · refine keeps_bump (hcap.sub rfl) ?_
      exact kv9
    · exact kv9
  first | clear_value v11 | skip
  refine keeps_setTile (hcap.sub rfl) ?_
  exact kv11

theorem keeps_beginWork {fp : Nat} (hcap : Has fp 0x102) {z : State} {a0 : State} {a1 : Nat} (h0 : Leads fp z a0) :
    Leads fp z (State.beginWork a0 a1) := by
  unfold State.beginWork
  extract_lets -merge -useContext -underBinder v0
  split
  · exact h0
  · split
    · extract_lets -merge -useContext -underBinder v1 v2
      refine keeps_setTile (hcap.sub rfl) ?_
      refine keeps_bump (hcap.sub rfl) ?_
      exact h0
    · split
      · exact h0
      · refine keeps_beginStrike hcap ?_
        exact h0

theorem keeps_grantClass {fp : Nat} (hcap : Has fp 0x502) {z : State} {a0 : State} {a1 : Nat} {a2 : Nat}
    {a3 : Nat} (h0 : Leads fp z a0) :
    Leads fp z (State.grantClass a0 a1 a2 a3).1 := by
  unfold State.grantClass
  extract_lets -merge -useContext -underBinder v0 v1 v2
  have kv2 : Leads fp z v2 := by
    dsimp -zeta only [v2]
    refine keeps_foldl ?_ ?_
    · intro y3 hy3 y4
      extract_lets -merge -useContext -underBinder v5
      refine keeps_beginWork (hcap.sub rfl) ?_
      exact keeps_put_gov (hcap.sub rfl) hy3
    · exact h0
  first | clear_value v2 | skip
  refine keeps_mk ?_
  refine keeps_foldl ?_ ?_
  · intro y6 hy6 y7
    refine keeps_bump (hcap.sub rfl) ?_
    exact hy6
  · exact kv2

theorem keeps_govern {fp : Nat} (hcap : Has fp 0x502) {z : State} {a0 : State} {a1 : Nat} (h0 : Leads fp z a0) :
    Leads fp z (State.govern a0 a1) := by
  unfold State.govern
  extract_lets -merge -useContext -underBinder v0
  split
  rename_i x1 x2 e11
  have kx1 : Leads fp z x1 := by
    refine keeps_eq1 e11 ?_
    refine keeps_grantClass hcap ?_
    exact h0
  split
  rename_i x3 x4 e10
  have kx3 : Leads fp z x3 := by
    refine keeps_eq1 e10 ?_
    refine keeps_grantClass hcap ?_
    exact kx1
  split
  rename_i x5 x6 e9
  have kx5 : Leads fp z x5 := by
    refine keeps_eq1 e9 ?_
    refine keeps_grantClass hcap ?_
    exact kx3
  extract_lets -merge -useContext -underBinder v7 v8
  have kv7 : Leads fp z v7 := by
    dsimp -zeta only [v7]
    refine keeps_ite ?_ ?_
    · refine keeps_bump (hcap.sub rfl) ?_
      exact kx5
    · exact kx5
  first | clear_value v7 | skip
  refine keeps_ite ?_ ?_
  · refine keeps_setFld (hcap.sub rfl) ?_
    exact kv7
  · exact kv7

theorem keeps_code {fp : Nat} (hcap : Has fp 0x4000000000) {z : State} {a0 : State} {a1 : DirEntry} {a2 : Int}
    {a3 : Bool} (h0 : Leads fp z a0) :
    Leads fp z (State.code a0 a1 a2 a3).2.2 := by
  unfold State.code
  extract_lets -merge -useContext -underBinder v0 v1 v2
  split
  rename_i x3 x4 e13
  have kx4 : Leads fp z x4 := by
    refine keeps_eq2 e13 ?_
    refine keeps_draw hcap ?_
    exact h0
  extract_lets -merge -useContext -underBinder v5
  refine keeps_ite3 ?_ ?_
  · refine keeps_mk3 ?_
    exact kx4
  · split
    rename_i x6 x7 e12
    have kx7 : Leads fp z x7 := by
      refine keeps_eq2 e12 ?_
      refine keeps_draw hcap ?_
      exact kx4
    extract_lets -merge -useContext -underBinder v8 v9 v10 v11
    refine keeps_mk3 ?_
    exact kx7

theorem keeps_convertLine {fp : Nat} (hcap : Has fp 0x4000000000) {z : State} {a0 : State} {a1 : Nat}
    {a2 : Slice} {a3 : Part} {a4 : Nat} (h0 : Leads fp z a0) :
    Leads fp z (State.convertLine a0 a1 a2 a3 a4).1 := by
  unfold State.convertLine
  extract_lets -merge -useContext -underBinder v0
  split
  rename_i x1 x2 x3 e6
  have kx3 : Leads fp z x3 := by
    refine keeps_eq3 e6 ?_
    refine keeps_code hcap ?_
    exact h0
  extract_lets -merge -useContext -underBinder v4 v5
  refine keeps_ite1 ?_ ?_
  · refine keeps_mk ?_
    exact kx3
  · refine keeps_mk ?_
    exact kx3

theorem keeps_saturate {fp : Nat} (hcap : Has fp 0x270040004E) {z : State} {a0 : State} {a1 : Nat} {a2 : Slice}
    {a3 : Part} {a4 : Nat} (h0 : Leads fp z a0) :
    Leads fp z (State.saturate a0 a1 a2 a3 a4).1 := by
  unfold State.saturate
  extract_lets -merge -useContext -underBinder v0 v1
  have kv0 : Leads fp z v0 := by
    dsimp -zeta only [v0]
    refine keeps_bump (hcap.sub rfl) ?_
    exact h0
  first | clear_value v0 | skip
  have kv1 : Leads fp z v1 := by
    dsimp -zeta only [v1]
    refine keeps_ite ?_ ?_
    · refine keeps_fault hcap ?_
      exact kv0
    · exact kv0
  first | clear_value v1 | skip
  refine keeps_mk ?_
  exact kv1

theorem keeps_convertPart {fp : Nat} (hcap : Has fp 0x670040004E) {z : State} {a0 : State} {a1 : Nat}
    {a2 : Slice} {a3 : Part} (h0 : Leads fp z a0) :
    Leads fp z (State.convertPart a0 a1 a2 a3).1 := by
  unfold State.convertPart
  extract_lets -merge -useContext -underBinder v0
  split
  rename_i x10 x11 x12 e20
  have kx10 : Leads fp z x10 := by
    refine keeps_eq1 e20 ?_
    refine keeps_foldl1 ?_ ?_
    · intro y1 hy1 y2
      split
      rename_i x3 x4 x5
      have kx3 : Leads fp z x3 := by
        exact hy1
      split
      rename_i x6 x7 x8 e9
      have kx6 : Leads fp z x6 := by
        refine keeps_eq1 e9 ?_
        refine keeps_convertLine (hcap.sub rfl) ?_
        exact kx3
      refine keeps_mk ?_
      exact kx6
    · refine keeps_mk ?_
      exact h0
  extract_lets -merge -useContext -underBinder v13 v14 v15
  refine keeps_ite1 ?_ ?_
  · refine keeps_mk ?_
    exact kx10
  · refine keeps_ite1 ?_ ?_
    · refine keeps_foldl1 ?_ ?_
      · intro y16 hy16 y17
        split
        rename_i x18 x19
        have kx18 : Leads fp z x18 := by
          exact hy16
        refine keeps_saturate (hcap.sub rfl) ?_
        exact kx18
      · refine keeps_mk ?_
        exact kx10
    · refine keeps_mk ?_
      exact kx10

theorem keeps_convertEnd {fp : Nat} (hcap : Has fp 0x670040014E) {z : State} {a0 : State} {a1 : Nat}
    (h0 : Leads fp z a0) :
    Leads fp z (State.convertEnd a0 a1) := by
  unfold State.convertEnd
  split
  · exact h0
  · split
    · exact h0
    · split
      rename_i x4 x5 e7
      have kx4 : Leads fp z x4 := by
        refine keeps_eq1 e7 ?_
        refine keeps_foldl1 ?_ ?_
        · intro y0 hy0 y1
          split
          rename_i x2 x3
          have kx2 : Leads fp z x2 := by
            exact hy0
          refine keeps_convertPart (hcap.sub rfl) ?_
          exact kx2
        · refine keeps_mk ?_
          exact h0
      extract_lets -merge -useContext -underBinder v6
      refine keeps_setTile (hcap.sub rfl) ?_
      exact kx4

theorem keeps_mirrorIn {fp : Nat} (hcap : Has fp 0x270040014E) {z : State} {a0 : State} {a1 : Nat}
    (h0 : Leads fp z a0) :
    Leads fp z (State.mirrorIn a0 a1) := by
  unfold State.mirrorIn
  split
  · split
    · extract_lets -merge -useContext -underBinder v0 v1 v2 v3 v4 v5 v6 v7 v8
      have kv1 : Leads fp z v1 := by
        dsimp -zeta only [v1]
        refine keeps_setTile (hcap.sub rfl) ?_
        exact h0
      first | clear_value v1 | skip
      have kv3 : Leads fp z v3 := by
        dsimp -zeta only [v3]
        refine keeps_setTile (hcap.sub rfl) ?_
        exact kv1
      first | clear_value v3 | skip
      have kv7 : Leads fp z v7 := by
        dsimp -zeta only [v7]
        refine keeps_foldl ?_ ?_
        · intro y9 hy9 y10
          refine keeps_fault (hcap.sub rfl) ?_
          exact hy9
        · exact kv3
      first | clear_value v7 | skip
      refine keeps_ite ?_ ?_
      · exact h0
      · refine keeps_ite ?_ ?_
        · refine keeps_setTile (hcap.sub rfl) ?_
          exact kv3
        · refine keeps_setTile (hcap.sub rfl) ?_
          exact kv7
    · exact h0
  · exact h0

theorem keeps_countSlice {fp : Nat} (hcap : Has fp 0x2) {z : State} {a0 : State} {a1 : Nat} {a2 : Slice}
    {a3 : List Surplus} {a4 : Nat} (h0 : Leads fp z a0) :
    Leads fp z (State.countSlice a0 a1 a2 a3 a4) := by
  unfold State.countSlice
  extract_lets -merge -useContext -underBinder v0 v1 v2 v3
  refine keeps_bump hcap ?_
  refine keeps_bump hcap ?_
  refine keeps_bump hcap ?_
  refine keeps_bump hcap ?_
  refine keeps_bump hcap ?_
  exact h0

theorem keeps_sliceRecords {fp : Nat} (hcap : Has fp 0x270040004E) {z : State} {a0 : State} {a1 : Nat}
    {a2 : Bool} {a3 : Bool} {a4 : Nat} (h0 : Leads fp z a0) :
    Leads fp z (State.sliceRecords a0 a1 a2 a3 a4) := by
  unfold State.sliceRecords
  extract_lets -merge -useContext -underBinder v0 v1
  have kv0 : Leads fp z v0 := by
    dsimp -zeta only [v0]
    refine keeps_foldl ?_ ?_
    · intro y2 hy2 y3
      refine keeps_ite ?_ ?_
      · refine keeps_weightPoison hcap ?_
        exact hy2
      · refine keeps_ite ?_ ?_
        · exact hy2
        · refine keeps_fault hcap ?_
          exact hy2
    · exact h0
  first | clear_value v0 | skip
  have kv1 : Leads fp z v1 := by
    dsimp -zeta only [v1]
    refine keeps_ite ?_ ?_
    · refine keeps_weightPoison hcap ?_
      exact kv0
    · exact kv0
  first | clear_value v1 | skip
  refine keeps_ite ?_ ?_
  · refine keeps_weightPoison hcap ?_
    exact kv1
  · exact kv1

theorem keeps_sumSlice {fp : Nat} (hcap : Has fp 0x270040084E) {z : State} {a0 : State} {a1 : Nat} {a2 : Slice}
    (h0 : Leads fp z a0) :
    Leads fp z (State.sumSlice a0 a1 a2) := by
  unfold State.sumSlice
  extract_lets -merge -useContext -underBinder v0 v1 v2 v3 v4 v5 v6 v7 v8 v9 v10 v11 v12 v13
  have kv9 : Leads fp z v9 := by
    dsimp -zeta only [v9]
    refine keeps_ite ?_ ?_
    · refine keeps_bump (hcap.sub rfl) ?_
      exact h0
    · refine keeps_sliceRecords (hcap.sub rfl) ?_
      refine keeps_countSlice (hcap.sub rfl) ?_
      exact h0
  first | clear_value v9 | skip
  refine keeps_setResultSet (hcap.sub rfl) ?_
  exact kv9

theorem keeps_sliceDone {fp : Nat} (hcap : Has fp 0x270041094E) {z : State} {a0 : State} {a1 : Nat}
    (h0 : Leads fp z a0) :
    Leads fp z (State.sliceDone a0 a1) := by
  unfold State.sliceDone
  split
  · exact h0
  · extract_lets -merge -useContext -underBinder v0 v1 v2 v3 v4
    have kv1 : Leads fp z v1 := by
      dsimp -zeta only [v1]
      refine keeps_ite ?_ ?_
      · refine keeps_bump (hcap.sub rfl) ?_
        exact h0
      · exact h0
    first | clear_value v1 | skip
    have kv2 : Leads fp z v2 := by
      dsimp -zeta only [v2]
      refine keeps_sumSlice (hcap.sub rfl) ?_
      exact kv1
    first | clear_value v2 | skip
    have kv4 : Leads fp z v4 := by
      dsimp -zeta only [v4]
      refine keeps_setTile (hcap.sub rfl) ?_
      exact kv2
    first | clear_value v4 | skip
    refine keeps_ite ?_ ?_
    · exact h0
    · split
      · refine keeps_readyOrder (hcap.sub rfl) ?_
        exact kv4
      · exact kv4

theorem leads_execStrikeSlice {fp : Nat} (hcap : Has fp 0x270047094E) {z t : State} {a0 : EngUnit} {a1 : Bool}
    {a2 : State} (h2 : Leads fp z a2) (e : (execStrikeSlice a0 a1 a2) = .next t) :
    Leads fp z t := by
  unfold execStrikeSlice at e
  injection e with e
  subst e
  refine keeps_issueStrike hcap ?_
  exact h2

theorem leads_execStrikeVerify {fp : Nat} (hcap : Has fp 0x270047094E) {z t : State} {a0 : EngUnit} {a1 : Bool}
    {a2 : State} (h2 : Leads fp z a2) (e : (execStrikeVerify a0 a1 a2) = .next t) :
    Leads fp z t := by
  unfold execStrikeVerify at e
  injection e with e
  subst e
  refine keeps_issueStrike hcap ?_
  exact h2

theorem leads_execTstrikeSlice {fp : Nat} (hcap : Has fp 0x270047094E) {z t : State} {a0 : EngUnit} {a1 : Bool}
    {a2 : State} (h2 : Leads fp z a2) (e : (execTstrikeSlice a0 a1 a2) = .next t) :
    Leads fp z t := by
  unfold execTstrikeSlice at e
  injection e with e
  subst e
  refine keeps_issueStrike hcap ?_
  exact h2

theorem leads_execGovernorGrant {fp : Nat} (hcap : Has fp 0x502) {z t : State} {a0 : MintDie} {a1 : State}
    (h1 : Leads fp z a1) (e : (execGovernorGrant a0 a1) = .next t) :
    Leads fp z t := by
  unfold execGovernorGrant at e
  injection e with e
  subst e
  refine keeps_govern hcap ?_
  exact h1

theorem leads_execStrikeConvertEnd {fp : Nat} (hcap : Has fp 0x670040014E) {z t : State} {a0 : TileId}
    {a1 : State} (h1 : Leads fp z a1) (e : (execStrikeConvertEnd a0 a1) = .next t) :
    Leads fp z t := by
  unfold execStrikeConvertEnd at e
  injection e with e
  subst e
  refine keeps_convertEnd hcap ?_
  exact h1

theorem leads_execSliceComplete {fp : Nat} (hcap : Has fp 0x270041094E) {z t : State} {a0 : TileId} {a1 : State}
    (h1 : Leads fp z a1) (e : (execSliceComplete a0 a1) = .next t) :
    Leads fp z t := by
  unfold execSliceComplete at e
  injection e with e
  subst e
  refine keeps_sliceDone hcap ?_
  exact h1

theorem leads_execMirrorAccumulators {fp : Nat} (hcap : Has fp 0x270040014E) {z t : State} {a0 : TileId}
    {a1 : State} (h1 : Leads fp z a1) (e : (execMirrorAccumulators a0 a1) = .next t) :
    Leads fp z t := by
  unfold execMirrorAccumulators at e
  injection e with e
  subst e
  refine keeps_mirrorIn hcap ?_
  exact h1

/-! ### Outputs -/

theorem keeps_countQuant {fp : Nat} (hcap : Has fp 0xC) {z : State} {a0 : State} {a1 : Nat} {a2 : Quant}
    (h0 : Leads fp z a0) :
    Leads fp z (State.countQuant a0 a1 a2) := by
  unfold State.countQuant
  refine keeps_addRec hcap ?_
  refine keeps_addRec hcap ?_
  refine keeps_addRec hcap ?_
  exact h0

theorem keeps_formatFault {fp : Nat} (hcap : Has fp 0x270040004E) {z : State} {a0 : State} {a1 : Job} {a2 : Nat}
    (h0 : Leads fp z a0) :
    Leads fp z (State.formatFault a0 a1 a2) := by
  unfold State.formatFault
  refine keeps_fault hcap ?_
  refine keeps_addRec (hcap.sub rfl) ?_
  exact h0

theorem keeps_quantAll {fp : Nat} (hcap : Has fp 0x270040004E) {z : State} {a0 : State} {a1 : Job} {a2 : Nat}
    {a3 : Option Nat} {a4 : Option (Nat → Nat)} {a5 : List Val} (h0 : Leads fp z a0) :
    Leads fp z (State.quantAll a0 a1 a2 a3 a4 a5).1 := by
  unfold State.quantAll
  extract_lets -merge -useContext -underBinder v0
  refine keeps_foldl1 ?_ ?_
  · intro y1 hy1 y2
    split
    rename_i x3 x4
    have kx3 : Leads fp z x3 := by
      exact hy1
    split
    · extract_lets -merge -useContext -underBinder v5 v6
      have kv6 : Leads fp z v6 := by
        dsimp -zeta only [v6]
        refine keeps_ite ?_ ?_
        · refine keeps_formatFault hcap ?_
          exact kx3
        · refine keeps_countQuant (hcap.sub rfl) ?_
          exact kx3
      first | clear_value v6 | skip
      refine keeps_mk ?_
      exact kv6
  · refine keeps_mk ?_
    exact h0

theorem keeps_writeVals {fp : Nat} (hcap : Has fp 0x270040004E) {z : State} {a0 : State} {a1 : Job}
    {a2 : Operand} {a3 : Nat} {a4 : List Val} (h0 : Leads fp z a0) :
    Leads fp z (State.writeVals a0 a1 a2 a3 a4) := by
  unfold State.writeVals
  refine keeps_ite ?_ ?_
  · split
    rename_i x0 x1 e4
    have kx0 : Leads fp z x0 := by
      refine keeps_eq1 e4 ?_
      refine keeps_quantAll hcap ?_
      exact h0
    refine keeps_onDies ?_ ?_
    · exact kx0
    · intro y2 hy2 y3
      refine keeps_putBlocks (hcap.sub rfl) ?_
      exact hy2
  · refine keeps_onDies ?_ ?_
    · exact h0
    · intro y5 hy5 y6
      refine keeps_putFloats (hcap.sub rfl) ?_
      exact hy5

theorem keeps_writeHoards {fp : Nat} (hcap : Has fp 0x270040004E) {z : State} {a0 : State} {a1 : Job}
    {a2 : Operand} {a3 : Nat} {a4 : List Hoard} (h0 : Leads fp z a0) :
    Leads fp z (State.writeHoards a0 a1 a2 a3 a4) := by
  unfold State.writeHoards
  refine keeps_ite ?_ ?_
  · refine keeps_onDies ?_ ?_
    · exact h0
    · intro y0 hy0 y1
      refine keeps_foldl ?_ ?_
      · intro y2 hy2 y3
        refine keeps_putPartial (hcap.sub rfl) ?_
        exact hy2
      · exact hy0
  · refine keeps_writeVals hcap ?_
    exact h0

theorem keeps_takePartial {fp : Nat} (hcap : Has fp 0x270040004E) {z : State} {a0 : State} {a1 : Job} {a2 : Nat}
    {a3 : Nat} (h0 : Leads fp z a0) :
    Leads fp z (State.takePartial a0 a1 a2 a3).1 := by
  unfold State.takePartial
  extract_lets -merge -useContext -underBinder v0
  refine keeps_ite1 ?_ ?_
  · refine keeps_mk ?_
    exact h0
  · split
    · refine keeps_mk ?_
      exact h0
    · extract_lets -merge -useContext -underBinder v1
      refine keeps_mk ?_
      refine keeps_fault hcap ?_
      exact h0

theorem keeps_takePartials {fp : Nat} (hcap : Has fp 0x270040004E) {z : State} {a0 : State} {a1 : Job}
    {a2 : Nat} {a3 : Nat} (h0 : Leads fp z a0) :
    Leads fp z (State.takePartials a0 a1 a2 a3).1 := by
  unfold State.takePartials
  refine keeps_foldl1 ?_ ?_
  · intro y0 hy0 y1
    split
    rename_i x2 x3 x4
    have kx2 : Leads fp z x2 := by
      exact hy0
    split
    rename_i x5 x6 x7 e8
    have kx5 : Leads fp z x5 := by
      refine keeps_eq1 e8 ?_
      refine keeps_takePartial hcap ?_
      exact kx2
    refine keeps_mk ?_
    exact kx5
  · refine keeps_mk ?_
    exact h0

theorem keeps_poisonRows {fp : Nat} (hcap : Has fp 0x400000) {z : State} {a0 : State} {a1 : Job}
    (h0 : Leads fp z a0) :
    Leads fp z (State.poisonRows a0 a1) := by
  unfold State.poisonRows
  refine keeps_markRows hcap ?_
  exact h0

/-! ### AssayOps -/

theorem keeps_rowStatus {fp : Nat} (hcap : Has fp 0x400000) {z : State} {a0 : State} {a1 : Job} {a2 : Nat}
    (h0 : Leads fp z a0) :
    Leads fp z (State.rowStatus a0 a1 a2) := by
  unfold State.rowStatus
  refine keeps_markRows hcap ?_
  exact h0

theorem keeps_readWork {fp : Nat} (hcap : Has fp 0x270040084E) {z : State} {a0 : Job} {a1 : State}
    (h1 : Leads fp z a1) :
    Leads fp z (readWork a0 a1).state := by
  unfold readWork
  extract_lets -merge -useContext -underBinder v0 v1 v2 v3 v4 v5 v6 v7 v8 v9 v10 v11 v12
  have kv8 : Leads fp z v8 := by
    dsimp -zeta only [v8]
    refine keeps_writeHoards (hcap.sub rfl) ?_
    exact h1
  first | clear_value v8 | skip
  have kv10 : Leads fp z v10 := by
    dsimp -zeta only [v10]
    refine keeps_writeNat (hcap.sub rfl) ?_
    exact kv8
  first | clear_value v10 | skip
  have kv11 : Leads fp z v11 := by
    dsimp -zeta only [v11]
    refine keeps_rowStatus (hcap.sub rfl) ?_
    exact kv10
  first | clear_value v11 | skip
  have kv12 : Leads fp z v12 := by
    dsimp -zeta only [v12]
    refine keeps_ite ?_ ?_
    · refine keeps_poisonRows (hcap.sub rfl) ?_
      exact kv11
    · exact kv11
  first | clear_value v12 | skip
  refine keeps_iteD ?_ ?_
  · refine keeps_failed ?_
    exact h1
  · refine keeps_done ?_
    refine keeps_setResultSet (hcap.sub rfl) ?_
    exact kv12

theorem keeps_importWork {fp : Nat} (hcap : Has fp 0x270040084E) {z : State} {a0 : Job} {a1 : State}
    (h1 : Leads fp z a1) :
    Leads fp z (importWork a0 a1).state := by
  unfold importWork
  extract_lets -merge -useContext -underBinder v0 v1 v2 v3 v4 v5 v6
  refine keeps_iteD ?_ ?_
  · refine keeps_failed ?_
    exact h1
  · split
    rename_i x7 x8 x9 e11
    have kx7 : Leads fp z x7 := by
      refine keeps_eq1 e11 ?_
      refine keeps_takePartials (hcap.sub rfl) ?_
      exact h1
    extract_lets -merge -useContext -underBinder v10
    refine keeps_done ?_
    refine keeps_setResultSet (hcap.sub rfl) ?_
    exact kx7

theorem keeps_endoPoison {fp : Nat} (hcap : Has fp 0x270040004E) {z : State} {a0 : State} {a1 : EngUnit}
    {a2 : Nat} (h0 : Leads fp z a0) :
    Leads fp z (State.endoPoison a0 a1 a2) := by
  unfold State.endoPoison
  refine keeps_fault hcap ?_
  exact h0

theorem keeps_endaWork {fp : Nat} (hcap : Has fp 0x270040004E) {z : State} {a0 : Job} {a1 : State}
    (h1 : Leads fp z a1) :
    Leads fp z (endaWork a0 a1).state := by
  unfold endaWork
  extract_lets -merge -useContext -underBinder v0 v1 v2
  refine keeps_iteD ?_ ?_
  · refine keeps_failed ?_
    exact h1
  · split
    · refine keeps_done ?_
      exact h1
    · extract_lets -merge -useContext -underBinder v3 v4
      split
      · extract_lets -merge -useContext -underBinder v5 v6 v7 v8 v9 v10 v11 v12 v13 v14
        have kv5 : Leads fp z v5 := by
          dsimp -zeta only [v5]
          refine keeps_addRec (hcap.sub rfl) ?_
          exact h1
        first | clear_value v5 | skip
        have kv13 : Leads fp z v13 := by
          dsimp -zeta only [v13]
          refine keeps_ite ?_ ?_
          · refine keeps_endoPoison hcap ?_
            exact kv5
          · exact kv5
        first | clear_value v13 | skip
        have kv14 : Leads fp z v14 := by
          dsimp -zeta only [v14]
          refine keeps_foldl ?_ ?_
          · intro y15 hy15 y16
            refine keeps_putFloats (hcap.sub rfl) ?_
            exact hy15
          · exact kv13
        first | clear_value v14 | skip
        refine keeps_done ?_
        refine keeps_bump (hcap.sub rfl) ?_
        exact kv14

theorem keeps_endbWork {fp : Nat} (hcap : Has fp 0x270040084E) {z : State} {a0 : Job} {a1 : State}
    (h1 : Leads fp z a1) :
    Leads fp z (endbWork a0 a1).state := by
  unfold endbWork
  extract_lets -merge -useContext -underBinder v0 v1 v2 v3 v4 v5 v6
  have kv6 : Leads fp z v6 := by
    dsimp -zeta only [v6]
    refine keeps_setResultSet (hcap.sub rfl) ?_
    exact h1
  first | clear_value v6 | skip
  split
  · refine keeps_done ?_
    exact kv6
  · extract_lets -merge -useContext -underBinder v7 v8 v9 v10 v11 v12 v13 v14 v15
    have kv14 : Leads fp z v14 := by
      dsimp -zeta only [v14]
      refine keeps_ite ?_ ?_
      · refine keeps_endoPoison (hcap.sub rfl) ?_
        exact kv6
      · exact kv6
    first | clear_value v14 | skip
    refine keeps_done ?_
    refine keeps_bump (hcap.sub rfl) ?_
    refine keeps_setResultSet (hcap.sub rfl) ?_
    exact kv14

theorem keeps_startSet {fp : Nat} (hcap : Has fp 0xC) {z : State} {a0 : State} {a1 : Nat} (h0 : Leads fp z a0) :
    Leads fp z (State.startSet a0 a1) := by
  unfold State.startSet
  refine keeps_ite ?_ ?_
  · exact h0
  · refine keeps_write hcap ?_
    exact h0

theorem keeps_setLoaded {fp : Nat} (hcap : Has fp 0x270040004E) {z : State} {a0 : State} {a1 : Nat}
    (h0 : Leads fp z a0) :
    Leads fp z (State.setLoaded a0 a1) := by
  unfold State.setLoaded
  split
  · exact h0
  · extract_lets -merge -useContext -underBinder v0 v1 v2 v3 v4 v5
    have kv5 : Leads fp z v5 := by
      dsimp -zeta only [v5]
      refine keeps_fault hcap ?_
      exact h0
    first | clear_value v5 | skip
    refine keeps_ite ?_ ?_
    · exact h0
    · refine keeps_ite ?_ ?_
      · refine keeps_write (hcap.sub rfl) ?_
        refine keeps_auxWrite (hcap.sub rfl) ?_
        exact h0
      · refine keeps_write (hcap.sub rfl) ?_
        refine keeps_auxWrite (hcap.sub rfl) ?_
        exact kv5

theorem keeps_putPair {fp : Nat} (hcap : Has fp 0x2000000E) {z : State} {a0 : State} {a1 : Nat} {a2 : Word64}
    (h0 : Leads fp z a0) :
    Leads fp z (State.putPair a0 a1 a2) := by
  unfold State.putPair
  extract_lets -merge -useContext -underBinder v0 v1 v2 v3
  split
  · extract_lets -merge -useContext -underBinder v4 v5
    have kv4 : Leads fp z v4 := by
      dsimp -zeta only [v4]
      refine keeps_writeNat (hcap.sub rfl) ?_
      exact h0
    first | clear_value v4 | skip
    refine keeps_ite ?_ ?_
    · exact keeps_put_cal (hcap.sub rfl) kv4
    · refine keeps_bump (hcap.sub rfl) ?_
      exact h0
  · refine keeps_bump (hcap.sub rfl) ?_
    exact h0

theorem keeps_spotFail {fp : Nat} (hcap : Has fp 0x270040014E) {z : State} {a0 : State} {a1 : Nat} {a2 : Conv}
    {a3 : Int} {a4 : Int} (h0 : Leads fp z a0) :
    Leads fp z (State.spotFail a0 a1 a2 a3 a4) := by
  unfold State.spotFail
  extract_lets -merge -useContext -underBinder v0 v1 v2 v3 v4
  have kv3 : Leads fp z v3 := by
    dsimp -zeta only [v3]
    refine keeps_setReg (hcap.sub rfl) ?_
    exact h0
  first | clear_value v3 | skip
  have kv4 : Leads fp z v4 := by
    dsimp -zeta only [v4]
    refine keeps_fault (hcap.sub rfl) ?_
    exact kv3
  first | clear_value v4 | skip
  refine keeps_bump (hcap.sub rfl) ?_
  refine keeps_startBurst (hcap.sub rfl) ?_
  exact kv4

theorem keeps_spotColumn {fp : Nat} (hcap : Has fp 0x272040014E) {z : State} {a0 : State} {a1 : Nat}
    {a2 : Slice} {a3 : Nat} (h0 : Leads fp z a0) :
    Leads fp z (State.spotColumn a0 a1 a2 a3).1 := by
  unfold State.spotColumn
  extract_lets -merge -useContext -underBinder v0 v1 v2
  refine keeps_ite1 ?_ ?_
  · refine keeps_mk ?_
    exact h0
  · split
    · refine keeps_mk ?_
      refine keeps_spotFail (hcap.sub rfl) ?_
      exact h0
    · refine keeps_mk ?_
      refine keeps_foldl ?_ ?_
      · intro y3 hy3 y4
        refine keeps_putPair (hcap.sub rfl) ?_
        exact hy3
      · exact h0

theorem keeps_spotAssay {fp : Nat} (hcap : Has fp 0x272040014E) {z : State} {a0 : State} {a1 : Nat}
    (h0 : Leads fp z a0) :
    Leads fp z (State.spotAssay a0 a1) := by
  unfold State.spotAssay
  split
  · exact h0
  · extract_lets -merge -useContext -underBinder v0
    have kv0 : Leads fp z v0 := by
      dsimp -zeta only [v0]
      refine keeps_bump (hcap.sub rfl) ?_
      exact h0
    first | clear_value v0 | skip
    refine keeps_ite ?_ ?_
    · exact h0
    · split
      rename_i x5 x6 e8
      have kx5 : Leads fp z x5 := by
        refine keeps_eq1 e8 ?_
        refine keeps_foldl1 ?_ ?_
        · intro y1 hy1 y2
          split
          rename_i x3 x4
          have kx3 : Leads fp z x3 := by
            exact hy1
          refine keeps_spotColumn hcap ?_
          exact kx3
        · refine keeps_mk ?_
          exact kv0
      extract_lets -merge -useContext -underBinder v7
      refine keeps_setTile (hcap.sub rfl) ?_
      exact kx5

theorem keeps_burstEnd {fp : Nat} (hcap : Has fp 0x100) {z : State} {a0 : State} {a1 : Nat} (h0 : Leads fp z a0) :
    Leads fp z (State.burstEnd a0 a1) := by
  unfold State.burstEnd
  extract_lets -merge -useContext -underBinder v0
  refine keeps_ite ?_ ?_
  · refine keeps_setTile hcap ?_
    exact h0
  · exact h0

theorem leads_execAssayRead {fp : Nat} (hcap : Has fp 0x270047084E) {z t : State} {a0 : EngUnit} {a1 : Bool}
    {a2 : State} (h2 : Leads fp z a2) (e : (execAssayRead a0 a1 a2) = .next t) :
    Leads fp z t := by
  unfold execAssayRead at e
  injection e with e
  subst e
  refine keeps_issue (hcap.sub rfl) ?_ ?_
  · exact h2
  · intro y0 y1 hy1
    refine keeps_readWork (hcap.sub rfl) ?_
    exact hy1

theorem leads_execAssayEnda {fp : Nat} (hcap : Has fp 0x270047004E) {z t : State} {a0 : EngUnit} {a1 : Bool}
    {a2 : State} (h2 : Leads fp z a2) (e : (execAssayEnda a0 a1 a2) = .next t) :
    Leads fp z t := by
  unfold execAssayEnda at e
  injection e with e
  subst e
  refine keeps_issue hcap ?_ ?_
  · exact h2
  · intro y0 y1 hy1
    refine keeps_endaWork (hcap.sub rfl) ?_
    exact hy1

theorem leads_execAssayEndb {fp : Nat} (hcap : Has fp 0x270047084E) {z t : State} {a0 : EngUnit} {a1 : Bool}
    {a2 : State} (h2 : Leads fp z a2) (e : (execAssayEndb a0 a1 a2) = .next t) :
    Leads fp z t := by
  unfold execAssayEndb at e
  injection e with e
  subst e
  refine keeps_issue (hcap.sub rfl) ?_ ?_
  · exact h2
  · intro y0 y1 hy1
    refine keeps_endbWork (hcap.sub rfl) ?_
    exact hy1

theorem leads_execAssayImport {fp : Nat} (hcap : Has fp 0x270047084E) {z t : State} {a0 : EngUnit} {a1 : Bool}
    {a2 : State} (h2 : Leads fp z a2) (e : (execAssayImport a0 a1 a2) = .next t) :
    Leads fp z t := by
  unfold execAssayImport at e
  injection e with e
  subst e
  refine keeps_issue (hcap.sub rfl) ?_ ?_
  · exact h2
  · intro y0 y1 hy1
    refine keeps_importWork (hcap.sub rfl) ?_
    exact hy1

theorem leads_execAssaySetLoaded {fp : Nat} (hcap : Has fp 0x270040004E) {z t : State} {a0 : TileId}
    {a1 : State} (h1 : Leads fp z a1) (e : (execAssaySetLoaded a0 a1) = .next t) :
    Leads fp z t := by
  unfold execAssaySetLoaded at e
  injection e with e
  subst e
  refine keeps_setLoaded hcap ?_
  exact h1

theorem leads_execSpotAssay {fp : Nat} (hcap : Has fp 0x272040014E) {z t : State} {a0 : TileId} {a1 : State}
    (h1 : Leads fp z a1) (e : (execSpotAssay a0 a1) = .next t) :
    Leads fp z t := by
  unfold execSpotAssay at e
  injection e with e
  subst e
  refine keeps_spotAssay hcap ?_
  exact h1

theorem leads_execSpotBurstEnd {fp : Nat} (hcap : Has fp 0x100) {z t : State} {a0 : TileId} {a1 : State}
    (h1 : Leads fp z a1) (e : (execSpotBurstEnd a0 a1) = .next t) :
    Leads fp z t := by
  unfold execSpotBurstEnd at e
  injection e with e
  subst e
  refine keeps_burstEnd hcap ?_
  exact h1

/-! ### Calibrate -/

theorem keeps_markDrifted {fp : Nat} (hcap : Has fp 0x400100) {z : State} {a0 : State} {a1 : Nat} {a2 : Nat}
    (h0 : Leads fp z a0) :
    Leads fp z (State.markDrifted a0 a1 a2) := by
  unfold State.markDrifted
  extract_lets -merge -useContext -underBinder v0
  refine keeps_eventAll (hcap.sub rfl) ?_
  refine keeps_setTile (hcap.sub rfl) ?_
  exact h0

theorem keeps_setRejects {fp : Nat} (hcap : Has fp 0xC) {z : State} {a0 : State} {a1 : Nat} {a2 : Nat}
    {a3 : Nat} (h0 : Leads fp z a0) :
    Leads fp z (State.setRejects a0 a1 a2 a3) := by
  unfold State.setRejects
  extract_lets -merge -useContext -underBinder v0 v1
  refine keeps_ite ?_ ?_
  · refine keeps_write hcap ?_
    exact h0
  · exact h0

theorem keeps_calSuspect {fp : Nat} (hcap : Has fp 0x27004000CE) {z : State} {a0 : State} {a1 : Nat} {a2 : Nat}
    {a3 : Fit} (h0 : Leads fp z a0) :
    Leads fp z (State.calSuspect a0 a1 a2 a3) := by
  unfold State.calSuspect
  extract_lets -merge -useContext -underBinder v0 v1 v2
  have kv0 : Leads fp z v0 := by
    dsimp -zeta only [v0]
    refine keeps_setDir (hcap.sub rfl) ?_
    exact h0
  first | clear_value v0 | skip
  have kv1 : Leads fp z v1 := by
    dsimp -zeta only [v1]
    refine keeps_setFlag (hcap.sub rfl) ?_
    exact kv0
  first | clear_value v1 | skip
  have kv2 : Leads fp z v2 := by
    dsimp -zeta only [v2]
    refine keeps_fault (hcap.sub rfl) ?_
    exact kv1
  first | clear_value v2 | skip
  refine keeps_eventAll (hcap.sub rfl) ?_
  exact kv2

theorem keeps_rejectFit {fp : Nat} (hcap : Has fp 0x27004001CE) {z : State} {a0 : State} {a1 : Nat} {a2 : Bool}
    {a3 : Nat} {a4 : Fit} (h0 : Leads fp z a0) :
    Leads fp z (State.rejectFit a0 a1 a2 a3 a4) := by
  unfold State.rejectFit
  extract_lets -merge -useContext -underBinder v0 v1 v2 v3
  have kv0 : Leads fp z v0 := by
    dsimp -zeta only [v0]
    refine keeps_bump (hcap.sub rfl) ?_
    exact h0
  first | clear_value v0 | skip
  have kv1 : Leads fp z v1 := by
    dsimp -zeta only [v1]
    refine keeps_ite ?_ ?_
    · refine keeps_markDrifted (hcap.sub rfl) ?_
      exact kv0
    · exact kv0
  first | clear_value v1 | skip
  have kv3 : Leads fp z v3 := by
    dsimp -zeta only [v3]
    refine keeps_setRejects (hcap.sub rfl) ?_
    exact kv1
  first | clear_value v3 | skip
  refine keeps_ite ?_ ?_
  · exact kv1
  · refine keeps_ite ?_ ?_
    · refine keeps_calSuspect (hcap.sub rfl) ?_
      exact kv3
    · exact kv3

theorem keeps_acceptFit {fp : Nat} (hcap : Has fp 0x40010E) {z : State} {a0 : State} {a1 : Nat} {a2 : Bool}
    {a3 : Nat} {a4 : Fit} (h0 : Leads fp z a0) :
    Leads fp z (State.acceptFit a0 a1 a2 a3 a4) := by
  unfold State.acceptFit
  extract_lets -merge -useContext -underBinder v0 v1 v2 v3
  have kv0 : Leads fp z v0 := by
    dsimp -zeta only [v0]
    refine keeps_bump (hcap.sub rfl) ?_
    exact h0
  first | clear_value v0 | skip
  have kv1 : Leads fp z v1 := by
    dsimp -zeta only [v1]
    refine keeps_auxWrite (hcap.sub rfl) ?_
    exact kv0
  first | clear_value v1 | skip
  have kv2 : Leads fp z v2 := by
    dsimp -zeta only [v2]
    refine keeps_auxWrite (hcap.sub rfl) ?_
    exact kv1
  first | clear_value v2 | skip
  have kv3 : Leads fp z v3 := by
    dsimp -zeta only [v3]
    refine keeps_ite ?_ ?_
    · exact kv2
    · refine keeps_setRejects (hcap.sub rfl) ?_
      exact kv2
  first | clear_value v3 | skip
  refine keeps_ite ?_ ?_
  · refine keeps_markDrifted (hcap.sub rfl) ?_
    exact kv3
  · exact kv3

theorem keeps_fitLine {fp : Nat} (hcap : Has fp 0x27004001CE) {z : State} {a0 : State} {a1 : Nat} {a2 : Bool}
    {a3 : Nat} {a4 : List (Int × Int)} (h0 : Leads fp z a0) :
    Leads fp z (State.fitLine a0 a1 a2 a3 a4).1 := by
  unfold State.fitLine
  extract_lets -merge -useContext -underBinder v0 v1 v2
  refine keeps_ite1 ?_ ?_
  · refine keeps_mk ?_
    refine keeps_bump (hcap.sub rfl) ?_
    exact h0
  · refine keeps_ite1 ?_ ?_
    · refine keeps_mk ?_
      refine keeps_acceptFit (hcap.sub rfl) ?_
      exact h0
    · refine keeps_mk ?_
      refine keeps_rejectFit hcap ?_
      exact h0

theorem keeps_fitTile {fp : Nat} (hcap : Has fp 0x27204001CE) {z : State} {a0 : State} {a1 : Nat} {a2 : Nat}
    {a3 : Nat} (h0 : Leads fp z a0) :
    Leads fp z (State.fitTile a0 a1 a2 a3) := by
  unfold State.fitTile
  split
  · exact h0
  · extract_lets -merge -useContext -underBinder v0 v1
    refine keeps_foldl ?_ ?_
    · intro y2 hy2 y3
      extract_lets -merge -useContext -underBinder v4
      refine keeps_ite ?_ ?_
      · exact hy2
      · split
        rename_i x5 x6 x7 e8
        have kx5 : Leads fp z x5 := by
          refine keeps_eq1 e8 ?_
          refine keeps_fitLine (hcap.sub rfl) ?_
          exact hy2
        exact keeps_put_cal (hcap.sub rfl) kx5
    · exact h0

theorem keeps_moveRows {fp : Nat} (hcap : Has fp 0xC) {z : State} {a0 : State} {a1 : Nat} (h0 : Leads fp z a0) :
    Leads fp z (State.moveRows a0 a1) := by
  unfold State.moveRows
  split
  · extract_lets -merge -useContext -underBinder v0
    refine keeps_ite ?_ ?_
    · exact h0
    · refine keeps_auxWrite hcap ?_
      exact h0

theorem keeps_endRun {fp : Nat} (hcap : Has fp 0x2000000E) {z : State} {a0 : State} {a1 : Nat} (h0 : Leads fp z a0) :
    Leads fp z (State.endRun a0 a1) := by
  unfold State.endRun
  extract_lets -merge -useContext -underBinder v0 v1
  split
  · extract_lets -merge -useContext -underBinder v2 v3 v4 v5 v6 v7 v8 v9 v10
    have kv2 : Leads fp z v2 := by
      dsimp -zeta only [v2]
      refine keeps_foldl ?_ ?_
      · intro y11 hy11 y12
        refine keeps_moveRows (hcap.sub rfl) ?_
        exact hy11
      · exact h0
    first | clear_value v2 | skip
    have kv5 : Leads fp z v5 := by
      dsimp -zeta only [v5]
      refine keeps_write (hcap.sub rfl) ?_
      exact kv2
    first | clear_value v5 | skip
    have kv6 : Leads fp z v6 := by
      dsimp -zeta only [v6]
      refine keeps_writeNat (hcap.sub rfl) ?_
      refine keeps_write (hcap.sub rfl) ?_
      exact kv5
    first | clear_value v6 | skip
    have kv7 : Leads fp z v7 := by
      dsimp -zeta only [v7]
      refine keeps_setReg (hcap.sub rfl) ?_
      exact kv6
    first | clear_value v7 | skip
    have kv8 : Leads fp z v8 := by
      dsimp -zeta only [v8]
      refine keeps_setFlag (hcap.sub rfl) ?_
      refine keeps_setFld (hcap.sub rfl) ?_
      exact kv7
    first | clear_value v8 | skip
    have kv9 : Leads fp z v9 := by
      dsimp -zeta only [v9]
      refine keeps_bump (hcap.sub rfl) ?_
      exact kv8
    first | clear_value v9 | skip
    exact keeps_put_cal (hcap.sub rfl) kv9

theorem keeps_beginRun {fp : Nat} (hcap : Has fp 0x2000000E) {z : State} {a0 : State} {a1 : Nat}
    (h0 : Leads fp z a0) :
    Leads fp z (State.beginRun a0 a1) := by
  unfold State.beginRun
  extract_lets -merge -useContext -underBinder v0 v1 v2 v3 v4 v5 v6
  have kv3 : Leads fp z v3 := by
    dsimp -zeta only [v3]
    refine keeps_setFld (hcap.sub rfl) ?_
    refine keeps_setFld (hcap.sub rfl) ?_
    exact h0
  first | clear_value v3 | skip
  have kv4 : Leads fp z v4 := by
    dsimp -zeta only [v4]
    refine keeps_writeNat (hcap.sub rfl) ?_
    refine keeps_writeNat (hcap.sub rfl) ?_
    exact kv3
  first | clear_value v4 | skip
  have kv5 : Leads fp z v5 := by
    dsimp -zeta only [v5]
    refine keeps_writeNat (hcap.sub rfl) ?_
    refine keeps_writeNat (hcap.sub rfl) ?_
    exact kv4
  first | clear_value v5 | skip
  exact keeps_put_cal (hcap.sub rfl) kv5

theorem keeps_runBoundary {fp : Nat} (hcap : Has fp 0x27204001CE) {z : State} {a0 : State} {a1 : Nat} {a2 : Nat}
    (h0 : Leads fp z a0) :
    Leads fp z (State.runBoundary a0 a1 a2) := by
  unfold State.runBoundary
  extract_lets -merge -useContext -underBinder v0 v1 v2 v3 v4 v5
  have kv2 : Leads fp z v2 := by
    dsimp -zeta only [v2]
    refine keeps_foldl ?_ ?_
    · intro y6 hy6 y7
      refine keeps_fitTile hcap ?_
      exact hy6
    · exact h0
  first | clear_value v2 | skip
  have kv4 : Leads fp z v4 := by
    dsimp -zeta only [v4]
    refine keeps_writeNat (hcap.sub rfl) ?_
    refine keeps_setFld (hcap.sub rfl) ?_
    exact kv2
  first | clear_value v4 | skip
  refine keeps_ite ?_ ?_
  · refine keeps_beginRun (hcap.sub rfl) ?_
    exact kv2
  · refine keeps_ite ?_ ?_
    · refine keeps_endRun (hcap.sub rfl) ?_
      exact kv2
    · exact keeps_put_cal (hcap.sub rfl) kv4

theorem keeps_grantDue {fp : Nat} (hcap : Has fp 0x2000000E) {z : State} {a0 : State} (h0 : Leads fp z a0) :
    Leads fp z (State.grantDue a0) := by
  unfold State.grantDue
  refine keeps_foldl ?_ ?_
  · intro y0 hy0 y1
    refine keeps_grantRing hcap ?_
    exact hy0
  · exact h0

theorem keeps_phaseBoundary {fp : Nat} (hcap : Has fp 0x27204001CE) {z : State} {a0 : State} (h0 : Leads fp z a0) :
    Leads fp z (State.phaseBoundary a0) := by
  unfold State.phaseBoundary
  extract_lets -merge -useContext -underBinder v0 v1 v2 v3 v4 v5 v6 v7 v8 v9 v10
  have kv3 : Leads fp z v3 := by
    dsimp -zeta only [v3]
    exact keeps_put_cal (hcap.sub rfl) h0
  first | clear_value v3 | skip
  have kv5 : Leads fp z v5 := by
    dsimp -zeta only [v5]
    refine keeps_foldl ?_ ?_
    · intro y11 hy11 y12
      refine keeps_runBoundary hcap ?_
      exact hy11
    · exact kv3
  first | clear_value v5 | skip
  have kv6 : Leads fp z v6 := by
    dsimp -zeta only [v6]
    refine keeps_foldl ?_ ?_
    · intro y13 hy13 y14
      refine keeps_beginRun (hcap.sub rfl) ?_
      exact hy13
    · exact kv5
  first | clear_value v6 | skip
  have kv8 : Leads fp z v8 := by
    dsimp -zeta only [v8]
    exact keeps_put_cal (hcap.sub rfl) kv6
  first | clear_value v8 | skip
  have kv9 : Leads fp z v9 := by
    dsimp -zeta only [v9]
    refine keeps_grantDue (hcap.sub rfl) ?_
    exact kv8
  first | clear_value v9 | skip
  have kv10 : Leads fp z v10 := by
    dsimp -zeta only [v10]
    refine keeps_ite ?_ ?_
    · refine keeps_foldl ?_ ?_
      · intro y15 hy15 y16
        refine keeps_calTrigger (hcap.sub rfl) ?_
        exact hy15
      · exact kv9
    · exact kv9
  first | clear_value v10 | skip
  refine keeps_ite ?_ ?_
  · exact h0
  · refine keeps_foldl ?_ ?_
    · intro y17 hy17 y18
      refine keeps_startSet (hcap.sub rfl) ?_
      exact hy17
    · exact kv10

theorem keeps_benchSlots {fp : Nat} (hcap : Has fp 0x670040004E) {z : State} {t : Nat} : ∀ {n : Nat} {s : State}
    {x : Slice}, Leads fp z s → Leads fp z (State.benchSlots t n s x).1
  | 0, _, _, h => h
  | n + 1, s, x, h => by
    unfold State.benchSlots
    split
    · exact h
    · rename_i sl rest _
      refine keeps_benchSlots hcap (n := n) ?_
      refine keeps_foldl1 (fun p hp y => ?_) (keeps_bump (hcap.sub rfl) h)
      exact keeps_convertPart hcap hp

theorem keeps_benchVector {fp : Nat} (hcap : Has fp 0x670040004E) {z : State} {a0 : State} {a1 : Nat}
    {a2 : Bank} {a3 : Bool} {a4 : Nat} (h0 : Leads fp z a0) :
    Leads fp z (State.benchVector a0 a1 a2 a3 a4).1 := by
  unfold State.benchVector
  extract_lets -merge -useContext -underBinder v0 v1 v2 v3 v4 v5 v6
  have kv5 : Leads fp z v5 := by
    dsimp -zeta only [v5]
    refine keeps_bump (hcap.sub rfl) ?_
    exact h0
  first | clear_value v5 | skip
  have kv6 : Leads fp z v6 := by
    dsimp -zeta only [v6]
    refine keeps_bump (hcap.sub rfl) ?_
    exact kv5
  first | clear_value v6 | skip
  split
  rename_i x17 x18 e19
  have kx17 : Leads fp z x17 := by
    refine keeps_eq1 e19 ?_
    refine keeps_foldl1 ?_ ?_
    · intro y7 hy7 y8
      split
      rename_i x9 x10
      have kx9 : Leads fp z x9 := by
        exact hy7
      split
      rename_i x11 x12 e16
      have kx11 : Leads fp z x11 := by
        refine keeps_eq1 e16 ?_
        refine keeps_convertPart hcap ?_
        exact kx9
      split
      rename_i x13 x14 e15
      have kx13 : Leads fp z x13 := by
        refine keeps_eq1 e15 ?_
        refine keeps_benchSlots hcap ?_
        exact kx11
      refine keeps_mk ?_
      exact kx13
    · refine keeps_mk ?_
      exact kv6
  refine keeps_mk ?_
  exact kx17

theorem keeps_benchVectors {fp : Nat} (hcap : Has fp 0x670040004E) {z : State} {t : Nat} {k : Bank} {back : Bool} :
    ∀ {n v : Nat} {s : State} {acc : List Conv}, Leads fp z s → Leads fp z (State.benchVectors t k back n v s acc).1
  | 0, _, _, _, h => h
  | n + 1, v, s, acc, h => by
    unfold State.benchVectors
    exact keeps_benchVectors hcap (n := n) (keeps_benchVector hcap h)

theorem keeps_benchStart {fp : Nat} (hcap : Has fp 0x100) {z : State} {a0 : State} {a1 : Nat} {a2 : Bank}
    (h0 : Leads fp z a0) :
    Leads fp z (State.benchStart a0 a1 a2) := by
  unfold State.benchStart
  extract_lets -merge -useContext -underBinder v0
  refine keeps_ite ?_ ?_
  · refine keeps_setTile hcap ?_
    exact h0
  · exact h0

theorem keeps_benchLeave {fp : Nat} (hcap : Has fp 0x102) {z : State} {a0 : State} {a1 : Nat} {a2 : Bank}
    (h0 : Leads fp z a0) :
    Leads fp z (State.benchLeave a0 a1 a2) := by
  unfold State.benchLeave
  extract_lets -merge -useContext -underBinder v0 v1 v2
  have kv2 : Leads fp z v2 := by
    dsimp -zeta only [v2]
    refine keeps_setTile (hcap.sub rfl) ?_
    exact h0
  first | clear_value v2 | skip
  refine keeps_ite ?_ ?_
  · refine keeps_bump (hcap.sub rfl) ?_
    exact kv2
  · exact kv2

theorem keeps_benchFit {fp : Nat} (hcap : Has fp 0x67004001CE) {z : State} {a0 : State} {a1 : Nat} {a2 : Bank}
    {a3 : Nat} (h0 : Leads fp z a0) :
    Leads fp z (State.benchFit a0 a1 a2 a3) := by
  unfold State.benchFit
  extract_lets -merge -useContext -underBinder v0 v1
  split
  rename_i x2 x3 e12
  have kx2 : Leads fp z x2 := by
    refine keeps_eq1 e12 ?_
    refine keeps_benchVectors (hcap.sub rfl) ?_
    exact h0
  split
  rename_i x4 x5 e11
  have kx4 : Leads fp z x4 := by
    refine keeps_eq1 e11 ?_
    refine keeps_benchVectors (hcap.sub rfl) ?_
    exact kx2
  extract_lets -merge -useContext -underBinder v6
  have kv6 : Leads fp z v6 := by
    dsimp -zeta only [v6]
    refine keeps_foldl ?_ ?_
    · intro y7 hy7 y8
      refine keeps_fitLine (hcap.sub rfl) ?_
      exact hy7
    · exact kx4
  first | clear_value v6 | skip
  refine keeps_foldl ?_ ?_
  · intro y9 hy9 y10
    refine keeps_fitLine (hcap.sub rfl) ?_
    exact hy9
  · exact kv6

theorem keeps_benchEnd {fp : Nat} (hcap : Has fp 0x67004001CE) {z : State} {a0 : State} {a1 : Nat}
    (h0 : Leads fp z a0) :
    Leads fp z (State.benchEnd a0 a1) := by
  unfold State.benchEnd
  split
  · exact h0
  · refine keeps_benchFit hcap ?_
    refine keeps_benchLeave (hcap.sub rfl) ?_
    exact h0

theorem leads_execPhaseBoundary {fp : Nat} (hcap : Has fp 0x27204001CE) {z t : State} {a0 : State}
    (h0 : Leads fp z a0) (e : (execPhaseBoundary a0) = .next t) :
    Leads fp z t := by
  unfold execPhaseBoundary at e
  injection e with e
  subst e
  refine keeps_phaseBoundary hcap ?_
  exact h0

theorem leads_execBenchCalibration {fp : Nat} (hcap : Has fp 0x100) {z t : State} {a0 : TileId} {a1 : Bank}
    {a2 : State} (h2 : Leads fp z a2) (e : (execBenchCalibration a0 a1 a2) = .next t) :
    Leads fp z t := by
  unfold execBenchCalibration at e
  injection e with e
  subst e
  refine keeps_benchStart hcap ?_
  exact h2

theorem leads_execBenchCalibrationDone {fp : Nat} (hcap : Has fp 0x67004001CE) {z t : State} {a0 : TileId}
    {a1 : State} (h1 : Leads fp z a1) (e : (execBenchCalibrationDone a0 a1) = .next t) :
    Leads fp z t := by
  unfold execBenchCalibrationDone at e
  injection e with e
  subst e
  refine keeps_benchEnd hcap ?_
  exact h1

/-! ### Program -/

theorem keeps_setSurplus {fp : Nat} (hcap : Has fp 0xC) {z : State} {a0 : State} {a1 : Nat} {a2 : List Nat}
    (h0 : Leads fp z a0) :
    Leads fp z (State.setSurplus a0 a1 a2) := by
  unfold State.setSurplus
  refine keeps_auxWrite hcap ?_
  refine keeps_auxWrite hcap ?_
  exact h0

theorem keeps_programRecord {fp : Nat} (hcap : Has fp 0x270040004E) {z : State} {a0 : State} {a1 : Nat}
    {a2 : Nat} {a3 : Nat} {a4 : Nat} (h0 : Leads fp z a0) :
    Leads fp z (State.programRecord a0 a1 a2 a3 a4) := by
  unfold State.programRecord
  refine keeps_fault hcap ?_
  exact h0

theorem keeps_failLoad {fp : Nat} (hcap : Has fp 0x4000000) {z : State} {a0 : State} {a1 : Nat} (h0 : Leads fp z a0) :
    Leads fp z (State.failLoad a0 a1) := by
  unfold State.failLoad
  split
  · extract_lets -merge -useContext -underBinder v0
    refine keeps_ite ?_ ?_
    · exact h0
    · exact keeps_put_epochs hcap h0
  · exact h0

theorem keeps_programStart {fp : Nat} (hcap : Has fp 0x27004002CE) {z : State} {d u : Nat} : ∀ {n : Nat}
    {s : State}, Leads fp z s → Leads fp z (programStart d u n s)
  | 0, _, h => h
  | n + 1, s, h => by
    unfold programStart
    extract_lets -merge -useContext -underBinder g
    split
    · exact h
    · extract_lets -merge -useContext -underBinder t st s1 s2
      have h2 : Leads fp z s2 := keeps_setDir (hcap.sub rfl) (keeps_setGroup (hcap.sub rfl) h)
      refine keeps_ite (keeps_programStart hcap (keeps_programRecord (hcap.sub rfl) (keeps_setGroup (hcap.sub rfl) h))) ?_
      refine keeps_ite ?_ h2
      extract_lets -merge -useContext -underBinder ws keep
      exact keeps_ite h2 (keeps_setSurplus (hcap.sub rfl) h2)

theorem keeps_programAdd {fp : Nat} (hcap : Has fp 0x27004002CE) {z : State} {a0 : State} {a1 : Nat} {a2 : Nat}
    {a3 : ProgCmd} (h0 : Leads fp z a0) :
    Leads fp z (State.programAdd a0 a1 a2 a3) := by
  unfold State.programAdd
  extract_lets -merge -useContext -underBinder v0 v1 v2
  have kv2 : Leads fp z v2 := by
    dsimp -zeta only [v2]
    refine keeps_setGroup (hcap.sub rfl) ?_
    exact h0
  first | clear_value v2 | skip
  refine keeps_ite ?_ ?_
  · exact h0
  · refine keeps_ite ?_ ?_
    · refine keeps_programRecord (hcap.sub rfl) ?_
      exact h0
    · refine keeps_ite ?_ ?_
      · exact h0
      · refine keeps_ite ?_ ?_
        · refine keeps_programStart hcap ?_
          exact kv2
        · exact kv2

theorem keeps_programNext {fp : Nat} (hcap : Has fp 0x27004402CE) {z : State} {a0 : State} {a1 : Nat} {a2 : Nat}
    {a3 : ProgCmd} (h0 : Leads fp z a0) :
    Leads fp z (State.programNext a0 a1 a2 a3) := by
  unfold State.programNext
  extract_lets -merge -useContext -underBinder v0 v1 v2
  have kv1 : Leads fp z v1 := by
    dsimp -zeta only [v1]
    refine keeps_setGroup (hcap.sub rfl) ?_
    exact h0
  first | clear_value v1 | skip
  have kv2 : Leads fp z v2 := by
    dsimp -zeta only [v2]
    split
    · refine keeps_tallyAdd (hcap.sub rfl) ?_
      exact kv1
    · exact kv1
  first | clear_value v2 | skip
  refine keeps_programStart (hcap.sub rfl) ?_
  exact kv2

theorem keeps_programFail {fp : Nat} (hcap : Has fp 0x27044402CE) {z : State} {a0 : State} {a1 : Nat} {a2 : Nat}
    {a3 : ProgCmd} {a4 : Nat} (h0 : Leads fp z a0) :
    Leads fp z (State.programFail a0 a1 a2 a3 a4) := by
  unfold State.programFail
  extract_lets -merge -useContext -underBinder v0 v1 v2 v3
  have kv1 : Leads fp z v1 := by
    dsimp -zeta only [v1]
    refine keeps_setDir (hcap.sub rfl) ?_
    exact h0
  first | clear_value v1 | skip
  have kv2 : Leads fp z v2 := by
    dsimp -zeta only [v2]
    refine keeps_programRecord (hcap.sub rfl) ?_
    exact kv1
  first | clear_value v2 | skip
  have kv3 : Leads fp z v3 := by
    dsimp -zeta only [v3]
    refine keeps_ite ?_ ?_
    · refine keeps_failLoad (hcap.sub rfl) ?_
      exact kv2
    · exact kv2
  first | clear_value v3 | skip
  refine keeps_programNext (hcap.sub rfl) ?_
  exact kv3

theorem keeps_keepCrc0 {fp : Nat} (hcap : Has fp 0x40) {z : State} {a0 : State} {a1 : Nat} {a2 : Bank}
    (h0 : Leads fp z a0) :
    Leads fp z (State.keepCrc0 a0 a1 a2) := by
  unfold State.keepCrc0
  extract_lets -merge -useContext -underBinder v0
  first | exact keeps_put_mram hcap h0 rfl | exact keeps_fuse hcap h0 | exact keeps_seed hcap h0 | exact keeps_life hcap h0

theorem keeps_programDone {fp : Nat} (hcap : Has fp 0x27004402CE) {z : State} {a0 : State} {a1 : Nat} {a2 : Nat}
    {a3 : ProgCmd} (h0 : Leads fp z a0) :
    Leads fp z (State.programDone a0 a1 a2 a3) := by
  unfold State.programDone
  extract_lets -merge -useContext -underBinder v0 v1
  have kv1 : Leads fp z v1 := by
    dsimp -zeta only [v1]
    refine keeps_setDir (hcap.sub rfl) ?_
    exact h0
  first | clear_value v1 | skip
  refine keeps_programNext hcap ?_
  refine keeps_keepCrc0 (hcap.sub rfl) ?_
  exact kv1

theorem keeps_programRow {fp : Nat} (hcap : Has fp 0x27044402CE) {z : State} {a0 : State} {a1 : Nat} {a2 : Nat}
    {a3 : Nat} {a4 : List (Fin 1024 × BitVec 4)} (h0 : Leads fp z a0) :
    Leads fp z (State.programRow a0 a1 a2 a3 a4) := by
  unfold State.programRow
  extract_lets -merge -useContext -underBinder v0
  split
  · exact h0
  · extract_lets -merge -useContext -underBinder v1 v2 v3 v4 v5 v6 v7 v8 v9 v10 v11 v12 v13 v14
    have kv7 : Leads fp z v7 := by
      dsimp -zeta only [v7]
      refine keeps_write (hcap.sub rfl) ?_
      exact h0
    first | clear_value v7 | skip
    have kv8 : Leads fp z v8 := by
      dsimp -zeta only [v8]
      refine keeps_foldl ?_ ?_
      · intro y15 hy15 y16
        refine keeps_setLevel (hcap.sub rfl) ?_
        exact hy15
      · exact kv7
    first | clear_value v8 | skip
    have kv9 : Leads fp z v9 := by
      dsimp -zeta only [v9]
      refine keeps_bump (hcap.sub rfl) ?_
      refine keeps_bump (hcap.sub rfl) ?_
      exact kv8
    first | clear_value v9 | skip
    have kv10 : Leads fp z v10 := by
      dsimp -zeta only [v10]
      refine keeps_bump (hcap.sub rfl) ?_
      exact kv9
    first | clear_value v10 | skip
    have kv11 : Leads fp z v11 := by
      dsimp -zeta only [v11]
      refine keeps_setGroup (hcap.sub rfl) ?_
      exact kv10
    first | clear_value v11 | skip
    have kv14 : Leads fp z v14 := by
      dsimp -zeta only [v14]
      refine keeps_ite ?_ ?_
      · exact kv11
      · refine keeps_setSurplus (hcap.sub rfl) ?_
        exact kv11
    first | clear_value v14 | skip
    refine keeps_ite ?_ ?_
    · exact h0
    · refine keeps_ite ?_ ?_
      · refine keeps_programFail hcap ?_
        exact h0
      · refine keeps_ite ?_ ?_
        · refine keeps_programFail hcap ?_
          refine keeps_ite ?_ ?_
          · exact kv11
          · refine keeps_setSurplus (hcap.sub rfl) ?_
            exact kv11
        · refine keeps_ite ?_ ?_
          · refine keeps_programDone (hcap.sub rfl) ?_
            exact kv14
          · exact kv14

theorem keeps_sweepBegin {fp : Nat} (hcap : Has fp 0x242) {z : State} {a0 : State} (h0 : Leads fp z a0) :
    Leads fp z (State.sweepBegin a0) := by
  unfold State.sweepBegin
  refine keeps_ite ?_ ?_
  · refine keeps_sweepStart hcap ?_
    exact h0
  · exact h0

theorem leads_execProgramCommand {fp : Nat} (hcap : Has fp 0x27004002CE) {z t : State} {a0 : Die} {a1 : Fin 512}
    {a2 : ProgCmd} {a3 : State} (h3 : Leads fp z a3) (e : (execProgramCommand a0 a1 a2 a3) = .next t) :
    Leads fp z t := by
  unfold execProgramCommand at e
  injection e with e
  subst e
  refine keeps_programAdd hcap ?_
  exact h3

theorem leads_execProgramRowDone {fp : Nat} (hcap : Has fp 0x27044402CE) {z t : State} {a0 : Die} {a1 : Fin 512}
    {a2 : Nat} {a3 : List (Fin 1024 × BitVec 4)} {a4 : State} (h4 : Leads fp z a4) (e :
    (execProgramRowDone a0 a1 a2 a3 a4) = .next t) :
    Leads fp z t := by
  unfold execProgramRowDone at e
  injection e with e
  subst e
  refine keeps_programRow hcap ?_
  exact h4

theorem leads_execMintSweepStart {fp : Nat} (hcap : Has fp 0x242) {z t : State} {a0 : State}
    (h0 : Leads fp z a0) (e : (execMintSweepStart a0) = .next t) :
    Leads fp z t := by
  unfold execMintSweepStart at e
  injection e with e
  subst e
  refine keeps_sweepBegin hcap ?_
  exact h0

end Sys2Proof.Machine
end

