-- ==== Sys2Proof/Laws/LeadsEngines.lean ====
section
/-! SUPPORT. Every operation of attention, vector and folio orders leads on from its state: one lemma each. -/

namespace Sys2Proof.Machine

/-! ### Attend -/

theorem keeps_countInvalid {fp : Nat} (hcap : Has fp 0xC) {z : State} {a0 : State} {a1 : Job} {a2 : List Nat}
    {a3 : List Operand} (h0 : Leads fp z a0) :
    Leads fp z (State.countInvalid a0 a1 a2 a3) := by
  unfold State.countInvalid
  extract_lets -merge -useContext -underBinder v0 v1 v2
  refine keeps_addRec hcap ?_
  exact h0

theorem keeps_countRun {fp : Nat} (hcap : Has fp 0x1000002) {z : State} {a0 : State} {a1 : Job} {a2 : Nat}
    {a3 : Nat} {a4 : Nat} {a5 : List Nat} (h0 : Leads fp z a0) :
    Leads fp z (State.countRun a0 a1 a2 a3 a4 a5) := by
  unfold State.countRun
  extract_lets -merge -useContext -underBinder v0 v1 v2
  have kv1 : Leads fp z v1 := by
    dsimp -zeta only [v1]
    refine keeps_bump (hcap.sub rfl) ?_
    refine keeps_bump (hcap.sub rfl) ?_
    refine keeps_bump (hcap.sub rfl) ?_
    exact h0
  first | clear_value v1 | skip
  have kv2 : Leads fp z v2 := by
    dsimp -zeta only [v2]
    refine keeps_setReg (hcap.sub rfl) ?_
    exact kv1
  first | clear_value v2 | skip
  refine keeps_foldl ?_ ?_
  · intro y3 hy3 y4
    extract_lets -merge -useContext -underBinder v5 v6
    refine keeps_setFolio (hcap.sub rfl) ?_
    exact hy3
  · exact kv2

theorem keeps_attendFwdWork {fp : Nat} (hcap : Has fp 0x100000E) {z : State} {a0 : Job} {a1 : State}
    (h1 : Leads fp z a1) :
    Leads fp z (attendFwdWork a0 a1).state := by
  unfold attendFwdWork
  split
  · extract_lets -merge -useContext -underBinder v0 v1 v2 v3 v4 v5 v6 v7 v8 v9 v10
    have kv10 : Leads fp z v10 := by
      dsimp -zeta only [v10]
      refine keeps_countInvalid (hcap.sub rfl) ?_
      refine keeps_countRun (hcap.sub rfl) ?_
      exact h1
    first | clear_value v10 | skip
    refine keeps_iteD ?_ ?_
    · refine keeps_failed ?_
      exact h1
    · refine keeps_iteD ?_ ?_
      · refine keeps_failed ?_
        exact h1
      · refine keeps_done ?_
        refine keeps_foldl ?_ ?_
        · intro y11 hy11 y12
          refine keeps_foldl ?_ ?_
          · intro y13 hy13 y14
            extract_lets -merge -useContext -underBinder v15 v16 v17
            split
            · extract_lets -merge -useContext -underBinder v18
              have kv18 : Leads fp z v18 := by
                dsimp -zeta only [v18]
                refine keeps_bump (hcap.sub rfl) ?_
                exact hy13
              first | clear_value v18 | skip
              refine keeps_write (hcap.sub rfl) ?_
              exact kv18
          · exact hy11
        · exact kv10

theorem keeps_addParts {fp : Nat} (hcap : Has fp 0xC) {z : State} {a0 : State} {a1 : Job} {a2 : Operand}
    {a3 : Nat} {a4 : Nat} {a5 : List Hoard} (h0 : Leads fp z a0) :
    Leads fp z (State.addParts a0 a1 a2 a3 a4 a5) := by
  unfold State.addParts
  refine keeps_onDies ?_ ?_
  · exact h0
  · intro y0 hy0 y1
    refine keeps_foldl ?_ ?_
    · intro y2 hy2 y3
      refine keeps_putPartial hcap ?_
      exact hy2
    · exact hy0

theorem keeps_noteReplay {fp : Nat} (hcap : Has fp 0x8000) {z : State} {a0 : State} {a1 : Job} {a2 : Nat}
    {a3 : Nat} {a4 : Nat} {a5 : Nat} (h0 : Leads fp z a0) :
    Leads fp z (State.noteReplay a0 a1 a2 a3 a4 a5) := by
  unfold State.noteReplay
  extract_lets -merge -useContext -underBinder v0
  split
  · exact keeps_put_replays hcap h0
  · exact keeps_put_replays hcap h0

theorem keeps_backwardRow {fp : Nat} (hcap : Has fp 0x800C) {z : State} {a0 : State} {a1 : Job} {a2 : Nat}
    {a3 : Nat} {a4 : Nat} {a5 : List (Nat × Nat × Nat × Bool)} {a6 : Bool} (h0 : Leads fp z a0) :
    Leads fp z (State.backwardRow a0 a1 a2 a3 a4 a5 a6) := by
  unfold State.backwardRow
  extract_lets -merge -useContext -underBinder v0 v1 v2 v3 v4 v5 v6 v7 v8 v9 v10 v11 v12 v13 v14
  have kv10 : Leads fp z v10 := by
    dsimp -zeta only [v10]
    refine keeps_noteReplay (hcap.sub rfl) ?_
    exact h0
  first | clear_value v10 | skip
  have kv14 : Leads fp z v14 := by
    dsimp -zeta only [v14]
    refine keeps_addParts (hcap.sub rfl) ?_
    exact kv10
  first | clear_value v14 | skip
  refine keeps_foldl ?_ ?_
  · intro y15 hy15 y16
    extract_lets -merge -useContext -underBinder v17 v18 v19
    refine keeps_ite ?_ ?_
    · exact hy15
    · refine keeps_addParts (hcap.sub rfl) ?_
      refine keeps_addParts (hcap.sub rfl) ?_
      exact hy15
  · exact kv14

theorem keeps_attendBwdWork {fp : Nat} (hcap : Has fp 0x140800E) {z : State} {a0 : Job} {a1 : State}
    (h1 : Leads fp z a1) :
    Leads fp z (attendBwdWork a0 a1).state := by
  unfold attendBwdWork
  split
  · extract_lets -merge -useContext -underBinder v0 v1 v2 v3 v4 v5 v6 v7 v8 v9 v10 v11 v12
    have kv9 : Leads fp z v9 := by
      dsimp -zeta only [v9]
      refine keeps_countInvalid (hcap.sub rfl) ?_
      refine keeps_countRun (hcap.sub rfl) ?_
      exact h1
    first | clear_value v9 | skip
    have kv12 : Leads fp z v12 := by
      dsimp -zeta only [v12]
      refine keeps_ite ?_ ?_
      · refine keeps_markRows (hcap.sub rfl) ?_
        exact kv9
      · exact kv9
    first | clear_value v12 | skip
    refine keeps_iteD ?_ ?_
    · refine keeps_failed ?_
      exact h1
    · refine keeps_iteD ?_ ?_
      · refine keeps_failed ?_
        exact h1
      · refine keeps_done ?_
        refine keeps_foldl ?_ ?_
        · intro y13 hy13 y14
          refine keeps_foldl ?_ ?_
          · intro y15 hy15 y16
            extract_lets -merge -useContext -underBinder v17
            refine keeps_backwardRow (hcap.sub rfl) ?_
            exact hy15
          · exact hy13
        · exact kv12

theorem keeps_clearLanes {fp : Nat} (hcap : Has fp 0x1000) {z : State} {a0 : State} {a1 : Nat} {a2 : Nat}
    (h0 : Leads fp z a0) :
    Leads fp z (State.clearLanes a0 a1 a2) := by
  unfold State.clearLanes
  exact keeps_put_lanes hcap h0

theorem keeps_addLanes {fp : Nat} (hcap : Has fp 0x1000) {z : State} {a0 : State} {a1 : Nat} {a2 : Nat}
    {a3 : List (List Num × Bool)} (h0 : Leads fp z a0) :
    Leads fp z (State.addLanes a0 a1 a2 a3) := by
  unfold State.addLanes
  exact keeps_put_lanes hcap h0

theorem keeps_attendDenseWork {fp : Nat} (hcap : Has fp 0x270040104E) {z : State} {a0 : Job} {a1 : State}
    (h1 : Leads fp z a1) :
    Leads fp z (attendDenseWork a0 a1).state := by
  unfold attendDenseWork
  extract_lets -merge -useContext -underBinder v0 v1 v2 v3 v4 v5
  have kv4 : Leads fp z v4 := by
    dsimp -zeta only [v4]
    refine keeps_sliceRecords (hcap.sub rfl) ?_
    exact h1
  first | clear_value v4 | skip
  have kv5 : Leads fp z v5 := by
    dsimp -zeta only [v5]
    refine keeps_addRec (hcap.sub rfl) ?_
    exact kv4
  first | clear_value v5 | skip
  refine keeps_iteD ?_ ?_
  · refine keeps_failed ?_
    exact h1
  · refine keeps_done ?_
    refine keeps_addLanes (hcap.sub rfl) ?_
    refine keeps_ite ?_ ?_
    · exact kv5
    · refine keeps_clearLanes (hcap.sub rfl) ?_
      exact kv5

theorem keeps_attendDoutWork {fp : Nat} (hcap : Has fp 0x270040004E) {z : State} {a0 : Job} {a1 : State}
    (h1 : Leads fp z a1) :
    Leads fp z (attendDoutWork a0 a1).state := by
  unfold attendDoutWork
  extract_lets -merge -useContext -underBinder v0 v1 v2 v3
  refine keeps_iteD ?_ ?_
  · refine keeps_failed ?_
    exact h1
  · refine keeps_done ?_
    refine keeps_writeHoards hcap ?_
    exact h1

theorem keeps_issueRun {fp : Nat} (hcap : Has fp 0x270047004E) {z : State} {a0 : State} {a1 : EngUnit}
    {a2 : Bool} {a3 : Nat} {a4 : Job → State → Done} (h0 : Leads fp z a0)
    (h4 : ∀ y0, ∀ y1, Leads fp z y1 → Leads fp z (a4 y0 y1).state) :
    Leads fp z (State.issueRun a0 a1 a2 a3 a4) := by
  unfold State.issueRun
  refine keeps_ite ?_ ?_
  · refine keeps_issue hcap ?_ ?_
    · exact h0
    · intro y0 y1 hy1
      refine h4 _ _ ?_
      exact hy1
  · exact h0

theorem leads_execAttendFwd {fp : Nat} (hcap : Has fp 0x270147004E) {z t : State} {a0 : EngUnit} {a1 : Bool}
    {a2 : State} (h2 : Leads fp z a2) (e : (execAttendFwd a0 a1 a2) = .next t) :
    Leads fp z t := by
  unfold execAttendFwd at e
  injection e with e
  subst e
  refine keeps_issueRun (hcap.sub rfl) ?_ ?_
  · exact h2
  · intro y0 y1 hy1
    refine keeps_attendFwdWork (hcap.sub rfl) ?_
    exact hy1

theorem leads_execAttendBwd {fp : Nat} (hcap : Has fp 0x270147804E) {z t : State} {a0 : EngUnit} {a1 : Bool}
    {a2 : State} (h2 : Leads fp z a2) (e : (execAttendBwd a0 a1 a2) = .next t) :
    Leads fp z t := by
  unfold execAttendBwd at e
  injection e with e
  subst e
  refine keeps_issueRun (hcap.sub rfl) ?_ ?_
  · exact h2
  · intro y0 y1 hy1
    refine keeps_attendBwdWork (hcap.sub rfl) ?_
    exact hy1

theorem leads_execAttendDense {fp : Nat} (hcap : Has fp 0x270047104E) {z t : State} {a0 : EngUnit} {a1 : Bool}
    {a2 : State} (h2 : Leads fp z a2) (e : (execAttendDense a0 a1 a2) = .next t) :
    Leads fp z t := by
  unfold execAttendDense at e
  injection e with e
  subst e
  refine keeps_issue (hcap.sub rfl) ?_ ?_
  · exact h2
  · intro y0 y1 hy1
    refine keeps_attendDenseWork (hcap.sub rfl) ?_
    exact hy1

theorem leads_execAttendDout {fp : Nat} (hcap : Has fp 0x270047004E) {z t : State} {a0 : EngUnit} {a1 : Bool}
    {a2 : State} (h2 : Leads fp z a2) (e : (execAttendDout a0 a1 a2) = .next t) :
    Leads fp z t := by
  unfold execAttendDout at e
  injection e with e
  subst e
  refine keeps_issue hcap ?_ ?_
  · exact h2
  · intro y0 y1 hy1
    refine keeps_attendDoutWork (hcap.sub rfl) ?_
    exact hy1

/-! ### VectorOps -/

theorem keeps_takeVals {fp : Nat} (hcap : Has fp 0xC) {z : State} {a0 : State} {a1 : Job} {a2 : VecIn}
    (h0 : Leads fp z a0) :
    Leads fp z (State.takeVals a0 a1 a2).1 := by
  unfold State.takeVals
  split
  · refine keeps_mk ?_
    refine keeps_addRec hcap ?_
    exact h0

theorem keeps_vecOut {fp : Nat} (hcap : Has fp 0x270040004E) {z : State} {a0 : State} {a1 : State} {a2 : Job}
    {a3 : List Val} (h0 : Leads fp z a0) (h1 : Leads fp z a1) :
    Leads fp z (State.vecOut a0 a1 a2 a3).state := by
  unfold State.vecOut
  extract_lets -merge -useContext -underBinder v0 v1 v2
  refine keeps_iteD ?_ ?_
  · refine keeps_failed ?_
    exact h0
  · refine keeps_done ?_
    refine keeps_bump (hcap.sub rfl) ?_
    refine keeps_writeVals hcap ?_
    exact h0

theorem keeps_quantWork {fp : Nat} (hcap : Has fp 0x270040204E) {z : State} {a0 : Job} {a1 : State}
    (h1 : Leads fp z a1) :
    Leads fp z (quantWork a0 a1).state := by
  unfold quantWork
  extract_lets -merge -useContext -underBinder v0 v1 v2 v3 v4 v5 v6 v7 v8 v9
  refine keeps_iteD ?_ ?_
  · refine keeps_failed ?_
    exact h1
  · split
    rename_i x10 x11 e27
    have kx10 : Leads fp z x10 := by
      refine keeps_eq1 e27 ?_
      refine keeps_takeVals (hcap.sub rfl) ?_
      exact h1
    extract_lets -merge -useContext -underBinder v12 v13
    split
    rename_i x14 x15 e26
    have kx14 : Leads fp z x14 := by
      refine keeps_eq1 e26 ?_
      refine keeps_quantAll (hcap.sub rfl) ?_
      exact kx10
    extract_lets -merge -useContext -underBinder v16 v17 v18
    have kv16 : Leads fp z v16 := by
      dsimp -zeta only [v16]
      refine keeps_onDies ?_ ?_
      · exact kx14
      · intro y19 hy19 y20
        refine keeps_putBlocks (hcap.sub rfl) ?_
        exact hy19
    first | clear_value v16 | skip
    have kv17 : Leads fp z v17 := by
      dsimp -zeta only [v17]
      refine keeps_ite ?_ ?_
      · exact kv16
      · refine keeps_onDies ?_ ?_
        · exact kv16
        · intro y21 hy21 y22
          refine keeps_putFloats (hcap.sub rfl) ?_
          exact hy21
    first | clear_value v17 | skip
    have kv18 : Leads fp z v18 := by
      dsimp -zeta only [v18]
      refine keeps_foldl ?_ ?_
      · intro y23 hy23 y24
        extract_lets -merge -useContext -underBinder v25
        exact keeps_put_sides (hcap.sub rfl) hy23
      · exact kv17
    first | clear_value v18 | skip
    refine keeps_done ?_
    refine keeps_bump (hcap.sub rfl) ?_
    exact kv18

theorem keeps_convertWork {fp : Nat} (hcap : Has fp 0x270040004E) {z : State} {a0 : Job} {a1 : State}
    (h1 : Leads fp z a1) :
    Leads fp z (convertWork a0 a1).state := by
  unfold convertWork
  extract_lets -merge -useContext -underBinder v0
  refine keeps_iteD ?_ ?_
  · refine keeps_failed ?_
    exact h1
  · split
    rename_i x1 x2 e4
    have kx1 : Leads fp z x1 := by
      refine keeps_eq1 e4 ?_
      refine keeps_takeVals (hcap.sub rfl) ?_
      exact h1
    extract_lets -merge -useContext -underBinder v3
    have kv3 : Leads fp z v3.state := by
      dsimp -zeta only [v3]
      refine keeps_vecOut hcap ?_ ?_
      · exact kx1
      · exact h1
    first | clear_value v3 | skip
    refine keeps_iteD ?_ ?_
    · refine keeps_failed ?_
      exact h1
    · exact kv3

theorem keeps_twoWork {fp : Nat} (hcap : Has fp 0x270040004E) {z : State} {a0 : Num → Num → Num} {a1 : Job}
    {a2 : State} (h2 : Leads fp z a2) :
    Leads fp z (twoWork a0 a1 a2).state := by
  unfold twoWork
  extract_lets -merge -useContext -underBinder v0 v1 v2
  refine keeps_iteD ?_ ?_
  · refine keeps_failed ?_
    exact h2
  · split
    rename_i x3 x4 e9
    have kx3 : Leads fp z x3 := by
      refine keeps_eq1 e9 ?_
      refine keeps_takeVals (hcap.sub rfl) ?_
      exact h2
    split
    rename_i x5 x6 e8
    have kx5 : Leads fp z x5 := by
      refine keeps_eq1 e8 ?_
      refine keeps_takeVals (hcap.sub rfl) ?_
      exact kx3
    extract_lets -merge -useContext -underBinder v7
    have kv7 : Leads fp z v7.state := by
      dsimp -zeta only [v7]
      refine keeps_vecOut hcap ?_ ?_
      · exact kx5
      · exact h2
    first | clear_value v7 | skip
    refine keeps_iteD ?_ ?_
    · refine keeps_failed ?_
      exact h2
    · exact kv7

theorem keeps_funcWork {fp : Nat} (hcap : Has fp 0x270040004E) {z : State} {a0 : Job} {a1 : State}
    (h1 : Leads fp z a1) :
    Leads fp z (funcWork a0 a1).state := by
  unfold funcWork
  extract_lets -merge -useContext -underBinder v0
  refine keeps_iteD ?_ ?_
  · refine keeps_failed ?_
    exact h1
  · split
    rename_i x1 x2 e4
    have kx1 : Leads fp z x1 := by
      refine keeps_eq1 e4 ?_
      refine keeps_takeVals (hcap.sub rfl) ?_
      exact h1
    extract_lets -merge -useContext -underBinder v3
    have kv3 : Leads fp z v3.state := by
      dsimp -zeta only [v3]
      refine keeps_vecOut hcap ?_ ?_
      · exact kx1
      · exact h1
    first | clear_value v3 | skip
    refine keeps_iteD ?_ ?_
    · refine keeps_failed ?_
      exact h1
    · exact kv3

theorem keeps_reduceWork {fp : Nat} (hcap : Has fp 0x270040004E) {z : State} {a0 : Job} {a1 : State}
    (h1 : Leads fp z a1) :
    Leads fp z (reduceWork a0 a1).state := by
  unfold reduceWork
  extract_lets -merge -useContext -underBinder v0 v1 v2 v3 v4
  refine keeps_iteD ?_ ?_
  · refine keeps_failed ?_
    exact h1
  · split
    rename_i x5 x6 e8
    have kx5 : Leads fp z x5 := by
      refine keeps_eq1 e8 ?_
      refine keeps_takeVals (hcap.sub rfl) ?_
      exact h1
    extract_lets -merge -useContext -underBinder v7
    refine keeps_iteD ?_ ?_
    · split
      · refine keeps_vecOut hcap ?_ ?_
        · exact kx5
        · exact h1
    · refine keeps_done ?_
      refine keeps_writeHoards hcap ?_
      exact kx5

theorem keeps_combineWork {fp : Nat} (hcap : Has fp 0x270040004E) {z : State} {a0 : Job} {a1 : State}
    (h1 : Leads fp z a1) :
    Leads fp z (combineWork a0 a1).state := by
  unfold combineWork
  extract_lets -merge -useContext -underBinder v0 v1 v2 v3 v4
  refine keeps_iteD ?_ ?_
  · refine keeps_failed ?_
    exact h1
  · split
    rename_i x5 x6 x7 e9
    have kx5 : Leads fp z x5 := by
      refine keeps_eq1 e9 ?_
      refine keeps_takePartials hcap ?_
      exact h1
    extract_lets -merge -useContext -underBinder v8
    have kv8 : Leads fp z v8 := by
      dsimp -zeta only [v8]
      refine keeps_bump (hcap.sub rfl) ?_
      refine keeps_bump (hcap.sub rfl) ?_
      exact kx5
    first | clear_value v8 | skip
    refine keeps_vecOut hcap ?_ ?_
    · exact kv8
    · exact h1

theorem keeps_normWork {fp : Nat} (hcap : Has fp 0x270040004E) {z : State} {a0 : Job} {a1 : State}
    (h1 : Leads fp z a1) :
    Leads fp z (normWork a0 a1).state := by
  unfold normWork
  extract_lets -merge -useContext -underBinder v0 v1 v2 v3
  refine keeps_iteD ?_ ?_
  · refine keeps_failed ?_
    exact h1
  · split
    rename_i x4 x5 e12
    have kx4 : Leads fp z x4 := by
      refine keeps_eq1 e12 ?_
      refine keeps_takeVals (hcap.sub rfl) ?_
      exact h1
    split
    rename_i x6 x7 e11
    have kx6 : Leads fp z x6 := by
      refine keeps_eq1 e11 ?_
      refine keeps_takeVals (hcap.sub rfl) ?_
      exact kx4
    extract_lets -merge -useContext -underBinder v8 v9 v10
    have kv10 : Leads fp z v10.state := by
      dsimp -zeta only [v10]
      refine keeps_vecOut hcap ?_ ?_
      · exact kx6
      · exact h1
    first | clear_value v10 | skip
    refine keeps_iteD ?_ ?_
    · refine keeps_failed ?_
      exact h1
    · exact kv10

theorem keeps_ropeWork {fp : Nat} (hcap : Has fp 0x270040004E) {z : State} {a0 : Job} {a1 : State}
    (h1 : Leads fp z a1) :
    Leads fp z (ropeWork a0 a1).state := by
  unfold ropeWork
  extract_lets -merge -useContext -underBinder v0
  refine keeps_iteD ?_ ?_
  · refine keeps_failed ?_
    exact h1
  · split
    rename_i x1 x2 e8
    have kx1 : Leads fp z x1 := by
      refine keeps_eq1 e8 ?_
      refine keeps_takeVals (hcap.sub rfl) ?_
      exact h1
    extract_lets -merge -useContext -underBinder v3 v4 v5 v6 v7
    have kv7 : Leads fp z v7.state := by
      dsimp -zeta only [v7]
      refine keeps_vecOut hcap ?_ ?_
      · exact kx1
      · exact h1
    first | clear_value v7 | skip
    refine keeps_iteD ?_ ?_
    · refine keeps_failed ?_
      exact h1
    · exact kv7

theorem keeps_acombWork {fp : Nat} (hcap : Has fp 0x270040004E) {z : State} {a0 : Job} {a1 : State}
    (h1 : Leads fp z a1) :
    Leads fp z (acombWork a0 a1).state := by
  unfold acombWork
  extract_lets -merge -useContext -underBinder v0 v1 v2 v3 v4 v5 v6 v7 v8 v9 v10 v11 v12 v13 v14 v15 v16 v17 v18 v19 v20 v21
  have kv18 : Leads fp z v18 := by
    dsimp -zeta only [v18]
    refine keeps_bump (hcap.sub rfl) ?_
    exact h1
  first | clear_value v18 | skip
  have kv19 : Leads fp z v19 := by
    dsimp -zeta only [v19]
    refine keeps_ite ?_ ?_
    · refine keeps_markRows (hcap.sub rfl) ?_
      exact kv18
    · exact kv18
  first | clear_value v19 | skip
  have kv20 : Leads fp z v20 := by
    dsimp -zeta only [v20]
    refine keeps_foldl ?_ ?_
    · intro y22 hy22 y23
      extract_lets -merge -useContext -underBinder v24 v25
      have kv25 : Leads fp z v25 := by
        dsimp -zeta only [v25]
        refine keeps_bump (hcap.sub rfl) ?_
        exact hy22
      first | clear_value v25 | skip
      refine keeps_ite ?_ ?_
      · rcases hq : v25.quantAll a0 (v1.fmt + 1) none none v24 with ⟨x26, x27⟩
        have kx26 : Leads fp z x26 := keeps_eq1 hq (keeps_quantAll hcap kv25)
        dsimp only
        refine keeps_onDies ?_ ?_
        · exact kx26
        · intro y28 hy28 y29
          refine keeps_foldl ?_ ?_
          · intro y30 hy30 y31
            refine keeps_putBlock (hcap.sub rfl) ?_
            exact hy30
          · exact hy28
      · refine keeps_onDies ?_ ?_
        · exact kv25
        · intro y33 hy33 y34
          refine keeps_foldl ?_ ?_
          · intro y35 hy35 y36
            refine keeps_putFloat (hcap.sub rfl) ?_
            exact hy35
          · exact hy33
    · exact kv19
  first | clear_value v20 | skip
  have kv21 : Leads fp z v21 := by
    dsimp -zeta only [v21]
    refine keeps_ite ?_ ?_
    · refine keeps_foldl ?_ ?_
      · intro y37 hy37 y38
        refine keeps_onDies ?_ ?_
        · exact hy37
        · intro y39 hy39 y40
          extract_lets -merge -useContext -underBinder v41
          refine keeps_putFloat (hcap.sub rfl) ?_
          refine keeps_putFloat (hcap.sub rfl) ?_
          exact hy39
      · exact kv20
    · exact kv20
  first | clear_value v21 | skip
  refine keeps_iteD ?_ ?_
  · refine keeps_failed ?_
    exact h1
  · refine keeps_done ?_
    exact kv21

theorem keeps_watchWork {fp : Nat} (hcap : Has fp 0x400C) {z : State} {a0 : Job} {a1 : State} (h1 : Leads fp z a1) :
    Leads fp z (watchWork a0 a1).state := by
  unfold watchWork
  extract_lets -merge -useContext -underBinder v0
  refine keeps_iteD ?_ ?_
  · refine keeps_failed ?_
    exact h1
  · split
    rename_i x1 x2 e4
    have kx1 : Leads fp z x1 := by
      refine keeps_eq1 e4 ?_
      refine keeps_takeVals (hcap.sub rfl) ?_
      exact h1
    extract_lets -merge -useContext -underBinder v3
    refine keeps_done ?_
    exact keeps_put_watch (hcap.sub rfl) kx1

theorem keeps_dgradWork {fp : Nat} (hcap : Has fp 0x270040004E) {z : State} {a0 : Job} {a1 : State}
    (h1 : Leads fp z a1) :
    Leads fp z (dgradWork a0 a1).state := by
  unfold dgradWork
  extract_lets -merge -useContext -underBinder v0 v1 v2
  refine keeps_iteD ?_ ?_
  · refine keeps_failed ?_
    exact h1
  · split
    rename_i x3 x4 e11
    have kx3 : Leads fp z x3 := by
      refine keeps_eq1 e11 ?_
      refine keeps_takeVals (hcap.sub rfl) ?_
      exact h1
    split
    rename_i x5 x6 e10
    have kx5 : Leads fp z x5 := by
      refine keeps_eq1 e10 ?_
      refine keeps_takeVals (hcap.sub rfl) ?_
      exact kx3
    extract_lets -merge -useContext -underBinder v7 v8 v9
    have kv9 : Leads fp z v9.state := by
      dsimp -zeta only [v9]
      refine keeps_vecOut hcap ?_ ?_
      · exact kx5
      · exact h1
    first | clear_value v9 | skip
    refine keeps_iteD ?_ ?_
    · refine keeps_failed ?_
      exact h1
    · exact kv9

theorem leads_execVecQuant {fp : Nat} (hcap : Has fp 0x270047204E) {z t : State} {a0 : EngUnit} {a1 : Bool}
    {a2 : State} (h2 : Leads fp z a2) (e : (execVecQuant a0 a1 a2) = .next t) :
    Leads fp z t := by
  unfold execVecQuant at e
  injection e with e
  subst e
  refine keeps_issue (hcap.sub rfl) ?_ ?_
  · exact h2
  · intro y0 y1 hy1
    refine keeps_quantWork (hcap.sub rfl) ?_
    exact hy1

theorem leads_execVecConvert {fp : Nat} (hcap : Has fp 0x270047004E) {z t : State} {a0 : EngUnit} {a1 : Bool}
    {a2 : State} (h2 : Leads fp z a2) (e : (execVecConvert a0 a1 a2) = .next t) :
    Leads fp z t := by
  unfold execVecConvert at e
  injection e with e
  subst e
  refine keeps_issue hcap ?_ ?_
  · exact h2
  · intro y0 y1 hy1
    refine keeps_convertWork (hcap.sub rfl) ?_
    exact hy1

theorem leads_execVecAdd {fp : Nat} (hcap : Has fp 0x270047004E) {z t : State} {a0 : EngUnit} {a1 : Bool}
    {a2 : State} (h2 : Leads fp z a2) (e : (execVecAdd a0 a1 a2) = .next t) :
    Leads fp z t := by
  unfold execVecAdd at e
  injection e with e
  subst e
  refine keeps_issue hcap ?_ ?_
  · exact h2
  · intro y0 y1 hy1
    refine keeps_twoWork (hcap.sub rfl) ?_
    exact hy1

theorem leads_execVecMul {fp : Nat} (hcap : Has fp 0x270047004E) {z t : State} {a0 : EngUnit} {a1 : Bool}
    {a2 : State} (h2 : Leads fp z a2) (e : (execVecMul a0 a1 a2) = .next t) :
    Leads fp z t := by
  unfold execVecMul at e
  injection e with e
  subst e
  refine keeps_issue hcap ?_ ?_
  · exact h2
  · intro y0 y1 hy1
    refine keeps_twoWork (hcap.sub rfl) ?_
    exact hy1

theorem leads_execVecFunc {fp : Nat} (hcap : Has fp 0x270047004E) {z t : State} {a0 : EngUnit} {a1 : Bool}
    {a2 : State} (h2 : Leads fp z a2) (e : (execVecFunc a0 a1 a2) = .next t) :
    Leads fp z t := by
  unfold execVecFunc at e
  injection e with e
  subst e
  refine keeps_issue hcap ?_ ?_
  · exact h2
  · intro y0 y1 hy1
    refine keeps_funcWork (hcap.sub rfl) ?_
    exact hy1

theorem leads_execVecReduce {fp : Nat} (hcap : Has fp 0x270047004E) {z t : State} {a0 : EngUnit} {a1 : Bool}
    {a2 : State} (h2 : Leads fp z a2) (e : (execVecReduce a0 a1 a2) = .next t) :
    Leads fp z t := by
  unfold execVecReduce at e
  injection e with e
  subst e
  refine keeps_issue hcap ?_ ?_
  · exact h2
  · intro y0 y1 hy1
    refine keeps_reduceWork (hcap.sub rfl) ?_
    exact hy1

theorem leads_execVecCombine {fp : Nat} (hcap : Has fp 0x270047004E) {z t : State} {a0 : EngUnit} {a1 : Bool}
    {a2 : State} (h2 : Leads fp z a2) (e : (execVecCombine a0 a1 a2) = .next t) :
    Leads fp z t := by
  unfold execVecCombine at e
  injection e with e
  subst e
  refine keeps_issue hcap ?_ ?_
  · exact h2
  · intro y0 y1 hy1
    refine keeps_combineWork (hcap.sub rfl) ?_
    exact hy1

theorem leads_execVecNorm {fp : Nat} (hcap : Has fp 0x270047004E) {z t : State} {a0 : EngUnit} {a1 : Bool}
    {a2 : State} (h2 : Leads fp z a2) (e : (execVecNorm a0 a1 a2) = .next t) :
    Leads fp z t := by
  unfold execVecNorm at e
  injection e with e
  subst e
  refine keeps_issue hcap ?_ ?_
  · exact h2
  · intro y0 y1 hy1
    refine keeps_normWork (hcap.sub rfl) ?_
    exact hy1

theorem leads_execVecRope {fp : Nat} (hcap : Has fp 0x270047004E) {z t : State} {a0 : EngUnit} {a1 : Bool}
    {a2 : State} (h2 : Leads fp z a2) (e : (execVecRope a0 a1 a2) = .next t) :
    Leads fp z t := by
  unfold execVecRope at e
  injection e with e
  subst e
  refine keeps_issue hcap ?_ ?_
  · exact h2
  · intro y0 y1 hy1
    refine keeps_ropeWork (hcap.sub rfl) ?_
    exact hy1

theorem leads_execVecAcomb {fp : Nat} (hcap : Has fp 0x270047004E) {z t : State} {a0 : EngUnit} {a1 : Bool}
    {a2 : State} (h2 : Leads fp z a2) (e : (execVecAcomb a0 a1 a2) = .next t) :
    Leads fp z t := by
  unfold execVecAcomb at e
  injection e with e
  subst e
  refine keeps_issue hcap ?_ ?_
  · exact h2
  · intro y0 y1 hy1
    refine keeps_acombWork (hcap.sub rfl) ?_
    exact hy1

theorem leads_execVecWatch {fp : Nat} (hcap : Has fp 0x270047404E) {z t : State} {a0 : EngUnit} {a1 : Bool}
    {a2 : State} (h2 : Leads fp z a2) (e : (execVecWatch a0 a1 a2) = .next t) :
    Leads fp z t := by
  unfold execVecWatch at e
  injection e with e
  subst e
  refine keeps_issue (hcap.sub rfl) ?_ ?_
  · exact h2
  · intro y0 y1 hy1
    refine keeps_watchWork (hcap.sub rfl) ?_
    exact hy1

theorem leads_execVecDgrad {fp : Nat} (hcap : Has fp 0x270047004E) {z t : State} {a0 : EngUnit} {a1 : Bool}
    {a2 : State} (h2 : Leads fp z a2) (e : (execVecDgrad a0 a1 a2) = .next t) :
    Leads fp z t := by
  unfold execVecDgrad at e
  injection e with e
  subst e
  refine keeps_issue hcap ?_ ?_
  · exact h2
  · intro y0 y1 hy1
    refine keeps_dgradWork (hcap.sub rfl) ?_
    exact hy1

/-! ### FolioOps -/

theorem keeps_appendWork {fp : Nat} (hcap : Has fp 0x40000C) {z : State} {a0 : Job} {a1 : State}
    (h1 : Leads fp z a1) :
    Leads fp z (appendWork a0 a1).state := by
  unfold appendWork
  extract_lets -merge -useContext -underBinder v0 v1 v2 v3 v4 v5
  have kv5 : Leads fp z v5 := by
    dsimp -zeta only [v5]
    refine keeps_ite ?_ ?_
    · refine keeps_poisonRows (hcap.sub rfl) ?_
      exact h1
    · exact h1
  first | clear_value v5 | skip
  refine keeps_iteD ?_ ?_
  · refine keeps_failed ?_
    exact h1
  · refine keeps_iteD ?_ ?_
    · refine keeps_failed ?_
      exact h1
    · refine keeps_iteD ?_ ?_
      · refine keeps_failed ?_
        exact h1
      · refine keeps_done ?_
        refine keeps_foldl ?_ ?_
        · intro y6 hy6 y7
          refine keeps_writeP (hcap.sub rfl) ?_
          exact hy6
        · exact kv5

theorem keeps_prefetchFailed {fp : Nat} (hcap : Has fp 0x3000002) {z : State} {a0 : State} {a1 : Nat} {a2 : Nat}
    {a3 : Stage} (h0 : Leads fp z a0) :
    Leads fp z (State.prefetchFailed a0 a1 a2 a3) := by
  unfold State.prefetchFailed
  extract_lets -merge -useContext -underBinder v0 v1
  have kv1 : Leads fp z v1 := by
    dsimp -zeta only [v1]
    refine keeps_setFolio (hcap.sub rfl) ?_
    exact h0
  first | clear_value v1 | skip
  refine keeps_bump (hcap.sub rfl) ?_
  exact keeps_put_staging (hcap.sub rfl) kv1

theorem keeps_startPrefetch {fp : Nat} (hcap : Has fp 0x2003000002) {z : State} {a0 : State} {a1 : Nat}
    {a2 : Nat} {a3 : Nat} {a4 : Nat} (h0 : Leads fp z a0) :
    Leads fp z (State.startPrefetch a0 a1 a2 a3 a4) := by
  unfold State.startPrefetch
  extract_lets -merge -useContext -underBinder v0 v1 v2
  have kv1 : Leads fp z v1 := by
    dsimp -zeta only [v1]
    exact keeps_put_staging (hcap.sub rfl) h0
  first | clear_value v1 | skip
  refine keeps_ite ?_ ?_
  · split
    · refine keeps_ite ?_ ?_
      · refine keeps_send (hcap.sub rfl) ?_
        exact kv1
      · refine keeps_prefetchFailed (hcap.sub rfl) ?_
        exact kv1
    · refine keeps_prefetchFailed (hcap.sub rfl) ?_
      exact kv1
  · refine keeps_ite ?_ ?_
    · exact kv1
    · refine keeps_prefetchFailed (hcap.sub rfl) ?_
      exact kv1

theorem keeps_stageOne {fp : Nat} (hcap : Has fp 0x2003000002) {z : State} {a0 : State} {a1 : Job} {a2 : Nat}
    (h0 : Leads fp z a0) :
    Leads fp z (State.stageOne a0 a1 a2) := by
  unfold State.stageOne
  extract_lets -merge -useContext -underBinder v0 v1
  have kv1 : Leads fp z v1 := by
    dsimp -zeta only [v1]
    exact keeps_put_staging (hcap.sub rfl) h0
  first | clear_value v1 | skip
  split
  · refine keeps_startPrefetch hcap ?_
    exact kv1
  · exact kv1

theorem keeps_stageWork {fp : Nat} (hcap : Has fp 0x2003000002) {z : State} {a0 : Job} {a1 : State}
    (h1 : Leads fp z a1) :
    Leads fp z (stageWork a0 a1).state := by
  unfold stageWork
  refine keeps_done ?_
  refine keeps_foldl ?_ ?_
  · intro y0 hy0 y1
    refine keeps_stageOne hcap ?_
    exact hy0
  · exact h1

theorem keeps_prefetchEnd {fp : Nat} (hcap : Has fp 0x300000E) {z : State} {a0 : State} {a1 : Nat} {a2 : Nat}
    {a3 : Bool} {a4 : List (Byte × Bool)} (h0 : Leads fp z a0) :
    Leads fp z (State.prefetchEnd a0 a1 a2 a3 a4) := by
  unfold State.prefetchEnd
  split
  · exact h0
  · extract_lets -merge -useContext -underBinder v0 v1
    have kv1 : Leads fp z v1 := by
      dsimp -zeta only [v1]
      refine keeps_spaceWrite (hcap.sub rfl) ?_
      exact h0
    first | clear_value v1 | skip
    refine keeps_ite ?_ ?_
    · exact h0
    · refine keeps_ite ?_ ?_
      · refine keeps_prefetchFailed (hcap.sub rfl) ?_
        exact h0
      · refine keeps_bump (hcap.sub rfl) ?_
        exact keeps_put_staging (hcap.sub rfl) kv1

theorem keeps_spillOut {fp : Nat} (hcap : Has fp 0x2180000002) {z s : State} {d : Nat} {a : Word64} {bs : List
    (Byte × Bool)} (h : Leads fp z s) :
    ∀ t, s.spillOut d a bs = some t → Leads fp z t := by
  intro t e
  unfold State.spillOut at e
  dsimp only at e
  split at e
  · split at e
    · split at e
      · injection e with e; subst e
        exact keeps_foldl (fun u hu x => keeps_send (hcap.sub rfl) hu) h
      · exact absurd e (by simp)
    · exact absurd e (by simp)
  · refine keeps_bindAll (fun u hu p v => keeps_writeNode hcap hu v) ?_ t e
    intro u hu
    injection hu with hu
    exact hu ▸ h

theorem keeps_spillEnd {fp : Nat} (hcap : Has fp 0x2181000002) {z s : State} {e q : Nat} {ok : Bool}
    (h : Leads fp z s) : Leads fp z (s.spillEnd e q ok) := by
  unfold State.spillEnd
  extract_lets -merge -useContext -underBinder x
  split
  · exact h
  · refine keeps_ite h ?_
    extract_lets -merge -useContext -underBinder a bs
    split
    · exact keeps_bump (hcap.sub rfl) (keeps_setFolio (hcap.sub rfl) h)
    · rename_i t et
      have k : Leads fp z t := by
        split at et
        · exact keeps_spillOut (hcap.sub rfl) h t et
        · exact absurd et (by simp)
      exact keeps_bump (hcap.sub rfl) (keeps_setFolio (hcap.sub rfl) k)

theorem leads_execFolioAppend {fp : Nat} (hcap : Has fp 0x270047004E) {z t : State} {a0 : EngUnit} {a1 : Bool}
    {a2 : State} (h2 : Leads fp z a2) (e : (execFolioAppend a0 a1 a2) = .next t) :
    Leads fp z t := by
  unfold execFolioAppend at e
  injection e with e
  subst e
  refine keeps_issue hcap ?_ ?_
  · exact h2
  · intro y0 y1 hy1
    refine keeps_appendWork (hcap.sub rfl) ?_
    exact hy1

theorem leads_execFolioStage {fp : Nat} (hcap : Has fp 0x270347004E) {z t : State} {a0 : EngUnit} {a1 : Bool}
    {a2 : State} (h2 : Leads fp z a2) (e : (execFolioStage a0 a1 a2) = .next t) :
    Leads fp z t := by
  unfold execFolioStage at e
  injection e with e
  subst e
  refine keeps_ite ?_ ?_
  · refine keeps_issue (hcap.sub rfl) ?_ ?_
    · exact h2
    · intro y0 y1 hy1
      refine keeps_stageWork (hcap.sub rfl) ?_
      exact hy1
  · exact h2

theorem leads_execSpillCopyComplete {fp : Nat} (hcap : Has fp 0x2181000002) {z t : State} {a0 : Fin 32768}
    {a1 : Fin 4} {a2 : Bool} {a3 : State} (h3 : Leads fp z a3) (e :
    (execSpillCopyComplete a0 a1 a2 a3) = .next t) :
    Leads fp z t := by
  unfold execSpillCopyComplete at e
  injection e with e
  subst e
  refine keeps_spillEnd hcap ?_
  exact h3

theorem leads_execPrefetchComplete {fp : Nat} (hcap : Has fp 0x300000E) {z t : State} {a0 : Die} {a1 : Nat}
    {a2 : Bool} {a3 : List (Byte × Bool)} {a4 : State} (h4 : Leads fp z a4) (e :
    (execPrefetchComplete a0 a1 a2 a3 a4) = .next t) :
    Leads fp z t := by
  unfold execPrefetchComplete at e
  injection e with e
  subst e
  refine keeps_prefetchEnd hcap ?_
  exact h4

/-! ### Tickets -/

theorem keeps_reply {fp : Nat} (hcap : Has fp 0x400000) {z : State} {a0 : State} {a1 : Ticket} {a2 : Nat}
    {a3 : Nat} {a4 : Nat} (h0 : Leads fp z a0) :
    Leads fp z (State.reply a0 a1 a2 a3 a4) := by
  unfold State.reply
  extract_lets -merge -useContext -underBinder v0
  exact keeps_put_serve hcap h0

theorem keeps_ledgerWrite {fp : Nat} (hcap : Has fp 0x218000000E) {z s : State} {die : Nat} {a : Word64}
    {bs : List Byte} (h : Leads fp z s) :
    Leads fp z (s.ledgerWrite die a bs) := by
  unfold State.ledgerWrite
  refine keeps_ite ?_ ?_
  · split
    · exact keeps_ite (keeps_send (hcap.sub rfl) h) h
    · exact keeps_ite (keeps_spaceWrite (hcap.sub rfl) h) h
  · exact keeps_foldl (fun u hu x => keeps_getD hu (keeps_writeNode (hcap.sub rfl) hu)) h

end Sys2Proof.Machine
end

