-- ==== Sys2Proof/Laws/LeadsWeights.lean ====
section
/-! SUPPORT. Every operation of weight epochs, endorsements, probes and Charter checks leads on from its state: one lemma each. -/

namespace Sys2Proof.Machine

/-! ### Loads -/

theorem keeps_setLoad {fp : Nat} (hcap : Has fp 0x4000000) {z : State} {a0 : State} {a1 : Load} (h0 : Leads fp z a0) :
    Leads fp z (State.setLoad a0 a1) := by
  unfold State.setLoad
  extract_lets -merge -useContext -underBinder v0
  exact keeps_put_epochs hcap h0

theorem keeps_reportLoad {fp : Nat} (hcap : Has fp 0x2004000000) {z : State} {a0 : State} (h0 : Leads fp z a0) :
    Leads fp z (State.reportLoad a0) := by
  unfold State.reportLoad
  split
  · exact h0
  · refine keeps_ite ?_ ?_
    · exact h0
    · refine keeps_ite ?_ ?_
      · refine keeps_ite ?_ ?_
        · exact h0
        · refine keeps_send (hcap.sub rfl) ?_
          refine keeps_setLoad (hcap.sub rfl) ?_
          exact h0
      · refine keeps_ite ?_ ?_
        · refine keeps_foldl ?_ ?_
          · intro y0 hy0 y1
            refine keeps_send (hcap.sub rfl) ?_
            exact hy0
          · refine keeps_setLoad (hcap.sub rfl) ?_
            exact h0
        · exact h0

theorem keeps_issueTile {fp : Nat} (hcap : Has fp 0x27044002CE) {z : State} {a0 : State} {a1 : Load} {a2 : Nat}
    (h0 : Leads fp z a0) :
    Leads fp z (State.issueTile a0 a1 a2) := by
  unfold State.issueTile
  extract_lets -merge -useContext -underBinder v0 v1
  refine keeps_ite ?_ ?_
  · exact h0
  · refine keeps_dite (fun _ => ?_) (fun _ => ?_)
    · extract_lets -merge -useContext -underBinder v2 v3 v4 v5 v6
      have kv4 : Leads fp z v4 := by
        dsimp -zeta only [v4]
        refine keeps_setSurplus (hcap.sub rfl) ?_
        exact h0
      first | clear_value v4 | skip
      have kv5 : Leads fp z v5 := by
        dsimp -zeta only [v5]
        refine keeps_auxWrite (hcap.sub rfl) ?_
        exact kv4
      first | clear_value v5 | skip
      have kv6 : Leads fp z v6 := by
        dsimp -zeta only [v6]
        refine keeps_setLoad (hcap.sub rfl) ?_
        exact kv5
      first | clear_value v6 | skip
      refine keeps_ite ?_ ?_
      · refine keeps_failLoad (hcap.sub rfl) ?_
        refine keeps_programRecord (hcap.sub rfl) ?_
        exact h0
      · refine keeps_programAdd (hcap.sub rfl) ?_
        exact kv6
    · exact h0

theorem keeps_loadAdvance {fp : Nat} (hcap : Has fp 0x27044002CE) {z : State} {a0 : State} (h0 : Leads fp z a0) :
    Leads fp z (State.loadAdvance a0) := by
  unfold State.loadAdvance
  split
  · exact h0
  · refine keeps_ite ?_ ?_
    · exact h0
    · split
      · extract_lets -merge -useContext -underBinder v0
        have kv0 : Leads fp z v0 := by
          dsimp -zeta only [v0]
          refine keeps_setLoad (hcap.sub rfl) ?_
          exact h0
        first | clear_value v0 | skip
        refine keeps_ite ?_ ?_
        · refine keeps_failLoad (hcap.sub rfl) ?_
          exact kv0
        · refine keeps_foldl ?_ ?_
          · intro y1 hy1 y2
            split
            · refine keeps_ite ?_ ?_
              · refine keeps_issueTile hcap ?_
                exact hy1
              · exact hy1
            · exact hy1
          · exact kv0

theorem keeps_freeSlots {fp : Nat} (hcap : Has fp 0x4000000) {z : State} {a0 : State} (h0 : Leads fp z a0) :
    Leads fp z (State.freeSlots a0) := by
  unfold State.freeSlots
  split
  · exact h0
  · extract_lets -merge -useContext -underBinder v0
    refine keeps_setLoad hcap ?_
    exact h0

theorem keeps_refetch {fp : Nat} (hcap : Has fp 0x270440004E) {z : State} {a0 : State} {a1 : Load} {a2 : Bool}
    {a3 : Nat} {a4 : Bool} (h0 : Leads fp z a0) :
    Leads fp z (State.refetch a0 a1 a2 a3 a4) := by
  unfold State.refetch
  extract_lets -merge -useContext -underBinder v0 v1 v2 v3 v4 v5
  have kv2 : ∀ y0, Leads fp z y0 → ∀ y1, Leads fp z (v2 y0 y1) := by
    dsimp -zeta only [v2]
    intro y6 hy6 y7
    extract_lets -merge -useContext -underBinder v8
    refine keeps_ite ?_ ?_
    · exact keeps_put_epochs (hcap.sub rfl) hy6
    · refine keeps_setLoad (hcap.sub rfl) ?_
      exact hy6
  first | clear_value v2 | skip
  have kv4 : Leads fp z v4 := by
    dsimp -zeta only [v4]
    refine keeps_fault (hcap.sub rfl) ?_
    exact h0
  first | clear_value v4 | skip
  refine keeps_ite ?_ ?_
  · refine keeps_send (hcap.sub rfl) ?_
    refine keeps_eventHolder (hcap.sub rfl) ?_
    refine kv2 _ ?_ _
    exact h0
  · refine keeps_ite ?_ ?_
    · exact keeps_put_epochs (hcap.sub rfl) kv4
    · refine keeps_failLoad (hcap.sub rfl) ?_
      exact kv4

theorem keeps_passShard {fp : Nat} (hcap : Has fp 0x2000000000) {z : State} {a0 : State} {a1 : Manifest}
    {a2 : Nat} (h0 : Leads fp z a0) :
    Leads fp z (State.passShard a0 a1 a2) := by
  unfold State.passShard
  extract_lets -merge -useContext -underBinder v0
  have kv0 : Leads fp z v0 := by
    dsimp -zeta only [v0]
    split
    · refine keeps_send hcap ?_
      exact h0
    · exact h0
  first | clear_value v0 | skip
  refine keeps_ite ?_ ?_
  · refine keeps_send hcap ?_
    exact kv0
  · exact kv0

theorem keeps_shardIn {fp : Nat} (hcap : Has fp 0x27044002CE) {z : State} {a0 : State} {a1 : Load} {a2 : Nat}
    {a3 : List Byte} {a4 : Bool} (h0 : Leads fp z a0) :
    Leads fp z (State.shardIn a0 a1 a2 a3 a4) := by
  unfold State.shardIn
  refine keeps_ite ?_ ?_
  · refine keeps_refetch (hcap.sub rfl) ?_
    exact h0
  · split
    · exact h0
    · extract_lets -merge -useContext -underBinder v0 v1
      have kv1 : Leads fp z v1 := by
        dsimp -zeta only [v1]
        refine keeps_write (hcap.sub rfl) ?_
        refine keeps_setLoad (hcap.sub rfl) ?_
        exact h0
      first | clear_value v1 | skip
      refine keeps_freeSlots (hcap.sub rfl) ?_
      refine keeps_loadAdvance hcap ?_
      refine keeps_passShard (hcap.sub rfl) ?_
      exact kv1

theorem keeps_shardRelay {fp : Nat} (hcap : Has fp 0x270440004E) {z : State} {a0 : State} {a1 : Load} {a2 : Nat}
    {a3 : List Byte} {a4 : Bool} (h0 : Leads fp z a0) :
    Leads fp z (State.shardRelay a0 a1 a2 a3 a4) := by
  unfold State.shardRelay
  extract_lets -merge -useContext -underBinder v0 v1 v2
  have kv2 : Leads fp z v2 := by
    dsimp -zeta only [v2]
    exact keeps_put_epochs (hcap.sub rfl) h0
  first | clear_value v2 | skip
  refine keeps_ite ?_ ?_
  · refine keeps_refetch hcap ?_
    exact h0
  · refine keeps_passShard (hcap.sub rfl) ?_
    exact kv2

theorem keeps_shardArrive {fp : Nat} (hcap : Has fp 0x27044002CE) {z : State} {a0 : State} {a1 : Nat}
    {a2 : List Byte} {a3 : Bool} (h0 : Leads fp z a0) :
    Leads fp z (State.shardArrive a0 a1 a2 a3) := by
  unfold State.shardArrive
  split
  · refine keeps_ite ?_ ?_
    · refine keeps_shardIn hcap ?_
      exact h0
    · split
      · refine keeps_ite ?_ ?_
        · refine keeps_shardRelay (hcap.sub rfl) ?_
          exact h0
        · exact h0
      · exact h0
  · refine keeps_ite ?_ ?_
    · refine keeps_shardRelay (hcap.sub rfl) ?_
      exact h0
    · exact h0
  · exact h0

theorem keeps_shardMissing {fp : Nat} (hcap : Has fp 0x270440004E) {z : State} {a0 : State} {a1 : Nat}
    (h0 : Leads fp z a0) :
    Leads fp z (State.shardMissing a0 a1) := by
  unfold State.shardMissing
  split
  · refine keeps_ite ?_ ?_
    · refine keeps_refetch hcap ?_
      exact h0
    · split
      · refine keeps_ite ?_ ?_
        · refine keeps_refetch hcap ?_
          exact h0
        · exact h0
      · exact h0
  · refine keeps_ite ?_ ?_
    · refine keeps_refetch hcap ?_
      exact h0
    · exact h0
  · exact h0

theorem keeps_shardAcked {fp : Nat} (hcap : Has fp 0x4000000) {z : State} {a0 : State} {a1 : Nat}
    (h0 : Leads fp z a0) :
    Leads fp z (State.shardAcked a0 a1) := by
  unfold State.shardAcked
  split
  · refine keeps_ite ?_ ?_
    · exact h0
    · refine keeps_freeSlots hcap ?_
      refine keeps_setLoad hcap ?_
      exact h0
  · exact h0

theorem keeps_shardAsked {fp : Nat} (hcap : Has fp 0x2000000000) {z : State} {a0 : State} {a1 : Nat} {a2 : Bool}
    {a3 : Nat} (h0 : Leads fp z a0) :
    Leads fp z (State.shardAsked a0 a1 a2 a3) := by
  unfold State.shardAsked
  split
  · refine keeps_ite ?_ ?_
    · refine keeps_send hcap ?_
      exact h0
    · exact h0
  · exact h0

theorem keeps_beginLoad {fp : Nat} (hcap : Has fp 0x27044002CE) {z : State} {a0 : State} {a1 : Manifest}
    (h0 : Leads fp z a0) :
    Leads fp z (State.beginLoad a0 a1) := by
  unfold State.beginLoad
  extract_lets -merge -useContext -underBinder v0 v1
  have kv0 : Leads fp z v0 := by
    dsimp -zeta only [v0]
    refine keeps_setLoad (hcap.sub rfl) ?_
    exact h0
  first | clear_value v0 | skip
  have kv1 : Leads fp z v1 := by
    dsimp -zeta only [v1]
    split
    · refine keeps_send (hcap.sub rfl) ?_
      exact kv0
    · exact kv0
  first | clear_value v1 | skip
  refine keeps_loadAdvance hcap ?_
  exact kv1

theorem keeps_ticketManifest {fp : Nat} (hcap : Has fp 0x27044002CE) {z : State} {a0 : State} {a1 : Ticket}
    {a2 : List Byte} (h0 : Leads fp z a0) :
    Leads fp z (State.ticketManifest a0 a1 a2) := by
  unfold State.ticketManifest
  extract_lets -merge -useContext -underBinder v0 v1
  refine keeps_ite ?_ ?_
  · refine keeps_reply (hcap.sub rfl) ?_
    exact keeps_put_serve (hcap.sub rfl) h0
  · refine keeps_beginLoad hcap ?_
    exact h0

theorem keeps_memberManifest {fp : Nat} (hcap : Has fp 0x27044002CE) {z : State} {a0 : State} {a1 : List Byte}
    (h0 : Leads fp z a0) :
    Leads fp z (State.memberManifest a0 a1) := by
  unfold State.memberManifest
  extract_lets -merge -useContext -underBinder v0 v1 v2 v3
  have kv2 : Leads fp z v2 := by
    dsimp -zeta only [v2]
    exact keeps_put_epochs (hcap.sub rfl) h0
  first | clear_value v2 | skip
  have kv3 : Leads fp z v3 := by
    dsimp -zeta only [v3]
    split
    · refine keeps_send (hcap.sub rfl) ?_
      exact kv2
    · exact kv2
  first | clear_value v3 | skip
  refine keeps_ite ?_ ?_
  · exact h0
  · refine keeps_ite ?_ ?_
    · refine keeps_send (hcap.sub rfl) ?_
      exact kv3
    · refine keeps_beginLoad hcap ?_
      exact h0

theorem keeps_verifyFail {fp : Nat} (hcap : Has fp 0x27044002CE) {z : State} {a0 : State} {a1 : Nat} {a2 : Bank}
    (h0 : Leads fp z a0) :
    Leads fp z (State.verifyFail a0 a1 a2) := by
  unfold State.verifyFail
  extract_lets -merge -useContext -underBinder v0
  clear_value v0
  split
  · extract_lets -merge -useContext -underBinder v1
    have kv1 : Leads fp z v1 := by
      dsimp -zeta only [v1]
      refine keeps_setLoad (hcap.sub rfl) ?_
      exact h0
    first | clear_value v1 | skip
    refine keeps_loadAdvance hcap ?_
    exact kv1
  · extract_lets -merge -useContext -underBinder v2 v3
    have kv2 : Leads fp z v2 := by
      dsimp -zeta only [v2]
      refine keeps_setDir (hcap.sub rfl) ?_
      exact h0
    first | clear_value v2 | skip
    have kv3 : Leads fp z v3 := by
      dsimp -zeta only [v3]
      refine keeps_programRecord (hcap.sub rfl) ?_
      exact kv2
    first | clear_value v3 | skip
    split
    · refine keeps_ite ?_ ?_
      · refine keeps_failLoad (hcap.sub rfl) ?_
        exact kv3
      · exact kv3
    · exact kv3

theorem keeps_verify {fp : Nat} (hcap : Has fp 0x27044002CE) {z : State} {a0 : State} {a1 : Nat} {a2 : Bank}
    {a3 : Bool} (h0 : Leads fp z a0) :
    Leads fp z (State.verify a0 a1 a2 a3) := by
  unfold State.verify
  extract_lets -merge -useContext -underBinder v0
  have kv0 : Leads fp z v0 := by
    dsimp -zeta only [v0]
    refine keeps_setDir (hcap.sub rfl) ?_
    exact h0
  first | clear_value v0 | skip
  refine keeps_ite ?_ ?_
  · exact h0
  · refine keeps_ite ?_ ?_
    · refine keeps_verifyFail hcap ?_
      exact h0
    · split
      · refine keeps_ite ?_ ?_
        · refine keeps_loadAdvance hcap ?_
          refine keeps_reportLoad (hcap.sub rfl) ?_
          refine keeps_freeSlots (hcap.sub rfl) ?_
          refine keeps_setLoad (hcap.sub rfl) ?_
          exact kv0
        · exact kv0
      · exact kv0

theorem keeps_takeReport {fp : Nat} (hcap : Has fp 0x2004000000) {z : State} {a0 : State} {a1 : Nat}
    (h0 : Leads fp z a0) :
    Leads fp z (State.takeReport a0 a1) := by
  unfold State.takeReport
  split
  · refine keeps_ite ?_ ?_
    · refine keeps_reportLoad hcap ?_
      refine keeps_setLoad (hcap.sub rfl) ?_
      exact h0
    · exact h0
  · exact h0

theorem keeps_takeFlip {fp : Nat} (hcap : Has fp 0x4000000) {z : State} {a0 : State} (h0 : Leads fp z a0) :
    Leads fp z (State.takeFlip a0) := by
  unfold State.takeFlip
  split
  · refine keeps_setLoad hcap ?_
    exact h0
  · exact h0

theorem keeps_refreshStart {fp : Nat} (hcap : Has fp 0x27044002CE) {z : State} {a0 : State} {a1 : Nat}
    (h0 : Leads fp z a0) :
    Leads fp z (State.refreshStart a0 a1) := by
  unfold State.refreshStart
  split
  · exact h0
  · extract_lets -merge -useContext -underBinder v0 v1
    refine keeps_ite ?_ ?_
    · exact h0
    · refine keeps_ite ?_ ?_
      · exact keeps_put_epochs (hcap.sub rfl) h0
      · refine keeps_beginLoad hcap ?_
        exact keeps_put_epochs (hcap.sub rfl) h0

theorem keeps_rewriteMaster {fp : Nat} (hcap : Has fp 0xC) {z : State} {a0 : State} {a1 : Nat} {a2 : Bank}
    (h0 : Leads fp z a0) :
    Leads fp z (State.rewriteMaster a0 a1 a2) := by
  unfold State.rewriteMaster
  refine keeps_write hcap ?_
  exact h0

theorem keeps_masterDone {fp : Nat} (hcap : Has fp 0x270040014E) {z : State} {a0 : State} {a1 : Nat}
    (h0 : Leads fp z a0) :
    Leads fp z (State.masterDone a0 a1) := by
  unfold State.masterDone
  split
  · exact h0
  · extract_lets -merge -useContext -underBinder v0
    refine keeps_ite ?_ ?_
    · exact h0
    · refine keeps_ite ?_ ?_
      · refine keeps_setTile (hcap.sub rfl) ?_
        refine keeps_rewriteMaster (hcap.sub rfl) ?_
        exact h0
      · refine keeps_fault (hcap.sub rfl) ?_
        exact h0

theorem keeps_mend {fp : Nat} (hcap : Has fp 0xC) {z : State} {a0 : State} {a1 : Nat} {a2 : Nat} {a3 : Nat}
    (h0 : Leads fp z a0) :
    Leads fp z (State.mend a0 a1 a2 a3).1 := by
  unfold State.mend
  extract_lets -merge -useContext -underBinder v0 v1
  refine keeps_ite1 ?_ ?_
  · refine keeps_mk ?_
    refine keeps_ite ?_ ?_
    · refine keeps_write hcap ?_
      exact h0
    · exact h0
  · refine keeps_ite1 ?_ ?_
    · refine keeps_mk ?_
      refine keeps_write hcap ?_
      exact h0
    · refine keeps_mk ?_
      exact h0

theorem keeps_renewSet {fp : Nat} (hcap : Has fp 0xC) {z : State} {a0 : State} {a1 : Nat} (h0 : Leads fp z a0) :
    Leads fp z (State.renewSet a0 a1) := by
  unfold State.renewSet
  refine keeps_ite ?_ ?_
  · refine keeps_startSet hcap ?_
    refine keeps_write hcap ?_
    exact h0
  · exact h0

theorem keeps_renewMaster {fp : Nat} (hcap : Has fp 0xC) {z : State} {a0 : State} {a1 : Nat} {a2 : Bool}
    (h0 : Leads fp z a0) :
    Leads fp z (State.renewMaster a0 a1 a2).1 := by
  unfold State.renewMaster
  split
  · refine keeps_ite1 ?_ ?_
    · refine keeps_ite1 ?_ ?_
      · refine keeps_mk ?_
        refine keeps_rewriteMaster hcap ?_
        exact h0
      · refine keeps_mk ?_
        exact h0
    · refine keeps_mk ?_
      exact h0
  · refine keeps_mk ?_
    exact h0

theorem keeps_restoreTile {fp : Nat} (hcap : Has fp 0xC) {z s : State} {t : Nat} (h : Leads fp z s) : Leads fp z
    (s.restoreTile t).1 := by
  have e : s.restoreTile t = (((s.mend t 0 0x1400).1.mend t 0x2400 0x6C00).1.renewSet t).renewMaster t
      ((s.mend t 0 0x1400).2 && ((s.mend t 0 0x1400).1.mend t 0x2400 0x6C00).2) := rfl
  rw [e]
  exact keeps_renewMaster hcap (keeps_renewSet hcap (keeps_mend hcap (keeps_mend hcap h)))

theorem keeps_restoreEnd {fp : Nat} (hcap : Has fp 0x40010C) {z : State} {a0 : State} {a1 : Nat} {a2 : Bool}
    (h0 : Leads fp z a0) :
    Leads fp z (State.restoreEnd a0 a1 a2) := by
  unfold State.restoreEnd
  refine keeps_ite ?_ ?_
  · exact h0
  · split
    rename_i x0 x1 e6
    have kx0 : Leads fp z x0 := by
      refine keeps_eq1 e6 ?_
      refine keeps_restoreTile (hcap.sub rfl) ?_
      exact h0
    extract_lets -merge -useContext -underBinder v2 v3 v4 v5
    have kv4 : Leads fp z v4 := by
      dsimp -zeta only [v4]
      refine keeps_setTile (hcap.sub rfl) ?_
      exact h0
    first | clear_value v4 | skip
    refine keeps_ite ?_ ?_
    · refine keeps_setTile (hcap.sub rfl) ?_
      exact kx0
    · exact keeps_put_serve (hcap.sub rfl) kv4

theorem leads_execBankVerify {fp : Nat} (hcap : Has fp 0x27044002CE) {z t : State} {a0 : TileId} {a1 : Bank}
    {a2 : Bool} {a3 : State} (h3 : Leads fp z a3) (e : (execBankVerify a0 a1 a2 a3) = .next t) :
    Leads fp z t := by
  unfold execBankVerify at e
  injection e with e
  subst e
  refine keeps_verify hcap ?_
  exact h3

theorem leads_execDriftRefreshStart {fp : Nat} (hcap : Has fp 0x27044002CE) {z t : State} {a0 : TileId}
    {a1 : State} (h1 : Leads fp z a1) (e : (execDriftRefreshStart a0 a1) = .next t) :
    Leads fp z t := by
  unfold execDriftRefreshStart at e
  injection e with e
  subst e
  refine keeps_refreshStart hcap ?_
  exact h1

theorem leads_execShardArrival {fp : Nat} (hcap : Has fp 0x27044002CE) {z t : State} {a0 : Nat} {a1 : List Byte}
    {a2 : Bool} {a3 : State} (h3 : Leads fp z a3) (e : (execShardArrival a0 a1 a2 a3) = .next t) :
    Leads fp z t := by
  unfold execShardArrival at e
  injection e with e
  subst e
  refine keeps_shardArrive hcap ?_
  exact h3

theorem leads_execShardAck {fp : Nat} (hcap : Has fp 0x4000000) {z t : State} {a0 : Nat} {a1 : State}
    (h1 : Leads fp z a1) (e : (execShardAck a0 a1) = .next t) :
    Leads fp z t := by
  unfold execShardAck at e
  injection e with e
  subst e
  refine keeps_shardAcked hcap ?_
  exact h1

theorem leads_execShardTimeout {fp : Nat} (hcap : Has fp 0x270440004E) {z t : State} {a0 : Nat} {a1 : State}
    (h1 : Leads fp z a1) (e : (execShardTimeout a0 a1) = .next t) :
    Leads fp z t := by
  unfold execShardTimeout at e
  injection e with e
  subst e
  refine keeps_shardMissing hcap ?_
  exact h1

theorem leads_execShardRefetchRequest {fp : Nat} (hcap : Has fp 0x2000000000) {z t : State} {a0 : Nat}
    {a1 : Bool} {a2 : Bool} {a3 : Node} {a4 : State} (h4 : Leads fp z a4) (e :
    (execShardRefetchRequest a0 a1 a2 a3 a4) = .next t) :
    Leads fp z t := by
  unfold execShardRefetchRequest at e
  injection e with e
  subst e
  refine keeps_shardAsked hcap ?_
  exact h4

theorem leads_execVerifiedReport {fp : Nat} (hcap : Has fp 0x2004000000) {z t : State} {a0 : Node} {a1 : State}
    (h1 : Leads fp z a1) (e : (execVerifiedReport a0 a1) = .next t) :
    Leads fp z t := by
  unfold execVerifiedReport at e
  injection e with e
  subst e
  refine keeps_takeReport hcap ?_
  exact h1

theorem leads_execFlipCommand {fp : Nat} (hcap : Has fp 0x4000000) {z t : State} {a0 : State}
    (h0 : Leads fp z a0) (e : (execFlipCommand a0) = .next t) :
    Leads fp z t := by
  unfold execFlipCommand at e
  injection e with e
  subst e
  refine keeps_takeFlip hcap ?_
  exact h0

theorem leads_execMasterRewriteDone {fp : Nat} (hcap : Has fp 0x270040014E) {z t : State} {a0 : TileId}
    {a1 : State} (h1 : Leads fp z a1) (e : (execMasterRewriteDone a0 a1) = .next t) :
    Leads fp z t := by
  unfold execMasterRewriteDone at e
  injection e with e
  subst e
  refine keeps_masterDone hcap ?_
  exact h1

theorem leads_execWeightScopeRestoreDone {fp : Nat} (hcap : Has fp 0x40010C) {z t : State} {a0 : TileId}
    {a1 : Bool} {a2 : State} (h2 : Leads fp z a2) (e : (execWeightScopeRestoreDone a0 a1 a2) = .next t) :
    Leads fp z t := by
  unfold execWeightScopeRestoreDone at e
  injection e with e
  subst e
  refine keeps_restoreEnd hcap ?_
  exact h2

/-! ### Endorse -/

theorem keeps_putEndo {fp : Nat} (hcap : Has fp 0x800000C) {z : State} {a0 : State} {a1 : Nat} {a2 : EndoEntry}
    (h0 : Leads fp z a0) :
    Leads fp z (State.putEndo a0 a1 a2) := by
  unfold State.putEndo
  refine keeps_write (hcap.sub rfl) ?_
  refine keeps_setEndo (hcap.sub rfl) ?_
  exact h0

theorem keeps_evict {fp : Nat} (hcap : Has fp 0x1800000C) {z : State} {a0 : State} {a1 : Nat} {a2 : CacheEntry}
    (h0 : Leads fp z a0) :
    Leads fp z (State.evict a0 a1 a2) := by
  unfold State.evict
  extract_lets -merge -useContext -underBinder v0 v1
  have kv1 : Leads fp z v1 := by
    dsimp -zeta only [v1]
    exact keeps_put_cache (hcap.sub rfl) h0
  first | clear_value v1 | skip
  refine keeps_putEndo (hcap.sub rfl) ?_
  exact kv1

theorem keeps_makeRoom {fp : Nat} (hcap : Has fp 0x1800000C) {z : State} {k : Nat} : ∀ {n : Nat}
    {s : State}, Leads fp z s → ∀ r, s.makeRoom k n = some r → Leads fp z r.1
  | 0, _, _, r, e => by unfold State.makeRoom at e; exact absurd e (by simp)
  | n + 1, s, h, r, e => by
    unfold State.makeRoom at e
    dsimp only at e
    split at e
    · injection e with e; subst e; exact h
    · split at e
      · exact keeps_makeRoom hcap (n := n) (keeps_evict hcap h) r e
      · exact absurd e (by simp)

theorem keeps_fetchEndo {fp : Nat} (hcap : Has fp 0x201800000C) {z s : State} {n : Nat}
    (h : Leads fp z s) : Leads fp z (s.fetchEndo n) := by
  unfold State.fetchEndo
  extract_lets -merge -useContext -underBinder x
  refine keeps_ite h ?_
  split
  · exact h
  · rename_i t c v b e
    have k : Leads fp z t := keeps_makeRoom (hcap.sub rfl) h _ e
    extract_lets -merge -useContext -underBinder s1 w s2
    have h1 : Leads fp z s1 := keeps_put_cache (hcap.sub rfl) k
    have h2 : Leads fp z s2 := by
      dsimp -zeta only [s2]
      exact keeps_putEndo (hcap.sub rfl) h1
    split
    · exact keeps_ite (keeps_send (hcap.sub rfl) h2) h2
    · exact h2

theorem keeps_endoFetched {fp : Nat} (hcap : Has fp 0x271840004E) {z : State} {a0 : State} {a1 : Nat}
    {a2 : Bool} {a3 : List Byte} (h0 : Leads fp z a0) :
    Leads fp z (State.endoFetched a0 a1 a2 a3) := by
  unfold State.endoFetched
  extract_lets -merge -useContext -underBinder v0
  split
  · exact h0
  · extract_lets -merge -useContext -underBinder v1 v2 v3
    have kv2 : Leads fp z v2 := by
      dsimp -zeta only [v2]
      exact keeps_put_cache (hcap.sub rfl) h0
    first | clear_value v2 | skip
    have kv3 : Leads fp z v3 := by
      dsimp -zeta only [v3]
      refine keeps_fault (hcap.sub rfl) ?_
      exact kv2
    first | clear_value v3 | skip
    refine keeps_ite ?_ ?_
    · exact h0
    · refine keeps_ite ?_ ?_
      · refine keeps_putEndo (hcap.sub rfl) ?_
        refine keeps_write (hcap.sub rfl) ?_
        exact h0
      · refine keeps_putEndo (hcap.sub rfl) ?_
        exact kv3

theorem keeps_dropCached {fp : Nat} (hcap : Has fp 0x10000000) {z : State} {a0 : State} {a1 : Nat}
    (h0 : Leads fp z a0) :
    Leads fp z (State.dropCached a0 a1) := by
  unfold State.dropCached
  split
  · exact keeps_put_cache hcap h0
  · exact h0

theorem keeps_registerEndo {fp : Nat} (hcap : Has fp 0x201840000C) {z s : State} {t : Ticket} {img : List Byte}
    (h : Leads fp z s) : Leads fp z (s.registerEndo t img) := by
  unfold State.registerEndo
  extract_lets -merge -useContext -underBinder n m x refuse s1 s2
  have hr : ∀ st, Leads fp z (refuse st) := by
    intro st
    refine keeps_reply (hcap.sub rfl) (keeps_ite (keeps_putEndo (hcap.sub rfl) (keeps_put_serve (hcap.sub rfl) h)) (keeps_put_serve (hcap.sub rfl) h))
  refine keeps_ite (hr _) (keeps_ite (hr _) ?_)
  have h2 : Leads fp z s2 := keeps_putEndo (hcap.sub rfl) (keeps_dropCached (hcap.sub rfl) h)
  exact keeps_ite (keeps_fetchEndo (hcap.sub rfl) h2) h2

theorem keeps_recheck {fp : Nat} (hcap : Has fp 0x270840004E) {z : State} {a0 : State} {a1 : Nat}
    (h0 : Leads fp z a0) :
    Leads fp z (State.recheck a0 a1) := by
  unfold State.recheck
  extract_lets -merge -useContext -underBinder v0
  split
  · exact h0
  · extract_lets -merge -useContext -underBinder v1
    refine keeps_ite ?_ ?_
    · exact h0
    · split
      · refine keeps_putEndo (hcap.sub rfl) ?_
        exact h0
      · extract_lets -merge -useContext -underBinder v2 v3 v4 v5
        have kv2 : Leads fp z v2 := by
          dsimp -zeta only [v2]
          refine keeps_fault (hcap.sub rfl) ?_
          exact h0
        first | clear_value v2 | skip
        have kv4 : Leads fp z v4 := by
          dsimp -zeta only [v4]
          refine keeps_event (hcap.sub rfl) ?_
          exact kv2
        first | clear_value v4 | skip
        exact keeps_put_serve (hcap.sub rfl) kv4

theorem keeps_manifestIn {fp : Nat} (hcap : Has fp 0x271C4002CE) {z : State} {a0 : State} {a1 : List Byte}
    (h0 : Leads fp z a0) :
    Leads fp z (State.manifestIn a0 a1) := by
  unfold State.manifestIn
  split
  · refine keeps_ticketManifest (hcap.sub rfl) ?_
    exact h0
  · split
    · refine keeps_ite ?_ ?_
      · refine keeps_registerEndo (hcap.sub rfl) ?_
        exact h0
      · refine keeps_memberManifest (hcap.sub rfl) ?_
        exact h0
    · refine keeps_memberManifest (hcap.sub rfl) ?_
      exact h0

theorem leads_execEndoFetchComplete {fp : Nat} (hcap : Has fp 0x271840004E) {z t : State} {a0 : Nat} {a1 : Bool}
    {a2 : List Byte} {a3 : State} (h3 : Leads fp z a3) (e : (execEndoFetchComplete a0 a1 a2 a3) = .next t) :
    Leads fp z t := by
  unfold execEndoFetchComplete at e
  injection e with e
  subst e
  refine keeps_endoFetched hcap ?_
  exact h3

theorem leads_execEndoRecheck {fp : Nat} (hcap : Has fp 0x270840004E) {z t : State} {a0 : Nat} {a1 : State}
    (h1 : Leads fp z a1) (e : (execEndoRecheck a0 a1) = .next t) :
    Leads fp z t := by
  unfold execEndoRecheck at e
  injection e with e
  subst e
  refine keeps_recheck hcap ?_
  exact h1

theorem leads_execManifestArrival {fp : Nat} (hcap : Has fp 0x271C4002CE) {z t : State} {a0 : List Byte}
    {a1 : State} (h1 : Leads fp z a1) (e : (execManifestArrival a0 a1) = .next t) :
    Leads fp z t := by
  unfold execManifestArrival at e
  injection e with e
  subst e
  refine keeps_manifestIn hcap ?_
  exact h1

/-! ### ProbeOps -/

theorem keeps_installSet {fp : Nat} (hcap : Has fp 0x2480400040) {z : State} {a0 : State} {a1 : List Byte}
    (h0 : Leads fp z a0) :
    Leads fp z (State.installSet a0 a1).1 := by
  unfold State.installSet
  extract_lets -merge -useContext -underBinder v0 v1 v2 v3 v4 v5 v6 v7
  have kv4 : Leads fp z v4 := by
    dsimp -zeta only [v4]
    exact h0.on (k := 0x400000040) (hcap.sub rfl) (fun _ _ h0 => h0)
      (fun p e => by cases p <;> first | exact absurd e (by decide) | rfl)
  first | clear_value v4 | skip
  have kv5 : Leads fp z v5 := by
    dsimp -zeta only [v5]
    refine keeps_extend (hcap.sub rfl) ?_
    exact kv4
  first | clear_value v5 | skip
  have kv6 : Leads fp z v6 := by
    dsimp -zeta only [v6]
    refine keeps_eventAll (hcap.sub rfl) ?_
    exact kv5
  first | clear_value v6 | skip
  have kv7 : Leads fp z v7 := by
    dsimp -zeta only [v7]
    refine keeps_ite ?_ ?_
    · refine keeps_foldl ?_ ?_
      · intro y8 hy8 y9
        refine keeps_ite ?_ ?_
        · refine keeps_send (hcap.sub rfl) ?_
          exact hy8
        · exact hy8
      · exact kv6
    · exact kv6
  first | clear_value v7 | skip
  refine keeps_ite1 ?_ ?_
  · refine keeps_mk ?_
    exact h0
  · refine keeps_ite1 ?_ ?_
    · refine keeps_mk ?_
      exact h0
    · refine keeps_mk ?_
      exact kv7

theorem keeps_probeBegin {fp : Nat} (hcap : Has fp 0x400000002) {z : State} {a0 : State} {a1 : Nat}
    (h0 : Leads fp z a0) :
    Leads fp z (State.probeBegin a0 a1) := by
  unfold State.probeBegin
  split
  · exact h0
  · extract_lets -merge -useContext -underBinder v0 v1 v2
    have kv2 : Leads fp z v2 := by
      dsimp -zeta only [v2]
      exact keeps_put_probes (hcap.sub rfl) h0
    first | clear_value v2 | skip
    refine keeps_ite ?_ ?_
    · exact h0
    · split
      · exact kv2
      · extract_lets -merge -useContext -underBinder v3 v4 v5
        refine keeps_ite ?_ ?_
        · exact kv2
        · refine keeps_bump (hcap.sub rfl) ?_
          exact keeps_put_probes (hcap.sub rfl) kv2

theorem keeps_probedAll {fp : Nat} (hcap : Has fp 0x400000040) {z : State} {a0 : State} {a1 : Nat × Nat × Nat}
    (h0 : Leads fp z a0) :
    Leads fp z (State.probedAll a0 a1) := by
  unfold State.probedAll
  extract_lets -merge -useContext -underBinder v0 v1 v2
  exact h0.on (k := 0x400000040) hcap (fun _ _ h0 => h0)
    (fun p e => by cases p <;> first | exact absurd e (by decide) | rfl)

theorem keeps_probeEnd {fp : Nat} (hcap : Has fp 0x270040004E) {z : State} {a0 : State} {a1 : Nat} {a2 : Bool}
    {a3 : Nat} (h0 : Leads fp z a0) :
    Leads fp z (State.probeEnd a0 a1 a2 a3) := by
  unfold State.probeEnd
  split
  · extract_lets -merge -useContext -underBinder v0 v1 v2 v3 v4 v5 v6 v7
    have kv3 : Leads fp z v3 := by
      dsimp -zeta only [v3]
      exact keeps_put_probes (hcap.sub rfl) h0
    first | clear_value v3 | skip
    have kv6 : Leads fp z v6 := by
      dsimp -zeta only [v6]
      refine keeps_ite ?_ ?_
      · exact kv3
      · refine keeps_faultWith hcap ?_
        refine keeps_bump (hcap.sub rfl) ?_
        exact kv3
    first | clear_value v6 | skip
    refine keeps_ite ?_ ?_
    · exact kv6
    · refine keeps_foldl ?_ ?_
      · intro y8 hy8 y9
        extract_lets -merge -useContext -underBinder v10
        refine keeps_ite ?_ ?_
        · refine keeps_probedAll (hcap.sub rfl) ?_
          exact keeps_put_probes (hcap.sub rfl) hy8
        · exact hy8
      · exact kv6
  · exact h0

theorem keeps_probeSetIn {fp : Nat} (hcap : Has fp 0x400000) {z : State} {a0 : State} {a1 : List Byte}
    (h0 : Leads fp z a0) :
    Leads fp z (State.probeSetIn a0 a1) := by
  unfold State.probeSetIn
  extract_lets -merge -useContext -underBinder v0
  exact keeps_put_serve hcap h0

theorem keeps_flogTail {fp : Nat} (hcap : Has fp 0x2) {z : State} {a0 : State} {a1 : Src} {a2 : Nat}
    (h0 : Leads fp z a0) :
    Leads fp z (State.flogTail a0 a1 a2) := by
  unfold State.flogTail
  extract_lets -merge -useContext -underBinder v0 v1
  refine keeps_ite ?_ ?_
  · refine keeps_setFld hcap ?_
    exact h0
  · exact h0

theorem leads_execProbeStart {fp : Nat} (hcap : Has fp 0x400000002) {z t : State} {a0 : Die} {a1 : State}
    (h1 : Leads fp z a1) (e : (execProbeStart a0 a1) = .next t) :
    Leads fp z t := by
  unfold execProbeStart at e
  injection e with e
  subst e
  refine keeps_probeBegin hcap ?_
  exact h1

theorem leads_execProbeComplete {fp : Nat} (hcap : Has fp 0x270040004E) {z t : State} {a0 : Die} {a1 : Bool}
    {a2 : Nat} {a3 : State} (h3 : Leads fp z a3) (e : (execProbeComplete a0 a1 a2 a3) = .next t) :
    Leads fp z t := by
  unfold execProbeComplete at e
  injection e with e
  subst e
  refine keeps_probeEnd hcap ?_
  exact h3

theorem leads_execProbeSetArrival {fp : Nat} (hcap : Has fp 0x400000) {z t : State} {a0 : List Byte}
    {a1 : State} (h1 : Leads fp z a1) (e : (execProbeSetArrival a0 a1) = .next t) :
    Leads fp z t := by
  unfold execProbeSetArrival at e
  injection e with e
  subst e
  refine keeps_probeSetIn hcap ?_
  exact h1

theorem leads_execFaultLogTailWrite {fp : Nat} (hcap : Has fp 0x2) {z t : State} {a0 : Src} {a1 : BitVec 16}
    {a2 : State} (h2 : Leads fp z a2) (e : (execFaultLogTailWrite a0 a1 a2) = .next t) :
    Leads fp z t := by
  unfold execFaultLogTailWrite at e
  injection e with e
  subst e
  refine keeps_flogTail hcap ?_
  exact h2

/-! ### CharterCheck -/

theorem keeps_takeOver {fp : Nat} (hcap : Has fp 0x1CC) {z : State} {a0 : State} {a1 : Nat} {a2 : Nat}
    {a3 : Nat} (h0 : Leads fp z a0) :
    Leads fp z (State.takeOver a0 a1 a2 a3) := by
  unfold State.takeOver
  extract_lets -merge -useContext -underBinder v0 v1 v2 v3 v4 v5 v6 v7 v8 v9
  have kv4 : Leads fp z v4 := by
    dsimp -zeta only [v4]
    refine keeps_write (hcap.sub rfl) ?_
    exact h0
  first | clear_value v4 | skip
  have kv5 : Leads fp z v5 := by
    dsimp -zeta only [v5]
    refine keeps_write (hcap.sub rfl) ?_
    refine keeps_write (hcap.sub rfl) ?_
    exact kv4
  first | clear_value v5 | skip
  have kv6 : Leads fp z v6 := by
    dsimp -zeta only [v6]
    refine keeps_keepCrc0 (hcap.sub rfl) ?_
    refine keeps_write (hcap.sub rfl) ?_
    exact kv5
  first | clear_value v6 | skip
  have kv8 : Leads fp z v8 := by
    dsimp -zeta only [v8]
    refine keeps_setDir (hcap.sub rfl) ?_
    exact kv6
  first | clear_value v8 | skip
  refine keeps_setTile (hcap.sub rfl) ?_
  exact kv8

theorem keeps_mirrorBank {fp : Nat} (hcap : Has fp 0xCC) {z : State} {a0 : State} {a1 : Nat} {a2 : Nat}
    {a3 : Nat} (h0 : Leads fp z a0) :
    Leads fp z (State.mirrorBank a0 a1 a2 a3) := by
  unfold State.mirrorBank
  extract_lets -merge -useContext -underBinder v0 v1 v2
  have kv2 : Leads fp z v2 := by
    dsimp -zeta only [v2]
    refine keeps_keepCrc0 (hcap.sub rfl) ?_
    refine keeps_write (hcap.sub rfl) ?_
    exact h0
  first | clear_value v2 | skip
  refine keeps_setDir (hcap.sub rfl) ?_
  exact kv2

theorem keeps_checkPrograms_ {fp : Nat} (hcap : Has fp 0x1CC) {z : State} {a0 : State} {a1 : Nat}
    (h0 : Leads fp z a0) :
    Leads fp z (State.checkPrograms_ a0 a1) := by
  unfold State.checkPrograms_
  extract_lets -merge -useContext -underBinder v0 v1 v2
  have kv1 : Leads fp z v1 := by
    dsimp -zeta only [v1]
    refine keeps_foldl ?_ ?_
    · intro y3 hy3 y4
      split
      · refine keeps_ite ?_ ?_
        · refine keeps_takeOver hcap ?_
          exact hy3
        · exact hy3
      · exact hy3
    · exact h0
  first | clear_value v1 | skip
  have kv2 : Leads fp z v2 := by
    dsimp -zeta only [v2]
    refine keeps_ite ?_ ?_
    · refine keeps_foldl ?_ ?_
      · intro y5 hy5 y6
        split
        · refine keeps_ite ?_ ?_
          · refine keeps_mirrorBank (hcap.sub rfl) ?_
            exact hy5
          · exact hy5
        · exact hy5
      · exact kv1
    · exact kv1
  first | clear_value v2 | skip
  refine keeps_ite ?_ ?_
  · exact kv2
  · refine keeps_foldl ?_ ?_
    · intro y7 hy7 y8
      split
      · extract_lets -merge -useContext -underBinder v9
        refine keeps_ite ?_ ?_
        · refine keeps_setTile (hcap.sub rfl) ?_
          refine keeps_write (hcap.sub rfl) ?_
          exact hy7
        · exact hy7
      · exact hy7
    · exact kv2

theorem keeps_stageEnd {fp : Nat} (hcap : Has fp 0x4001CC) {z : State} {a0 : State} {a1 : List Byte} {a2 : Bool}
    (h0 : Leads fp z a0) :
    Leads fp z (State.stageEnd a0 a1 a2) := by
  unfold State.stageEnd
  split
  · exact h0
  · extract_lets -merge -useContext -underBinder v0 v1 v2 v3 v4 v5
    have kv3 : ∀ y0, Leads fp z y0 → ∀ y1, ∀ y2, Leads fp z (v3 y0 y1 y2) := by
      dsimp -zeta only [v3]
      intro y6 hy6 y7 y8
      extract_lets -merge -useContext -underBinder v9
      exact keeps_put_serve (hcap.sub rfl) hy6
    first | clear_value v3 | skip
    have kv5 : Leads fp z v5 := by
      dsimp -zeta only [v5]
      refine keeps_write (hcap.sub rfl) ?_
      exact h0
    first | clear_value v5 | skip
    refine keeps_ite ?_ ?_
    · exact h0
    · refine keeps_ite ?_ ?_
      · exact keeps_put_serve (hcap.sub rfl) h0
      · split
        · refine kv3 _ ?_ _ _
          refine keeps_ite ?_ ?_
          · refine keeps_checkPrograms_ (hcap.sub rfl) ?_
            exact kv5
          · exact kv5

theorem leads_execCharterReady {fp : Nat} (hcap : Has fp 0x4001CC) {z t : State} {a0 : List Byte} {a1 : Bool}
    {a2 : State} (h2 : Leads fp z a2) (e : (execCharterReady a0 a1 a2) = .next t) :
    Leads fp z t := by
  unfold execCharterReady at e
  injection e with e
  subst e
  refine keeps_stageEnd hcap ?_
  exact h2

/-! ### Sampling -/

theorem keeps_putToken {fp : Nat} (hcap : Has fp 0xC) {z : State} {a0 : State} {a1 : Job} {a2 : Operand}
    {a3 : Nat} {a4 : Nat} (h0 : Leads fp z a0) :
    Leads fp z (State.putToken a0 a1 a2 a3 a4) := by
  unfold State.putToken
  refine keeps_onDies ?_ ?_
  · exact h0
  · intro y0 hy0 y1
    refine keeps_writeNat hcap ?_
    exact hy0

theorem keeps_sampleWork {fp : Nat} (hcap : Has fp 0x270040004E) {z : State} {a0 : Job} {a1 : State}
    (h1 : Leads fp z a1) :
    Leads fp z (sampleWork a0 a1).state := by
  unfold sampleWork
  extract_lets -merge -useContext -underBinder v0 v1 v2 v3
  refine keeps_iteD ?_ ?_
  · refine keeps_failed ?_
    exact h1
  · refine keeps_iteD ?_ ?_
    · refine keeps_failed ?_
      exact h1
    · refine keeps_iteD ?_ ?_
      · refine keeps_failed ?_
        exact h1
      · split
        · refine keeps_done ?_
          exact h1
        · refine keeps_iteD ?_ ?_
          · refine keeps_done ?_
            exact h1
          · split
            · extract_lets -merge -useContext -underBinder v4 v5 v6
              have kv4 : Leads fp z v4 := by
                dsimp -zeta only [v4]
                refine keeps_addRec (hcap.sub rfl) ?_
                exact h1
              first | clear_value v4 | skip
              refine keeps_iteD ?_ ?_
              · refine keeps_done ?_
                refine keeps_poisonRows (hcap.sub rfl) ?_
                exact kv4
              · split
                · refine keeps_done ?_
                  refine keeps_poisonRows (hcap.sub rfl) ?_
                  refine keeps_fault hcap ?_
                  exact kv4
                · refine keeps_done ?_
                  refine keeps_markRows (hcap.sub rfl) ?_
                  refine keeps_putToken (hcap.sub rfl) ?_
                  exact kv4

theorem leads_execSample {fp : Nat} (hcap : Has fp 0x270047004E) {z t : State} {a0 : EngUnit} {a1 : Bool}
    {a2 : State} (h2 : Leads fp z a2) (e : (execSample a0 a1 a2) = .next t) :
    Leads fp z t := by
  unfold execSample at e
  injection e with e
  subst e
  refine keeps_issue hcap ?_ ?_
  · exact h2
  · intro y0 y1 hy1
    refine keeps_sampleWork (hcap.sub rfl) ?_
    exact hy1

end Sys2Proof.Machine
end

