-- ==== Sys2Proof/Laws/LeadsServe.lean ====
section
/-! SUPPORT. Every operation of the posting Clerk leads on from its state: one lemma each. -/

namespace Sys2Proof.Machine

/-! ### Ledger -/

theorem keeps_logToken {fp : Nat} (hcap : Has fp 0xC) {z : State} {a0 : State} {a1 : Nat} {a2 : Nat} {a3 : Nat}
    (h0 : Leads fp z a0) :
    Leads fp z (State.logToken a0 a1 a2 a3) := by
  unfold State.logToken
  refine keeps_writeNat hcap ?_
  exact h0

theorem keeps_placeRegion {fp : Nat} (hcap : Has fp 0x1800000) {z : State} {a0 : State} {a1 : Nat} {a2 : Nat}
    (h0 : Leads fp z a0) :
    Leads fp z (State.placeRegion a0 a1 a2) := by
  unfold State.placeRegion
  extract_lets -merge -useContext -underBinder v0
  refine keeps_foldl ?_ ?_
  · intro y1 hy1 y2
    extract_lets -merge -useContext -underBinder v3
    refine keeps_setFolio (hcap.sub rfl) ?_
    exact hy1
  · refine keeps_setSeq (hcap.sub rfl) ?_
    exact h0

theorem keeps_freeRegion {fp : Nat} (hcap : Has fp 0x3000000) {z : State} {a0 : State} {a1 : Nat}
    (h0 : Leads fp z a0) :
    Leads fp z (State.freeRegion a0 a1) := by
  unfold State.freeRegion
  extract_lets -merge -useContext -underBinder v0
  exact h0.on (k := 0x3000000) hcap (fun _ _ h0 => h0)
    (fun p e => by cases p <;> first | exact absurd e (by decide) | rfl)

theorem keeps_moveRegions {fp : Nat} (hcap : Has fp 0x1800000) {z : State} {a0 : State} (h0 : Leads fp z a0) :
    Leads fp z (State.moveRegions a0) := by
  unfold State.moveRegions
  extract_lets -merge -useContext -underBinder v0 v1 v2
  have kv0 : ∀ y0, Leads fp z y0.1 → ∀ y1, Leads fp z (v0 y0 y1).1 := by
    dsimp -zeta only [v0]
    intro y3 hy3 y4
    extract_lets -merge -useContext -underBinder v5 v6
    refine keeps_mk ?_
    refine keeps_setSeq (hcap.sub rfl) ?_
    exact hy3
  first | clear_value v0 | skip
  have kv1 : Leads fp z v1.1 := by
    dsimp -zeta only [v1]
    refine keeps_foldl1 ?_ ?_
    · intro y7 hy7 y8
      refine kv0 _ ?_ _
      exact hy7
    · refine keeps_mk ?_
      exact h0
  first | clear_value v1 | skip
  have kv2 : Leads fp z v2 := by
    dsimp -zeta only [v2]
    exact kv1
  first | clear_value v2 | skip
  exact keeps_put_folio (hcap.sub rfl) kv2

theorem keeps_compact {fp : Nat} (hcap : Has fp 0x1800002) {z : State} {a0 : State} (h0 : Leads fp z a0) :
    Leads fp z (State.compact a0) := by
  unfold State.compact
  extract_lets -merge -useContext -underBinder v0 v1
  have kv1 : Leads fp z v1 := by
    dsimp -zeta only [v1]
    refine keeps_foldl ?_ ?_
    · intro y2 hy2 y3
      refine keeps_bump (hcap.sub rfl) ?_
      exact hy2
    · refine keeps_moveRegions (hcap.sub rfl) ?_
      exact h0
  first | clear_value v1 | skip
  refine keeps_ite ?_ ?_
  · exact h0
  · refine keeps_foldl ?_ ?_
    · intro y4 hy4 y5
      split
      · refine keeps_placeRegion (hcap.sub rfl) ?_
        exact hy4
      · exact hy4
    · exact kv1

theorem keeps_say {fp : Nat} (hcap : Has fp 0x400000) {z : State} {a0 : State} {a1 : Nat} {a2 : Entry}
    (h0 : Leads fp z a0) :
    Leads fp z (State.say a0 a1 a2) := by
  unfold State.say
  extract_lets -merge -useContext -underBinder v0 v1
  exact keeps_put_serve hcap h0

theorem keeps_endSeq {fp : Nat} (hcap : Has fp 0xC00000) {z : State} {a0 : State} {a1 : Nat} {a2 : Nat}
    (h0 : Leads fp z a0) :
    Leads fp z (State.endSeq a0 a1 a2) := by
  unfold State.endSeq
  extract_lets -merge -useContext -underBinder v0 v1 v2
  have kv1 : Leads fp z v1 := by
    dsimp -zeta only [v1]
    split
    · refine keeps_reply (hcap.sub rfl) ?_
      exact h0
    · exact h0
  first | clear_value v1 | skip
  have kv2 : Leads fp z v2 := by
    dsimp -zeta only [v2]
    refine keeps_say (hcap.sub rfl) ?_
    exact kv1
  first | clear_value v2 | skip
  refine keeps_ite ?_ ?_
  · exact h0
  · refine keeps_setSeq (hcap.sub rfl) ?_
    exact kv2

theorem keeps_freeSeq {fp : Nat} (hcap : Has fp 0xBC0000C) {z : State} {a0 : State} {a1 : Nat} (h0 : Leads fp z a0) :
    Leads fp z (State.freeSeq a0 a1) := by
  unfold State.freeSeq
  extract_lets -merge -useContext -underBinder v0 v1 v2 v3 v4 v5 v6 v7
  have kv1 : Leads fp z v1 := by
    dsimp -zeta only [v1]
    refine keeps_freeRegion (hcap.sub rfl) ?_
    exact h0
  first | clear_value v1 | skip
  have kv2 : Leads fp z v2 := by
    dsimp -zeta only [v2]
    split
    · extract_lets -merge -useContext -underBinder v8
      refine keeps_putEndo (hcap.sub rfl) ?_
      exact kv1
    · exact kv1
  first | clear_value v2 | skip
  have kv5 : Leads fp z v5 := by
    dsimp -zeta only [v5]
    exact keeps_put_serve (hcap.sub rfl) kv2
  first | clear_value v5 | skip
  have kv7 : Leads fp z v7 := by
    dsimp -zeta only [v7]
    refine keeps_setSeq (hcap.sub rfl) ?_
    exact kv5
  first | clear_value v7 | skip
  refine keeps_ite ?_ ?_
  · refine keeps_eventAll (hcap.sub rfl) ?_
    exact kv7
  · exact kv7

theorem keeps_retireNow {fp : Nat} (hcap : Has fp 0xBC0000C) {z : State} {a0 : State} {a1 : Nat} {a2 : Nat}
    (h0 : Leads fp z a0) :
    Leads fp z (State.retireNow a0 a1 a2) := by
  unfold State.retireNow
  refine keeps_ite ?_ ?_
  · exact h0
  · refine keeps_freeSeq hcap ?_
    refine keeps_endSeq (hcap.sub rfl) ?_
    exact h0

theorem keeps_parkSeq {fp : Nat} (hcap : Has fp 0xC00000) {z : State} {a0 : State} {a1 : Nat} {a2 : Nat}
    (h0 : Leads fp z a0) :
    Leads fp z (State.parkSeq a0 a1 a2) := by
  unfold State.parkSeq
  extract_lets -merge -useContext -underBinder v0 v1 v2
  have kv2 : Leads fp z v2 := by
    dsimp -zeta only [v2]
    refine keeps_say (hcap.sub rfl) ?_
    exact h0
  first | clear_value v2 | skip
  refine keeps_setSeq (hcap.sub rfl) ?_
  exact kv2

theorem keeps_completeSeq {fp : Nat} (hcap : Has fp 0xC00000) {z : State} {a0 : State} {a1 : Nat} {a2 : Nat}
    (h0 : Leads fp z a0) :
    Leads fp z (State.completeSeq a0 a1 a2) := by
  unfold State.completeSeq
  refine keeps_ite ?_ ?_
  · refine keeps_parkSeq hcap ?_
    exact h0
  · refine keeps_endSeq hcap ?_
    exact h0

theorem keeps_dropFolio {fp : Nat} (hcap : Has fp 0x1800002) {z : State} {a0 : State} {a1 : Nat} {a2 : Nat}
    (h0 : Leads fp z a0) :
    Leads fp z (State.dropFolio a0 a1 a2) := by
  unfold State.dropFolio
  extract_lets -merge -useContext -underBinder v0 v1 v2 v3 v4
  have kv2 : Leads fp z v2 := by
    dsimp -zeta only [v2]
    refine keeps_setFolio (hcap.sub rfl) ?_
    exact h0
  first | clear_value v2 | skip
  have kv4 : Leads fp z v4 := by
    dsimp -zeta only [v4]
    refine keeps_ite ?_ ?_
    · refine keeps_setSeq (hcap.sub rfl) ?_
      exact kv2
    · exact kv2
  first | clear_value v4 | skip
  refine keeps_foldl ?_ ?_
  · intro y5 hy5 y6
    refine keeps_bump (hcap.sub rfl) ?_
    exact hy5
  · exact kv4

theorem keeps_nextWindow {fp : Nat} (hcap : Has fp 0x1800002) {z : State} {a0 : State} {a1 : Nat} {a2 : Nat}
    (h0 : Leads fp z a0) :
    Leads fp z (State.nextWindow a0 a1 a2) := by
  unfold State.nextWindow
  extract_lets -merge -useContext -underBinder v0
  split
  · refine keeps_setFolio (hcap.sub rfl) ?_
    exact h0
  · refine keeps_dropFolio hcap ?_
    exact h0

theorem keeps_spillsDone {fp : Nat} (hcap : Has fp 0x1800002) {z : State} {a0 : State} {a1 : Nat}
    (h0 : Leads fp z a0) :
    Leads fp z (State.spillsDone a0 a1) := by
  unfold State.spillsDone
  refine keeps_foldl ?_ ?_
  · intro y0 hy0 y1
    extract_lets -merge -useContext -underBinder v2
    refine keeps_ite ?_ ?_
    · refine keeps_nextWindow hcap ?_
      exact hy0
    · refine keeps_ite ?_ ?_
      · refine keeps_setFolio (hcap.sub rfl) ?_
        exact hy0
      · exact hy0
  · exact h0

theorem keeps_lostFolios {fp : Nat} (hcap : Has fp 0x3800002) {z : State} {a0 : State} {a1 : Nat}
    (h0 : Leads fp z a0) :
    Leads fp z (State.lostFolios a0 a1) := by
  unfold State.lostFolios
  extract_lets -merge -useContext -underBinder v0
  have kv0 : Leads fp z v0 := by
    dsimp -zeta only [v0]
    refine keeps_foldl ?_ ?_
    · intro y1 hy1 y2
      refine keeps_dropFolio (hcap.sub rfl) ?_
      exact hy1
    · exact h0
  first | clear_value v0 | skip
  exact keeps_put_staging (hcap.sub rfl) kv0

theorem keeps_fillSeq {fp : Nat} (hcap : Has fp 0x1000000) {z : State} {a0 : State} {a1 : Nat} (h0 : Leads fp z a0) :
    Leads fp z (State.fillSeq a0 a1) := by
  unfold State.fillSeq
  extract_lets -merge -useContext -underBinder v0
  refine keeps_ite ?_ ?_
  · exact h0
  · refine keeps_foldl ?_ ?_
    · intro y1 hy1 y2
      extract_lets -merge -useContext -underBinder v3 v4
      refine keeps_ite ?_ ?_
      · refine keeps_setFolio hcap ?_
        exact hy1
      · exact hy1
    · exact h0

theorem keeps_recomputed {fp : Nat} (hcap : Has fp 0x1000002) {z : State} {a0 : State} {a1 : Nat} {a2 : Nat}
    {a3 : Bool} (h0 : Leads fp z a0) :
    Leads fp z (State.recomputed a0 a1 a2 a3) := by
  unfold State.recomputed
  extract_lets -merge -useContext -underBinder v0 v1
  have kv1 : Leads fp z v1 := by
    dsimp -zeta only [v1]
    refine keeps_setFolio (hcap.sub rfl) ?_
    exact h0
  first | clear_value v1 | skip
  refine keeps_ite ?_ ?_
  · exact h0
  · refine keeps_ite ?_ ?_
    · refine keeps_foldl ?_ ?_
      · intro y2 hy2 y3
        refine keeps_bump (hcap.sub rfl) ?_
        exact hy2
      · exact kv1
    · refine keeps_setFolio (hcap.sub rfl) ?_
      exact h0

theorem keeps_recovery {fp : Nat} (hcap : Has fp 0x800000) {z : State} {a0 : State} {a1 : Nat} {a2 : Nat}
    (h0 : Leads fp z a0) :
    Leads fp z (State.recovery a0 a1 a2) := by
  unfold State.recovery
  extract_lets -merge -useContext -underBinder v0 v1 v2 v3
  refine keeps_setSeq hcap ?_
  exact h0

theorem keeps_spillVictim {fp : Nat} (hcap : Has fp 0x1800002) {z : State} {a0 : State} {a1 : Nat} {a2 : Nat}
    (h0 : Leads fp z a0) :
    Leads fp z (State.spillVictim a0 a1 a2) := by
  unfold State.spillVictim
  split
  · extract_lets -merge -useContext -underBinder v0
    refine keeps_setFolio (hcap.sub rfl) ?_
    exact h0
  · refine keeps_dropFolio hcap ?_
    exact h0

theorem keeps_selectSpills {fp : Nat} (hcap : Has fp 0x1800002) {z : State} {a0 : State} {a1 : Nat}
    (h0 : Leads fp z a0) :
    Leads fp z (State.selectSpills a0 a1) := by
  unfold State.selectSpills
  extract_lets -merge -useContext -underBinder v0 v1
  refine keeps_ite ?_ ?_
  · exact h0
  · refine keeps_foldl ?_ ?_
    · intro y2 hy2 y3
      refine keeps_spillVictim hcap ?_
      exact hy2
    · exact h0

theorem keeps_ledgerActions {fp : Nat} (hcap : Has fp 0xBC0000E) {z : State} {a0 : State} {a1 : Nat} {a2 : List
    (Nat × Bool)} (h0 : Leads fp z a0) :
    Leads fp z (State.ledgerActions a0 a1 a2) := by
  unfold State.ledgerActions
  extract_lets -merge -useContext -underBinder v0 v1 v2 v3 v4
  have kv0 : Leads fp z v0 := by
    dsimp -zeta only [v0]
    refine keeps_spillsDone (hcap.sub rfl) ?_
    exact h0
  first | clear_value v0 | skip
  have kv1 : Leads fp z v1 := by
    dsimp -zeta only [v1]
    refine keeps_foldl ?_ ?_
    · intro y5 hy5 y6
      refine keeps_freeSeq (hcap.sub rfl) ?_
      exact hy5
    · exact kv0
  first | clear_value v1 | skip
  have kv2 : Leads fp z v2 := by
    dsimp -zeta only [v2]
    refine keeps_foldl ?_ ?_
    · intro y7 hy7 y8
      refine keeps_recomputed (hcap.sub rfl) ?_
      exact hy7
    · exact kv1
  first | clear_value v2 | skip
  have kv3 : Leads fp z v3 := by
    dsimp -zeta only [v3]
    refine keeps_foldl ?_ ?_
    · intro y9 hy9 y10
      refine keeps_recovery (hcap.sub rfl) ?_
      refine keeps_fillSeq (hcap.sub rfl) ?_
      exact hy9
    · exact kv2
  first | clear_value v3 | skip
  have kv4 : Leads fp z v4 := by
    dsimp -zeta only [v4]
    refine keeps_selectSpills (hcap.sub rfl) ?_
    exact kv3
  first | clear_value v4 | skip
  refine keeps_foldl ?_ ?_
  · intro y11 hy11 y12
    refine keeps_recovery (hcap.sub rfl) ?_
    exact hy11
  · exact kv4

/-! ### Ladder -/

theorem keeps_setRecFlag {fp : Nat} (hcap : Has fp 0xC) {z : State} {a0 : State} {a1 : Nat} {a2 : Nat}
    {a3 : Bool} (h0 : Leads fp z a0) :
    Leads fp z (State.setRecFlag a0 a1 a2 a3) := by
  unfold State.setRecFlag
  refine keeps_setRec hcap ?_
  exact h0

theorem keeps_watchLayer {fp : Nat} (hcap : Has fp 0xC) {z : State} {a0 : State} {a1 : Nat} {a2 : Bool}
    {a3 : Nat} (h0 : Leads fp z a0) :
    Leads fp z (State.watchLayer a0 a1 a2 a3).1 := by
  unfold State.watchLayer
  extract_lets -merge -useContext -underBinder v0 v1 v2 v3 v4 v5 v6 v7 v8 v9 v10 v11
  have kv9 : Leads fp z v9 := by
    dsimp -zeta only [v9]
    refine keeps_setRec hcap ?_
    exact h0
  first | clear_value v9 | skip
  have kv10 : Leads fp z v10 := by
    dsimp -zeta only [v10]
    refine keeps_ite ?_ ?_
    · refine keeps_setRecFlag hcap ?_
      refine keeps_setRec hcap ?_
      exact kv9
    · exact kv9
  first | clear_value v10 | skip
  have kv11 : Leads fp z v11 := by
    dsimp -zeta only [v11]
    refine keeps_ite ?_ ?_
    · refine keeps_setRecFlag hcap ?_
      refine keeps_setRec hcap ?_
      exact kv10
    · exact kv10
  first | clear_value v11 | skip
  refine keeps_ite1 ?_ ?_
  · refine keeps_mk ?_
    exact h0
  · refine keeps_mk ?_
    exact kv11

theorem keeps_setHold {fp : Nat} (hcap : Has fp 0xC) {z : State} {a0 : State} {a1 : Nat} {a2 : Nat}
    (h0 : Leads fp z a0) :
    Leads fp z (State.setHold a0 a1 a2) := by
  unfold State.setHold
  refine keeps_setRec hcap ?_
  exact h0

theorem keeps_askLayer {fp : Nat} (hcap : Has fp 0x10C) {z : State} {a0 : State} {a1 : Nat} (h0 : Leads fp z a0) :
    Leads fp z (State.askLayer a0 a1).1 := by
  unfold State.askLayer
  extract_lets -merge -useContext -underBinder v0
  split
  rename_i x1 x2 e13
  have kx1 : Leads fp z x1 := by
    refine keeps_eq1 e13 ?_
    refine keeps_watchLayer (hcap.sub rfl) ?_
    exact h0
  split
  rename_i x3 x4 e12
  have kx3 : Leads fp z x3 := by
    refine keeps_eq1 e12 ?_
    refine keeps_watchLayer (hcap.sub rfl) ?_
    exact kx1
  extract_lets -merge -useContext -underBinder v5 v6 v7 v8 v9
  have kv9 : Leads fp z v9 := by
    dsimp -zeta only [v9]
    refine keeps_ite ?_ ?_
    · refine keeps_foldl ?_ ?_
      · intro y10 hy10 y11
        refine keeps_startBurst (hcap.sub rfl) ?_
        exact hy10
      · exact kx3
    · exact kx3
  first | clear_value v9 | skip
  refine keeps_mk ?_
  exact kv9

theorem keeps_askAll {fp : Nat} (hcap : Has fp 0x10C) {z : State} {a0 : State} (h0 : Leads fp z a0) :
    Leads fp z (State.askAll a0).1 := by
  unfold State.askAll
  refine keeps_foldl1 ?_ ?_
  · intro y0 hy0 y1
    split
    rename_i x2 x3 e4
    have kx2 : Leads fp z x2 := by
      refine keeps_eq1 e4 ?_
      refine keeps_askLayer hcap ?_
      exact hy0
    refine keeps_mk ?_
    exact kx2
  · refine keeps_mk ?_
    exact h0

theorem keeps_markDigital {fp : Nat} (hcap : Has fp 0x80) {z : State} {a0 : State} {a1 : Nat} {a2 : Bool}
    (h0 : Leads fp z a0) :
    Leads fp z (State.markDigital a0 a1 a2) := by
  unfold State.markDigital
  refine keeps_foldl ?_ ?_
  · intro y0 hy0 y1
    extract_lets -merge -useContext -underBinder v2
    refine keeps_setDir hcap ?_
    exact hy0
  · exact h0

theorem keeps_setRung {fp : Nat} (hcap : Has fp 0x8C) {z : State} {a0 : State} {a1 : Nat} {a2 : Nat}
    (h0 : Leads fp z a0) :
    Leads fp z (State.setRung a0 a1 a2) := by
  unfold State.setRung
  extract_lets -merge -useContext -underBinder v0 v1
  have kv1 : Leads fp z v1 := by
    dsimp -zeta only [v1]
    refine keeps_setRec (hcap.sub rfl) ?_
    exact h0
  first | clear_value v1 | skip
  refine keeps_ite ?_ ?_
  · refine keeps_markDigital (hcap.sub rfl) ?_
    exact kv1
  · exact kv1

theorem keeps_refuseAsk {fp : Nat} (hcap : Has fp 0xC) {z : State} {a0 : State} {a1 : Nat} (h0 : Leads fp z a0) :
    Leads fp z (State.refuseAsk a0 a1) := by
  unfold State.refuseAsk
  refine keeps_setHold hcap ?_
  refine keeps_addRec hcap ?_
  exact h0

theorem keeps_grantAsk {fp : Nat} (hcap : Has fp 0x8C) {z : State} {a0 : State} {a1 : Nat} (h0 : Leads fp z a0) :
    Leads fp z (State.grantAsk a0 a1) := by
  unfold State.grantAsk
  extract_lets -merge -useContext -underBinder v0 v1
  have kv1 : Leads fp z v1 := by
    dsimp -zeta only [v1]
    refine keeps_setRung hcap ?_
    exact h0
  first | clear_value v1 | skip
  refine keeps_setHold (hcap.sub rfl) ?_
  refine keeps_addRec (hcap.sub rfl) ?_
  exact kv1

theorem keeps_cool {fp : Nat} (hcap : Has fp 0x8C) {z : State} {a0 : State} {a1 : Nat} (h0 : Leads fp z a0) :
    Leads fp z (State.cool a0 a1) := by
  unfold State.cool
  extract_lets -merge -useContext -underBinder v0 v1
  refine keeps_ite ?_ ?_
  · exact h0
  · refine keeps_ite ?_ ?_
    · refine keeps_setHold (hcap.sub rfl) ?_
      refine keeps_setRung hcap ?_
      exact h0
    · refine keeps_setHold (hcap.sub rfl) ?_
      exact h0

theorem keeps_decideAsks {fp : Nat} (hcap : Has fp 0x40008C) {z : State} {a0 : State} {a1 : List (Nat × Nat)}
    (h0 : Leads fp z a0) :
    Leads fp z (State.decideAsks a0 a1) := by
  unfold State.decideAsks
  extract_lets -merge -useContext -underBinder v0 v1 v2 v3 v4 v5 v6 v7 v8 v9 v10
  have kv7 : Leads fp z v7 := by
    dsimp -zeta only [v7]
    refine keeps_foldl ?_ ?_
    · intro y11 hy11 y12
      refine keeps_refuseAsk (hcap.sub rfl) ?_
      exact hy11
    · exact h0
  first | clear_value v7 | skip
  have kv8 : Leads fp z v8 := by
    dsimp -zeta only [v8]
    refine keeps_foldl ?_ ?_
    · intro y13 hy13 y14
      refine keeps_grantAsk (hcap.sub rfl) ?_
      exact hy13
    · exact kv7
  first | clear_value v8 | skip
  have kv9 : Leads fp z v9 := by
    dsimp -zeta only [v9]
    refine keeps_foldl ?_ ?_
    · intro y15 hy15 y16
      refine keeps_ite ?_ ?_
      · exact hy15
      · refine keeps_cool (hcap.sub rfl) ?_
        exact hy15
    · exact kv8
  first | clear_value v9 | skip
  exact keeps_put_serve (hcap.sub rfl) kv9

theorem keeps_closeRecord {fp : Nat} (hcap : Has fp 0xC) {z : State} {a0 : State} {a1 : Nat} (h0 : Leads fp z a0) :
    Leads fp z (State.closeRecord a0 a1) := by
  unfold State.closeRecord
  extract_lets -merge -useContext -underBinder v0 v1 v2 v3 v4
  have kv3 : Leads fp z v3 := by
    dsimp -zeta only [v3]
    refine keeps_setRecFlag hcap ?_
    refine keeps_setRecFlag hcap ?_
    exact h0
  first | clear_value v3 | skip
  have kv4 : Leads fp z v4 := by
    dsimp -zeta only [v4]
    refine keeps_addRec hcap ?_
    refine keeps_setRec hcap ?_
    exact kv3
  first | clear_value v4 | skip
  refine keeps_setRec hcap ?_
  exact kv4

theorem keeps_storm {fp : Nat} (hcap : Has fp 0x400002) {z : State} {a0 : State} {a1 : Nat} (h0 : Leads fp z a0) :
    Leads fp z (State.storm a0 a1) := by
  unfold State.storm
  extract_lets -merge -useContext -underBinder v0 v1 v2
  refine keeps_ite ?_ ?_
  · refine keeps_eventAll (hcap.sub rfl) ?_
    refine keeps_setFlag (hcap.sub rfl) ?_
    exact keeps_put_serve (hcap.sub rfl) h0
  · refine keeps_ite ?_ ?_
    · refine keeps_eventAll (hcap.sub rfl) ?_
      refine keeps_setFlag (hcap.sub rfl) ?_
      exact keeps_put_serve (hcap.sub rfl) h0
    · exact h0

theorem keeps_formatActions {fp : Nat} (hcap : Has fp 0x40418E) {z : State} {a0 : State} {a1 : Nat}
    (h0 : Leads fp z a0) :
    Leads fp z (State.formatActions a0 a1) := by
  unfold State.formatActions
  split
  rename_i x0 x1 e6
  have kx0 : Leads fp z x0 := by
    refine keeps_eq1 e6 ?_
    refine keeps_askAll (hcap.sub rfl) ?_
    exact h0
  extract_lets -merge -useContext -underBinder v2 v3
  have kv2 : Leads fp z v2 := by
    dsimp -zeta only [v2]
    refine keeps_decideAsks (hcap.sub rfl) ?_
    exact kx0
  first | clear_value v2 | skip
  have kv3 : Leads fp z v3 := by
    dsimp -zeta only [v3]
    refine keeps_foldl ?_ ?_
    · intro y4 hy4 y5
      refine keeps_closeRecord (hcap.sub rfl) ?_
      exact hy4
    · exact kv2
  first | clear_value v3 | skip
  refine keeps_storm (hcap.sub rfl) ?_
  exact keeps_put_watch (hcap.sub rfl) kv3

theorem keeps_freshRecord {fp : Nat} (hcap : Has fp 0xC) {z : State} {a0 : State} {a1 : Nat} (h0 : Leads fp z a0) :
    Leads fp z (State.freshRecord a0 a1) := by
  unfold State.freshRecord
  refine keeps_setRec hcap ?_
  refine keeps_write hcap ?_
  exact h0

theorem keeps_warmAgain {fp : Nat} (hcap : Has fp 0xC) {z : State} {a0 : State} {a1 : Nat} (h0 : Leads fp z a0) :
    Leads fp z (State.warmAgain a0 a1) := by
  unfold State.warmAgain
  refine keeps_setRecFlag hcap ?_
  refine keeps_setRecFlag hcap ?_
  refine keeps_setRecFlag hcap ?_
  refine keeps_setRec hcap ?_
  exact h0

/-! ### Intake -/

theorem keeps_refuse {fp : Nat} (hcap : Has fp 0x270040004E) {z : State} {a0 : State} {a1 : Ticket} {a2 : Nat}
    (h0 : Leads fp z a0) :
    Leads fp z (State.refuse a0 a1 a2) := by
  unfold State.refuse
  extract_lets -merge -useContext -underBinder v0 v1 v2
  have kv0 : Leads fp z v0 := by
    dsimp -zeta only [v0]
    refine keeps_bump (hcap.sub rfl) ?_
    exact h0
  first | clear_value v0 | skip
  have kv2 : Leads fp z v2 := by
    dsimp -zeta only [v2]
    refine keeps_ite ?_ ?_
    · refine keeps_fault hcap ?_
      exact kv0
    · exact kv0
  first | clear_value v2 | skip
  refine keeps_reply (hcap.sub rfl) ?_
  exact kv2

theorem keeps_fresh {fp : Nat} (hcap : Has fp 0x40000) {z : State} : ∀ {l : List Nat} {s : State}, Leads fp z s →
    Leads fp z (l.foldl (fun s t => s.setTally t { Tally.unused with kind := tallyCounter }) s)
  | [], _, h => h
  | t :: l, s, h => keeps_fresh hcap (l := l) (keeps_setTally hcap h (fun _ _ => ⟨by decide, by decide⟩))
theorem keeps_activate {fp : Nat} (hcap : Has fp 0x440000) {z s : State} {a : Nat}
    (h : Leads fp z s) : Leads fp z (s.activate a) := by
  unfold State.activate
  dsimp only
  split
  · exact h
  · exact keeps_setAcct (hcap.sub rfl) (keeps_fresh (hcap.sub rfl) h)

theorem keeps_settleAccounts {fp : Nat} (hcap : Has fp 0x400000) {z : State} {a0 : State} (h0 : Leads fp z a0) :
    Leads fp z (State.settleAccounts a0) := by
  unfold State.settleAccounts
  refine keeps_foldl ?_ ?_
  · intro y0 hy0 y1
    extract_lets -merge -useContext -underBinder v2
    refine keeps_ite ?_ ?_
    · refine keeps_setAcct hcap ?_
      exact hy0
    · exact hy0
  · exact h0

theorem keeps_askHost {fp : Nat} (hcap : Has fp 0x2000000000) {z : State} {a0 : State} {a1 : Ticket}
    (h0 : Leads fp z a0) :
    Leads fp z (State.askHost a0 a1) := by
  unfold State.askHost
  split
  · split
    · refine keeps_ite ?_ ?_
      · refine keeps_send hcap ?_
        exact h0
      · exact h0
    · exact h0
  · exact h0

theorem keeps_cancel {fp : Nat} (hcap : Has fp 0xC00000) {z : State} {a0 : State} {a1 : Ticket} (h0 : Leads fp z a0) :
    Leads fp z (State.cancel a0 a1) := by
  unfold State.cancel
  extract_lets -merge -useContext -underBinder v0
  refine keeps_ite ?_ ?_
  · refine keeps_reply (hcap.sub rfl) ?_
    exact h0
  · refine keeps_ite ?_ ?_
    · refine keeps_reply (hcap.sub rfl) ?_
      exact h0
    · refine keeps_reply (hcap.sub rfl) ?_
      refine keeps_endSeq hcap ?_
      exact h0

theorem keeps_retire {fp : Nat} (hcap : Has fp 0xC00000) {z : State} {a0 : State} {a1 : Ticket} (h0 : Leads fp z a0) :
    Leads fp z (State.retire a0 a1) := by
  unfold State.retire
  extract_lets -merge -useContext -underBinder v0
  refine keeps_ite ?_ ?_
  · refine keeps_reply (hcap.sub rfl) ?_
    exact h0
  · refine keeps_reply (hcap.sub rfl) ?_
    refine keeps_endSeq hcap ?_
    exact h0

theorem keeps_takeAdmit {fp : Nat} (hcap : Has fp 0x2009C4000C) {z : State} {a0 : State} {a1 : Ticket}
    (h0 : Leads fp z a0) :
    Leads fp z (State.takeAdmit a0 a1) := by
  unfold State.takeAdmit
  split
  · exact h0
  · extract_lets -merge -useContext -underBinder v0 v1 v2
    have kv0 : Leads fp z v0 := by
      dsimp -zeta only [v0]
      refine keeps_setSeq (hcap.sub rfl) ?_
      refine keeps_activate (hcap.sub rfl) ?_
      exact h0
    first | clear_value v0 | skip
    have kv1 : Leads fp z v1 := by
      dsimp -zeta only [v1]
      split
      · extract_lets -merge -useContext -underBinder v3
        refine keeps_putEndo (hcap.sub rfl) ?_
        exact kv0
      · exact kv0
    first | clear_value v1 | skip
    have kv2 : Leads fp z v2 := by
      dsimp -zeta only [v2]
      split
      · refine keeps_placeRegion (hcap.sub rfl) ?_
        exact kv1
      · exact kv1
    first | clear_value v2 | skip
    refine keeps_askHost (hcap.sub rfl) ?_
    exact kv2

theorem keeps_extendSeq {fp : Nat} (hcap : Has fp 0x2000C00000) {z : State} {a0 : State} {a1 : Ticket}
    (h0 : Leads fp z a0) :
    Leads fp z (State.extendSeq a0 a1) := by
  unfold State.extendSeq
  extract_lets -merge -useContext -underBinder v0 v1
  refine keeps_ite ?_ ?_
  · refine keeps_reply (hcap.sub rfl) ?_
    exact h0
  · refine keeps_ite ?_ ?_
    · refine keeps_reply (hcap.sub rfl) ?_
      refine keeps_setSeq (hcap.sub rfl) ?_
      exact h0
    · refine keeps_askHost (hcap.sub rfl) ?_
      refine keeps_setSeq (hcap.sub rfl) ?_
      exact h0

theorem keeps_fetchDone {fp : Nat} (hcap : Has fp 0x800000) {z : State} {a0 : State} {a1 : Nat} {a2 : Bool}
    {a3 : List Word32} (h0 : Leads fp z a0) :
    Leads fp z (State.fetchDone a0 a1 a2 a3) := by
  unfold State.fetchDone
  extract_lets -merge -useContext -underBinder v0
  split
  · exact h0
  · refine keeps_ite ?_ ?_
    · exact h0
    · refine keeps_setSeq hcap ?_
      exact h0

theorem keeps_fetchFailed {fp : Nat} (hcap : Has fp 0xBC0000C) {z : State} {a0 : State} {a1 : Nat} {a2 : Ticket}
    {a3 : Nat} (h0 : Leads fp z a0) :
    Leads fp z (State.fetchFailed a0 a1 a2 a3) := by
  unfold State.fetchFailed
  extract_lets -merge -useContext -underBinder v0 v1 v2
  have kv2 : Leads fp z v2 := by
    dsimp -zeta only [v2]
    refine keeps_reply (hcap.sub rfl) ?_
    refine keeps_setSeq (hcap.sub rfl) ?_
    exact h0
  first | clear_value v2 | skip
  refine keeps_ite ?_ ?_
  · refine keeps_freeSeq hcap ?_
    exact kv2
  · refine keeps_setSeq (hcap.sub rfl) ?_
    exact kv2

theorem keeps_fetchTaken {fp : Nat} (hcap : Has fp 0xC0000C) {z : State} {a0 : State} {a1 : Nat} {a2 : Ticket}
    {a3 : List Nat} (h0 : Leads fp z a0) :
    Leads fp z (State.fetchTaken a0 a1 a2 a3) := by
  unfold State.fetchTaken
  extract_lets -merge -useContext -underBinder v0 v1 v2 v3 v4
  have kv2 : Leads fp z v2 := by
    dsimp -zeta only [v2]
    refine keeps_foldl ?_ ?_
    · intro y5 hy5 y6
      refine keeps_logToken (hcap.sub rfl) ?_
      exact hy5
    · exact h0
  first | clear_value v2 | skip
  refine keeps_reply (hcap.sub rfl) ?_
  refine keeps_setSeq (hcap.sub rfl) ?_
  exact kv2

theorem keeps_takeFetches {fp : Nat} (hcap : Has fp 0xBC0000C) {z : State} {a0 : State} (h0 : Leads fp z a0) :
    Leads fp z (State.takeFetches a0) := by
  unfold State.takeFetches
  refine keeps_foldl ?_ ?_
  · intro y0 hy0 y1
    split
    · extract_lets -merge -useContext -underBinder v2
      refine keeps_ite ?_ ?_
      · refine keeps_fetchFailed hcap ?_
        exact hy0
      · refine keeps_ite ?_ ?_
        · refine keeps_fetchTaken (hcap.sub rfl) ?_
          exact hy0
        · refine keeps_fetchFailed hcap ?_
          exact hy0
    · exact hy0
  · exact h0

theorem keeps_loadEndo {fp : Nat} (hcap : Has fp 0x200844000C) {z : State} {a0 : State} {a1 : Ticket}
    (h0 : Leads fp z a0) :
    Leads fp z (State.loadEndo a0 a1) := by
  unfold State.loadEndo
  extract_lets -merge -useContext -underBinder v0 v1 v2 v3
  have kv2 : Leads fp z v2 := by
    dsimp -zeta only [v2]
    refine keeps_putEndo (hcap.sub rfl) ?_
    refine keeps_activate (hcap.sub rfl) ?_
    exact h0
  first | clear_value v2 | skip
  refine keeps_ite ?_ ?_
  · refine keeps_reply (hcap.sub rfl) ?_
    exact h0
  · refine keeps_askHost (hcap.sub rfl) ?_
    exact keeps_put_serve (hcap.sub rfl) kv2

theorem keeps_loadWeights {fp : Nat} (hcap : Has fp 0x2000440000) {z : State} {a0 : State} {a1 : Ticket}
    (h0 : Leads fp z a0) :
    Leads fp z (State.loadWeights a0 a1) := by
  unfold State.loadWeights
  extract_lets -merge -useContext -underBinder v0 v1
  have kv0 : Leads fp z v0 := by
    dsimp -zeta only [v0]
    refine keeps_activate (hcap.sub rfl) ?_
    exact h0
  first | clear_value v0 | skip
  refine keeps_ite ?_ ?_
  · refine keeps_reply (hcap.sub rfl) ?_
    exact h0
  · refine keeps_ite ?_ ?_
    · refine keeps_reply (hcap.sub rfl) ?_
      exact h0
    · refine keeps_askHost (hcap.sub rfl) ?_
      exact keeps_put_serve (hcap.sub rfl) kv0

theorem keeps_stageCharter {fp : Nat} (hcap : Has fp 0x2000400000) {z : State} {a0 : State} {a1 : Ticket}
    (h0 : Leads fp z a0) :
    Leads fp z (State.stageCharter a0 a1) := by
  unfold State.stageCharter
  extract_lets -merge -useContext -underBinder v0 v1
  refine keeps_ite ?_ ?_
  · refine keeps_reply (hcap.sub rfl) ?_
    exact h0
  · refine keeps_ite ?_ ?_
    · refine keeps_reply (hcap.sub rfl) ?_
      exact h0
    · refine keeps_askHost (hcap.sub rfl) ?_
      exact keeps_put_serve (hcap.sub rfl) h0

theorem keeps_postCharter {fp : Nat} (hcap : Has fp 0x400000) {z : State} {a0 : State} {a1 : Ticket}
    (h0 : Leads fp z a0) :
    Leads fp z (State.postCharter a0 a1) := by
  unfold State.postCharter
  extract_lets -merge -useContext -underBinder v0
  refine keeps_ite ?_ ?_
  · refine keeps_reply hcap ?_
    exact h0
  · refine keeps_ite ?_ ?_
    · exact keeps_put_serve hcap h0
    · refine keeps_reply hcap ?_
      exact h0

theorem keeps_probeTicket {fp : Nat} (hcap : Has fp 0x2000400000) {z : State} {a0 : State} {a1 : Ticket}
    (h0 : Leads fp z a0) :
    Leads fp z (State.probeTicket a0 a1) := by
  unfold State.probeTicket
  extract_lets -merge -useContext -underBinder v0
  refine keeps_askHost (hcap.sub rfl) ?_
  exact keeps_put_serve (hcap.sub rfl) h0

theorem keeps_query {fp : Nat} (hcap : Has fp 0x218040000E) {z : State} {a0 : State} {a1 : Ticket}
    (h0 : Leads fp z a0) :
    Leads fp z (State.query a0 a1) := by
  unfold State.query
  extract_lets -merge -useContext -underBinder v0 v1
  refine keeps_ite ?_ ?_
  · refine keeps_reply (hcap.sub rfl) ?_
    exact h0
  · refine keeps_reply (hcap.sub rfl) ?_
    refine keeps_ledgerWrite (hcap.sub rfl) ?_
    exact h0

theorem keeps_takeCut {fp : Nat} (hcap : Has fp 0x600002) {z : State} {a0 : State} (h0 : Leads fp z a0) :
    Leads fp z (State.takeCut a0).1 := by
  unfold State.takeCut
  extract_lets -merge -useContext -underBinder v0 v1 v2 v3 v4 v5
  have kv1 : Leads fp z v1 := by
    dsimp -zeta only [v1]
    exact keeps_put_serve (hcap.sub rfl) h0
  first | clear_value v1 | skip
  have kv3 : Leads fp z v3 := by
    dsimp -zeta only [v3]
    refine keeps_foldl ?_ ?_
    · intro y6 hy6 y7
      extract_lets -merge -useContext -underBinder v8 v9 v10
      have kv10 : Leads fp z v10 := by
        dsimp -zeta only [v10]
        refine keeps_ite ?_ ?_
        · refine keeps_event (hcap.sub rfl) ?_
          exact hy6
        · exact hy6
      first | clear_value v10 | skip
      refine keeps_setPort (hcap.sub rfl) ?_
      exact kv10
    · exact kv1
  first | clear_value v3 | skip
  have kv5 : Leads fp z v5 := by
    dsimp -zeta only [v5]
    refine keeps_foldl ?_ ?_
    · intro y11 hy11 y12
      extract_lets -merge -useContext -underBinder v13
      refine keeps_setPort (hcap.sub rfl) ?_
      exact hy11
    · exact kv3
  first | clear_value v5 | skip
  refine keeps_mk ?_
  refine keeps_bump (hcap.sub rfl) ?_
  exact kv5

theorem keeps_earlyTicket {fp : Nat} (hcap : Has fp 0x2700C0004E) {z : State} {a0 : State} {a1 : Ticket}
    (h0 : Leads fp z a0) :
    Leads fp z (State.earlyTicket a0 a1) := by
  unfold State.earlyTicket
  split
  · refine keeps_refuse (hcap.sub rfl) ?_
    exact h0
  · refine keeps_ite ?_ ?_
    · refine keeps_cancel (hcap.sub rfl) ?_
      exact h0
    · refine keeps_retire (hcap.sub rfl) ?_
      exact h0

theorem keeps_lateTicket {fp : Nat} (hcap : Has fp 0x2789C4004E) {z : State} {a0 : State} {a1 : Ticket}
    (h0 : Leads fp z a0) :
    Leads fp z (State.lateTicket a0 a1) := by
  unfold State.lateTicket
  split
  · refine keeps_refuse (hcap.sub rfl) ?_
    exact h0
  · split
    · refine keeps_takeAdmit (hcap.sub rfl) ?_
      exact h0
    · refine keeps_extendSeq (hcap.sub rfl) ?_
      exact h0
    · refine keeps_loadEndo (hcap.sub rfl) ?_
      exact h0
    · refine keeps_loadWeights (hcap.sub rfl) ?_
      exact h0
    · refine keeps_stageCharter (hcap.sub rfl) ?_
      exact h0
    · refine keeps_postCharter (hcap.sub rfl) ?_
      exact h0
    · refine keeps_probeTicket (hcap.sub rfl) ?_
      exact h0
    · refine keeps_query (hcap.sub rfl) ?_
      exact h0

theorem keeps_lateTickets {fp : Nat} (hcap : Has fp 0x278BC4004E) {z : State} {a0 : State} {a1 : List Ticket}
    (h0 : Leads fp z a0) :
    Leads fp z (State.lateTickets a0 a1) := by
  unfold State.lateTickets
  refine keeps_takeFetches (hcap.sub rfl) ?_
  refine keeps_foldl ?_ ?_
  · intro y0 hy0 y1
    refine keeps_lateTicket (hcap.sub rfl) ?_
    exact hy0
  · refine keeps_settleAccounts (hcap.sub rfl) ?_
    exact h0

theorem leads_execTokenFetchComplete {fp : Nat} (hcap : Has fp 0x800000) {z t : State} {a0 : Slot} {a1 : Bool}
    {a2 : List Word32} {a3 : State} (h3 : Leads fp z a3) (e : (execTokenFetchComplete a0 a1 a2 a3) = .next t) :
    Leads fp z t := by
  unfold execTokenFetchComplete at e
  injection e with e
  subst e
  refine keeps_fetchDone hcap ?_
  exact h3

/-! ### Forming -/

theorem keeps_fetchMissing {fp : Nat} (hcap : Has fp 0x201800000C) {z : State} {a0 : State} {a1 : List Pick}
    (h0 : Leads fp z a0) :
    Leads fp z (State.fetchMissing a0 a1) := by
  unfold State.fetchMissing
  refine keeps_foldl ?_ ?_
  · intro y0 hy0 y1
    split
    · refine keeps_ite ?_ ?_
      · refine keeps_fetchEndo hcap ?_
        exact hy0
      · exact hy0
    · exact hy0
  · exact h0

theorem keeps_openEntry {fp : Nat} (hcap : Has fp 0x1000000) {z : State} {a0 : State} {a1 : Nat} {a2 : Bool}
    (h0 : Leads fp z a0) :
    Leads fp z (State.openEntry a0 a1 a2) := by
  unfold State.openEntry
  extract_lets -merge -useContext -underBinder v0 v1
  refine keeps_ite ?_ ?_
  · refine keeps_setFolio hcap ?_
    exact h0
  · refine keeps_setFolio hcap ?_
    exact h0

theorem keeps_assignFrames {fp : Nat} (hcap : Has fp 0x1000000) {z : State} {a0 : State} {a1 : List Pick}
    (h0 : Leads fp z a0) :
    Leads fp z (State.assignFrames a0 a1) := by
  unfold State.assignFrames
  refine keeps_foldl ?_ ?_
  · intro y0 hy0 y1
    refine keeps_foldl ?_ ?_
    · intro y2 hy2 y3
      refine keeps_openEntry hcap ?_
      exact hy2
    · exact hy0
  · exact h0

theorem keeps_tellPressure {fp : Nat} (hcap : Has fp 0x400002) {z : State} {a0 : State} {a1 : List Pick}
    (h0 : Leads fp z a0) :
    Leads fp z (State.tellPressure a0 a1) := by
  unfold State.tellPressure
  extract_lets -merge -useContext -underBinder v0 v1 v2 v3
  have kv0 : Leads fp z v0 := by
    dsimp -zeta only [v0]
    refine keeps_foldl ?_ ?_
    · intro y4 hy4 y5
      refine keeps_bump (hcap.sub rfl) ?_
      exact hy4
    · exact h0
  first | clear_value v0 | skip
  have kv2 : Leads fp z v2 := by
    dsimp -zeta only [v2]
    refine keeps_event (hcap.sub rfl) ?_
    exact kv0
  first | clear_value v2 | skip
  refine keeps_ite ?_ ?_
  · exact h0
  · exact keeps_put_serve (hcap.sub rfl) kv2

theorem keeps_showFrames {fp : Nat} (hcap : Has fp 0x2) {z : State} {a0 : State} (h0 : Leads fp z a0) :
    Leads fp z (State.showFrames a0) := by
  unfold State.showFrames
  refine keeps_foldl ?_ ?_
  · intro y0 hy0 y1
    refine keeps_setReg hcap ?_
    exact hy0
  · exact h0

theorem keeps_bindEpochs {fp : Nat} (hcap : Has fp 0x800000) {z : State} {a0 : State} (h0 : Leads fp z a0) :
    Leads fp z (State.bindEpochs a0) := by
  unfold State.bindEpochs
  refine keeps_foldl ?_ ?_
  · intro y0 hy0 y1
    extract_lets -merge -useContext -underBinder v2
    refine keeps_ite ?_ ?_
    · refine keeps_setSeq hcap ?_
      exact hy0
    · exact hy0
  · exact h0

theorem keeps_formStep {fp : Nat} (hcap : Has fp 0x2019C0000E) {z : State} {a0 : State} (h0 : Leads fp z a0) :
    Leads fp z (State.formStep a0).1 := by
  unfold State.formStep
  extract_lets -merge -useContext -underBinder v0 v1 v2 v3 v4 v5 v6 v7 v8 v9 v10
  have kv0 : Leads fp z v0 := by
    dsimp -zeta only [v0]
    refine keeps_bindEpochs (hcap.sub rfl) ?_
    refine keeps_compact (hcap.sub rfl) ?_
    exact h0
  first | clear_value v0 | skip
  have kv2 : Leads fp z v2 := by
    dsimp -zeta only [v2]
    refine keeps_bump (hcap.sub rfl) ?_
    exact kv0
  first | clear_value v2 | skip
  have kv3 : Leads fp z v3 := by
    dsimp -zeta only [v3]
    refine keeps_fetchMissing (hcap.sub rfl) ?_
    exact kv2
  first | clear_value v3 | skip
  have kv7 : Leads fp z v7 := by
    dsimp -zeta only [v7]
    refine keeps_assignFrames (hcap.sub rfl) ?_
    exact kv3
  first | clear_value v7 | skip
  have kv8 : Leads fp z v8 := by
    dsimp -zeta only [v8]
    refine keeps_showFrames (hcap.sub rfl) ?_
    refine keeps_tellPressure (hcap.sub rfl) ?_
    exact kv7
  first | clear_value v8 | skip
  have kv10 : Leads fp z v10 := by
    dsimp -zeta only [v10]
    refine keeps_foldl ?_ ?_
    · intro y11 hy11 y12
      refine keeps_setSeq (hcap.sub rfl) ?_
      exact hy11
    · exact kv8
  first | clear_value v10 | skip
  refine keeps_mk ?_
  exact kv10

theorem keeps_fillProgram {fp : Nat} (hcap : Has fp 0xC) {z : State} {a0 : State} {a1 : Nat} {a2 : Nat}
    {a3 : Nat} {a4 : Nat} {a5 : List Row} (h0 : Leads fp z a0) :
    Leads fp z (State.fillProgram a0 a1 a2 a3 a4 a5) := by
  unfold State.fillProgram
  extract_lets -merge -useContext -underBinder v0 v1
  have kv0 : Leads fp z v0 := by
    dsimp -zeta only [v0]
    refine keeps_foldl ?_ ?_
    · intro y2 hy2 y3
      refine keeps_write hcap ?_
      exact hy2
    · exact h0
  first | clear_value v0 | skip
  refine keeps_write hcap ?_
  exact kv0

theorem keeps_fillTables {fp : Nat} (hcap : Has fp 0xC) {z : State} {a0 : State} {a1 : List Row} {a2 : Nat}
    {a3 : Nat} (h0 : Leads fp z a0) :
    Leads fp z (State.fillTables a0 a1 a2 a3) := by
  unfold State.fillTables
  refine keeps_foldl ?_ ?_
  · intro y0 hy0 y1
    refine keeps_foldl ?_ ?_
    · intro y2 hy2 y3
      refine keeps_ite ?_ ?_
      · exact hy2
      · refine keeps_fillProgram hcap ?_
        exact hy2
    · exact hy0
  · exact h0

theorem keeps_releaseQueues {fp : Nat} (hcap : Has fp 0x10002) {z : State} {a0 : State} {a1 : Nat}
    (h0 : Leads fp z a0) :
    Leads fp z (State.releaseQueues a0 a1) := by
  unfold State.releaseQueues
  extract_lets -merge -useContext -underBinder v0 v1 v2
  have kv1 : Leads fp z v1 := by
    dsimp -zeta only [v1]
    refine keeps_foldl ?_ ?_
    · intro y3 hy3 y4
      refine keeps_setFlag (hcap.sub rfl) ?_
      exact hy3
    · exact h0
  first | clear_value v1 | skip
  have kv2 : Leads fp z v2 := by
    dsimp -zeta only [v2]
    refine keeps_foldl ?_ ?_
    · intro y5 hy5 y6
      refine keeps_setFld (hcap.sub rfl) ?_
      exact hy5
    · exact kv1
  first | clear_value v2 | skip
  exact keeps_put_queues (hcap.sub rfl) kv2

theorem keeps_useEndos {fp : Nat} (hcap : Has fp 0x10000000) {z : State} {a0 : State} {a1 : List Row} {a2 : Nat}
    (h0 : Leads fp z a0) :
    Leads fp z (State.useEndos a0 a1 a2) := by
  unfold State.useEndos
  exact keeps_put_cache hcap h0

theorem keeps_releaseStep {fp : Nat} (hcap : Has fp 0x421041000E) {z : State} {a0 : State} {a1 : List Row}
    {a2 : Nat} {a3 : Nat} (h0 : Leads fp z a0) :
    Leads fp z (State.releaseStep a0 a1 a2 a3) := by
  unfold State.releaseStep
  extract_lets -merge -useContext -underBinder v0 v1 v2 v3
  have kv0 : Leads fp z v0 := by
    dsimp -zeta only [v0]
    refine keeps_fillTables (hcap.sub rfl) ?_
    exact h0
  first | clear_value v0 | skip
  have kv1 : Leads fp z v1 := by
    dsimp -zeta only [v1]
    refine keeps_useEndos (hcap.sub rfl) ?_
    exact kv0
  first | clear_value v1 | skip
  have kv2 : Leads fp z v2 := by
    dsimp -zeta only [v2]
    refine keeps_setReg (hcap.sub rfl) ?_
    exact kv1
  first | clear_value v2 | skip
  have kv3 : Leads fp z v3 := by
    dsimp -zeta only [v3]
    refine keeps_releaseQueues (hcap.sub rfl) ?_
    refine keeps_setFld (hcap.sub rfl) ?_
    refine keeps_setFld (hcap.sub rfl) ?_
    exact kv2
  first | clear_value v3 | skip
  split
  rename_i x4 x5 e9
  have kx5 : Leads fp z x5 := by
    refine keeps_eq2 e9 ?_
    refine keeps_draw (hcap.sub rfl) ?_
    exact kv3
  extract_lets -merge -useContext -underBinder v6 v7 v8
  have kv6 : Leads fp z v6 := by
    dsimp -zeta only [v6]
    refine keeps_setReg (hcap.sub rfl) ?_
    exact kx5
  first | clear_value v6 | skip
  exact kv6.on (k := 0x200400000) (hcap.sub rfl) (fun _ _ h0 => h0)
    (fun p e => by cases p <;> first | exact absurd e (by decide) | rfl)

/-! ### Epoch -/

theorem keeps_retireWhere {fp : Nat} (hcap : Has fp 0xBC0000C) {z : State} {a0 : State} {a1 : Nat}
    {a2 : Seq → Bool} (h0 : Leads fp z a0) :
    Leads fp z (State.retireWhere a0 a1 a2) := by
  unfold State.retireWhere
  refine keeps_foldl ?_ ?_
  · intro y0 hy0 y1
    refine keeps_retireNow hcap ?_
    exact hy0
  · exact h0

theorem keeps_endLost {fp : Nat} (hcap : Has fp 0xBC0000C) {z : State} {a0 : State} (h0 : Leads fp z a0) :
    Leads fp z (State.endLost a0) := by
  unfold State.endLost
  extract_lets -merge -useContext -underBinder v0 v1
  have kv0 : Leads fp z v0 := by
    dsimp -zeta only [v0]
    refine keeps_foldl ?_ ?_
    · intro y2 hy2 y3
      extract_lets -merge -useContext -underBinder v4 v5
      refine keeps_eventAll (hcap.sub rfl) ?_
      refine keeps_retireWhere hcap ?_
      exact hy2
    · exact h0
  first | clear_value v0 | skip
  exact keeps_put_serve (hcap.sub rfl) kv0

theorem keeps_goHome {fp : Nat} (hcap : Has fp 0x201800000C) {z : State} {a0 : State} {a1 : Nat}
    (h0 : Leads fp z a0) :
    Leads fp z (State.goHome a0 a1) := by
  unfold State.goHome
  extract_lets -merge -useContext -underBinder v0
  refine keeps_ite ?_ ?_
  · exact h0
  · refine keeps_fetchEndo hcap ?_
    refine keeps_putEndo (hcap.sub rfl) ?_
    refine keeps_dropCached (hcap.sub rfl) ?_
    exact h0

theorem keeps_startRestores {fp : Nat} (hcap : Has fp 0x201800010C) {z : State} {a0 : State} (h0 : Leads fp z a0) :
    Leads fp z (State.startRestores a0) := by
  unfold State.startRestores
  refine keeps_foldl ?_ ?_
  · intro y0 hy0 y1
    extract_lets -merge -useContext -underBinder v2
    refine keeps_ite ?_ ?_
    · refine keeps_setTile (hcap.sub rfl) ?_
      exact hy0
    · refine keeps_goHome (hcap.sub rfl) ?_
      exact hy0
  · exact h0

theorem keeps_dropStale {fp : Nat} (hcap : Has fp 0x201840000C) {z : State} {a0 : State} (h0 : Leads fp z a0) :
    Leads fp z (State.dropStale a0) := by
  unfold State.dropStale
  extract_lets -merge -useContext -underBinder v0 v1
  have kv0 : Leads fp z v0 := by
    dsimp -zeta only [v0]
    refine keeps_foldl ?_ ?_
    · intro y2 hy2 y3
      refine keeps_goHome (hcap.sub rfl) ?_
      exact hy2
    · exact h0
  first | clear_value v0 | skip
  exact keeps_put_serve (hcap.sub rfl) kv0

theorem keeps_endSited {fp : Nat} (hcap : Has fp 0xBC0000C) {z : State} {a0 : State} (h0 : Leads fp z a0) :
    Leads fp z (State.endSited a0) := by
  unfold State.endSited
  refine keeps_foldl ?_ ?_
  · intro y0 hy0 y1
    extract_lets -merge -useContext -underBinder v2
    split
    · refine keeps_ite ?_ ?_
      · refine keeps_retireWhere hcap ?_
        exact hy0
      · exact hy0
    · exact hy0
  · exact h0

theorem keeps_fenceUnits {fp : Nat} (hcap : Has fp 0x200000180) {z : State} {a0 : State} (h0 : Leads fp z a0) :
    Leads fp z (State.fenceUnits a0) := by
  unfold State.fenceUnits
  extract_lets -merge -useContext -underBinder v0 v1 v2
  have kv2 : Leads fp z v2 := by
    dsimp -zeta only [v2]
    exact keeps_put_log (hcap.sub rfl) h0
  first | clear_value v2 | skip
  refine keeps_foldl ?_ ?_
  · intro y3 hy3 y4
    extract_lets -merge -useContext -underBinder v5 v6 v7
    refine keeps_ite ?_ ?_
    · refine keeps_setDir (hcap.sub rfl) ?_
      refine keeps_setTile (hcap.sub rfl) ?_
      exact hy3
    · exact hy3
  · exact kv2

theorem keeps_flipTile {fp : Nat} (hcap : Has fp 0x18C) {z : State} {a0 : State} {a1 : BitVec 16} {a2 : Bool}
    {a3 : Nat} (h0 : Leads fp z a0) :
    Leads fp z (State.flipTile a0 a1 a2 a3) := by
  unfold State.flipTile
  extract_lets -merge -useContext -underBinder v0 v1 v2 v3 v4 v5
  have kv3 : Leads fp z v3 := by
    dsimp -zeta only [v3]
    refine keeps_setDir (hcap.sub rfl) ?_
    exact h0
  first | clear_value v3 | skip
  have kv5 : Leads fp z v5 := by
    dsimp -zeta only [v5]
    refine keeps_setTile (hcap.sub rfl) ?_
    exact kv3
  first | clear_value v5 | skip
  refine keeps_startSet (hcap.sub rfl) ?_
  exact kv5

theorem keeps_saveSurplus {fp : Nat} (hcap : Has fp 0x40) {z : State} {a0 : State} {a1 : Nat} (h0 : Leads fp z a0) :
    Leads fp z (State.saveSurplus a0 a1) := by
  unfold State.saveSurplus
  split
  · exact h0
  · extract_lets -merge -useContext -underBinder v0 v1
    first | exact keeps_put_mram hcap h0 rfl | exact keeps_fuse hcap h0 | exact keeps_seed hcap h0 | exact keeps_life hcap h0

theorem keeps_emptyDrained {fp : Nat} (hcap : Has fp 0x4400080) {z : State} {a0 : State} {a1 : Nat}
    (h0 : Leads fp z a0) :
    Leads fp z (State.emptyDrained a0 a1) := by
  unfold State.emptyDrained
  split
  · exact h0
  · extract_lets -merge -useContext -underBinder v0 v1 v2
    have kv1 : Leads fp z v1 := by
      dsimp -zeta only [v1]
      refine keeps_mapDir (hcap.sub rfl) ?_
      exact h0
    first | clear_value v1 | skip
    refine keeps_ite ?_ ?_
    · exact h0
    · refine keeps_eventAll (hcap.sub rfl) ?_
      exact keeps_put_epochs (hcap.sub rfl) kv1

theorem keeps_expireDrained {fp : Nat} (hcap : Has fp 0xBC0000C) {z : State} {a0 : State} {a1 : Nat}
    (h0 : Leads fp z a0) :
    Leads fp z (State.expireDrained a0 a1) := by
  unfold State.expireDrained
  extract_lets -merge -useContext -underBinder v0
  split
  · exact h0
  · refine keeps_ite ?_ ?_
    · exact h0
    · refine keeps_foldl ?_ ?_
      · intro y1 hy1 y2
        refine keeps_ite ?_ ?_
        · refine keeps_retireNow hcap ?_
          exact hy1
        · exact hy1
      · exact h0

theorem keeps_answerLoad {fp : Nat} (hcap : Has fp 0x4400000) {z : State} {a0 : State} {a1 : Nat}
    (h0 : Leads fp z a0) :
    Leads fp z (State.answerLoad a0 a1) := by
  unfold State.answerLoad
  extract_lets -merge -useContext -underBinder v0 v1 v2
  have kv0 : Leads fp z v0 := by
    dsimp -zeta only [v0]
    split
    · refine keeps_reply (hcap.sub rfl) ?_
      exact h0
    · exact h0
  first | clear_value v0 | skip
  exact kv0.on (k := 0x4400000) hcap (fun _ _ h0 => h0)
    (fun p e => by cases p <;> first | exact absurd e (by decide) | rfl)

theorem keeps_flip {fp : Nat} (hcap : Has fp 0xA44001CE) {z : State} {a0 : State} {a1 : Load} {a2 : Nat}
    (h0 : Leads fp z a0) :
    Leads fp z (State.flip a0 a1 a2) := by
  unfold State.flip
  extract_lets -merge -useContext -underBinder v0 v1 v2 v3 v4 v5 v6 v7 v8 v9
  have kv3 : Leads fp z v3 := by
    dsimp -zeta only [v3]
    refine keeps_foldl ?_ ?_
    · intro y10 hy10 y11
      refine keeps_flipTile (hcap.sub rfl) ?_
      exact hy10
    · exact h0
  first | clear_value v3 | skip
  have kv4 : Leads fp z v4 := by
    dsimp -zeta only [v4]
    refine keeps_foldl ?_ ?_
    · intro y12 hy12 y13
      refine keeps_saveSurplus (hcap.sub rfl) ?_
      exact hy12
    · exact kv3
  first | clear_value v4 | skip
  have kv5 : Leads fp z v5 := by
    dsimp -zeta only [v5]
    refine keeps_extend (hcap.sub rfl) ?_
    exact kv4
  first | clear_value v5 | skip
  have kv6 : Leads fp z v6 := by
    dsimp -zeta only [v6]
    refine keeps_foldl ?_ ?_
    · intro y14 hy14 y15
      refine keeps_calTrigger (hcap.sub rfl) ?_
      exact hy14
    · exact kv5
  first | clear_value v6 | skip
  have kv7 : Leads fp z v7 := by
    dsimp -zeta only [v7]
    refine keeps_foldl ?_ ?_
    · intro y16 hy16 y17
      refine keeps_warmAgain (hcap.sub rfl) ?_
      exact hy16
    · exact kv6
  first | clear_value v7 | skip
  have kv9 : Leads fp z v9 := by
    dsimp -zeta only [v9]
    exact keeps_put_epochs (hcap.sub rfl) kv7
  first | clear_value v9 | skip
  refine keeps_emptyDrained (hcap.sub rfl) ?_
  refine keeps_eventAll (hcap.sub rfl) ?_
  refine keeps_answerLoad (hcap.sub rfl) ?_
  exact kv9

theorem keeps_settleLoad {fp : Nat} (hcap : Has fp 0xA44001CE) {z : State} {a0 : State} {a1 : Nat}
    (h0 : Leads fp z a0) :
    Leads fp z (State.settleLoad a0 a1) := by
  unfold State.settleLoad
  split
  · exact h0
  · split
    · refine keeps_answerLoad (hcap.sub rfl) ?_
      exact h0
    · refine keeps_ite ?_ ?_
      · refine keeps_flip hcap ?_
        exact h0
      · exact h0

theorem keeps_postDirectory {fp : Nat} (hcap : Has fp 0x80) {z : State} {a0 : State} (h0 : Leads fp z a0) :
    Leads fp z (State.postDirectory a0) := by
  unfold State.postDirectory
  exact keeps_put_dir hcap h0

theorem keeps_retireTile {fp : Nat} (hcap : Has fp 0x200000040) {z : State} {a0 : State} {a1 : Nat}
    (h0 : Leads fp z a0) :
    Leads fp z (State.retireTile a0 a1) := by
  unfold State.retireTile
  extract_lets -merge -useContext -underBinder v0 v1 v2
  exact h0.on (k := 0x200000040) hcap (fun _ _ h0 => h0)
    (fun p e => by cases p <;> first | exact absurd e (by decide) | rfl)

theorem keeps_postTakeovers {fp : Nat} (hcap : Has fp 0x200000040) {z : State} {a0 : State} (h0 : Leads fp z a0) :
    Leads fp z (State.postTakeovers a0) := by
  unfold State.postTakeovers
  refine keeps_foldl ?_ ?_
  · intro y0 hy0 y1
    split
    · refine keeps_ite ?_ ?_
      · refine keeps_retireTile hcap ?_
        exact hy0
      · exact hy0
    · exact hy0
  · exact h0

theorem countersOk_kept {old : SMap Tally} (o : countersOk old) : ∀ {l : List Nat} {m : SMap Tally}, countersOk m →
    countersOk (l.foldl (fun m t => put Tally.unused m t (look Tally.unused old t)) m)
  | [], _, h => h
  | t :: l, _, h => countersOk_kept o (l := l) (countersOk_put h (countersOk_look o t))
theorem keeps_postTallies {fp : Nat} (hcap : Has fp 0x460002) {z s : State}
    (h : Leads fp z s) : Leads fp z s.postTallies := by
  unfold State.postTallies
  extract_lets -merge p order fresh pool accts kept
  refine keeps_foldl (fun s h d => keeps_setReg (hcap.sub rfl) h) ?_
  refine h.on (k := 0x460000) (hcap.sub rfl) (fun Q hq h0 => hq.tally _ _ (fun o => ?_) h0) (fun p e => by cases p <;> first | exact absurd e (by decide) | rfl)
  refine countersOk_kept o ?_
  intro e he k
  obtain ⟨i, _, he⟩ := List.mem_flatMap.mp he
  obtain ⟨t, _, rfl⟩ := List.mem_map.mp he
  dsimp only at k ⊢
  split at k <;> rename_i hu
  · simp [tallyBarrier, tallyCounter] at k
  · simp only [hu, if_false]; exact ⟨by decide, by decide⟩

theorem keeps_loadCopy {fp : Nat} (hcap : Has fp 0xC) {z : State} {a0 : State} {a1 : Nat} {a2 : Nat}
    (h0 : Leads fp z a0) :
    Leads fp z (State.loadCopy a0 a1 a2) := by
  unfold State.loadCopy
  extract_lets -merge -useContext -underBinder v0 v1 v2 v3
  have kv2 : Leads fp z v2 := by
    dsimp -zeta only [v2]
    refine keeps_write hcap ?_
    exact h0
  first | clear_value v2 | skip
  have kv3 : Leads fp z v3 := by
    dsimp -zeta only [v3]
    refine keeps_write hcap ?_
    exact kv2
  first | clear_value v3 | skip
  refine keeps_ite ?_ ?_
  · exact h0
  · refine keeps_write hcap ?_
    exact kv3

theorem keeps_loadPrograms {fp : Nat} (hcap : Has fp 0xC) {z : State} {a0 : State} (h0 : Leads fp z a0) :
    Leads fp z (State.loadPrograms a0) := by
  unfold State.loadPrograms
  refine keeps_foldl ?_ ?_
  · intro y0 hy0 y1
    refine keeps_foldl ?_ ?_
    · intro y2 hy2 y3
      refine keeps_loadCopy hcap ?_
      exact hy2
    · exact hy0
  · exact h0

theorem keeps_showCharter {fp : Nat} (hcap : Has fp 0x800400002) {z : State} {a0 : State} (h0 : Leads fp z a0) :
    Leads fp z (State.showCharter a0) := by
  unfold State.showCharter
  extract_lets -merge -useContext -underBinder v0 v1 v2 v3
  have kv0 : Leads fp z v0 := by
    dsimp -zeta only [v0]
    refine keeps_foldl ?_ ?_
    · intro y4 hy4 y5
      refine keeps_setFld (hcap.sub rfl) ?_
      exact hy4
    · exact h0
  first | clear_value v0 | skip
  have kv1 : Leads fp z v1 := by
    dsimp -zeta only [v1]
    refine keeps_foldl ?_ ?_
    · intro y6 hy6 y7
      refine keeps_setFld (hcap.sub rfl) ?_
      refine keeps_setFld (hcap.sub rfl) ?_
      exact hy6
    · exact kv0
  first | clear_value v1 | skip
  have kv2 : Leads fp z v2 := by
    dsimp -zeta only [v2]
    refine keeps_foldl ?_ ?_
    · intro y8 hy8 y9
      extract_lets -merge -useContext -underBinder v10
      have kv10 : Leads fp z v10 := by
        dsimp -zeta only [v10]
        refine keeps_setReg (hcap.sub rfl) ?_
        exact hy8
      first | clear_value v10 | skip
      refine keeps_setReg (hcap.sub rfl) ?_
      exact kv10
    · exact kv1
  first | clear_value v2 | skip
  have kv3 : Leads fp z v3 := by
    dsimp -zeta only [v3]
    refine keeps_foldl ?_ ?_
    · intro y11 hy11 y12
      refine keeps_setFld (hcap.sub rfl) ?_
      exact hy11
    · exact kv2
  first | clear_value v3 | skip
  refine keeps_settlePower hcap ?_
  exact kv3

theorem keeps_postAudit {fp : Nat} (hcap : Has fp 0x40000000) {z : State} {a0 : State} (h0 : Leads fp z a0) :
    Leads fp z (State.postAudit a0) := by
  unfold State.postAudit
  refine keeps_foldl ?_ ?_
  · intro y0 hy0 y1
    extract_lets -merge -useContext -underBinder v2 v3 v4 v5
    refine keeps_setAudit hcap ?_
    exact hy0
  · exact h0

theorem keeps_emptyEndos {fp : Nat} (hcap : Has fp 0x1800000C) {z : State} {a0 : State} (h0 : Leads fp z a0) :
    Leads fp z (State.emptyEndos a0) := by
  unfold State.emptyEndos
  extract_lets -merge -useContext -underBinder v0
  have kv0 : Leads fp z v0 := by
    dsimp -zeta only [v0]
    exact keeps_put_cache (hcap.sub rfl) h0
  first | clear_value v0 | skip
  refine keeps_foldl ?_ ?_
  · intro y1 hy1 y2
    extract_lets -merge -useContext -underBinder v3
    refine keeps_putEndo (hcap.sub rfl) ?_
    exact hy1
  · exact kv0

theorem keeps_keepReplicas {fp : Nat} (hcap : Has fp 0x20000000) {z : State} {a0 : State} (h0 : Leads fp z a0) :
    Leads fp z (State.keepReplicas a0) := by
  unfold State.keepReplicas
  extract_lets -merge -useContext -underBinder v0
  exact keeps_put_cal hcap h0

theorem keeps_postImage {fp : Nat} (hcap : Has fp 0xBF84600CE) {z : State} {a0 : State} {a1 : Nat}
    (h0 : Leads fp z a0) :
    Leads fp z (State.postImage a0 a1) := by
  unfold State.postImage
  extract_lets -merge -useContext -underBinder v0 v1 v2 v3 v4 v5 v6 v7 v8 v9 v10 v11 v12
  have kv4 : Leads fp z v4 := by
    dsimp -zeta only [v4]
    refine keeps_write (hcap.sub rfl) ?_
    exact h0
  first | clear_value v4 | skip
  have kv7 : Leads fp z v7 := by
    dsimp -zeta only [v7]
    exact kv4.on (k := 0x400040) (hcap.sub rfl) (fun _ _ h0 => h0)
      (fun p e => by cases p <;> first | exact absurd e (by decide) | rfl)
  first | clear_value v7 | skip
  have kv8 : Leads fp z v8 := by
    dsimp -zeta only [v8]
    refine keeps_newRole (hcap.sub rfl) ?_
    refine keeps_eventAll (hcap.sub rfl) ?_
    refine keeps_extend (hcap.sub rfl) ?_
    exact kv7
  first | clear_value v8 | skip
  have kv9 : Leads fp z v9 := by
    dsimp -zeta only [v9]
    refine keeps_loadPrograms (hcap.sub rfl) ?_
    refine keeps_postTallies (hcap.sub rfl) ?_
    refine keeps_postTakeovers (hcap.sub rfl) ?_
    refine keeps_postDirectory (hcap.sub rfl) ?_
    exact kv8
  first | clear_value v9 | skip
  have kv10 : Leads fp z v10 := by
    dsimp -zeta only [v10]
    refine keeps_keepReplicas (hcap.sub rfl) ?_
    refine keeps_postAudit (hcap.sub rfl) ?_
    refine keeps_showCharter (hcap.sub rfl) ?_
    exact kv9
  first | clear_value v10 | skip
  have kv11 : Leads fp z v11 := by
    dsimp -zeta only [v11]
    refine keeps_foldl ?_ ?_
    · intro y13 hy13 y14
      refine keeps_freshRecord (hcap.sub rfl) ?_
      exact hy13
    · exact kv10
  first | clear_value v11 | skip
  have kv12 : Leads fp z v12 := by
    dsimp -zeta only [v12]
    clear_value v2
    split
    · refine keeps_ite ?_ ?_
      · exact kv11
      · refine keeps_emptyEndos (hcap.sub rfl) ?_
        exact kv11
    · exact kv11
  first | clear_value v12 | skip
  refine keeps_foldl ?_ ?_
  · intro y15 hy15 y16
    refine keeps_calTrigger (hcap.sub rfl) ?_
    exact hy15
  · exact kv12

theorem keeps_settlePost {fp : Nat} (hcap : Has fp 0xBF84600CE) {z : State} {a0 : State} {a1 : Nat}
    (h0 : Leads fp z a0) :
    Leads fp z (State.settlePost a0 a1) := by
  unfold State.settlePost
  split
  · exact h0
  · extract_lets -merge -useContext -underBinder v0 v1
    have kv1 : Leads fp z v1 := by
      dsimp -zeta only [v1]
      exact keeps_put_serve (hcap.sub rfl) h0
    first | clear_value v1 | skip
    split
    · refine keeps_reply (hcap.sub rfl) ?_
      exact kv1
    · refine keeps_reply (hcap.sub rfl) ?_
      refine keeps_postImage hcap ?_
      exact kv1

theorem keeps_answerStage {fp : Nat} (hcap : Has fp 0x400000) {z : State} {a0 : State} (h0 : Leads fp z a0) :
    Leads fp z (State.answerStage a0) := by
  unfold State.answerStage
  split
  · extract_lets -merge -useContext -underBinder v0
    refine keeps_reply hcap ?_
    exact keeps_put_serve hcap h0
  · exact h0

theorem keeps_answerEndos {fp : Nat} (hcap : Has fp 0x201840000C) {z : State} {a0 : State} (h0 : Leads fp z a0) :
    Leads fp z (State.answerEndos a0) := by
  unfold State.answerEndos
  extract_lets -merge -useContext -underBinder v0
  have kv0 : ∀ y0, Leads fp z y0 → ∀ y1, Leads fp z (v0 y0 y1) := by
    dsimp -zeta only [v0]
    intro y1 hy1 y2
    extract_lets -merge -useContext -underBinder v3 v4 v5
    have kv5 : ∀ y0, Leads fp z y0 → ∀ y1, Leads fp z (v5 y0 y1) := by
      dsimp -zeta only [v5]
      intro y6 hy6 y7
      extract_lets -merge -useContext -underBinder v8
      refine keeps_reply (hcap.sub rfl) ?_
      exact keeps_put_serve (hcap.sub rfl) hy6
    first | clear_value v5 | skip
    refine keeps_ite ?_ ?_
    · refine kv5 _ ?_ _
      exact hy1
    · refine keeps_ite ?_ ?_
      · refine keeps_fetchEndo (hcap.sub rfl) ?_
        exact hy1
      · refine keeps_ite ?_ ?_
        · refine kv5 _ ?_ _
          exact hy1
        · exact hy1
  first | clear_value v0 | skip
  refine keeps_foldl ?_ ?_
  · intro y9 hy9 y10
    refine kv0 _ ?_ _
    exact hy9
  · exact h0

theorem keeps_installSets {fp : Nat} (hcap : Has fp 0x2480400040) {z : State} {a0 : State} (h0 : Leads fp z a0) :
    Leads fp z (State.installSets a0) := by
  unfold State.installSets
  extract_lets -merge -useContext -underBinder v0 v1 v2
  have kv2 : Leads fp z v2 := by
    dsimp -zeta only [v2]
    exact keeps_put_serve (hcap.sub rfl) h0
  first | clear_value v2 | skip
  refine keeps_foldl ?_ ?_
  · intro y3 hy3 y4
    split
    rename_i x5 x6 e8
    have kx5 : Leads fp z x5 := by
      refine keeps_eq1 e8 ?_
      refine keeps_installSet hcap ?_
      exact hy3
    split
    · extract_lets -merge -useContext -underBinder v7
      refine keeps_reply (hcap.sub rfl) ?_
      exact keeps_put_serve (hcap.sub rfl) kx5
    · exact kx5
  · exact kv2

theorem keeps_takeLadders {fp : Nat} (hcap : Has fp 0x2000000E) {z : State} {a0 : State} (h0 : Leads fp z a0) :
    Leads fp z (State.takeLadders a0) := by
  unfold State.takeLadders
  extract_lets -merge -useContext -underBinder v0 v1 v2
  have kv2 : Leads fp z v2 := by
    dsimp -zeta only [v2]
    exact keeps_put_cal (hcap.sub rfl) h0
  first | clear_value v2 | skip
  refine keeps_foldl ?_ ?_
  · intro y3 hy3 y4
    refine keeps_calTriggerMint hcap ?_
    refine keeps_setFld (hcap.sub rfl) ?_
    exact hy3
  · exact kv2

theorem keeps_retryRefresh {fp : Nat} (hcap : Has fp 0x27044002CE) {z : State} {a0 : State} (h0 : Leads fp z a0) :
    Leads fp z (State.retryRefresh a0) := by
  unfold State.retryRefresh
  refine keeps_ite ?_ ?_
  · split
    · refine keeps_refreshStart hcap ?_
      exact h0
    · extract_lets -merge -useContext -underBinder v0
      exact keeps_put_epochs (hcap.sub rfl) h0
  · exact h0

theorem keeps_fallAsleep {fp : Nat} (hcap : Has fp 0x800400002) {z : State} {a0 : State} (h0 : Leads fp z a0) :
    Leads fp z (State.fallAsleep a0) := by
  unfold State.fallAsleep
  extract_lets -merge -useContext -underBinder v0
  refine keeps_ite ?_ ?_
  · refine keeps_settlePower hcap ?_
    exact keeps_put_power (hcap.sub rfl) h0
  · exact h0

theorem keeps_endCorrupt {fp : Nat} (hcap : Has fp 0xBC0000C) {z : State} {a0 : State} (h0 : Leads fp z a0) :
    Leads fp z (State.endCorrupt a0) := by
  unfold State.endCorrupt
  refine keeps_retireWhere hcap ?_
  exact h0

theorem keeps_epochActions {fp : Nat} (hcap : Has fp 0x2FFFC603CE) {z : State} {a0 : State} {a1 : Nat}
    (h0 : Leads fp z a0) :
    Leads fp z (State.epochActions a0 a1) := by
  unfold State.epochActions
  extract_lets -merge -useContext -underBinder v0 v1 v2 v3 v4 v5 v6
  have kv0 : Leads fp z v0 := by
    dsimp -zeta only [v0]
    refine keeps_startRestores (hcap.sub rfl) ?_
    refine keeps_endLost (hcap.sub rfl) ?_
    exact h0
  first | clear_value v0 | skip
  have kv1 : Leads fp z v1 := by
    dsimp -zeta only [v1]
    refine keeps_fenceUnits (hcap.sub rfl) ?_
    refine keeps_dropStale (hcap.sub rfl) ?_
    exact kv0
  first | clear_value v1 | skip
  have kv2 : Leads fp z v2 := by
    dsimp -zeta only [v2]
    refine keeps_expireDrained (hcap.sub rfl) ?_
    refine keeps_endCorrupt (hcap.sub rfl) ?_
    exact kv1
  first | clear_value v2 | skip
  have kv3 : Leads fp z v3 := by
    dsimp -zeta only [v3]
    refine keeps_endSited (hcap.sub rfl) ?_
    refine keeps_settleLoad (hcap.sub rfl) ?_
    refine keeps_emptyDrained (hcap.sub rfl) ?_
    exact kv2
  first | clear_value v3 | skip
  have kv4 : Leads fp z v4 := by
    dsimp -zeta only [v4]
    refine keeps_settlePost (hcap.sub rfl) ?_
    exact kv3
  first | clear_value v4 | skip
  have kv5 : Leads fp z v5 := by
    dsimp -zeta only [v5]
    refine keeps_installSets (hcap.sub rfl) ?_
    refine keeps_takeLadders (hcap.sub rfl) ?_
    exact kv4
  first | clear_value v5 | skip
  have kv6 : Leads fp z v6 := by
    dsimp -zeta only [v6]
    refine keeps_answerEndos (hcap.sub rfl) ?_
    refine keeps_answerStage (hcap.sub rfl) ?_
    exact kv5
  first | clear_value v6 | skip
  refine keeps_loadAdvance (hcap.sub rfl) ?_
  refine keeps_retryRefresh (hcap.sub rfl) ?_
  exact kv6

/-! ### Posting -/

theorem keeps_checkReplays {fp : Nat} (hcap : Has fp 0x270040804E) {z : State} {a0 : State} (h0 : Leads fp z a0) :
    Leads fp z (State.checkReplays a0) := by
  unfold State.checkReplays
  extract_lets -merge -useContext -underBinder v0
  have kv0 : Leads fp z v0 := by
    dsimp -zeta only [v0]
    exact keeps_put_replays (hcap.sub rfl) h0
  first | clear_value v0 | skip
  refine keeps_foldl ?_ ?_
  · intro y1 hy1 y2
    extract_lets -merge -useContext -underBinder v3 v4 v5 v6
    have kv5 : Leads fp z v5 := by
      dsimp -zeta only [v5]
      refine keeps_fault (hcap.sub rfl) ?_
      exact hy1
    first | clear_value v5 | skip
    have kv6 : Leads fp z v6 := by
      dsimp -zeta only [v6]
      refine keeps_bump (hcap.sub rfl) ?_
      exact kv5
    first | clear_value v6 | skip
    refine keeps_ite ?_ ?_
    · exact hy1
    · refine keeps_markRows (hcap.sub rfl) ?_
      exact kv6
  · exact kv0

theorem keeps_withhold {fp : Nat} (hcap : Has fp 0x400000) {z : State} {a0 : State} {a1 : Row} {a2 : Nat}
    (h0 : Leads fp z a0) :
    Leads fp z (State.withhold a0 a1 a2) := by
  unfold State.withhold
  refine keeps_ite ?_ ?_
  · refine keeps_say hcap ?_
    exact h0
  · refine keeps_ite ?_ ?_
    · refine keeps_say hcap ?_
      exact h0
    · exact h0

theorem keeps_poisonRow {fp : Nat} (hcap : Has fp 0x2700C0004E) {z : State} {a0 : State} {a1 : Row}
    (h0 : Leads fp z a0) :
    Leads fp z (State.poisonRow a0 a1) := by
  unfold State.poisonRow
  extract_lets -merge -useContext -underBinder v0 v1
  refine keeps_endSeq (hcap.sub rfl) ?_
  refine keeps_fault (hcap.sub rfl) ?_
  exact h0

theorem keeps_faultRow {fp : Nat} (hcap : Has fp 0xC00000) {z : State} {a0 : State} {a1 : Row} (h0 : Leads fp z a0) :
    Leads fp z (State.faultRow a0 a1) := by
  unfold State.faultRow
  extract_lets -merge -useContext -underBinder v0 v1
  have kv1 : Leads fp z v1 := by
    dsimp -zeta only [v1]
    refine keeps_setSeq (hcap.sub rfl) ?_
    refine keeps_withhold (hcap.sub rfl) ?_
    exact h0
  first | clear_value v1 | skip
  refine keeps_ite ?_ ?_
  · refine keeps_endSeq hcap ?_
    exact kv1
  · exact kv1

theorem keeps_lostRow {fp : Nat} (hcap : Has fp 0xC00000) {z : State} {a0 : State} {a1 : Row} (h0 : Leads fp z a0) :
    Leads fp z (State.lostRow a0 a1) := by
  unfold State.lostRow
  extract_lets -merge -useContext -underBinder v0
  refine keeps_setSeq (hcap.sub rfl) ?_
  refine keeps_withhold (hcap.sub rfl) ?_
  exact h0

theorem keeps_deliverToken {fp : Nat} (hcap : Has fp 0xC0000E) {z : State} {a0 : State} {a1 : Row} {a2 : Nat}
    (h0 : Leads fp z a0) :
    Leads fp z (State.deliverToken a0 a1 a2) := by
  unfold State.deliverToken
  extract_lets -merge -useContext -underBinder v0 v1 v2 v3 v4 v5 v6 v7 v8
  have kv3 : Leads fp z v3 := by
    dsimp -zeta only [v3]
    refine keeps_bump (hcap.sub rfl) ?_
    refine keeps_logToken (hcap.sub rfl) ?_
    exact h0
  first | clear_value v3 | skip
  have kv5 : Leads fp z v5 := by
    dsimp -zeta only [v5]
    refine keeps_setAcct (hcap.sub rfl) ?_
    exact kv3
  first | clear_value v5 | skip
  have kv6 : Leads fp z v6 := by
    dsimp -zeta only [v6]
    refine keeps_say (hcap.sub rfl) ?_
    exact kv5
  first | clear_value v6 | skip
  have kv8 : Leads fp z v8 := by
    dsimp -zeta only [v8]
    refine keeps_setSeq (hcap.sub rfl) ?_
    exact kv6
  first | clear_value v8 | skip
  refine keeps_ite ?_ ?_
  · refine keeps_endSeq (hcap.sub rfl) ?_
    exact kv8
  · refine keeps_ite ?_ ?_
    · refine keeps_completeSeq (hcap.sub rfl) ?_
      exact kv8
    · refine keeps_ite ?_ ?_
      · refine keeps_completeSeq (hcap.sub rfl) ?_
        exact kv8
      · refine keeps_ite ?_ ?_
        · refine keeps_completeSeq (hcap.sub rfl) ?_
          exact kv8
        · exact kv8

theorem keeps_tuneRow {fp : Nat} (hcap : Has fp 0xC00000) {z : State} {a0 : State} {a1 : Row} (h0 : Leads fp z a0) :
    Leads fp z (State.tuneRow a0 a1) := by
  unfold State.tuneRow
  extract_lets -merge -useContext -underBinder v0 v1 v2 v3
  have kv2 : Leads fp z v2 := by
    dsimp -zeta only [v2]
    refine keeps_say (hcap.sub rfl) ?_
    exact h0
  first | clear_value v2 | skip
  have kv3 : Leads fp z v3 := by
    dsimp -zeta only [v3]
    refine keeps_setSeq (hcap.sub rfl) ?_
    exact kv2
  first | clear_value v3 | skip
  refine keeps_ite ?_ ?_
  · refine keeps_endSeq hcap ?_
    exact kv3
  · refine keeps_ite ?_ ?_
    · refine keeps_endSeq hcap ?_
      exact kv3
    · exact kv3

theorem keeps_plainRow {fp : Nat} (hcap : Has fp 0xC00000) {z : State} {a0 : State} {a1 : Row} (h0 : Leads fp z a0) :
    Leads fp z (State.plainRow a0 a1) := by
  unfold State.plainRow
  extract_lets -merge -useContext -underBinder v0 v1
  have kv1 : Leads fp z v1 := by
    dsimp -zeta only [v1]
    refine keeps_ite ?_ ?_
    · exact h0
    · refine keeps_ite ?_ ?_
      · refine keeps_setSeq (hcap.sub rfl) ?_
        exact h0
      · refine keeps_setSeq (hcap.sub rfl) ?_
        exact h0
  first | clear_value v1 | skip
  refine keeps_ite ?_ ?_
  · refine keeps_endSeq hcap ?_
    exact kv1
  · exact kv1

theorem keeps_settleRow {fp : Nat} (hcap : Has fp 0x2700C0004E) {z : State} {a0 : State} {a1 : Row}
    (h0 : Leads fp z a0) :
    Leads fp z (State.settleRow a0 a1) := by
  unfold State.settleRow
  extract_lets -merge -useContext -underBinder v0
  refine keeps_ite ?_ ?_
  · exact h0
  · refine keeps_ite ?_ ?_
    · refine keeps_poisonRow hcap ?_
      exact h0
    · refine keeps_ite ?_ ?_
      · refine keeps_ite ?_ ?_
        · refine keeps_faultRow (hcap.sub rfl) ?_
          exact h0
        · refine keeps_lostRow (hcap.sub rfl) ?_
          exact h0
      · refine keeps_ite ?_ ?_
        · refine keeps_tuneRow (hcap.sub rfl) ?_
          exact h0
        · split
          · refine keeps_deliverToken (hcap.sub rfl) ?_
            exact h0
          · refine keeps_plainRow (hcap.sub rfl) ?_
            exact h0

theorem keeps_settleRows {fp : Nat} (hcap : Has fp 0x2700C0004E) {z : State} {a0 : State} (h0 : Leads fp z a0) :
    Leads fp z (State.settleRows a0) := by
  unfold State.settleRows
  refine keeps_foldl ?_ ?_
  · intro y0 hy0 y1
    refine keeps_settleRow hcap ?_
    exact hy0
  · exact h0

theorem keeps_endLostFolios {fp : Nat} (hcap : Has fp 0xC00000) {z : State} {a0 : State} {a1 : Nat}
    (h0 : Leads fp z a0) :
    Leads fp z (State.endLostFolios a0 a1) := by
  unfold State.endLostFolios
  extract_lets -merge -useContext -underBinder v0
  refine keeps_foldl ?_ ?_
  · intro y1 hy1 y2
    extract_lets -merge -useContext -underBinder v3
    split
    · refine keeps_ite ?_ ?_
      · refine keeps_endSeq hcap ?_
        exact hy1
      · exact hy1
    · exact hy1
  · exact h0

theorem keeps_endDeadlines {fp : Nat} (hcap : Has fp 0xC00000) {z : State} {a0 : State} (h0 : Leads fp z a0) :
    Leads fp z (State.endDeadlines a0) := by
  unfold State.endDeadlines
  refine keeps_foldl ?_ ?_
  · intro y0 hy0 y1
    refine keeps_ite ?_ ?_
    · refine keeps_endSeq hcap ?_
      exact hy0
    · exact hy0
  · exact h0

theorem keeps_writeGradient {fp : Nat} (hcap : Has fp 0x618800000E) {z : State} {a0 : State} {a1 : Nat}
    {a2 : Nat} {a3 : Nat} (h0 : Leads fp z a0) :
    Leads fp z (State.writeGradient a0 a1 a2 a3) := by
  unfold State.writeGradient
  extract_lets -merge -useContext -underBinder v0 v1
  refine keeps_ite ?_ ?_
  · exact h0
  · split
    rename_i x2 x3 e7
    have kx3 : Leads fp z x3 := by
      refine keeps_eq2 e7 ?_
      refine keeps_draw (hcap.sub rfl) ?_
      exact h0
    extract_lets -merge -useContext -underBinder v4 v5 v6
    have kv5 : Leads fp z v5 := by
      dsimp -zeta only [v5]
      refine keeps_ledgerWrite (hcap.sub rfl) ?_
      exact kx3
    first | clear_value v5 | skip
    have kv6 : Leads fp z v6 := by
      dsimp -zeta only [v6]
      refine keeps_ledgerWrite (hcap.sub rfl) ?_
      exact kv5
    first | clear_value v6 | skip
    refine keeps_setEndo (hcap.sub rfl) ?_
    exact kv6

theorem keeps_writeGradients {fp : Nat} (hcap : Has fp 0x618800000E) {z : State} {a0 : State} {a1 : Nat}
    (h0 : Leads fp z a0) :
    Leads fp z (State.writeGradients a0 a1) := by
  unfold State.writeGradients
  extract_lets -merge -useContext -underBinder v0 v1
  refine keeps_foldl ?_ ?_
  · intro y2 hy2 y3
    refine keeps_writeGradient hcap ?_
    exact hy2
  · exact h0

theorem keeps_logEvents {fp : Nat} (hcap : Has fp 0x200400002) {z : State} {a0 : State} (h0 : Leads fp z a0) :
    Leads fp z (State.logEvents a0) := by
  unfold State.logEvents
  extract_lets -merge -useContext -underBinder v0 v1 v2 v3 v4 v5 v6 v7
  have kv0 : Leads fp z v0 := by
    dsimp -zeta only [v0]
    refine keeps_ite ?_ ?_
    · exact h0
    · refine keeps_eventHolder (hcap.sub rfl) ?_
      exact h0
  first | clear_value v0 | skip
  have kv2 : Leads fp z v2 := by
    dsimp -zeta only [v2]
    refine keeps_ite ?_ ?_
    · refine keeps_eventHolder (hcap.sub rfl) ?_
      exact kv0
    · exact kv0
  first | clear_value v2 | skip
  have kv3 : Leads fp z v3 := by
    dsimp -zeta only [v3]
    refine keeps_ite ?_ ?_
    · exact kv2
    · refine keeps_eventAll (hcap.sub rfl) ?_
      exact kv2
  first | clear_value v3 | skip
  have kv4 : Leads fp z v4 := by
    dsimp -zeta only [v4]
    refine keeps_ite ?_ ?_
    · exact kv3
    · refine keeps_eventAll (hcap.sub rfl) ?_
      exact kv3
  first | clear_value v4 | skip
  have kv5 : Leads fp z v5 := by
    dsimp -zeta only [v5]
    refine keeps_ite ?_ ?_
    · exact kv4
    · refine keeps_setFlag (hcap.sub rfl) ?_
      exact kv4
  first | clear_value v5 | skip
  have kv6 : Leads fp z v6 := by
    dsimp -zeta only [v6]
    refine keeps_ite ?_ ?_
    · exact kv5
    · refine keeps_setFlag (hcap.sub rfl) ?_
      exact kv5
  first | clear_value v6 | skip
  exact keeps_put_log (hcap.sub rfl) kv6

theorem keeps_routeEvents {fp : Nat} (hcap : Has fp 0x100400000) {z : State} {a0 : State} (h0 : Leads fp z a0) :
    Leads fp z (State.routeEvents a0) := by
  unfold State.routeEvents
  extract_lets -merge -useContext -underBinder v0 v1 v2 v3 v4
  have kv2 : Leads fp z v2 := by
    dsimp -zeta only [v2]
    refine keeps_foldl ?_ ?_
    · intro y5 hy5 y6
      refine keeps_eventAll (hcap.sub rfl) ?_
      exact hy5
    · exact h0
  first | clear_value v2 | skip
  have kv3 : Leads fp z v3 := by
    dsimp -zeta only [v3]
    refine keeps_foldl ?_ ?_
    · intro y7 hy7 y8
      refine keeps_eventAll (hcap.sub rfl) ?_
      exact hy7
    · exact kv2
  first | clear_value v3 | skip
  exact keeps_put_clr (hcap.sub rfl) kv3

theorem keeps_dropHeld {fp : Nat} (hcap : Has fp 0x100000002) {z : State} {a0 : State} (h0 : Leads fp z a0) :
    Leads fp z (State.dropHeld a0) := by
  unfold State.dropHeld
  extract_lets -merge -useContext -underBinder v0 v1 v2
  have kv1 : Leads fp z v1 := by
    dsimp -zeta only [v1]
    refine keeps_foldl ?_ ?_
    · intro y3 hy3 y4
      refine keeps_bump (hcap.sub rfl) ?_
      exact hy3
    · exact h0
  first | clear_value v1 | skip
  exact keeps_put_clr (hcap.sub rfl) kv1

theorem keeps_statements {fp : Nat} (hcap : Has fp 0x2000600002) {z : State} {a0 : State} {a1 : Nat}
    (h0 : Leads fp z a0) :
    Leads fp z (State.statements a0 a1) := by
  unfold State.statements
  extract_lets -merge -useContext -underBinder v0 v1 v2 v3 v4
  have kv3 : Leads fp z v3 := by
    dsimp -zeta only [v3]
    refine keeps_foldl ?_ ?_
    · intro y5 hy5 y6
      refine keeps_deliver (hcap.sub rfl) ?_
      exact hy5
    · exact h0
  first | clear_value v3 | skip
  exact keeps_put_serve (hcap.sub rfl) kv3

theorem keeps_finishPost {fp : Nat} (hcap : Has fp 0x2B00600042) {z : State} {a0 : State} {a1 : Nat}
    (h0 : Leads fp z a0) :
    Leads fp z (State.finishPost a0 a1) := by
  unfold State.finishPost
  extract_lets -merge -useContext -underBinder v0 v1
  have kv1 : Leads fp z v1 := by
    dsimp -zeta only [v1]
    first | exact keeps_put_mram (hcap.sub rfl) h0 rfl | exact keeps_fuse (hcap.sub rfl) h0 | exact keeps_seed (hcap.sub rfl) h0 | exact keeps_life (hcap.sub rfl) h0
  first | clear_value v1 | skip
  refine keeps_fallAsleep (hcap.sub rfl) ?_
  refine keeps_statements (hcap.sub rfl) ?_
  refine keeps_settleAccounts (hcap.sub rfl) ?_
  refine keeps_dropHeld (hcap.sub rfl) ?_
  refine keeps_routeEvents (hcap.sub rfl) ?_
  refine keeps_logEvents (hcap.sub rfl) ?_
  exact kv1

theorem keeps_postActions {fp : Nat} (hcap : Has fp 0x6FFFE6C3CE) {z : State} {a0 : State} {a1 : Nat}
    (h0 : Leads fp z a0) :
    Leads fp z (State.postActions a0 a1).1 := by
  unfold State.postActions
  split
  rename_i x0 x1 e10
  have kx0 : Leads fp z x0 := by
    refine keeps_eq1 e10 ?_
    refine keeps_takeCut (hcap.sub rfl) ?_
    exact h0
  extract_lets -merge -useContext -underBinder v2 v3 v4 v5 v6 v7
  have kv2 : Leads fp z v2 := by
    dsimp -zeta only [v2]
    refine keeps_foldl ?_ ?_
    · intro y8 hy8 y9
      refine keeps_earlyTicket (hcap.sub rfl) ?_
      exact hy8
    · exact kx0
  first | clear_value v2 | skip
  have kv3 : Leads fp z v3 := by
    dsimp -zeta only [v3]
    refine keeps_checkReplays (hcap.sub rfl) ?_
    refine keeps_lostFolios (hcap.sub rfl) ?_
    exact kv2
  first | clear_value v3 | skip
  have kv4 : Leads fp z v4 := by
    dsimp -zeta only [v4]
    refine keeps_endDeadlines (hcap.sub rfl) ?_
    refine keeps_endLostFolios (hcap.sub rfl) ?_
    refine keeps_settleRows (hcap.sub rfl) ?_
    exact kv3
  first | clear_value v4 | skip
  have kv5 : Leads fp z v5 := by
    dsimp -zeta only [v5]
    refine keeps_formatActions (hcap.sub rfl) ?_
    refine keeps_writeGradients (hcap.sub rfl) ?_
    exact kv4
  first | clear_value v5 | skip
  have kv6 : Leads fp z v6 := by
    dsimp -zeta only [v6]
    refine keeps_ledgerActions (hcap.sub rfl) ?_
    exact kv5
  first | clear_value v6 | skip
  have kv7 : Leads fp z v7 := by
    dsimp -zeta only [v7]
    refine keeps_lateTickets (hcap.sub rfl) ?_
    refine keeps_epochActions (hcap.sub rfl) ?_
    exact kv6
  first | clear_value v7 | skip
  refine keeps_formStep (hcap.sub rfl) ?_
  exact kv7

theorem keeps_releaseAndSay {fp : Nat} (hcap : Has fp 0x6B1061004E) {z : State} {a0 : State} {a1 : List Row}
    {a2 : Nat} {a3 : Nat} (h0 : Leads fp z a0) :
    Leads fp z (State.releaseAndSay a0 a1 a2 a3) := by
  unfold State.releaseAndSay
  refine keeps_finishPost (hcap.sub rfl) ?_
  refine keeps_releaseStep (hcap.sub rfl) ?_
  exact h0

theorem keeps_postStep {fp : Nat} (hcap : Has fp 0x6FFFE7C3CE) {z : State} {a0 : State} (h0 : Leads fp z a0) :
    Leads fp z (State.postStep a0) := by
  unfold State.postStep
  extract_lets -merge -useContext -underBinder v0
  refine keeps_ite ?_ ?_
  · exact h0
  · split
    rename_i x1 x2 x3 e5
    have kx1 : Leads fp z x1 := by
      refine keeps_eq1 e5 ?_
      refine keeps_postActions (hcap.sub rfl) ?_
      exact h0
    extract_lets -merge -useContext -underBinder v4
    refine keeps_ite ?_ ?_
    · exact keeps_put_serve (hcap.sub rfl) kx1
    · refine keeps_releaseAndSay (hcap.sub rfl) ?_
      exact kx1

theorem keeps_postEmpty {fp : Nat} (hcap : Has fp 0x6FFFE703CE) {z : State} {a0 : State} (h0 : Leads fp z a0) :
    Leads fp z (State.postEmpty a0) := by
  unfold State.postEmpty
  refine keeps_ite ?_ ?_
  · exact h0
  · split
    rename_i x0 x1 e10
    have kx0 : Leads fp z x0 := by
      refine keeps_eq1 e10 ?_
      refine keeps_takeCut (hcap.sub rfl) ?_
      exact h0
    extract_lets -merge -useContext -underBinder v2 v3
    have kv2 : Leads fp z v2 := by
      dsimp -zeta only [v2]
      refine keeps_foldl ?_ ?_
      · intro y4 hy4 y5
        refine keeps_earlyTicket (hcap.sub rfl) ?_
        exact hy4
      · exact kx0
    first | clear_value v2 | skip
    have kv3 : Leads fp z v3 := by
      dsimp -zeta only [v3]
      refine keeps_lateTickets (hcap.sub rfl) ?_
      refine keeps_epochActions (hcap.sub rfl) ?_
      exact kv2
    first | clear_value v3 | skip
    refine keeps_ite ?_ ?_
    · split
      rename_i x6 x7 x8 e9
      have kx6 : Leads fp z x6 := by
        refine keeps_eq1 e9 ?_
        refine keeps_formStep (hcap.sub rfl) ?_
        exact kv3
      refine keeps_releaseAndSay (hcap.sub rfl) ?_
      exact kx6
    · refine keeps_finishPost (hcap.sub rfl) ?_
      exact kv3

theorem keeps_endHold {fp : Nat} (hcap : Has fp 0x6B1061007E) {z : State} {a0 : State} (h0 : Leads fp z a0) :
    Leads fp z (State.endHold a0) := by
  unfold State.endHold
  split
  · exact h0
  · extract_lets -merge -useContext -underBinder v0 v1 v2 v3
    have kv2 : Leads fp z v2 := by
      dsimp -zeta only [v2]
      exact keeps_put_serve (hcap.sub rfl) h0
    first | clear_value v2 | skip
    have kv3 : Leads fp z v3 := by
      dsimp -zeta only [v3]
      refine keeps_ite ?_ ?_
      · refine keeps_handover (hcap.sub rfl) ?_
        exact kv2
      · exact kv2
    first | clear_value v3 | skip
    refine keeps_releaseAndSay (hcap.sub rfl) ?_
    exact kv3

theorem leads_execPostingPoint {fp : Nat} (hcap : Has fp 0x6FFFE7C3CE) {z t : State} {a0 : State}
    (h0 : Leads fp z a0) (e : (execPostingPoint a0) = .next t) :
    Leads fp z t := by
  unfold execPostingPoint at e
  injection e with e
  subst e
  refine keeps_postStep hcap ?_
  exact h0

theorem leads_execEmptyPostingPoint {fp : Nat} (hcap : Has fp 0x6FFFE703CE) {z t : State} {a0 : State}
    (h0 : Leads fp z a0) (e : (execEmptyPostingPoint a0) = .next t) :
    Leads fp z t := by
  unfold execEmptyPostingPoint at e
  injection e with e
  subst e
  refine keeps_postEmpty hcap ?_
  exact h0

end Sys2Proof.Machine
end

