-- ==== Sys2Proof/Laws/LeadsPorts.lean ====
section
/-! SUPPORT. Every operation of boot, register writes and the Clearing fabric leads on from its state: one lemma each. -/

namespace Sys2Proof.Machine

/-! ### Boot -/

theorem keeps_runSlot {fp : Nat} (hcap : Has fp 0x80000042) {z : State} {a0 : State} {a1 : Nat} {a2 : Nat}
    {a3 : Bool} (h0 : Leads fp z a0) :
    Leads fp z (State.runSlot a0 a1 a2 a3) := by
  unfold State.runSlot
  extract_lets -merge -useContext -underBinder v0 v1 v2 v3
  have kv1 : Leads fp z v1 := by
    dsimp -zeta only [v1]
    first | exact keeps_put_mram (hcap.sub rfl) h0 rfl | exact keeps_fuse (hcap.sub rfl) h0 | exact keeps_seed (hcap.sub rfl) h0 | exact keeps_life (hcap.sub rfl) h0
  first | clear_value v1 | skip
  have kv3 : Leads fp z v3 := by
    dsimp -zeta only [v3]
    refine keeps_ite ?_ ?_
    · refine keeps_setFlag (hcap.sub rfl) ?_
      exact kv1
    · first | exact keeps_put_mram (hcap.sub rfl) kv1 rfl | exact keeps_fuse (hcap.sub rfl) kv1 | exact keeps_seed (hcap.sub rfl) kv1 | exact keeps_life (hcap.sub rfl) kv1
  first | clear_value v3 | skip
  refine keeps_extend (hcap.sub rfl) ?_
  exact kv3

theorem keeps_measureBoot {fp : Nat} (hcap : Has fp 0x80000000) {z : State} {a0 : State} (h0 : Leads fp z a0) :
    Leads fp z (State.measureBoot a0) := by
  unfold State.measureBoot
  extract_lets -merge -useContext -underBinder v0 v1 v2
  have kv0 : Leads fp z v0 := by
    dsimp -zeta only [v0]
    refine keeps_extend hcap ?_
    exact h0
  first | clear_value v0 | skip
  have kv1 : Leads fp z v1 := by
    dsimp -zeta only [v1]
    refine keeps_extend hcap ?_
    exact kv0
  first | clear_value v1 | skip
  have kv2 : Leads fp z v2 := by
    dsimp -zeta only [v2]
    refine keeps_extend hcap ?_
    exact kv1
  first | clear_value v2 | skip
  split
  · refine keeps_extend hcap ?_
    exact kv2
  · exact kv2

theorem keeps_firmwareBoot {fp : Nat} (hcap : Has fp 0x2FFFFFFFFE) {z : State} {a0 : State} (h0 : Leads fp z a0) :
    Leads fp z (State.firmwareBoot a0) := by
  unfold State.firmwareBoot
  split
  · extract_lets -merge -useContext -underBinder v0 v1 v2
    have kv0 : Leads fp z v0 := by
      dsimp -zeta only [v0]
      refine keeps_measureBoot (hcap.sub rfl) ?_
      refine keeps_runSlot (hcap.sub rfl) ?_
      refine keeps_runSlot (hcap.sub rfl) ?_
      exact h0
    first | clear_value v0 | skip
    have kv1 : Leads fp z v1 := by
      dsimp -zeta only [v1]
      refine keeps_setFld (hcap.sub rfl) ?_
      exact kv0
    first | clear_value v1 | skip
    have kv2 : Leads fp z v2 := by
      dsimp -zeta only [v2]
      refine keeps_ite ?_ ?_
      · refine keeps_fwFailed hcap ?_
        exact kv1
      · exact kv1
    first | clear_value v2 | skip
    refine keeps_ite ?_ ?_
    · refine keeps_fwFailed hcap ?_
      exact kv2
    · exact kv2
  · refine keeps_fwFailed hcap ?_
    refine keeps_setFlag (hcap.sub rfl) ?_
    exact h0

theorem keeps_verifyBank {fp : Nat} (hcap : Has fp 0x27004000CE) {z : State} {a0 : State} {a1 : Nat} {a2 : Bank}
    (h0 : Leads fp z a0) :
    Leads fp z (State.verifyBank a0 a1 a2) := by
  unfold State.verifyBank
  refine keeps_ite ?_ ?_
  · refine keeps_programRecord (hcap.sub rfl) ?_
    refine keeps_setDir (hcap.sub rfl) ?_
    exact h0
  · exact h0

theorem keeps_verifyDirectory {fp : Nat} (hcap : Has fp 0x27004000CE) {z : State} {a0 : State} (h0 : Leads fp z a0) :
    Leads fp z (State.verifyDirectory a0) := by
  unfold State.verifyDirectory
  refine keeps_foldl ?_ ?_
  · intro y0 hy0 y1
    refine keeps_verifyBank hcap ?_
    refine keeps_verifyBank hcap ?_
    exact hy0
  · exact h0

theorem keeps_restoreSurplus {fp : Nat} (hcap : Has fp 0x10C) {z : State} {a0 : State} {a1 : Nat}
    {a2 : SurplusRec} (h0 : Leads fp z a0) :
    Leads fp z (State.restoreSurplus a0 a1 a2) := by
  unfold State.restoreSurplus
  split
  · exact h0
  · extract_lets -merge -useContext -underBinder v0
    refine keeps_ite ?_ ?_
    · refine keeps_auxWrite (hcap.sub rfl) ?_
      refine keeps_setSurplus (hcap.sub rfl) ?_
      exact h0
    · refine keeps_setTile (hcap.sub rfl) ?_
      exact h0

theorem keeps_restoreAll {fp : Nat} (hcap : Has fp 0x10C) {z : State} {a0 : State} (h0 : Leads fp z a0) :
    Leads fp z (State.restoreAll a0) := by
  unfold State.restoreAll
  refine keeps_foldl ?_ ?_
  · intro y0 hy0 y1
    refine keeps_restoreSurplus hcap ?_
    exact hy0
  · exact h0

theorem keeps_resetNotice {fp : Nat} (hcap : Has fp 0x2000200022) {z : State} {a0 : State} (h0 : Leads fp z a0) :
    Leads fp z (State.resetNotice a0) := by
  unfold State.resetNotice
  split
  · exact h0
  · extract_lets -merge -useContext -underBinder v0 v1 v2
    have kv2 : Leads fp z v2 := by
      dsimp -zeta only [v2]
      exact keeps_put_rst (hcap.sub rfl) h0
    first | clear_value v2 | skip
    refine keeps_notice (hcap.sub rfl) ?_
    refine keeps_notice (hcap.sub rfl) ?_
    exact kv2

theorem keeps_toPhase {fp : Nat} (hcap : Has fp 0x2) {z : State} {a0 : State} {a1 : Nat} (h0 : Leads fp z a0) :
    Leads fp z (State.toPhase a0 a1) := by
  unfold State.toPhase
  refine keeps_setFld hcap ?_
  exact h0

theorem keeps_phaseDone {fp : Nat} (hcap : Has fp 0x2FFFFFFFFE) {z : State} {a0 : State} (h0 : Leads fp z a0) :
    Leads fp z (State.phaseDone a0) := by
  unfold State.phaseDone
  split
  · refine keeps_ite ?_ ?_
    · refine keeps_firmwareBoot hcap ?_
      exact h0
    · exact h0
  · refine keeps_ite ?_ ?_
    · exact h0
    · refine keeps_toPhase (hcap.sub rfl) ?_
      exact h0
  · refine keeps_ite ?_ ?_
    · refine keeps_toPhase (hcap.sub rfl) ?_
      exact h0
    · exact h0
  · refine keeps_ite ?_ ?_
    · refine keeps_toPhase (hcap.sub rfl) ?_
      exact h0
    · exact h0
  · refine keeps_toPhase (hcap.sub rfl) ?_
    refine keeps_verifyDirectory (hcap.sub rfl) ?_
    exact h0
  · refine keeps_toPhase (hcap.sub rfl) ?_
    refine keeps_restoreAll (hcap.sub rfl) ?_
    exact h0
  · refine keeps_ite ?_ ?_
    · exact h0
    · refine keeps_resetNotice (hcap.sub rfl) ?_
      refine keeps_setFlag (hcap.sub rfl) ?_
      refine keeps_toPhase (hcap.sub rfl) ?_
      exact h0
  · exact h0

theorem keeps_compareCounters {fp : Nat} (hcap : Has fp 0x6B1061007E) {z : State} {a0 : State} (h0 : Leads fp z a0) :
    Leads fp z (State.compareCounters a0) := by
  unfold State.compareCounters
  extract_lets -merge -useContext -underBinder v0 v1 v2
  have kv1 : Leads fp z v1 := by
    dsimp -zeta only [v1]
    refine keeps_setFld (hcap.sub rfl) ?_
    exact h0
  first | clear_value v1 | skip
  refine keeps_ite ?_ ?_
  · exact h0
  · refine keeps_endHold hcap ?_
    exact keeps_put_time (hcap.sub rfl) kv1

theorem leads_execBootPhaseComplete {fp : Nat} (hcap : Has fp 0x2FFFFFFFFE) {z t : State} {a0 : State}
    (h0 : Leads fp z a0) (e : (execBootPhaseComplete a0) = .next t) :
    Leads fp z t := by
  unfold execBootPhaseComplete at e
  injection e with e
  subst e
  refine keeps_phaseDone hcap ?_
  exact h0

theorem leads_execCounterCompare {fp : Nat} (hcap : Has fp 0x6B1061007E) {z t : State} {a0 : State}
    (h0 : Leads fp z a0) (e : (execCounterCompare a0) = .next t) :
    Leads fp z t := by
  unfold execCounterCompare at e
  injection e with e
  subst e
  refine keeps_compareCounters hcap ?_
  exact h0

/-! ### Registers -/

theorem keeps_w1c {fp : Nat} (hcap : Has fp 0x2) {z : State} {a0 : State} {a1 : Nat} {a2 : Nat} {a3 : Nat}
    (h0 : Leads fp z a0) :
    Leads fp z (State.w1c a0 a1 a2 a3) := by
  unfold State.w1c
  extract_lets -merge -useContext -underBinder v0
  refine keeps_setReg hcap ?_
  exact h0

theorem keeps_glbWrite {fp : Nat} (hcap : Has fp 0x800400042) {z : State} {a0 : State} {a1 : Src} {a2 : Nat}
    {a3 : Nat} (h0 : Leads fp z a0) :
    Leads fp z (State.glbWrite a0 a1 a2 a3) := by
  unfold State.glbWrite
  extract_lets -merge -useContext -underBinder v0 v1
  have kv0 : Leads fp z v0 := by
    dsimp -zeta only [v0]
    refine keeps_writeCap (hcap.sub rfl) ?_
    refine keeps_w1c (hcap.sub rfl) ?_
    exact h0
  first | clear_value v0 | skip
  have kv1 : Leads fp z v1 := by
    dsimp -zeta only [v1]
    refine keeps_ite ?_ ?_
    · refine keeps_clearTrip (hcap.sub rfl) ?_
      exact h0
    · exact h0
  first | clear_value v1 | skip
  refine keeps_ite ?_ ?_
  · exact h0
  · refine keeps_ite ?_ ?_
    · split
      · refine keeps_reqRun (hcap.sub rfl) ?_
        exact kv0
      · refine keeps_reqHold (hcap.sub rfl) ?_
        exact kv0
      · refine keeps_reqSleep (hcap.sub rfl) ?_
        exact kv0
      · exact kv0
    · refine keeps_ite ?_ ?_
      · refine keeps_writeThrottle (hcap.sub rfl) ?_
        exact kv1
      · refine keeps_ite ?_ ?_
        · refine keeps_w1c (hcap.sub rfl) ?_
          exact h0
        · exact h0

theorem keeps_stwWrite {fp : Nat} (hcap : Has fp 0x22) {z : State} {a0 : State} {a1 : Src} {a2 : Nat} {a3 : Nat}
    (h0 : Leads fp z a0) :
    Leads fp z (State.stwWrite a0 a1 a2 a3) := by
  unfold State.stwWrite
  extract_lets -merge -useContext -underBinder v0 v1 v2
  have kv0 : Leads fp z v0 := by
    dsimp -zeta only [v0]
    refine keeps_w1c (hcap.sub rfl) ?_
    exact h0
  first | clear_value v0 | skip
  have kv1 : Leads fp z v1 := by
    dsimp -zeta only [v1]
    refine keeps_ite ?_ ?_
    · refine keeps_claimWrite hcap ?_
      exact kv0
    · exact kv0
  first | clear_value v1 | skip
  have kv2 : Leads fp z v2 := by
    dsimp -zeta only [v2]
    refine keeps_setFld (hcap.sub rfl) ?_
    exact h0
  first | clear_value v2 | skip
  refine keeps_ite ?_ ?_
  · refine keeps_ite ?_ ?_
    · refine keeps_handoverWrite hcap ?_
      exact kv1
    · exact kv1
  · refine keeps_ite ?_ ?_
    · exact h0
    · refine keeps_ite ?_ ?_
      · refine keeps_setFld (hcap.sub rfl) ?_
        exact h0
      · refine keeps_ite ?_ ?_
        · refine keeps_setFld (hcap.sub rfl) ?_
          exact h0
        · refine keeps_ite ?_ ?_
          · refine keeps_ite ?_ ?_
            · refine keeps_fwStart (hcap.sub rfl) ?_
              exact kv2
            · exact kv2
          · exact h0

theorem keeps_rstWrite {fp : Nat} (hcap : Has fp 0xFFFFFFFBE) {z : State} {a0 : State} {a1 : Src} {a2 : Nat}
    {a3 : Nat} (h0 : Leads fp z a0) :
    Leads fp z (State.rstWrite a0 a1 a2 a3) := by
  unfold State.rstWrite
  refine keeps_ite ?_ ?_
  · refine keeps_w1c (hcap.sub rfl) ?_
    exact h0
  · refine keeps_ite ?_ ?_
    · split
      · refine keeps_cmdSystem hcap ?_
        exact h0
      · refine keeps_cmdCore (hcap.sub rfl) ?_
        exact h0
      · refine keeps_cmdArm (hcap.sub rfl) ?_
        exact h0
      · refine keeps_cmdDecommission (hcap.sub rfl) ?_
        exact h0
      · exact h0
    · exact h0

theorem keeps_extendWord {fp : Nat} (hcap : Has fp 0x80000002) {z : State} {a0 : State} {a1 : Src} {a2 : Nat}
    {a3 : Nat} (h0 : Leads fp z a0) :
    Leads fp z (State.extendWord a0 a1 a2 a3) := by
  unfold State.extendWord
  extract_lets -merge -useContext -underBinder v0
  have kv0 : Leads fp z v0 := by
    dsimp -zeta only [v0]
    refine keeps_setReg (hcap.sub rfl) ?_
    exact h0
  first | clear_value v0 | skip
  refine keeps_ite ?_ ?_
  · exact h0
  · refine keeps_ite ?_ ?_
    · refine keeps_extendWrite (hcap.sub rfl) ?_
      exact kv0
    · exact kv0

theorem keeps_secWrite {fp : Nat} (hcap : Has fp 0x880400042) {z : State} {a0 : State} {a1 : Src} {a2 : Nat}
    {a3 : Nat} (h0 : Leads fp z a0) :
    Leads fp z (State.secWrite a0 a1 a2 a3) := by
  unfold State.secWrite
  extract_lets -merge -useContext -underBinder v0
  refine keeps_ite ?_ ?_
  · refine keeps_ite ?_ ?_
    · refine keeps_alarmRelease (hcap.sub rfl) ?_
      exact h0
    · exact h0
  · refine keeps_ite ?_ ?_
    · refine keeps_w1c (hcap.sub rfl) ?_
      exact h0
    · refine keeps_ite ?_ ?_
      · refine keeps_raiseLevels (hcap.sub rfl) ?_
        exact h0
      · refine keeps_ite ?_ ?_
        · refine keeps_ite ?_ ?_
          · exact h0
          · refine keeps_ite ?_ ?_
            · refine keeps_setFld (hcap.sub rfl) ?_
              refine keeps_setFld (hcap.sub rfl) ?_
              exact h0
            · refine keeps_ite ?_ ?_
              · refine keeps_setFld (hcap.sub rfl) ?_
                exact h0
              · refine keeps_ite ?_ ?_
                · refine keeps_setFld (hcap.sub rfl) ?_
                  exact h0
                · exact h0
        · refine keeps_ite ?_ ?_
          · refine keeps_extendWord (hcap.sub rfl) ?_
            exact h0
          · exact h0

theorem keeps_audWrite {fp : Nat} (hcap : Has fp 0x2) {z : State} {a0 : State} {a1 : Src} {a2 : Nat} {a3 : Nat}
    {a4 : Nat} (h0 : Leads fp z a0) :
    Leads fp z (State.audWrite a0 a1 a2 a3 a4) := by
  unfold State.audWrite
  extract_lets -merge -useContext -underBinder v0
  have kv0 : Leads fp z v0 := by
    dsimp -zeta only [v0]
    refine keeps_setFlag hcap ?_
    exact h0
  first | clear_value v0 | skip
  refine keeps_ite ?_ ?_
  · exact h0
  · refine keeps_ite ?_ ?_
    · refine keeps_ite ?_ ?_
      · refine keeps_refbufOn hcap ?_
        exact kv0
      · refine keeps_setFlag hcap ?_
        exact kv0
    · refine keeps_ite ?_ ?_
      · refine keeps_w1c hcap ?_
        exact h0
      · refine keeps_ite ?_ ?_
        · refine keeps_w1c hcap ?_
          exact h0
        · refine keeps_ite ?_ ?_
          · refine keeps_w1c hcap ?_
            exact h0
          · refine keeps_ite ?_ ?_
            · refine keeps_clearTrackers hcap ?_
              exact h0
            · refine keeps_ite ?_ ?_
              · refine keeps_w1c hcap ?_
                exact h0
              · exact h0

theorem keeps_hptWrite {fp : Nat} (hcap : Has fp 0x200002) {z : State} {a0 : State} {a1 : Src} {a2 : Nat}
    {a3 : Nat} {a4 : Nat} (h0 : Leads fp z a0) :
    Leads fp z (State.hptWrite a0 a1 a2 a3 a4) := by
  unfold State.hptWrite
  refine keeps_ite ?_ ?_
  · exact h0
  · refine keeps_ite ?_ ?_
    · refine keeps_w1c (hcap.sub rfl) ?_
      exact h0
    · refine keeps_ite ?_ ?_
      · refine keeps_ite ?_ ?_
        · refine keeps_setFld (hcap.sub rfl) ?_
          exact h0
        · exact h0
      · refine keeps_ite ?_ ?_
        · refine keeps_ite ?_ ?_
          · refine keeps_setFld (hcap.sub rfl) ?_
            exact h0
          · exact h0
        · refine keeps_ite ?_ ?_
          · refine keeps_windowWrite hcap ?_
            exact h0
          · exact h0

theorem keeps_talWrite {fp : Nat} (hcap : Has fp 0x40000) {z s : State} {c : Src} {d o v : Nat}
    (h : Leads fp z s) : Leads fp z (s.talWrite c d o v) := by
  unfold State.talWrite
  dsimp only
  split
  · exact keeps_setTally hcap h (fun o k => countersOk_look o _ k)
  · exact h

theorem keeps_blockWrite {fp : Nat} (hcap : Has fp 0x22) {z : State} {a0 : State} {a1 : Src} {a2 : Block}
    {a3 : Nat} (h0 : Leads fp z a0) :
    Leads fp z (State.blockWrite a0 a1 a2 a3) := by
  unfold State.blockWrite
  extract_lets -merge -useContext -underBinder v0
  have kv0 : Leads fp z v0 := by
    dsimp -zeta only [v0]
    refine keeps_quiesceWrite (hcap.sub rfl) ?_
    exact h0
  first | clear_value v0 | skip
  refine keeps_ite ?_ ?_
  · refine keeps_blockReset hcap ?_
    exact kv0
  · exact kv0

theorem keeps_dmaWrite {fp : Nat} (hcap : Has fp 0x27804B006E) {z : State} {a0 : State} {a1 : Src} {a2 : Die}
    {a3 : Nat} {a4 : Nat} {a5 : Nat} (h0 : Leads fp z a0) :
    Leads fp z (State.dmaWrite a0 a1 a2 a3 a4 a5) := by
  unfold State.dmaWrite
  extract_lets -merge -useContext -underBinder v0 v1 v2
  have kv0 : Leads fp z v0 := by
    dsimp -zeta only [v0]
    refine keeps_setFld (hcap.sub rfl) ?_
    exact h0
  first | clear_value v0 | skip
  have kv1 : Leads fp z v1 := by
    dsimp -zeta only [v1]
    refine keeps_ite ?_ ?_
    · refine keeps_dmaStop (hcap.sub rfl) ?_
      exact kv0
    · exact kv0
  first | clear_value v1 | skip
  have kv2 : Leads fp z v2 := by
    dsimp -zeta only [v2]
    refine keeps_ite ?_ ?_
    · refine keeps_dmaGo (hcap.sub rfl) ?_
      exact kv1
    · exact kv1
  first | clear_value v2 | skip
  refine keeps_ite ?_ ?_
  · refine keeps_ite ?_ ?_
    · exact h0
    · refine keeps_ite ?_ ?_
      · refine keeps_blockReset (hcap.sub rfl) ?_
        exact kv2
      · exact kv2
  · refine keeps_ite ?_ ?_
    · refine keeps_w1c (hcap.sub rfl) ?_
      exact h0
    · refine keeps_ite ?_ ?_
      · refine keeps_ite ?_ ?_
        · refine keeps_setFld (hcap.sub rfl) ?_
          exact h0
        · exact h0
      · exact h0

theorem keeps_mgcWrite {fp : Nat} (hcap : Has fp 0x2000002E) {z : State} {a0 : State} {a1 : Src} {a2 : Die}
    {a3 : Nat} {a4 : Nat} {a5 : Nat} (h0 : Leads fp z a0) :
    Leads fp z (State.mgcWrite a0 a1 a2 a3 a4 a5) := by
  unfold State.mgcWrite
  refine keeps_ite ?_ ?_
  · refine keeps_blockWrite (hcap.sub rfl) ?_
    exact h0
  · refine keeps_ite ?_ ?_
    · refine keeps_w1c (hcap.sub rfl) ?_
      exact h0
    · refine keeps_ite ?_ ?_
      · refine keeps_ite ?_ ?_
        · refine keeps_calStart (hcap.sub rfl) ?_
          exact h0
        · exact h0
      · refine keeps_ite ?_ ?_
        · refine keeps_ite ?_ ?_
          · refine keeps_setFld (hcap.sub rfl) ?_
            exact h0
          · exact h0
        · exact h0

theorem keeps_unitWrite {fp : Nat} (hcap : Has fp 0x22) {z : State} {a0 : State} {a1 : Src} {a2 : EngUnit}
    {a3 : Nat} {a4 : Nat} (h0 : Leads fp z a0) :
    Leads fp z (State.unitWrite a0 a1 a2 a3 a4) := by
  unfold State.unitWrite
  refine keeps_ite ?_ ?_
  · refine keeps_blockWrite hcap ?_
    exact h0
  · refine keeps_ite ?_ ?_
    · refine keeps_w1c (hcap.sub rfl) ?_
      exact h0
    · refine keeps_ite ?_ ?_
      · split
        · refine keeps_w1c (hcap.sub rfl) ?_
          exact h0
        · exact h0
      · exact h0

theorem keeps_lstatWrite {fp : Nat} (hcap : Has fp 0x2) {z : State} {a0 : State} {a1 : Src} {a2 : Nat}
    {a3 : Nat} {a4 : Nat} (h0 : Leads fp z a0) :
    Leads fp z (State.lstatWrite a0 a1 a2 a3 a4) := by
  unfold State.lstatWrite
  extract_lets -merge -useContext -underBinder v0 v1
  have kv1 : Leads fp z v1 := by
    dsimp -zeta only [v1]
    refine keeps_w1c hcap ?_
    exact h0
  first | clear_value v1 | skip
  refine keeps_ite ?_ ?_
  · refine keeps_setFld hcap ?_
    refine keeps_setFlag hcap ?_
    exact kv1
  · exact kv1

theorem keeps_tlrWrite {fp : Nat} (hcap : Has fp 0x2000200002) {z : State} {a0 : State} {a1 : Src} {a2 : Nat}
    {a3 : Nat} {a4 : Nat} {a5 : Nat} (h0 : Leads fp z a0) :
    Leads fp z (State.tlrWrite a0 a1 a2 a3 a4 a5) := by
  unfold State.tlrWrite
  refine keeps_ite ?_ ?_
  · exact h0
  · split
    · refine keeps_ringConfig (hcap.sub rfl) ?_
      exact h0
    · refine keeps_ringConfig (hcap.sub rfl) ?_
      exact h0
    · refine keeps_ringConfig (hcap.sub rfl) ?_
      exact h0
    · refine keeps_ringConfig (hcap.sub rfl) ?_
      exact h0
    · refine keeps_ringConfig (hcap.sub rfl) ?_
      exact h0
    · refine keeps_tailWrite hcap ?_
      exact h0
    · refine keeps_stampWrite (hcap.sub rfl) ?_
      exact h0
    · refine keeps_lstatWrite (hcap.sub rfl) ?_
      exact h0
    · exact h0

theorem keeps_msixWrite {fp : Nat} (hcap : Has fp 0x2000200000) {z : State} {a0 : State} {a1 : Nat} {a2 : Nat}
    {a3 : Nat} {a4 : Nat} {a5 : Nat} (h0 : Leads fp z a0) :
    Leads fp z (State.msixWrite a0 a1 a2 a3 a4 a5) := by
  unfold State.msixWrite
  extract_lets -merge -useContext -underBinder v0 v1
  refine keeps_ite ?_ ?_
  · exact h0
  · refine keeps_ite ?_ ?_
    · refine keeps_ite ?_ ?_
      · refine keeps_msixMask (hcap.sub rfl) ?_
        exact h0
      · refine keeps_msixClear hcap ?_
        exact h0
    · refine keeps_setPort (hcap.sub rfl) ?_
      exact h0

theorem keeps_wordWrite {fp : Nat} (hcap : Has fp 0x2FFFFFFFFE) {z : State} {a0 : State} {a1 : Src} {a2 : Nat}
    {a3 : Nat} (h0 : Leads fp z a0) :
    Leads fp z (State.wordWrite a0 a1 a2 a3) := by
  unfold State.wordWrite
  extract_lets -merge -useContext -underBinder v0
  split
  · refine keeps_glbWrite (hcap.sub rfl) ?_
    exact h0
  · refine keeps_stwWrite (hcap.sub rfl) ?_
    exact h0
  · refine keeps_rstWrite (hcap.sub rfl) ?_
    exact h0
  · refine keeps_secWrite (hcap.sub rfl) ?_
    exact h0
  · refine keeps_audWrite (hcap.sub rfl) ?_
    exact h0
  · refine keeps_hptWrite (hcap.sub rfl) ?_
    exact h0
  · exact h0
  · exact h0
  · refine keeps_talWrite (hcap.sub rfl) ?_
    exact h0
  · refine keeps_dmaWrite (hcap.sub rfl) ?_
    exact h0
  · exact h0
  · refine keeps_ite ?_ ?_
    · refine keeps_timerCtrl (hcap.sub rfl) ?_
      exact h0
    · refine keeps_ite ?_ ?_
      · refine keeps_timerPeriod (hcap.sub rfl) ?_
        exact h0
      · exact h0
  · refine keeps_ite ?_ ?_
    · refine keeps_setFld (hcap.sub rfl) ?_
      exact h0
    · exact h0
  · exact h0
  · refine keeps_mgcWrite (hcap.sub rfl) ?_
    exact h0
  · refine keeps_unitWrite (hcap.sub rfl) ?_
    exact h0
  · refine keeps_unitWrite (hcap.sub rfl) ?_
    exact h0
  · refine keeps_unitWrite (hcap.sub rfl) ?_
    exact h0
  · refine keeps_tlrWrite (hcap.sub rfl) ?_
    exact h0
  · refine keeps_msixWrite (hcap.sub rfl) ?_
    exact h0
  · refine keeps_ite ?_ ?_
    · refine keeps_flogTail (hcap.sub rfl) ?_
      exact h0
    · exact h0
  · exact h0

theorem keeps_vfWrite {fp : Nat} (hcap : Has fp 0x2000200002) {z : State} {a0 : State} {a1 : Src} {a2 : Nat}
    {a3 : Nat} (h0 : Leads fp z a0) :
    Leads fp z (State.vfWrite a0 a1 a2 a3) := by
  unfold State.vfWrite
  extract_lets -merge -useContext -underBinder v0
  refine keeps_ite ?_ ?_
  · refine keeps_tlrWrite hcap ?_
    exact h0
  · refine keeps_ite ?_ ?_
    · refine keeps_msixWrite (hcap.sub rfl) ?_
      exact h0
    · exact h0

theorem leads_regWrite {fp : Nat} (hcap : Has fp 0x2FFFFFFFFE) {z s t : State} {w : Src} {a v : Nat}
    {wide : Bool} (h : Leads fp z s)
    (e : s.regWrite w a wide v = .next t) : Leads fp z t := by
  unfold State.regWrite at e
  extract_lets n write at e
  have k : ∀ s a v, Leads fp z s → Leads fp z (write s a v) := by
    intro s a v h
    exact keeps_ite (keeps_wordWrite hcap h) (keeps_vfWrite (hcap.sub rfl) h)
  clear_value write
  split at e
  · cases e
  · split at e
    · cases e
    · split at e
      · injection e with e; subst e; exact k _ _ _ (k _ _ _ h)
      · injection e with e; subst e; exact k _ _ _ h

theorem leads_execRegisterWrite {fp : Nat} (hcap : Has fp 0x2FFFFFFFFE) {z s t : State} {w : Src} {a : Nat}
    {wide : Bool} {v : Word64} (h : Leads fp z s)
    (e : execRegisterWrite w a wide v s = .next t) : Leads fp z t := leads_regWrite hcap h e

/-! ### ClearingOps -/

theorem keeps_takeGranule {fp : Nat} (hcap : Has fp 0x270040004E) {z : State} {a0 : State} {a1 : Nat}
    {a2 : Codeword} (h0 : Leads fp z a0) :
    Leads fp z (State.takeGranule a0 a1 a2).1 := by
  unfold State.takeGranule
  split
  · refine keeps_mk ?_
    exact h0
  · refine keeps_mk ?_
    exact h0
  · refine keeps_mk ?_
    refine keeps_fault hcap ?_
    exact h0

theorem keeps_takeGranules {fp : Nat} (hcap : Has fp 0x270040004E) {z : State} {p : Nat} : ∀
    {gs : List Codeword} {s : State}, Leads fp z s → Leads fp z (s.takeGranules p gs).1
  | [], _, h => h
  | g :: gs, s, h => by
    unfold State.takeGranules
    exact keeps_takeGranules hcap (gs := gs) (keeps_takeGranule hcap h)

theorem keeps_forward {fp : Nat} (hcap : Has fp 0x278040004E) {z s : State} {p : Nat} {c : ClrCmd}
    {data : List Codeword} (h : Leads fp z s) : Leads fp z (s.forward p c data) := by
  unfold State.forward
  refine keeps_ite (keeps_bump (hcap.sub rfl) (keeps_fault (hcap.sub rfl) h)) ?_
  split
  rename_i s1 gs e
  have k : Leads fp z s1 := keeps_eq1 e (keeps_takeGranules (hcap.sub rfl) h)
  split
  · rename_i t et
    exact keeps_bump (hcap.sub rfl) (keeps_sendTo (hcap.sub rfl) k t et)
  · exact k

theorem keeps_refuseRemote {fp : Nat} (hcap : Has fp 0x270040004E) {z : State} {a0 : State} {a1 : Nat}
    {a2 : ClrCmd} (h0 : Leads fp z a0) :
    Leads fp z (State.refuseRemote a0 a1 a2) := by
  unfold State.refuseRemote
  refine keeps_bump (hcap.sub rfl) ?_
  refine keeps_fault hcap ?_
  exact h0

theorem keeps_remoteWrite {fp : Nat} (hcap : Has fp 0x278040004E) {z : State} {a0 : State} {a1 : Nat}
    {a2 : ClrCmd} {a3 : List Codeword} (h0 : Leads fp z a0) :
    Leads fp z (State.remoteWrite a0 a1 a2 a3) := by
  unfold State.remoteWrite
  refine keeps_ite ?_ ?_
  · exact h0
  · refine keeps_ite ?_ ?_
    · refine keeps_forward hcap ?_
      exact h0
    · split
      rename_i x0 x1 e4
      have kx0 : Leads fp z x0 := by
        refine keeps_eq1 e4 ?_
        refine keeps_takeGranules (hcap.sub rfl) ?_
        exact h0
      extract_lets -merge -useContext -underBinder v2 v3
      have kv2 : Leads fp z v2 := by
        dsimp -zeta only [v2]
        refine keeps_spaceWrite (hcap.sub rfl) ?_
        exact kx0
      first | clear_value v2 | skip
      refine keeps_ite ?_ ?_
      · refine keeps_refuseRemote (hcap.sub rfl) ?_
        exact kx0
      · exact keeps_put_clr (hcap.sub rfl) kv2

theorem keeps_remoteData {fp : Nat} (hcap : Has fp 0x2) {z : State} {a0 : State} {a1 : Nat} {a2 : ClrCmd}
    (h0 : Leads fp z a0) :
    Leads fp z (State.remoteData a0 a1 a2).1 := by
  unfold State.remoteData
  extract_lets -merge -useContext -underBinder v0 v1
  split
  · extract_lets -merge -useContext -underBinder v2
    refine keeps_mk ?_
    refine keeps_foldl ?_ ?_
    · intro y3 hy3 y4
      refine keeps_ite ?_ ?_
      · refine keeps_setFlag hcap ?_
        exact hy3
      · exact hy3
    · exact h0
  · refine keeps_mk ?_
    exact h0
  · refine keeps_mk ?_
    exact h0

theorem keeps_answerRead {fp : Nat} (hcap : Has fp 0x2180000002) {z s : State} {c : ClrCmd} {op : Nat}
    {gs : List Codeword} (h : Leads fp z s) :
    Leads fp z (s.answerRead c op gs) := by
  unfold State.answerRead
  exact keeps_getD h (keeps_sendTo hcap h)

theorem keeps_remoteRead {fp : Nat} (hcap : Has fp 0x278040004E) {z : State} {a0 : State} {a1 : Nat}
    {a2 : ClrCmd} (h0 : Leads fp z a0) :
    Leads fp z (State.remoteRead a0 a1 a2) := by
  unfold State.remoteRead
  refine keeps_ite ?_ ?_
  · exact h0
  · refine keeps_ite ?_ ?_
    · refine keeps_forward hcap ?_
      exact h0
    · refine keeps_ite ?_ ?_
      · refine keeps_answerRead (hcap.sub rfl) ?_
        refine keeps_refuseRemote (hcap.sub rfl) ?_
        exact h0
      · split
        rename_i x0 x1 e2
        have kx0 : Leads fp z x0 := by
          refine keeps_eq1 e2 ?_
          refine keeps_remoteData (hcap.sub rfl) ?_
          exact h0
        refine keeps_answerRead (hcap.sub rfl) ?_
        exact kx0

theorem keeps_dropRead {fp : Nat} (hcap : Has fp 0x100000000) {z : State} {a0 : State} {a1 : BitVec 16}
    (h0 : Leads fp z a0) :
    Leads fp z (State.dropRead a0 a1) := by
  unfold State.dropRead
  extract_lets -merge -useContext -underBinder v0
  exact keeps_put_clr hcap h0

theorem keeps_readBack {fp : Nat} (hcap : Has fp 0x278048004E) {z : State} {a0 : State} {a1 : Nat} {a2 : ClrCmd}
    {a3 : List Codeword} (h0 : Leads fp z a0) :
    Leads fp z (State.readBack a0 a1 a2 a3) := by
  unfold State.readBack
  refine keeps_ite ?_ ?_
  · exact h0
  · refine keeps_ite ?_ ?_
    · refine keeps_forward (hcap.sub rfl) ?_
      exact h0
    · split
      · exact h0
      · split
        rename_i x0 x1 e4
        have kx0 : Leads fp z x0 := by
          refine keeps_eq1 e4 ?_
          refine keeps_takeGranules (hcap.sub rfl) ?_
          exact h0
        extract_lets -merge -useContext -underBinder v2 v3
        have kv2 : Leads fp z v2 := by
          dsimp -zeta only [v2]
          refine keeps_dropRead (hcap.sub rfl) ?_
          exact kx0
        first | clear_value v2 | skip
        refine keeps_setChan (hcap.sub rfl) ?_
        exact kv2

theorem keeps_readFailed {fp : Nat} (hcap : Has fp 0x27804B004E) {z : State} {a0 : State} {a1 : BitVec 16}
    (h0 : Leads fp z a0) :
    Leads fp z (State.readFailed a0 a1) := by
  unfold State.readFailed
  split
  · exact h0
  · refine keeps_transferError hcap ?_
    refine keeps_dropRead (hcap.sub rfl) ?_
    exact h0

theorem keeps_readRefused {fp : Nat} (hcap : Has fp 0x27804B004E) {z : State} {a0 : State} {a1 : Nat}
    {a2 : ClrCmd} (h0 : Leads fp z a0) :
    Leads fp z (State.readRefused a0 a1 a2) := by
  unfold State.readRefused
  refine keeps_ite ?_ ?_
  · exact h0
  · refine keeps_ite ?_ ?_
    · refine keeps_forward (hcap.sub rfl) ?_
      exact h0
    · refine keeps_readFailed hcap ?_
      exact h0

theorem keeps_releaseHeld {fp : Nat} (hcap : Has fp 0x270044004E) {z : State} {a0 : State} (h0 : Leads fp z a0) :
    Leads fp z (State.releaseHeld a0) := by
  unfold State.releaseHeld
  extract_lets -merge -useContext -underBinder v0 v1 v2
  have kv2 : Leads fp z v2 := by
    dsimp -zeta only [v2]
    exact keeps_put_clr (hcap.sub rfl) h0
  first | clear_value v2 | skip
  refine keeps_foldl ?_ ?_
  · intro y3 hy3 y4
    refine keeps_tallyAdd hcap ?_
    exact hy3
  · exact kv2

theorem keeps_signalIn {fp : Nat} (hcap : Has fp 0x278044004E) {z : State} {a0 : State} {a1 : Nat} {a2 : ClrCmd}
    (h0 : Leads fp z a0) :
    Leads fp z (State.signalIn a0 a1 a2) := by
  unfold State.signalIn
  extract_lets -merge -useContext -underBinder v0 v1
  refine keeps_ite ?_ ?_
  · exact h0
  · refine keeps_ite ?_ ?_
    · refine keeps_forward (hcap.sub rfl) ?_
      exact h0
    · refine keeps_ite ?_ ?_
      · refine keeps_refuseRemote (hcap.sub rfl) ?_
        exact h0
      · refine keeps_releaseHeld (hcap.sub rfl) ?_
        exact keeps_put_clr (hcap.sub rfl) h0

theorem keeps_hearLanded {fp : Nat} (hcap : Has fp 0x270044004E) {z : State} {a0 : State} {a1 : Nat} {a2 : Nat}
    {a3 : Nat} (h0 : Leads fp z a0) :
    Leads fp z (State.hearLanded a0 a1 a2 a3) := by
  unfold State.hearLanded
  extract_lets -merge -useContext -underBinder v0 v1 v2
  refine keeps_releaseHeld hcap ?_
  exact keeps_put_clr (hcap.sub rfl) h0

theorem keeps_applyClr {fp : Nat} (hcap : Has fp 0x27804F004E) {z : State} {a0 : State} {a1 : Nat} {a2 : ClrCmd}
    {a3 : List Codeword} (h0 : Leads fp z a0) :
    Leads fp z (State.applyClr a0 a1 a2 a3) := by
  unfold State.applyClr
  split
  · refine keeps_remoteWrite (hcap.sub rfl) ?_
    exact h0
  · refine keeps_remoteRead (hcap.sub rfl) ?_
    exact h0
  · refine keeps_readBack (hcap.sub rfl) ?_
    exact h0
  · refine keeps_signalIn (hcap.sub rfl) ?_
    exact h0
  · exact h0
  · refine keeps_readRefused (hcap.sub rfl) ?_
    exact h0
  · refine keeps_refuseRemote (hcap.sub rfl) ?_
    exact h0

theorem keeps_acceptFlit {fp : Nat} (hcap : Has fp 0x27804F004E) {z : State} {a0 : State} {a1 : Nat} {a2 : Flit}
    (h0 : Leads fp z a0) :
    Leads fp z (State.acceptFlit a0 a1 a2) := by
  unfold State.acceptFlit
  extract_lets -merge -useContext -underBinder v0 v1 v2 v3 v4 v5 v6
  have kv0 : Leads fp z v0 := by
    dsimp -zeta only [v0]
    refine keeps_bump (hcap.sub rfl) ?_
    exact h0
  first | clear_value v0 | skip
  have kv2 : Leads fp z v2 := by
    dsimp -zeta only [v2]
    refine keeps_setLink (hcap.sub rfl) ?_
    exact kv0
  first | clear_value v2 | skip
  have kv3 : Leads fp z v3 := by
    dsimp -zeta only [v3]
    refine keeps_ite ?_ ?_
    · refine keeps_rollKey (hcap.sub rfl) ?_
      exact kv2
    · exact kv2
  first | clear_value v3 | skip
  have kv4 : Leads fp z v4 := by
    dsimp -zeta only [v4]
    refine keeps_dropOldKeys (hcap.sub rfl) ?_
    exact kv3
  first | clear_value v4 | skip
  have kv5 : Leads fp z v5 := by
    dsimp -zeta only [v5]
    refine keeps_ite ?_ ?_
    · refine keeps_replayAll (hcap.sub rfl) ?_
      exact kv4
    · exact kv4
  first | clear_value v5 | skip
  have kv6 : Leads fp z v6 := by
    dsimp -zeta only [v6]
    refine keeps_ite ?_ ?_
    · exact kv5
    · refine keeps_pump (hcap.sub rfl) ?_
      exact kv5
  first | clear_value v6 | skip
  refine keeps_foldl ?_ ?_
  · intro y7 hy7 y8
    refine keeps_applyClr hcap ?_
    exact hy7
  · exact kv6

theorem keeps_flitIn {fp : Nat} (hcap : Has fp 0x27804F004E) {z : State} {a0 : State} {a1 : Nat} {a2 : Flit}
    (h0 : Leads fp z a0) :
    Leads fp z (State.flitIn a0 a1 a2) := by
  unfold State.flitIn
  extract_lets -merge -useContext -underBinder v0 v1 v2 v3
  have kv1 : Leads fp z v1 := by
    dsimp -zeta only [v1]
    refine keeps_bump (hcap.sub rfl) ?_
    exact h0
  first | clear_value v1 | skip
  have kv3 : ∀ y0, Leads fp z y0 → Leads fp z (v3 y0) := by
    dsimp -zeta only [v3]
    intro y4 hy4
    refine keeps_send (hcap.sub rfl) ?_
    exact hy4
  first | clear_value v3 | skip
  refine keeps_ite ?_ ?_
  · exact h0
  · refine keeps_ite ?_ ?_
    · refine kv3 _ ?_
      refine keeps_bump (hcap.sub rfl) ?_
      exact kv1
    · refine keeps_ite ?_ ?_
      · refine kv3 _ ?_
        refine keeps_bump (hcap.sub rfl) ?_
        exact kv1
      · refine keeps_ite ?_ ?_
        · refine kv3 _ ?_
          exact kv1
        · refine keeps_ite ?_ ?_
          · refine keeps_acceptFlit hcap ?_
            exact kv1
          · refine keeps_acceptFlit hcap ?_
            exact kv1

theorem keeps_putDom {fp : Nat} (hcap : Has fp 0x10000000C) {z : State} {a0 : State} {a1 : Nat} {a2 : DomEntry}
    (h0 : Leads fp z a0) :
    Leads fp z (State.putDom a0 a1 a2) := by
  unfold State.putDom
  extract_lets -merge -useContext -underBinder v0
  refine keeps_write (hcap.sub rfl) ?_
  exact keeps_put_clr (hcap.sub rfl) h0

theorem keeps_roll {fp : Nat} (hcap : Has fp 0x2000000000) {z : State} {a0 : State} (h0 : Leads fp z a0) :
    Leads fp z (State.roll a0) := by
  unfold State.roll
  extract_lets -merge -useContext -underBinder v0
  clear_value v0
  split
  · refine keeps_ite ?_ ?_
    · refine keeps_send hcap ?_
      exact h0
    · exact h0
  · exact h0

theorem keeps_rollConflict {fp : Nat} (hcap : Has fp 0x2000400000) {z : State} {a0 : State} {a1 : Nat}
    {a2 : Bool} (h0 : Leads fp z a0) :
    Leads fp z (State.rollConflict a0 a1 a2) := by
  unfold State.rollConflict
  refine keeps_send (hcap.sub rfl) ?_
  refine keeps_eventAll (hcap.sub rfl) ?_
  exact h0

theorem keeps_branchRoll {fp : Nat} (hcap : Has fp 0x210040000C) {z : State} {a0 : State} {a1 : Roll}
    (h0 : Leads fp z a0) :
    Leads fp z (State.branchRoll a0 a1) := by
  unfold State.branchRoll
  split
  · refine keeps_rollConflict (hcap.sub rfl) ?_
    exact h0
  · extract_lets -merge -useContext -underBinder v0 v1 v2
    have kv1 : Leads fp z v1 := by
      dsimp -zeta only [v1]
      refine keeps_putDom (hcap.sub rfl) ?_
      exact h0
    first | clear_value v1 | skip
    have kv2 : Leads fp z v2 := by
      dsimp -zeta only [v2]
      refine keeps_ite ?_ ?_
      · refine keeps_eventAll (hcap.sub rfl) ?_
        exact kv1
      · exact kv1
    first | clear_value v2 | skip
    refine keeps_ite ?_ ?_
    · refine keeps_rollConflict (hcap.sub rfl) ?_
      exact h0
    · refine keeps_send (hcap.sub rfl) ?_
      exact kv2

theorem keeps_rollIn {fp : Nat} (hcap : Has fp 0x210040000E) {z : State} {a0 : State} {a1 : Roll}
    (h0 : Leads fp z a0) :
    Leads fp z (State.rollIn a0 a1) := by
  unfold State.rollIn
  extract_lets -merge -useContext -underBinder v0
  refine keeps_ite ?_ ?_
  · exact h0
  · refine keeps_ite ?_ ?_
    · refine keeps_ite ?_ ?_
      · refine keeps_setFlag (hcap.sub rfl) ?_
        exact keeps_put_clr (hcap.sub rfl) h0
      · exact h0
    · refine keeps_branchRoll (hcap.sub rfl) ?_
      exact h0

theorem keeps_memberLost {fp : Nat} (hcap : Has fp 0x10040000C) {z : State} {a0 : State} {a1 : Nat}
    (h0 : Leads fp z a0) :
    Leads fp z (State.memberLost a0 a1) := by
  unfold State.memberLost
  split
  · exact h0
  · extract_lets -merge -useContext -underBinder v0
    refine keeps_ite ?_ ?_
    · refine keeps_eventAll (hcap.sub rfl) ?_
      refine keeps_putDom (hcap.sub rfl) ?_
      exact h0
    · exact h0

theorem keeps_treasuryLost {fp : Nat} (hcap : Has fp 0x400002) {z : State} {a0 : State} (h0 : Leads fp z a0) :
    Leads fp z (State.treasuryLost a0) := by
  unfold State.treasuryLost
  refine keeps_ite ?_ ?_
  · refine keeps_eventAll (hcap.sub rfl) ?_
    refine keeps_setFlag (hcap.sub rfl) ?_
    refine keeps_setFlag (hcap.sub rfl) ?_
    exact h0
  · exact h0

theorem keeps_peerLost {fp : Nat} (hcap : Has fp 0x400002) {z : State} {a0 : State} (h0 : Leads fp z a0) :
    Leads fp z (State.peerLost a0) := by
  unfold State.peerLost
  refine keeps_ite ?_ ?_
  · refine keeps_eventAll (hcap.sub rfl) ?_
    refine keeps_setFlag (hcap.sub rfl) ?_
    exact h0
  · exact h0

theorem keeps_rollAnswered {fp : Nat} (hcap : Has fp 0x2100400002) {z : State} {a0 : State} {a1 : Option Bool}
    (h0 : Leads fp z a0) :
    Leads fp z (State.rollAnswered a0 a1) := by
  unfold State.rollAnswered
  refine keeps_ite ?_ ?_
  · exact h0
  · split
    · refine keeps_eventAll (hcap.sub rfl) ?_
      refine keeps_setFlag (hcap.sub rfl) ?_
      refine keeps_setFlag (hcap.sub rfl) ?_
      exact h0
    · extract_lets -merge -useContext -underBinder v0 v1 v2 v3
      have kv2 : Leads fp z v2 := by
        dsimp -zeta only [v2]
        exact keeps_put_clr (hcap.sub rfl) h0
      first | clear_value v2 | skip
      have kv3 : Leads fp z v3 := by
        dsimp -zeta only [v3]
        refine keeps_setFlag (hcap.sub rfl) ?_
        refine keeps_setFlag (hcap.sub rfl) ?_
        exact kv2
      first | clear_value v3 | skip
      refine keeps_foldl ?_ ?_
      · intro y4 hy4 y5
        refine keeps_send (hcap.sub rfl) ?_
        exact hy4
      · exact kv3

theorem keeps_recordIn {fp : Nat} (hcap : Has fp 0x30000000E) {z : State} {a0 : State} {a1 : Nat}
    {a2 : FaultRecord} (h0 : Leads fp z a0) :
    Leads fp z (State.recordIn a0 a1 a2) := by
  unfold State.recordIn
  extract_lets -merge -useContext -underBinder v0 v1
  have kv1 : Leads fp z v1 := by
    dsimp -zeta only [v1]
    refine keeps_logPut (hcap.sub rfl) ?_
    exact h0
  first | clear_value v1 | skip
  refine keeps_ite ?_ ?_
  · exact h0
  · clear_value v0
    split
    · exact kv1
    · extract_lets -merge -useContext -underBinder v2
      refine keeps_ite ?_ ?_
      · exact kv1
      · refine keeps_putDom (hcap.sub rfl) ?_
        exact kv1

theorem leads_execFlitReceive {fp : Nat} (hcap : Has fp 0x27804F004E) {z t : State} {a0 : Link} {a1 : Flit}
    {a2 : State} (h2 : Leads fp z a2) (e : (execFlitReceive a0 a1 a2) = .next t) :
    Leads fp z t := by
  unfold execFlitReceive at e
  injection e with e
  subst e
  refine keeps_flitIn hcap ?_
  exact h2

theorem leads_execClrWrite {fp : Nat} (hcap : Has fp 0x278040004E) {z t : State} {a0 : Port} {a1 : ClrCmd}
    {a2 : List Codeword} {a3 : State} (h3 : Leads fp z a3) (e : (execClrWrite a0 a1 a2 a3) = .next t) :
    Leads fp z t := by
  unfold execClrWrite at e
  injection e with e
  subst e
  refine keeps_remoteWrite hcap ?_
  exact h3

theorem leads_execClrReadRequest {fp : Nat} (hcap : Has fp 0x278040004E) {z t : State} {a0 : Port} {a1 : ClrCmd}
    {a2 : State} (h2 : Leads fp z a2) (e : (execClrReadRequest a0 a1 a2) = .next t) :
    Leads fp z t := by
  unfold execClrReadRequest at e
  injection e with e
  subst e
  refine keeps_remoteRead hcap ?_
  exact h2

theorem leads_execClrReadResponse {fp : Nat} (hcap : Has fp 0x278048004E) {z t : State} {a0 : Port}
    {a1 : ClrCmd} {a2 : List Codeword} {a3 : State} (h3 : Leads fp z a3) (e :
    (execClrReadResponse a0 a1 a2 a3) = .next t) :
    Leads fp z t := by
  unfold execClrReadResponse at e
  injection e with e
  subst e
  refine keeps_readBack hcap ?_
  exact h3

theorem leads_execClrRefusal {fp : Nat} (hcap : Has fp 0x27804B004E) {z t : State} {a0 : Port} {a1 : ClrCmd}
    {a2 : State} (h2 : Leads fp z a2) (e : (execClrRefusal a0 a1 a2) = .next t) :
    Leads fp z t := by
  unfold execClrRefusal at e
  injection e with e
  subst e
  refine keeps_readRefused hcap ?_
  exact h2

theorem leads_execSettledSignal {fp : Nat} (hcap : Has fp 0x278044004E) {z t : State} {a0 : Port} {a1 : ClrCmd}
    {a2 : State} (h2 : Leads fp z a2) (e : (execSettledSignal a0 a1 a2) = .next t) :
    Leads fp z t := by
  unfold execSettledSignal at e
  injection e with e
  subst e
  refine keeps_signalIn hcap ?_
  exact h2

theorem leads_execLandedCountUpdate {fp : Nat} (hcap : Has fp 0x270044004E) {z t : State} {a0 : Port}
    {a1 : Node} {a2 : Die} {a3 : State} (h3 : Leads fp z a3) (e :
    (execLandedCountUpdate a0 a1 a2 a3) = .next t) :
    Leads fp z t := by
  unfold execLandedCountUpdate at e
  injection e with e
  subst e
  refine keeps_hearLanded hcap ?_
  exact h3

theorem leads_execReadTimeout {fp : Nat} (hcap : Has fp 0x27804B004E) {z t : State} {a0 : BitVec 16}
    {a1 : State} (h1 : Leads fp z a1) (e : (execReadTimeout a0 a1) = .next t) :
    Leads fp z t := by
  unfold execReadTimeout at e
  injection e with e
  subst e
  refine keeps_readFailed hcap ?_
  exact h1

theorem leads_execRollSend {fp : Nat} (hcap : Has fp 0x2000000000) {z t : State} {a0 : State}
    (h0 : Leads fp z a0) (e : (execRollSend a0) = .next t) :
    Leads fp z t := by
  unfold execRollSend at e
  injection e with e
  subst e
  refine keeps_roll hcap ?_
  exact h0

theorem leads_execRollReceive {fp : Nat} (hcap : Has fp 0x210040000E) {z t : State} {a0 : Roll} {a1 : State}
    (h1 : Leads fp z a1) (e : (execRollReceive a0 a1) = .next t) :
    Leads fp z t := by
  unfold execRollReceive at e
  injection e with e
  subst e
  refine keeps_rollIn hcap ?_
  exact h1

theorem leads_execMemberRollTimeout {fp : Nat} (hcap : Has fp 0x10040000C) {z t : State} {a0 : Node}
    {a1 : State} (h1 : Leads fp z a1) (e : (execMemberRollTimeout a0 a1) = .next t) :
    Leads fp z t := by
  unfold execMemberRollTimeout at e
  injection e with e
  subst e
  refine keeps_memberLost hcap ?_
  exact h1

theorem leads_execTreasuryAckTimeout {fp : Nat} (hcap : Has fp 0x400002) {z t : State} {a0 : State}
    (h0 : Leads fp z a0) (e : (execTreasuryAckTimeout a0) = .next t) :
    Leads fp z t := by
  unfold execTreasuryAckTimeout at e
  injection e with e
  subst e
  refine keeps_treasuryLost hcap ?_
  exact h0

theorem leads_execPeerRollTimeout {fp : Nat} (hcap : Has fp 0x400002) {z t : State} {a0 : State}
    (h0 : Leads fp z a0) (e : (execPeerRollTimeout a0) = .next t) :
    Leads fp z t := by
  unfold execPeerRollTimeout at e
  injection e with e
  subst e
  refine keeps_peerLost hcap ?_
  exact h0

theorem leads_execFaultRecordForward {fp : Nat} (hcap : Has fp 0x30000000E) {z t : State} {a0 : Node}
    {a1 : FaultRecord} {a2 : State} (h2 : Leads fp z a2) (e : (execFaultRecordForward a0 a1 a2) = .next t) :
    Leads fp z t := by
  unfold execFaultRecordForward at e
  injection e with e
  subst e
  refine keeps_recordIn hcap ?_
  exact h2

theorem leads_execRollAcknowledgement {fp : Nat} (hcap : Has fp 0x2100400002) {z t : State} {a0 : Option Bool}
    {a1 : State} (h1 : Leads fp z a1) (e : (execRollAcknowledgement a0 a1) = .next t) :
    Leads fp z t := by
  unfold execRollAcknowledgement at e
  injection e with e
  subst e
  refine keeps_rollAnswered hcap ?_
  exact h1

end Sys2Proof.Machine
end

