-- ==== Sys2Proof/Laws/LeadsExec.lean ====
section
/-! SUPPORT. Every command leads on from its state, within its footprint. -/

namespace Sys2Proof.Machine

/-- A list of parts as a number, one bit a part. -/
def maskOf : List StatePart → Nat
  | [] => 0
  | p :: l => 2 ^ p.index ||| maskOf l

/-- A part outside the list has its bit clear. -/
theorem maskOf_off (p : StatePart) : ∀ {l : List StatePart}, p ∉ l → (maskOf l).testBit p.index = false
  | [], _ => by simp [maskOf]
  | q :: l, h => by
    have hq : p ≠ q := fun e => h (e ▸ List.mem_cons_self)
    have hi : q.index ≠ p.index := by
      intro e
      apply hq
      cases p <;> cases q <;> first | rfl | exact absurd e (by decide)
    simp [maskOf, Nat.testBit_or, maskOf_off p (fun e => h (List.mem_cons_of_mem q e)), hi]

/-- The footprint of a command as a number. -/
def footMask : Instr → Nat
  | .powerOnReset => 0x5FFFFFFFBE
  | .pwrgdRise => 0x22
  | .systemResetPin => 0xFFFFFFFBE
  | .systemResetCmd _ => 0xFFFFFFFBE
  | .coreResetCmd _ => 0xF3FFFFFBE
  | .decommissionArm _ => 0x20
  | .decommission _ => 0x20
  | .firmwareWatchdogExpiry _ _ => 0xFFFFFFFBE
  | .domainRelease _ _ _ _ _ => 0x370040006E
  | .releaseLockTimeout _ => 0x22
  | .arbiterTimeout => 0x2000200022
  | .bootPhaseComplete => 0x2FFFFFFFFE
  | .bootPhaseStall => 0x2
  | .pllLockLost _ _ => 0x2FFFFFFFFE
  | .heartbeatSend _ => 0x2000000000
  | .heartbeatReceive _ _ => 0x2000600022
  | .contactLost _ => 0x2000200022
  | .counterCompare => 0x6B1061007E
  | .handoverRequest _ => 0x22
  | .warrantClaim _ => 0x22
  | .firmwareUpdateStart _ => 0x2
  | .firmwareUpdateDone _ _ => 0x6FFFFFFFFE
  | .postingPoint => 0x6FFFE7C3CE
  | .emptyPostingPoint => 0x6FFFE703CE
  | .charterReady _ _ => 0x4001CC
  | .tellerSlotWrite _ _ _ _ => 0x200002
  | .ticketConsume _ _ => 0x600002
  | .tellerStampWrite _ _ _ => 0x200002
  | .ringTailWrite _ _ _ => 0x2000200002
  | .ringConfigWrite _ _ _ _ => 0x200002
  | .hostWindowWrite _ _ _ _ _ => 0x200002
  | .bar4Write _ _ _ _ => 0xE
  | .bar4Read _ _ _ => 0x2000000000
  | .msixModerationTimer _ _ => 0x2000200000
  | .msixUnmask _ _ _ => 0x2000200000
  | .perstAssert _ => 0x27806B004E
  | .perstRelease _ => 0x200000
  | .pcieLinkDown _ => 0x27806B004E
  | .functionLevelReset _ _ => 0x200002
  | .hostCompletion _ _ _ _ => 0x27804B004E
  | .completionTimeout _ _ => 0x27804B004E
  | .queueEntryEnqueue _ _ _ _ => 0x270043004E
  | .skipEntry _ _ => 0x30002
  | .strikeSlice _ _ => 0x270047094E
  | .strikeVerify _ _ => 0x270047094E
  | .tstrikeSlice _ _ => 0x270047094E
  | .assayRead _ _ => 0x270047084E
  | .assayEnda _ _ => 0x270047004E
  | .assayEndb _ _ => 0x270047084E
  | .assayImport _ _ => 0x270047084E
  | .attendFwd _ _ => 0x270147004E
  | .attendBwd _ _ => 0x270147804E
  | .attendDense _ _ => 0x270047104E
  | .attendDout _ _ => 0x270047004E
  | .vecQuant _ _ => 0x270047204E
  | .vecConvert _ _ => 0x270047004E
  | .vecAdd _ _ => 0x270047004E
  | .vecMul _ _ => 0x270047004E
  | .vecFunc _ _ => 0x270047004E
  | .vecReduce _ _ => 0x270047004E
  | .vecCombine _ _ => 0x270047004E
  | .vecNorm _ _ => 0x270047004E
  | .vecRope _ _ => 0x270047004E
  | .vecAcomb _ _ => 0x270047004E
  | .vecWatch _ _ => 0x270047404E
  | .vecDgrad _ _ => 0x270047004E
  | .folioAppend _ _ => 0x270047004E
  | .folioStage _ _ => 0x270347004E
  | .sample _ _ => 0x270047004E
  | .move _ _ => 0x27004F004E
  | .tallyInc _ _ => 0x270047004E
  | .tallyDec _ _ => 0x270047004E
  | .tallyArrive _ _ => 0x270047004E
  | .barrierNextRound _ => 0x70002
  | .tallyWait _ _ => 0x270047004E
  | .markStep _ _ => 0x270047004E
  | .markFence _ _ => 0x270047004E
  | .markTrace _ _ => 0x270047004E
  | .orderComplete _ _ => 0x30002
  | .signalLand _ => 0x270047004E
  | .watchdogExpiry _ _ => 0x270047004E
  | .dmaGo _ _ _ => 0x270048004E
  | .dmaStop _ _ _ => 0x27804B004E
  | .dmaGrant _ => 0x27805B004E
  | .dmaBurstAck _ _ _ => 0x27806B004E
  | .dmaTriggerEvent _ _ => 0x80002
  | .dmaTransferError _ _ => 0x27804B004E
  | .timerEvent _ _ => 0x2
  | .timerCtrlWrite _ _ _ _ => 0x2
  | .timerPeriodWrite _ _ _ _ => 0x2
  | .quiesceWrite _ _ _ => 0x2
  | .blockResetRequest _ _ => 0x22
  | .blockResetComplete _ => 0x91B22
  | .programCommand _ _ _ => 0x27004002CE
  | .programRowDone _ _ _ _ => 0x27044402CE
  | .bankVerify _ _ _ => 0x27044002CE
  | .mintSweepStart => 0x242
  | .mintSweepDone => 0xFFFFFFFFE
  | .governorGrant _ => 0x502
  | .strikeConvertEnd _ => 0x670040014E
  | .sliceComplete _ => 0x270041094E
  | .mirrorAccumulators _ => 0x270040014E
  | .spotAssay _ => 0x272040014E
  | .spotBurstEnd _ => 0x100
  | .phaseBoundary => 0x27204001CE
  | .assaySetLoaded _ => 0x270040004E
  | .calStartWrite _ _ _ => 0x2000000E
  | .benchCalibration _ _ => 0x100
  | .benchCalibrationDone _ => 0x67004001CE
  | .driftRefreshStart _ => 0x27044002CE
  | .auditConversion _ _ _ _ => 0x2F6040004E
  | .auditBurstStart _ => 0x40000002
  | .auditBurstDone _ _ => 0x276040004E
  | .refbufEnable _ _ => 0x2
  | .refbufSettled _ => 0x2
  | .audDataRead _ _ => 0x2000000002
  | .trackerClear _ _ _ => 0x2
  | .vaultModeChange _ _ => 0x2
  | .thermalTrip => 0x800000040
  | .tripSeenClear _ => 0x42
  | .powerReqRun _ => 0x800400002
  | .powerReqHold _ => 0x800400002
  | .powerReqSleep _ => 0x800400002
  | .powerCapWrite _ _ => 0x800400002
  | .sleepExit => 0x800400002
  | .tamperTestPulse _ _ => 0x270040004E
  | .pinFaultDetect _ _ => 0x270040004E
  | .alarmSourceFire _ => 0x2FFFFFFFFE
  | .alarmRelease _ => 0x800400002
  | .alarmLevelWrite _ _ => 0x40
  | .mailboxAttest _ _ => 0x80000002
  | .attestReportDone _ => 0x2000000002
  | .enrolSlot _ _ => 0x80000042
  | .revokeSlot _ _ => 0x80000042
  | .setAlarmLevels _ _ => 0x80000042
  | .installDomainKey _ _ => 0x80000042
  | .measurementExtend _ _ => 0x80000000
  | .debugUnlock _ _ => 0x6FFFFFFFFE
  | .jtagInstruction _ => 0x1880400002
  | .linkTrain _ _ _ _ _ _ => 0x4180400002
  | .linkRetrain _ => 0x100000000
  | .linkLockLost _ => 0x278040004E
  | .linkKeyRollover _ => 0x80000000
  | .flitReceive _ _ => 0x27804F004E
  | .replayTimeout _ => 0x278040004E
  | .clrWrite _ _ _ => 0x278040004E
  | .clrReadRequest _ _ => 0x278040004E
  | .clrReadResponse _ _ _ => 0x278048004E
  | .clrRefusal _ _ => 0x27804B004E
  | .settledSignal _ _ => 0x278044004E
  | .landedCountUpdate _ _ _ => 0x270044004E
  | .readTimeout _ => 0x27804B004E
  | .rollSend => 0x2000000000
  | .rollReceive _ => 0x210040000E
  | .memberRollTimeout _ => 0x10040000C
  | .treasuryAckTimeout => 0x400002
  | .peerRollTimeout => 0x400002
  | .faultRecordForward _ _ => 0x30000000E
  | .shardArrival _ _ _ => 0x27044002CE
  | .shardAck _ => 0x4000000
  | .shardTimeout _ => 0x270440004E
  | .verifiedReport _ => 0x2004000000
  | .flipCommand => 0x4000000
  | .masterRewriteDone _ => 0x270040014E
  | .tokenFetchComplete _ _ _ => 0x800000
  | .endoFetchComplete _ _ _ => 0x271840004E
  | .endoRecheck _ => 0x270840004E
  | .spillCopyComplete _ _ _ => 0x2181000002
  | .prefetchComplete _ _ _ _ => 0x300000E
  | .probeStart _ => 0x400000002
  | .probeComplete _ _ _ => 0x270040004E
  | .faultLogTailWrite _ _ => 0x2
  | .registerWrite _ _ _ _ => 0x2FFFFFFFFE
  | .pcieLinkUp _ _ _ => 0x2000200002
  | .rollAcknowledgement _ => 0x2100400002
  | .probeSetArrival _ => 0x400000
  | .manifestArrival _ => 0x271C4002CE
  | .shardRefetchRequest _ _ _ _ => 0x2000000000
  | .weightScopeRestoreDone _ _ => 0x40010C
  | .alarmSourceInactive _ => 0x2
  | .ideStreamSetup _ _ _ _ _ => 0x4000200002

theorem footMask_eq (i : Instr) : footMask i = maskOf (footprint i) := by
  cases i <;> rfl

theorem leads_exec {z s t : State} {i : Instr} (h : Leads (footMask i) z s) (e : exec i s = .next t) :
    Leads (footMask i) z t := by
  cases i with
  | powerOnReset => exact leads_execPowerOnReset Has.self h e
  | pwrgdRise => exact leads_execPwrgdRise Has.self h e
  | systemResetPin => exact leads_execSystemResetPin Has.self h e
  | systemResetCmd => exact leads_execSystemResetCmd Has.self h e
  | coreResetCmd => exact leads_execCoreResetCmd Has.self h e
  | decommissionArm => exact leads_execDecommissionArm Has.self h e
  | decommission => exact leads_execDecommission Has.self h e
  | firmwareWatchdogExpiry x0 x1 => exact leads_execFirmwareWatchdogExpiry (a0 := x0) (a1 := x1) Has.self h e
  | domainRelease => exact leads_execDomainRelease Has.self h e
  | releaseLockTimeout => exact leads_execReleaseLockTimeout Has.self h e
  | arbiterTimeout => exact leads_execArbiterTimeout Has.self h e
  | bootPhaseComplete => exact leads_execBootPhaseComplete Has.self h e
  | bootPhaseStall => exact leads_execBootPhaseStall Has.self h e
  | pllLockLost => exact leads_execPllLockLost Has.self h e
  | heartbeatSend => exact leads_execHeartbeatSend Has.self h e
  | heartbeatReceive => exact leads_execHeartbeatReceive Has.self h e
  | contactLost => exact leads_execContactLost Has.self h e
  | counterCompare => exact leads_execCounterCompare Has.self h e
  | handoverRequest => exact leads_execHandoverRequest Has.self h e
  | warrantClaim => exact leads_execWarrantClaim Has.self h e
  | firmwareUpdateStart => exact leads_execFirmwareUpdateStart Has.self h e
  | firmwareUpdateDone => exact leads_execFirmwareUpdateDone Has.self h e
  | postingPoint => exact leads_execPostingPoint Has.self h e
  | emptyPostingPoint => exact leads_execEmptyPostingPoint Has.self h e
  | charterReady => exact leads_execCharterReady Has.self h e
  | tellerSlotWrite => exact leads_execTellerSlotWrite Has.self h e
  | ticketConsume => exact leads_execTicketConsume Has.self h e
  | tellerStampWrite => exact leads_execTellerStampWrite Has.self h e
  | ringTailWrite => exact leads_execRingTailWrite Has.self h e
  | ringConfigWrite => exact leads_execRingConfigWrite Has.self h e
  | hostWindowWrite => exact leads_execHostWindowWrite Has.self h e
  | bar4Write => exact leads_execBar4Write Has.self h e
  | bar4Read => exact leads_execBar4Read Has.self h e
  | msixModerationTimer => exact leads_execMsixModerationTimer Has.self h e
  | msixUnmask => exact leads_execMsixUnmask Has.self h e
  | perstAssert => exact leads_execPerstAssert Has.self h e
  | perstRelease => exact leads_execPerstRelease Has.self h e
  | pcieLinkDown => exact leads_execPcieLinkDown Has.self h e
  | functionLevelReset => exact leads_execFunctionLevelReset Has.self h e
  | hostCompletion => exact leads_execHostCompletion Has.self h e
  | completionTimeout => exact leads_execCompletionTimeout Has.self h e
  | queueEntryEnqueue => exact leads_execQueueEntryEnqueue Has.self h e
  | skipEntry => exact leads_execSkipEntry Has.self h e
  | strikeSlice => exact leads_execStrikeSlice Has.self h e
  | strikeVerify => exact leads_execStrikeVerify Has.self h e
  | tstrikeSlice => exact leads_execTstrikeSlice Has.self h e
  | assayRead => exact leads_execAssayRead Has.self h e
  | assayEnda => exact leads_execAssayEnda Has.self h e
  | assayEndb => exact leads_execAssayEndb Has.self h e
  | assayImport => exact leads_execAssayImport Has.self h e
  | attendFwd => exact leads_execAttendFwd Has.self h e
  | attendBwd => exact leads_execAttendBwd Has.self h e
  | attendDense => exact leads_execAttendDense Has.self h e
  | attendDout => exact leads_execAttendDout Has.self h e
  | vecQuant => exact leads_execVecQuant Has.self h e
  | vecConvert => exact leads_execVecConvert Has.self h e
  | vecAdd => exact leads_execVecAdd Has.self h e
  | vecMul => exact leads_execVecMul Has.self h e
  | vecFunc => exact leads_execVecFunc Has.self h e
  | vecReduce => exact leads_execVecReduce Has.self h e
  | vecCombine => exact leads_execVecCombine Has.self h e
  | vecNorm => exact leads_execVecNorm Has.self h e
  | vecRope => exact leads_execVecRope Has.self h e
  | vecAcomb => exact leads_execVecAcomb Has.self h e
  | vecWatch => exact leads_execVecWatch Has.self h e
  | vecDgrad => exact leads_execVecDgrad Has.self h e
  | folioAppend => exact leads_execFolioAppend Has.self h e
  | folioStage => exact leads_execFolioStage Has.self h e
  | sample => exact leads_execSample Has.self h e
  | move => exact leads_execMove Has.self h e
  | tallyInc => exact leads_execTallyInc Has.self h e
  | tallyDec => exact leads_execTallyDec Has.self h e
  | tallyArrive => exact leads_execTallyArrive Has.self h e
  | barrierNextRound => exact leads_execBarrierNextRound Has.self h e
  | tallyWait => exact leads_execTallyWait Has.self h e
  | markStep => exact leads_execMarkStep Has.self h e
  | markFence => exact leads_execMarkFence Has.self h e
  | markTrace => exact leads_execMarkTrace Has.self h e
  | orderComplete => exact leads_execOrderComplete Has.self h e
  | signalLand => exact leads_execSignalLand Has.self h e
  | watchdogExpiry => exact leads_execWatchdogExpiry Has.self h e
  | dmaGo => exact leads_execDmaGo Has.self h e
  | dmaStop => exact leads_execDmaStop Has.self h e
  | dmaGrant => exact leads_execDmaGrant Has.self h e
  | dmaBurstAck => exact leads_execDmaBurstAck Has.self h e
  | dmaTriggerEvent => exact leads_execDmaTriggerEvent Has.self h e
  | dmaTransferError => exact leads_execDmaTransferError Has.self h e
  | timerEvent => exact leads_execTimerEvent Has.self h e
  | timerCtrlWrite => exact leads_execTimerCtrlWrite Has.self h e
  | timerPeriodWrite => exact leads_execTimerPeriodWrite Has.self h e
  | quiesceWrite => exact leads_execQuiesceWrite Has.self h e
  | blockResetRequest => exact leads_execBlockResetRequest Has.self h e
  | blockResetComplete => exact leads_execBlockResetComplete Has.self h e
  | programCommand => exact leads_execProgramCommand Has.self h e
  | programRowDone => exact leads_execProgramRowDone Has.self h e
  | bankVerify => exact leads_execBankVerify Has.self h e
  | mintSweepStart => exact leads_execMintSweepStart Has.self h e
  | mintSweepDone => exact leads_execMintSweepDone Has.self h e
  | governorGrant => exact leads_execGovernorGrant Has.self h e
  | strikeConvertEnd => exact leads_execStrikeConvertEnd Has.self h e
  | sliceComplete => exact leads_execSliceComplete Has.self h e
  | mirrorAccumulators => exact leads_execMirrorAccumulators Has.self h e
  | spotAssay => exact leads_execSpotAssay Has.self h e
  | spotBurstEnd => exact leads_execSpotBurstEnd Has.self h e
  | phaseBoundary => exact leads_execPhaseBoundary Has.self h e
  | assaySetLoaded => exact leads_execAssaySetLoaded Has.self h e
  | calStartWrite => exact leads_execCalStartWrite Has.self h e
  | benchCalibration => exact leads_execBenchCalibration Has.self h e
  | benchCalibrationDone => exact leads_execBenchCalibrationDone Has.self h e
  | driftRefreshStart => exact leads_execDriftRefreshStart Has.self h e
  | auditConversion => exact leads_execAuditConversion Has.self h e
  | auditBurstStart => exact leads_execAuditBurstStart Has.self h e
  | auditBurstDone => exact leads_execAuditBurstDone Has.self h e
  | refbufEnable => exact leads_execRefbufEnable Has.self h e
  | refbufSettled => exact leads_execRefbufSettled Has.self h e
  | audDataRead => exact leads_execAudDataRead Has.self h e
  | trackerClear => exact leads_execTrackerClear Has.self h e
  | vaultModeChange => exact leads_execVaultModeChange Has.self h e
  | thermalTrip => exact leads_execThermalTrip Has.self h e
  | tripSeenClear => exact leads_execTripSeenClear Has.self h e
  | powerReqRun => exact leads_execPowerReqRun Has.self h e
  | powerReqHold => exact leads_execPowerReqHold Has.self h e
  | powerReqSleep => exact leads_execPowerReqSleep Has.self h e
  | powerCapWrite => exact leads_execPowerCapWrite Has.self h e
  | sleepExit => exact leads_execSleepExit Has.self h e
  | tamperTestPulse => exact leads_execTamperTestPulse Has.self h e
  | pinFaultDetect => exact leads_execPinFaultDetect Has.self h e
  | alarmSourceFire => exact leads_execAlarmSourceFire Has.self h e
  | alarmRelease => exact leads_execAlarmRelease Has.self h e
  | alarmLevelWrite => exact leads_execAlarmLevelWrite Has.self h e
  | mailboxAttest => exact leads_execMailboxAttest Has.self h e
  | attestReportDone => exact leads_execAttestReportDone Has.self h e
  | enrolSlot => exact leads_execEnrolSlot Has.self h e
  | revokeSlot => exact leads_execRevokeSlot Has.self h e
  | setAlarmLevels => exact leads_execSetAlarmLevels Has.self h e
  | installDomainKey => exact leads_execInstallDomainKey Has.self h e
  | measurementExtend => exact leads_execMeasurementExtend Has.self h e
  | debugUnlock => exact leads_execDebugUnlock Has.self h e
  | jtagInstruction => exact leads_execJtagInstruction Has.self h e
  | linkTrain => exact leads_execLinkTrain Has.self h e
  | linkRetrain => exact leads_execLinkRetrain Has.self h e
  | linkLockLost => exact leads_execLinkLockLost Has.self h e
  | linkKeyRollover => exact leads_execLinkKeyRollover Has.self h e
  | flitReceive => exact leads_execFlitReceive Has.self h e
  | replayTimeout => exact leads_execReplayTimeout Has.self h e
  | clrWrite => exact leads_execClrWrite Has.self h e
  | clrReadRequest => exact leads_execClrReadRequest Has.self h e
  | clrReadResponse => exact leads_execClrReadResponse Has.self h e
  | clrRefusal => exact leads_execClrRefusal Has.self h e
  | settledSignal => exact leads_execSettledSignal Has.self h e
  | landedCountUpdate => exact leads_execLandedCountUpdate Has.self h e
  | readTimeout => exact leads_execReadTimeout Has.self h e
  | rollSend => exact leads_execRollSend Has.self h e
  | rollReceive => exact leads_execRollReceive Has.self h e
  | memberRollTimeout => exact leads_execMemberRollTimeout Has.self h e
  | treasuryAckTimeout => exact leads_execTreasuryAckTimeout Has.self h e
  | peerRollTimeout => exact leads_execPeerRollTimeout Has.self h e
  | faultRecordForward => exact leads_execFaultRecordForward Has.self h e
  | shardArrival => exact leads_execShardArrival Has.self h e
  | shardAck => exact leads_execShardAck Has.self h e
  | shardTimeout => exact leads_execShardTimeout Has.self h e
  | verifiedReport => exact leads_execVerifiedReport Has.self h e
  | flipCommand => exact leads_execFlipCommand Has.self h e
  | masterRewriteDone => exact leads_execMasterRewriteDone Has.self h e
  | tokenFetchComplete => exact leads_execTokenFetchComplete Has.self h e
  | endoFetchComplete => exact leads_execEndoFetchComplete Has.self h e
  | endoRecheck => exact leads_execEndoRecheck Has.self h e
  | spillCopyComplete => exact leads_execSpillCopyComplete Has.self h e
  | prefetchComplete => exact leads_execPrefetchComplete Has.self h e
  | probeStart => exact leads_execProbeStart Has.self h e
  | probeComplete => exact leads_execProbeComplete Has.self h e
  | faultLogTailWrite => exact leads_execFaultLogTailWrite Has.self h e
  | registerWrite => exact leads_execRegisterWrite Has.self h e
  | pcieLinkUp => exact leads_execPcieLinkUp Has.self h e
  | rollAcknowledgement => exact leads_execRollAcknowledgement Has.self h e
  | probeSetArrival => exact leads_execProbeSetArrival Has.self h e
  | manifestArrival => exact leads_execManifestArrival Has.self h e
  | shardRefetchRequest x0 x1 x2 x3 => exact leads_execShardRefetchRequest (a0 := x0) (a1 := x1) (a2 := x2) (a3 := x3) Has.self h e
  | weightScopeRestoreDone => exact leads_execWeightScopeRestoreDone Has.self h e
  | alarmSourceInactive => exact leads_execAlarmSourceInactive Has.self h e
  | ideStreamSetup => exact leads_execIdeStreamSetup Has.self h e

/-- Whatever a command does, it does by the changes `Closed` lists, and within its footprint. -/
theorem exec_leads {i : Instr} {s t : State} (e : exec i s = .next t) : Leads (footMask i) s t :=
  leads_exec Leads.self e

end Sys2Proof.Machine
end

