-- ==== Sys2Proof/Laws/Registers.lean ====
section
/-! SUPPORT. The laws of the register bank: what a register, a field or a flag reads after a write. -/

namespace Sys2Proof.Machine

/-! ### Fields of words -/

/-- A field is below its width. -/
theorem bits_lt (w : Word64) (hi lo : Nat) : bits w hi lo < 2 ^ (hi + 1 - lo) :=
  Nat.mod_lt _ (Nat.two_pow_pos _)

/-- A word as what lies above a field, the field, and what lies below it. -/
theorem word_parts (w : Word64) {hi lo : Nat} (h : lo ≤ hi) :
    w.toNat = w.toNat / 2 ^ (hi + 1) * 2 ^ (hi + 1) + bits w hi lo * 2 ^ lo + w.toNat % 2 ^ lo := by
  have e : 2 ^ (hi + 1) = 2 ^ (hi + 1 - lo) * 2 ^ lo := by rw [← Nat.pow_add]; congr 1; omega
  have a := Nat.div_add_mod w.toNat (2 ^ lo)
  have b := Nat.div_add_mod (w.toNat / 2 ^ lo) (2 ^ (hi + 1 - lo))
  have c : w.toNat / 2 ^ (hi + 1) = w.toNat / 2 ^ lo / 2 ^ (hi + 1 - lo) := by rw [Nat.div_div_eq_div_mul, e, Nat.mul_comm]
  unfold bits
  rw [c, e, ← Nat.mul_assoc, ← Nat.add_mul]
  rw [Nat.mul_comm _ (2 ^ (hi + 1 - lo)), b, Nat.mul_comm]
  exact a.symm

/-- What a word is after a field is replaced: the rest as before. -/
theorem setBits_toNat (w : Word64) {hi lo : Nat} (v : Nat) (h : lo ≤ hi) (h64 : hi < 64) :
    (setBits w hi lo v).toNat =
      w.toNat / 2 ^ (hi + 1) * 2 ^ (hi + 1) + v % 2 ^ (hi + 1 - lo) * 2 ^ lo + w.toNat % 2 ^ lo := by
  have p := word_parts w h
  have e : 2 ^ (hi + 1) = 2 ^ (hi + 1 - lo) * 2 ^ lo := by rw [← Nat.pow_add]; congr 1; omega
  have hv : v % 2 ^ (hi + 1 - lo) < 2 ^ (hi + 1 - lo) := Nat.mod_lt _ (Nat.two_pow_pos _)
  have hr : w.toNat % 2 ^ lo < 2 ^ lo := Nat.mod_lt _ (Nat.two_pow_pos _)
  have hw := w.isLt
  have h1 : v % 2 ^ (hi + 1 - lo) * 2 ^ lo + w.toNat % 2 ^ lo < 2 ^ (hi + 1) := by
    rw [e]
    calc v % 2 ^ (hi + 1 - lo) * 2 ^ lo + w.toNat % 2 ^ lo < v % 2 ^ (hi + 1 - lo) * 2 ^ lo + 2 ^ lo := by omega
      _ = (v % 2 ^ (hi + 1 - lo) + 1) * 2 ^ lo := by rw [Nat.add_mul, Nat.one_mul]
      _ ≤ _ := Nat.mul_le_mul_right _ hv
  have hq : w.toNat / 2 ^ (hi + 1) < 2 ^ (64 - (hi + 1)) := by
    apply Nat.div_lt_of_lt_mul
    rw [← Nat.pow_add]
    have : hi + 1 + (64 - (hi + 1)) = 64 := by omega
    rw [this]; exact hw
  have h2 : w.toNat / 2 ^ (hi + 1) * 2 ^ (hi + 1) + 2 ^ (hi + 1) ≤ 2 ^ 64 := by
    calc w.toNat / 2 ^ (hi + 1) * 2 ^ (hi + 1) + 2 ^ (hi + 1) = (w.toNat / 2 ^ (hi + 1) + 1) * 2 ^ (hi + 1) := by
          rw [Nat.add_mul, Nat.one_mul]
      _ ≤ 2 ^ (64 - (hi + 1)) * 2 ^ (hi + 1) := Nat.mul_le_mul_right _ hq
      _ = 2 ^ 64 := by rw [← Nat.pow_add]; congr 1; omega
  unfold setBits
  rw [BitVec.toNat_ofNat, Nat.mod_eq_of_lt]
  · have : bits w hi lo * 2 ^ lo ≤ w.toNat := by omega
    omega
  · have : bits w hi lo * 2 ^ lo ≤ w.toNat := by omega
    omega

/-- A field reads back the bits written to it. -/
theorem bits_setBits_self (w : Word64) {hi lo : Nat} (v : Nat) (h : lo ≤ hi) (h64 : hi < 64) :
    bits (setBits w hi lo v) hi lo = v % 2 ^ (hi + 1 - lo) := by
  have e : 2 ^ (hi + 1) = 2 ^ (hi + 1 - lo) * 2 ^ lo := by rw [← Nat.pow_add]; congr 1; omega
  have hr : w.toNat % 2 ^ lo < 2 ^ lo := Nat.mod_lt _ (Nat.two_pow_pos _)
  unfold bits
  rw [setBits_toNat w v h h64, e, ← Nat.mul_assoc, ← Nat.add_mul, Nat.mul_comm _ (2 ^ lo), Nat.mul_add_div (Nat.two_pow_pos _),
    Nat.div_eq_of_lt hr, Nat.add_zero, Nat.mul_comm (_ / _), Nat.mul_add_mod, Nat.mod_mod]

/-- A field below the one written reads as before. -/
theorem bits_setBits_below (w : Word64) {hi lo hj lj : Nat} (v : Nat) (h : lo ≤ hi) (h64 : hi < 64) (hb : hj < lo) :
    bits (setBits w hi lo v) hj lj = bits w hj lj := by
  have key : ∀ x y : Nat, x % 2 ^ lo = y % 2 ^ lo → x / 2 ^ lj % 2 ^ (hj + 1 - lj) = y / 2 ^ lj % 2 ^ (hj + 1 - lj) := by
    intro x y hxy
    by_cases hl : lj ≤ hj
    · have r : ∀ z : Nat, z / 2 ^ lj % 2 ^ (hj + 1 - lj) = z % 2 ^ lo / 2 ^ lj % 2 ^ (hj + 1 - lj) := by
        intro z
        have e : 2 ^ lo = 2 ^ lj * 2 ^ (lo - lj) := by rw [← Nat.pow_add]; congr 1; omega
        rw [e, Nat.mod_mul_right_div_self]
        have d : 2 ^ (lo - lj) = 2 ^ (hj + 1 - lj) * 2 ^ (lo - (hj + 1)) := by rw [← Nat.pow_add]; congr 1; omega
        rw [d, Nat.mod_mul_right_mod]
      rw [r x, r y, hxy]
    · have : hj + 1 - lj = 0 := by omega
      rw [this, Nat.pow_zero, Nat.mod_one, Nat.mod_one]
  unfold bits
  apply key
  rw [setBits_toNat w v h h64]
  have e : 2 ^ (hi + 1) = 2 ^ (hi + 1 - lo) * 2 ^ lo := by rw [← Nat.pow_add]; congr 1; omega
  rw [e, ← Nat.mul_assoc, ← Nat.add_mul, Nat.mul_comm _ (2 ^ lo), Nat.mul_add_mod, Nat.mod_mod]

/-- A field above the one written reads as before. -/
theorem bits_setBits_above (w : Word64) {hi lo hj lj : Nat} (v : Nat) (h : lo ≤ hi) (h64 : hi < 64) (hb : hi < lj) :
    bits (setBits w hi lo v) hj lj = bits w hj lj := by
  have q : (setBits w hi lo v).toNat / 2 ^ (hi + 1) = w.toNat / 2 ^ (hi + 1) := by
    have e : 2 ^ (hi + 1) = 2 ^ (hi + 1 - lo) * 2 ^ lo := by rw [← Nat.pow_add]; congr 1; omega
    have hv : v % 2 ^ (hi + 1 - lo) < 2 ^ (hi + 1 - lo) := Nat.mod_lt _ (Nat.two_pow_pos _)
    have hr : w.toNat % 2 ^ lo < 2 ^ lo := Nat.mod_lt _ (Nat.two_pow_pos _)
    have h1 : v % 2 ^ (hi + 1 - lo) * 2 ^ lo + w.toNat % 2 ^ lo < 2 ^ (hi + 1) := by
      rw [e]
      calc v % 2 ^ (hi + 1 - lo) * 2 ^ lo + w.toNat % 2 ^ lo < v % 2 ^ (hi + 1 - lo) * 2 ^ lo + 2 ^ lo := by omega
        _ = (v % 2 ^ (hi + 1 - lo) + 1) * 2 ^ lo := by rw [Nat.add_mul, Nat.one_mul]
        _ ≤ _ := Nat.mul_le_mul_right _ hv
    rw [setBits_toNat w v h h64, Nat.add_assoc, Nat.mul_comm, Nat.mul_add_div (Nat.two_pow_pos _), Nat.div_eq_of_lt h1,
      Nat.add_zero]
  unfold bits
  have e : 2 ^ lj = 2 ^ (hi + 1) * 2 ^ (lj - (hi + 1)) := by rw [← Nat.pow_add]; congr 1; omega
  rw [e, ← Nat.div_div_eq_div_mul, ← Nat.div_div_eq_div_mul, q]

/-- A bit is the one-bit field at its place. -/
theorem bitOf_eq (w : Word64) (k : Nat) : bitOf w k = (bits w k k == 1) := by
  unfold bitOf bits
  have : k + 1 - k = 1 := by omega
  rw [this, BitVec.getLsbD, Nat.testBit, Nat.shiftRight_eq_div_pow, Nat.pow_one, Nat.and_comm, Nat.and_one_is_mod]
  rcases Nat.mod_two_eq_zero_or_one (w.toNat / 2 ^ k) with h | h <;> rw [h] <;> rfl

/-! ### Registers -/

/-- A register reads back what was written. -/
@[simp] theorem reg_setReg_self {s : State} {a : Nat} {v : Word64} : (s.setReg a v).reg a = v :=
  look_put_self _ _ _ _

theorem reg_setReg_other {s : State} {a b : Nat} {v : Word64} (h : a ≠ b) : (s.setReg a v).reg b = s.reg b :=
  look_put_other _ _ _ _ h

/-- A register write keeps the bank canonical. -/
theorem bank_setReg {s : State} {a : Nat} {v : Word64} (h : bankWf 0 s.regs = true) :
    bankWf 0 (s.setReg a v).regs = true := bankWf_put _ _ _ _ (Nat.zero_le _) h

theorem bank_setFld {s : State} {a hi lo v : Nat} (h : bankWf 0 s.regs = true) :
    bankWf 0 (s.setFld a hi lo v).regs = true := bank_setReg h

theorem bank_setFlag {s : State} {a k : Nat} {b : Bool} (h : bankWf 0 s.regs = true) :
    bankWf 0 (s.setFlag a k b).regs = true := bank_setReg h

theorem bank_bump {s : State} {a n : Nat} (h : bankWf 0 s.regs = true) : bankWf 0 (s.bump a n).regs = true :=
  bank_setReg h

/-- Registers put back to their reset values read so; the others read as before. -/
theorem reg_clearRegs {s : State} {p : Nat → Bool} {a : Nat} :
    (s.clearRegs p).reg a = if p a then resetVal a else s.reg a := by
  show look (resetVal a) (keepKeys s.regs (fun a => !p a)) a = _
  rw [look_keepKeys]
  cases p a <;> rfl

theorem fld_setFld_self {s : State} {a hi lo v : Nat} (h : lo ≤ hi) (h64 : hi < 64) :
    (s.setFld a hi lo v).fld a hi lo = v % 2 ^ (hi + 1 - lo) := by
  unfold State.fld State.setFld
  rw [reg_setReg_self, bits_setBits_self _ _ h h64]

theorem fld_setFld_apart {s : State} {a hi lo hj lj v : Nat} (h : lo ≤ hi) (h64 : hi < 64)
    (ha : hj < lo ∨ hi < lj) : (s.setFld a hi lo v).fld a hj lj = s.fld a hj lj := by
  unfold State.fld State.setFld
  rw [reg_setReg_self]
  rcases ha with ha | ha
  · exact bits_setBits_below _ _ h h64 ha
  · exact bits_setBits_above _ _ h h64 ha

theorem fld_setFld_other {s : State} {a b hi lo hj lj v : Nat} (h : a ≠ b) :
    (s.setFld a hi lo v).fld b hj lj = s.fld b hj lj := by
  unfold State.fld State.setFld
  rw [reg_setReg_other h]

theorem flag_eq_fld (s : State) (a k : Nat) : s.flag a k = (s.fld a k k == 1) := bitOf_eq _ _

theorem flag_setFlag_self {s : State} {a k : Nat} {b : Bool} (h64 : k < 64) :
    (s.setFlag a k b).flag a k = b := by
  rw [flag_eq_fld]
  unfold State.setFlag
  rw [fld_setFld_self (Nat.le_refl _) h64]
  have : k + 1 - k = 1 := by omega
  rw [this]
  cases b <;> rfl

theorem flag_setFlag_apart {s : State} {a k j : Nat} {b : Bool} (h64 : k < 64)
    (h : j ≠ k) : (s.setFlag a k b).flag a j = s.flag a j := by
  rw [flag_eq_fld, flag_eq_fld]
  unfold State.setFlag
  rw [fld_setFld_apart (Nat.le_refl _) h64 (by omega)]

theorem flag_setFlag_other {s : State} {a c k j : Nat} {b : Bool} (h : a ≠ c) : (s.setFlag a k b).flag c j = s.flag c j := by
  rw [flag_eq_fld, flag_eq_fld]
  unfold State.setFlag
  rw [fld_setFld_other h]

theorem flag_setFld_apart {s : State} {a hi lo j v : Nat} (h : lo ≤ hi) (h64 : hi < 64)
    (ha : j < lo ∨ hi < j) : (s.setFld a hi lo v).flag a j = s.flag a j := by
  rw [flag_eq_fld, flag_eq_fld, fld_setFld_apart h h64 ha]

theorem flag_setFld_other {s : State} {a c hi lo j v : Nat} (h : a ≠ c) : (s.setFld a hi lo v).flag c j = s.flag c j := by
  rw [flag_eq_fld, flag_eq_fld, fld_setFld_other h]

theorem fld_setFlag_apart {s : State} {a k hj lj : Nat} {b : Bool} (h64 : k < 64)
    (ha : hj < k ∨ k < lj) : (s.setFlag a k b).fld a hj lj = s.fld a hj lj :=
  fld_setFld_apart (Nat.le_refl _) h64 ha

theorem fld_setFlag_other {s : State} {a c k hj lj : Nat} {b : Bool} (h : a ≠ c) :
    (s.setFlag a k b).fld c hj lj = s.fld c hj lj := fld_setFld_other h

theorem reg_setFld_other {s : State} {a c hi lo v : Nat} (h : a ≠ c) : (s.setFld a hi lo v).reg c = s.reg c :=
  reg_setReg_other h

theorem reg_setFlag_other {s : State} {a c k : Nat} {b : Bool} (h : a ≠ c) : (s.setFlag a k b).reg c = s.reg c :=
  reg_setReg_other h

theorem reg_bump_other {s : State} {a c n : Nat} (h : a ≠ c) : (s.bump a n).reg c = s.reg c := reg_setReg_other h

theorem reg_bump_self {s : State} {a n : Nat} :
    ((s.bump a n).reg a).toNat = Nat.min ((s.reg a).toNat + n) (2 ^ 64 - 1) := by
  unfold State.bump
  rw [reg_setReg_self, BitVec.toNat_ofNat, Nat.mod_eq_of_lt]
  exact Nat.lt_of_le_of_lt (Nat.min_le_right _ _) (by decide)

end Sys2Proof.Machine
end

