-- ==== Sys2Proof/Laws/State.lean ====
section
/-! SUPPORT. What each update of a part of State leaves: one lemma a field and update, and what is read back after it. -/

namespace Sys2Proof.Machine

/-! ### setReg -/

@[simp] theorem State.setReg_pending (s : State) (a v) : (s.setReg a v).pending = s.pending := rfl
@[simp] theorem State.setReg_mem (s : State) (a v) : (s.setReg a v).mem = s.mem := rfl
@[simp] theorem State.setReg_poison (s : State) (a v) : (s.setReg a v).poison = s.poison := rfl
@[simp] theorem State.setReg_time (s : State) (a v) : (s.setReg a v).time = s.time := rfl
@[simp] theorem State.setReg_rst (s : State) (a v) : (s.setReg a v).rst = s.rst := rfl
@[simp] theorem State.setReg_mram (s : State) (a v) : (s.setReg a v).mram = s.mram := rfl
@[simp] theorem State.setReg_dir (s : State) (a v) : (s.setReg a v).dir = s.dir := rfl
@[simp] theorem State.setReg_tiles (s : State) (a v) : (s.setReg a v).tiles = s.tiles := rfl
@[simp] theorem State.setReg_groups (s : State) (a v) : (s.setReg a v).groups = s.groups := rfl
@[simp] theorem State.setReg_gov (s : State) (a v) : (s.setReg a v).gov = s.gov := rfl
@[simp] theorem State.setReg_assay (s : State) (a v) : (s.setReg a v).assay = s.assay := rfl
@[simp] theorem State.setReg_lanes (s : State) (a v) : (s.setReg a v).lanes = s.lanes := rfl
@[simp] theorem State.setReg_sides (s : State) (a v) : (s.setReg a v).sides = s.sides := rfl
@[simp] theorem State.setReg_watch (s : State) (a v) : (s.setReg a v).watch = s.watch := rfl
@[simp] theorem State.setReg_replays (s : State) (a v) : (s.setReg a v).replays = s.replays := rfl
@[simp] theorem State.setReg_queues (s : State) (a v) : (s.setReg a v).queues = s.queues := rfl
@[simp] theorem State.setReg_signals (s : State) (a v) : (s.setReg a v).signals = s.signals := rfl
@[simp] theorem State.setReg_tallies (s : State) (a v) : (s.setReg a v).tallies = s.tallies := rfl
@[simp] theorem State.setReg_dma (s : State) (a v) : (s.setReg a v).dma = s.dma := rfl
@[simp] theorem State.setReg_dmaArb (s : State) (a v) : (s.setReg a v).dmaArb = s.dmaArb := rfl
@[simp] theorem State.setReg_ports (s : State) (a v) : (s.setReg a v).ports = s.ports := rfl
@[simp] theorem State.setReg_serve (s : State) (a v) : (s.setReg a v).serve = s.serve := rfl
@[simp] theorem State.setReg_seqs (s : State) (a v) : (s.setReg a v).seqs = s.seqs := rfl
@[simp] theorem State.setReg_folio (s : State) (a v) : (s.setReg a v).folio = s.folio := rfl
@[simp] theorem State.setReg_staging (s : State) (a v) : (s.setReg a v).staging = s.staging := rfl
@[simp] theorem State.setReg_epochs (s : State) (a v) : (s.setReg a v).epochs = s.epochs := rfl
@[simp] theorem State.setReg_endo (s : State) (a v) : (s.setReg a v).endo = s.endo := rfl
@[simp] theorem State.setReg_cache (s : State) (a v) : (s.setReg a v).cache = s.cache := rfl
@[simp] theorem State.setReg_cal (s : State) (a v) : (s.setReg a v).cal = s.cal := rfl
@[simp] theorem State.setReg_aud (s : State) (a v) : (s.setReg a v).aud = s.aud := rfl
@[simp] theorem State.setReg_sec (s : State) (a v) : (s.setReg a v).sec = s.sec := rfl
@[simp] theorem State.setReg_clr (s : State) (a v) : (s.setReg a v).clr = s.clr := rfl
@[simp] theorem State.setReg_log (s : State) (a v) : (s.setReg a v).log = s.log := rfl
@[simp] theorem State.setReg_probes (s : State) (a v) : (s.setReg a v).probes = s.probes := rfl
@[simp] theorem State.setReg_power (s : State) (a v) : (s.setReg a v).power = s.power := rfl
@[simp] theorem State.setReg_pins (s : State) (a v) : (s.setReg a v).pins = s.pins := rfl
@[simp] theorem State.setReg_out (s : State) (a v) : (s.setReg a v).out = s.out := rfl
@[simp] theorem State.setReg_free (s : State) (a v) : (s.setReg a v).free = s.free := rfl
@[simp] theorem State.setReg_byte (s : State) (a v) (x) : (s.setReg a v).byte x = s.byte x := rfl
@[simp] theorem State.setReg_read (s : State) (a v) (x m) : (s.setReg a v).read x m = s.read x m := rfl
@[simp] theorem State.setReg_bad (s : State) (a v) (x m) : (s.setReg a v).bad x m = s.bad x m := rfl

/-! ### setFld -/

@[simp] theorem State.setFld_pending (s : State) (a hi lo v) : (s.setFld a hi lo v).pending = s.pending := rfl
@[simp] theorem State.setFld_mem (s : State) (a hi lo v) : (s.setFld a hi lo v).mem = s.mem := rfl
@[simp] theorem State.setFld_poison (s : State) (a hi lo v) : (s.setFld a hi lo v).poison = s.poison := rfl
@[simp] theorem State.setFld_time (s : State) (a hi lo v) : (s.setFld a hi lo v).time = s.time := rfl
@[simp] theorem State.setFld_rst (s : State) (a hi lo v) : (s.setFld a hi lo v).rst = s.rst := rfl
@[simp] theorem State.setFld_mram (s : State) (a hi lo v) : (s.setFld a hi lo v).mram = s.mram := rfl
@[simp] theorem State.setFld_dir (s : State) (a hi lo v) : (s.setFld a hi lo v).dir = s.dir := rfl
@[simp] theorem State.setFld_tiles (s : State) (a hi lo v) : (s.setFld a hi lo v).tiles = s.tiles := rfl
@[simp] theorem State.setFld_groups (s : State) (a hi lo v) : (s.setFld a hi lo v).groups = s.groups := rfl
@[simp] theorem State.setFld_gov (s : State) (a hi lo v) : (s.setFld a hi lo v).gov = s.gov := rfl
@[simp] theorem State.setFld_assay (s : State) (a hi lo v) : (s.setFld a hi lo v).assay = s.assay := rfl
@[simp] theorem State.setFld_lanes (s : State) (a hi lo v) : (s.setFld a hi lo v).lanes = s.lanes := rfl
@[simp] theorem State.setFld_sides (s : State) (a hi lo v) : (s.setFld a hi lo v).sides = s.sides := rfl
@[simp] theorem State.setFld_watch (s : State) (a hi lo v) : (s.setFld a hi lo v).watch = s.watch := rfl
@[simp] theorem State.setFld_replays (s : State) (a hi lo v) : (s.setFld a hi lo v).replays = s.replays := rfl
@[simp] theorem State.setFld_queues (s : State) (a hi lo v) : (s.setFld a hi lo v).queues = s.queues := rfl
@[simp] theorem State.setFld_signals (s : State) (a hi lo v) : (s.setFld a hi lo v).signals = s.signals := rfl
@[simp] theorem State.setFld_tallies (s : State) (a hi lo v) : (s.setFld a hi lo v).tallies = s.tallies := rfl
@[simp] theorem State.setFld_dma (s : State) (a hi lo v) : (s.setFld a hi lo v).dma = s.dma := rfl
@[simp] theorem State.setFld_dmaArb (s : State) (a hi lo v) : (s.setFld a hi lo v).dmaArb = s.dmaArb := rfl
@[simp] theorem State.setFld_ports (s : State) (a hi lo v) : (s.setFld a hi lo v).ports = s.ports := rfl
@[simp] theorem State.setFld_serve (s : State) (a hi lo v) : (s.setFld a hi lo v).serve = s.serve := rfl
@[simp] theorem State.setFld_seqs (s : State) (a hi lo v) : (s.setFld a hi lo v).seqs = s.seqs := rfl
@[simp] theorem State.setFld_folio (s : State) (a hi lo v) : (s.setFld a hi lo v).folio = s.folio := rfl
@[simp] theorem State.setFld_staging (s : State) (a hi lo v) : (s.setFld a hi lo v).staging = s.staging := rfl
@[simp] theorem State.setFld_epochs (s : State) (a hi lo v) : (s.setFld a hi lo v).epochs = s.epochs := rfl
@[simp] theorem State.setFld_endo (s : State) (a hi lo v) : (s.setFld a hi lo v).endo = s.endo := rfl
@[simp] theorem State.setFld_cache (s : State) (a hi lo v) : (s.setFld a hi lo v).cache = s.cache := rfl
@[simp] theorem State.setFld_cal (s : State) (a hi lo v) : (s.setFld a hi lo v).cal = s.cal := rfl
@[simp] theorem State.setFld_aud (s : State) (a hi lo v) : (s.setFld a hi lo v).aud = s.aud := rfl
@[simp] theorem State.setFld_sec (s : State) (a hi lo v) : (s.setFld a hi lo v).sec = s.sec := rfl
@[simp] theorem State.setFld_clr (s : State) (a hi lo v) : (s.setFld a hi lo v).clr = s.clr := rfl
@[simp] theorem State.setFld_log (s : State) (a hi lo v) : (s.setFld a hi lo v).log = s.log := rfl
@[simp] theorem State.setFld_probes (s : State) (a hi lo v) : (s.setFld a hi lo v).probes = s.probes := rfl
@[simp] theorem State.setFld_power (s : State) (a hi lo v) : (s.setFld a hi lo v).power = s.power := rfl
@[simp] theorem State.setFld_pins (s : State) (a hi lo v) : (s.setFld a hi lo v).pins = s.pins := rfl
@[simp] theorem State.setFld_out (s : State) (a hi lo v) : (s.setFld a hi lo v).out = s.out := rfl
@[simp] theorem State.setFld_free (s : State) (a hi lo v) : (s.setFld a hi lo v).free = s.free := rfl
@[simp] theorem State.setFld_byte (s : State) (a hi lo v) (x) : (s.setFld a hi lo v).byte x = s.byte x := rfl
@[simp] theorem State.setFld_read (s : State) (a hi lo v) (x m) : (s.setFld a hi lo v).read x m = s.read x m := rfl
@[simp] theorem State.setFld_bad (s : State) (a hi lo v) (x m) : (s.setFld a hi lo v).bad x m = s.bad x m := rfl

/-! ### setFlag -/

@[simp] theorem State.setFlag_pending (s : State) (a k b) : (s.setFlag a k b).pending = s.pending := rfl
@[simp] theorem State.setFlag_mem (s : State) (a k b) : (s.setFlag a k b).mem = s.mem := rfl
@[simp] theorem State.setFlag_poison (s : State) (a k b) : (s.setFlag a k b).poison = s.poison := rfl
@[simp] theorem State.setFlag_time (s : State) (a k b) : (s.setFlag a k b).time = s.time := rfl
@[simp] theorem State.setFlag_rst (s : State) (a k b) : (s.setFlag a k b).rst = s.rst := rfl
@[simp] theorem State.setFlag_mram (s : State) (a k b) : (s.setFlag a k b).mram = s.mram := rfl
@[simp] theorem State.setFlag_dir (s : State) (a k b) : (s.setFlag a k b).dir = s.dir := rfl
@[simp] theorem State.setFlag_tiles (s : State) (a k b) : (s.setFlag a k b).tiles = s.tiles := rfl
@[simp] theorem State.setFlag_groups (s : State) (a k b) : (s.setFlag a k b).groups = s.groups := rfl
@[simp] theorem State.setFlag_gov (s : State) (a k b) : (s.setFlag a k b).gov = s.gov := rfl
@[simp] theorem State.setFlag_assay (s : State) (a k b) : (s.setFlag a k b).assay = s.assay := rfl
@[simp] theorem State.setFlag_lanes (s : State) (a k b) : (s.setFlag a k b).lanes = s.lanes := rfl
@[simp] theorem State.setFlag_sides (s : State) (a k b) : (s.setFlag a k b).sides = s.sides := rfl
@[simp] theorem State.setFlag_watch (s : State) (a k b) : (s.setFlag a k b).watch = s.watch := rfl
@[simp] theorem State.setFlag_replays (s : State) (a k b) : (s.setFlag a k b).replays = s.replays := rfl
@[simp] theorem State.setFlag_queues (s : State) (a k b) : (s.setFlag a k b).queues = s.queues := rfl
@[simp] theorem State.setFlag_signals (s : State) (a k b) : (s.setFlag a k b).signals = s.signals := rfl
@[simp] theorem State.setFlag_tallies (s : State) (a k b) : (s.setFlag a k b).tallies = s.tallies := rfl
@[simp] theorem State.setFlag_dma (s : State) (a k b) : (s.setFlag a k b).dma = s.dma := rfl
@[simp] theorem State.setFlag_dmaArb (s : State) (a k b) : (s.setFlag a k b).dmaArb = s.dmaArb := rfl
@[simp] theorem State.setFlag_ports (s : State) (a k b) : (s.setFlag a k b).ports = s.ports := rfl
@[simp] theorem State.setFlag_serve (s : State) (a k b) : (s.setFlag a k b).serve = s.serve := rfl
@[simp] theorem State.setFlag_seqs (s : State) (a k b) : (s.setFlag a k b).seqs = s.seqs := rfl
@[simp] theorem State.setFlag_folio (s : State) (a k b) : (s.setFlag a k b).folio = s.folio := rfl
@[simp] theorem State.setFlag_staging (s : State) (a k b) : (s.setFlag a k b).staging = s.staging := rfl
@[simp] theorem State.setFlag_epochs (s : State) (a k b) : (s.setFlag a k b).epochs = s.epochs := rfl
@[simp] theorem State.setFlag_endo (s : State) (a k b) : (s.setFlag a k b).endo = s.endo := rfl
@[simp] theorem State.setFlag_cache (s : State) (a k b) : (s.setFlag a k b).cache = s.cache := rfl
@[simp] theorem State.setFlag_cal (s : State) (a k b) : (s.setFlag a k b).cal = s.cal := rfl
@[simp] theorem State.setFlag_aud (s : State) (a k b) : (s.setFlag a k b).aud = s.aud := rfl
@[simp] theorem State.setFlag_sec (s : State) (a k b) : (s.setFlag a k b).sec = s.sec := rfl
@[simp] theorem State.setFlag_clr (s : State) (a k b) : (s.setFlag a k b).clr = s.clr := rfl
@[simp] theorem State.setFlag_log (s : State) (a k b) : (s.setFlag a k b).log = s.log := rfl
@[simp] theorem State.setFlag_probes (s : State) (a k b) : (s.setFlag a k b).probes = s.probes := rfl
@[simp] theorem State.setFlag_power (s : State) (a k b) : (s.setFlag a k b).power = s.power := rfl
@[simp] theorem State.setFlag_pins (s : State) (a k b) : (s.setFlag a k b).pins = s.pins := rfl
@[simp] theorem State.setFlag_out (s : State) (a k b) : (s.setFlag a k b).out = s.out := rfl
@[simp] theorem State.setFlag_free (s : State) (a k b) : (s.setFlag a k b).free = s.free := rfl
@[simp] theorem State.setFlag_byte (s : State) (a k b) (x) : (s.setFlag a k b).byte x = s.byte x := rfl
@[simp] theorem State.setFlag_read (s : State) (a k b) (x m) : (s.setFlag a k b).read x m = s.read x m := rfl
@[simp] theorem State.setFlag_bad (s : State) (a k b) (x m) : (s.setFlag a k b).bad x m = s.bad x m := rfl

/-! ### bump -/

@[simp] theorem State.bump_pending (s : State) (a n) : (s.bump a n).pending = s.pending := rfl
@[simp] theorem State.bump_mem (s : State) (a n) : (s.bump a n).mem = s.mem := rfl
@[simp] theorem State.bump_poison (s : State) (a n) : (s.bump a n).poison = s.poison := rfl
@[simp] theorem State.bump_time (s : State) (a n) : (s.bump a n).time = s.time := rfl
@[simp] theorem State.bump_rst (s : State) (a n) : (s.bump a n).rst = s.rst := rfl
@[simp] theorem State.bump_mram (s : State) (a n) : (s.bump a n).mram = s.mram := rfl
@[simp] theorem State.bump_dir (s : State) (a n) : (s.bump a n).dir = s.dir := rfl
@[simp] theorem State.bump_tiles (s : State) (a n) : (s.bump a n).tiles = s.tiles := rfl
@[simp] theorem State.bump_groups (s : State) (a n) : (s.bump a n).groups = s.groups := rfl
@[simp] theorem State.bump_gov (s : State) (a n) : (s.bump a n).gov = s.gov := rfl
@[simp] theorem State.bump_assay (s : State) (a n) : (s.bump a n).assay = s.assay := rfl
@[simp] theorem State.bump_lanes (s : State) (a n) : (s.bump a n).lanes = s.lanes := rfl
@[simp] theorem State.bump_sides (s : State) (a n) : (s.bump a n).sides = s.sides := rfl
@[simp] theorem State.bump_watch (s : State) (a n) : (s.bump a n).watch = s.watch := rfl
@[simp] theorem State.bump_replays (s : State) (a n) : (s.bump a n).replays = s.replays := rfl
@[simp] theorem State.bump_queues (s : State) (a n) : (s.bump a n).queues = s.queues := rfl
@[simp] theorem State.bump_signals (s : State) (a n) : (s.bump a n).signals = s.signals := rfl
@[simp] theorem State.bump_tallies (s : State) (a n) : (s.bump a n).tallies = s.tallies := rfl
@[simp] theorem State.bump_dma (s : State) (a n) : (s.bump a n).dma = s.dma := rfl
@[simp] theorem State.bump_dmaArb (s : State) (a n) : (s.bump a n).dmaArb = s.dmaArb := rfl
@[simp] theorem State.bump_ports (s : State) (a n) : (s.bump a n).ports = s.ports := rfl
@[simp] theorem State.bump_serve (s : State) (a n) : (s.bump a n).serve = s.serve := rfl
@[simp] theorem State.bump_seqs (s : State) (a n) : (s.bump a n).seqs = s.seqs := rfl
@[simp] theorem State.bump_folio (s : State) (a n) : (s.bump a n).folio = s.folio := rfl
@[simp] theorem State.bump_staging (s : State) (a n) : (s.bump a n).staging = s.staging := rfl
@[simp] theorem State.bump_epochs (s : State) (a n) : (s.bump a n).epochs = s.epochs := rfl
@[simp] theorem State.bump_endo (s : State) (a n) : (s.bump a n).endo = s.endo := rfl
@[simp] theorem State.bump_cache (s : State) (a n) : (s.bump a n).cache = s.cache := rfl
@[simp] theorem State.bump_cal (s : State) (a n) : (s.bump a n).cal = s.cal := rfl
@[simp] theorem State.bump_aud (s : State) (a n) : (s.bump a n).aud = s.aud := rfl
@[simp] theorem State.bump_sec (s : State) (a n) : (s.bump a n).sec = s.sec := rfl
@[simp] theorem State.bump_clr (s : State) (a n) : (s.bump a n).clr = s.clr := rfl
@[simp] theorem State.bump_log (s : State) (a n) : (s.bump a n).log = s.log := rfl
@[simp] theorem State.bump_probes (s : State) (a n) : (s.bump a n).probes = s.probes := rfl
@[simp] theorem State.bump_power (s : State) (a n) : (s.bump a n).power = s.power := rfl
@[simp] theorem State.bump_pins (s : State) (a n) : (s.bump a n).pins = s.pins := rfl
@[simp] theorem State.bump_out (s : State) (a n) : (s.bump a n).out = s.out := rfl
@[simp] theorem State.bump_free (s : State) (a n) : (s.bump a n).free = s.free := rfl
@[simp] theorem State.bump_byte (s : State) (a n) (x) : (s.bump a n).byte x = s.byte x := rfl
@[simp] theorem State.bump_read (s : State) (a n) (x m) : (s.bump a n).read x m = s.read x m := rfl
@[simp] theorem State.bump_bad (s : State) (a n) (x m) : (s.bump a n).bad x m = s.bad x m := rfl

/-! ### clearReg -/

@[simp] theorem State.clearReg_pending (s : State) (a) : (s.clearReg a).pending = s.pending := rfl
@[simp] theorem State.clearReg_mem (s : State) (a) : (s.clearReg a).mem = s.mem := rfl
@[simp] theorem State.clearReg_poison (s : State) (a) : (s.clearReg a).poison = s.poison := rfl
@[simp] theorem State.clearReg_time (s : State) (a) : (s.clearReg a).time = s.time := rfl
@[simp] theorem State.clearReg_rst (s : State) (a) : (s.clearReg a).rst = s.rst := rfl
@[simp] theorem State.clearReg_mram (s : State) (a) : (s.clearReg a).mram = s.mram := rfl
@[simp] theorem State.clearReg_dir (s : State) (a) : (s.clearReg a).dir = s.dir := rfl
@[simp] theorem State.clearReg_tiles (s : State) (a) : (s.clearReg a).tiles = s.tiles := rfl
@[simp] theorem State.clearReg_groups (s : State) (a) : (s.clearReg a).groups = s.groups := rfl
@[simp] theorem State.clearReg_gov (s : State) (a) : (s.clearReg a).gov = s.gov := rfl
@[simp] theorem State.clearReg_assay (s : State) (a) : (s.clearReg a).assay = s.assay := rfl
@[simp] theorem State.clearReg_lanes (s : State) (a) : (s.clearReg a).lanes = s.lanes := rfl
@[simp] theorem State.clearReg_sides (s : State) (a) : (s.clearReg a).sides = s.sides := rfl
@[simp] theorem State.clearReg_watch (s : State) (a) : (s.clearReg a).watch = s.watch := rfl
@[simp] theorem State.clearReg_replays (s : State) (a) : (s.clearReg a).replays = s.replays := rfl
@[simp] theorem State.clearReg_queues (s : State) (a) : (s.clearReg a).queues = s.queues := rfl
@[simp] theorem State.clearReg_signals (s : State) (a) : (s.clearReg a).signals = s.signals := rfl
@[simp] theorem State.clearReg_tallies (s : State) (a) : (s.clearReg a).tallies = s.tallies := rfl
@[simp] theorem State.clearReg_dma (s : State) (a) : (s.clearReg a).dma = s.dma := rfl
@[simp] theorem State.clearReg_dmaArb (s : State) (a) : (s.clearReg a).dmaArb = s.dmaArb := rfl
@[simp] theorem State.clearReg_ports (s : State) (a) : (s.clearReg a).ports = s.ports := rfl
@[simp] theorem State.clearReg_serve (s : State) (a) : (s.clearReg a).serve = s.serve := rfl
@[simp] theorem State.clearReg_seqs (s : State) (a) : (s.clearReg a).seqs = s.seqs := rfl
@[simp] theorem State.clearReg_folio (s : State) (a) : (s.clearReg a).folio = s.folio := rfl
@[simp] theorem State.clearReg_staging (s : State) (a) : (s.clearReg a).staging = s.staging := rfl
@[simp] theorem State.clearReg_epochs (s : State) (a) : (s.clearReg a).epochs = s.epochs := rfl
@[simp] theorem State.clearReg_endo (s : State) (a) : (s.clearReg a).endo = s.endo := rfl
@[simp] theorem State.clearReg_cache (s : State) (a) : (s.clearReg a).cache = s.cache := rfl
@[simp] theorem State.clearReg_cal (s : State) (a) : (s.clearReg a).cal = s.cal := rfl
@[simp] theorem State.clearReg_aud (s : State) (a) : (s.clearReg a).aud = s.aud := rfl
@[simp] theorem State.clearReg_sec (s : State) (a) : (s.clearReg a).sec = s.sec := rfl
@[simp] theorem State.clearReg_clr (s : State) (a) : (s.clearReg a).clr = s.clr := rfl
@[simp] theorem State.clearReg_log (s : State) (a) : (s.clearReg a).log = s.log := rfl
@[simp] theorem State.clearReg_probes (s : State) (a) : (s.clearReg a).probes = s.probes := rfl
@[simp] theorem State.clearReg_power (s : State) (a) : (s.clearReg a).power = s.power := rfl
@[simp] theorem State.clearReg_pins (s : State) (a) : (s.clearReg a).pins = s.pins := rfl
@[simp] theorem State.clearReg_out (s : State) (a) : (s.clearReg a).out = s.out := rfl
@[simp] theorem State.clearReg_free (s : State) (a) : (s.clearReg a).free = s.free := rfl
@[simp] theorem State.clearReg_byte (s : State) (a) (x) : (s.clearReg a).byte x = s.byte x := rfl
@[simp] theorem State.clearReg_read (s : State) (a) (x m) : (s.clearReg a).read x m = s.read x m := rfl
@[simp] theorem State.clearReg_bad (s : State) (a) (x m) : (s.clearReg a).bad x m = s.bad x m := rfl

/-! ### clearRegs -/

@[simp] theorem State.clearRegs_pending (s : State) (p) : (s.clearRegs p).pending = s.pending := rfl
@[simp] theorem State.clearRegs_mem (s : State) (p) : (s.clearRegs p).mem = s.mem := rfl
@[simp] theorem State.clearRegs_poison (s : State) (p) : (s.clearRegs p).poison = s.poison := rfl
@[simp] theorem State.clearRegs_time (s : State) (p) : (s.clearRegs p).time = s.time := rfl
@[simp] theorem State.clearRegs_rst (s : State) (p) : (s.clearRegs p).rst = s.rst := rfl
@[simp] theorem State.clearRegs_mram (s : State) (p) : (s.clearRegs p).mram = s.mram := rfl
@[simp] theorem State.clearRegs_dir (s : State) (p) : (s.clearRegs p).dir = s.dir := rfl
@[simp] theorem State.clearRegs_tiles (s : State) (p) : (s.clearRegs p).tiles = s.tiles := rfl
@[simp] theorem State.clearRegs_groups (s : State) (p) : (s.clearRegs p).groups = s.groups := rfl
@[simp] theorem State.clearRegs_gov (s : State) (p) : (s.clearRegs p).gov = s.gov := rfl
@[simp] theorem State.clearRegs_assay (s : State) (p) : (s.clearRegs p).assay = s.assay := rfl
@[simp] theorem State.clearRegs_lanes (s : State) (p) : (s.clearRegs p).lanes = s.lanes := rfl
@[simp] theorem State.clearRegs_sides (s : State) (p) : (s.clearRegs p).sides = s.sides := rfl
@[simp] theorem State.clearRegs_watch (s : State) (p) : (s.clearRegs p).watch = s.watch := rfl
@[simp] theorem State.clearRegs_replays (s : State) (p) : (s.clearRegs p).replays = s.replays := rfl
@[simp] theorem State.clearRegs_queues (s : State) (p) : (s.clearRegs p).queues = s.queues := rfl
@[simp] theorem State.clearRegs_signals (s : State) (p) : (s.clearRegs p).signals = s.signals := rfl
@[simp] theorem State.clearRegs_tallies (s : State) (p) : (s.clearRegs p).tallies = s.tallies := rfl
@[simp] theorem State.clearRegs_dma (s : State) (p) : (s.clearRegs p).dma = s.dma := rfl
@[simp] theorem State.clearRegs_dmaArb (s : State) (p) : (s.clearRegs p).dmaArb = s.dmaArb := rfl
@[simp] theorem State.clearRegs_ports (s : State) (p) : (s.clearRegs p).ports = s.ports := rfl
@[simp] theorem State.clearRegs_serve (s : State) (p) : (s.clearRegs p).serve = s.serve := rfl
@[simp] theorem State.clearRegs_seqs (s : State) (p) : (s.clearRegs p).seqs = s.seqs := rfl
@[simp] theorem State.clearRegs_folio (s : State) (p) : (s.clearRegs p).folio = s.folio := rfl
@[simp] theorem State.clearRegs_staging (s : State) (p) : (s.clearRegs p).staging = s.staging := rfl
@[simp] theorem State.clearRegs_epochs (s : State) (p) : (s.clearRegs p).epochs = s.epochs := rfl
@[simp] theorem State.clearRegs_endo (s : State) (p) : (s.clearRegs p).endo = s.endo := rfl
@[simp] theorem State.clearRegs_cache (s : State) (p) : (s.clearRegs p).cache = s.cache := rfl
@[simp] theorem State.clearRegs_cal (s : State) (p) : (s.clearRegs p).cal = s.cal := rfl
@[simp] theorem State.clearRegs_aud (s : State) (p) : (s.clearRegs p).aud = s.aud := rfl
@[simp] theorem State.clearRegs_sec (s : State) (p) : (s.clearRegs p).sec = s.sec := rfl
@[simp] theorem State.clearRegs_clr (s : State) (p) : (s.clearRegs p).clr = s.clr := rfl
@[simp] theorem State.clearRegs_log (s : State) (p) : (s.clearRegs p).log = s.log := rfl
@[simp] theorem State.clearRegs_probes (s : State) (p) : (s.clearRegs p).probes = s.probes := rfl
@[simp] theorem State.clearRegs_power (s : State) (p) : (s.clearRegs p).power = s.power := rfl
@[simp] theorem State.clearRegs_pins (s : State) (p) : (s.clearRegs p).pins = s.pins := rfl
@[simp] theorem State.clearRegs_out (s : State) (p) : (s.clearRegs p).out = s.out := rfl
@[simp] theorem State.clearRegs_free (s : State) (p) : (s.clearRegs p).free = s.free := rfl
@[simp] theorem State.clearRegs_byte (s : State) (p) (x) : (s.clearRegs p).byte x = s.byte x := rfl
@[simp] theorem State.clearRegs_read (s : State) (p) (x m) : (s.clearRegs p).read x m = s.read x m := rfl
@[simp] theorem State.clearRegs_bad (s : State) (p) (x m) : (s.clearRegs p).bad x m = s.bad x m := rfl

/-! ### write -/

@[simp] theorem State.write_pending (s : State) (a bs) : (s.write a bs).pending = s.pending := rfl
@[simp] theorem State.write_regs (s : State) (a bs) : (s.write a bs).regs = s.regs := rfl
@[simp] theorem State.write_time (s : State) (a bs) : (s.write a bs).time = s.time := rfl
@[simp] theorem State.write_rst (s : State) (a bs) : (s.write a bs).rst = s.rst := rfl
@[simp] theorem State.write_mram (s : State) (a bs) : (s.write a bs).mram = s.mram := rfl
@[simp] theorem State.write_dir (s : State) (a bs) : (s.write a bs).dir = s.dir := rfl
@[simp] theorem State.write_tiles (s : State) (a bs) : (s.write a bs).tiles = s.tiles := rfl
@[simp] theorem State.write_groups (s : State) (a bs) : (s.write a bs).groups = s.groups := rfl
@[simp] theorem State.write_gov (s : State) (a bs) : (s.write a bs).gov = s.gov := rfl
@[simp] theorem State.write_assay (s : State) (a bs) : (s.write a bs).assay = s.assay := rfl
@[simp] theorem State.write_lanes (s : State) (a bs) : (s.write a bs).lanes = s.lanes := rfl
@[simp] theorem State.write_sides (s : State) (a bs) : (s.write a bs).sides = s.sides := rfl
@[simp] theorem State.write_watch (s : State) (a bs) : (s.write a bs).watch = s.watch := rfl
@[simp] theorem State.write_replays (s : State) (a bs) : (s.write a bs).replays = s.replays := rfl
@[simp] theorem State.write_queues (s : State) (a bs) : (s.write a bs).queues = s.queues := rfl
@[simp] theorem State.write_signals (s : State) (a bs) : (s.write a bs).signals = s.signals := rfl
@[simp] theorem State.write_tallies (s : State) (a bs) : (s.write a bs).tallies = s.tallies := rfl
@[simp] theorem State.write_dma (s : State) (a bs) : (s.write a bs).dma = s.dma := rfl
@[simp] theorem State.write_dmaArb (s : State) (a bs) : (s.write a bs).dmaArb = s.dmaArb := rfl
@[simp] theorem State.write_ports (s : State) (a bs) : (s.write a bs).ports = s.ports := rfl
@[simp] theorem State.write_serve (s : State) (a bs) : (s.write a bs).serve = s.serve := rfl
@[simp] theorem State.write_seqs (s : State) (a bs) : (s.write a bs).seqs = s.seqs := rfl
@[simp] theorem State.write_folio (s : State) (a bs) : (s.write a bs).folio = s.folio := rfl
@[simp] theorem State.write_staging (s : State) (a bs) : (s.write a bs).staging = s.staging := rfl
@[simp] theorem State.write_epochs (s : State) (a bs) : (s.write a bs).epochs = s.epochs := rfl
@[simp] theorem State.write_endo (s : State) (a bs) : (s.write a bs).endo = s.endo := rfl
@[simp] theorem State.write_cache (s : State) (a bs) : (s.write a bs).cache = s.cache := rfl
@[simp] theorem State.write_cal (s : State) (a bs) : (s.write a bs).cal = s.cal := rfl
@[simp] theorem State.write_aud (s : State) (a bs) : (s.write a bs).aud = s.aud := rfl
@[simp] theorem State.write_sec (s : State) (a bs) : (s.write a bs).sec = s.sec := rfl
@[simp] theorem State.write_clr (s : State) (a bs) : (s.write a bs).clr = s.clr := rfl
@[simp] theorem State.write_log (s : State) (a bs) : (s.write a bs).log = s.log := rfl
@[simp] theorem State.write_probes (s : State) (a bs) : (s.write a bs).probes = s.probes := rfl
@[simp] theorem State.write_power (s : State) (a bs) : (s.write a bs).power = s.power := rfl
@[simp] theorem State.write_pins (s : State) (a bs) : (s.write a bs).pins = s.pins := rfl
@[simp] theorem State.write_out (s : State) (a bs) : (s.write a bs).out = s.out := rfl
@[simp] theorem State.write_free (s : State) (a bs) : (s.write a bs).free = s.free := rfl
@[simp] theorem State.write_reg (s : State) (a bs) (b) : (s.write a bs).reg b = s.reg b := rfl
@[simp] theorem State.write_fld (s : State) (a bs) (b hj lj) : (s.write a bs).fld b hj lj = s.fld b hj lj := rfl
@[simp] theorem State.write_flag (s : State) (a bs) (b j) : (s.write a bs).flag b j = s.flag b j := rfl

/-! ### writeNat -/

@[simp] theorem State.writeNat_pending (s : State) (a n v) : (s.writeNat a n v).pending = s.pending := rfl
@[simp] theorem State.writeNat_regs (s : State) (a n v) : (s.writeNat a n v).regs = s.regs := rfl
@[simp] theorem State.writeNat_time (s : State) (a n v) : (s.writeNat a n v).time = s.time := rfl
@[simp] theorem State.writeNat_rst (s : State) (a n v) : (s.writeNat a n v).rst = s.rst := rfl
@[simp] theorem State.writeNat_mram (s : State) (a n v) : (s.writeNat a n v).mram = s.mram := rfl
@[simp] theorem State.writeNat_dir (s : State) (a n v) : (s.writeNat a n v).dir = s.dir := rfl
@[simp] theorem State.writeNat_tiles (s : State) (a n v) : (s.writeNat a n v).tiles = s.tiles := rfl
@[simp] theorem State.writeNat_groups (s : State) (a n v) : (s.writeNat a n v).groups = s.groups := rfl
@[simp] theorem State.writeNat_gov (s : State) (a n v) : (s.writeNat a n v).gov = s.gov := rfl
@[simp] theorem State.writeNat_assay (s : State) (a n v) : (s.writeNat a n v).assay = s.assay := rfl
@[simp] theorem State.writeNat_lanes (s : State) (a n v) : (s.writeNat a n v).lanes = s.lanes := rfl
@[simp] theorem State.writeNat_sides (s : State) (a n v) : (s.writeNat a n v).sides = s.sides := rfl
@[simp] theorem State.writeNat_watch (s : State) (a n v) : (s.writeNat a n v).watch = s.watch := rfl
@[simp] theorem State.writeNat_replays (s : State) (a n v) : (s.writeNat a n v).replays = s.replays := rfl
@[simp] theorem State.writeNat_queues (s : State) (a n v) : (s.writeNat a n v).queues = s.queues := rfl
@[simp] theorem State.writeNat_signals (s : State) (a n v) : (s.writeNat a n v).signals = s.signals := rfl
@[simp] theorem State.writeNat_tallies (s : State) (a n v) : (s.writeNat a n v).tallies = s.tallies := rfl
@[simp] theorem State.writeNat_dma (s : State) (a n v) : (s.writeNat a n v).dma = s.dma := rfl
@[simp] theorem State.writeNat_dmaArb (s : State) (a n v) : (s.writeNat a n v).dmaArb = s.dmaArb := rfl
@[simp] theorem State.writeNat_ports (s : State) (a n v) : (s.writeNat a n v).ports = s.ports := rfl
@[simp] theorem State.writeNat_serve (s : State) (a n v) : (s.writeNat a n v).serve = s.serve := rfl
@[simp] theorem State.writeNat_seqs (s : State) (a n v) : (s.writeNat a n v).seqs = s.seqs := rfl
@[simp] theorem State.writeNat_folio (s : State) (a n v) : (s.writeNat a n v).folio = s.folio := rfl
@[simp] theorem State.writeNat_staging (s : State) (a n v) : (s.writeNat a n v).staging = s.staging := rfl
@[simp] theorem State.writeNat_epochs (s : State) (a n v) : (s.writeNat a n v).epochs = s.epochs := rfl
@[simp] theorem State.writeNat_endo (s : State) (a n v) : (s.writeNat a n v).endo = s.endo := rfl
@[simp] theorem State.writeNat_cache (s : State) (a n v) : (s.writeNat a n v).cache = s.cache := rfl
@[simp] theorem State.writeNat_cal (s : State) (a n v) : (s.writeNat a n v).cal = s.cal := rfl
@[simp] theorem State.writeNat_aud (s : State) (a n v) : (s.writeNat a n v).aud = s.aud := rfl
@[simp] theorem State.writeNat_sec (s : State) (a n v) : (s.writeNat a n v).sec = s.sec := rfl
@[simp] theorem State.writeNat_clr (s : State) (a n v) : (s.writeNat a n v).clr = s.clr := rfl
@[simp] theorem State.writeNat_log (s : State) (a n v) : (s.writeNat a n v).log = s.log := rfl
@[simp] theorem State.writeNat_probes (s : State) (a n v) : (s.writeNat a n v).probes = s.probes := rfl
@[simp] theorem State.writeNat_power (s : State) (a n v) : (s.writeNat a n v).power = s.power := rfl
@[simp] theorem State.writeNat_pins (s : State) (a n v) : (s.writeNat a n v).pins = s.pins := rfl
@[simp] theorem State.writeNat_out (s : State) (a n v) : (s.writeNat a n v).out = s.out := rfl
@[simp] theorem State.writeNat_free (s : State) (a n v) : (s.writeNat a n v).free = s.free := rfl
@[simp] theorem State.writeNat_reg (s : State) (a n v) (b) : (s.writeNat a n v).reg b = s.reg b := rfl
@[simp] theorem State.writeNat_fld (s : State) (a n v) (b hj lj) : (s.writeNat a n v).fld b hj lj = s.fld b hj lj := rfl
@[simp] theorem State.writeNat_flag (s : State) (a n v) (b j) : (s.writeNat a n v).flag b j = s.flag b j := rfl

/-! ### spoil -/

@[simp] theorem State.spoil_pending (s : State) (a n) : (s.spoil a n).pending = s.pending := rfl
@[simp] theorem State.spoil_regs (s : State) (a n) : (s.spoil a n).regs = s.regs := rfl
@[simp] theorem State.spoil_mem (s : State) (a n) : (s.spoil a n).mem = s.mem := rfl
@[simp] theorem State.spoil_time (s : State) (a n) : (s.spoil a n).time = s.time := rfl
@[simp] theorem State.spoil_rst (s : State) (a n) : (s.spoil a n).rst = s.rst := rfl
@[simp] theorem State.spoil_mram (s : State) (a n) : (s.spoil a n).mram = s.mram := rfl
@[simp] theorem State.spoil_dir (s : State) (a n) : (s.spoil a n).dir = s.dir := rfl
@[simp] theorem State.spoil_tiles (s : State) (a n) : (s.spoil a n).tiles = s.tiles := rfl
@[simp] theorem State.spoil_groups (s : State) (a n) : (s.spoil a n).groups = s.groups := rfl
@[simp] theorem State.spoil_gov (s : State) (a n) : (s.spoil a n).gov = s.gov := rfl
@[simp] theorem State.spoil_assay (s : State) (a n) : (s.spoil a n).assay = s.assay := rfl
@[simp] theorem State.spoil_lanes (s : State) (a n) : (s.spoil a n).lanes = s.lanes := rfl
@[simp] theorem State.spoil_sides (s : State) (a n) : (s.spoil a n).sides = s.sides := rfl
@[simp] theorem State.spoil_watch (s : State) (a n) : (s.spoil a n).watch = s.watch := rfl
@[simp] theorem State.spoil_replays (s : State) (a n) : (s.spoil a n).replays = s.replays := rfl
@[simp] theorem State.spoil_queues (s : State) (a n) : (s.spoil a n).queues = s.queues := rfl
@[simp] theorem State.spoil_signals (s : State) (a n) : (s.spoil a n).signals = s.signals := rfl
@[simp] theorem State.spoil_tallies (s : State) (a n) : (s.spoil a n).tallies = s.tallies := rfl
@[simp] theorem State.spoil_dma (s : State) (a n) : (s.spoil a n).dma = s.dma := rfl
@[simp] theorem State.spoil_dmaArb (s : State) (a n) : (s.spoil a n).dmaArb = s.dmaArb := rfl
@[simp] theorem State.spoil_ports (s : State) (a n) : (s.spoil a n).ports = s.ports := rfl
@[simp] theorem State.spoil_serve (s : State) (a n) : (s.spoil a n).serve = s.serve := rfl
@[simp] theorem State.spoil_seqs (s : State) (a n) : (s.spoil a n).seqs = s.seqs := rfl
@[simp] theorem State.spoil_folio (s : State) (a n) : (s.spoil a n).folio = s.folio := rfl
@[simp] theorem State.spoil_staging (s : State) (a n) : (s.spoil a n).staging = s.staging := rfl
@[simp] theorem State.spoil_epochs (s : State) (a n) : (s.spoil a n).epochs = s.epochs := rfl
@[simp] theorem State.spoil_endo (s : State) (a n) : (s.spoil a n).endo = s.endo := rfl
@[simp] theorem State.spoil_cache (s : State) (a n) : (s.spoil a n).cache = s.cache := rfl
@[simp] theorem State.spoil_cal (s : State) (a n) : (s.spoil a n).cal = s.cal := rfl
@[simp] theorem State.spoil_aud (s : State) (a n) : (s.spoil a n).aud = s.aud := rfl
@[simp] theorem State.spoil_sec (s : State) (a n) : (s.spoil a n).sec = s.sec := rfl
@[simp] theorem State.spoil_clr (s : State) (a n) : (s.spoil a n).clr = s.clr := rfl
@[simp] theorem State.spoil_log (s : State) (a n) : (s.spoil a n).log = s.log := rfl
@[simp] theorem State.spoil_probes (s : State) (a n) : (s.spoil a n).probes = s.probes := rfl
@[simp] theorem State.spoil_power (s : State) (a n) : (s.spoil a n).power = s.power := rfl
@[simp] theorem State.spoil_pins (s : State) (a n) : (s.spoil a n).pins = s.pins := rfl
@[simp] theorem State.spoil_out (s : State) (a n) : (s.spoil a n).out = s.out := rfl
@[simp] theorem State.spoil_free (s : State) (a n) : (s.spoil a n).free = s.free := rfl
@[simp] theorem State.spoil_reg (s : State) (a n) (b) : (s.spoil a n).reg b = s.reg b := rfl
@[simp] theorem State.spoil_fld (s : State) (a n) (b hj lj) : (s.spoil a n).fld b hj lj = s.fld b hj lj := rfl
@[simp] theorem State.spoil_flag (s : State) (a n) (b j) : (s.spoil a n).flag b j = s.flag b j := rfl
@[simp] theorem State.spoil_byte (s : State) (a n) (x) : (s.spoil a n).byte x = s.byte x := rfl
@[simp] theorem State.spoil_read (s : State) (a n) (x m) : (s.spoil a n).read x m = s.read x m := rfl

/-! ### wipe -/

@[simp] theorem State.wipe_pending (s : State) (p) : (s.wipe p).pending = s.pending := rfl
@[simp] theorem State.wipe_regs (s : State) (p) : (s.wipe p).regs = s.regs := rfl
@[simp] theorem State.wipe_time (s : State) (p) : (s.wipe p).time = s.time := rfl
@[simp] theorem State.wipe_rst (s : State) (p) : (s.wipe p).rst = s.rst := rfl
@[simp] theorem State.wipe_mram (s : State) (p) : (s.wipe p).mram = s.mram := rfl
@[simp] theorem State.wipe_dir (s : State) (p) : (s.wipe p).dir = s.dir := rfl
@[simp] theorem State.wipe_tiles (s : State) (p) : (s.wipe p).tiles = s.tiles := rfl
@[simp] theorem State.wipe_groups (s : State) (p) : (s.wipe p).groups = s.groups := rfl
@[simp] theorem State.wipe_gov (s : State) (p) : (s.wipe p).gov = s.gov := rfl
@[simp] theorem State.wipe_assay (s : State) (p) : (s.wipe p).assay = s.assay := rfl
@[simp] theorem State.wipe_lanes (s : State) (p) : (s.wipe p).lanes = s.lanes := rfl
@[simp] theorem State.wipe_sides (s : State) (p) : (s.wipe p).sides = s.sides := rfl
@[simp] theorem State.wipe_watch (s : State) (p) : (s.wipe p).watch = s.watch := rfl
@[simp] theorem State.wipe_replays (s : State) (p) : (s.wipe p).replays = s.replays := rfl
@[simp] theorem State.wipe_queues (s : State) (p) : (s.wipe p).queues = s.queues := rfl
@[simp] theorem State.wipe_signals (s : State) (p) : (s.wipe p).signals = s.signals := rfl
@[simp] theorem State.wipe_tallies (s : State) (p) : (s.wipe p).tallies = s.tallies := rfl
@[simp] theorem State.wipe_dma (s : State) (p) : (s.wipe p).dma = s.dma := rfl
@[simp] theorem State.wipe_dmaArb (s : State) (p) : (s.wipe p).dmaArb = s.dmaArb := rfl
@[simp] theorem State.wipe_ports (s : State) (p) : (s.wipe p).ports = s.ports := rfl
@[simp] theorem State.wipe_serve (s : State) (p) : (s.wipe p).serve = s.serve := rfl
@[simp] theorem State.wipe_seqs (s : State) (p) : (s.wipe p).seqs = s.seqs := rfl
@[simp] theorem State.wipe_folio (s : State) (p) : (s.wipe p).folio = s.folio := rfl
@[simp] theorem State.wipe_staging (s : State) (p) : (s.wipe p).staging = s.staging := rfl
@[simp] theorem State.wipe_epochs (s : State) (p) : (s.wipe p).epochs = s.epochs := rfl
@[simp] theorem State.wipe_endo (s : State) (p) : (s.wipe p).endo = s.endo := rfl
@[simp] theorem State.wipe_cache (s : State) (p) : (s.wipe p).cache = s.cache := rfl
@[simp] theorem State.wipe_cal (s : State) (p) : (s.wipe p).cal = s.cal := rfl
@[simp] theorem State.wipe_aud (s : State) (p) : (s.wipe p).aud = s.aud := rfl
@[simp] theorem State.wipe_sec (s : State) (p) : (s.wipe p).sec = s.sec := rfl
@[simp] theorem State.wipe_clr (s : State) (p) : (s.wipe p).clr = s.clr := rfl
@[simp] theorem State.wipe_log (s : State) (p) : (s.wipe p).log = s.log := rfl
@[simp] theorem State.wipe_probes (s : State) (p) : (s.wipe p).probes = s.probes := rfl
@[simp] theorem State.wipe_power (s : State) (p) : (s.wipe p).power = s.power := rfl
@[simp] theorem State.wipe_pins (s : State) (p) : (s.wipe p).pins = s.pins := rfl
@[simp] theorem State.wipe_out (s : State) (p) : (s.wipe p).out = s.out := rfl
@[simp] theorem State.wipe_free (s : State) (p) : (s.wipe p).free = s.free := rfl
@[simp] theorem State.wipe_reg (s : State) (p) (b) : (s.wipe p).reg b = s.reg b := rfl
@[simp] theorem State.wipe_fld (s : State) (p) (b hj lj) : (s.wipe p).fld b hj lj = s.fld b hj lj := rfl
@[simp] theorem State.wipe_flag (s : State) (p) (b j) : (s.wipe p).flag b j = s.flag b j := rfl

/-! ### send -/

@[simp] theorem State.send_pending (s : State) (o) : (s.send o).pending = s.pending := rfl
@[simp] theorem State.send_regs (s : State) (o) : (s.send o).regs = s.regs := rfl
@[simp] theorem State.send_mem (s : State) (o) : (s.send o).mem = s.mem := rfl
@[simp] theorem State.send_poison (s : State) (o) : (s.send o).poison = s.poison := rfl
@[simp] theorem State.send_time (s : State) (o) : (s.send o).time = s.time := rfl
@[simp] theorem State.send_rst (s : State) (o) : (s.send o).rst = s.rst := rfl
@[simp] theorem State.send_mram (s : State) (o) : (s.send o).mram = s.mram := rfl
@[simp] theorem State.send_dir (s : State) (o) : (s.send o).dir = s.dir := rfl
@[simp] theorem State.send_tiles (s : State) (o) : (s.send o).tiles = s.tiles := rfl
@[simp] theorem State.send_groups (s : State) (o) : (s.send o).groups = s.groups := rfl
@[simp] theorem State.send_gov (s : State) (o) : (s.send o).gov = s.gov := rfl
@[simp] theorem State.send_assay (s : State) (o) : (s.send o).assay = s.assay := rfl
@[simp] theorem State.send_lanes (s : State) (o) : (s.send o).lanes = s.lanes := rfl
@[simp] theorem State.send_sides (s : State) (o) : (s.send o).sides = s.sides := rfl
@[simp] theorem State.send_watch (s : State) (o) : (s.send o).watch = s.watch := rfl
@[simp] theorem State.send_replays (s : State) (o) : (s.send o).replays = s.replays := rfl
@[simp] theorem State.send_queues (s : State) (o) : (s.send o).queues = s.queues := rfl
@[simp] theorem State.send_signals (s : State) (o) : (s.send o).signals = s.signals := rfl
@[simp] theorem State.send_tallies (s : State) (o) : (s.send o).tallies = s.tallies := rfl
@[simp] theorem State.send_dma (s : State) (o) : (s.send o).dma = s.dma := rfl
@[simp] theorem State.send_dmaArb (s : State) (o) : (s.send o).dmaArb = s.dmaArb := rfl
@[simp] theorem State.send_ports (s : State) (o) : (s.send o).ports = s.ports := rfl
@[simp] theorem State.send_serve (s : State) (o) : (s.send o).serve = s.serve := rfl
@[simp] theorem State.send_seqs (s : State) (o) : (s.send o).seqs = s.seqs := rfl
@[simp] theorem State.send_folio (s : State) (o) : (s.send o).folio = s.folio := rfl
@[simp] theorem State.send_staging (s : State) (o) : (s.send o).staging = s.staging := rfl
@[simp] theorem State.send_epochs (s : State) (o) : (s.send o).epochs = s.epochs := rfl
@[simp] theorem State.send_endo (s : State) (o) : (s.send o).endo = s.endo := rfl
@[simp] theorem State.send_cache (s : State) (o) : (s.send o).cache = s.cache := rfl
@[simp] theorem State.send_cal (s : State) (o) : (s.send o).cal = s.cal := rfl
@[simp] theorem State.send_aud (s : State) (o) : (s.send o).aud = s.aud := rfl
@[simp] theorem State.send_sec (s : State) (o) : (s.send o).sec = s.sec := rfl
@[simp] theorem State.send_clr (s : State) (o) : (s.send o).clr = s.clr := rfl
@[simp] theorem State.send_log (s : State) (o) : (s.send o).log = s.log := rfl
@[simp] theorem State.send_probes (s : State) (o) : (s.send o).probes = s.probes := rfl
@[simp] theorem State.send_power (s : State) (o) : (s.send o).power = s.power := rfl
@[simp] theorem State.send_pins (s : State) (o) : (s.send o).pins = s.pins := rfl
@[simp] theorem State.send_free (s : State) (o) : (s.send o).free = s.free := rfl
@[simp] theorem State.send_reg (s : State) (o) (b) : (s.send o).reg b = s.reg b := rfl
@[simp] theorem State.send_fld (s : State) (o) (b hj lj) : (s.send o).fld b hj lj = s.fld b hj lj := rfl
@[simp] theorem State.send_flag (s : State) (o) (b j) : (s.send o).flag b j = s.flag b j := rfl
@[simp] theorem State.send_byte (s : State) (o) (x) : (s.send o).byte x = s.byte x := rfl
@[simp] theorem State.send_read (s : State) (o) (x m) : (s.send o).read x m = s.read x m := rfl
@[simp] theorem State.send_bad (s : State) (o) (x m) : (s.send o).bad x m = s.bad x m := rfl

/-! ### event -/

@[simp] theorem State.event_pending (s : State) (p0 p1 code acct d1 d2) : (s.event p0 p1 code acct d1 d2).pending = s.pending := rfl
@[simp] theorem State.event_regs (s : State) (p0 p1 code acct d1 d2) : (s.event p0 p1 code acct d1 d2).regs = s.regs := rfl
@[simp] theorem State.event_mem (s : State) (p0 p1 code acct d1 d2) : (s.event p0 p1 code acct d1 d2).mem = s.mem := rfl
@[simp] theorem State.event_poison (s : State) (p0 p1 code acct d1 d2) : (s.event p0 p1 code acct d1 d2).poison = s.poison := rfl
@[simp] theorem State.event_time (s : State) (p0 p1 code acct d1 d2) : (s.event p0 p1 code acct d1 d2).time = s.time := rfl
@[simp] theorem State.event_rst (s : State) (p0 p1 code acct d1 d2) : (s.event p0 p1 code acct d1 d2).rst = s.rst := rfl
@[simp] theorem State.event_mram (s : State) (p0 p1 code acct d1 d2) : (s.event p0 p1 code acct d1 d2).mram = s.mram := rfl
@[simp] theorem State.event_dir (s : State) (p0 p1 code acct d1 d2) : (s.event p0 p1 code acct d1 d2).dir = s.dir := rfl
@[simp] theorem State.event_tiles (s : State) (p0 p1 code acct d1 d2) : (s.event p0 p1 code acct d1 d2).tiles = s.tiles := rfl
@[simp] theorem State.event_groups (s : State) (p0 p1 code acct d1 d2) : (s.event p0 p1 code acct d1 d2).groups = s.groups := rfl
@[simp] theorem State.event_gov (s : State) (p0 p1 code acct d1 d2) : (s.event p0 p1 code acct d1 d2).gov = s.gov := rfl
@[simp] theorem State.event_assay (s : State) (p0 p1 code acct d1 d2) : (s.event p0 p1 code acct d1 d2).assay = s.assay := rfl
@[simp] theorem State.event_lanes (s : State) (p0 p1 code acct d1 d2) : (s.event p0 p1 code acct d1 d2).lanes = s.lanes := rfl
@[simp] theorem State.event_sides (s : State) (p0 p1 code acct d1 d2) : (s.event p0 p1 code acct d1 d2).sides = s.sides := rfl
@[simp] theorem State.event_watch (s : State) (p0 p1 code acct d1 d2) : (s.event p0 p1 code acct d1 d2).watch = s.watch := rfl
@[simp] theorem State.event_replays (s : State) (p0 p1 code acct d1 d2) : (s.event p0 p1 code acct d1 d2).replays = s.replays := rfl
@[simp] theorem State.event_queues (s : State) (p0 p1 code acct d1 d2) : (s.event p0 p1 code acct d1 d2).queues = s.queues := rfl
@[simp] theorem State.event_signals (s : State) (p0 p1 code acct d1 d2) : (s.event p0 p1 code acct d1 d2).signals = s.signals := rfl
@[simp] theorem State.event_tallies (s : State) (p0 p1 code acct d1 d2) : (s.event p0 p1 code acct d1 d2).tallies = s.tallies := rfl
@[simp] theorem State.event_dma (s : State) (p0 p1 code acct d1 d2) : (s.event p0 p1 code acct d1 d2).dma = s.dma := rfl
@[simp] theorem State.event_dmaArb (s : State) (p0 p1 code acct d1 d2) : (s.event p0 p1 code acct d1 d2).dmaArb = s.dmaArb := rfl
@[simp] theorem State.event_ports (s : State) (p0 p1 code acct d1 d2) : (s.event p0 p1 code acct d1 d2).ports = s.ports := rfl
@[simp] theorem State.event_seqs (s : State) (p0 p1 code acct d1 d2) : (s.event p0 p1 code acct d1 d2).seqs = s.seqs := rfl
@[simp] theorem State.event_folio (s : State) (p0 p1 code acct d1 d2) : (s.event p0 p1 code acct d1 d2).folio = s.folio := rfl
@[simp] theorem State.event_staging (s : State) (p0 p1 code acct d1 d2) : (s.event p0 p1 code acct d1 d2).staging = s.staging := rfl
@[simp] theorem State.event_epochs (s : State) (p0 p1 code acct d1 d2) : (s.event p0 p1 code acct d1 d2).epochs = s.epochs := rfl
@[simp] theorem State.event_endo (s : State) (p0 p1 code acct d1 d2) : (s.event p0 p1 code acct d1 d2).endo = s.endo := rfl
@[simp] theorem State.event_cache (s : State) (p0 p1 code acct d1 d2) : (s.event p0 p1 code acct d1 d2).cache = s.cache := rfl
@[simp] theorem State.event_cal (s : State) (p0 p1 code acct d1 d2) : (s.event p0 p1 code acct d1 d2).cal = s.cal := rfl
@[simp] theorem State.event_aud (s : State) (p0 p1 code acct d1 d2) : (s.event p0 p1 code acct d1 d2).aud = s.aud := rfl
@[simp] theorem State.event_sec (s : State) (p0 p1 code acct d1 d2) : (s.event p0 p1 code acct d1 d2).sec = s.sec := rfl
@[simp] theorem State.event_clr (s : State) (p0 p1 code acct d1 d2) : (s.event p0 p1 code acct d1 d2).clr = s.clr := rfl
@[simp] theorem State.event_log (s : State) (p0 p1 code acct d1 d2) : (s.event p0 p1 code acct d1 d2).log = s.log := rfl
@[simp] theorem State.event_probes (s : State) (p0 p1 code acct d1 d2) : (s.event p0 p1 code acct d1 d2).probes = s.probes := rfl
@[simp] theorem State.event_power (s : State) (p0 p1 code acct d1 d2) : (s.event p0 p1 code acct d1 d2).power = s.power := rfl
@[simp] theorem State.event_pins (s : State) (p0 p1 code acct d1 d2) : (s.event p0 p1 code acct d1 d2).pins = s.pins := rfl
@[simp] theorem State.event_out (s : State) (p0 p1 code acct d1 d2) : (s.event p0 p1 code acct d1 d2).out = s.out := rfl
@[simp] theorem State.event_free (s : State) (p0 p1 code acct d1 d2) : (s.event p0 p1 code acct d1 d2).free = s.free := rfl
@[simp] theorem State.event_reg (s : State) (p0 p1 code acct d1 d2) (b) : (s.event p0 p1 code acct d1 d2).reg b = s.reg b := rfl
@[simp] theorem State.event_fld (s : State) (p0 p1 code acct d1 d2) (b hj lj) : (s.event p0 p1 code acct d1 d2).fld b hj lj = s.fld b hj lj := rfl
@[simp] theorem State.event_flag (s : State) (p0 p1 code acct d1 d2) (b j) : (s.event p0 p1 code acct d1 d2).flag b j = s.flag b j := rfl
@[simp] theorem State.event_byte (s : State) (p0 p1 code acct d1 d2) (x) : (s.event p0 p1 code acct d1 d2).byte x = s.byte x := rfl
@[simp] theorem State.event_read (s : State) (p0 p1 code acct d1 d2) (x m) : (s.event p0 p1 code acct d1 d2).read x m = s.read x m := rfl
@[simp] theorem State.event_bad (s : State) (p0 p1 code acct d1 d2) (x m) : (s.event p0 p1 code acct d1 d2).bad x m = s.bad x m := rfl

/-! ### eventAll -/

@[simp] theorem State.eventAll_pending (s : State) (code d1 d2) : (s.eventAll code d1 d2).pending = s.pending := rfl
@[simp] theorem State.eventAll_regs (s : State) (code d1 d2) : (s.eventAll code d1 d2).regs = s.regs := rfl
@[simp] theorem State.eventAll_mem (s : State) (code d1 d2) : (s.eventAll code d1 d2).mem = s.mem := rfl
@[simp] theorem State.eventAll_poison (s : State) (code d1 d2) : (s.eventAll code d1 d2).poison = s.poison := rfl
@[simp] theorem State.eventAll_time (s : State) (code d1 d2) : (s.eventAll code d1 d2).time = s.time := rfl
@[simp] theorem State.eventAll_rst (s : State) (code d1 d2) : (s.eventAll code d1 d2).rst = s.rst := rfl
@[simp] theorem State.eventAll_mram (s : State) (code d1 d2) : (s.eventAll code d1 d2).mram = s.mram := rfl
@[simp] theorem State.eventAll_dir (s : State) (code d1 d2) : (s.eventAll code d1 d2).dir = s.dir := rfl
@[simp] theorem State.eventAll_tiles (s : State) (code d1 d2) : (s.eventAll code d1 d2).tiles = s.tiles := rfl
@[simp] theorem State.eventAll_groups (s : State) (code d1 d2) : (s.eventAll code d1 d2).groups = s.groups := rfl
@[simp] theorem State.eventAll_gov (s : State) (code d1 d2) : (s.eventAll code d1 d2).gov = s.gov := rfl
@[simp] theorem State.eventAll_assay (s : State) (code d1 d2) : (s.eventAll code d1 d2).assay = s.assay := rfl
@[simp] theorem State.eventAll_lanes (s : State) (code d1 d2) : (s.eventAll code d1 d2).lanes = s.lanes := rfl
@[simp] theorem State.eventAll_sides (s : State) (code d1 d2) : (s.eventAll code d1 d2).sides = s.sides := rfl
@[simp] theorem State.eventAll_watch (s : State) (code d1 d2) : (s.eventAll code d1 d2).watch = s.watch := rfl
@[simp] theorem State.eventAll_replays (s : State) (code d1 d2) : (s.eventAll code d1 d2).replays = s.replays := rfl
@[simp] theorem State.eventAll_queues (s : State) (code d1 d2) : (s.eventAll code d1 d2).queues = s.queues := rfl
@[simp] theorem State.eventAll_signals (s : State) (code d1 d2) : (s.eventAll code d1 d2).signals = s.signals := rfl
@[simp] theorem State.eventAll_tallies (s : State) (code d1 d2) : (s.eventAll code d1 d2).tallies = s.tallies := rfl
@[simp] theorem State.eventAll_dma (s : State) (code d1 d2) : (s.eventAll code d1 d2).dma = s.dma := rfl
@[simp] theorem State.eventAll_dmaArb (s : State) (code d1 d2) : (s.eventAll code d1 d2).dmaArb = s.dmaArb := rfl
@[simp] theorem State.eventAll_ports (s : State) (code d1 d2) : (s.eventAll code d1 d2).ports = s.ports := rfl
@[simp] theorem State.eventAll_seqs (s : State) (code d1 d2) : (s.eventAll code d1 d2).seqs = s.seqs := rfl
@[simp] theorem State.eventAll_folio (s : State) (code d1 d2) : (s.eventAll code d1 d2).folio = s.folio := rfl
@[simp] theorem State.eventAll_staging (s : State) (code d1 d2) : (s.eventAll code d1 d2).staging = s.staging := rfl
@[simp] theorem State.eventAll_epochs (s : State) (code d1 d2) : (s.eventAll code d1 d2).epochs = s.epochs := rfl
@[simp] theorem State.eventAll_endo (s : State) (code d1 d2) : (s.eventAll code d1 d2).endo = s.endo := rfl
@[simp] theorem State.eventAll_cache (s : State) (code d1 d2) : (s.eventAll code d1 d2).cache = s.cache := rfl
@[simp] theorem State.eventAll_cal (s : State) (code d1 d2) : (s.eventAll code d1 d2).cal = s.cal := rfl
@[simp] theorem State.eventAll_aud (s : State) (code d1 d2) : (s.eventAll code d1 d2).aud = s.aud := rfl
@[simp] theorem State.eventAll_sec (s : State) (code d1 d2) : (s.eventAll code d1 d2).sec = s.sec := rfl
@[simp] theorem State.eventAll_clr (s : State) (code d1 d2) : (s.eventAll code d1 d2).clr = s.clr := rfl
@[simp] theorem State.eventAll_log (s : State) (code d1 d2) : (s.eventAll code d1 d2).log = s.log := rfl
@[simp] theorem State.eventAll_probes (s : State) (code d1 d2) : (s.eventAll code d1 d2).probes = s.probes := rfl
@[simp] theorem State.eventAll_power (s : State) (code d1 d2) : (s.eventAll code d1 d2).power = s.power := rfl
@[simp] theorem State.eventAll_pins (s : State) (code d1 d2) : (s.eventAll code d1 d2).pins = s.pins := rfl
@[simp] theorem State.eventAll_out (s : State) (code d1 d2) : (s.eventAll code d1 d2).out = s.out := rfl
@[simp] theorem State.eventAll_free (s : State) (code d1 d2) : (s.eventAll code d1 d2).free = s.free := rfl
@[simp] theorem State.eventAll_reg (s : State) (code d1 d2) (b) : (s.eventAll code d1 d2).reg b = s.reg b := rfl
@[simp] theorem State.eventAll_fld (s : State) (code d1 d2) (b hj lj) : (s.eventAll code d1 d2).fld b hj lj = s.fld b hj lj := rfl
@[simp] theorem State.eventAll_flag (s : State) (code d1 d2) (b j) : (s.eventAll code d1 d2).flag b j = s.flag b j := rfl
@[simp] theorem State.eventAll_byte (s : State) (code d1 d2) (x) : (s.eventAll code d1 d2).byte x = s.byte x := rfl
@[simp] theorem State.eventAll_read (s : State) (code d1 d2) (x m) : (s.eventAll code d1 d2).read x m = s.read x m := rfl
@[simp] theorem State.eventAll_bad (s : State) (code d1 d2) (x m) : (s.eventAll code d1 d2).bad x m = s.bad x m := rfl

/-! ### eventHolder -/

@[simp] theorem State.eventHolder_pending (s : State) (code d1 d2) : (s.eventHolder code d1 d2).pending = s.pending := rfl
@[simp] theorem State.eventHolder_regs (s : State) (code d1 d2) : (s.eventHolder code d1 d2).regs = s.regs := rfl
@[simp] theorem State.eventHolder_mem (s : State) (code d1 d2) : (s.eventHolder code d1 d2).mem = s.mem := rfl
@[simp] theorem State.eventHolder_poison (s : State) (code d1 d2) : (s.eventHolder code d1 d2).poison = s.poison := rfl
@[simp] theorem State.eventHolder_time (s : State) (code d1 d2) : (s.eventHolder code d1 d2).time = s.time := rfl
@[simp] theorem State.eventHolder_rst (s : State) (code d1 d2) : (s.eventHolder code d1 d2).rst = s.rst := rfl
@[simp] theorem State.eventHolder_mram (s : State) (code d1 d2) : (s.eventHolder code d1 d2).mram = s.mram := rfl
@[simp] theorem State.eventHolder_dir (s : State) (code d1 d2) : (s.eventHolder code d1 d2).dir = s.dir := rfl
@[simp] theorem State.eventHolder_tiles (s : State) (code d1 d2) : (s.eventHolder code d1 d2).tiles = s.tiles := rfl
@[simp] theorem State.eventHolder_groups (s : State) (code d1 d2) : (s.eventHolder code d1 d2).groups = s.groups := rfl
@[simp] theorem State.eventHolder_gov (s : State) (code d1 d2) : (s.eventHolder code d1 d2).gov = s.gov := rfl
@[simp] theorem State.eventHolder_assay (s : State) (code d1 d2) : (s.eventHolder code d1 d2).assay = s.assay := rfl
@[simp] theorem State.eventHolder_lanes (s : State) (code d1 d2) : (s.eventHolder code d1 d2).lanes = s.lanes := rfl
@[simp] theorem State.eventHolder_sides (s : State) (code d1 d2) : (s.eventHolder code d1 d2).sides = s.sides := rfl
@[simp] theorem State.eventHolder_watch (s : State) (code d1 d2) : (s.eventHolder code d1 d2).watch = s.watch := rfl
@[simp] theorem State.eventHolder_replays (s : State) (code d1 d2) : (s.eventHolder code d1 d2).replays = s.replays := rfl
@[simp] theorem State.eventHolder_queues (s : State) (code d1 d2) : (s.eventHolder code d1 d2).queues = s.queues := rfl
@[simp] theorem State.eventHolder_signals (s : State) (code d1 d2) : (s.eventHolder code d1 d2).signals = s.signals := rfl
@[simp] theorem State.eventHolder_tallies (s : State) (code d1 d2) : (s.eventHolder code d1 d2).tallies = s.tallies := rfl
@[simp] theorem State.eventHolder_dma (s : State) (code d1 d2) : (s.eventHolder code d1 d2).dma = s.dma := rfl
@[simp] theorem State.eventHolder_dmaArb (s : State) (code d1 d2) : (s.eventHolder code d1 d2).dmaArb = s.dmaArb := rfl
@[simp] theorem State.eventHolder_ports (s : State) (code d1 d2) : (s.eventHolder code d1 d2).ports = s.ports := rfl
@[simp] theorem State.eventHolder_seqs (s : State) (code d1 d2) : (s.eventHolder code d1 d2).seqs = s.seqs := rfl
@[simp] theorem State.eventHolder_folio (s : State) (code d1 d2) : (s.eventHolder code d1 d2).folio = s.folio := rfl
@[simp] theorem State.eventHolder_staging (s : State) (code d1 d2) : (s.eventHolder code d1 d2).staging = s.staging := rfl
@[simp] theorem State.eventHolder_epochs (s : State) (code d1 d2) : (s.eventHolder code d1 d2).epochs = s.epochs := rfl
@[simp] theorem State.eventHolder_endo (s : State) (code d1 d2) : (s.eventHolder code d1 d2).endo = s.endo := rfl
@[simp] theorem State.eventHolder_cache (s : State) (code d1 d2) : (s.eventHolder code d1 d2).cache = s.cache := rfl
@[simp] theorem State.eventHolder_cal (s : State) (code d1 d2) : (s.eventHolder code d1 d2).cal = s.cal := rfl
@[simp] theorem State.eventHolder_aud (s : State) (code d1 d2) : (s.eventHolder code d1 d2).aud = s.aud := rfl
@[simp] theorem State.eventHolder_sec (s : State) (code d1 d2) : (s.eventHolder code d1 d2).sec = s.sec := rfl
@[simp] theorem State.eventHolder_clr (s : State) (code d1 d2) : (s.eventHolder code d1 d2).clr = s.clr := rfl
@[simp] theorem State.eventHolder_log (s : State) (code d1 d2) : (s.eventHolder code d1 d2).log = s.log := rfl
@[simp] theorem State.eventHolder_probes (s : State) (code d1 d2) : (s.eventHolder code d1 d2).probes = s.probes := rfl
@[simp] theorem State.eventHolder_power (s : State) (code d1 d2) : (s.eventHolder code d1 d2).power = s.power := rfl
@[simp] theorem State.eventHolder_pins (s : State) (code d1 d2) : (s.eventHolder code d1 d2).pins = s.pins := rfl
@[simp] theorem State.eventHolder_out (s : State) (code d1 d2) : (s.eventHolder code d1 d2).out = s.out := rfl
@[simp] theorem State.eventHolder_free (s : State) (code d1 d2) : (s.eventHolder code d1 d2).free = s.free := rfl
@[simp] theorem State.eventHolder_reg (s : State) (code d1 d2) (b) : (s.eventHolder code d1 d2).reg b = s.reg b := rfl
@[simp] theorem State.eventHolder_fld (s : State) (code d1 d2) (b hj lj) : (s.eventHolder code d1 d2).fld b hj lj = s.fld b hj lj := rfl
@[simp] theorem State.eventHolder_flag (s : State) (code d1 d2) (b j) : (s.eventHolder code d1 d2).flag b j = s.flag b j := rfl
@[simp] theorem State.eventHolder_byte (s : State) (code d1 d2) (x) : (s.eventHolder code d1 d2).byte x = s.byte x := rfl
@[simp] theorem State.eventHolder_read (s : State) (code d1 d2) (x m) : (s.eventHolder code d1 d2).read x m = s.read x m := rfl
@[simp] theorem State.eventHolder_bad (s : State) (code d1 d2) (x m) : (s.eventHolder code d1 d2).bad x m = s.bad x m := rfl

/-! ### setTally -/

@[simp] theorem State.setTally_pending (s : State) (t v) : (s.setTally t v).pending = s.pending := rfl
@[simp] theorem State.setTally_regs (s : State) (t v) : (s.setTally t v).regs = s.regs := rfl
@[simp] theorem State.setTally_mem (s : State) (t v) : (s.setTally t v).mem = s.mem := rfl
@[simp] theorem State.setTally_poison (s : State) (t v) : (s.setTally t v).poison = s.poison := rfl
@[simp] theorem State.setTally_time (s : State) (t v) : (s.setTally t v).time = s.time := rfl
@[simp] theorem State.setTally_rst (s : State) (t v) : (s.setTally t v).rst = s.rst := rfl
@[simp] theorem State.setTally_mram (s : State) (t v) : (s.setTally t v).mram = s.mram := rfl
@[simp] theorem State.setTally_dir (s : State) (t v) : (s.setTally t v).dir = s.dir := rfl
@[simp] theorem State.setTally_tiles (s : State) (t v) : (s.setTally t v).tiles = s.tiles := rfl
@[simp] theorem State.setTally_groups (s : State) (t v) : (s.setTally t v).groups = s.groups := rfl
@[simp] theorem State.setTally_gov (s : State) (t v) : (s.setTally t v).gov = s.gov := rfl
@[simp] theorem State.setTally_assay (s : State) (t v) : (s.setTally t v).assay = s.assay := rfl
@[simp] theorem State.setTally_lanes (s : State) (t v) : (s.setTally t v).lanes = s.lanes := rfl
@[simp] theorem State.setTally_sides (s : State) (t v) : (s.setTally t v).sides = s.sides := rfl
@[simp] theorem State.setTally_watch (s : State) (t v) : (s.setTally t v).watch = s.watch := rfl
@[simp] theorem State.setTally_replays (s : State) (t v) : (s.setTally t v).replays = s.replays := rfl
@[simp] theorem State.setTally_queues (s : State) (t v) : (s.setTally t v).queues = s.queues := rfl
@[simp] theorem State.setTally_signals (s : State) (t v) : (s.setTally t v).signals = s.signals := rfl
@[simp] theorem State.setTally_dma (s : State) (t v) : (s.setTally t v).dma = s.dma := rfl
@[simp] theorem State.setTally_dmaArb (s : State) (t v) : (s.setTally t v).dmaArb = s.dmaArb := rfl
@[simp] theorem State.setTally_ports (s : State) (t v) : (s.setTally t v).ports = s.ports := rfl
@[simp] theorem State.setTally_serve (s : State) (t v) : (s.setTally t v).serve = s.serve := rfl
@[simp] theorem State.setTally_seqs (s : State) (t v) : (s.setTally t v).seqs = s.seqs := rfl
@[simp] theorem State.setTally_folio (s : State) (t v) : (s.setTally t v).folio = s.folio := rfl
@[simp] theorem State.setTally_staging (s : State) (t v) : (s.setTally t v).staging = s.staging := rfl
@[simp] theorem State.setTally_epochs (s : State) (t v) : (s.setTally t v).epochs = s.epochs := rfl
@[simp] theorem State.setTally_endo (s : State) (t v) : (s.setTally t v).endo = s.endo := rfl
@[simp] theorem State.setTally_cache (s : State) (t v) : (s.setTally t v).cache = s.cache := rfl
@[simp] theorem State.setTally_cal (s : State) (t v) : (s.setTally t v).cal = s.cal := rfl
@[simp] theorem State.setTally_aud (s : State) (t v) : (s.setTally t v).aud = s.aud := rfl
@[simp] theorem State.setTally_sec (s : State) (t v) : (s.setTally t v).sec = s.sec := rfl
@[simp] theorem State.setTally_clr (s : State) (t v) : (s.setTally t v).clr = s.clr := rfl
@[simp] theorem State.setTally_log (s : State) (t v) : (s.setTally t v).log = s.log := rfl
@[simp] theorem State.setTally_probes (s : State) (t v) : (s.setTally t v).probes = s.probes := rfl
@[simp] theorem State.setTally_power (s : State) (t v) : (s.setTally t v).power = s.power := rfl
@[simp] theorem State.setTally_pins (s : State) (t v) : (s.setTally t v).pins = s.pins := rfl
@[simp] theorem State.setTally_out (s : State) (t v) : (s.setTally t v).out = s.out := rfl
@[simp] theorem State.setTally_free (s : State) (t v) : (s.setTally t v).free = s.free := rfl
@[simp] theorem State.setTally_reg (s : State) (t v) (b) : (s.setTally t v).reg b = s.reg b := rfl
@[simp] theorem State.setTally_fld (s : State) (t v) (b hj lj) : (s.setTally t v).fld b hj lj = s.fld b hj lj := rfl
@[simp] theorem State.setTally_flag (s : State) (t v) (b j) : (s.setTally t v).flag b j = s.flag b j := rfl
@[simp] theorem State.setTally_byte (s : State) (t v) (x) : (s.setTally t v).byte x = s.byte x := rfl
@[simp] theorem State.setTally_read (s : State) (t v) (x m) : (s.setTally t v).read x m = s.read x m := rfl
@[simp] theorem State.setTally_bad (s : State) (t v) (x m) : (s.setTally t v).bad x m = s.bad x m := rfl

/-! ### setTile -/

@[simp] theorem State.setTile_pending (s : State) (t v) : (s.setTile t v).pending = s.pending := rfl
@[simp] theorem State.setTile_regs (s : State) (t v) : (s.setTile t v).regs = s.regs := rfl
@[simp] theorem State.setTile_mem (s : State) (t v) : (s.setTile t v).mem = s.mem := rfl
@[simp] theorem State.setTile_poison (s : State) (t v) : (s.setTile t v).poison = s.poison := rfl
@[simp] theorem State.setTile_time (s : State) (t v) : (s.setTile t v).time = s.time := rfl
@[simp] theorem State.setTile_rst (s : State) (t v) : (s.setTile t v).rst = s.rst := rfl
@[simp] theorem State.setTile_mram (s : State) (t v) : (s.setTile t v).mram = s.mram := rfl
@[simp] theorem State.setTile_dir (s : State) (t v) : (s.setTile t v).dir = s.dir := rfl
@[simp] theorem State.setTile_groups (s : State) (t v) : (s.setTile t v).groups = s.groups := rfl
@[simp] theorem State.setTile_gov (s : State) (t v) : (s.setTile t v).gov = s.gov := rfl
@[simp] theorem State.setTile_assay (s : State) (t v) : (s.setTile t v).assay = s.assay := rfl
@[simp] theorem State.setTile_lanes (s : State) (t v) : (s.setTile t v).lanes = s.lanes := rfl
@[simp] theorem State.setTile_sides (s : State) (t v) : (s.setTile t v).sides = s.sides := rfl
@[simp] theorem State.setTile_watch (s : State) (t v) : (s.setTile t v).watch = s.watch := rfl
@[simp] theorem State.setTile_replays (s : State) (t v) : (s.setTile t v).replays = s.replays := rfl
@[simp] theorem State.setTile_queues (s : State) (t v) : (s.setTile t v).queues = s.queues := rfl
@[simp] theorem State.setTile_signals (s : State) (t v) : (s.setTile t v).signals = s.signals := rfl
@[simp] theorem State.setTile_tallies (s : State) (t v) : (s.setTile t v).tallies = s.tallies := rfl
@[simp] theorem State.setTile_dma (s : State) (t v) : (s.setTile t v).dma = s.dma := rfl
@[simp] theorem State.setTile_dmaArb (s : State) (t v) : (s.setTile t v).dmaArb = s.dmaArb := rfl
@[simp] theorem State.setTile_ports (s : State) (t v) : (s.setTile t v).ports = s.ports := rfl
@[simp] theorem State.setTile_serve (s : State) (t v) : (s.setTile t v).serve = s.serve := rfl
@[simp] theorem State.setTile_seqs (s : State) (t v) : (s.setTile t v).seqs = s.seqs := rfl
@[simp] theorem State.setTile_folio (s : State) (t v) : (s.setTile t v).folio = s.folio := rfl
@[simp] theorem State.setTile_staging (s : State) (t v) : (s.setTile t v).staging = s.staging := rfl
@[simp] theorem State.setTile_epochs (s : State) (t v) : (s.setTile t v).epochs = s.epochs := rfl
@[simp] theorem State.setTile_endo (s : State) (t v) : (s.setTile t v).endo = s.endo := rfl
@[simp] theorem State.setTile_cache (s : State) (t v) : (s.setTile t v).cache = s.cache := rfl
@[simp] theorem State.setTile_cal (s : State) (t v) : (s.setTile t v).cal = s.cal := rfl
@[simp] theorem State.setTile_aud (s : State) (t v) : (s.setTile t v).aud = s.aud := rfl
@[simp] theorem State.setTile_sec (s : State) (t v) : (s.setTile t v).sec = s.sec := rfl
@[simp] theorem State.setTile_clr (s : State) (t v) : (s.setTile t v).clr = s.clr := rfl
@[simp] theorem State.setTile_log (s : State) (t v) : (s.setTile t v).log = s.log := rfl
@[simp] theorem State.setTile_probes (s : State) (t v) : (s.setTile t v).probes = s.probes := rfl
@[simp] theorem State.setTile_power (s : State) (t v) : (s.setTile t v).power = s.power := rfl
@[simp] theorem State.setTile_pins (s : State) (t v) : (s.setTile t v).pins = s.pins := rfl
@[simp] theorem State.setTile_out (s : State) (t v) : (s.setTile t v).out = s.out := rfl
@[simp] theorem State.setTile_free (s : State) (t v) : (s.setTile t v).free = s.free := rfl
@[simp] theorem State.setTile_reg (s : State) (t v) (b) : (s.setTile t v).reg b = s.reg b := rfl
@[simp] theorem State.setTile_fld (s : State) (t v) (b hj lj) : (s.setTile t v).fld b hj lj = s.fld b hj lj := rfl
@[simp] theorem State.setTile_flag (s : State) (t v) (b j) : (s.setTile t v).flag b j = s.flag b j := rfl
@[simp] theorem State.setTile_byte (s : State) (t v) (x) : (s.setTile t v).byte x = s.byte x := rfl
@[simp] theorem State.setTile_read (s : State) (t v) (x m) : (s.setTile t v).read x m = s.read x m := rfl
@[simp] theorem State.setTile_bad (s : State) (t v) (x m) : (s.setTile t v).bad x m = s.bad x m := rfl

/-! ### setDir -/

@[simp] theorem State.setDir_pending (s : State) (t v) : (s.setDir t v).pending = s.pending := rfl
@[simp] theorem State.setDir_regs (s : State) (t v) : (s.setDir t v).regs = s.regs := rfl
@[simp] theorem State.setDir_mem (s : State) (t v) : (s.setDir t v).mem = s.mem := rfl
@[simp] theorem State.setDir_poison (s : State) (t v) : (s.setDir t v).poison = s.poison := rfl
@[simp] theorem State.setDir_time (s : State) (t v) : (s.setDir t v).time = s.time := rfl
@[simp] theorem State.setDir_rst (s : State) (t v) : (s.setDir t v).rst = s.rst := rfl
@[simp] theorem State.setDir_mram (s : State) (t v) : (s.setDir t v).mram = s.mram := rfl
@[simp] theorem State.setDir_tiles (s : State) (t v) : (s.setDir t v).tiles = s.tiles := rfl
@[simp] theorem State.setDir_groups (s : State) (t v) : (s.setDir t v).groups = s.groups := rfl
@[simp] theorem State.setDir_gov (s : State) (t v) : (s.setDir t v).gov = s.gov := rfl
@[simp] theorem State.setDir_assay (s : State) (t v) : (s.setDir t v).assay = s.assay := rfl
@[simp] theorem State.setDir_lanes (s : State) (t v) : (s.setDir t v).lanes = s.lanes := rfl
@[simp] theorem State.setDir_sides (s : State) (t v) : (s.setDir t v).sides = s.sides := rfl
@[simp] theorem State.setDir_watch (s : State) (t v) : (s.setDir t v).watch = s.watch := rfl
@[simp] theorem State.setDir_replays (s : State) (t v) : (s.setDir t v).replays = s.replays := rfl
@[simp] theorem State.setDir_queues (s : State) (t v) : (s.setDir t v).queues = s.queues := rfl
@[simp] theorem State.setDir_signals (s : State) (t v) : (s.setDir t v).signals = s.signals := rfl
@[simp] theorem State.setDir_tallies (s : State) (t v) : (s.setDir t v).tallies = s.tallies := rfl
@[simp] theorem State.setDir_dma (s : State) (t v) : (s.setDir t v).dma = s.dma := rfl
@[simp] theorem State.setDir_dmaArb (s : State) (t v) : (s.setDir t v).dmaArb = s.dmaArb := rfl
@[simp] theorem State.setDir_ports (s : State) (t v) : (s.setDir t v).ports = s.ports := rfl
@[simp] theorem State.setDir_serve (s : State) (t v) : (s.setDir t v).serve = s.serve := rfl
@[simp] theorem State.setDir_seqs (s : State) (t v) : (s.setDir t v).seqs = s.seqs := rfl
@[simp] theorem State.setDir_folio (s : State) (t v) : (s.setDir t v).folio = s.folio := rfl
@[simp] theorem State.setDir_staging (s : State) (t v) : (s.setDir t v).staging = s.staging := rfl
@[simp] theorem State.setDir_epochs (s : State) (t v) : (s.setDir t v).epochs = s.epochs := rfl
@[simp] theorem State.setDir_endo (s : State) (t v) : (s.setDir t v).endo = s.endo := rfl
@[simp] theorem State.setDir_cache (s : State) (t v) : (s.setDir t v).cache = s.cache := rfl
@[simp] theorem State.setDir_cal (s : State) (t v) : (s.setDir t v).cal = s.cal := rfl
@[simp] theorem State.setDir_aud (s : State) (t v) : (s.setDir t v).aud = s.aud := rfl
@[simp] theorem State.setDir_sec (s : State) (t v) : (s.setDir t v).sec = s.sec := rfl
@[simp] theorem State.setDir_clr (s : State) (t v) : (s.setDir t v).clr = s.clr := rfl
@[simp] theorem State.setDir_log (s : State) (t v) : (s.setDir t v).log = s.log := rfl
@[simp] theorem State.setDir_probes (s : State) (t v) : (s.setDir t v).probes = s.probes := rfl
@[simp] theorem State.setDir_power (s : State) (t v) : (s.setDir t v).power = s.power := rfl
@[simp] theorem State.setDir_pins (s : State) (t v) : (s.setDir t v).pins = s.pins := rfl
@[simp] theorem State.setDir_out (s : State) (t v) : (s.setDir t v).out = s.out := rfl
@[simp] theorem State.setDir_free (s : State) (t v) : (s.setDir t v).free = s.free := rfl
@[simp] theorem State.setDir_reg (s : State) (t v) (b) : (s.setDir t v).reg b = s.reg b := rfl
@[simp] theorem State.setDir_fld (s : State) (t v) (b hj lj) : (s.setDir t v).fld b hj lj = s.fld b hj lj := rfl
@[simp] theorem State.setDir_flag (s : State) (t v) (b j) : (s.setDir t v).flag b j = s.flag b j := rfl
@[simp] theorem State.setDir_byte (s : State) (t v) (x) : (s.setDir t v).byte x = s.byte x := rfl
@[simp] theorem State.setDir_read (s : State) (t v) (x m) : (s.setDir t v).read x m = s.read x m := rfl
@[simp] theorem State.setDir_bad (s : State) (t v) (x m) : (s.setDir t v).bad x m = s.bad x m := rfl

/-! ### setSeq -/

@[simp] theorem State.setSeq_pending (s : State) (n v) : (s.setSeq n v).pending = s.pending := rfl
@[simp] theorem State.setSeq_regs (s : State) (n v) : (s.setSeq n v).regs = s.regs := rfl
@[simp] theorem State.setSeq_mem (s : State) (n v) : (s.setSeq n v).mem = s.mem := rfl
@[simp] theorem State.setSeq_poison (s : State) (n v) : (s.setSeq n v).poison = s.poison := rfl
@[simp] theorem State.setSeq_time (s : State) (n v) : (s.setSeq n v).time = s.time := rfl
@[simp] theorem State.setSeq_rst (s : State) (n v) : (s.setSeq n v).rst = s.rst := rfl
@[simp] theorem State.setSeq_mram (s : State) (n v) : (s.setSeq n v).mram = s.mram := rfl
@[simp] theorem State.setSeq_dir (s : State) (n v) : (s.setSeq n v).dir = s.dir := rfl
@[simp] theorem State.setSeq_tiles (s : State) (n v) : (s.setSeq n v).tiles = s.tiles := rfl
@[simp] theorem State.setSeq_groups (s : State) (n v) : (s.setSeq n v).groups = s.groups := rfl
@[simp] theorem State.setSeq_gov (s : State) (n v) : (s.setSeq n v).gov = s.gov := rfl
@[simp] theorem State.setSeq_assay (s : State) (n v) : (s.setSeq n v).assay = s.assay := rfl
@[simp] theorem State.setSeq_lanes (s : State) (n v) : (s.setSeq n v).lanes = s.lanes := rfl
@[simp] theorem State.setSeq_sides (s : State) (n v) : (s.setSeq n v).sides = s.sides := rfl
@[simp] theorem State.setSeq_watch (s : State) (n v) : (s.setSeq n v).watch = s.watch := rfl
@[simp] theorem State.setSeq_replays (s : State) (n v) : (s.setSeq n v).replays = s.replays := rfl
@[simp] theorem State.setSeq_queues (s : State) (n v) : (s.setSeq n v).queues = s.queues := rfl
@[simp] theorem State.setSeq_signals (s : State) (n v) : (s.setSeq n v).signals = s.signals := rfl
@[simp] theorem State.setSeq_tallies (s : State) (n v) : (s.setSeq n v).tallies = s.tallies := rfl
@[simp] theorem State.setSeq_dma (s : State) (n v) : (s.setSeq n v).dma = s.dma := rfl
@[simp] theorem State.setSeq_dmaArb (s : State) (n v) : (s.setSeq n v).dmaArb = s.dmaArb := rfl
@[simp] theorem State.setSeq_ports (s : State) (n v) : (s.setSeq n v).ports = s.ports := rfl
@[simp] theorem State.setSeq_serve (s : State) (n v) : (s.setSeq n v).serve = s.serve := rfl
@[simp] theorem State.setSeq_folio (s : State) (n v) : (s.setSeq n v).folio = s.folio := rfl
@[simp] theorem State.setSeq_staging (s : State) (n v) : (s.setSeq n v).staging = s.staging := rfl
@[simp] theorem State.setSeq_epochs (s : State) (n v) : (s.setSeq n v).epochs = s.epochs := rfl
@[simp] theorem State.setSeq_endo (s : State) (n v) : (s.setSeq n v).endo = s.endo := rfl
@[simp] theorem State.setSeq_cache (s : State) (n v) : (s.setSeq n v).cache = s.cache := rfl
@[simp] theorem State.setSeq_cal (s : State) (n v) : (s.setSeq n v).cal = s.cal := rfl
@[simp] theorem State.setSeq_aud (s : State) (n v) : (s.setSeq n v).aud = s.aud := rfl
@[simp] theorem State.setSeq_sec (s : State) (n v) : (s.setSeq n v).sec = s.sec := rfl
@[simp] theorem State.setSeq_clr (s : State) (n v) : (s.setSeq n v).clr = s.clr := rfl
@[simp] theorem State.setSeq_log (s : State) (n v) : (s.setSeq n v).log = s.log := rfl
@[simp] theorem State.setSeq_probes (s : State) (n v) : (s.setSeq n v).probes = s.probes := rfl
@[simp] theorem State.setSeq_power (s : State) (n v) : (s.setSeq n v).power = s.power := rfl
@[simp] theorem State.setSeq_pins (s : State) (n v) : (s.setSeq n v).pins = s.pins := rfl
@[simp] theorem State.setSeq_out (s : State) (n v) : (s.setSeq n v).out = s.out := rfl
@[simp] theorem State.setSeq_free (s : State) (n v) : (s.setSeq n v).free = s.free := rfl
@[simp] theorem State.setSeq_reg (s : State) (n v) (b) : (s.setSeq n v).reg b = s.reg b := rfl
@[simp] theorem State.setSeq_fld (s : State) (n v) (b hj lj) : (s.setSeq n v).fld b hj lj = s.fld b hj lj := rfl
@[simp] theorem State.setSeq_flag (s : State) (n v) (b j) : (s.setSeq n v).flag b j = s.flag b j := rfl
@[simp] theorem State.setSeq_byte (s : State) (n v) (x) : (s.setSeq n v).byte x = s.byte x := rfl
@[simp] theorem State.setSeq_read (s : State) (n v) (x m) : (s.setSeq n v).read x m = s.read x m := rfl
@[simp] theorem State.setSeq_bad (s : State) (n v) (x m) : (s.setSeq n v).bad x m = s.bad x m := rfl

/-! ### setPort -/

@[simp] theorem State.setPort_pending (s : State) (p v) : (s.setPort p v).pending = s.pending := rfl
@[simp] theorem State.setPort_regs (s : State) (p v) : (s.setPort p v).regs = s.regs := rfl
@[simp] theorem State.setPort_mem (s : State) (p v) : (s.setPort p v).mem = s.mem := rfl
@[simp] theorem State.setPort_poison (s : State) (p v) : (s.setPort p v).poison = s.poison := rfl
@[simp] theorem State.setPort_time (s : State) (p v) : (s.setPort p v).time = s.time := rfl
@[simp] theorem State.setPort_rst (s : State) (p v) : (s.setPort p v).rst = s.rst := rfl
@[simp] theorem State.setPort_mram (s : State) (p v) : (s.setPort p v).mram = s.mram := rfl
@[simp] theorem State.setPort_dir (s : State) (p v) : (s.setPort p v).dir = s.dir := rfl
@[simp] theorem State.setPort_tiles (s : State) (p v) : (s.setPort p v).tiles = s.tiles := rfl
@[simp] theorem State.setPort_groups (s : State) (p v) : (s.setPort p v).groups = s.groups := rfl
@[simp] theorem State.setPort_gov (s : State) (p v) : (s.setPort p v).gov = s.gov := rfl
@[simp] theorem State.setPort_assay (s : State) (p v) : (s.setPort p v).assay = s.assay := rfl
@[simp] theorem State.setPort_lanes (s : State) (p v) : (s.setPort p v).lanes = s.lanes := rfl
@[simp] theorem State.setPort_sides (s : State) (p v) : (s.setPort p v).sides = s.sides := rfl
@[simp] theorem State.setPort_watch (s : State) (p v) : (s.setPort p v).watch = s.watch := rfl
@[simp] theorem State.setPort_replays (s : State) (p v) : (s.setPort p v).replays = s.replays := rfl
@[simp] theorem State.setPort_queues (s : State) (p v) : (s.setPort p v).queues = s.queues := rfl
@[simp] theorem State.setPort_signals (s : State) (p v) : (s.setPort p v).signals = s.signals := rfl
@[simp] theorem State.setPort_tallies (s : State) (p v) : (s.setPort p v).tallies = s.tallies := rfl
@[simp] theorem State.setPort_dma (s : State) (p v) : (s.setPort p v).dma = s.dma := rfl
@[simp] theorem State.setPort_dmaArb (s : State) (p v) : (s.setPort p v).dmaArb = s.dmaArb := rfl
@[simp] theorem State.setPort_serve (s : State) (p v) : (s.setPort p v).serve = s.serve := rfl
@[simp] theorem State.setPort_seqs (s : State) (p v) : (s.setPort p v).seqs = s.seqs := rfl
@[simp] theorem State.setPort_folio (s : State) (p v) : (s.setPort p v).folio = s.folio := rfl
@[simp] theorem State.setPort_staging (s : State) (p v) : (s.setPort p v).staging = s.staging := rfl
@[simp] theorem State.setPort_epochs (s : State) (p v) : (s.setPort p v).epochs = s.epochs := rfl
@[simp] theorem State.setPort_endo (s : State) (p v) : (s.setPort p v).endo = s.endo := rfl
@[simp] theorem State.setPort_cache (s : State) (p v) : (s.setPort p v).cache = s.cache := rfl
@[simp] theorem State.setPort_cal (s : State) (p v) : (s.setPort p v).cal = s.cal := rfl
@[simp] theorem State.setPort_aud (s : State) (p v) : (s.setPort p v).aud = s.aud := rfl
@[simp] theorem State.setPort_sec (s : State) (p v) : (s.setPort p v).sec = s.sec := rfl
@[simp] theorem State.setPort_clr (s : State) (p v) : (s.setPort p v).clr = s.clr := rfl
@[simp] theorem State.setPort_log (s : State) (p v) : (s.setPort p v).log = s.log := rfl
@[simp] theorem State.setPort_probes (s : State) (p v) : (s.setPort p v).probes = s.probes := rfl
@[simp] theorem State.setPort_power (s : State) (p v) : (s.setPort p v).power = s.power := rfl
@[simp] theorem State.setPort_pins (s : State) (p v) : (s.setPort p v).pins = s.pins := rfl
@[simp] theorem State.setPort_out (s : State) (p v) : (s.setPort p v).out = s.out := rfl
@[simp] theorem State.setPort_free (s : State) (p v) : (s.setPort p v).free = s.free := rfl
@[simp] theorem State.setPort_reg (s : State) (p v) (b) : (s.setPort p v).reg b = s.reg b := rfl
@[simp] theorem State.setPort_fld (s : State) (p v) (b hj lj) : (s.setPort p v).fld b hj lj = s.fld b hj lj := rfl
@[simp] theorem State.setPort_flag (s : State) (p v) (b j) : (s.setPort p v).flag b j = s.flag b j := rfl
@[simp] theorem State.setPort_byte (s : State) (p v) (x) : (s.setPort p v).byte x = s.byte x := rfl
@[simp] theorem State.setPort_read (s : State) (p v) (x m) : (s.setPort p v).read x m = s.read x m := rfl
@[simp] theorem State.setPort_bad (s : State) (p v) (x m) : (s.setPort p v).bad x m = s.bad x m := rfl

/-! ### setLane -/

@[simp] theorem State.setLane_pending (s : State) (p l v) : (s.setLane p l v).pending = s.pending := rfl
@[simp] theorem State.setLane_regs (s : State) (p l v) : (s.setLane p l v).regs = s.regs := rfl
@[simp] theorem State.setLane_mem (s : State) (p l v) : (s.setLane p l v).mem = s.mem := rfl
@[simp] theorem State.setLane_poison (s : State) (p l v) : (s.setLane p l v).poison = s.poison := rfl
@[simp] theorem State.setLane_time (s : State) (p l v) : (s.setLane p l v).time = s.time := rfl
@[simp] theorem State.setLane_rst (s : State) (p l v) : (s.setLane p l v).rst = s.rst := rfl
@[simp] theorem State.setLane_mram (s : State) (p l v) : (s.setLane p l v).mram = s.mram := rfl
@[simp] theorem State.setLane_dir (s : State) (p l v) : (s.setLane p l v).dir = s.dir := rfl
@[simp] theorem State.setLane_tiles (s : State) (p l v) : (s.setLane p l v).tiles = s.tiles := rfl
@[simp] theorem State.setLane_groups (s : State) (p l v) : (s.setLane p l v).groups = s.groups := rfl
@[simp] theorem State.setLane_gov (s : State) (p l v) : (s.setLane p l v).gov = s.gov := rfl
@[simp] theorem State.setLane_assay (s : State) (p l v) : (s.setLane p l v).assay = s.assay := rfl
@[simp] theorem State.setLane_lanes (s : State) (p l v) : (s.setLane p l v).lanes = s.lanes := rfl
@[simp] theorem State.setLane_sides (s : State) (p l v) : (s.setLane p l v).sides = s.sides := rfl
@[simp] theorem State.setLane_watch (s : State) (p l v) : (s.setLane p l v).watch = s.watch := rfl
@[simp] theorem State.setLane_replays (s : State) (p l v) : (s.setLane p l v).replays = s.replays := rfl
@[simp] theorem State.setLane_queues (s : State) (p l v) : (s.setLane p l v).queues = s.queues := rfl
@[simp] theorem State.setLane_signals (s : State) (p l v) : (s.setLane p l v).signals = s.signals := rfl
@[simp] theorem State.setLane_tallies (s : State) (p l v) : (s.setLane p l v).tallies = s.tallies := rfl
@[simp] theorem State.setLane_dma (s : State) (p l v) : (s.setLane p l v).dma = s.dma := rfl
@[simp] theorem State.setLane_dmaArb (s : State) (p l v) : (s.setLane p l v).dmaArb = s.dmaArb := rfl
@[simp] theorem State.setLane_serve (s : State) (p l v) : (s.setLane p l v).serve = s.serve := rfl
@[simp] theorem State.setLane_seqs (s : State) (p l v) : (s.setLane p l v).seqs = s.seqs := rfl
@[simp] theorem State.setLane_folio (s : State) (p l v) : (s.setLane p l v).folio = s.folio := rfl
@[simp] theorem State.setLane_staging (s : State) (p l v) : (s.setLane p l v).staging = s.staging := rfl
@[simp] theorem State.setLane_epochs (s : State) (p l v) : (s.setLane p l v).epochs = s.epochs := rfl
@[simp] theorem State.setLane_endo (s : State) (p l v) : (s.setLane p l v).endo = s.endo := rfl
@[simp] theorem State.setLane_cache (s : State) (p l v) : (s.setLane p l v).cache = s.cache := rfl
@[simp] theorem State.setLane_cal (s : State) (p l v) : (s.setLane p l v).cal = s.cal := rfl
@[simp] theorem State.setLane_aud (s : State) (p l v) : (s.setLane p l v).aud = s.aud := rfl
@[simp] theorem State.setLane_sec (s : State) (p l v) : (s.setLane p l v).sec = s.sec := rfl
@[simp] theorem State.setLane_clr (s : State) (p l v) : (s.setLane p l v).clr = s.clr := rfl
@[simp] theorem State.setLane_log (s : State) (p l v) : (s.setLane p l v).log = s.log := rfl
@[simp] theorem State.setLane_probes (s : State) (p l v) : (s.setLane p l v).probes = s.probes := rfl
@[simp] theorem State.setLane_power (s : State) (p l v) : (s.setLane p l v).power = s.power := rfl
@[simp] theorem State.setLane_pins (s : State) (p l v) : (s.setLane p l v).pins = s.pins := rfl
@[simp] theorem State.setLane_out (s : State) (p l v) : (s.setLane p l v).out = s.out := rfl
@[simp] theorem State.setLane_free (s : State) (p l v) : (s.setLane p l v).free = s.free := rfl
@[simp] theorem State.setLane_reg (s : State) (p l v) (b) : (s.setLane p l v).reg b = s.reg b := rfl
@[simp] theorem State.setLane_fld (s : State) (p l v) (b hj lj) : (s.setLane p l v).fld b hj lj = s.fld b hj lj := rfl
@[simp] theorem State.setLane_flag (s : State) (p l v) (b j) : (s.setLane p l v).flag b j = s.flag b j := rfl
@[simp] theorem State.setLane_byte (s : State) (p l v) (x) : (s.setLane p l v).byte x = s.byte x := rfl
@[simp] theorem State.setLane_read (s : State) (p l v) (x m) : (s.setLane p l v).read x m = s.read x m := rfl
@[simp] theorem State.setLane_bad (s : State) (p l v) (x m) : (s.setLane p l v).bad x m = s.bad x m := rfl

/-! ### setLink -/

@[simp] theorem State.setLink_pending (s : State) (l v) : (s.setLink l v).pending = s.pending := rfl
@[simp] theorem State.setLink_regs (s : State) (l v) : (s.setLink l v).regs = s.regs := rfl
@[simp] theorem State.setLink_mem (s : State) (l v) : (s.setLink l v).mem = s.mem := rfl
@[simp] theorem State.setLink_poison (s : State) (l v) : (s.setLink l v).poison = s.poison := rfl
@[simp] theorem State.setLink_time (s : State) (l v) : (s.setLink l v).time = s.time := rfl
@[simp] theorem State.setLink_rst (s : State) (l v) : (s.setLink l v).rst = s.rst := rfl
@[simp] theorem State.setLink_mram (s : State) (l v) : (s.setLink l v).mram = s.mram := rfl
@[simp] theorem State.setLink_dir (s : State) (l v) : (s.setLink l v).dir = s.dir := rfl
@[simp] theorem State.setLink_tiles (s : State) (l v) : (s.setLink l v).tiles = s.tiles := rfl
@[simp] theorem State.setLink_groups (s : State) (l v) : (s.setLink l v).groups = s.groups := rfl
@[simp] theorem State.setLink_gov (s : State) (l v) : (s.setLink l v).gov = s.gov := rfl
@[simp] theorem State.setLink_assay (s : State) (l v) : (s.setLink l v).assay = s.assay := rfl
@[simp] theorem State.setLink_lanes (s : State) (l v) : (s.setLink l v).lanes = s.lanes := rfl
@[simp] theorem State.setLink_sides (s : State) (l v) : (s.setLink l v).sides = s.sides := rfl
@[simp] theorem State.setLink_watch (s : State) (l v) : (s.setLink l v).watch = s.watch := rfl
@[simp] theorem State.setLink_replays (s : State) (l v) : (s.setLink l v).replays = s.replays := rfl
@[simp] theorem State.setLink_queues (s : State) (l v) : (s.setLink l v).queues = s.queues := rfl
@[simp] theorem State.setLink_signals (s : State) (l v) : (s.setLink l v).signals = s.signals := rfl
@[simp] theorem State.setLink_tallies (s : State) (l v) : (s.setLink l v).tallies = s.tallies := rfl
@[simp] theorem State.setLink_dma (s : State) (l v) : (s.setLink l v).dma = s.dma := rfl
@[simp] theorem State.setLink_dmaArb (s : State) (l v) : (s.setLink l v).dmaArb = s.dmaArb := rfl
@[simp] theorem State.setLink_ports (s : State) (l v) : (s.setLink l v).ports = s.ports := rfl
@[simp] theorem State.setLink_serve (s : State) (l v) : (s.setLink l v).serve = s.serve := rfl
@[simp] theorem State.setLink_seqs (s : State) (l v) : (s.setLink l v).seqs = s.seqs := rfl
@[simp] theorem State.setLink_folio (s : State) (l v) : (s.setLink l v).folio = s.folio := rfl
@[simp] theorem State.setLink_staging (s : State) (l v) : (s.setLink l v).staging = s.staging := rfl
@[simp] theorem State.setLink_epochs (s : State) (l v) : (s.setLink l v).epochs = s.epochs := rfl
@[simp] theorem State.setLink_endo (s : State) (l v) : (s.setLink l v).endo = s.endo := rfl
@[simp] theorem State.setLink_cache (s : State) (l v) : (s.setLink l v).cache = s.cache := rfl
@[simp] theorem State.setLink_cal (s : State) (l v) : (s.setLink l v).cal = s.cal := rfl
@[simp] theorem State.setLink_aud (s : State) (l v) : (s.setLink l v).aud = s.aud := rfl
@[simp] theorem State.setLink_sec (s : State) (l v) : (s.setLink l v).sec = s.sec := rfl
@[simp] theorem State.setLink_log (s : State) (l v) : (s.setLink l v).log = s.log := rfl
@[simp] theorem State.setLink_probes (s : State) (l v) : (s.setLink l v).probes = s.probes := rfl
@[simp] theorem State.setLink_power (s : State) (l v) : (s.setLink l v).power = s.power := rfl
@[simp] theorem State.setLink_pins (s : State) (l v) : (s.setLink l v).pins = s.pins := rfl
@[simp] theorem State.setLink_out (s : State) (l v) : (s.setLink l v).out = s.out := rfl
@[simp] theorem State.setLink_free (s : State) (l v) : (s.setLink l v).free = s.free := rfl
@[simp] theorem State.setLink_reg (s : State) (l v) (b) : (s.setLink l v).reg b = s.reg b := rfl
@[simp] theorem State.setLink_fld (s : State) (l v) (b hj lj) : (s.setLink l v).fld b hj lj = s.fld b hj lj := rfl
@[simp] theorem State.setLink_flag (s : State) (l v) (b j) : (s.setLink l v).flag b j = s.flag b j := rfl
@[simp] theorem State.setLink_byte (s : State) (l v) (x) : (s.setLink l v).byte x = s.byte x := rfl
@[simp] theorem State.setLink_read (s : State) (l v) (x m) : (s.setLink l v).read x m = s.read x m := rfl
@[simp] theorem State.setLink_bad (s : State) (l v) (x m) : (s.setLink l v).bad x m = s.bad x m := rfl

/-! ### setEng -/

@[simp] theorem State.setEng_pending (s : State) (u v) : (s.setEng u v).pending = s.pending := rfl
@[simp] theorem State.setEng_regs (s : State) (u v) : (s.setEng u v).regs = s.regs := rfl
@[simp] theorem State.setEng_mem (s : State) (u v) : (s.setEng u v).mem = s.mem := rfl
@[simp] theorem State.setEng_poison (s : State) (u v) : (s.setEng u v).poison = s.poison := rfl
@[simp] theorem State.setEng_time (s : State) (u v) : (s.setEng u v).time = s.time := rfl
@[simp] theorem State.setEng_rst (s : State) (u v) : (s.setEng u v).rst = s.rst := rfl
@[simp] theorem State.setEng_mram (s : State) (u v) : (s.setEng u v).mram = s.mram := rfl
@[simp] theorem State.setEng_dir (s : State) (u v) : (s.setEng u v).dir = s.dir := rfl
@[simp] theorem State.setEng_tiles (s : State) (u v) : (s.setEng u v).tiles = s.tiles := rfl
@[simp] theorem State.setEng_groups (s : State) (u v) : (s.setEng u v).groups = s.groups := rfl
@[simp] theorem State.setEng_gov (s : State) (u v) : (s.setEng u v).gov = s.gov := rfl
@[simp] theorem State.setEng_assay (s : State) (u v) : (s.setEng u v).assay = s.assay := rfl
@[simp] theorem State.setEng_lanes (s : State) (u v) : (s.setEng u v).lanes = s.lanes := rfl
@[simp] theorem State.setEng_sides (s : State) (u v) : (s.setEng u v).sides = s.sides := rfl
@[simp] theorem State.setEng_watch (s : State) (u v) : (s.setEng u v).watch = s.watch := rfl
@[simp] theorem State.setEng_replays (s : State) (u v) : (s.setEng u v).replays = s.replays := rfl
@[simp] theorem State.setEng_signals (s : State) (u v) : (s.setEng u v).signals = s.signals := rfl
@[simp] theorem State.setEng_tallies (s : State) (u v) : (s.setEng u v).tallies = s.tallies := rfl
@[simp] theorem State.setEng_dma (s : State) (u v) : (s.setEng u v).dma = s.dma := rfl
@[simp] theorem State.setEng_dmaArb (s : State) (u v) : (s.setEng u v).dmaArb = s.dmaArb := rfl
@[simp] theorem State.setEng_ports (s : State) (u v) : (s.setEng u v).ports = s.ports := rfl
@[simp] theorem State.setEng_serve (s : State) (u v) : (s.setEng u v).serve = s.serve := rfl
@[simp] theorem State.setEng_seqs (s : State) (u v) : (s.setEng u v).seqs = s.seqs := rfl
@[simp] theorem State.setEng_folio (s : State) (u v) : (s.setEng u v).folio = s.folio := rfl
@[simp] theorem State.setEng_staging (s : State) (u v) : (s.setEng u v).staging = s.staging := rfl
@[simp] theorem State.setEng_epochs (s : State) (u v) : (s.setEng u v).epochs = s.epochs := rfl
@[simp] theorem State.setEng_endo (s : State) (u v) : (s.setEng u v).endo = s.endo := rfl
@[simp] theorem State.setEng_cache (s : State) (u v) : (s.setEng u v).cache = s.cache := rfl
@[simp] theorem State.setEng_cal (s : State) (u v) : (s.setEng u v).cal = s.cal := rfl
@[simp] theorem State.setEng_aud (s : State) (u v) : (s.setEng u v).aud = s.aud := rfl
@[simp] theorem State.setEng_sec (s : State) (u v) : (s.setEng u v).sec = s.sec := rfl
@[simp] theorem State.setEng_clr (s : State) (u v) : (s.setEng u v).clr = s.clr := rfl
@[simp] theorem State.setEng_log (s : State) (u v) : (s.setEng u v).log = s.log := rfl
@[simp] theorem State.setEng_probes (s : State) (u v) : (s.setEng u v).probes = s.probes := rfl
@[simp] theorem State.setEng_power (s : State) (u v) : (s.setEng u v).power = s.power := rfl
@[simp] theorem State.setEng_pins (s : State) (u v) : (s.setEng u v).pins = s.pins := rfl
@[simp] theorem State.setEng_out (s : State) (u v) : (s.setEng u v).out = s.out := rfl
@[simp] theorem State.setEng_free (s : State) (u v) : (s.setEng u v).free = s.free := rfl
@[simp] theorem State.setEng_reg (s : State) (u v) (b) : (s.setEng u v).reg b = s.reg b := rfl
@[simp] theorem State.setEng_fld (s : State) (u v) (b hj lj) : (s.setEng u v).fld b hj lj = s.fld b hj lj := rfl
@[simp] theorem State.setEng_flag (s : State) (u v) (b j) : (s.setEng u v).flag b j = s.flag b j := rfl
@[simp] theorem State.setEng_byte (s : State) (u v) (x) : (s.setEng u v).byte x = s.byte x := rfl
@[simp] theorem State.setEng_read (s : State) (u v) (x m) : (s.setEng u v).read x m = s.read x m := rfl
@[simp] theorem State.setEng_bad (s : State) (u v) (x m) : (s.setEng u v).bad x m = s.bad x m := rfl

/-! ### setQueue -/

@[simp] theorem State.setQueue_pending (s : State) (u dec v) : (s.setQueue u dec v).pending = s.pending := rfl
@[simp] theorem State.setQueue_regs (s : State) (u dec v) : (s.setQueue u dec v).regs = s.regs := rfl
@[simp] theorem State.setQueue_mem (s : State) (u dec v) : (s.setQueue u dec v).mem = s.mem := rfl
@[simp] theorem State.setQueue_poison (s : State) (u dec v) : (s.setQueue u dec v).poison = s.poison := rfl
@[simp] theorem State.setQueue_time (s : State) (u dec v) : (s.setQueue u dec v).time = s.time := rfl
@[simp] theorem State.setQueue_rst (s : State) (u dec v) : (s.setQueue u dec v).rst = s.rst := rfl
@[simp] theorem State.setQueue_mram (s : State) (u dec v) : (s.setQueue u dec v).mram = s.mram := rfl
@[simp] theorem State.setQueue_dir (s : State) (u dec v) : (s.setQueue u dec v).dir = s.dir := rfl
@[simp] theorem State.setQueue_tiles (s : State) (u dec v) : (s.setQueue u dec v).tiles = s.tiles := rfl
@[simp] theorem State.setQueue_groups (s : State) (u dec v) : (s.setQueue u dec v).groups = s.groups := rfl
@[simp] theorem State.setQueue_gov (s : State) (u dec v) : (s.setQueue u dec v).gov = s.gov := rfl
@[simp] theorem State.setQueue_assay (s : State) (u dec v) : (s.setQueue u dec v).assay = s.assay := rfl
@[simp] theorem State.setQueue_lanes (s : State) (u dec v) : (s.setQueue u dec v).lanes = s.lanes := rfl
@[simp] theorem State.setQueue_sides (s : State) (u dec v) : (s.setQueue u dec v).sides = s.sides := rfl
@[simp] theorem State.setQueue_watch (s : State) (u dec v) : (s.setQueue u dec v).watch = s.watch := rfl
@[simp] theorem State.setQueue_replays (s : State) (u dec v) : (s.setQueue u dec v).replays = s.replays := rfl
@[simp] theorem State.setQueue_signals (s : State) (u dec v) : (s.setQueue u dec v).signals = s.signals := rfl
@[simp] theorem State.setQueue_tallies (s : State) (u dec v) : (s.setQueue u dec v).tallies = s.tallies := rfl
@[simp] theorem State.setQueue_dma (s : State) (u dec v) : (s.setQueue u dec v).dma = s.dma := rfl
@[simp] theorem State.setQueue_dmaArb (s : State) (u dec v) : (s.setQueue u dec v).dmaArb = s.dmaArb := rfl
@[simp] theorem State.setQueue_ports (s : State) (u dec v) : (s.setQueue u dec v).ports = s.ports := rfl
@[simp] theorem State.setQueue_serve (s : State) (u dec v) : (s.setQueue u dec v).serve = s.serve := rfl
@[simp] theorem State.setQueue_seqs (s : State) (u dec v) : (s.setQueue u dec v).seqs = s.seqs := rfl
@[simp] theorem State.setQueue_folio (s : State) (u dec v) : (s.setQueue u dec v).folio = s.folio := rfl
@[simp] theorem State.setQueue_staging (s : State) (u dec v) : (s.setQueue u dec v).staging = s.staging := rfl
@[simp] theorem State.setQueue_epochs (s : State) (u dec v) : (s.setQueue u dec v).epochs = s.epochs := rfl
@[simp] theorem State.setQueue_endo (s : State) (u dec v) : (s.setQueue u dec v).endo = s.endo := rfl
@[simp] theorem State.setQueue_cache (s : State) (u dec v) : (s.setQueue u dec v).cache = s.cache := rfl
@[simp] theorem State.setQueue_cal (s : State) (u dec v) : (s.setQueue u dec v).cal = s.cal := rfl
@[simp] theorem State.setQueue_aud (s : State) (u dec v) : (s.setQueue u dec v).aud = s.aud := rfl
@[simp] theorem State.setQueue_sec (s : State) (u dec v) : (s.setQueue u dec v).sec = s.sec := rfl
@[simp] theorem State.setQueue_clr (s : State) (u dec v) : (s.setQueue u dec v).clr = s.clr := rfl
@[simp] theorem State.setQueue_log (s : State) (u dec v) : (s.setQueue u dec v).log = s.log := rfl
@[simp] theorem State.setQueue_probes (s : State) (u dec v) : (s.setQueue u dec v).probes = s.probes := rfl
@[simp] theorem State.setQueue_power (s : State) (u dec v) : (s.setQueue u dec v).power = s.power := rfl
@[simp] theorem State.setQueue_pins (s : State) (u dec v) : (s.setQueue u dec v).pins = s.pins := rfl
@[simp] theorem State.setQueue_out (s : State) (u dec v) : (s.setQueue u dec v).out = s.out := rfl
@[simp] theorem State.setQueue_free (s : State) (u dec v) : (s.setQueue u dec v).free = s.free := rfl
@[simp] theorem State.setQueue_reg (s : State) (u dec v) (b) : (s.setQueue u dec v).reg b = s.reg b := rfl
@[simp] theorem State.setQueue_fld (s : State) (u dec v) (b hj lj) : (s.setQueue u dec v).fld b hj lj = s.fld b hj lj := rfl
@[simp] theorem State.setQueue_flag (s : State) (u dec v) (b j) : (s.setQueue u dec v).flag b j = s.flag b j := rfl
@[simp] theorem State.setQueue_byte (s : State) (u dec v) (x) : (s.setQueue u dec v).byte x = s.byte x := rfl
@[simp] theorem State.setQueue_read (s : State) (u dec v) (x m) : (s.setQueue u dec v).read x m = s.read x m := rfl
@[simp] theorem State.setQueue_bad (s : State) (u dec v) (x m) : (s.setQueue u dec v).bad x m = s.bad x m := rfl

/-! ### setChan -/

@[simp] theorem State.setChan_pending (s : State) (d k v) : (s.setChan d k v).pending = s.pending := rfl
@[simp] theorem State.setChan_regs (s : State) (d k v) : (s.setChan d k v).regs = s.regs := rfl
@[simp] theorem State.setChan_mem (s : State) (d k v) : (s.setChan d k v).mem = s.mem := rfl
@[simp] theorem State.setChan_poison (s : State) (d k v) : (s.setChan d k v).poison = s.poison := rfl
@[simp] theorem State.setChan_time (s : State) (d k v) : (s.setChan d k v).time = s.time := rfl
@[simp] theorem State.setChan_rst (s : State) (d k v) : (s.setChan d k v).rst = s.rst := rfl
@[simp] theorem State.setChan_mram (s : State) (d k v) : (s.setChan d k v).mram = s.mram := rfl
@[simp] theorem State.setChan_dir (s : State) (d k v) : (s.setChan d k v).dir = s.dir := rfl
@[simp] theorem State.setChan_tiles (s : State) (d k v) : (s.setChan d k v).tiles = s.tiles := rfl
@[simp] theorem State.setChan_groups (s : State) (d k v) : (s.setChan d k v).groups = s.groups := rfl
@[simp] theorem State.setChan_gov (s : State) (d k v) : (s.setChan d k v).gov = s.gov := rfl
@[simp] theorem State.setChan_assay (s : State) (d k v) : (s.setChan d k v).assay = s.assay := rfl
@[simp] theorem State.setChan_lanes (s : State) (d k v) : (s.setChan d k v).lanes = s.lanes := rfl
@[simp] theorem State.setChan_sides (s : State) (d k v) : (s.setChan d k v).sides = s.sides := rfl
@[simp] theorem State.setChan_watch (s : State) (d k v) : (s.setChan d k v).watch = s.watch := rfl
@[simp] theorem State.setChan_replays (s : State) (d k v) : (s.setChan d k v).replays = s.replays := rfl
@[simp] theorem State.setChan_queues (s : State) (d k v) : (s.setChan d k v).queues = s.queues := rfl
@[simp] theorem State.setChan_signals (s : State) (d k v) : (s.setChan d k v).signals = s.signals := rfl
@[simp] theorem State.setChan_tallies (s : State) (d k v) : (s.setChan d k v).tallies = s.tallies := rfl
@[simp] theorem State.setChan_dmaArb (s : State) (d k v) : (s.setChan d k v).dmaArb = s.dmaArb := rfl
@[simp] theorem State.setChan_ports (s : State) (d k v) : (s.setChan d k v).ports = s.ports := rfl
@[simp] theorem State.setChan_serve (s : State) (d k v) : (s.setChan d k v).serve = s.serve := rfl
@[simp] theorem State.setChan_seqs (s : State) (d k v) : (s.setChan d k v).seqs = s.seqs := rfl
@[simp] theorem State.setChan_folio (s : State) (d k v) : (s.setChan d k v).folio = s.folio := rfl
@[simp] theorem State.setChan_staging (s : State) (d k v) : (s.setChan d k v).staging = s.staging := rfl
@[simp] theorem State.setChan_epochs (s : State) (d k v) : (s.setChan d k v).epochs = s.epochs := rfl
@[simp] theorem State.setChan_endo (s : State) (d k v) : (s.setChan d k v).endo = s.endo := rfl
@[simp] theorem State.setChan_cache (s : State) (d k v) : (s.setChan d k v).cache = s.cache := rfl
@[simp] theorem State.setChan_cal (s : State) (d k v) : (s.setChan d k v).cal = s.cal := rfl
@[simp] theorem State.setChan_aud (s : State) (d k v) : (s.setChan d k v).aud = s.aud := rfl
@[simp] theorem State.setChan_sec (s : State) (d k v) : (s.setChan d k v).sec = s.sec := rfl
@[simp] theorem State.setChan_clr (s : State) (d k v) : (s.setChan d k v).clr = s.clr := rfl
@[simp] theorem State.setChan_log (s : State) (d k v) : (s.setChan d k v).log = s.log := rfl
@[simp] theorem State.setChan_probes (s : State) (d k v) : (s.setChan d k v).probes = s.probes := rfl
@[simp] theorem State.setChan_power (s : State) (d k v) : (s.setChan d k v).power = s.power := rfl
@[simp] theorem State.setChan_pins (s : State) (d k v) : (s.setChan d k v).pins = s.pins := rfl
@[simp] theorem State.setChan_out (s : State) (d k v) : (s.setChan d k v).out = s.out := rfl
@[simp] theorem State.setChan_free (s : State) (d k v) : (s.setChan d k v).free = s.free := rfl
@[simp] theorem State.setChan_reg (s : State) (d k v) (b) : (s.setChan d k v).reg b = s.reg b := rfl
@[simp] theorem State.setChan_fld (s : State) (d k v) (b hj lj) : (s.setChan d k v).fld b hj lj = s.fld b hj lj := rfl
@[simp] theorem State.setChan_flag (s : State) (d k v) (b j) : (s.setChan d k v).flag b j = s.flag b j := rfl
@[simp] theorem State.setChan_byte (s : State) (d k v) (x) : (s.setChan d k v).byte x = s.byte x := rfl
@[simp] theorem State.setChan_read (s : State) (d k v) (x m) : (s.setChan d k v).read x m = s.read x m := rfl
@[simp] theorem State.setChan_bad (s : State) (d k v) (x m) : (s.setChan d k v).bad x m = s.bad x m := rfl

/-! ### setAudit -/

@[simp] theorem State.setAudit_pending (s : State) (i v) : (s.setAudit i v).pending = s.pending := rfl
@[simp] theorem State.setAudit_regs (s : State) (i v) : (s.setAudit i v).regs = s.regs := rfl
@[simp] theorem State.setAudit_mem (s : State) (i v) : (s.setAudit i v).mem = s.mem := rfl
@[simp] theorem State.setAudit_poison (s : State) (i v) : (s.setAudit i v).poison = s.poison := rfl
@[simp] theorem State.setAudit_time (s : State) (i v) : (s.setAudit i v).time = s.time := rfl
@[simp] theorem State.setAudit_rst (s : State) (i v) : (s.setAudit i v).rst = s.rst := rfl
@[simp] theorem State.setAudit_mram (s : State) (i v) : (s.setAudit i v).mram = s.mram := rfl
@[simp] theorem State.setAudit_dir (s : State) (i v) : (s.setAudit i v).dir = s.dir := rfl
@[simp] theorem State.setAudit_tiles (s : State) (i v) : (s.setAudit i v).tiles = s.tiles := rfl
@[simp] theorem State.setAudit_groups (s : State) (i v) : (s.setAudit i v).groups = s.groups := rfl
@[simp] theorem State.setAudit_gov (s : State) (i v) : (s.setAudit i v).gov = s.gov := rfl
@[simp] theorem State.setAudit_assay (s : State) (i v) : (s.setAudit i v).assay = s.assay := rfl
@[simp] theorem State.setAudit_lanes (s : State) (i v) : (s.setAudit i v).lanes = s.lanes := rfl
@[simp] theorem State.setAudit_sides (s : State) (i v) : (s.setAudit i v).sides = s.sides := rfl
@[simp] theorem State.setAudit_watch (s : State) (i v) : (s.setAudit i v).watch = s.watch := rfl
@[simp] theorem State.setAudit_replays (s : State) (i v) : (s.setAudit i v).replays = s.replays := rfl
@[simp] theorem State.setAudit_queues (s : State) (i v) : (s.setAudit i v).queues = s.queues := rfl
@[simp] theorem State.setAudit_signals (s : State) (i v) : (s.setAudit i v).signals = s.signals := rfl
@[simp] theorem State.setAudit_tallies (s : State) (i v) : (s.setAudit i v).tallies = s.tallies := rfl
@[simp] theorem State.setAudit_dma (s : State) (i v) : (s.setAudit i v).dma = s.dma := rfl
@[simp] theorem State.setAudit_dmaArb (s : State) (i v) : (s.setAudit i v).dmaArb = s.dmaArb := rfl
@[simp] theorem State.setAudit_ports (s : State) (i v) : (s.setAudit i v).ports = s.ports := rfl
@[simp] theorem State.setAudit_serve (s : State) (i v) : (s.setAudit i v).serve = s.serve := rfl
@[simp] theorem State.setAudit_seqs (s : State) (i v) : (s.setAudit i v).seqs = s.seqs := rfl
@[simp] theorem State.setAudit_folio (s : State) (i v) : (s.setAudit i v).folio = s.folio := rfl
@[simp] theorem State.setAudit_staging (s : State) (i v) : (s.setAudit i v).staging = s.staging := rfl
@[simp] theorem State.setAudit_epochs (s : State) (i v) : (s.setAudit i v).epochs = s.epochs := rfl
@[simp] theorem State.setAudit_endo (s : State) (i v) : (s.setAudit i v).endo = s.endo := rfl
@[simp] theorem State.setAudit_cache (s : State) (i v) : (s.setAudit i v).cache = s.cache := rfl
@[simp] theorem State.setAudit_cal (s : State) (i v) : (s.setAudit i v).cal = s.cal := rfl
@[simp] theorem State.setAudit_sec (s : State) (i v) : (s.setAudit i v).sec = s.sec := rfl
@[simp] theorem State.setAudit_clr (s : State) (i v) : (s.setAudit i v).clr = s.clr := rfl
@[simp] theorem State.setAudit_log (s : State) (i v) : (s.setAudit i v).log = s.log := rfl
@[simp] theorem State.setAudit_probes (s : State) (i v) : (s.setAudit i v).probes = s.probes := rfl
@[simp] theorem State.setAudit_power (s : State) (i v) : (s.setAudit i v).power = s.power := rfl
@[simp] theorem State.setAudit_pins (s : State) (i v) : (s.setAudit i v).pins = s.pins := rfl
@[simp] theorem State.setAudit_out (s : State) (i v) : (s.setAudit i v).out = s.out := rfl
@[simp] theorem State.setAudit_free (s : State) (i v) : (s.setAudit i v).free = s.free := rfl
@[simp] theorem State.setAudit_reg (s : State) (i v) (b) : (s.setAudit i v).reg b = s.reg b := rfl
@[simp] theorem State.setAudit_fld (s : State) (i v) (b hj lj) : (s.setAudit i v).fld b hj lj = s.fld b hj lj := rfl
@[simp] theorem State.setAudit_flag (s : State) (i v) (b j) : (s.setAudit i v).flag b j = s.flag b j := rfl
@[simp] theorem State.setAudit_byte (s : State) (i v) (x) : (s.setAudit i v).byte x = s.byte x := rfl
@[simp] theorem State.setAudit_read (s : State) (i v) (x m) : (s.setAudit i v).read x m = s.read x m := rfl
@[simp] theorem State.setAudit_bad (s : State) (i v) (x m) : (s.setAudit i v).bad x m = s.bad x m := rfl

/-! ### setGroup -/

@[simp] theorem State.setGroup_pending (s : State) (d u v) : (s.setGroup d u v).pending = s.pending := rfl
@[simp] theorem State.setGroup_regs (s : State) (d u v) : (s.setGroup d u v).regs = s.regs := rfl
@[simp] theorem State.setGroup_mem (s : State) (d u v) : (s.setGroup d u v).mem = s.mem := rfl
@[simp] theorem State.setGroup_poison (s : State) (d u v) : (s.setGroup d u v).poison = s.poison := rfl
@[simp] theorem State.setGroup_time (s : State) (d u v) : (s.setGroup d u v).time = s.time := rfl
@[simp] theorem State.setGroup_rst (s : State) (d u v) : (s.setGroup d u v).rst = s.rst := rfl
@[simp] theorem State.setGroup_mram (s : State) (d u v) : (s.setGroup d u v).mram = s.mram := rfl
@[simp] theorem State.setGroup_dir (s : State) (d u v) : (s.setGroup d u v).dir = s.dir := rfl
@[simp] theorem State.setGroup_tiles (s : State) (d u v) : (s.setGroup d u v).tiles = s.tiles := rfl
@[simp] theorem State.setGroup_gov (s : State) (d u v) : (s.setGroup d u v).gov = s.gov := rfl
@[simp] theorem State.setGroup_assay (s : State) (d u v) : (s.setGroup d u v).assay = s.assay := rfl
@[simp] theorem State.setGroup_lanes (s : State) (d u v) : (s.setGroup d u v).lanes = s.lanes := rfl
@[simp] theorem State.setGroup_sides (s : State) (d u v) : (s.setGroup d u v).sides = s.sides := rfl
@[simp] theorem State.setGroup_watch (s : State) (d u v) : (s.setGroup d u v).watch = s.watch := rfl
@[simp] theorem State.setGroup_replays (s : State) (d u v) : (s.setGroup d u v).replays = s.replays := rfl
@[simp] theorem State.setGroup_queues (s : State) (d u v) : (s.setGroup d u v).queues = s.queues := rfl
@[simp] theorem State.setGroup_signals (s : State) (d u v) : (s.setGroup d u v).signals = s.signals := rfl
@[simp] theorem State.setGroup_tallies (s : State) (d u v) : (s.setGroup d u v).tallies = s.tallies := rfl
@[simp] theorem State.setGroup_dma (s : State) (d u v) : (s.setGroup d u v).dma = s.dma := rfl
@[simp] theorem State.setGroup_dmaArb (s : State) (d u v) : (s.setGroup d u v).dmaArb = s.dmaArb := rfl
@[simp] theorem State.setGroup_ports (s : State) (d u v) : (s.setGroup d u v).ports = s.ports := rfl
@[simp] theorem State.setGroup_serve (s : State) (d u v) : (s.setGroup d u v).serve = s.serve := rfl
@[simp] theorem State.setGroup_seqs (s : State) (d u v) : (s.setGroup d u v).seqs = s.seqs := rfl
@[simp] theorem State.setGroup_folio (s : State) (d u v) : (s.setGroup d u v).folio = s.folio := rfl
@[simp] theorem State.setGroup_staging (s : State) (d u v) : (s.setGroup d u v).staging = s.staging := rfl
@[simp] theorem State.setGroup_epochs (s : State) (d u v) : (s.setGroup d u v).epochs = s.epochs := rfl
@[simp] theorem State.setGroup_endo (s : State) (d u v) : (s.setGroup d u v).endo = s.endo := rfl
@[simp] theorem State.setGroup_cache (s : State) (d u v) : (s.setGroup d u v).cache = s.cache := rfl
@[simp] theorem State.setGroup_cal (s : State) (d u v) : (s.setGroup d u v).cal = s.cal := rfl
@[simp] theorem State.setGroup_aud (s : State) (d u v) : (s.setGroup d u v).aud = s.aud := rfl
@[simp] theorem State.setGroup_sec (s : State) (d u v) : (s.setGroup d u v).sec = s.sec := rfl
@[simp] theorem State.setGroup_clr (s : State) (d u v) : (s.setGroup d u v).clr = s.clr := rfl
@[simp] theorem State.setGroup_log (s : State) (d u v) : (s.setGroup d u v).log = s.log := rfl
@[simp] theorem State.setGroup_probes (s : State) (d u v) : (s.setGroup d u v).probes = s.probes := rfl
@[simp] theorem State.setGroup_power (s : State) (d u v) : (s.setGroup d u v).power = s.power := rfl
@[simp] theorem State.setGroup_pins (s : State) (d u v) : (s.setGroup d u v).pins = s.pins := rfl
@[simp] theorem State.setGroup_out (s : State) (d u v) : (s.setGroup d u v).out = s.out := rfl
@[simp] theorem State.setGroup_free (s : State) (d u v) : (s.setGroup d u v).free = s.free := rfl
@[simp] theorem State.setGroup_reg (s : State) (d u v) (b) : (s.setGroup d u v).reg b = s.reg b := rfl
@[simp] theorem State.setGroup_fld (s : State) (d u v) (b hj lj) : (s.setGroup d u v).fld b hj lj = s.fld b hj lj := rfl
@[simp] theorem State.setGroup_flag (s : State) (d u v) (b j) : (s.setGroup d u v).flag b j = s.flag b j := rfl
@[simp] theorem State.setGroup_byte (s : State) (d u v) (x) : (s.setGroup d u v).byte x = s.byte x := rfl
@[simp] theorem State.setGroup_read (s : State) (d u v) (x m) : (s.setGroup d u v).read x m = s.read x m := rfl
@[simp] theorem State.setGroup_bad (s : State) (d u v) (x m) : (s.setGroup d u v).bad x m = s.bad x m := rfl

/-! ### setFolio -/

@[simp] theorem State.setFolio_pending (s : State) (e v) : (s.setFolio e v).pending = s.pending := rfl
@[simp] theorem State.setFolio_regs (s : State) (e v) : (s.setFolio e v).regs = s.regs := rfl
@[simp] theorem State.setFolio_mem (s : State) (e v) : (s.setFolio e v).mem = s.mem := rfl
@[simp] theorem State.setFolio_poison (s : State) (e v) : (s.setFolio e v).poison = s.poison := rfl
@[simp] theorem State.setFolio_time (s : State) (e v) : (s.setFolio e v).time = s.time := rfl
@[simp] theorem State.setFolio_rst (s : State) (e v) : (s.setFolio e v).rst = s.rst := rfl
@[simp] theorem State.setFolio_mram (s : State) (e v) : (s.setFolio e v).mram = s.mram := rfl
@[simp] theorem State.setFolio_dir (s : State) (e v) : (s.setFolio e v).dir = s.dir := rfl
@[simp] theorem State.setFolio_tiles (s : State) (e v) : (s.setFolio e v).tiles = s.tiles := rfl
@[simp] theorem State.setFolio_groups (s : State) (e v) : (s.setFolio e v).groups = s.groups := rfl
@[simp] theorem State.setFolio_gov (s : State) (e v) : (s.setFolio e v).gov = s.gov := rfl
@[simp] theorem State.setFolio_assay (s : State) (e v) : (s.setFolio e v).assay = s.assay := rfl
@[simp] theorem State.setFolio_lanes (s : State) (e v) : (s.setFolio e v).lanes = s.lanes := rfl
@[simp] theorem State.setFolio_sides (s : State) (e v) : (s.setFolio e v).sides = s.sides := rfl
@[simp] theorem State.setFolio_watch (s : State) (e v) : (s.setFolio e v).watch = s.watch := rfl
@[simp] theorem State.setFolio_replays (s : State) (e v) : (s.setFolio e v).replays = s.replays := rfl
@[simp] theorem State.setFolio_queues (s : State) (e v) : (s.setFolio e v).queues = s.queues := rfl
@[simp] theorem State.setFolio_signals (s : State) (e v) : (s.setFolio e v).signals = s.signals := rfl
@[simp] theorem State.setFolio_tallies (s : State) (e v) : (s.setFolio e v).tallies = s.tallies := rfl
@[simp] theorem State.setFolio_dma (s : State) (e v) : (s.setFolio e v).dma = s.dma := rfl
@[simp] theorem State.setFolio_dmaArb (s : State) (e v) : (s.setFolio e v).dmaArb = s.dmaArb := rfl
@[simp] theorem State.setFolio_ports (s : State) (e v) : (s.setFolio e v).ports = s.ports := rfl
@[simp] theorem State.setFolio_serve (s : State) (e v) : (s.setFolio e v).serve = s.serve := rfl
@[simp] theorem State.setFolio_seqs (s : State) (e v) : (s.setFolio e v).seqs = s.seqs := rfl
@[simp] theorem State.setFolio_staging (s : State) (e v) : (s.setFolio e v).staging = s.staging := rfl
@[simp] theorem State.setFolio_epochs (s : State) (e v) : (s.setFolio e v).epochs = s.epochs := rfl
@[simp] theorem State.setFolio_endo (s : State) (e v) : (s.setFolio e v).endo = s.endo := rfl
@[simp] theorem State.setFolio_cache (s : State) (e v) : (s.setFolio e v).cache = s.cache := rfl
@[simp] theorem State.setFolio_cal (s : State) (e v) : (s.setFolio e v).cal = s.cal := rfl
@[simp] theorem State.setFolio_aud (s : State) (e v) : (s.setFolio e v).aud = s.aud := rfl
@[simp] theorem State.setFolio_sec (s : State) (e v) : (s.setFolio e v).sec = s.sec := rfl
@[simp] theorem State.setFolio_clr (s : State) (e v) : (s.setFolio e v).clr = s.clr := rfl
@[simp] theorem State.setFolio_log (s : State) (e v) : (s.setFolio e v).log = s.log := rfl
@[simp] theorem State.setFolio_probes (s : State) (e v) : (s.setFolio e v).probes = s.probes := rfl
@[simp] theorem State.setFolio_power (s : State) (e v) : (s.setFolio e v).power = s.power := rfl
@[simp] theorem State.setFolio_pins (s : State) (e v) : (s.setFolio e v).pins = s.pins := rfl
@[simp] theorem State.setFolio_out (s : State) (e v) : (s.setFolio e v).out = s.out := rfl
@[simp] theorem State.setFolio_free (s : State) (e v) : (s.setFolio e v).free = s.free := rfl
@[simp] theorem State.setFolio_reg (s : State) (e v) (b) : (s.setFolio e v).reg b = s.reg b := rfl
@[simp] theorem State.setFolio_fld (s : State) (e v) (b hj lj) : (s.setFolio e v).fld b hj lj = s.fld b hj lj := rfl
@[simp] theorem State.setFolio_flag (s : State) (e v) (b j) : (s.setFolio e v).flag b j = s.flag b j := rfl
@[simp] theorem State.setFolio_byte (s : State) (e v) (x) : (s.setFolio e v).byte x = s.byte x := rfl
@[simp] theorem State.setFolio_read (s : State) (e v) (x m) : (s.setFolio e v).read x m = s.read x m := rfl
@[simp] theorem State.setFolio_bad (s : State) (e v) (x m) : (s.setFolio e v).bad x m = s.bad x m := rfl

/-! ### setEndo -/

@[simp] theorem State.setEndo_pending (s : State) (e v) : (s.setEndo e v).pending = s.pending := rfl
@[simp] theorem State.setEndo_regs (s : State) (e v) : (s.setEndo e v).regs = s.regs := rfl
@[simp] theorem State.setEndo_mem (s : State) (e v) : (s.setEndo e v).mem = s.mem := rfl
@[simp] theorem State.setEndo_poison (s : State) (e v) : (s.setEndo e v).poison = s.poison := rfl
@[simp] theorem State.setEndo_time (s : State) (e v) : (s.setEndo e v).time = s.time := rfl
@[simp] theorem State.setEndo_rst (s : State) (e v) : (s.setEndo e v).rst = s.rst := rfl
@[simp] theorem State.setEndo_mram (s : State) (e v) : (s.setEndo e v).mram = s.mram := rfl
@[simp] theorem State.setEndo_dir (s : State) (e v) : (s.setEndo e v).dir = s.dir := rfl
@[simp] theorem State.setEndo_tiles (s : State) (e v) : (s.setEndo e v).tiles = s.tiles := rfl
@[simp] theorem State.setEndo_groups (s : State) (e v) : (s.setEndo e v).groups = s.groups := rfl
@[simp] theorem State.setEndo_gov (s : State) (e v) : (s.setEndo e v).gov = s.gov := rfl
@[simp] theorem State.setEndo_assay (s : State) (e v) : (s.setEndo e v).assay = s.assay := rfl
@[simp] theorem State.setEndo_lanes (s : State) (e v) : (s.setEndo e v).lanes = s.lanes := rfl
@[simp] theorem State.setEndo_sides (s : State) (e v) : (s.setEndo e v).sides = s.sides := rfl
@[simp] theorem State.setEndo_watch (s : State) (e v) : (s.setEndo e v).watch = s.watch := rfl
@[simp] theorem State.setEndo_replays (s : State) (e v) : (s.setEndo e v).replays = s.replays := rfl
@[simp] theorem State.setEndo_queues (s : State) (e v) : (s.setEndo e v).queues = s.queues := rfl
@[simp] theorem State.setEndo_signals (s : State) (e v) : (s.setEndo e v).signals = s.signals := rfl
@[simp] theorem State.setEndo_tallies (s : State) (e v) : (s.setEndo e v).tallies = s.tallies := rfl
@[simp] theorem State.setEndo_dma (s : State) (e v) : (s.setEndo e v).dma = s.dma := rfl
@[simp] theorem State.setEndo_dmaArb (s : State) (e v) : (s.setEndo e v).dmaArb = s.dmaArb := rfl
@[simp] theorem State.setEndo_ports (s : State) (e v) : (s.setEndo e v).ports = s.ports := rfl
@[simp] theorem State.setEndo_serve (s : State) (e v) : (s.setEndo e v).serve = s.serve := rfl
@[simp] theorem State.setEndo_seqs (s : State) (e v) : (s.setEndo e v).seqs = s.seqs := rfl
@[simp] theorem State.setEndo_folio (s : State) (e v) : (s.setEndo e v).folio = s.folio := rfl
@[simp] theorem State.setEndo_staging (s : State) (e v) : (s.setEndo e v).staging = s.staging := rfl
@[simp] theorem State.setEndo_epochs (s : State) (e v) : (s.setEndo e v).epochs = s.epochs := rfl
@[simp] theorem State.setEndo_cache (s : State) (e v) : (s.setEndo e v).cache = s.cache := rfl
@[simp] theorem State.setEndo_cal (s : State) (e v) : (s.setEndo e v).cal = s.cal := rfl
@[simp] theorem State.setEndo_aud (s : State) (e v) : (s.setEndo e v).aud = s.aud := rfl
@[simp] theorem State.setEndo_sec (s : State) (e v) : (s.setEndo e v).sec = s.sec := rfl
@[simp] theorem State.setEndo_clr (s : State) (e v) : (s.setEndo e v).clr = s.clr := rfl
@[simp] theorem State.setEndo_log (s : State) (e v) : (s.setEndo e v).log = s.log := rfl
@[simp] theorem State.setEndo_probes (s : State) (e v) : (s.setEndo e v).probes = s.probes := rfl
@[simp] theorem State.setEndo_power (s : State) (e v) : (s.setEndo e v).power = s.power := rfl
@[simp] theorem State.setEndo_pins (s : State) (e v) : (s.setEndo e v).pins = s.pins := rfl
@[simp] theorem State.setEndo_out (s : State) (e v) : (s.setEndo e v).out = s.out := rfl
@[simp] theorem State.setEndo_free (s : State) (e v) : (s.setEndo e v).free = s.free := rfl
@[simp] theorem State.setEndo_reg (s : State) (e v) (b) : (s.setEndo e v).reg b = s.reg b := rfl
@[simp] theorem State.setEndo_fld (s : State) (e v) (b hj lj) : (s.setEndo e v).fld b hj lj = s.fld b hj lj := rfl
@[simp] theorem State.setEndo_flag (s : State) (e v) (b j) : (s.setEndo e v).flag b j = s.flag b j := rfl
@[simp] theorem State.setEndo_byte (s : State) (e v) (x) : (s.setEndo e v).byte x = s.byte x := rfl
@[simp] theorem State.setEndo_read (s : State) (e v) (x m) : (s.setEndo e v).read x m = s.read x m := rfl
@[simp] theorem State.setEndo_bad (s : State) (e v) (x m) : (s.setEndo e v).bad x m = s.bad x m := rfl

/-! ### setAcct -/

@[simp] theorem State.setAcct_pending (s : State) (a v) : (s.setAcct a v).pending = s.pending := rfl
@[simp] theorem State.setAcct_regs (s : State) (a v) : (s.setAcct a v).regs = s.regs := rfl
@[simp] theorem State.setAcct_mem (s : State) (a v) : (s.setAcct a v).mem = s.mem := rfl
@[simp] theorem State.setAcct_poison (s : State) (a v) : (s.setAcct a v).poison = s.poison := rfl
@[simp] theorem State.setAcct_time (s : State) (a v) : (s.setAcct a v).time = s.time := rfl
@[simp] theorem State.setAcct_rst (s : State) (a v) : (s.setAcct a v).rst = s.rst := rfl
@[simp] theorem State.setAcct_mram (s : State) (a v) : (s.setAcct a v).mram = s.mram := rfl
@[simp] theorem State.setAcct_dir (s : State) (a v) : (s.setAcct a v).dir = s.dir := rfl
@[simp] theorem State.setAcct_tiles (s : State) (a v) : (s.setAcct a v).tiles = s.tiles := rfl
@[simp] theorem State.setAcct_groups (s : State) (a v) : (s.setAcct a v).groups = s.groups := rfl
@[simp] theorem State.setAcct_gov (s : State) (a v) : (s.setAcct a v).gov = s.gov := rfl
@[simp] theorem State.setAcct_assay (s : State) (a v) : (s.setAcct a v).assay = s.assay := rfl
@[simp] theorem State.setAcct_lanes (s : State) (a v) : (s.setAcct a v).lanes = s.lanes := rfl
@[simp] theorem State.setAcct_sides (s : State) (a v) : (s.setAcct a v).sides = s.sides := rfl
@[simp] theorem State.setAcct_watch (s : State) (a v) : (s.setAcct a v).watch = s.watch := rfl
@[simp] theorem State.setAcct_replays (s : State) (a v) : (s.setAcct a v).replays = s.replays := rfl
@[simp] theorem State.setAcct_queues (s : State) (a v) : (s.setAcct a v).queues = s.queues := rfl
@[simp] theorem State.setAcct_signals (s : State) (a v) : (s.setAcct a v).signals = s.signals := rfl
@[simp] theorem State.setAcct_tallies (s : State) (a v) : (s.setAcct a v).tallies = s.tallies := rfl
@[simp] theorem State.setAcct_dma (s : State) (a v) : (s.setAcct a v).dma = s.dma := rfl
@[simp] theorem State.setAcct_dmaArb (s : State) (a v) : (s.setAcct a v).dmaArb = s.dmaArb := rfl
@[simp] theorem State.setAcct_ports (s : State) (a v) : (s.setAcct a v).ports = s.ports := rfl
@[simp] theorem State.setAcct_seqs (s : State) (a v) : (s.setAcct a v).seqs = s.seqs := rfl
@[simp] theorem State.setAcct_folio (s : State) (a v) : (s.setAcct a v).folio = s.folio := rfl
@[simp] theorem State.setAcct_staging (s : State) (a v) : (s.setAcct a v).staging = s.staging := rfl
@[simp] theorem State.setAcct_epochs (s : State) (a v) : (s.setAcct a v).epochs = s.epochs := rfl
@[simp] theorem State.setAcct_endo (s : State) (a v) : (s.setAcct a v).endo = s.endo := rfl
@[simp] theorem State.setAcct_cache (s : State) (a v) : (s.setAcct a v).cache = s.cache := rfl
@[simp] theorem State.setAcct_cal (s : State) (a v) : (s.setAcct a v).cal = s.cal := rfl
@[simp] theorem State.setAcct_aud (s : State) (a v) : (s.setAcct a v).aud = s.aud := rfl
@[simp] theorem State.setAcct_sec (s : State) (a v) : (s.setAcct a v).sec = s.sec := rfl
@[simp] theorem State.setAcct_clr (s : State) (a v) : (s.setAcct a v).clr = s.clr := rfl
@[simp] theorem State.setAcct_log (s : State) (a v) : (s.setAcct a v).log = s.log := rfl
@[simp] theorem State.setAcct_probes (s : State) (a v) : (s.setAcct a v).probes = s.probes := rfl
@[simp] theorem State.setAcct_power (s : State) (a v) : (s.setAcct a v).power = s.power := rfl
@[simp] theorem State.setAcct_pins (s : State) (a v) : (s.setAcct a v).pins = s.pins := rfl
@[simp] theorem State.setAcct_out (s : State) (a v) : (s.setAcct a v).out = s.out := rfl
@[simp] theorem State.setAcct_free (s : State) (a v) : (s.setAcct a v).free = s.free := rfl
@[simp] theorem State.setAcct_reg (s : State) (a v) (b) : (s.setAcct a v).reg b = s.reg b := rfl
@[simp] theorem State.setAcct_fld (s : State) (a v) (b hj lj) : (s.setAcct a v).fld b hj lj = s.fld b hj lj := rfl
@[simp] theorem State.setAcct_flag (s : State) (a v) (b j) : (s.setAcct a v).flag b j = s.flag b j := rfl
@[simp] theorem State.setAcct_byte (s : State) (a v) (x) : (s.setAcct a v).byte x = s.byte x := rfl
@[simp] theorem State.setAcct_read (s : State) (a v) (x m) : (s.setAcct a v).read x m = s.read x m := rfl
@[simp] theorem State.setAcct_bad (s : State) (a v) (x m) : (s.setAcct a v).bad x m = s.bad x m := rfl

/-! ### setResultSet -/

@[simp] theorem State.setResultSet_pending (s : State) (u n v) : (s.setResultSet u n v).pending = s.pending := rfl
@[simp] theorem State.setResultSet_regs (s : State) (u n v) : (s.setResultSet u n v).regs = s.regs := rfl
@[simp] theorem State.setResultSet_mem (s : State) (u n v) : (s.setResultSet u n v).mem = s.mem := rfl
@[simp] theorem State.setResultSet_poison (s : State) (u n v) : (s.setResultSet u n v).poison = s.poison := rfl
@[simp] theorem State.setResultSet_time (s : State) (u n v) : (s.setResultSet u n v).time = s.time := rfl
@[simp] theorem State.setResultSet_rst (s : State) (u n v) : (s.setResultSet u n v).rst = s.rst := rfl
@[simp] theorem State.setResultSet_mram (s : State) (u n v) : (s.setResultSet u n v).mram = s.mram := rfl
@[simp] theorem State.setResultSet_dir (s : State) (u n v) : (s.setResultSet u n v).dir = s.dir := rfl
@[simp] theorem State.setResultSet_tiles (s : State) (u n v) : (s.setResultSet u n v).tiles = s.tiles := rfl
@[simp] theorem State.setResultSet_groups (s : State) (u n v) : (s.setResultSet u n v).groups = s.groups := rfl
@[simp] theorem State.setResultSet_gov (s : State) (u n v) : (s.setResultSet u n v).gov = s.gov := rfl
@[simp] theorem State.setResultSet_lanes (s : State) (u n v) : (s.setResultSet u n v).lanes = s.lanes := rfl
@[simp] theorem State.setResultSet_sides (s : State) (u n v) : (s.setResultSet u n v).sides = s.sides := rfl
@[simp] theorem State.setResultSet_watch (s : State) (u n v) : (s.setResultSet u n v).watch = s.watch := rfl
@[simp] theorem State.setResultSet_replays (s : State) (u n v) : (s.setResultSet u n v).replays = s.replays := rfl
@[simp] theorem State.setResultSet_queues (s : State) (u n v) : (s.setResultSet u n v).queues = s.queues := rfl
@[simp] theorem State.setResultSet_signals (s : State) (u n v) : (s.setResultSet u n v).signals = s.signals := rfl
@[simp] theorem State.setResultSet_tallies (s : State) (u n v) : (s.setResultSet u n v).tallies = s.tallies := rfl
@[simp] theorem State.setResultSet_dma (s : State) (u n v) : (s.setResultSet u n v).dma = s.dma := rfl
@[simp] theorem State.setResultSet_dmaArb (s : State) (u n v) : (s.setResultSet u n v).dmaArb = s.dmaArb := rfl
@[simp] theorem State.setResultSet_ports (s : State) (u n v) : (s.setResultSet u n v).ports = s.ports := rfl
@[simp] theorem State.setResultSet_serve (s : State) (u n v) : (s.setResultSet u n v).serve = s.serve := rfl
@[simp] theorem State.setResultSet_seqs (s : State) (u n v) : (s.setResultSet u n v).seqs = s.seqs := rfl
@[simp] theorem State.setResultSet_folio (s : State) (u n v) : (s.setResultSet u n v).folio = s.folio := rfl
@[simp] theorem State.setResultSet_staging (s : State) (u n v) : (s.setResultSet u n v).staging = s.staging := rfl
@[simp] theorem State.setResultSet_epochs (s : State) (u n v) : (s.setResultSet u n v).epochs = s.epochs := rfl
@[simp] theorem State.setResultSet_endo (s : State) (u n v) : (s.setResultSet u n v).endo = s.endo := rfl
@[simp] theorem State.setResultSet_cache (s : State) (u n v) : (s.setResultSet u n v).cache = s.cache := rfl
@[simp] theorem State.setResultSet_cal (s : State) (u n v) : (s.setResultSet u n v).cal = s.cal := rfl
@[simp] theorem State.setResultSet_aud (s : State) (u n v) : (s.setResultSet u n v).aud = s.aud := rfl
@[simp] theorem State.setResultSet_sec (s : State) (u n v) : (s.setResultSet u n v).sec = s.sec := rfl
@[simp] theorem State.setResultSet_clr (s : State) (u n v) : (s.setResultSet u n v).clr = s.clr := rfl
@[simp] theorem State.setResultSet_log (s : State) (u n v) : (s.setResultSet u n v).log = s.log := rfl
@[simp] theorem State.setResultSet_probes (s : State) (u n v) : (s.setResultSet u n v).probes = s.probes := rfl
@[simp] theorem State.setResultSet_power (s : State) (u n v) : (s.setResultSet u n v).power = s.power := rfl
@[simp] theorem State.setResultSet_pins (s : State) (u n v) : (s.setResultSet u n v).pins = s.pins := rfl
@[simp] theorem State.setResultSet_out (s : State) (u n v) : (s.setResultSet u n v).out = s.out := rfl
@[simp] theorem State.setResultSet_free (s : State) (u n v) : (s.setResultSet u n v).free = s.free := rfl
@[simp] theorem State.setResultSet_reg (s : State) (u n v) (b) : (s.setResultSet u n v).reg b = s.reg b := rfl
@[simp] theorem State.setResultSet_fld (s : State) (u n v) (b hj lj) : (s.setResultSet u n v).fld b hj lj = s.fld b hj lj := rfl
@[simp] theorem State.setResultSet_flag (s : State) (u n v) (b j) : (s.setResultSet u n v).flag b j = s.flag b j := rfl
@[simp] theorem State.setResultSet_byte (s : State) (u n v) (x) : (s.setResultSet u n v).byte x = s.byte x := rfl
@[simp] theorem State.setResultSet_read (s : State) (u n v) (x m) : (s.setResultSet u n v).read x m = s.read x m := rfl
@[simp] theorem State.setResultSet_bad (s : State) (u n v) (x m) : (s.setResultSet u n v).bad x m = s.bad x m := rfl

/-! ### Read back -/

@[simp] theorem State.setTally_tallyOf (s : State) (t v) : (s.setTally t v).tallyOf t = v := look_put_self _ _ _ _
theorem State.setTally_tallyOf_other (s : State) (t v) {u} (h : t ≠ u) : (s.setTally t v).tallyOf u = s.tallyOf u :=
  look_put_other _ _ _ _ h
@[simp] theorem State.setTile_tile (s : State) (t v) : (s.setTile t v).tile t = v := look_put_self _ _ _ _
theorem State.setTile_tile_other (s : State) (t v) {u} (h : t ≠ u) : (s.setTile t v).tile u = s.tile u :=
  look_put_other _ _ _ _ h
@[simp] theorem State.setDir_dirOf (s : State) (t v) : (s.setDir t v).dirOf t = v := look_put_self _ _ _ _
theorem State.setDir_dirOf_other (s : State) (t v) {u} (h : t ≠ u) : (s.setDir t v).dirOf u = s.dirOf u :=
  look_put_other _ _ _ _ h
@[simp] theorem State.setSeq_seq (s : State) (n v) : (s.setSeq n v).seq n = v := look_put_self _ _ _ _
theorem State.setSeq_seq_other (s : State) (n v) {m} (h : n ≠ m) : (s.setSeq n v).seq m = s.seq m :=
  look_put_other _ _ _ _ h
@[simp] theorem State.setPort_port (s : State) (p v) : (s.setPort p v).port p = v := look_put_self _ _ _ _
theorem State.setPort_port_other (s : State) (p v) {q} (h : p ≠ q) : (s.setPort p v).port q = s.port q :=
  look_put_other _ _ _ _ h
@[simp] theorem State.setLink_linkOf (s : State) (l v) : (s.setLink l v).linkOf l = v := look_put_self _ _ _ _
theorem State.setLink_linkOf_other (s : State) (l v) {m} (h : l ≠ m) : (s.setLink l v).linkOf m = s.linkOf m :=
  look_put_other _ _ _ _ h
@[simp] theorem State.setAudit_audit (s : State) (i v) : (s.setAudit i v).audit i = v := look_put_self _ _ _ _
theorem State.setAudit_audit_other (s : State) (i v) {j} (h : i ≠ j) : (s.setAudit i v).audit j = s.audit j :=
  look_put_other _ _ _ _ h
@[simp] theorem State.setFolio_folioOf (s : State) (e v) : (s.setFolio e v).folioOf e = v := look_put_self _ _ _ _
theorem State.setFolio_folioOf_other (s : State) (e v) {g} (h : e ≠ g) : (s.setFolio e v).folioOf g = s.folioOf g :=
  look_put_other _ _ _ _ h
@[simp] theorem State.setEndo_endoOf (s : State) (e v) : (s.setEndo e v).endoOf e = v := look_put_self _ _ _ _
theorem State.setEndo_endoOf_other (s : State) (e v) {g} (h : e ≠ g) : (s.setEndo e v).endoOf g = s.endoOf g :=
  look_put_other _ _ _ _ h
@[simp] theorem State.setAcct_acct (s : State) (a v) : (s.setAcct a v).acct a = v := look_put_self _ _ _ _
theorem State.setAcct_acct_other (s : State) (a v) {b} (h : a ≠ b) : (s.setAcct a v).acct b = s.acct b :=
  look_put_other _ _ _ _ h

@[simp] theorem State.setChan_chan (s : State) (d k v) : (s.setChan d k v).chan d k = v := look_put_self _ _ _ _
@[simp] theorem State.setGroup_groupOf (s : State) (d u v) : (s.setGroup d u v).groupOf d u = v := look_put_self _ _ _ _
@[simp] theorem State.setEng_eng (s : State) (u v) : (s.setEng u v).eng u = v := look_put_self _ _ _ _
@[simp] theorem State.setQueue_queueOf (s : State) (u dec v) : (s.setQueue u dec v).queueOf u dec = v := by
  unfold State.queueOf State.setQueue
  rw [State.setEng_eng]
  cases dec <;> rfl
@[simp] theorem State.setLane_laneOf (s : State) (p l v) : (s.setLane p l v).laneOf p l = v := by
  unfold State.laneOf State.setLane
  rw [State.setPort_port]
  exact look_put_self _ _ _ _

end Sys2Proof.Machine
end

