-- ==== Sys2Proof/Laws/Memory.lean ====
section
/-! SUPPORT. Memory: every memory operation keeps the canonical form, and what a byte reads after each of them. -/

namespace Sys2Proof.Machine

/-! ### The canonical form -/

theorem memWf_putBytes (bs : List Byte) : ∀ (m : List Host.Cell) (a : Nat), memWf m = true → memWf (putBytes m a bs) = true := by
  induction bs with
  | nil => intro m a h; exact h
  | cons b bs ih => intro m a h; exact ih _ _ (put_wf 0 m a b 0 (Nat.zero_le _) h)

theorem memWf_write {s : State} {a : Nat} {bs : List Byte} (h : memWf s.mem = true) : memWf (s.write a bs).mem = true :=
  memWf_putBytes bs _ _ h

theorem memWf_writeNat {s : State} {a n v : Nat} (h : memWf s.mem = true) : memWf (s.writeNat a n v).mem = true :=
  memWf_write h

theorem memWf_wipe {s : State} {p : Nat → Bool} (h : memWf s.mem = true) : memWf (s.wipe p).mem = true :=
  keepKeys_wf 0 s.mem (fun a => !p a) 0 h

theorem memWf_writeP {s : State} {a : Nat} {bs : List Byte} {q : Bool} (h : memWf s.mem = true) :
    memWf (s.writeP a bs q).mem = true := by
  unfold State.writeP
  split
  · exact memWf_write h
  · exact memWf_write h

theorem poison_putAll (l : List (Nat × Bool)) : ∀ (m : SMap Bool), smapWf false 0 m = true →
    smapWf false 0 (putAll false m l) = true := by
  induction l with
  | nil => intro m h; exact h
  | cons e l ih => intro m h; exact put_wf false _ e.1 e.2 0 (Nat.zero_le _) (ih m h)

theorem poison_write {s : State} {a : Nat} {bs : List Byte} (h : smapWf false 0 s.poison = true) :
    smapWf false 0 (s.write a bs).poison = true := keepKeys_wf false s.poison (fun g => !covers a bs.length g) 0 h

theorem poison_spoil {s : State} {a n : Nat} (h : smapWf false 0 s.poison = true) :
    smapWf false 0 (s.spoil a n).poison = true := poison_putAll _ _ h

theorem poison_wipe {s : State} {p : Nat → Bool} (h : smapWf false 0 s.poison = true) :
    smapWf false 0 (s.wipe p).poison = true := keepKeys_wf false s.poison (fun g => !p (32 * g)) 0 h

/-- Memory after reset is canonical. -/
theorem memWf_reset : memWf State.reset.mem = true := rfl

/-! ### What a byte reads -/

/-- A byte after bytes were put: theirs where they lie, what it was elsewhere. -/
theorem look_putBytes (bs : List Byte) : ∀ (m : List Host.Cell) (a x : Nat),
    look 0 (putBytes m a bs) x = if a ≤ x ∧ x < a + bs.length then bs.getD (x - a) 0 else look 0 m x := by
  induction bs with
  | nil => intro m a x; simp only [putBytes, List.length_nil]; rw [if_neg (by omega)]
  | cons b bs ih =>
    intro m a x
    rw [putBytes, ih, look_put, List.length_cons]
    by_cases h1 : a = x
    · subst h1
      rw [if_neg (by omega), if_pos rfl, if_pos (by omega), Nat.sub_self]
      rfl
    · by_cases h2 : a + 1 ≤ x ∧ x < a + 1 + bs.length
      · rw [if_pos h2, if_pos (by omega)]
        obtain ⟨n, rfl⟩ : ∃ n, x = a + 1 + n := ⟨x - (a + 1), by omega⟩
        have e1 : a + 1 + n - (a + 1) = n := by omega
        have e2 : a + 1 + n - a = n + 1 := by omega
        rw [e1, e2, List.getD_cons_succ]
      · rw [if_neg h2, if_neg h1, if_neg (by omega)]

theorem byte_write (s : State) (a x : Nat) (bs : List Byte) :
    (s.write a bs).byte x = if a ≤ x ∧ x < a + bs.length then bs.getD (x - a) 0 else s.byte x :=
  look_putBytes bs _ _ _

/-- A byte outside the bytes written reads as before. -/
theorem byte_write_other {s : State} {a x : Nat} {bs : List Byte} (h : x < a ∨ a + bs.length ≤ x) :
    (s.write a bs).byte x = s.byte x := by
  rw [byte_write, if_neg (by omega)]

/-- What was written is read back. -/
theorem read_write_self (s : State) (a : Nat) (bs : List Byte) : (s.write a bs).read a bs.length = bs := by
  apply List.ext_getElem
  · simp [State.read]
  · intro i h1 h2
    simp only [State.read, List.getElem_map, List.getElem_range]
    rw [byte_write, if_pos (by omega), Nat.add_sub_cancel_left]
    simp [h2]

/-- Bytes apart from those written read as before. -/
theorem read_write_other {s : State} {a b n : Nat} {bs : List Byte} (h : b + n ≤ a ∨ a + bs.length ≤ b) :
    (s.write a bs).read b n = s.read b n := by
  unfold State.read
  refine List.map_congr_left (fun i hi => ?_)
  have := List.mem_range.mp hi
  exact byte_write_other (by omega)

/-- A byte after part of memory was dropped. -/
theorem byte_wipe (s : State) (p : Nat → Bool) (x : Nat) : (s.wipe p).byte x = if p x then 0 else s.byte x := by
  show look 0 (keepKeys s.mem (fun a => !p a)) x = _
  rw [look_keepKeys]
  cases p x <;> rfl

end Sys2Proof.Machine
end

