-- ==== Sys2Proof/Laws/Orders.lean ====
section
/-! SUPPORT. What the issue of an order can do, said once for every order: the work runs on the state with the issue
counted, and the order is in progress afterwards, or faulted. -/

namespace Sys2Proof.Machine

/-- A first repetition is the order as it was written. -/
theorem repeated_zero (e : QEntry) : e.repeated 0 = some e.order := by simp [QEntry.repeated]

/-- What an issue makes of what its work left: the order in progress, or recorded as faulted with its signal. -/
def afterWork (u : EngUnit) (dec : Bool) (e : QEntry) (r : Done) : State :=
  if r.reason = 0 then
    let x := r.state.setEng u { r.state.eng u with flying := (r.state.eng u).flying ++ [⟨e, e.order, dec, r.ready, false⟩] }
    x.setQueue u dec (x.queueOf u dec).advance
  else
    let x := r.state.orderFault (firstJob u dec e) r.reason
    let y := x.setQueue u dec (x.queueOf u dec).advance
    y.signalAfter u dec e.order (y.everyDie u e.prog e.order)

/-- What `starts` says, part by part. -/
theorem starts_parts {s : State} {u : EngUnit} {dec : Bool} {cls op : Nat} {e : QEntry}
    (h : s.starts u dec cls op e = true) :
    s.good = true ∧ accepts u.kind cls = true ∧ s.headMay u dec = true ∧ s.contested u = false ∧
      (∃ es, (s.queueOf u dec).entries = e :: es) ∧ ordClass e.order = cls ∧ ordOp e.order = op ∧
      (s.queueOf u dec).reps = 0 ∧ e.count = 1 ∧ ordSkipK e.order = 0 ∧
      s.waitMisuse u (s.queueOf u dec) e.order = false := by
  simp only [State.starts, Bool.and_eq_true, beq_iff_eq, Bool.not_eq_true'] at h
  obtain ⟨⟨⟨⟨⟨⟨⟨⟨⟨⟨a, b⟩, c⟩, d⟩, f⟩, g⟩, i⟩, j⟩, k⟩, l⟩, m⟩ := h
  refine ⟨a, b, c, d, ?_, g, i, j, k, l, m⟩
  cases hq : (s.queueOf u dec).entries with
  | nil => rw [hq] at f; cases f
  | cons x es => rw [hq] at f; injection f with f; exact ⟨es, by rw [f]⟩

/-- An entry that starts issues: its work runs on the state with the issue counted. -/
theorem issue_starts {s : State} {u : EngUnit} {dec : Bool} {cls op : Nat} {e : QEntry} {work : Job → State → Done}
    (h : s.starts u dec cls op e = true) :
    s.issue u dec cls op work = afterWork u dec e (work (firstJob u dec e) (s.bump (issueCounter u dec) 1)) := by
  obtain ⟨_, _, may, quiet, ⟨es, hq⟩, hc, ho, hr, hn, hk, hw⟩ := starts_parts h
  unfold State.issue
  rw [hq]
  dsimp only
  rw [if_pos ⟨hc, ho, may, .inl quiet⟩]
  unfold State.issueHead State.noteContest
  simp only [quiet, hw, hr, State.predicate, hk, repeated_zero, if_true, Bool.false_eq_true, if_false, Nat.lt_irrefl,
    decide_false, Bool.or_false, Option.getD_some, Option.isNone_some]
  rfl

/-- A queue's head may issue only while nothing holds it. -/
theorem starts_free {s : State} {u : EngUnit} {dec : Bool} {cls op : Nat} {e : QEntry}
    (h : s.starts u dec cls op e = true) :
    (s.queueOf u dec).arrive = none ∧ (s.queueOf u dec).hold = false ∧ EngUnit.ok u = true ∧
      s.coreRuns (u.die.val / 2) = true := by
  obtain ⟨_, _, may, _, ⟨es, he⟩, _⟩ := starts_parts h
  unfold State.headMay at may
  unfold State.queueOf at he ⊢
  dsimp only at may
  rw [he] at may
  simp only [Bool.and_eq_true, Option.isNone_iff_eq_none, Bool.not_eq_true'] at may
  exact ⟨may.1.1.1.1.2, may.1.1.1.1.1.2, may.1.1.1.1.1.1.2, may.1.1.1.1.1.1.1⟩

theorem queue_setQueue (g : EngState) (dec : Bool) (q : Queue) : (g.setQueue dec q).queue dec = q := by
  cases dec <;> rfl

theorem setQueue_setQueue (g : EngState) (dec : Bool) (q r : Queue) :
    (g.setQueue dec q).setQueue dec r = g.setQueue dec r := by cases dec <;> rfl

/-- An order whose work is sound and leaves the queues is in progress, off the head of its queue, and counted. -/
theorem issue_issued {s : State} {u : EngUnit} {dec : Bool} {cls op : Nat} {e : QEntry} {work : Job → State → Done}
    (h : s.starts u dec cls op e = true)
    (hr : (work (firstJob u dec e) (s.bump (issueCounter u dec) 1)).reason = 0)
    (hq : (work (firstJob u dec e) (s.bump (issueCounter u dec) 1)).state.queues = s.queues)
    (hc : (work (firstJob u dec e) (s.bump (issueCounter u dec) 1)).state.reg (issueCounter u dec) =
      (s.bump (issueCounter u dec) 1).reg (issueCounter u dec)) :
    issued u dec e (work (firstJob u dec e) (s.bump (issueCounter u dec) 1)).ready s (s.issue u dec cls op work) := by
  obtain ⟨_, _, _, _, ⟨es, he⟩, _, _, reps, hn, _, _⟩ := starts_parts h
  obtain ⟨free, _⟩ := starts_free h
  rw [issue_starts h]
  generalize work (firstJob u dec e) (s.bump (issueCounter u dec) 1) = r at *
  unfold afterWork
  rw [if_pos hr]
  have eng : r.state.eng u = s.eng u := by unfold State.eng; rw [hq]
  have adv : (s.queueOf u dec).advance = (s.queueOf u dec).rest := by
    generalize s.queueOf u dec = q at *
    obtain ⟨entries, reps', skip, hold, stepped, arrive⟩ := q
    dsimp only at he reps free
    subst he reps free
    simp [Queue.advance, Queue.rest, hn]
  constructor
  · simp only [State.setQueue, State.queueOf, State.setEng_eng, eng]
    unfold State.setEng
    dsimp only
    rw [put_put, hq]
    · have : ({ s.eng u with flying := (s.eng u).flying ++ [⟨e, e.order, dec, r.ready, false⟩] } : EngState).queue dec =
          s.queueOf u dec := by cases dec <;> rfl
      rw [this, adv]
      rfl
    · intro x
      have := congrArg EngState.flying x
      simp [EngState.idle] at this
  · have e1 : r.state.reg (issueCounter u dec) = BitVec.ofNat 64 (Nat.min ((s.reg (issueCounter u dec)).toNat + 1) (2 ^ 64 - 1)) := by
      rw [hc]; exact reg_setReg_self
    show (r.state.reg (issueCounter u dec)).toNat = _
    rw [e1, BitVec.toNat_ofNat, Nat.mod_eq_of_lt (Nat.lt_of_le_of_lt (Nat.min_le_right _ _) (by decide))]

end Sys2Proof.Machine
end

