-- ==== Sys2Proof/Tests/Slice0.lean ====
section
/-! SUPPORT. Checks of the model on small states, and for every statement states and operands that meet its hypotheses. -/

namespace Sys2Proof.Tests
open Sys2Proof Sys2Proof.Machine

-- One theorem at a time: each waits for the kernel, and together they would hold many threads.
set_option Elab.async false

/-! ### Small states -/

/-- The PFs of the two ports. -/
def w0 : Src := ⟨0, 0⟩
def w1 : Src := ⟨1, 0⟩

/-- North is senior and the halves are in contact (R431, R433): port 0 holds the Warrant. -/
def lead : State :=
  ((State.reset.setFlag (STW_STAT 0) 31 true).setFlag (STW_STAT 0) 28 true).setFlag (STW_STAT 1) 28 true

/-- Both halves released (R442), every PLL locked (R46). -/
def running : State :=
  let s := lead.setReg GLB_CLKSTAT 0xFFFF
  { s with rst := { s.rst with pwrgd := true, rows := [(0, 7), (1, 7)], arbitrated := true } }

/-- A state whose boot is in a phase. -/
def inPhase (s : State) (p : Nat) : State := s.setFld RST_BOOT 29 26 p

/-- What a command's outcome holds, `d` where it answers no next state. -/
def after {α : Type} (d : α) (i : Instr) (s : State) (f : State → α) : α :=
  match exec i s with
  | .next t => f t
  | _ => d

/-- An order word: class, opcode and the rest of its fields as R214 places them. -/
def ordOf (cls op low : Nat) : BitVec 128 := BitVec.ofNat 128 (cls * 2 ^ 124 + op * 2 ^ 120 + low)

/-- A one-time queue entry of program 0. -/
def once (o : BitVec 128) : QEntry := ⟨o, 1, BitVec.ofNat 64 (8191 * 2 ^ 39)⟩

/-- A state with one entry at a queue of a unit. -/
def withHead (s : State) (u : EngUnit) (dec : Bool) (e : QEntry) : State :=
  s.setQueue u dec { Queue.empty with entries := [e] }

def assay0 : EngUnit := ⟨0, .assay, 0⟩
def attn0 : EngUnit := ⟨0, .attn, 0⟩
def vec0 : EngUnit := ⟨0, .vec, 0⟩
def dma0 : EngUnit := ⟨0, .dma, 0⟩

/-! ### Well-formedness: every check refuses -/

def cw : Codeword := ⟨List.replicate 32 0, List.replicate 4 0⟩
def cmd (gran : BitVec 8) : ClrCmd := ⟨0, 0, 0, 0, gran, 0, 0, 0, 0, 0, 0⟩
def flit0 : Flit := ⟨0, 0, false, 0, 0, true, true, 0, false, []⟩

theorem test_wf_units : Instr.wf (.skipEntry ⟨0, .vec, 24⟩ false) = false ∧ Instr.wf (.strikeSlice ⟨0, .assay, 512⟩ false) = false ∧
    Instr.wf (.strikeSlice attn0 false) = false ∧ Instr.wf (.attendFwd vec0 false) = false ∧
    Instr.wf (.vecAdd dma0 true) = false ∧ Instr.wf (.move assay0 true) = false ∧
    Instr.wf (.tallyInc ⟨0, .attn, 48⟩ false) = false ∧ Instr.wf (.quiesceWrite w0 (.unit ⟨0, .dma, 64⟩) true) = false := by decide
theorem test_wf_hosts : Instr.wf (.tellerSlotWrite w0 0 [] true) = false ∧ Instr.wf (.tellerSlotWrite w0 (2 ^ 20) [0] true) = false ∧
    Instr.wf (.bar4Write w0 0 [] true) = false ∧ Instr.wf (.bar4Read w0 0 0) = false ∧ Instr.wf (.bar4Read w0 0 4097) = false ∧
    Instr.wf (.hostCompletion 0 0 [] true) = false ∧ Instr.wf (.registerWrite w0 2 false 0) = false ∧
    Instr.wf (.registerWrite w0 4 true 0) = false ∧ Instr.wf (.registerWrite w0 0 false (2 ^ 32)) = false ∧
    Instr.wf (.registerWrite w0 (2 ^ 26) false 0) = false := by decide
theorem test_wf_fabric : Instr.wf (.flitReceive 0 { flit0 with credit := 1025 }) = false ∧
    Instr.wf (.flitReceive 0 { flit0 with cmds := [(cmd 1, [⟨[], []⟩])] }) = false ∧
    Instr.wf (.clrWrite 0 (cmd 2) [cw]) = false ∧ Instr.wf (.clrReadResponse 0 (cmd 0) []) = false ∧
    Instr.wf (.clrWrite 0 (cmd 1) [cw]) = true := by decide
theorem test_wf_numbers : Instr.wf (.queueEntryEnqueue 0 0 65536 0) = false ∧ Instr.wf (.queueEntryEnqueue 0 0 0 8192) = false ∧
    Instr.wf (.programCommand 0 0 ⟨0, false, 2 ^ 38, 0, none⟩) = false ∧
    Instr.wf (.auditBurstDone 0 ⟨0, 0, 0, false, [], []⟩) = false ∧
    Instr.wf (.auditBurstDone 4 ⟨0, 0, 0, false, [0], []⟩) = false ∧
    Instr.wf (.endoRecheck 262144) = false ∧ Instr.wf (.endoFetchComplete 262144 true []) = false ∧
    Instr.wf (.prefetchComplete 0 4096 true []) = false := by decide
/-- A shard has at most 4 MiB (R308). -/
theorem test_wf_shard (data : List Byte) (h : 2 ^ 22 < data.length) : Instr.wf (.shardArrival 0 data false) = false :=
  decide_eq_false (Nat.not_le.mpr h)
/-- A plane row has 1,024 cells (R124). -/
theorem test_wf_stuck (l : List (Fin 1024 × BitVec 4)) (h : 1024 < l.length) : Instr.wf (.programRowDone 0 0 0 l) = false :=
  decide_eq_false (Nat.not_le.mpr h)

/-! ### The statements' hypotheses are met -/

theorem witness_EmptyQueueIsOneTick : State.reset.pending = [] ∧ State.reset.senior ≠ some 1 ∧
    (State.reset.setFlag (STW_STAT 1) 31 true).senior = some 1 ∧ State.reset.contact = false ∧
    (lead.contact = true ∧ lead.time.slewDiff = 0) := by decide
theorem witness_StepKeepsGoodState : State.reset.good = true ∧
    (match step { State.reset with pending := [.thermalTrip] } with | .next t => t.good | _ => false) = true := by decide
theorem witness_CommandStaysInFootprint : after false .thermalTrip State.reset (fun t => t.power.thermTrip) = true ∧
    StatePart.regs ∉ footprint .thermalTrip := by decide
theorem witness_CountersNeverWrap : ({ State.reset with tallies := [(0, ⟨1, 0x7FFFFFFF, 0, 0, 0, false⟩)] }).tallies.all
    (fun e => e.2.kind == tallyCounter && decide (0 ≤ e.2.value ∧ e.2.value ≤ 0x7FFFFFFF)) = true := by decide
theorem witness_DestroyedIdentityAndUsedCountersStay :
    let s : State := { State.reset with mram := { Mram.supplied with fuseBlown := true, seed := false, ownerCounter := some 7 } }
    s.mram.fuseBlown = true ∧ s.mram.seed = false ∧ s.mram.ownerCounter = some 7 ∧
      after none .thermalTrip s (fun t => t.mram.ownerCounter) = some 7 := by decide
theorem witness_SwapsRearrangeUnits : (4 ≤ (⟨0, 0, 512, 16, 0, 0, 0, 0⟩ : Desc).swap) ∧ (0 < (⟨0, 8⟩ : Burst).len) := by decide
theorem witness_BlocksUnpackWhatWasPacked : (List.replicate 32 (-1 : Int)).length = 32 ∧
    (∀ e ∈ List.replicate 32 (-1 : Int), e = -1 ∨ e = 1) ∧ (∀ e ∈ List.replicate 32 (-127 : Int), -(2 ^ 7 - 1) ≤ e ∧ e ≤ 2 ^ 7 - 1) ∧
    (dbUnpack 8 (dbPack 8 (List.replicate 32 (-127)))).1 = List.replicate 32 (-127) := by decide
theorem witness_ResetsLeaveResetValues : lead.good = true ∧ lead.holder w0 = true ∧ lead.contact = true ∧
    lead.anyHeld = false := by decide
theorem witness_DecommissioningSequence :
    let armed : State := { lead with rst := { lead.rst with armedAt := some 0 } }
    let swept : State := { lead with rst := { lead.rst with decommissioning := true } }
    (lead.anyLive = false) ∧ (({ armed with time := { armed.time with north := 100000 } } : State).now - 0).toNat ≤ 100000 ∧
      swept.good = true ∧ swept.mram.sweepPending = false ∧ swept.mram.destroyPending = false ∧
      swept.rst.decommissioning = true := by decide
theorem witness_ReleaseOrderAndContact :
    let one := inPhase { lead with rst := { lead.rst with pwrgd := true } } 1
    State.reset.good = true ∧ State.reset.rst.pwrgd = false ∧
      (one.phase = rowPhase (one.rowsOf 0 + 1) ∧ one.rowsOf 0 < 7 ∧ rowLocks 1 &&& 0x08 = rowLocks 1 ∧ one.flag GLB_PINS 10 = false) ∧
      (one.good = true ∧ one.phase ≠ 0) ∧
      ((inPhase running 3).good = true ∧ (inPhase running 3).phase = 3 ∧ (inPhase running 3).rowsDone 4 = true) ∧
      ((inPhase running 4).phase = 4 ∧ (inPhase running 4).rowsDone 7 = true) ∧ 1 ≤ running.rowsOf 1 ∧
      ({ lead with time := { lead.time with north := 5 } }).counter 0 ≠ 0 ∧ lead.held 0 = false ∧
      State.reset.rst.arbitrated = false := by decide
theorem witness_WarrantAndFirmwareUpdates :
    let away : State := { lead with time := { lead.time with north := 1000000000 } }
    let busy := lead.setFlag (STW_FWCTL 0) 31 true
    (lead.senior = some 0 ∧ w1.fn = 0 ∧ w1.port.val ≠ 0) ∧ (lead.holderAway 0 = false ∧ away.holderAway 0 = true) ∧
      lead.serve.heldPost = none ∧ lead.flag (STW_FWCTL 0) 31 = false ∧ lead.fld (STW_FWCTL 0) 23 0 = 0 ∧
      (lead.setFld (STW_FWCTL 0) 23 0 1).fld (STW_FWCTL 0) 23 0 = 1 ∧ busy.good = true ∧
      busy.flag (STW_FWCTL 0) 31 = true := by decide
theorem witness_PowerRequestsAreFollowed :
    let asleep : State := { lead with power := { lead.power with asleep := true } }
    lead.holder w0 = true ∧ (512 : BitVec 10).toNat ≤ 512 ∧ ¬(513 : BitVec 10).toNat ≤ 512 ∧ asleep.good = true ∧
      asleep.power.asleep = true ∧ asleep.fld GLB_PWR 29 28 = 0 := by decide
theorem witness_TripPinAndLockFaults :
    running.good = true ∧ 1 ≤ running.rowsOf 0 ∧ running.flag GLB_PINS 9 = false ∧ running.flag GLB_CLKSTAT 15 = true ∧
      ({ running with mram := { running.mram with levels := 0 } }).mram.levels = 0 ∧
      lead.flag GLB_CLKSTAT 15 = false := by decide
/-- Each level of source 0 alone, by its two bits of the levels. -/
theorem witness_AlarmActsAtHighestLevel :
    (∀ v : Fin 4, ({ lead with mram := { lead.mram with levels := BitVec.ofNat 12 v.val } } : State).alarmLevel 0 = v.val) ∧
      sourcesOf 1 = [0] ∧ lead.mram.destroyPending = false ∧
      (∀ k, k < 6 → lead.flag SEC_ALARM (16 + k) = true → lead.alarmLevel k = 0) ∧
      (∀ k, k < 6 → lead.alarmLevel k ≤ nbits (0xFFF : BitVec 12).toNat (2 * k + 1) (2 * k)) ∧
      nbits (0 : BitVec 12).toNat 1 0 < lead.alarmLevel 0 := by decide
theorem witness_OwnerCommands :
    w0.fn = 0 ∧ lead.flag (SEC_MBCTL 0) 31 = false ∧ lead.ownerResult w0 1 [] ≠ 1 ∧ lead.holder w1 = false ∧
      (({ lead with mram := { lead.mram with ownerCounter := some 7 } } : State).mram.ownerCounter = some 7 ∧ fieldB [] 7 4 ≤ 7) := by decide
theorem witness_AttestationAndDebug :
    let asked := (lead.setFlag (SEC_MBCTL 0) 31 true).setFld (SEC_MBCTL 0) 29 28 1
    (asked.good = true ∧ asked.flag (SEC_MBCTL 0) 31 = true ∧ asked.fld (SEC_MBCTL 0) 29 28 = 1) ∧ lead.identity = true ∧
      ({ lead with mram := { lead.mram with seed := false } }).identity = false ∧ lead.holder w0 = true ∧
      lead.fld SEC_DBG 7 0 < 2 ∧ tapAlways .bypass = true ∧ lead.fld SEC_STAT 27 26 = 0 := by decide

/-- A ring that is enabled with 64 entries, one entry in it. -/
def ringed : State := (lead.setFlag (TLR_RCFG 0 3) 31 true).setFld (TLR_RPTR 0 3) 15 0 1

/-- A state whose lane 3 of port 0 is as given. -/
def withLane (s : State) (l : Lane) : State := s.setLane 0 3 l

theorem witness_TellerTakesTickets :
    let full : TSlot := ⟨(List.range 64).map (fun i => (i, some 0)), true⟩
    let s := withLane lead { Lane.empty with slots := [(0, full)] }
    (w0.fn = 0 ∧ (3 : Nat) < 32 ∧ ((lead.laneOf 0 3).slot 0) = TSlot.empty ∧
        leNat ((List.replicate 64 (0 : Byte)).drop 60) = lead.stampOf 0 3) ∧ (0 + 64 ≤ bar2Size 0) ∧
      (s.good = true ∧ ((s.laneOf 0 3).slot 0).latched = true ∧ (s.port 0).intake.length < 4096 ∧ (s.laneOf 0 3).backlog = []) ∧
      lead.mayLane w0 255 = true := by decide
theorem witness_RingsWindowsAndMessages :
    let q : PortState := { lead.port 0 with masked := [(5, false)], windows := [(1, ⟨0, 0, 1, 0, 3⟩)] }
    let s : State := (withLane { ringed with ports := [(0, q)] } { Lane.empty with unsaid := 1 })
    (ringed.good = true ∧ ringed.mayLane w0 3 = true ∧ (ringed.laneOf 0 3).backlog = [] ∧ ringed.ringSize 0 3 = 64 ∧
        (1 + 64 - ringed.fld (TLR_RPTR 0 3) 31 16 % 64) % 64 ≤ (ringed.fld (TLR_RPTR 0 3) 15 0 + 64 - 0) % 64 ∧
        ¬(2 + 64 - 0) % 64 ≤ (ringed.fld (TLR_RPTR 0 3) 15 0 + 64 - 0) % 64) ∧
      (lead.flag (TLR_RCFG 0 255) 31 = false ∧ nbits 0xD0000000 30 27 ≤ 10 ∧ nbit 0xD0000000 31 = true) ∧
      (∃ e ∈ (s.port 0).windows, e.1 ≠ 0 ∧ e.2.overlaps ((s.window 0 0).patch 4 1) = true) ∧
      ((lead.window 0 0).patch 4 1 ≠ HostWin.none) ∧
      (0 < (s.laneOf 0 3).unsaid ∧ s.flag (TLR_RCFG 0 3) 31 = true) ∧
      (look true (s.port 0).masked (msixKey 0 5) = false ∧ look true (s.port 0).masked (msixKey 0 0) = true) := by decide
theorem witness_VaultApertureWritesAndReads :
    lead.good = true ∧ lead.holder w0 = true ∧ lead.holder w1 = false ∧ offVault (lead.bar4Addr 0 0) 512 = false ∧
      offVault (stagedSlot - 512) 512 = false ∧ offVault (stagedSlot - 511) 512 = true ∧ offVault (postedSlot + 2 ^ 28) 512 = false ∧
      offVault (vaultSize - 1) 1 = false ∧ offVault (vaultSize - 1) 2 = true := by decide
theorem witness_PortResetsKeepTheIntake :
    running.good = true ∧ running.portChannels 1 = [] ∧ (running.port 1).perst = false ∧ running.flag (HPT_LINK 1) 31 = false ∧
      3 ≤ running.rowsOf 1 ∧ (running.port 1).lanes = [] ∧ running.identity = true ∧ running.laneFn 1 255 = 0 := by decide
theorem witness_RegisterWritesReachTheirRegister :
    lead.bar0Size w0 < 2 ^ 26 - 4 + 8 ∧ (2 ^ 26 - 4) + 4 ≤ lead.bar0Size w0 ∧ (6 : Nat) % 4 ≠ 0 ∧ w0.fn = 0 ∧
      lead.bar0Size ⟨0, 32⟩ = 0 := by decide

/-! A posted Charter's sections stand in its slot (R445): type, offset and length in the table, each 4 KiB after the last. -/

/-- Bytes from a key on, as memory lists them. -/
def cells (a : Nat) (bs : List Byte) : List Host.Cell :=
  bs.zipIdx.filterMap (fun e => if e.1 = 0 then none else some (a + e.2, e.1))

/-- The posted slot with sections: type and bytes, types rising. -/
def sections (l : List (Nat × List Byte)) : List Host.Cell :=
  l.flatMap (fun e => cells (postedSlot + 64 + 16 * (e.1 - 1)) (natLe 2 e.1 ++ natLe 2 0 ++ natLe 4 (4096 * e.1) ++ natLe 4 4096)) ++
    l.flatMap (fun e => cells (postedSlot + 4096 * e.1) e.2)

/-- An operand's 16 bytes (R76). -/
def opBytes (die granule fmt len : Nat) : List Byte :=
  natLe 4 (die * 2 ^ 22 + granule) ++ natLe 4 fmt ++ natLe 4 len ++ natLe 4 0

/-- Program 0 on die 0: one template entry at granule 1, operands from granule 2, parameters at 8, rows at 16, status entries at
32, endorsement slots at 64 (R229). -/
def program0 : Nat × List Byte :=
  (secPrograms, List.replicate 16 0 ++ natLe 4 64 ++ natLe 4 64 ++ List.replicate 40 0 ++ natLe 2 0 ++ natLe 2 1 ++ natLe 4 1 ++ natLe 4 2 ++
    natLe 4 8 ++ natLe 4 16 ++ natLe 4 32 ++ natLe 4 64)

/-- The device at work under a Charter with these sections, Till beginning with operands 0, 1, … of program 0 and then as given. -/
def serving (secs : List (Nat × List Byte)) (ops : List (List Byte)) (more : List Host.Cell) : State :=
  let s := running.setFlag RST_BOOT 31 true
  { s with serve := { s.serve with posted := true }, mem := sections secs ++ cells (till 0 64) ops.flatten ++ more }

/-- The device with program 0. -/
def served : State := serving [program0] [] []

/-- The state with the template entry: an order, its target word and its count (R230). -/
def withTemplate (s : State) (o : BitVec 128) (target count : Nat) : State :=
  s.write (till 0 32) (natLe 16 o.toNat ++ natLe 2 target ++ natLe 2 count)

theorem test_served : served.good = true ∧ served.progHdr 0 0 3 2 = 1 ∧ served.progHdr 0 0 11 8 = 2 := by decide +kernel

/-- A state whose only order is at the prefill queue of a unit. -/
def headed (u : EngUnit) (o : BitVec 128) : State := withHead served u false (once o)

/-- May the one order start there? -/
def startsAt (s : State) (u : EngUnit) (cls op : Nat) (o : BitVec 128) : Bool :=
  (withHead s u false (once o)).starts u false cls op (once o)

def counterT (v : Int) : Tally := ⟨tallyCounter, v, 0, 0, 0, false⟩
def barrierT (v : Int) (parts : Nat) : Tally := ⟨tallyBarrier, v, 0, parts, 0, false⟩
/-- A state with Tally 5. -/
def withTally (s : State) (y : Tally) : State := s.setTally 5 y
/-- TALLY orders on Tally 5 with value 1. -/
def tallyOrd (op : Nat) : BitVec 128 := ordOf 6 op (5 * 2 ^ 42 + (if op < 2 then 2 ^ 26 else 0))

theorem witness_QueuesTakeAndSkipEntries :
    let wait := ordOf 6 3 0
    let s := withTemplate served wait (3 * 512) 4095
    let bad := withTemplate served (ordOf 15 0 0) (3 * 512) 1
    let te := s.read (till 0 (32 * s.progHdr 0 0 7 4)) 32
    (s.good = true ∧ EngUnit.ok dma0 = true ∧ (0 : Nat) < s.progHdr 0 0 3 2 ∧ nbit (fieldB te 19 18) 12 = false ∧
        (s.targetUnit 0 (fieldB te 17 16)).map Prod.fst = some dma0 ∧ fieldB te 19 18 % 4096 = 4095 ∧ byteAt te 28 < 128 ∧
        byteAt te 31 < 128 ∧ (s.queueOf dma0 false).entries.length < 256 ∧ s.refusal dma0 0 wait = none) ∧
      (bad.refusal dma0 0 (ordOf 15 0 0) = some reasonReserved) ∧
      (let q : Queue := { Queue.empty with entries := [once wait, once (ordOf 9 0 0)], skip := 1 }
       let z := served.setQueue dma0 false q
       z.good = true ∧ (z.queueOf dma0 false).entries = [once wait, once (ordOf 9 0 0)] ∧ ordClass (once wait).order ≠ 9 ∧
         ordClass (once (ordOf 9 0 0)).order = 9 ∧ ordSigInc wait = 0 ∧ (once wait).count = 1) ∧
      (let f := ordOf 6 3 (2 ^ 56)
       ordSigInc f ≠ 0 ∧ served.everyDie dma0 0 f = false) := by decide +kernel
theorem witness_queueFull :
    256 ≤ ((served.setQueue dma0 false { Queue.empty with entries := List.replicate 256 (once 0) }).queueOf dma0 false).entries.length := by
  decide +kernel
theorem witness_CountersAndBarriers :
    let inc := withTally served (counterT 0x7FFFFFFE)
    let dec := withTally served (counterT 0)
    startsAt inc dma0 6 0 (tallyOrd 0) = true ∧ startsAt dec dma0 6 1 (tallyOrd 1) = true ∧
      ((inc.tallyOf 5).kind = tallyCounter ∧ (inc.tallyOf 5).value + ordBody (tallyOrd 0) 41 26 ≤ 0x7FFFFFFF) ∧
      ((dec.tallyOf 5).value - ordBody (tallyOrd 1) 41 26 < 0) ∧ (served.tallyOf 5).kind ≠ tallyCounter ∧
      startsAt served dma0 6 2 (tallyOrd 2) = true ∧
      (let b := withTally served (barrierT 2 2)
       b.good = true ∧ (b.tallyOf 5).kind = tallyBarrier ∧ 1 ≤ (b.tallyOf 5).parts ∧ (b.tallyOf 5).value = (b.tallyOf 5).parts ∧
         b.queues = []) ∧
      (let q : Queue := { Queue.empty with entries := [once (tallyOrd 2)], reps := 1, arrive := some (5, 0) }
       let b : State := { (withTally served (barrierT 0 2)).setQueue dma0 false q with signals := [⟨5, 0, some 0, dma0, false⟩] }
       (b.queueOf dma0 false).entries = [once (tallyOrd 2)] ∧ (b.tallyOf 5).round = 0 ∧
         (b.tallyOf 5).value + 1 < (b.tallyOf 5).parts) := by decide
theorem witness_MarksActOnTheirQueue :
    startsAt served dma0 6 3 (ordOf 6 3 0) = true ∧ startsAt served vec0 9 1 (ordOf 9 1 0) = true ∧
      startsAt served assay0 9 0 (ordOf 9 0 0) = true ∧ startsAt served attn0 9 2 (ordOf 9 2 0) = true := by decide
theorem witness_CompletionAndWatchdog :
    let o := ordOf 6 3 (2 ^ 56)
    let f : InFlight := ⟨once o, o, false, true, false⟩
    let a : InFlight := ⟨once (tallyOrd 2), tallyOrd 2, false, true, false⟩
    let s := served.setEng dma0 { EngState.idle with flying := [f] }
    let w := withHead (withTally served (counterT 0)) dma0 false (once (ordOf 6 3 (5 * 2 ^ 84 + 2 ^ 74)))
    (s.good = true ∧ (s.eng dma0).flying.find? (fun f => f.decode == false && f.ready) = some f ∧ EngUnit.ok dma0 = true ∧
        ordSigInc o ≠ 0) ∧
      ((served.setEng dma0 { EngState.idle with flying := [a] }).eng dma0).flying.find? (fun f => f.decode == false && f.ready) = some a ∧
      (w.good = true ∧ w.waiting dma0 (w.queueOf dma0 false) (ordOf 6 3 (5 * 2 ^ 84 + 2 ^ 74)) = true ∧
        (w.queueOf dma0 false).arrive = none) := by decide

/-- A weight tile of 64 rows and 128 columns whose Bank A holds epoch 1, in a state. -/
def d0 (st : BitVec 8) : DirEntry :=
  { DirEntry.unused with role := 1, segs := 1, cols := 128, aux := 0x10000, master := 16, stateA := st, epochA := 1 }

/-- Tile 0 of the die at work: operand 0 is a DB8 vector of 64 elements. -/
def tiled (st : BitVec 8) : State := (serving [program0] [opBytes 0 128 7 64] []).setDir 0 (d0 st)

def strikeOrd (cls op : Nat) : BitVec 128 := ordOf cls op (2 ^ 34)

/-- A slice with nothing left to strike. -/
def slice0 (k : SliceKind) : Slice :=
  { kind := k, decode := false, bank := false, set := 0, row := 0, width := 8, ds := 127, aligned := [], struck := [], withheld := [],
    carry := [], digSegs := [], slots := [], strikes := [], running := none, acc := [], weight := [], sat := [], digital := [],
    convs := [], spot := false, stale := false, split := false, poisoned := false, mirrorMiss := false, trims := [], paired := false }

/-- Tile `t` with a slice. -/
def sliced (t : Nat) (x : Slice) : State := (tiled 4).setTile t { Tile.idle with slice := some x }

def part0 : Part := ⟨7, 0, [0, 1], none, 2⟩

theorem witness_StrikesBeginTheirSlices :
    startsAt (tiled 4) assay0 0 0 (strikeOrd 0 0) = true ∧ startsAt (tiled 2) assay0 0 1 (strikeOrd 0 1) = true ∧
      startsAt (tiled 4) assay0 1 0 (strikeOrd 1 0) = true ∧
      (let s := tiled 4
       let j := firstJob assay0 false (once (strikeOrd 0 0))
       strikeTile assay0 (strikeOrd 0 0) = 0 ∧ (s.dirOf 0).epoch false = BitVec.ofNat 16 (j.body 49 34) ∧
         bankStrikes false ((s.dirOf 0).state false) = true ∧ s.mateOf 0 = none ∧ s.surplusBad 0 = false ∧
         inTill (s.opGranule j (s.opnd j 0) 0) (s.opnd j 0).fmt (s.opnd j 0).len = true) ∧
      bankStrikes false ((tiled 2).dirOf 0 |>.state false) = false ∧ bankStrikes true ((tiled 4).dirOf 0 |>.state false) = false := by
  decide +kernel
theorem witness_PlanesAndCodes : (∀ lsb, lsb ≠ (0 : Nat) → (0 : Int).natAbs * 255 ≤ 254 * lsb) ∧
    (planForward 64 8 64 (List.replicate 64 (-1)) (0, 1) ⟨[], 0, 0⟩).strikes.length = 8 := by
  exact ⟨fun _ _ => Nat.zero_le _, by decide +kernel⟩
theorem witness_GovernorAndOverRange :
    let s := sliced 0 { slice0 .order with strikes := [part0] }
    let r := sliced 0 { slice0 .order with running := some [part0] }
    (s.tiles = [(0, { Tile.idle with slice := some { slice0 .order with strikes := [part0] } })] ∧ tileMint 0 = 0 ∧
        s.groupStrikes 0 = true) ∧ (r.tile 0).slice = some { slice0 .order with running := some [part0] } ∧
      0 < s.ceiling 0 := by decide +kernel
theorem witness_SliceEndsAndMirrors :
    let s := sliced 0 (slice0 .order)
    let mx := { slice0 .order with paired := true, acc := [(3, 2 ^ 28)] }
    let my := { slice0 .mirror with acc := [] }
    let z : State := { sliced 0 mx with mem := sections [(secMirror, [1])] }
    let m := (z.setDir 0 { d0 4 with partner := 0x8010 }).setTile 16 { Tile.idle with slice := some my }
    ((s.tile 0).slice = some (slice0 .order) ∧ (slice0 .order).ended = true ∧ (slice0 .order).paired = false) ∧
      ({ slice0 .order with strikes := [part0] } : Slice).ended = false ∧
      (m.mateOf 0 = some 16 ∧ (m.tile 0).slice = some mx ∧ (m.tile 16).slice = some my ∧ (m.tile 0).partnerAcc = none ∧
        mx.ended = true ∧ my.ended = true ∧ m.permanent 0 = false ∧ 3 ∈ convertedLines (m.dirOf 0) false ∧
        mirrorApart mx my 3 = true) := by decide +kernel
theorem witness_permanentMirror :
    ({ sliced 0 (slice0 .order) with log := { Log.empty with fenced := [(dieMint 0, blkTile, 0)] } }).permanent 0 = true := by decide +kernel
/-- Set column 0 of tile 0 holds level 0; a conversion of 2 for no row's sum fails its bound, one of 0 does not. -/
theorem witness_SpotAssays :
    let v (c : Int) : Conv := ⟨0, c, false, 0, [0]⟩
    let x (c : Int) : Slice := { slice0 .order with spot := true, convs := [v c], trims := [0] }
    let s := sliced 0 (x 2)
    ((s.tile 0).slice = some (x 2) ∧ s.good = true) ∧ (s.setPhase 0 + 128 * 0 < (s.dirOf 0).colsUsed) ∧
      ((s.dirOf 0).colsUsed ≤ s.setPhase 0 + 128 * 1) ∧ spotFails (s.dirOf 0) false (s.spotResid 0 (x 2) 0 (v 2)).2 = true ∧
      spotFails (s.dirOf 0) false (s.spotResid 0 (x 0) 0 (v 0)).2 = false ∧
      ((tiled 4).setTile 0 { Tile.idle with burst := 1 } |>.tile 0).burst = 1 := by decide +kernel
theorem witness_AssaySetsAreChecked :
    let s := (tiled 4).write ((tiled 4).auxAt 0 11) [1]
    (s.dirOf 0).live = some false ∧ s.setState 0 = 1 ∧ ((tiled 2).dirOf 0).live = none ∧ s.now.toNat / 125000000 = s.cal.window ∧
      ({ s with cal := { s.cal with window := 1 } }).now.toNat / 125000000 ≠ 1 := by decide +kernel
theorem witness_ProgrammingLeavesItsLevels :
    let c : ProgCmd := ⟨0, false, 0, 2, none⟩
    let last := (tiled 1).setGroup 0 0 ⟨[c], 1023, 0, 0⟩
    ((tiled 0).mram.sweepPending = false ∧ (tiled 0).programRefused 0 false [] = false ∧ ((tiled 0).groupOf 0 0).queue = []) ∧
      (tiled 4).programRefused 0 false [] = true ∧ (tiled 0).programRefused 0 false [c] = false ∧
      (last.good = true ∧ last.groupOf 0 0 = ⟨[c], 1023, 0, 0⟩ ∧ last.strikeRuns 0 = true ∧
        last.bad (last.planeRow 0 c 1023) 512 = false ∧ (last.surplusWords 0).length ≤ last.surplusCap 0) ∧
      ((tiled 2).dirOf 0).state false = bankProgrammed ∧ (tiled 2).epochs.load = none ∧
      ((tiled 0).dirOf 0).state false ≠ bankProgrammed := by decide +kernel
/-- A plane row of zeros holds no code that names no level. -/
theorem witness_planeRow : ∀ b ∈ State.reset.read (keyOf 0 0) 512, b.toNat % 16 ≠ 8 ∧ b.toNat / 16 ≠ 8 := by
  intro b hb
  obtain ⟨k, -, rfl⟩ := List.mem_map.mp hb
  show (0 : Byte).toNat % 16 ≠ 8 ∧ (0 : Byte).toNat / 16 ≠ 8
  decide
/-- The sums of `n` like pairs on top of others. -/
theorem sums_replicate (a b : Int) (n : Nat) : ∀ f : FitSums,
    (List.replicate n (a, b)).foldl
      (fun f p => (⟨f.n + 1, f.s + p.2, f.c + p.1, f.ss + p.2 * p.2, f.cc + p.1 * p.1, f.sc + p.2 * p.1⟩ : FitSums)) f =
      ⟨f.n + n, f.s + b * n, f.c + a * n, f.ss + b * b * n, f.cc + a * a * n, f.sc + b * a * n⟩ := by
  induction n with
  | zero => simp
  | succ n ih =>
    intro f
    simp only [List.replicate_succ, List.foldl_cons, ih, FitSums.mk.injEq, Int.natCast_succ, Int.mul_add, Int.mul_one]
    omega

/-- 4,096 pairs of code and sum, on a line through 0. -/
def onLine (a : Int) : List (Int × Int) := List.replicate 2048 (-a, -448) ++ List.replicate 2048 (a, 448)

theorem sums_onLine (a : Int) : fitSums (onLine a) = ⟨4096, 0, 0, 822083584, a * a * 4096, 448 * a * 4096⟩ := by
  unfold fitSums onLine
  rw [List.foldl_append, sums_replicate, sums_replicate]
  simp only [FitSums.mk.injEq, Int.neg_mul, Int.mul_neg]
  omega

/-- A full-scale code at a sum of 448, the LSB of a budget of 64 being 448/255, is fitted; half that code is refused. -/
theorem witness_CalibrationAndFits :
    lead.good = true ∧ lead.holder w0 = true ∧ lead.holder w1 = false ∧
      ((lead.setDir 0 (d0 4)).benchAllowed 0 false = true ∧ ((lead.setDir 0 (d0 4)).tile 0).slice = none) ∧
      ((tiled 4).groupStrikes 0 = true ∧ lead.benchAllowed 0 false = false) ∧
      (lead.starved (d0 4) (fitSums []) = true) ∧ lead.serve.posted = false ∧
      (lead.starved (d0 4) (fitSums (onLine 255)) = false ∧ (lead.fitOf (d0 4) (fitSums (onLine 255))).accepted = true) ∧
      (lead.starved (d0 4) (fitSums (onLine 127)) = false ∧ (lead.fitOf (d0 4) (fitSums (onLine 127))).accepted = false) := by
  rw [sums_onLine, sums_onLine]; decide +kernel

/-- One layer, one head of 32 channels, a vocabulary of 4; one folio width of 8 bits, one frame of two pages, two staging slots;
sequence 0 has folio 0 Open in frame 0 (R177, R203, R330). -/
def ctx (ops : List (List Byte)) (more : List Host.Cell) : State :=
  { serving [(secLayers, List.replicate 32 0 ++ natLe 4 4 ++ List.replicate 8 0 ++ natLe 4 64 ++ List.replicate 16 0 ++ [0, 0, 1, 1]),
      program0, (secFolio, [7, 0, 1, 1, 1, 0, 0, 0] ++ natLe 2 2 ++ [0, 0, 0, 0] ++ natLe 2 2 ++ List.replicate 4 0 ++ natLe 4 0x1000 ++
        natLe 4 0x2000)] ops more with
    seqs := [(0, { Seq.fresh with st := 4, entries := 1 })], folio := [(0, { Folio.free with st := 2, frame := some 0 })] }

/-- One-time entries for row 0 of program 0. -/
def rowEntry (o : BitVec 128) : QEntry := ⟨o, 1, 0⟩

/-- Does the order start as row 0's at its unit, in a state? -/
def rowStarts (s : State) (u : EngUnit) (o : BitVec 128) : Bool :=
  (withHead s u false (rowEntry o)).starts u false (ordClass o) (ordOp o) (rowEntry o)

/-- Operands: 0 FP32 of 32 elements, 1 partial records, 2 DB8, 3 FP32 of one element, 4 DB8. -/
def wide : State :=
  ctx [opBytes 0 128 9 32, opBytes 0 256 0xC 4, opBytes 0 512 7 32, opBytes 0 640 9 1, opBytes 0 700 7 32]
    (cells (till 0 (32 * 256)) (Hoard.zero.encode 0))

def vecOrd (op a b c imm : Nat) : BitVec 128 := ordOf 4 op (a * 2 ^ 48 + b * 2 ^ 40 + c * 2 ^ 32 + imm)

theorem witness_SetsAndEndorsements :
    let read := ordOf 2 0 (2 ^ 47)
    let imp := ordOf 2 3 (2 ^ 47)
    let s := ctx [opBytes 0 128 9 32, opBytes 0 256 0xC 1, opBytes 0 512 7 32] (cells (till 0 (32 * 256)) (Hoard.zero.encode 0))
    let j := firstJob assay0 false (rowEntry read)
    rowStarts s assay0 read = true ∧ rowStarts s assay0 imp = true ∧ rowStarts s assay0 (ordOf 2 1 (2 * 2 ^ 48)) = true ∧
      rowStarts s assay0 (ordOf 2 2 0) = true ∧ destFault j (s.opnd j 1) 256 1 = 0 ∧ (s.opnd j 1).fmt = 0xC ∧
      (s.opnd j 1).allDies = false ∧ j.acc = false ∧ s.statusAt 0 0 0 + 4 ≤ till 0 (32 * 256) ∧
      (s.partialAt (till 0 (32 * 256))).isSome = true ∧ s.endoOfJob j 0 = none := by decide +kernel
/-- A row with endorsement 0 in cache entry 0: matrix 0 of layer 0, rank 8. -/
theorem witness_endorsedRow :
    let s : State := { ctx [] [] with
      cache := [(0, ⟨0, 0, 0, 1, 0⟩)], endo := [(0, { EndoEntry.empty with st := 4, rank := 8, matrices := 1, cache := some 0 })] }
    let j := firstJob assay0 false (rowEntry (ordOf 2 1 0))
    (s.endoOfJob j 0).isSome = true ∧ 32 * s.endoSlot 0 3 0 0 + 2 * 8 ≤ 2 ^ 27 := by decide +kernel
theorem witness_ForwardPassesWritePartials :
    let o := ordOf 3 0 (2 ^ 23 + 0 * 2 ^ 12 + 1 * 2 ^ 4)
    let s := withHead (ctx [opBytes 0 128 8 32, opBytes 0 256 0xC 4] []) attn0 false (rowEntry o)
    let j := firstJob attn0 false (rowEntry o)
    (s.starts attn0 false 3 0 (rowEntry o) = true ∧ s.runStaged attn0 false = true ∧ (s.runChunks j).1 = [0] ∧
        s.chunkFaults j 0 = false ∧ (s.chunkBase j 0).isSome = true ∧ s.jobQueries j = [(0, 0)] ∧ s.groupSize j = 1 ∧
        isDb (s.opnd j 0).fmt = false ∧ s.chunkInvalid j 0 0 = 0 ∧ inTill (s.opGranule j (s.opnd j 0) 0) 8 32 = true) ∧
      ({ s with folio := [] } : State).chunkFaults j 0 = true := by decide +kernel
theorem witness_BackwardPassesMarkLostRows :
    let o := ordOf 3 1 (2 ^ 23 + 0 * 2 ^ 12 + 1 * 2 ^ 4)
    let s := withHead (ctx [opBytes 0 128 8 32, opBytes 0 160 8 32, opBytes 0 192 9 1, opBytes 0 224 9 1, opBytes 0 256 0xC 32,
      opBytes 0 512 0xC 32] []) attn0 false (rowEntry o)
    let j := firstJob attn0 false (rowEntry o)
    (s.starts attn0 false 3 1 (rowEntry o) = true ∧ s.runStaged attn0 false = true ∧ (s.runChunks j).1.any (s.chunkFaults j) = false ∧
        (∀ k, k < 6 → let x := s.opnd j k; inTill (s.opGranule j x 0) x.fmt x.len = true)) ∧
      (let g : State := { s with folio := [(0, { Folio.free with st := 6 })] }
       g.chunkFaults j 0 = false ∧ g.chunkBase j 0 = none) := by decide +kernel
theorem witness_DenseLanesAreSummedAndWritten :
    let d := ordOf 3 2 (2 * 2 ^ 33)
    let w := ordOf 3 3 (2 ^ 48)
    let s := wide.setDir 0 (d0 4)
    rowStarts s attn0 d = true ∧ rowStarts s attn0 w = true ∧
      (let j := firstJob attn0 false (rowEntry d)
       inTill (s.opGranule j (s.opnd j 2) 0) (s.opnd j 2).fmt (s.opnd j 2).len = true) ∧
      (let j := firstJob attn0 false (rowEntry w)
       destFault j (s.opnd j 1) (s.opGranule j (s.opnd j 1) 0) 4 = 0 ∧ (s.opnd j 1).fmt = 0xC ∧ (s.opnd j 1).allDies = false ∧
         j.acc = false) := by decide +kernel
theorem witness_QuantAndElementwise :
    let s := wide
    let q := vecOrd 0 0 0xFF 2 0
    let j := firstJob vec0 false (rowEntry q)
    rowStarts s vec0 q = true ∧ (s.vecIn j 0).why = 0 ∧ destFault j (s.opnd j 2) 512 32 = 0 ∧ isDb (s.opnd j 2).fmt = true ∧
      s.withheldList 0 0 = [] ∧ rowStarts s vec0 (vecOrd 1 2 0xFF 0 0) = true ∧ rowStarts s vec0 (vecOrd 2 2 4 0 0) = true ∧
      rowStarts s vec0 (vecOrd 3 2 4 0 0) = true ∧ rowStarts s vec0 (vecOrd 4 2 0xFF 0 10) = true ∧
      fmtFloat (s.opnd j 0).fmt = true ∧ destFault j (s.opnd j 0) 128 32 = 0 := by decide +kernel
theorem witness_ReductionsAreExact :
    let s := wide
    let j := firstJob vec0 false (rowEntry 0)
    rowStarts s vec0 (vecOrd 5 0 0xFF 1 1) = true ∧ rowStarts s vec0 (vecOrd 5 0 0xFF 3 2) = true ∧
      rowStarts s vec0 (vecOrd 6 1 0xFF 3 1) = true ∧ destFault j (s.opnd j 1) 256 1 = 0 ∧ (s.opnd j 1).fmt = 0xC ∧
      (s.opnd j 3).fmt = 9 ∧ destFault j (s.opnd j 3) 640 2 = 0 ∧ inTill 256 0xC 1 = true ∧
      (s.partialAt ((s.vecIn j 1).at_ 0)).isSome = true := by decide +kernel
theorem witness_NormRopeAndPartials :
    let s := wide
    let j := firstJob vec0 false (rowEntry 0)
    rowStarts s vec0 (vecOrd 7 0 0 0 (3 * 2 ^ 12 + 20)) = true ∧ rowStarts s vec0 (vecOrd 8 0 0xFF 2 0) = true ∧
      rowStarts s vec0 (vecOrd 8 0 0xFF 2 1) = true ∧ rowStarts s vec0 (vecOrd 0xB 0 2 3 0) = true ∧
      rowStarts s vec0 (vecOrd 9 1 0xFF 0 1) = true ∧ rowStarts s vec0 (vecOrd 0xA 0 0xFF 0xFF 0) = true ∧
      s.groupSize j = 1 ∧ (s.vecIn j 0).why = 0 ∧ (s.vecIn j 3).why = 0 ∧ destFault j (s.opnd j 0) 128 32 = 0 := by decide +kernel
theorem witness_AppendedRowsReachTheirFolio :
    let o := ordOf 7 0 (2 * 2 ^ 48 + 4 * 2 ^ 40 + 2 ^ 20)
    let j := firstJob vec0 false (rowEntry o)
    rowStarts wide vec0 o = true ∧ rowStarts wide vec0 (ordOf 7 0 (2 ^ 119 + 2 * 2 ^ 48 + 4 * 2 ^ 40 + 2 ^ 20)) = true ∧ j.acc = false ∧
      (wide.opnd j 2).fmt + 1 = wide.folioWidth ∧ wide.appendable j 0 = true ∧ 0 < wide.geo 5 4 ∧ (wide.jobFolio j 0).frame = some 0 ∧
      wide.kvCount = 1 ∧ inTill (wide.opGranule j (wide.opnd j 4) 0) 7 32 = true := by decide +kernel
theorem witness_StagedFoliosArrive :
    let o := ordOf 7 1 0
    let x : Folio := { Folio.free with st := 5, reserve := 5 * 2 ^ 48 }
    let q : PortState := { PortState.clear with windows := [(0, ⟨0, 0, 0x100, 0, 3⟩)] }
    let s := withHead ({ wide with folio := [(0, x)], ports := [(0, q)] }.setFlag (HPT_LINK 0) 31 true) vec0 false (rowEntry o)
    let j := firstJob vec0 false (rowEntry o)
    let g : Stage := ⟨0, 0, none⟩
    let p : State := { s with staging := [(0, g)] }
    let sp : State := { s with folio := [(0, { x with st := 4, frame := some 0 })] }
    (s.starts vec0 false 7 1 (rowEntry o) = true ∧ s.stageRoom vec0 false = true ∧ s.toStage j = [0] ∧ s.freeStage 0 = some 0 ∧
        s.ownNode (5 * 2 ^ 48) = true ∧ (s.hostWin (5 * 2 ^ 48) s.quarterLayer false).isSome = true ∧ s.portUp 0 = true) ∧
      wide.toStage j = [] ∧ ({ p with staging := [(0, g), (1, g)], folio := [(0, x), (1, x)] } : State).stageRoom vec0 false = true ∧
      (p.good = true ∧ p.staging.find? (fun e => e.1 == 0) = some (0, g) ∧ p.stageAt 0 0 + p.quarterLayer ≤ 2 ^ 48) ∧
      (sp.good = true ∧ (sp.folioOf 0).frame = some 0 ∧ (sp.folioOf 0).st = 4 ∧ (sp.folioOf 0).copied = [] ∧
        (sp.spillOut 0 (5 * 2 ^ 48) []).isSome = true) := by decide +kernel
/-- A row that samples and draws greedily from the four logits 0 takes the lowest. -/
theorem witness_SampledRowsTakeOneToken :
    let o := ordOf 8 0 (0 * 2 ^ 48 + 3 * 2 ^ 40)
    let row (b : Bool) : Row := ⟨0, 0, 0, 1, 0, none, 0, false, false, b, none, 0, 0, false, false, false, false, 0, none⟩
    let s (b : Bool) : State := { wide with serve := { wide.serve with rows := [row b] } }
    let j := firstJob vec0 false (rowEntry o)
    let vs := (wide.vals (till 0 (32 * 128)) 9 4).1
    rowStarts (s true) vec0 o = true ∧ wide.vocab = 4 ∧ inTill 128 9 32 = true ∧ destFault j (wide.opnd j 3) 640 1 = 0 ∧
      (s true).rowsIn 0 = [row true] ∧ vs.any Option.isNone = false ∧ drawToken (vs.map (fun v => fp32.encode (v.getD .nan))) 0 0 0 0 0 = some 0 ∧
      (rowEntry o).row = 0 ∧ badLogits [0x7FC00000] = true := by decide +kernel

/-- A transfer of 1,024 bytes from Vault byte 0 to Vault byte 0x10000, its descriptor at granule 0x80 of die 0 (R259). -/
def desc0 : Desc := ⟨0, 0x10000, 1024, 0, 0, 0, 0, 7⟩
def withDesc (ctl : Byte) (len : Nat) : State :=
  serving [program0] [] (cells (till 0 0x1000) (natLe 8 0 ++ natLe 8 0x10000 ++ natLe 4 len ++ [ctl]))

/-- Channel 3 of die 0 with a transfer. -/
def moving (c : Channel) : State := (served.setFld (DMA_CTRL 0 3) 31 30 2).setChan 0 3 c

theorem witness_TransfersAndTriggers :
    let mv := ordOf 5 0 (0x80 * 2 ^ 34)
    let s := withDesc 0 1024
    let z := withDesc 0 0
    let go := ((withDesc 0 1024).setFld (DMA_CTRL 0 3) 31 30 2).setFld (DMA_DESC 0 3) 21 0 0x80
    let busy : Channel := { Channel.idle with desc := some desc0, released := 2 }
    let t : Channel := { Channel.idle with desc := some { desc0 with trig := 1 } }
    let m := moving busy
    (startsAt s dma0 5 0 mv = true ∧ s.bad (till 0 0x1000) 32 = false ∧
        s.checkDesc 0 0 1 (Desc.ofBytes (s.read (till 0 0x1000) 32)) (s.read (till 0 0x1000) 32) = 0 ∧
        z.checkDesc 0 0 1 (Desc.ofBytes (z.read (till 0 0x1000) 32)) (z.read (till 0 0x1000) 32) = 1) ∧
      (go.good = true ∧ go.holder w0 = true ∧ go.owner 0 3 = 2 ∧ go.fld (DMA_DESC 0 3) 21 0 = 0x80 ∧ (go.chan 0 3).desc = none ∧
        go.coreRuns 0 = true ∧ go.rst.blockResets = [] ∧ go.checkDesc 0 3 1 (Desc.ofBytes (go.read (till 0 0x1000) 32)) [] = 0) ∧
      (m.good = true ∧ (m.chan 0 3).desc = some desc0 ∧ (m.chan 0 3).stopping = false ∧ (m.chan 0 3).mover = none ∧ m.owner 0 3 = 2) ∧
      (served.wanting 0 = [] ∧ (arbitrateDma (look DmaArb.fresh m.dmaArb 0) (m.wanting 0)).map Prod.fst = some 3 ∧ m.ownNode 0 = true) ∧
      (t.desc.map Desc.trigKind = some 1 ∧ busy.desc.map Desc.trigKind = some 0) ∧
      ({ t with released := 1, pending := 255 } : Channel).pending = 255 := by decide +kernel
theorem witness_TransfersEnd :
    let c : Channel := { Channel.idle with desc := some desc0, cut := 1024, flight := [⟨0, 512⟩, ⟨512, 512⟩] }
    let l : Channel := { c with flight := [⟨512, 512⟩], acked := [⟨0, 512⟩] }
    let h : Channel := { c with srcWin := some (0, 0, 0) }
    (c.flight.find? (fun f => f.off == 0) = some ⟨0, 512⟩ ∧ l.flight.find? (fun f => f.off == 512) = some ⟨512, 512⟩ ∧
        desc0.chains = false ∧ desc0.swap = 0 ∧ adSpace desc0.src ≤ 1 ∧ adOff desc0.dst + 1024 ≤ 2 ^ 48) ∧
      (h.lacks desc0 = some (0, 512)) ∧
      (({ h with flight := [⟨0, 8⟩], arrived := [(0, List.replicate 8 (0, false))] } : Channel).lacks { desc0 with len := 8 } = none) ∧
      (let o := ordOf 5 0 (0x80 * 2 ^ 34)
       (served.setEng dma0 { EngState.idle with flying := [⟨once o, o, false, false, false⟩] }).moveOf dma0 false =
         some ⟨once o, o, false, false, false⟩) := by decide +kernel
theorem witness_TimersAndBlockResets :
    let g : Block := .group 3 511
    let run := lead.setFlag (TMR_CTRL 0 15) 0 true
    let s : State := { lead with rst := { lead.rst with blockResets := [g] } }
    lead.good = true ∧ lead.holder w0 = true ∧ lead.holder w1 = false ∧ lead.flag (TMR_CTRL 0 15) 0 = false ∧
      run.flag (TMR_CTRL 0 15) 0 = true ∧ blockOk g = true ∧ blockOk (.unit attn0) = true ∧ lead.blockIdle g = false ∧
      lead.rst.blockResets.contains g = false ∧ s.rst.blockResets.contains g = true := by decide
theorem witness_idleBlocks : (lead.setFlag (MGC_CTRL 3 511) 1 true).blockIdle (.group 3 511) = true ∧
    lead.blockIdle (.unit dma0) = true := by decide +kernel
/-- Entry 0 of converter 5 on channel 0, with two repetitions and two channels, or one. -/
theorem witness_ConversionsAreAccumulated :
    let s (e : Word64) : State := (lead.setReg (AUD_ENT 5 0) e).setFlag (AUD_STAT 5) 31 true
    let two : Word64 := 0xF040000000000040
    ((s two).good = true ∧ (s two).entryOn 5 0 = true ∧ bits two 52 48 + 0 < 32 ∧ bits two 44 40 + 0 < 32 ∧
        (s two).flag (AUD_STAT 5) 31 = true ∧ ((s two).audit 5).burst = false ∧ bits ((s two).reg (AUD_ENT 5 0)) 13 6 = 1 ∧
        bits ((s two).reg (AUD_ENT 5 0)) 59 54 = 1 ∧ bitOf two 60 = true ∧ bitOf two 61 = true ∧ bitOf two 62 = true) ∧
      (let once := (s two).setAudit 5 { Audit.idle with rep := 1 }
       bits two 13 6 ≤ (once.audit 5).rep ∧ (once.audit 5).chan < bits two 59 54) := by decide
/-- The means of a burst whose external reference of 1.2 V reads 8,192/3 codes for each volt, and one that reads nothing. -/
theorem witness_AuditBurstsAndRegisters :
    let b (ext : Nat) : BurstData := ⟨0, ext, 512 * 256, false, [0, 0, 0, 0], [(0, 0), (0, 0), (0, 0), (0, 0)]⟩
    let s := (lead.setFlag (AUD_STAT 0) 31 true).setAudit 0 { Audit.idle with burst := true }
    s.good = true ∧ (s.audit 0).burst = true ∧ lead.flag (AUD_STAT 0) 31 = false ∧ plausible (b 838861) false = true ∧
      plausible (b 0) false = false ∧ s.reg (AUD_CALG 0) = 0 ∧ lead.flag (AUD_CTRL 0) 1 = true ∧
      (lead.setFlag (AUD_CTRL 0) 1 false).flag (AUD_CTRL 0) 1 = false ∧ ((0x01000000 : Word32).getLsbD 24 = true) := by decide

/-- A manifest of two shards without digests, for this device alone or a chain. -/
def mani (chain : List Nat) : Manifest :=
  { kind := 0, digests := false, holdFlip := false, refresh := false, epoch := 2, generation := 0, shards := 2, tiles := 0, home := 0,
    chain := chain, rank := 0, matrices := 0, grad := 0, entries := [(0, 2), (0, 2)], digest := 0 }
/-- A device with two landing slots in which that Load goes on. -/
def loading (l : Load) : State :=
  { serving [(secLayers, natLe 2 2 ++ natLe 8 (2 ^ 20))] [] [] with epochs := { Epochs.none with load := some l } }

theorem witness_ShardsLandOrAreAskedAgain :
    let l := Load.fresh (mani [])
    let s := loading l
    let r : State := { s with epochs := { Epochs.none with relay := some (Load.fresh (mani [0, 5])) } }
    s.good = true ∧ s.epochs.load = some l ∧ l.lacks 1 = true ∧ l.lacks 2 = false ∧ l.manifest.shardOk 1 [0, 0] false = true ∧
      l.manifest.shardOk 1 [0, 0] true = false ∧ s.landSlot l 1 = some 0 ∧
      s.landSlot { l with landed := [(5, 1), (9, 2)] } 1 = none ∧ 0 < (4 : Nat) ∧ l.acked.contains 1 = false ∧
      (r.epochs.load = none ∧ (r.epochs.relay.map (fun r => r.lacks 1)) = some true) ∧ look 0 l.asked 1 < 2 ∧
      2 ≤ look 0 ({ l with asked := [(1, 2)] } : Load).asked 1 := by decide +kernel
theorem witness_ChainsAndMasterPlanes :
    let l := Load.fresh (mani [0, 5])
    let s := loading l
    let x : State := (tiled 4).setTile 0 { Tile.idle with drifted := true, restoring := true }
    (l.manifest.chain.contains 5 = true ∧ l.reported.contains 5 = false ∧ l.manifest.chain.contains 6 = false ∧
        s.loadVerified l = false ∧ lead.epochs.load = none) ∧
      (s.serve.loadTicket = none ∧ s.awaitsManifest = none ∧ s.epochBusy = true ∧ (s.chainPos (mani [0, 5])).isSome = true) ∧
      ((x.dirOf 0).live = some false ∧ (x.tile 0).masterEpoch = none ∧ (x.tile 0).restoring = true) ∧
      ({ x with epochs := { Epochs.none with live := some 1 } }).epochBusy = false ∧ x.serve.posted = true := by decide +kernel
/-- A manifest's image for a chain that begins with node 0, and one of no chain. -/
theorem witness_manifestArrival :
    ((served.chainPos (manifestOf (List.replicate 24 0 ++ natLe 2 1 ++ List.replicate 40 0))).isSome = true) ∧
      served.epochStale (manifestOf []).epoch = true ∧ served.manifestOk [] 0 false = false := by decide +kernel

/-- Link 0 up without a key, or with one. -/
def linked (keyed : Bool) (k : LinkState) : State :=
  let s := ({ running with clr := { running.clr with links := [(0, k)] } }).setFlag (linkStat 0) 31 true
  if keyed then { s with sec := { s.sec with linkInfo := [(0, ([1], 0, 1))], linkFlits := [(0, 2 ^ 40)] } } else s

theorem witness_LinksAndFlits :
    let k : LinkState := { LinkState.down with replay := [(1, 8)] }
    let s := linked false k
    let i := linked true { LinkState.down with replay := [(1, 7)] }
    (running.linkUp 0 = false ∧ 3 ≤ running.rowsOf 0 ∧ running.linkEnabled 0 = true ∧ running.good = true ∧ usableLanes 15 = 15 ∧
        usableLanes 3 = 3 ∧ usableLanes 5 = 0 ∧ running.mram.domainKey = none ∧
        ({ running with mram := { running.mram with domainKey := some 0 } }).mram.domainKey ≠ none) ∧
      (s.good = true ∧ s.linkUp 0 = true ∧ (s.linkOf 0).waiting = [] ∧ s.linkKeyed 0 = false ∧ (s.linkOf 0).replay = [(1, 8)]) ∧
      (i.linkKeyed 0 = true ∧ 2 ^ 40 ≤ look 0 i.sec.linkFlits (2 * 0) ∧ look 0 s.sec.linkFlits (2 * 0) < 2 ^ 40 ∧
        (∀ e, e ∈ (i.linkOf 0).replay → e.2 < 8)) ∧ flit0.seq ≠ (s.linkOf 0).rxSeq + 1 ∧
      ({ flit0 with seq := 1 }).seq = (s.linkOf 0).rxSeq + 1 := by decide +kernel

/-- A posted device, node 0, whose window 0 opens the first 4 KiB of Vault to nodes 0 to 4,095; node 1 is reached by link 0. -/
def fabric (role : Byte) : State :=
  let s := linked true { LinkState.down with credit := [(1, 2)] }
  { s with
    serve := { s.serve with posted := true },
    mem := sections [(secRoutes, [0, 0, role, 0, 1, 0, 5, 0x80] ++ List.replicate 16 0 ++ [1, 0, 0xFF, 0x0F] ++ List.replicate 38 0 ++ natLe 2 0x80F0)] ++
      cells (postedSlot + 4096 * secRoutes + 8256) (natLe 8 0 ++ natLe 4 1 ++ natLe 2 0xC000 ++ natLe 2 0x0FFF) }

def fromNode1 (op : BitVec 8) (tag : BitVec 16) : ClrCmd := { cmd 1 with op := op, src := 1, tag := tag, inc := 1, tally := 5 }

theorem witness_RemoteAccessesAndSignals :
    let s := { fabric 0 with clr := { (fabric 0).clr with reads := [(9, (0, 3, 0))] } }
    let ch := s.setChan 0 3 { Channel.idle with desc := some desc0 }
    let c := fromNode1 1 9
    (running.hasNode = false ∧ s.hasNode = true ∧ s.forMe c = true ∧ s.good = true ∧ s.remoteWriteOk c = true ∧ s.remoteReadOk c = true ∧
        (s.takeGranules 0 [cw]).1 = s) ∧ s.remoteWriteOk { c with src := 0x7000 } = false ∧
      (s.readOf 9 = some (0, 3, 0) ∧ s.readOf 8 = none ∧ (ch.chan 0 3).desc = some desc0 ∧ (ch.chan 0 3).mover = none) ∧
      (s.routeOf 2 = none) ∧ (s.linkOf 0).waiting = [] ∧
      (c.inc ≠ 0 ∧ c.inc.toNat ≤ 15 ∧ c.tally.toNat < 2 ^ 14 ∧ c.src.toNat < 2 ^ 14) ∧
      s.settled ⟨0, 1, 0, 0, 5, 1⟩ = true ∧ s.settled ⟨0, 1, 0, 1, 5, 1⟩ = false ∧
      ((s.setTally 5 (counterT 0)).tallyOf 5).kind = tallyCounter := by decide +kernel
theorem witness_readIsAnswered : (fabric 0).routeOf 1 = some 0 ∧ 1 + 1 ≤ look 0 ((fabric 0).linkOf 0).credit 1 ∧
    ((fabric 0).linkOf 0).replay.length + cmdFlits [cw] ≤ 256 := by decide +kernel
/-- A signal that settles once the landed count that die 0 has heard is brought up to date. -/
theorem witness_landedCountUpdate :
    let h : HeldSignal := ⟨0, 1, 0, 1, 5, 1⟩
    let s : State := { fabric 0 with clr := { (fabric 0).clr with landed := [(landedKey 0 1 0, 1)], held := [h] } }
    s.settled h = false ∧ ({ s with clr := { s.clr with heard := [(heardKey 0 0 1 0, 1)] } }).settled h = true := by decide +kernel
theorem witness_RollsKeepTheDomain :
    let br := fabric 1
    let tr := fabric 2
    let r : Roll := ⟨1, 0, 0, 0, 0, 7, false⟩
    let known : State := { tr with clr := { tr.clr with dir := [(1, { DomEntry.absent with node := 1, st := 1, identity := 7 })] } }
    (br.good = true ∧ br.role = 1 ∧ br.flag (CLR_ROLL 0) 31 = false ∧ (br.setFlag (CLR_ROLL 0) 31 true).flag (CLR_ROLL 0) 31 = true ∧
        running.role = 0) ∧
      (tr.good = true ∧ tr.role = 2 ∧ tr.paired = true ∧ tr.flag (CLR_ROLL 0) 30 = false ∧ tr.peer % 4096 = 5) ∧
      (tr.domIndex 1 = some 1 ∧ tr.domIndex 2048 = none ∧ r.node.val ≠ tr.node ∧ (look DomEntry.absent tr.clr.dir 1).st = 0) ∧
      ((look DomEntry.absent known.clr.dir 1).st = 1 ∧ (look DomEntry.absent known.clr.dir 1).identity = r.identity ∧
        (look DomEntry.absent known.clr.dir 1).identity ≠ ({ r with identity := 8 } : Roll).identity ∧ known.logFull = false) := by
  decide +kernel
theorem witness_FetchedImagesAndProbes :
    let t : Ticket := ⟨List.replicate 64 0, 0, 0, 0, 0⟩
    let e : ProbeEntry := ⟨4, false, 0, 1, 0, 1, 0, 0⟩
    let p : ProbeSet := ⟨1, 0, [e], 0⟩
    let x : EndoEntry := { EndoEntry.empty with st := 3, cache := some 0, sealed_ := true }
    let s : State := { served with
      mram := { served.mram with probeSet := some p }, endo := [(0, x), (1, { x with st := 4 })], cache := [(0, ⟨0, 0, 0, 1, 0⟩)],
      seqs := [(0, { Seq.fresh with st := 4, fetch := some t })] }
    let run : State := { s with probes := { Probes.idle with running := [(0, some (0, 0))] } }
    (s.good = true ∧ (s.seq 0).fetch = some t ∧ (s.seq 0).fetched = none ∧ (s.seq 1).fetch = none) ∧
      ((s.endoOf 0).st = 3 ∧ (s.endoOf 1).st = 4 ∧ (s.endoOf 2).cache = none ∧ badShard x.digests [] = none) ∧
      (s.booted = true ∧ s.coreRuns 0 = true ∧ s.dieTargets 0 = [] ∧ s.nextProbe p 0 = some (false, 0, 0) ∧ s.probeIdle 4 0 = true ∧
        (withHead s vec0 false (once 0)).probeIdle 4 0 = false ∧ (look (0, 0) s.probes.next 4).1 = 0) ∧
      (look none run.probes.running 0 = some (0, 0) ∧ look none s.probes.running 0 = none) ∧
      (s.setFld DBK_FLOG_HEAD 15 0 3).fld DBK_FLOG_HEAD 15 0 = 3 := by decide +kernel
theorem witness_StagedChartersAreChecked :
    let k : Ticket := ⟨List.replicate 8 0 ++ natLe 8 0 ++ natLe 4 2 ++ natLe 2 1 ++ List.replicate 42 0, 0, 0, 0, 0⟩
    let s : State := { running with serve := { running.serve with stageTicket := some k } }
    s.good = true ∧ s.serve.stageTicket = some k ∧ s.serve.stageStatus = none ∧ running.serve.stageTicket = none ∧ k.field 19 16 = 2 ∧
      ((s.ledgerRead (BitVec.ofNat 64 (k.field 15 8)) 2).getD []).length = 2 ∧
      (s.charterStatus stagedSlot 2 1 false).1 ≠ stOk := by decide +kernel
theorem witness_PostingPointsAndRows :
    let s : State := { served with serve := { served.serve with running := true } }
    let row (tk : Option Nat) (f : Bool) : Row := ⟨0, 0, 0, 1, 0, none, 0, false, false, true, none, 0, 0, f, false, false, false, 0, tk⟩
    let q : Seq := { Seq.fresh with st := 4, maxLen := 9, stops := [2] }
    (s.mayPost = true ∧ s.serve.posted = true ∧ s.serve.running = true ∧ s.inHold = false ∧ s.stepFinished = true) ∧
      (served.mayPost = true ∧ served.serve.running = false) ∧ lead.mayPost = false ∧
      (q.st ≠ 0 ∧ (row (some 1) false).sample = true ∧ s.pastDeadline q = false ∧ q.stops.contains 1 = false ∧ q.stops.contains 2 = true ∧
        q.logLen + 1 < q.maxLen ∧ q.park = false ∧ q.endStatus = none ∧ q.ending = false) ∧
      3 ≤ ({ q with faults := 2 } : Seq).faults + 1 := by decide +kernel
theorem witness_OtherWritersChangeNothing : lead.holder w1 = false ∧ lead.holder ⟨0, 1⟩ = false := by decide

/-! ### The spec's worked examples -/

/-- The order of R214's example, read field by field. -/
theorem test_order_word :
    let o : BitVec 128 := 0x00000000040004041130004814000000
    ordClass o = 0 ∧ ordOp o = 0 ∧ ordAcc o = false ∧ ordSkipK o = 0 ∧ ordWaitTally o = 0x40 ∧ ordWaitN o = 1 ∧ ordSigTally o = 0x41 ∧
      ordSigInc o = 1 ∧ ordBody o 55 52 = 3 ∧ ordBody o 51 51 = 0 ∧ ordBody o 50 50 = 0 ∧ ordBody o 49 34 = 0x12 ∧ ordBody o 33 26 = 5 ∧
      ordBody o 25 14 = 0 := by decide
/-- Tile 0x5A37 and its registers (the example of R31). -/
theorem test_tile_registers : tileDie 0x5A37 = 2 ∧ tileMint 0x5A37 = 11 ∧ tileSub 0x5A37 = 7 ∧ tileUnit 0x5A37 = 419 ∧
    sliceIndex 0x5A37 = 6711 ∧ MGC_CTRL 2 419 = 0x019E8C00 ∧ ASY_CTRL 2 419 = 0x01AD1800 := by decide
/-- The block of the example after R62 under DB4: 2.9, -1.3, 0.75, 1.25 and 0.24, the inexact ones to 10 fraction bits. -/
theorem test_quantise :
    let q := quantVals 4 none none [some (.fin false 2970 (-10)), some (.fin true 1331 (-10)), some (.fin false 3 (-2)),
      some (.fin false 5 (-2)), some (.fin false 246 (-10))]
    q.denom = 0x7E ∧ q.elems.take 5 = [6, -3, 2, 2, 0] := by decide +kernel
/-- A block shifted right by 2 bits (the example of R66). -/
theorem test_alignment : alignElem 6 2 = (1, 2) ∧ alignElem (-3) 2 = (0, -3) := by decide
/-- A plane of 355 active rows under a budget of 256: 256 and 99 (the example of R106). -/
theorem test_split : (planeStrikes 256 3 2 (List.range 355)).map (fun p => p.lines.length) = [256, 99] := by decide +kernel
/-- With the North copy 10 ticks behind a senior South, `offset` reads 0xF6 (the example of R46). -/
theorem test_offset :
    let s := ((State.reset.setFlag (STW_STAT 1) 31 true).setFlag (STW_STAT 0) 28 true).setFlag (STW_STAT 1) 28 true
    let s : State := { s with time := { s.time with south := 10 } }
    after 0 .counterCompare s (fun t => t.fld GLB_CLKSTAT 23 16) = 0xF6 := by decide +kernel
/-- The third arrival of a barrier of three starts the next round (the example of R252). -/
theorem test_barrier :
    let s := served.setTally 0x1010 ⟨tallyBarrier, 3, 0x41, 3, 0, false⟩
    after Tally.unused (.barrierNextRound 0x1010) s (fun t => t.tallyOf 0x1010) = ⟨tallyBarrier, 0, 0x42, 3, 0, false⟩ := by decide +kernel
/-- 87,040 bytes are 170 bursts; priority 2 takes four slots of five from priority 0 (the example of R264). -/
theorem test_bursts : ({ desc0 with len := 87040 } : Desc).bursts = 170 ∧
    (let a0 := (DmaArb.fresh)
     let next (e : DmaArb × List Nat) (_ : Nat) : DmaArb × List Nat :=
       match arbitrateDma e.1 [(5, 2), (9, 0)] with
       | some (k, a) => (a, e.2 ++ [k])
       | none => e
     ((List.range 6).foldl next (a0, [])).2) = [5, 5, 5, 5, 9, 5] := by decide
/-- The check value of CRC-32C (R158). -/
theorem test_crc : crc32c [0x31, 0x32, 0x33, 0x34, 0x35, 0x36, 0x37, 0x38, 0x39] = 0xE3069283 := by decide +kernel
/-- A tick of the device counter (R41). -/
theorem test_tick : (match step State.reset with | .next t => t.time.north | _ => 0) = 1 := by decide

end Sys2Proof.Tests
end

section
/-! SUPPORT. Denominated blocks (R48 to R52): the code of each element and what it reads back as, and the word of 32
codes that the bytes of a block spell. -/

namespace Sys2Proof.Machine

/-! ### Bytes -/

@[simp] theorem length_natLe (n v : Nat) : (natLe n v).length = n := by
  induction n generalizing v with
  | zero => rfl
  | succ n ih => rw [natLe, List.length_cons, ih]

@[simp] theorem leNat_natLe (n v : Nat) : leNat (natLe n v) = v % 256 ^ n := by
  induction n generalizing v with
  | zero => rw [Nat.pow_zero, Nat.mod_one]; rfl
  | succ n ih =>
    rw [natLe, leNat, ih, Nat.pow_succ', Nat.mod_mul, BitVec.toNat_ofNat]

/-! ### Codes of elements (R50) -/

/-- The range of DB`n` (R50): DB1 holds -1 and +1 alone, a wider format what lies symmetric about zero. -/
def dbInRange (n : Nat) (e : Int) : Prop :=
  if n = 1 then e = -1 ∨ e = 1 else -(2 ^ (n - 1) - 1) ≤ e ∧ e ≤ 2 ^ (n - 1) - 1

theorem dbElem_one {c : Nat} (hc : c < 2) : dbElem 1 c = (if c = 0 then -1 else 1, false) := by
  obtain rfl | rfl : c = 0 ∨ c = 1 := by omega
  · rfl
  · rfl

theorem dbElem_of_lt {n c : Nat} (hn : 2 ≤ n) (hc : c < 2 ^ (n - 1)) : dbElem n c = ((c : Int), false) := by
  have hw := Nat.two_pow_pred_add_two_pow_pred (w := n) (by omega)
  have hmod : c % 2 ^ n = c := Nat.mod_eq_of_lt (by omega)
  rw [dbElem, if_neg (by omega), hmod, if_neg (by omega), signed, hmod, if_pos hc]

theorem dbElem_of_gt {n c : Nat} (hn : 2 ≤ n) (hlo : 2 ^ (n - 1) < c) (hhi : c < 2 ^ n) :
    dbElem n c = ((c : Int) - 2 ^ n, false) := by
  have hmod : c % 2 ^ n = c := Nat.mod_eq_of_lt hhi
  rw [dbElem, if_neg (by omega), hmod, if_neg (by omega), signed, hmod, if_neg (by omega), Int.natCast_pow]
  rfl

theorem dbElem_lowest {n : Nat} (hn : 2 ≤ n) : dbElem n (2 ^ (n - 1)) = (0, true) := by
  have hw := Nat.two_pow_pred_add_two_pow_pred (w := n) (by omega)
  have hpos := Nat.two_pow_pos (n - 1)
  rw [dbElem, if_neg (by omega), Nat.mod_eq_of_lt (by omega), if_pos rfl]

theorem dbCode_of_nonneg {n : Nat} {e : Int} (hn : 2 ≤ n) (h0 : 0 ≤ e) (h1 : e < 2 ^ n) : dbCode n e = e.toNat := by
  rw [dbCode, if_neg (by omega), toTwos, Int.natCast_pow, Int.cast_ofNat_Int, Int.emod_eq_of_lt h0 h1]

theorem dbCode_of_neg {n : Nat} {e : Int} (hn : 2 ≤ n) (h0 : e < 0) (h1 : -2 ^ n ≤ e) :
    dbCode n e = (e + 2 ^ n).toNat := by
  have hmod : e % 2 ^ n = e + 2 ^ n := by
    rw [← Int.add_emod_right, Int.emod_eq_of_lt (by omega) (by omega)]
  rw [dbCode, if_neg (by omega), toTwos, Int.natCast_pow, Int.cast_ofNat_Int, hmod]

theorem dbCode_lt {n : Nat} (hn : 1 ≤ n) (e : Int) : dbCode n e < 2 ^ n := by
  rcases Nat.lt_or_ge 1 n with h | h
  · have hpos : (0 : Int) < (2 ^ n : Nat) := Int.natCast_pos.mpr (Nat.two_pow_pos n)
    rw [dbCode, if_neg (by omega), toTwos, Int.toNat_lt (Int.emod_nonneg e (Int.ne_of_gt hpos))]
    exact Int.emod_lt_of_pos e hpos
  · obtain rfl : n = 1 := by omega
    rw [dbCode, if_pos (Nat.le_refl 1)]
    split
    · decide
    · decide

/-- An element of the range reads back from its code: a negative one lies above the lowest code, another below it. -/
theorem dbElem_dbCode {n : Nat} {e : Int} (hn : 1 ≤ n) (he : dbInRange n e) : dbElem n (dbCode n e) = (e, false) := by
  rcases Nat.lt_or_ge 1 n with h | h
  · rw [dbInRange, if_neg (by omega)] at he
    obtain ⟨hlo, hhi⟩ := he
    have hw := Nat.two_pow_pred_add_two_pow_pred hn
    have hhalf : ((2 ^ (n - 1) : Nat) : Int) = 2 ^ (n - 1) := Int.natCast_pow 2 _
    have hwhole : ((2 ^ n : Nat) : Int) = 2 ^ n := Int.natCast_pow 2 _
    rcases Int.lt_or_le e 0 with hneg | hnonneg
    · rw [dbCode_of_neg h hneg (by omega), dbElem_of_gt h (by omega) (by omega)]
      congr 1
      omega
    · rw [dbCode_of_nonneg h hnonneg (by omega), dbElem_of_lt h (by omega), Int.toNat_of_nonneg hnonneg]
  · obtain rfl : n = 1 := by omega
    rw [dbInRange, if_pos rfl] at he
    obtain rfl | rfl := he
    · rfl
    · rfl

/-! ### The word of a block (R52) -/

/-- The number that codes of `n` bits spell, the first code lowest (R52). -/
def codesNat (n : Nat) : List Nat → Nat
  | [] => 0
  | c :: cs => c + 2 ^ n * codesNat n cs

theorem codesNat_lt {n : Nat} {cs : List Nat} (hcs : ∀ c ∈ cs, c < 2 ^ n) : codesNat n cs < (2 ^ n) ^ cs.length := by
  induction cs with
  | nil => exact Nat.one_pos
  | cons c cs ih =>
    obtain ⟨hc, hrest⟩ := List.forall_mem_cons.mp hcs
    calc c + 2 ^ n * codesNat n cs
        < 2 ^ n * (codesNat n cs + 1) := by rw [Nat.mul_succ]; omega
      _ ≤ 2 ^ n * (2 ^ n) ^ cs.length := Nat.mul_le_mul_left _ (ih hrest)
      _ = (2 ^ n) ^ (c :: cs).length := by rw [List.length_cons, Nat.pow_succ']

/-- Code `i` stands in the bits from `n * i` on. -/
theorem codesNat_div_mod {n i : Nat} {cs : List Nat} (hcs : ∀ c ∈ cs, c < 2 ^ n) (hi : i < cs.length) :
    codesNat n cs / 2 ^ (n * i) % 2 ^ n = cs[i] := by
  induction cs generalizing i with
  | nil => exact absurd hi (Nat.not_lt_zero i)
  | cons c cs ih =>
    obtain ⟨hc, hrest⟩ := List.forall_mem_cons.mp hcs
    cases i with
    | zero =>
      rw [Nat.mul_zero, Nat.pow_zero, Nat.div_one, codesNat, Nat.add_mul_mod_self_left, Nat.mod_eq_of_lt hc,
        List.getElem_cons_zero]
    | succ i =>
      have htail : codesNat n (c :: cs) / 2 ^ n = codesNat n cs := by
        rw [codesNat, Nat.add_mul_div_left _ _ (Nat.two_pow_pos n), Nat.div_eq_of_lt hc, Nat.zero_add]
      rw [Nat.mul_succ, Nat.add_comm, Nat.pow_add, ← Nat.div_div_eq_div_mul, htail, List.getElem_cons_succ]
      exact ih hrest (Nat.lt_of_succ_lt_succ hi)

/-- The bytes of a block spell its codes, element 0 lowest. -/
theorem dbPack_eq (n : Nat) (es : List Int) : dbPack n es = natLe (4 * n) (codesNat n (es.map (dbCode n))) := by
  rw [dbPack, List.foldl_reverse]
  congr 1
  induction es with
  | nil => rfl
  | cons e es ih => rw [List.foldr_cons, List.map_cons, codesNat, ih, Nat.add_comm, Nat.mul_comm]

@[simp] theorem length_dbPack (n : Nat) (es : List Int) : (dbPack n es).length = 4 * n := by
  rw [dbPack, length_natLe]

theorem codes_lt {n : Nat} (hn : 1 ≤ n) (es : List Int) : ∀ c ∈ es.map (dbCode n), c < 2 ^ n :=
  List.forall_mem_map.mpr fun e _ => dbCode_lt hn e

/-- Thirty-two codes of `n` bits fill `4n` bytes and no more. -/
theorem leNat_dbPack {n : Nat} {es : List Int} (hn : 1 ≤ n) (hes : es.length = 32) :
    leNat (dbPack n es) = codesNat n (es.map (dbCode n)) := by
  have hsize : (2 ^ n) ^ (es.map (dbCode n)).length = 256 ^ (4 * n) := by
    rw [List.length_map, hes, show (256 : Nat) = 2 ^ 8 from rfl, ← Nat.pow_mul, ← Nat.pow_mul,
      show n * 32 = 8 * (4 * n) by omega]
  rw [dbPack_eq, leNat_natLe, Nat.mod_eq_of_lt (hsize ▸ codesNat_lt (codes_lt hn es))]

/-- Bytes that spell 32 codes unpack as the elements of these codes. -/
theorem dbUnpack_of_codes {n : Nat} {bs : List Byte} {cs : List Nat} (hlen : cs.length = 32)
    (hcs : ∀ c ∈ cs, c < 2 ^ n) (hbs : leNat bs = codesNat n cs) :
    dbUnpack n bs = ((cs.map (dbElem n)).map Prod.fst, ((cs.map (dbElem n)).filter Prod.snd).length) := by
  have helems : (List.range 32).map (fun i => dbElem n (leNat bs / 2 ^ (n * i) % 2 ^ n)) = cs.map (dbElem n) := by
    refine List.ext_getElem (by rw [List.length_map, List.length_map, List.length_range, hlen]) fun i _ hi => ?_
    rw [List.length_map] at hi
    rw [List.getElem_map, List.getElem_map, List.getElem_range, hbs, codesNat_div_mod hcs hi]
  simp only [dbUnpack, helems]

theorem dbUnpack_dbPack {n : Nat} {es : List Int} (hn : 1 ≤ n) (hes : es.length = 32)
    (hrange : ∀ e ∈ es, dbInRange n e) : dbUnpack n (dbPack n es) = (es, 0) := by
  have hback : (es.map (dbCode n)).map (dbElem n) = es.map (fun e => (e, false)) := by
    rw [List.map_map]
    exact List.map_congr_left fun e he => dbElem_dbCode hn (hrange e he)
  have hvals : (es.map (fun e => (e, false))).map Prod.fst = es := by
    rw [List.map_map]
    exact List.map_id es
  have hnone : (es.map (fun e => (e, false))).filter Prod.snd = [] :=
    List.filter_eq_nil_iff.mpr (List.forall_mem_map.mpr fun _ _ => Bool.false_ne_true)
  rw [dbUnpack_of_codes (by rw [List.length_map, hes]) (codes_lt hn es) (leNat_dbPack hn hes), hback, hvals, hnone,
    List.length_nil]

/-! ### Values of elements (R48) -/

theorem dbValue_of_denominated {d : Nat} (e : Int) (hlo : 1 ≤ d) (hhi : d ≤ 0xFE) :
    dbValue d e = some (.fin (decide (e < 0)) e.natAbs ((d : Int) - 127)) := by
  rw [dbValue, if_neg (by omega), if_neg (by omega), Num.ofInt]

/-- Settles O10: a block's bytes spell its codes, `n` bits each, so unpacking takes each code back to its element. -/
theorem blocksUnpackWhatWasPacked : Obligations.BlocksUnpackWhatWasPacked := by
  unfold Obligations.BlocksUnpackWhatWasPacked
  refine ⟨fun n es hn _ hes hrange => ?_, fun n c _ _ hc => ⟨?_, ?_, ?_, ?_⟩, fun d e => dbValue_of_denominated e⟩
  · exact ⟨length_dbPack n es, dbUnpack_dbPack hn hes hrange⟩
  · rintro rfl
    exact dbElem_one hc
  · exact dbElem_of_lt
  · exact fun hn hlo => dbElem_of_gt hn hlo hc
  · rintro hn rfl
    rw [dbElem_lowest hn]

end Sys2Proof.Machine
end

section
/-! SUPPORT. Counters (R246): of every change a command can make, only those that leave the counters in range touch the
Tallies, so that range is kept along whatever the device does. -/

namespace Sys2Proof.Machine

/-- No change that a command is made of takes a counter out of range: only `tally` touches the Tallies, and it is allowed
just where it leaves them in range. -/
theorem closed_countersOk : Closed (fun v => countersOk v.tallies) where
  cell _ _ _ h := h
  keep _ _ h := h
  spoil _ _ _ h := h
  clean _ _ h := h
  tally _ _ keeps h := keeps h
  reg _ _ _ h := h
  clear _ _ h := h
  fuse _ h := h
  seed _ h := h
  life _ h := h
  count _ _ _ h := h

theorem countersInRange_iff (s : State) : s.countersInRange ↔ countersOk s.tallies := Iff.rfl

theorem Leads.countersInRange {fp : Nat} {s t : State} (h : Leads fp s t) (hs : s.countersInRange) :
    t.countersInRange :=
  (countersInRange_iff t).mpr (h.go _ closed_countersOk ((countersInRange_iff s).mp hs))

/-- The commands that wait hold no counter. -/
theorem countersInRange_withPending {s : State} (l : List Instr) (hs : s.countersInRange) :
    ({ s with pending := l } : State).countersInRange := hs

theorem step_keeps_countersInRange {s t : State} (hs : s.countersInRange) (h : step s = .next t) :
    t.countersInRange := by
  unfold step at h
  split at h
  next =>
    obtain rfl : s.tick = t := Host.Outcome.next.inj h
    exact (keeps_tick Has.self Leads.self).countersInRange hs
  next c rest _ => exact (exec_leads h).countersInRange (countersInRange_withPending rest hs)

theorem reset_countersInRange : State.reset.countersInRange := List.forall_mem_nil _

/-- Settles O6: a tick and every command change the Tallies only in ways that keep the counters in range. -/
theorem countersNeverWrap : Obligations.CountersNeverWrap :=
  ⟨fun _ _ => step_keeps_countersInRange, reset_countersInRange⟩

end Sys2Proof.Machine
end

section
/-! SUPPORT. The swap of a transfer (R260, R261): the byte that each code takes, the check of a reserved code, and what a
burst writes of a source without poison (R265). -/

namespace Sys2Proof.Machine

/-! ### The byte a swap takes (R260) -/

/-- A mask below a power of two rearranges the numbers within each run of that length. -/
theorem xor_of_lt_two_pow {k m : Nat} (hm : m < 2 ^ k) (i : Nat) :
    i ^^^ m = 2 ^ k * (i / 2 ^ k) + (i % 2 ^ k ^^^ m) := by
  calc i ^^^ m
      = 2 ^ k * ((i ^^^ m) / 2 ^ k) + (i ^^^ m) % 2 ^ k := (Nat.div_add_mod _ _).symm
    _ = 2 ^ k * (i / 2 ^ k) + (i % 2 ^ k ^^^ m) := by
      rw [Nat.xor_div_two_pow, Nat.div_eq_of_lt hm, Nat.xor_zero, Nat.xor_mod_two_pow, Nat.mod_eq_of_lt hm]

@[simp] theorem swapIndex_zero (i : Nat) : swapIndex 0 i = i := Nat.xor_zero i

theorem swapIndex_one (i : Nat) : swapIndex 1 i = 2 * (i / 2) + (1 - i % 2) := by
  have hhalf : ∀ r < 2, r ^^^ 1 = 1 - r := by decide
  calc swapIndex 1 i
      = 2 * (i / 2) + (i % 2 ^^^ 1) := xor_of_lt_two_pow (k := 1) (by decide) i
    _ = 2 * (i / 2) + (1 - i % 2) := by rw [hhalf _ (Nat.mod_lt _ (by decide))]

theorem swapIndex_two (i : Nat) : swapIndex 2 i = 4 * (i / 4) + (3 - i % 4) := by
  have hword : ∀ r < 4, r ^^^ 3 = 3 - r := by decide
  calc swapIndex 2 i
      = 4 * (i / 4) + (i % 4 ^^^ 3) := xor_of_lt_two_pow (k := 2) (by decide) i
    _ = 4 * (i / 4) + (3 - i % 4) := by rw [hword _ (Nat.mod_lt _ (by decide))]

theorem swapIndex_three (i : Nat) : swapIndex 3 i = 4 * (i / 4) + (i % 4 + 2) % 4 := by
  have hword : ∀ r < 4, r ^^^ 2 = (r + 2) % 4 := by decide
  calc swapIndex 3 i
      = 4 * (i / 4) + (i % 4 ^^^ 2) := xor_of_lt_two_pow (k := 2) (by decide) i
    _ = 4 * (i / 4) + (i % 4 + 2) % 4 := by rw [hword _ (Nat.mod_lt _ (by decide))]

/-! ### Reserved codes (R259, R261) -/

theorem reserved_of_swap {x : Desc} (h : 4 ≤ x.swap) (raw : List Byte) : x.reserved raw = true := by
  simp [Desc.reserved, h]

theorem ite_code_ne_zero {c : Prop} [Decidable c] {a b : Nat} (ha : a ≠ 0) (hb : b ≠ 0) :
    (if c then a else b) ≠ 0 := by
  by_cases hc : c
  · rwa [if_pos hc]
  · rwa [if_neg hc]

/-- The checks before that of the reserved fields answer with codes of their own, none of them 0. -/
theorem checkDesc_ne_zero_of_reserved {x : Desc} {raw : List Byte} (h : x.reserved raw = true) (s : State)
    (d k n : Nat) : s.checkDesc d k n x raw ≠ 0 := by
  simp only [State.checkDesc, if_pos h]
  exact ite_code_ne_zero (by decide) <| ite_code_ne_zero (by decide) <| ite_code_ne_zero (by decide) <|
    ite_code_ne_zero (by decide) <| ite_code_ne_zero (by decide) (by decide)

/-! ### The bytes of a burst (R265) -/

theorem poison_getD {span : List (Byte × Bool)} (hclean : ∀ v ∈ span, v.2 = false) (i : Nat) :
    (span.getD i (0, false)).2 = false := by
  rw [List.getD_eq_getElem?_getD]
  cases hi : span[i]? with
  | none => rfl
  | some v => exact hclean v (List.mem_of_getElem? hi)

theorem getElem?_burstBytes_of_clean (x : Desc) {b : Burst} (lo : Nat) {i : Nat} {span : List (Byte × Bool)}
    (hi : i < b.len) (hclean : ∀ v ∈ span, v.2 = false) :
    (burstBytes x b lo span)[i]? =
      some (swapIndex x.swap (b.off + i), span.getD (swapIndex x.swap (b.off + i) - lo) (0, false)) := by
  simp only [burstBytes, List.getElem?_map, List.getElem?_range hi, Option.map_some, poison_getD hclean,
    Bool.false_eq_true, if_false]

/-- Settles O9: the index of each code is an XOR below its unit, and without poison a burst writes the bytes so indexed. -/
theorem swapsRearrangeUnits : Obligations.SwapsRearrangeUnits := by
  unfold Obligations.SwapsRearrangeUnits
  refine ⟨fun i => ⟨swapIndex_zero i, swapIndex_one i, swapIndex_two i, swapIndex_three i⟩, by decide, ?_, ?_⟩
  · exact fun s d k n x raw hswap => checkDesc_ne_zero_of_reserved (reserved_of_swap hswap raw) s d k n
  · exact fun x b lo i span hi hclean => getElem?_burstBytes_of_clean x lo hi hclean

end Sys2Proof.Machine
end

section
/-! SUPPORT. The generation of a staged Charter (R446, R448): when the check answers that it is stale, and which commands
leave MRAM as it is, where the last posted generation lies. -/

namespace Sys2Proof.Machine

/-! ### The check (R446, R448) -/

theorem charterStale_iff (s : State) (gen : Nat) :
    s.charterStale gen = true ↔ ∃ p, s.mram.postedGen = some p ∧
      ¬(1 ≤ (gen + 65536 - p.toNat) % 65536 ∧ (gen + 65536 - p.toNat) % 65536 ≤ 32767) := by
  unfold State.charterStale
  cases s.mram.postedGen with
  | none => simp
  | some p =>
    simp only [Option.some.injEq, exists_eq_left', Bool.or_eq_true, beq_iff_eq, decide_eq_true_eq]
    omega

/-- The tests behind that of the generation answer with statuses of their own (R446, orders 6 and 7). -/
theorem charterStatus_ne_stale {s : State} {base len gen : Nat} {done : Bool} (ht : s.charterTarget base gen = true)
    (hs : s.charterSound base len = true) (hfresh : s.charterStale gen = false) :
    (s.charterStatus base len gen done).1 ≠ stCharterStale := by
  simp only [State.charterStatus, ht, hs, hfresh, Bool.not_true, Bool.false_eq_true, if_false]
  cases s.hardwareCheck base with
  | some d => exact show stCharterCheck ≠ stCharterStale by decide
  | none =>
    cases done with
    | false => exact show stCharterCheck ≠ stCharterStale by decide
    | true =>
      cases s.conflict base with
      | some d => exact show stCharterConflict ≠ stCharterStale by decide
      | none => exact show stOk ≠ stCharterStale by decide

/-- Target and signature are tested first, so that an image wrong in them never reads as stale. -/
theorem charterStatus_eq_stale_iff (s : State) (base len gen : Nat) (done : Bool) :
    (s.charterStatus base len gen done).1 = stCharterStale ↔
      s.charterTarget base gen = true ∧ s.charterSound base len = true ∧ s.charterStale gen = true := by
  cases ht : s.charterTarget base gen with
  | false => simp [State.charterStatus, ht, stCharterTarget, stCharterStale]
  | true =>
    cases hs : s.charterSound base len with
    | false => simp [State.charterStatus, ht, hs, stCharterSignature, stCharterStale]
    | true =>
      cases hstale : s.charterStale gen with
      | false => simp [charterStatus_ne_stale ht hs hstale]
      | true => simp [State.charterStatus, ht, hs, hstale]

/-! ### What keeps MRAM (R439) -/

/-- A command without MRAM in its footprint leaves MRAM as it is. -/
theorem exec_keeps_mram {i : Instr} {s t : State} (hi : StatePart.mram ∉ footprint i) (e : exec i s = .next t) :
    t.mram = s.mram :=
  (exec_leads e).same .mram (footMask_eq i ▸ maskOf_off .mram hi)

theorem exists_next_keeps_postedGen {i : Instr} {s t : State} (hi : StatePart.mram ∉ footprint i)
    (e : exec i s = .next t) : ∃ t, exec i s = .next t ∧ t.mram.postedGen = s.mram.postedGen :=
  ⟨t, e, congrArg Mram.postedGen (exec_keeps_mram hi e)⟩

/-- Settles O8: the generation is tested right behind target and signature, and no reset has MRAM in its footprint. -/
theorem staleChartersAreRefused : Obligations.StaleChartersAreRefused := by
  unfold Obligations.StaleChartersAreRefused
  refine ⟨fun s base len gen done _ => ?_, fun i s hreset => ?_⟩
  · rw [charterStatus_eq_stale_iff, charterStale_iff]
  · obtain rfl | rfl | ⟨w, rfl⟩ | ⟨w, rfl⟩ | ⟨h, c, rfl⟩ := hreset
    · exact exists_next_keeps_postedGen (t := s.powerOn) (by simp [footprint]) rfl
    · exact exists_next_keeps_postedGen (t := s.resetBySystem 1) (by simp [footprint]) rfl
    · exact exists_next_keeps_postedGen (t := s.cmdSystem w) (by simp [footprint]) rfl
    · exact exists_next_keeps_postedGen (t := s.cmdCore w) (by simp [footprint]) rfl
    · exact exists_next_keeps_postedGen (t := s.resetBySystem 4) (by simp [footprint]) rfl

end Sys2Proof.Machine
end

section
/-! SUPPORT. What every step keeps (O2, O3, O5, O7): each claim is a property that no change of the list `Closed` breaks,
and `exec_leads` says that a command is made of such changes within its footprint. -/

namespace Sys2Proof.Machine

/-! ### Two kinds of step -/

theorem step_of_empty {s : State} (h : s.pending = []) : step s = .next s.tick := by
  unfold step
  rw [h]

theorem step_of_cons {s : State} {c : Instr} {rest : List Instr} (h : s.pending = c :: rest) :
    step s = exec c { s with pending := rest } := by
  unfold step
  rw [h]

/-- Settles O1: it is what `step` says of a queue with a front. -/
theorem stepRunsFrontCommand : Obligations.StepRunsFrontCommand := fun _ _ _ => step_of_cons rfl

/-- A property that no change of the list breaks, and that does not look at the queue, is kept by every step. -/
theorem step_keeps {Q : View → Prop} (hQ : Closed Q) (hpending : ∀ v l, Q v → Q { v with pending := l })
    {s t : State} (hs : Q s.view) (h : step s = .next t) : Q t.view := by
  cases hp : s.pending with
  | nil =>
    obtain rfl : s.tick = t := Host.Outcome.next.inj (step_of_empty hp ▸ h)
    exact (keeps_tick Has.self Leads.self).go Q hQ hs
  | cons c rest =>
    rw [step_of_cons hp] at h
    exact (exec_leads h).go Q hQ (hpending _ rest hs)

/-! ### The canonical form -/

/-- Memory, poison and the register bank are canonical. -/
def View.canonical (v : View) : Prop :=
  memWf v.mem = true ∧ smapWf false 0 v.poison = true ∧ bankWf 0 v.regs = true

theorem good_iff (s : State) : s.good = true ↔ s.view.canonical ∧ waitingWf s.pending = true := by
  simp only [State.good, Memory.wf, View.canonical, Bool.and_eq_true, and_assoc]

/-- Every change of a map goes through `put` or drops keys, and both keep the canonical form. -/
theorem closed_canonical : Closed View.canonical where
  cell _ a b := fun ⟨hm, hp, hr⟩ => ⟨put_wf 0 _ a b 0 (Nat.zero_le a) hm, hp, hr⟩
  keep _ p := fun ⟨hm, hp, hr⟩ => ⟨keepKeys_wf 0 _ p 0 hm, hp, hr⟩
  spoil _ a b := fun ⟨hm, hp, hr⟩ => ⟨hm, put_wf false _ a b 0 (Nat.zero_le a) hp, hr⟩
  clean _ p := fun ⟨hm, hp, hr⟩ => ⟨hm, keepKeys_wf false _ p 0 hp, hr⟩
  tally _ _ _ h := h
  reg _ a w := fun ⟨hm, hp, hr⟩ => ⟨hm, hp, bankWf_put _ a w 0 (Nat.zero_le a) hr⟩
  clear _ p := fun ⟨hm, hp, hr⟩ => ⟨hm, hp, bankWf_keep _ p 0 hr⟩
  fuse _ h := h
  seed _ h := h
  life _ h := h
  count _ _ _ h := h

/-- No change of the list touches the queue. -/
theorem closed_pending (l : List Instr) : Closed (fun v => v.pending = l) where
  cell _ _ _ h := h
  keep _ _ h := h
  spoil _ _ _ h := h
  clean _ _ h := h
  tally _ _ _ h := h
  reg _ _ _ h := h
  clear _ _ h := h
  fuse _ h := h
  seed _ h := h
  life _ h := h
  count _ _ _ h := h

theorem exec_pending {i : Instr} {s t : State} (h : exec i s = .next t) : t.pending = s.pending :=
  (exec_leads h).go _ (closed_pending s.pending) rfl

theorem tick_pending (s : State) : s.tick.pending = s.pending :=
  (keeps_tick Has.self Leads.self).go _ (closed_pending s.pending) rfl

/-- What waits after a step waited before it. -/
theorem step_pending {s t : State} (h : step s = .next t) : t.pending = s.pending.tail := by
  cases hp : s.pending with
  | nil =>
    obtain rfl : s.tick = t := Host.Outcome.next.inj (step_of_empty hp ▸ h)
    rw [tick_pending, hp, List.tail_nil]
  | cons c rest =>
    rw [step_of_cons hp] at h
    exact exec_pending h

theorem waitingWf_tail {l : List Instr} (h : waitingWf l = true) : waitingWf l.tail = true := by
  cases l with
  | nil => exact h
  | cons c rest => exact (Bool.and_eq_true_iff.mp h).2

/-- Settles O3: every change keeps the maps canonical, and what waits after a step waited before it. -/
theorem stepKeepsGoodState : Obligations.StepKeepsGoodState := by
  intro s t hs h
  obtain ⟨hcanonical, hwaiting⟩ := (good_iff s).mp hs
  refine (good_iff t).mpr ⟨step_keeps closed_canonical (fun _ _ hv => hv) hcanonical h, ?_⟩
  rw [step_pending h]
  exact waitingWf_tail hwaiting

/-- Settles O4: every map of the reset state is empty. -/
theorem resetStateIsGood : Obligations.ResetStateIsGood := ⟨rfl, rfl⟩

/-! ### Footprints -/

/-- A command leaves every part outside its footprint as it is. -/
theorem exec_same {i : Instr} {s t : State} {p : StatePart} (h : exec i s = .next t) (hp : p ∉ footprint i) :
    p.same s t :=
  (exec_leads h).same p (footMask_eq i ▸ maskOf_off p hp)

/-- Settles O5: the footprint is what `exec_leads` bounds a command by. -/
theorem commandStaysInFootprint : Obligations.CommandStaysInFootprint := fun _ _ _ _ h hp => exec_same h hp

/-! ### What is destroyed or used up -/

/-- No change takes the fuse back. -/
theorem closed_fuse : Closed (fun v => v.fuse = true) where
  cell _ _ _ h := h
  keep _ _ h := h
  spoil _ _ _ h := h
  clean _ _ h := h
  tally _ _ _ h := h
  reg _ _ _ h := h
  clear _ _ h := h
  fuse _ _ := rfl
  seed _ h := h
  life _ h := h
  count _ _ _ h := h

/-- No change brings the seed back. -/
theorem closed_seed : Closed (fun v => v.seed = false) where
  cell _ _ _ h := h
  keep _ _ h := h
  spoil _ _ _ h := h
  clean _ _ h := h
  tally _ _ _ h := h
  reg _ _ _ h := h
  clear _ _ h := h
  fuse _ h := h
  seed _ _ := rfl
  life _ h := h
  count _ _ _ h := h

/-- The owner counter changes only to a larger number. -/
theorem closed_ownerCounter (c : Word32) : Closed (fun v => ∃ d, v.count = some d ∧ c ≤ d) where
  cell _ _ _ h := h
  keep _ _ h := h
  spoil _ _ _ h := h
  clean _ _ h := h
  tally _ _ _ h := h
  reg _ _ _ h := h
  clear _ _ h := h
  fuse _ h := h
  seed _ h := h
  life _ h := h
  count _ e larger := fun ⟨d, hd, hle⟩ => ⟨e, rfl, by have := larger d hd; bv_omega⟩

/-- Settles O7: no change of the list undoes the fuse, brings back the seed or lowers the owner counter. -/
theorem destroyedIdentityAndUsedCountersStay : Obligations.DestroyedIdentityAndUsedCountersStay :=
  ⟨fun _ _ h => ⟨fun hs => step_keeps closed_fuse (fun _ _ hv => hv) hs h,
      fun hs => step_keeps closed_seed (fun _ _ hv => hv) hs h⟩,
    fun _ _ c h hs => step_keeps (closed_ownerCounter c) (fun _ _ hv => hv) ⟨c, hs, BitVec.le_refl c⟩ h⟩

/-! ### One tick -/

/-- The registers that time moves: each timer's count, each converter's settle count and its status. -/
def movesWithTime (a : Nat) : Prop :=
  (∃ d k, siteOf a = (.tmr d k, 8)) ∨ ∃ i < 6, a = AUD_SETTLE i ∨ a = AUD_STAT i

theorem reg_tickSettle {s : State} {a : Nat} (h : ¬ movesWithTime a) : s.tickSettle.reg a = s.reg a := by
  unfold State.tickSettle
  refine List.foldlRecOn (motive := fun t : State => t.reg a = s.reg a) _ _ rfl fun t ht i hi => ?_
  have hi : i < 6 := List.mem_range.mp hi
  have hsettle : AUD_SETTLE i ≠ a := fun e => h (.inr ⟨i, hi, .inl e.symm⟩)
  have hstat : AUD_STAT i ≠ a := fun e => h (.inr ⟨i, hi, .inr e.symm⟩)
  extract_lets half left
  split
  · rw [reg_setFlag_other hstat, reg_setFld_other hsettle, ht]
  · exact ht

theorem reg_tickTimers {s : State} {a : Nat} (h : ¬ movesWithTime a) : s.tickTimers.reg a = s.reg a := by
  unfold State.tickTimers
  refine List.foldlRecOn (motive := fun t : State => t.reg a = s.reg a) _ _ rfl fun t ht e he => ?_
  obtain ⟨f, -, hf⟩ := List.mem_filterMap.mp he
  have hsite : ∃ d k, siteOf e.1 = (.tmr d k, 8) := by
    split at hf
    next d k hsite =>
      split at hf
      · exact ⟨d, k, Option.some.inj hf ▸ hsite⟩
      · exact absurd hf nofun
    next => exact absurd hf nofun
  have hne : e.1 ≠ a := fun ea => h (.inl (ea ▸ hsite))
  rw [reg_setReg_other hne, ht]

theorem stwStat_stands {h : Nat} (hh : h < 2) : ¬ movesWithTime (STW_STAT h) := by
  rintro (⟨d, k, e⟩ | ⟨i, hi, e⟩)
  · have hsite : ∀ h < 2, (siteOf (STW_STAT h)).1 = .stw h := by decide
    exact absurd ((congrArg Prod.fst e).symm.trans (hsite h hh)) nofun
  · simp only [STW_STAT, AUD_SETTLE, AUD_STAT, stw, aud] at e
    omega

/-- The registers and clocks of a tick before its copies move. -/
def State.tickParts (s : State) : State := s.tickSettle.tickVault.tickTimers

theorem tickParts_stwStat (s : State) {h : Nat} (hh : h < 2) : s.tickParts.reg (STW_STAT h) = s.reg (STW_STAT h) := by
  unfold State.tickParts
  rw [reg_tickTimers (stwStat_stands hh)]
  exact reg_tickSettle (stwStat_stands hh)

theorem tickTimers_time (s : State) : s.tickTimers.time = s.time :=
  (keeps_tickTimers (fp := 0x2) Has.self Leads.self).same .time rfl

theorem tickSettle_time (s : State) : s.tickSettle.time = s.time :=
  (keeps_tickSettle (fp := 0x2) Has.self Leads.self).same .time rfl

theorem tick_time (s : State) :
    ∃ phases, s.tick.time = ({ s.time with vaultPhase := phases } : Time).advance (s.senior.getD 0) s.contact := by
  have hsenior : s.tickParts.senior = s.senior := by
    unfold State.senior State.flag
    rw [tickParts_stwStat s (show 0 < 2 by decide), tickParts_stwStat s (show 1 < 2 by decide)]
  have hcontact : s.tickParts.contact = s.contact := by
    unfold State.contact State.flag
    rw [tickParts_stwStat s (show 0 < 2 by decide), tickParts_stwStat s (show 1 < 2 by decide)]
  refine ⟨s.tickParts.time.vaultPhase, ?_⟩
  have htime : s.tickParts.time = { s.time with vaultPhase := s.tickParts.time.vaultPhase } := by
    unfold State.tickParts
    rw [tickTimers_time]
    simp only [State.tickVault, tickSettle_time]
  calc s.tick.time = s.tickParts.time.advance (s.tickParts.senior.getD 0) s.tickParts.contact := rfl
    _ = _ := by rw [hsenior, hcontact, ← htime]

theorem advance_north {t : Time} {h : Nat} {contact : Bool} (hh : h ≠ 1) : (t.advance h contact).north = t.north + 1 := by
  unfold Time.advance
  simp only [if_neg hh]

theorem advance_south {t : Time} {contact : Bool} : (t.advance 1 contact).south = t.south + 1 := by
  unfold Time.advance
  simp only [if_true]

/-- Without slewing both copies move by one. -/
theorem advance_both {t : Time} {h : Nat} {contact : Bool} (hslew : contact = false ∨ t.slewDiff = 0 ∨ 0 < t.slewWait) :
    (t.advance h contact).north = t.north + 1 ∧ (t.advance h contact).south = t.south + 1 := by
  have hj : (if contact then slewStep t else 1) = 1 := by
    rcases hslew with rfl | hs
    · rfl
    · rw [slewStep, if_pos hs, ite_self]
  unfold Time.advance
  simp only [hj]
  split
  · exact ⟨rfl, rfl⟩
  · exact ⟨rfl, rfl⟩

/-- A tick touches time and registers alone. -/
theorem tick_same {s : State} {p : StatePart} (ht : p ≠ .time) (hr : p ≠ .regs) : p.same s s.tick :=
  (keeps_tick (fp := maskOf [.regs, .time]) Has.self Leads.self).same p (maskOf_off p (by simp [ht, hr]))

/-- Settles O2: a tick advances the copies as `Time.advance` says, and no change of a command touches the queue. -/
theorem emptyQueueIsOneTick : Obligations.EmptyQueueIsOneTick := by
  unfold Obligations.EmptyQueueIsOneTick
  refine ⟨fun s hs => ⟨s.tick, step_of_empty hs, ?_⟩, fun _ _ _ => exec_pending, fun c rest s t hs h => ?_⟩
  · obtain ⟨phases, htime⟩ := tick_time s
    rw [htime, tick_pending]
    refine ⟨fun hsenior => advance_north ?_, fun hsenior => ?_, fun hslew => advance_both hslew, fun p ht hr => tick_same ht hr, hs⟩
    · intro h1
      cases hsen : s.senior with
      | none => rw [hsen] at h1; exact absurd h1 (by decide)
      | some k => rw [hsen] at h1; exact hsenior (hsen.trans (congrArg some h1))
    · rw [hsenior]
      exact advance_south
  · rw [step_pending h, hs, List.tail_cons]

end Sys2Proof.Machine
end

section
/-! SUPPORT. Commands of the Warrant holder (O60): each tests first that its writer is the holder's PF. -/

namespace Sys2Proof.Machine

theorem rstCmd_of_not_holder {s : State} {w : Src} (h : s.holder w = false) : s.rstCmd w = false := by
  simp [State.rstCmd, h]

theorem cmdDecommission_of_not_holder {s : State} {w : Src} (h : s.holder w = false) : s.cmdDecommission w = s := by
  unfold State.cmdDecommission
  cases s.rst.armedAt with
  | none => rfl
  | some a => simp [rstCmd_of_not_holder h]

/-- Settles O60: the writer is tested before anything else is done. -/
theorem otherWritersChangeNothing : Obligations.OtherWritersChangeNothing := by
  intro w s h
  have hrst := rstCmd_of_not_holder h
  have stays {t : State} (ht : t = s) : (.next t : Host.Outcome State Fault Refusal) = .next s := congrArg _ ht
  refine ⟨stays ?_, stays ?_, stays ?_, stays (cmdDecommission_of_not_holder h), stays ?_, stays ?_, stays ?_,
    stays ?_, stays ?_, stays ?_, stays ?_, fun v => stays ?_, fun b => stays ?_, fun c => stays ?_,
    fun d u => stays ?_, fun i => stays ?_, fun i m => stays ?_, fun d k v => ⟨stays ?_, stays ?_⟩,
    fun d k => ⟨stays ?_, stays ?_⟩, fun b => stays ?_, fun b v => stays ?_, fun tail => stays ?_⟩
  · simp [State.cmdSystem, hrst]
  · simp [State.cmdCore, hrst]
  · simp [State.cmdArm, hrst]
  · simp [State.handoverWrite, h]
  · simp [State.fwStart, h]
  · simp [State.reqRun, h]
  · simp [State.reqHold, h]
  · simp [State.reqSleep, h]
  · simp [State.clearTrip, h]
  · simp [State.alarmRelease, h]
  · simp [State.raiseLevels, h]
  · simp [State.extendWrite, h]
  · simp [State.writeCap, h]
  · simp [State.calStart, h]
  · simp [State.refbufOn, h]
  · simp [State.clearTrackers, h]
  · simp [State.timerCtrl, h]
  · simp [State.timerPeriod, h]
  · simp [State.dmaGo, h]
  · simp [State.dmaStop, h]
  · simp [State.blockReset, h]
  · simp [State.quiesceWrite, h]
  · simp [State.flogTail, h]

end Sys2Proof.Machine
end

section
/-! SUPPORT. Frames of registers: what a chain of register writes leaves as it was. -/

namespace Sys2Proof.Machine

theorem onlyRegs_refl (as : List Nat) (s : State) : onlyRegs as s s := fun _ _ => rfl

theorem onlyRegs_trans {as : List Nat} {s t u : State} (h : onlyRegs as s t) (k : onlyRegs as t u) : onlyRegs as s u :=
  fun a ha => (k a ha).trans (h a ha)

theorem onlyRegs_mono {as bs : List Nat} {s t : State} (hsub : ∀ a ∈ as, a ∈ bs) (h : onlyRegs as s t) :
    onlyRegs bs s t := fun a ha => h a (fun hm => ha (hsub a hm))

theorem onlyRegs_setReg {as : List Nat} {s t : State} {a : Nat} {v : Word64} (ha : a ∈ as) (h : onlyRegs as s t) :
    onlyRegs as s (t.setReg a v) := fun b hb => by
  have hne : a ≠ b := fun e => hb (e ▸ ha)
  rw [reg_setReg_other hne, h b hb]

theorem onlyRegs_setFld {as : List Nat} {s t : State} {a hi lo v : Nat} (ha : a ∈ as) (h : onlyRegs as s t) :
    onlyRegs as s (t.setFld a hi lo v) := onlyRegs_setReg ha h

theorem onlyRegs_setFlag {as : List Nat} {s t : State} {a k : Nat} {b : Bool} (ha : a ∈ as) (h : onlyRegs as s t) :
    onlyRegs as s (t.setFlag a k b) := onlyRegs_setReg ha h

theorem onlyRegs_bump {as : List Nat} {s t : State} {a n : Nat} (ha : a ∈ as) (h : onlyRegs as s t) :
    onlyRegs as s (t.bump a n) := onlyRegs_setReg ha h

theorem onlyRegs_of_regs {as : List Nat} {s t : State} (h : t.regs = s.regs) : onlyRegs as s t :=
  fun a _ => congrArg (fun m => look (resetVal a) m a) h

theorem onlyRegs_foldl {α : Type} {as : List Nat} {s : State} {f : State → α → State} {l : List α}
    (hf : ∀ t x, x ∈ l → onlyRegs as s t → onlyRegs as s (f t x)) {i : State} (hi : onlyRegs as s i) :
    onlyRegs as s (l.foldl f i) :=
  List.foldlRecOn (motive := onlyRegs as s) l f hi fun t ht x hx => hf t x hx ht

/-- The parts outside a frame of a shared operation, from its mask. -/
theorem Leads.onlyParts {ps : List StatePart} {s t : State} (h : Leads (maskOf ps) s t) : onlyParts ps s t :=
  fun p hp => h.same p (maskOf_off p hp)

/-- A flag reads by its register alone. -/
theorem flag_of_reg {s t : State} {a : Nat} (h : t.reg a = s.reg a) (k : Nat) : t.flag a k = s.flag a k :=
  congrArg (bitOf · k) h

theorem fld_of_reg {s t : State} {a : Nat} (h : t.reg a = s.reg a) (hi lo : Nat) : t.fld a hi lo = s.fld a hi lo :=
  congrArg (bits · hi lo) h

/-- A field that reads `v`, or that is still to be written, reads `v` once it has been written in every register of a
list. -/
theorem fld_foldl_written {l : List Nat} {f : Nat → Nat} {a hi lo v : Nat} (h : lo ≤ hi) (h64 : hi < 64) :
    ∀ {s : State}, a ∈ l.map f ∨ s.fld a hi lo = v % 2 ^ (hi + 1 - lo) →
      (l.foldl (fun s m => s.setFld (f m) hi lo v) s).fld a hi lo = v % 2 ^ (hi + 1 - lo) := by
  induction l with
  | nil => exact fun hs => hs.resolve_left List.not_mem_nil
  | cons m l ih =>
    intro s hs
    rw [List.foldl_cons]
    refine ih ?_
    by_cases hm : f m = a
    · exact .inr (by rw [hm, fld_setFld_self h h64])
    · rw [fld_setFld_other hm]
      exact hs.imp_left fun ha => (List.mem_cons.mp ha).resolve_left (Ne.symm hm)

/-- One field written in every register of a list. -/
theorem fld_foldl_setFld {s : State} {l : List Nat} {f : Nat → Nat} {a hi lo v : Nat} (h : lo ≤ hi) (h64 : hi < 64)
    (ha : a ∈ l.map f) : (l.foldl (fun s m => s.setFld (f m) hi lo v) s).fld a hi lo = v % 2 ^ (hi + 1 - lo) :=
  fld_foldl_written h h64 (.inl ha)

end Sys2Proof.Machine
end

section
/-! SUPPORT. The resets (R439 to R441) and decommissioning (R454): what each level leaves of the registers, of memory and
of the tables. -/

namespace Sys2Proof.Machine

/-! ### The three levels -/

theorem reg_coreReset (s : State) (a : Nat) :
    s.coreReset.reg a = if coreClears a then resetVal a else s.reg a := reg_clearRegs

theorem reg_systemReset (s : State) (a : Nat) :
    s.systemReset.reg a = if systemClears a then resetVal a else s.coreReset.reg a := reg_clearRegs

theorem byte_coreReset (s : State) (a : Nat) : s.coreReset.byte a = if isLevel a then s.byte a else 0 := by
  refine (byte_wipe s (fun a => !isLevel a) a).trans ?_
  cases isLevel a
  · rfl
  · rfl

theorem systemClears_iff {a : Nat} : systemClears a = true ↔ a ≠ RST_CAUSE ∧ a ≠ SEC_DBG := by
  simp [systemClears]

/-- The registers that outlive a system reset. -/
theorem reg_systemReset_kept (s : State) {a : Nat} (ha : a = RST_CAUSE ∨ a = SEC_DBG) : s.systemReset.reg a = s.reg a := by
  have hsys : systemClears a = false := by
    obtain rfl | rfl := ha
    · rfl
    · rfl
  have hcore : coreClears a = false := by
    obtain rfl | rfl := ha
    · rfl
    · rfl
  rw [reg_systemReset, hsys, reg_coreReset, hcore]
  rfl

theorem reg_systemReset_cleared (s : State) {a : Nat} (hcause : a ≠ RST_CAUSE) (hdbg : a ≠ SEC_DBG) :
    s.systemReset.reg a = resetVal a := by
  rw [reg_systemReset, if_pos (systemClears_iff.mpr ⟨hcause, hdbg⟩)]

theorem reg_bootFrom_other {s : State} {n a : Nat} (h : a ≠ RST_BOOT) : (s.bootFrom n).reg a = s.reg a := by
  rw [State.bootFrom, reg_setFld_other h.symm, reg_setReg_other h.symm]

theorem phase_bootFrom (s : State) {n : Nat} (hn : n < 16) : (s.bootFrom n).fld RST_BOOT 29 26 = n := by
  rw [State.bootFrom, fld_setFld_self (by decide) (by decide)]
  omega

/-! ### A system reset (R440) -/

/-- The state of a system reset before boot goes on: its cause stands. -/
def State.resetWithCause (s : State) (cause : Nat) : State :=
  let t := s.systemReset.setFlag RST_CAUSE cause true
  { t with rst := { t.rst with notice := some 1 } }

theorem resetBySystem_eq (s : State) (cause : Nat) :
    s.resetBySystem cause = if s.rst.pwrgd then (s.resetWithCause cause).bootFrom 1 else s.resetWithCause cause := rfl

theorem reg_resetBySystem {s : State} {cause a : Nat} (h : a ≠ RST_BOOT) :
    (s.resetBySystem cause).reg a = (s.systemReset.setFlag RST_CAUSE cause true).reg a := by
  rw [resetBySystem_eq]
  split
  · rw [reg_bootFrom_other h]
    rfl
  · rfl

theorem phase_resetBySystem (s : State) (cause : Nat) :
    (s.resetBySystem cause).fld RST_BOOT 29 26 = if s.rst.pwrgd then 1 else 0 := by
  rw [resetBySystem_eq]
  cases s.rst.pwrgd with
  | true => exact phase_bootFrom _ (by decide)
  | false =>
    have hreg : (s.resetWithCause cause).reg RST_BOOT = resetVal RST_BOOT := by
      show (s.systemReset.setFlag RST_CAUSE cause true).reg RST_BOOT = resetVal RST_BOOT
      rw [reg_setFlag_other (by decide), reg_systemReset_cleared s (by decide) (by decide)]
    show bits ((s.resetWithCause cause).reg RST_BOOT) 29 26 = 0
    rw [hreg]
    decide

/-- Boot writes registers alone. -/
theorem same_resetBySystem (s : State) (cause : Nat) {p : StatePart} (hp : p ≠ .regs) :
    p.same (s.resetWithCause cause) (s.resetBySystem cause) := by
  rw [resetBySystem_eq]
  split
  · exact (keeps_bootFrom (fp := maskOf [.regs]) Has.self Leads.self).onlyParts p (by simp [hp])
  · exact Leads.self.same (fp := 0) p (Nat.zero_testBit _)

theorem mram_resetBySystem (s : State) (cause : Nat) : (s.resetBySystem cause).mram = s.mram :=
  same_resetBySystem s cause (p := .mram) nofun

theorem dir_resetBySystem (s : State) (cause : Nat) : (s.resetBySystem cause).dir = (s.mapDir DirEntry.afterReset).dir :=
  same_resetBySystem s cause (p := .dir) nofun

theorem byte_resetBySystem (s : State) (cause a : Nat) :
    (s.resetBySystem cause).byte a = if isLevel a then s.byte a else 0 := by
  rw [← byte_coreReset]
  exact congrArg (fun m => look 0 m a) (same_resetBySystem s cause (p := .mem) nofun)

theorem cause_resetBySystem (s : State) {cause : Nat} (h : cause < 64) :
    (s.resetBySystem cause).flag RST_CAUSE cause = true := by
  rw [flag_of_reg (reg_resetBySystem (show RST_CAUSE ≠ RST_BOOT by decide)), flag_setFlag_self h]

theorem otherCause_resetBySystem (s : State) {cause k : Nat} (h : cause < 64) (hk : k ≠ cause) :
    (s.resetBySystem cause).flag RST_CAUSE k = s.flag RST_CAUSE k := by
  rw [flag_of_reg (reg_resetBySystem (show RST_CAUSE ≠ RST_BOOT by decide)), flag_setFlag_apart h hk]
  exact flag_of_reg (reg_systemReset_kept s (.inl rfl)) k

theorem reg_resetBySystem_cleared (s : State) (cause : Nat) {a : Nat} (hcause : a ≠ RST_CAUSE) (hdbg : a ≠ SEC_DBG)
    (hboot : a ≠ RST_BOOT) : (s.resetBySystem cause).reg a = resetVal a := by
  rw [reg_resetBySystem hboot, reg_setFlag_other hcause.symm, reg_systemReset_cleared s hcause hdbg]

theorem unlockFailures_resetBySystem (s : State) (cause : Nat) :
    (s.resetBySystem cause).reg SEC_DBG = s.reg SEC_DBG := by
  rw [reg_resetBySystem (show SEC_DBG ≠ RST_BOOT by decide), reg_setFlag_other (by decide),
    reg_systemReset_kept s (.inr rfl)]

theorem rstCmd_of_holder {s : State} {w : Src} (h : s.holder w = true) (hc : s.contact = true)
    (hheld : s.anyHeld = false) : s.rstCmd w = true := by simp [State.rstCmd, h, hc, hheld]

/-! ### A core reset (R440) -/

theorem reg_resetByCore {s : State} {a : Nat} (h : a ≠ RST_BOOT) :
    s.resetByCore.reg a = (s.coreReset.setFlag RST_CAUSE 3 true).reg a := reg_bootFrom_other h

/-- What boot leaves as the core reset left it. -/
theorem same_resetByCore (s : State) {p : StatePart} (hr : p ≠ .regs) (hrst : p ≠ .rst) : p.same s.coreReset s.resetByCore := by
  have h : Leads (maskOf [.regs, .rst]) s.coreReset s.resetByCore := by
    unfold State.resetByCore
    exact keeps_bootFrom (Has.self.sub rfl) (keeps_put_rst (Has.self.sub rfl) (keeps_setFlag (Has.self.sub rfl) Leads.self))
  exact h.onlyParts p (by simp [hr, hrst])

theorem isCounter_stands {a : Nat} (h : isCounter a = true) : coreClears a = false ∧ a ≠ RST_CAUSE ∧ a ≠ RST_BOOT := by
  refine ⟨by simp [coreClears, h], ?_, ?_⟩
  · rintro rfl
    exact absurd h (by decide)
  · rintro rfl
    exact absurd h (by decide)

/-! ### The commands -/

/-- Settles O11: a reset's registers are those of its level with its cause set, and boot writes only its own phase. -/
theorem resetsLeaveResetValues : Obligations.ResetsLeaveResetValues := by
  unfold Obligations.ResetsLeaveResetValues
  refine ⟨fun i n s _ hi => ?_, fun s => ?_, fun w s _ hw hc hh => ?_⟩
  · have hn : n < 64 := by
      obtain ⟨-, rfl⟩ | ⟨w, -, rfl, -⟩ | ⟨h, c, -, rfl⟩ := hi
      · decide
      · decide
      · decide
    have hexec : exec i s = .next (s.resetBySystem n) := by
      obtain ⟨rfl, rfl⟩ | ⟨w, rfl, rfl, hw, hc, hh⟩ | ⟨h, c, rfl, rfl⟩ := hi
      · rfl
      · show Host.Outcome.next (s.cmdSystem w) = _
        rw [State.cmdSystem, if_pos (rstCmd_of_holder hw hc hh)]
      · rfl
    have same (p : StatePart) (hp : p ≠ .regs) := same_resetBySystem s n hp
    exact ⟨_, hexec, cause_resetBySystem s hn, fun k hk _ => otherCause_resetBySystem s hn hk,
      fun a => reg_resetBySystem_cleared s n, unlockFailures_resetBySystem s n, phase_resetBySystem s n,
      mram_resetBySystem s n, byte_resetBySystem s n, same .time nofun, same .seqs nofun, same .tallies nofun,
      same .queues nofun, same .folio nofun, same .dma nofun, same .aud nofun⟩
  · refine ⟨_, rfl, rfl, fun _ => rfl, fun a => ?_, rfl, rfl, rfl, rfl⟩
    exact look_filter 0 s.mem isLevel a
  · have same (p : StatePart) (hr : p ≠ .regs) (hrst : p ≠ .rst) := same_resetByCore s hr hrst
    refine ⟨s.resetByCore, ?_, ?_, fun k hk _ => ?_, phase_bootFrom _ (by decide), fun a ha => ?_,
      fun a ha hboot => ?_, fun a ha hcause hboot => ?_, same .mram nofun nofun, (congrArg Time.north (same .time nofun nofun) :),
      (congrArg Time.south (same .time nofun nofun) :), fun a => ?_, same .queues nofun nofun, same .tallies nofun nofun,
      same .folio nofun nofun⟩
    · show Host.Outcome.next (s.cmdCore w) = _
      rw [State.cmdCore, if_pos (rstCmd_of_holder hw hc hh)]
    · rw [flag_of_reg (reg_resetByCore (show RST_CAUSE ≠ RST_BOOT by decide)), flag_setFlag_self (by decide)]
    · rw [flag_of_reg (reg_resetByCore (show RST_CAUSE ≠ RST_BOOT by decide)), flag_setFlag_apart (by decide) hk]
      exact flag_of_reg (reg_coreReset s RST_CAUSE) k
    · obtain ⟨hclears, hcause, hboot⟩ := isCounter_stands ha
      rw [reg_resetByCore hboot, reg_setFlag_other hcause.symm, reg_coreReset, hclears]
      rfl
    · have hcause : a ≠ RST_CAUSE := by
        rintro rfl
        exact absurd ha (by decide)
      rw [reg_resetByCore hboot, reg_setFlag_other hcause.symm, reg_coreReset, if_pos ha]
    · rw [reg_resetByCore hboot, reg_setFlag_other hcause.symm, reg_coreReset, ha]
      rfl
    · rw [← byte_coreReset]
      exact congrArg (fun m => look 0 m a) (same .mem nofun nofun)

/-! ### The sweep and its end (R128, R129, R454) -/

/-- The sweep's progress is a field of sixteen registers. -/
theorem sweepProgress_regs (s : State) (n : Nat) :
    onlyRegs ((List.range 16).map MGV_SWEEP) s (s.sweepProgress n) := by
  unfold State.sweepProgress
  exact onlyRegs_foldl (fun t m hm ht => onlyRegs_setFld (List.mem_map_of_mem hm) ht) (onlyRegs_refl _ s)

theorem fld_sweepProgress (s : State) (n : Nat) {m : Nat} (hm : m < 16) :
    (s.sweepProgress n).fld (MGV_SWEEP m) 15 0 = n % 2 ^ 16 := by
  unfold State.sweepProgress
  exact fld_foldl_setFld (f := MGV_SWEEP) (by decide) (by decide) (List.mem_map_of_mem (List.mem_range.mpr hm))

theorem sweepProgress_same (s : State) (n : Nat) {p : StatePart} (hp : p ≠ .regs) : p.same s (s.sweepProgress n) :=
  (keeps_sweepProgress (fp := maskOf [.regs]) Has.self Leads.self).onlyParts p (by simp [hp])

/-- A sweep that has ended leaves MRAM's flag cleared and no level. -/
theorem mram_sweepEnd (s : State) : s.sweepEnd.mram = { s.mram with sweepPending := false } := by
  have hmram : ((s.wipe isLevel).sweepProgress 32768).mram = s.mram := sweepProgress_same _ _ (p := .mram) nofun
  simp only [State.sweepEnd, hmram]

theorem rst_sweepEnd (s : State) : s.sweepEnd.rst = s.rst := by
  have hrst : ((s.wipe isLevel).sweepProgress 32768).rst = s.rst := sweepProgress_same _ _ (p := .rst) nofun
  simp only [State.sweepEnd, hrst]

theorem byte_sweepEnd (s : State) {a : Nat} (ha : isLevel a = true) : s.sweepEnd.byte a = 0 := by
  have hmem : ((s.wipe isLevel).sweepProgress 32768).mem = (s.wipe isLevel).mem :=
    sweepProgress_same (s.wipe isLevel) 32768 (p := .mem) nofun
  have hend : s.sweepEnd.mem = (s.wipe isLevel).mem := by simp only [State.sweepEnd, hmem]
  calc s.sweepEnd.byte a = (s.wipe isLevel).byte a := congrArg (fun m => look 0 m a) hend
    _ = 0 := by rw [byte_wipe, if_pos ha]

/-- A decommissioned device, before the reset that ends it. -/
def State.decommissioned (s : State) : State :=
  { s with
    dir := [], epochs := Epochs.none,
    log := { s.log with fenced := [], newPerm := [] },
    probes := Probes.idle,
    mram := { s.mram with daybook := [], surplus := [], setCrc0 := [], postedGen := none, probeSet := none,
                          owner := [], domainKey := none } }

theorem byte_decommissioned (s : State) (a : Nat) : s.decommissioned.byte a = s.byte a := rfl

theorem mram_decommissioned (s : State) : s.decommissioned.mram =
    { s.mram with daybook := [], surplus := [], setCrc0 := [], postedGen := none, probeSet := none,
                  owner := [], domainKey := none } := rfl

theorem sweepDone_of_decommissioning {s : State} (hsweep : s.mram.sweepPending = true)
    (hdestroy : s.mram.destroyPending = false) (hdec : s.rst.decommissioning = true) :
    s.sweepDone = s.sweepEnd.decommissioned.resetBySystem 2 := by
  have hno : ¬ s.sweepEnd.mram.destroyPending = true := by
    rw [mram_sweepEnd]
    exact Bool.eq_false_iff.mp hdestroy
  have hyes : s.sweepEnd.rst.decommissioning = true := by rw [rst_sweepEnd, hdec]
  unfold State.sweepDone
  rw [hsweep, Bool.not_true, if_neg Bool.false_ne_true]
  dsimp only
  rw [if_neg hno, if_pos hyes]
  rfl

/-- Settles O12: each command's tests hold by hypothesis, and the end of the sweep is a system reset of the state it
leaves. -/
theorem decommissioningSequence : Obligations.DecommissioningSequence := by
  unfold Obligations.DecommissioningSequence
  refine ⟨fun w s hw hc hh hlive => ?_, fun w s a hw hc hh hlive harm hage => ?_, fun s _ hstart hsweep => ?_,
    fun s _ hsweep hdestroy hdec => ?_⟩
  · show Host.Outcome.next (s.cmdArm w) = _
    simp [State.cmdArm, rstCmd_of_holder hw hc hh, hlive]
  · show Host.Outcome.next (s.cmdDecommission w) = _
    simp only [State.cmdDecommission, harm, rstCmd_of_holder hw hc hh, hlive, decide_eq_true hage, Bool.not_false,
      Bool.and_self, if_true]
  · have hbegin : s.sweepBegin = s.sweepStart := by
      rcases hstart with h | h
      · simp [State.sweepBegin, h, hsweep]
      · simp [State.sweepBegin, h, hsweep]
    have hparts (p : StatePart) (hp : p ≠ .regs) :
        p.same { s with mram := { s.mram with sweepPending := true }, groups := [] } s.sweepStart :=
      sweepProgress_same _ 0 hp
    refine ⟨s.sweepStart, congrArg Host.Outcome.next hbegin, hparts .mram nofun, hparts .groups nofun, fun m hm => ?_, fun a ha => ?_⟩
    · exact fld_sweepProgress _ 0 hm
    · have hregs : onlyRegs ((List.range 16).map MGV_SWEEP)
          { s with mram := { s.mram with sweepPending := true }, groups := [] } s.sweepStart := sweepProgress_regs _ 0
      refine hregs a fun hm => ?_
      obtain ⟨m, hmem, rfl⟩ := List.mem_map.mp hm
      exact ha m (List.mem_range.mp hmem) rfl
  · refine ⟨_, congrArg Host.Outcome.next (sweepDone_of_decommissioning hsweep hdestroy hdec), cause_resetBySystem _ (by decide),
      fun a ha => ?_, dir_resetBySystem _ 2, ?_⟩
    · rw [byte_resetBySystem, if_pos ha, byte_decommissioned, byte_sweepEnd s ha]
    · rw [mram_resetBySystem, mram_decommissioned, mram_sweepEnd]

end Sys2Proof.Machine
end

section
/-! SUPPORT. The release order, boot, heartbeats and contact (R433 to R435, R442, R451). -/

namespace Sys2Proof.Machine

/-! ### Statements and notices -/

/-- The registers that handing a Statement to a lane may change. -/
def deliverRegs (p l : Nat) : List Nat := [TLR_RPTR p l, TLR_LSTAT p l, HPT_CNT_STMTLOST p]

theorem regs_announce (s : State) (p fn v : Nat) : (s.announce p fn v).regs = s.regs :=
  (keeps_announce Has.self Leads.self).same .regs rfl

theorem onlyRegs_loseEntries (s : State) (p l n : Nat) : onlyRegs (deliverRegs p l) s (s.loseEntries p l n) := by
  unfold State.loseEntries
  split
  · exact onlyRegs_refl _ s
  · exact onlyRegs_bump (by simp [deliverRegs]) (onlyRegs_setFlag (by simp [deliverRegs]) (onlyRegs_refl _ s))

theorem onlyRegs_ringWrite (s : State) (p l : Nat) (st : List Entry) :
    onlyRegs (deliverRegs p l) s (s.ringWrite p l st) := by
  have hsends : ∀ (l : List (Entry × Nat)) (f : Entry × Nat → Out), (l.foldl (fun s e => s.send (f e)) s).regs = s.regs :=
    fun l f => List.foldlRecOn (motive := fun t : State => t.regs = s.regs) l _ rfl fun _ ht _ _ => ht
  unfold State.ringWrite
  extract_lets n h fn base sent h' moved told lane unsaid count counted
  have hsent : onlyRegs (deliverRegs p l) s sent := onlyRegs_of_regs (hsends _ _)
  have hcounted : onlyRegs (deliverRegs p l) s counted :=
    onlyRegs_setFld (t := sent) (hi := 15) (lo := 0) (v := h') (by simp [deliverRegs]) hsent
  split
  · exact onlyRegs_trans hcounted (onlyRegs_of_regs (regs_announce _ _ _ _))
  · exact hcounted

theorem onlyRegs_deliver (s : State) (p l : Nat) (st : List Entry) :
    onlyRegs (deliverRegs p l) s (s.deliver p l st) := by
  unfold State.deliver
  split
  · exact onlyRegs_loseEntries s p l _
  · extract_lets lane room kept queued
    have hqueued : onlyRegs (deliverRegs p l) s queued := by
      dsimp only [queued]
      split
      · exact onlyRegs_refl _ s
      · exact onlyRegs_of_regs rfl
    split
    · exact onlyRegs_ringWrite s p l st
    · exact onlyRegs_trans hqueued (onlyRegs_loseEntries queued p l _)

theorem onlyRegs_notice (s : State) (p step : Nat) (e : Event) :
    onlyRegs (deliverRegs p 0) s (s.notice p step e) := onlyRegs_deliver s p 0 _

/-! ### Contact and Held -/

theorem reg_withRst (s : State) (x : ResetCtl) (a : Nat) : ({ s with rst := x } : State).reg a = s.reg a := rfl

theorem stwStat_notDelivered (h p : Nat) (_ : h < 2) : STW_STAT h ∉ deliverRegs p 0 := by
  simp only [deliverRegs, STW_STAT, TLR_RPTR, TLR_LSTAT, HPT_CNT_STMTLOST, stw, tlr, hpt, List.mem_cons,
    List.not_mem_nil, or_false]
  omega

theorem stwStat_ne {h k : Nat} (hne : h ≠ k) : STW_STAT h ≠ STW_STAT k := by
  simp only [STW_STAT, stw]
  omega

/-- The state of a half that enters Held, before its notice. -/
def State.markHeld (s : State) (h cause : Nat) : State :=
  let t := (s.setFlag (STW_STAT h) 29 true).setFld (STW_STAT h) 27 26 cause
  { t with rst := { t.rst with heldSince := put 0 t.rst.heldSince h t.now } }

theorem reg_markHeld (s : State) (h cause a : Nat) :
    (s.markHeld h cause).reg a = ((s.setFlag (STW_STAT h) 29 true).setFld (STW_STAT h) 27 26 cause).reg a :=
  reg_withRst _ _ a

theorem enterHeld_of_free {s : State} {h : Nat} (hh : s.held h = false) (cause : Nat) :
    s.enterHeld h cause = (s.markHeld h cause).notice h (s.markHeld h cause).step (noticeEvent 0x50 h cause) :=
  if_neg (Bool.eq_false_iff.mp hh)

/-- A half that enters Held: its status says so and why, the other's stays. -/
theorem stwStat_enterHeld {s : State} {h cause k : Nat} (hh : s.held h = false) (hk : k < 2) :
    (s.enterHeld h cause).reg (STW_STAT k) =
      ((s.setFlag (STW_STAT h) 29 true).setFld (STW_STAT h) 27 26 cause).reg (STW_STAT k) := by
  rw [enterHeld_of_free hh, onlyRegs_notice _ _ _ _ _ (stwStat_notDelivered k h hk), reg_markHeld]

theorem arbitrated_enterHeld (s : State) (h cause : Nat) : (s.enterHeld h cause).rst.arbitrated = s.rst.arbitrated := by
  cases hh : s.held h with
  | true => rw [State.enterHeld, if_pos hh]
  | false =>
    have hrst : ((s.markHeld h cause).notice h (s.markHeld h cause).step (noticeEvent 0x50 h cause)).rst =
        (s.markHeld h cause).rst := (keeps_notice Has.self Leads.self).same .rst rfl
    rw [enterHeld_of_free hh, hrst]
    rfl

theorem held_enterHeld_self {s : State} {h cause : Nat} (hh : s.held h = false) (hk : h < 2) :
    (s.enterHeld h cause).held h = true := by
  show (s.enterHeld h cause).flag (STW_STAT h) 29 = true
  rw [flag_of_reg (stwStat_enterHeld hh hk), flag_setFld_apart (by decide) (by decide) (by decide),
    flag_setFlag_self (by decide)]

theorem cause_enterHeld_self {s : State} {h cause : Nat} (hh : s.held h = false) (hk : h < 2) (hc : cause < 4) :
    (s.enterHeld h cause).fld (STW_STAT h) 27 26 = cause := by
  rw [fld_of_reg (stwStat_enterHeld hh hk), fld_setFld_self (by decide) (by decide)]
  omega

/-- What a half's status says of contact is not touched as it enters Held. -/
theorem contactBit_enterHeld {s : State} {h cause k : Nat} (hh : s.held h = false) (hk : k < 2) :
    (s.enterHeld h cause).flag (STW_STAT k) 28 = s.flag (STW_STAT k) 28 := by
  rw [flag_of_reg (stwStat_enterHeld hh hk)]
  by_cases e : h = k
  · rw [e, flag_setFld_apart (by decide) (by decide) (by decide), flag_setFlag_apart (by decide) (by decide)]
  · rw [flag_setFld_other (stwStat_ne e), flag_setFlag_other (stwStat_ne e)]

theorem reg_enterHeld_other {s : State} {h cause k : Nat} (hh : s.held h = false) (hk : k < 2) (hne : h ≠ k) :
    (s.enterHeld h cause).reg (STW_STAT k) = s.reg (STW_STAT k) := by
  rw [stwStat_enterHeld hh hk, reg_setFld_other (stwStat_ne hne), reg_setFlag_other (stwStat_ne hne)]

theorem contact_of_lost {s : State} {h : Nat} (hh : h < 2) (hlost : s.flag (STW_STAT h) 28 = false) :
    s.contact = false := by
  obtain rfl | rfl : h = 0 ∨ h = 1 := by omega
  · simp [State.contact, hlost]
  · simp [State.contact, hlost]

/-- A half that hears no heartbeat loses contact and enters Held (R434). -/
theorem loseContact_spec {s : State} {h : Nat} (hh : h < 2) (hheld : s.held h = false) :
    (s.loseContact h).flag (STW_STAT h) 28 = false ∧ (s.loseContact h).held h = true ∧
      (s.loseContact h).fld (STW_STAT h) 27 26 = 1 := by
  let t : State := s.setFlag (STW_STAT h) 28 false
  let x : State := { t with rst := { t.rst with beatRun := put 0 t.rst.beatRun h 0 } }
  have hx : x.held h = false := (flag_setFlag_apart (by decide) (by decide)).trans hheld
  have hlost : x.flag (STW_STAT h) 28 = false := flag_setFlag_self (by decide)
  refine ⟨?_, ?_, ?_⟩
  · exact (contactBit_enterHeld hx hh).trans hlost
  · exact held_enterHeld_self hx hh
  · exact cause_enterHeld_self hx hh (by decide)

theorem arbiterSilent_spec {s : State} (harb : s.rst.arbitrated = false) (h0 : s.held 0 = false) (h1 : s.held 1 = false) :
    s.arbiterSilent.rst.arbitrated = true ∧ s.arbiterSilent.held 0 = true ∧ s.arbiterSilent.held 1 = true ∧
      s.arbiterSilent.fld (STW_STAT 0) 27 26 = 2 ∧ s.arbiterSilent.fld (STW_STAT 1) 27 26 = 2 := by
  let x : State := { s with rst := { s.rst with arbitrated := true } }
  have hx0 : x.held 0 = false := h0
  have hx1 : (x.enterHeld 0 2).held 1 = false :=
    (flag_of_reg (reg_enterHeld_other hx0 (by decide) (by decide)) 29).trans h1
  have he : s.arbiterSilent = (x.enterHeld 0 2).enterHeld 1 2 := by
    unfold State.arbiterSilent
    rw [if_neg (Bool.eq_false_iff.mp harb)]
  have hreg0 : ((x.enterHeld 0 2).enterHeld 1 2).reg (STW_STAT 0) = (x.enterHeld 0 2).reg (STW_STAT 0) :=
    reg_enterHeld_other hx1 (by decide) (by decide)
  rw [he]
  refine ⟨?_, ?_, held_enterHeld_self hx1 (by decide), ?_, cause_enterHeld_self hx1 (by decide) (by decide)⟩
  · rw [arbitrated_enterHeld, arbitrated_enterHeld]
  · exact (flag_of_reg hreg0 29).trans (held_enterHeld_self hx0 (by decide))
  · exact (fld_of_reg hreg0 27 26).trans (cause_enterHeld_self hx0 (by decide) (by decide))

/-! ### Heartbeats -/

/-- A heartbeat that carries no Held, between halves neither of which is Held, is noted and moves no other part. -/
theorem heartbeat_spec {s : State} {h : Nat} (hheld : s.anyHeld = false) :
    look 0 (s.heartbeat h false).rst.lastBeat h = s.counter h ∧ (s.heartbeat h false).held 0 = false ∧
      (s.heartbeat h false).held 1 = false ∧ (s.heartbeat h false).serve = s.serve ∧
      (s.heartbeat h false).out = s.out := by
  obtain ⟨h0, h1⟩ : s.held 0 = false ∧ s.held 1 = false := Bool.or_eq_false_iff.mp hheld
  unfold State.heartbeat
  extract_lets both stuck gap run src noted missed marked
  have held_setFld (v k : Nat) : missed.held k = s.held k := by
    by_cases e : h = k
    · subst e
      exact flag_setFld_apart (s := noted) (by decide) (by decide) (by decide)
    · exact flag_setFld_other (s := noted) (stwStat_ne e)
  have hmissed : missed.anyHeld = false := by
    rw [State.anyHeld, held_setFld 0 0, held_setFld 0 1, h0, h1]
    rfl
  rw [hmissed, Bool.false_and, Bool.false_and, if_neg Bool.false_ne_true, if_neg Bool.false_ne_true]
  have hmarked (k : Nat) : marked.held k = s.held k := by
    dsimp only [marked]
    split
    · by_cases e : h = k
      · subst e
        exact (flag_setFlag_apart (by decide) (by decide)).trans (held_setFld 0 h)
      · exact (flag_setFlag_other (stwStat_ne e)).trans (held_setFld 0 k)
    · exact held_setFld 0 k
  have hparts {p : StatePart} (hp : p ≠ .regs) : p.same noted marked := by
    have hl : Leads (maskOf [.regs]) noted marked :=
      keeps_ite (keeps_setFlag Has.self (keeps_setFld Has.self Leads.self)) (keeps_setFld Has.self Leads.self)
    exact hl.onlyParts p (by simp [hp])
  refine ⟨?_, (hmarked 0).trans h0, (hmarked 1).trans h1, hparts (p := .serve) nofun, hparts (p := .out) nofun⟩
  have hrst : marked.rst = noted.rst := hparts (p := .rst) nofun
  rw [hrst]
  exact look_put_self 0 _ h _

/-! ### The release order -/

theorem rows_arbitrate (s : State) : s.arbitrate.rst.rows = s.rst.rows := by
  unfold State.arbitrate
  extract_lets sent claim g
  split <;> rfl

theorem rst_pinFault (s : State) (bit : Nat) (found : Bool) : (s.pinFault bit found).rst = s.rst :=
  (keeps_pinFault Has.self Leads.self).same .rst rfl

theorem rows_stewardUp (s : State) (h : Nat) (x : StrapSample) (alone : Bool) :
    (s.stewardUp h x alone).rst.rows = s.rst.rows := by
  unfold State.stewardUp
  split
  extract_lets sel claim srcPins srcRst claimed flagged forced faulted
  rw [rows_arbitrate]
  have hforced : forced.rst.rows = s.rst.rows := by
    dsimp only [forced]
    split
    · rfl
    · rfl
  dsimp only [faulted]
  split
  · exact hforced
  · rw [rst_pinFault]
    exact hforced

theorem mayRelease_of {s : State} {h locks : Nat} {alone : Bool} (hpwr : s.rst.pwrgd = true)
    (hstop : look false s.rst.stopped h = false) (hrows : s.rowsOf h < 7)
    (hphase : s.phase = rowPhase (s.rowsOf h + 1))
    (hlocks : rowLocks (s.rowsOf h + 1) &&& locks = rowLocks (s.rowsOf h + 1))
    (hfirst : h = 0 ∨ 1 ≤ s.rowsOf 0 ∨ alone = true) (hrail : s.flag GLB_PINS 10 = false) :
    s.mayRelease h (s.rowsOf h + 1) locks alone = true := by
  have hturn : (decide (s.rowsOf h + 1 ≠ 1 ∨ h = 0) || decide (1 ≤ s.rowsOf 0) || alone) = true := by
    rcases hfirst with rfl | h0 | rfl
    · simp
    · simp [h0]
    · simp
  simp only [State.mayRelease, hpwr, hstop, hphase, hlocks, hturn, hrail, decide_eq_true (show s.rowsOf h + 1 ≤ 7 by omega),
    beq_self_eq_true, Bool.not_false, Bool.and_self, Bool.and_false, Bool.false_and]

/-- A released row moves its half's count by one and no tile. -/
theorem release_spec {s : State} {h locks : Nat} {x : StrapSample} {alone : Bool}
    (hmay : s.mayRelease h (s.rowsOf h + 1) locks alone = true) :
    (s.release h x locks true alone).rst.rows = put 0 s.rst.rows h (s.rowsOf h + 1) ∧
      (s.release h x locks true alone).tiles = s.tiles := by
  refine ⟨?_, (keeps_release Has.self Leads.self).same .tiles rfl⟩
  unfold State.release
  extract_lets row src counted locked
  rw [hmay, Bool.not_true, if_neg Bool.false_ne_true, if_neg (by simp)]
  split
  · exact rows_stewardUp locked h x alone
  · split
    · have hl : Leads 0x2 locked ((halfConverters h).foldl State.auditUp locked) :=
        keeps_foldl (fun t ht i => keeps_auditUp Has.self ht) Leads.self
      have hrst : ((halfConverters h).foldl State.auditUp locked).rst = locked.rst := hl.same .rst rfl
      rw [hrst]
      rfl
    · rfl

/-! ### Boot -/

theorem phase_setFlag_apart (s : State) {k : Nat} {b : Bool} (hk : k = 30 ∨ k = 31) :
    (s.setFlag RST_BOOT k b).phase = s.phase := fld_setFlag_apart (by omega) (by omega)

theorem phase_toPhase (s : State) {n : Nat} (hn : n < 16) : (s.toPhase n).phase = n := by
  refine (fld_setFld_self (by decide) (by decide)).trans ?_
  omega

/-- Settles O13: each command is one of the operations above, under the tests that its hypotheses meet. -/
theorem releaseOrderAndContact : Obligations.ReleaseOrderAndContact := by
  unfold Obligations.ReleaseOrderAndContact
  refine ⟨⟨fun s _ hpwr => ?_, fun h x locks alone s hpwr hstop hrows hphase hlocks hfirst hrail => ?_,
    fun h s _ => ?_, fun s _ hphase => ?_, fun s _ hphase hrows => ?_, fun s _ hphase hrows => ?_⟩,
    fun h s hrows => ?_, fun h s _ hheld _ => ?_, fun h s _ hheld => ?_, fun s _ harb h0 h1 => ?_⟩
  · have he : s.pwrgdUp = ({ s with rst := { s.rst with pwrgd := true } } : State).bootFrom 1 := by
      unfold State.pwrgdUp
      rw [if_neg (Bool.eq_false_iff.mp hpwr)]
    exact ⟨_, congrArg Host.Outcome.next he, rfl, phase_bootFrom _ (by decide), fun a ha => reg_bootFrom_other ha⟩
  · have hfirst' : h.val = 0 ∨ 1 ≤ s.rowsOf 0 ∨ alone = true := hfirst.imp_left (congrArg Fin.val)
    obtain ⟨hnew, htiles⟩ := release_spec (x := x) (mayRelease_of hpwr hstop hrows hphase hlocks hfirst' hrail)
    refine ⟨_, rfl, ?_, ?_, htiles⟩
    · exact (congrArg (look 0 · h.val) hnew).trans (look_put_self 0 _ _ _)
    · exact (congrArg (look 0 · (1 - h.val)) hnew).trans (look_put_other 0 0 _ _ (by omega))
  · exact ⟨_, rfl, flag_setFlag_self (by decide), look_put_self _ _ _ _, fun a ha => reg_setFlag_other ha.symm⟩
  · have he : s.phaseStall = s.setFlag RST_BOOT 30 true := if_neg hphase
    exact ⟨_, congrArg Host.Outcome.next he, flag_setFlag_self (by decide), phase_setFlag_apart s (.inl rfl),
      fun a ha => reg_setFlag_other ha.symm⟩
  · have he : s.phaseDone = s.toPhase 4 := by
      unfold State.phaseDone
      rw [hphase]
      exact if_pos hrows
    exact ⟨_, congrArg Host.Outcome.next he, phase_toPhase s (by decide), fun a ha => reg_setFld_other ha.symm⟩
  · have he : s.phaseDone = s.toPhase 5 := by
      unfold State.phaseDone
      rw [hphase]
      exact if_pos hrows
    exact ⟨_, congrArg Host.Outcome.next he, phase_toPhase s (by decide), fun a ha => reg_setFld_other ha.symm⟩
  · exact congrArg Host.Outcome.next (if_pos hrows)
  · exact ⟨_, rfl, heartbeat_spec hheld⟩
  · obtain ⟨hlost, hheld', hcause⟩ := loseContact_spec h.isLt hheld
    exact ⟨_, rfl, hlost, hheld', hcause, contact_of_lost h.isLt hlost⟩
  · exact ⟨_, rfl, arbiterSilent_spec harb h0 h1⟩

end Sys2Proof.Machine
end

section
/-! SUPPORT. Fault records (R361, R364, R371 to R374, R400): what a unit that detects an error changes besides its own
part of the state. -/

namespace Sys2Proof.Machine

/-! ### Parts and registers of a chain of updates -/

theorem onlyParts_refl (ps : List StatePart) (s : State) : onlyParts ps s s :=
  fun p _ => Leads.self.same (fp := 0) p (Nat.zero_testBit _)

theorem onlyParts_trans {ps : List StatePart} {s t u : State} (h : onlyParts ps s t) (k : onlyParts ps t u) :
    onlyParts ps s u := fun p hp => StatePart.same_trans (h p hp) (k p hp)

theorem onlyParts_mono {ps qs : List StatePart} {s t : State} (hsub : ∀ p ∈ ps, p ∈ qs) (h : onlyParts ps s t) :
    onlyParts qs s t := fun p hp => h p (fun hm => hp (hsub p hm))

/-! ### One record -/

/-- What the writing of one record changes: registers of the log, the events, what waits for a lost Treasury, and the
serial number, which moves on by one. -/
structure Recorded (s t : State) : Prop where
  regs : onlyRegs recordRegs s t
  parts : onlyParts recordParts s t
  serve : ∃ l, t.serve = { s.serve with events := s.serve.events ++ l }
  clr : ∃ l, t.clr = { s.clr with kept := l }
  serial : t.log.serial = s.log.serial + 1

/-- What a step on the way of a record changes, its serial number apart. -/
structure Noted (s t : State) : Prop where
  regs : onlyRegs recordRegs s t
  serve : ∃ l, t.serve = { s.serve with events := s.serve.events ++ l }
  clr : ∃ l, t.clr = { s.clr with kept := l }
  serial : t.log.serial = s.log.serial

theorem Noted.refl (s : State) : Noted s s := ⟨onlyRegs_refl _ s, ⟨[], by rw [List.append_nil]⟩, ⟨s.clr.kept, rfl⟩, rfl⟩

theorem Noted.trans {s t u : State} (h : Noted s t) (k : Noted t u) : Noted s u := by
  obtain ⟨l, hl⟩ := h.serve
  obtain ⟨m, hm⟩ := k.serve
  obtain ⟨x, hx⟩ := h.clr
  obtain ⟨y, hy⟩ := k.clr
  exact ⟨onlyRegs_trans h.regs k.regs, ⟨l ++ m, by rw [hm, hl, List.append_assoc]⟩, ⟨y, by rw [hy, hx]⟩,
    k.serial.trans h.serial⟩

/-- An update of parts that `Noted` does not look at. -/
theorem Noted.of_same {s t : State} (hr : t.regs = s.regs) (hs : t.serve = s.serve) (hc : t.clr = s.clr)
    (hl : t.log.serial = s.log.serial) : Noted s t :=
  ⟨onlyRegs_of_regs hr, ⟨[], by rw [List.append_nil, hs]⟩, ⟨s.clr.kept, hc⟩, hl⟩

theorem Noted.setReg (s : State) {a : Nat} (v : Word64) (ha : a ∈ recordRegs) : Noted s (s.setReg a v) :=
  ⟨onlyRegs_setReg ha (onlyRegs_refl _ s), ⟨[], by rw [List.append_nil]; rfl⟩, ⟨s.clr.kept, rfl⟩, rfl⟩

theorem Noted.setFld {s t : State} (h : Noted s t) {a hi lo v : Nat} (ha : a ∈ recordRegs) :
    Noted s (t.setFld a hi lo v) := h.trans (Noted.setReg t _ ha)

theorem Noted.setFlag {s t : State} (h : Noted s t) {a i : Nat} {b : Bool} (ha : a ∈ recordRegs) :
    Noted s (t.setFlag a i b) := h.trans (Noted.setReg t _ ha)

theorem Noted.bump {s t : State} (h : Noted s t) {a n : Nat} (ha : a ∈ recordRegs) : Noted s (t.bump a n) :=
  h.trans (Noted.setReg t _ ha)

theorem Noted.setLog {s t : State} (h : Noted s t) {l : Log} (hl : l.serial = t.log.serial) :
    Noted s { t with log := l } := h.trans (Noted.of_same rfl rfl rfl hl)

theorem noted_write (s : State) (a : Nat) (bs : List Byte) : Noted s (s.write a bs) :=
  Noted.of_same (t := { s with mem := putBytes s.mem a bs, poison := cleansed s.poison a bs.length }) rfl rfl rfl rfl

theorem noted_flogPut (s : State) (n : Nat) (r : FaultRecord) : Noted s (s.flogPut n r) := by
  unfold State.flogPut
  split
  · exact noted_write s _ _
  · exact Noted.refl s

theorem noted_logPut (s : State) (r : FaultRecord) : Noted s (s.logPut r) := by
  unfold State.logPut
  split
  · exact ((Noted.refl s).setLog (by rfl)).bump (by simp [recordRegs])
  · exact ((((Noted.refl s).setLog (by rfl)).trans (noted_flogPut _ _ r)).setFld (by simp [recordRegs])).bump
      (by simp [recordRegs])

theorem noted_forwardRecord (s : State) (r : FaultRecord) : Noted s (s.forwardRecord r) := by
  unfold State.forwardRecord
  split
  · exact Noted.refl s
  · split
    · split
      · exact ⟨onlyRegs_of_regs rfl, ⟨[], by rw [List.append_nil]⟩, ⟨_, rfl⟩, rfl⟩
      · exact ((Noted.refl s).bump (by simp [recordRegs])).bump (by simp [recordRegs])
    · exact Noted.of_same rfl rfl rfl rfl

theorem noted_writeRecord (s : State) (r : FaultRecord) : Noted s (s.writeRecord r) := by
  unfold State.writeRecord
  exact (noted_logPut s _).trans (noted_forwardRecord _ _)

theorem noted_makePermanent (s : State) (cls : Nat) (u : Nat × Nat × Nat) : Noted s (s.makePermanent cls u) := by
  unfold State.makePermanent
  extract_lets counted told
  have htold : Noted s told := ((Noted.refl s).bump (by simp [recordRegs])).trans
    ⟨onlyRegs_of_regs rfl, ⟨_, rfl⟩, ⟨counted.clr.kept, rfl⟩, rfl⟩
  split
  · exact htold
  · exact htold.setLog (by rfl)

theorem noted_schedule (s : State) (u : Nat × Nat × Nat) : Noted s (s.schedule u) := by
  unfold State.schedule
  split
  · exact Noted.refl s
  · exact Noted.of_same rfl rfl rfl rfl

theorem noted_setDay (s : State) (h slot : Nat) (d : DayRec) : Noted s (s.setDay h slot d) := Noted.of_same rfl rfl rfl rfl

theorem noted_scheduleUnit (s : State) (unit : Option (Nat × Nat × Nat)) :
    Noted s (match unit with | some u => s.schedule u | none => s) := by
  cases unit with
  | some u => exact noted_schedule s u
  | none => exact Noted.refl s

/-- A full Daybook counts the event it cannot hold (R373). -/
theorem noted_missed (s : State) (h : Nat) :
    Noted s (if h = 1 then { s with log := { s.log with missedS := s.log.missedS + 1 } }
      else { s with log := { s.log with missedN := s.log.missedN + 1 } }) := by
  split
  · exact (Noted.refl s).setLog (by rfl)
  · exact (Noted.refl s).setLog (by rfl)

theorem noted_dayEvent (s : State) (r : FaultRecord) (reproduced : Bool) : Noted s (s.dayEvent r reproduced).1 := by
  unfold State.dayEvent
  extract_lets h life unit scheduled lost marked log
  have hscheduled : Noted s scheduled := noted_scheduleUnit s unit
  clear_value scheduled
  split
  next slot d _ =>
    dsimp only
    split
    · exact (hscheduled.trans (noted_setDay scheduled _ slot _)).trans (noted_makePermanent _ _ _)
    · exact hscheduled.trans (noted_setDay scheduled _ slot _)
  next =>
    split
    · exact hscheduled.trans (noted_setDay scheduled _ _ _)
    · exact ((hscheduled.bump (by simp [recordRegs])).setFlag (by simp [recordRegs])).trans (noted_missed _ _)

theorem noted_weighed (s : State) (r : FaultRecord) (key : Nat) :
    Noted s (if nbit r.flags.toNat 0 then { s with log := { s.log with weight := s.log.weight ++ [key] } } else s) := by
  split
  · exact (Noted.refl s).setLog (by rfl)
  · exact Noted.refl s

/-- An error detected is one record. -/
theorem recorded_faultWith (s : State) (r : FaultRecord) (reproduced : Bool) : Recorded s (s.faultWith r reproduced) := by
  have hparts : onlyParts recordParts s (s.faultWith r reproduced) :=
    Leads.onlyParts (keeps_faultWith (Has.self.sub rfl) Leads.self)
  suffices h : Noted s.number (s.faultWith r reproduced) from
    ⟨h.regs, hparts, h.serve, h.clr, h.serial⟩
  unfold State.faultWith
  extract_lets numbered key log weighed
  have hweighed : Noted s.number weighed := noted_weighed numbered r key
  clear_value weighed
  exact (hweighed.trans (noted_dayEvent weighed r reproduced)).trans (noted_writeRecord _ _)

theorem recorded_fault (s : State) (r : FaultRecord) : Recorded s (s.fault r) := recorded_faultWith s r false

theorem Recorded.reg {s t : State} (h : Recorded s t) {a : Nat} (ha : a ∉ recordRegs) : t.reg a = s.reg a := h.regs a ha

theorem Recorded.same {s t : State} (h : Recorded s t) {p : StatePart} (hp : p ∉ recordParts) : p.same s t := h.parts p hp

theorem Recorded.rows {s t : State} (h : Recorded s t) : t.serve.rows = s.serve.rows := by
  obtain ⟨l, hl⟩ := h.serve
  rw [hl]

end Sys2Proof.Machine
end

section
/-! SUPPORT. Teller slots and BAR4 (O20, O22). -/

namespace Sys2Proof.Machine

/-! ### A slot written whole (R415) -/

/-- A key below every other is listed first. -/
theorem put_below {α : Type} [DecidableEq α] (d : α) {m : SMap α} {e : Nat × α} (hv : e.2 ≠ d) (h : ∀ x ∈ m, e.1 < x.1) :
    put d m e.1 e.2 = e :: m := by
  have hins : insertAt m e.1 e.2 = e :: m := by
    cases m with
    | nil => rfl
    | cons x m => exact if_pos (h x List.mem_cons_self)
  unfold put
  rw [hins, List.filter_eq_self]
  simp [hv]

/-- Keys that rise, with values that are not the default, are listed as they come. -/
theorem putAll_nil {α : Type} [DecidableEq α] (d : α) {l : List (Nat × α)} (hv : ∀ e ∈ l, e.2 ≠ d)
    (hs : l.Pairwise (fun a b => a.1 < b.1)) : putAll d [] l = l := by
  induction l with
  | nil => rfl
  | cons e l ih =>
    obtain ⟨hhead, htail⟩ := List.pairwise_cons.mp hs
    show put d (putAll d [] l) e.1 e.2 = e :: l
    rw [ih (fun x hx => hv x (List.mem_cons_of_mem _ hx)) htail]
    exact put_below d (hv e List.mem_cons_self) hhead

theorem look_keyed {α β : Type} (d : β) (f : α → β) (bs : List α) (a i : Nat) :
    look d ((bs.zipIdx a).map (fun e => (e.2, f e.1))) (a + i) = (bs[i]?).elim d f := by
  induction bs generalizing a i with
  | nil => rfl
  | cons b bs ih =>
    cases i with
    | zero => exact if_pos rfl
    | succ i =>
      have h : a + (i + 1) = a + 1 + i := by omega
      rw [List.zipIdx_cons, List.map_cons, look, if_neg (by omega), h, ih]
      rfl

theorem take_empty_bytes (bs : List Byte) :
    (TSlot.empty.take 0 bs).bytes = bs.zipIdx.map (fun e => (e.2, some e.1)) := by
  have h : (bs.zipIdx.map (fun e => (0 + e.2, some e.1))) = bs.zipIdx.map (fun e => (e.2, some e.1)) := by
    simp only [Nat.zero_add]
  unfold TSlot.take TSlot.empty
  dsimp only
  rw [h]
  refine putAll_nil none (fun e he => ?_) ?_
  · obtain ⟨x, _, rfl⟩ := List.mem_map.mp he
    exact Option.some_ne_none _
  · rw [List.pairwise_map, List.pairwise_iff_getElem]
    intro i j hi hj hij
    simpa using hij

theorem full_take_empty {bs : List Byte} (h : bs.length = 64) : (TSlot.empty.take 0 bs).full = true := by
  unfold TSlot.full
  rw [take_empty_bytes]
  simp [h]

theorem content_take_empty {bs : List Byte} (h : bs.length = 64) : (TSlot.empty.take 0 bs).content = bs := by
  unfold TSlot.content
  rw [take_empty_bytes]
  refine List.ext_getElem (by simp [h]) (fun i h1 h2 => ?_)
  have := look_keyed none some bs 0 i
  rw [Nat.zero_add] at this
  simp [this, h2]

/-! ### One TLP that fills a slot -/

theorem cutSlots_slot {fuel off : Nat} {bs : List Byte} (hoff : off % 64 = 0) (h : bs.length = 64) :
    cutSlots (fuel + 2) off bs = [(off / 64, 0, bs)] := by
  cases bs with
  | nil => simp at h
  | cons b bs =>
    rw [cutSlots, hoff, Nat.sub_zero, List.take_of_length_le (by omega), List.drop_of_length_le (by omega)]
    · rfl
    · exact List.cons_ne_nil _ _

theorem laneAt_pf {s : State} {p l : Nat} (h : l < 32) : s.laneAt p 0 l = some l := by
  unfold State.laneAt
  rw [if_neg (by simp)]
  exact if_pos ⟨by simp only [if_true]; omega, by simp [State.laneFn, h]⟩

theorem tellerWrite_slot {s : State} {p l k : Nat} {bs : List Byte} (hl : l < 32) (hk : k < 64) (h : bs.length = 64) :
    s.tellerWrite p 0 (4096 * l + 64 * k) bs = (s.slotWrite p l k 0 bs).evalSlot p l k := by
  have hslot : (4096 * l + 64 * k) / 64 = 64 * l + k := by omega
  have hpage : (64 * l + k) / 64 = l := by omega
  have hin : (64 * l + k) % 64 = k := by omega
  unfold State.tellerWrite
  rw [h, cutSlots_slot (by omega) h, hslot]
  simp only [List.filterMap_cons, List.filterMap_nil, hpage, hin, laneAt_pf hl, Option.map_some, List.foldl_cons,
    List.foldl_nil]

theorem windowStamp_expected {e : Nat} (h : e < 2 ^ 32) : windowStamp e (e % 64) = e := by
  unfold windowStamp
  omega

theorem stampOf_lt (s : State) (p l : Nat) : s.stampOf p l < 2 ^ 32 := bits_lt _ _ _

@[simp] theorem Lane.slot_setSlot (l : Lane) (k : Nat) (v : TSlot) : (l.setSlot k v).slot k = v := look_put_self _ _ _ _

@[simp] theorem setLane_stampOf (s : State) (p l : Nat) (v : Lane) (q m : Nat) :
    (s.setLane p l v).stampOf q m = s.stampOf q m := rfl

theorem intake_setLane (s : State) (p l : Nat) (v : Lane) (q : Nat) : ((s.setLane p l v).port q).intake = (s.port q).intake := by
  unfold State.setLane
  by_cases h : p = q
  · subst h
    rw [State.setPort_port]
  · rw [State.setPort_port_other _ _ _ h]

/-- A complete ticket with the expected stamp is latched (R415). -/
theorem evalSlot_expected {s : State} {p l : Nat} (hfresh : ((s.laneOf p l).slot (s.stampOf p l % 64)).latched = false)
    (hfull : ((s.laneOf p l).slot (s.stampOf p l % 64)).full = true)
    (hstamp : leNat (((s.laneOf p l).slot (s.stampOf p l % 64)).content.drop 60) = s.stampOf p l) :
    s.evalSlot p l (s.stampOf p l % 64) = s.setLane p l ((s.laneOf p l).setSlot (s.stampOf p l % 64)
      { (s.laneOf p l).slot (s.stampOf p l % 64) with latched := true }) := by
  unfold State.evalSlot
  dsimp only
  rw [hfresh, hfull, if_neg (by simp), hstamp, windowStamp_expected (stampOf_lt s p l), if_neg (by simp), if_pos rfl]

/-! ### What evaluating a slot keeps -/

theorem stamp_ne_lstat (p l : Nat) : TLR_LSTAT p l ≠ TLR_STAMP p l := by
  simp only [TLR_LSTAT, TLR_STAMP, tlr]
  omega

theorem badStamp_ne_stamp (p l : Nat) (_ : p < 2) : HPT_CNT_BADSTAMP p ≠ TLR_STAMP p l := by
  simp only [HPT_CNT_BADSTAMP, TLR_STAMP, hpt, tlr]
  omega

theorem evalSlot_keeps (s : State) (p l k : Nat) (hp : p < 2) :
    (s.evalSlot p l k).reg (TLR_STAMP p l) = s.reg (TLR_STAMP p l) ∧
      ((s.evalSlot p l k).port p).intake = (s.port p).intake ∧ (s.evalSlot p l k).serve = s.serve := by
  unfold State.evalSlot
  dsimp only
  split
  · exact ⟨rfl, rfl, rfl⟩
  · split
    · refine ⟨?_, intake_setLane s p l _ p, rfl⟩
      rw [reg_bump_other (badStamp_ne_stamp p l hp), reg_setFlag_other (stamp_ne_lstat p l)]
      rfl
    · split
      · exact ⟨rfl, intake_setLane s p l _ p, rfl⟩
      · exact ⟨rfl, rfl, rfl⟩

theorem restamp_stampOf (s : State) (p l e : Nat) : (s.restamp p l e).stampOf p l = e % 2 ^ 32 :=
  fld_setFld_self (s := s) (by decide) (by decide)

theorem restamp_reg_other {s : State} {p l e a : Nat} (h : TLR_STAMP p l ≠ a) : (s.restamp p l e).reg a = s.reg a :=
  reg_setFld_other (s := s) h

theorem restamp_slots (s : State) (p l e : Nat) : ((s.restamp p l e).laneOf p l).slots = [] := by
  unfold State.restamp
  rw [State.setLane_laneOf]

theorem intake_restamp (s : State) (p l e q : Nat) : ((s.restamp p l e).port q).intake = (s.port q).intake := by
  unfold State.restamp
  rw [intake_setLane]
  rfl

/-- The latched ticket of a lane has left its slot for the intake (R416). -/
def State.ticketTaken (s : State) (p l : Nat) : State :=
  let s' := { s with serve := { s.serve with accepts := s.serve.accepts + 1 } }
  let taken := s'.setPort p { s.port p with intake := (s.port p).intake ++
    [⟨((s.laneOf p l).slot (s.stampOf p l % 64)).content, p, l, BitVec.ofNat 32 (s.stampOf p l), s.serve.accepts⟩] }
  taken.setLane p l ((taken.laneOf p l).setSlot (s.stampOf p l % 64) TSlot.empty)

theorem consume_of_room {s : State} {p l : Nat} (hlatched : ((s.laneOf p l).slot (s.stampOf p l % 64)).latched = true)
    (hroom : (s.port p).intake.length < 4096) (hbacklog : (s.laneOf p l).backlog = []) :
    s.consume p l = ((s.ticketTaken p l).setFld (TLR_STAMP p l) 31 0 ((s.stampOf p l + 1) % 2 ^ 32)).evalSlot p l
      ((s.stampOf p l + 1) % 2 ^ 32 % 64) := by
  unfold State.consume
  dsimp only
  rw [hlatched, hbacklog, if_pos (by simp [intakeSize, hroom])]
  rfl

theorem intake_ticketTaken (s : State) (p l : Nat) : ((s.ticketTaken p l).port p).intake = (s.port p).intake ++
    [⟨((s.laneOf p l).slot (s.stampOf p l % 64)).content, p, l, BitVec.ofNat 32 (s.stampOf p l), s.serve.accepts⟩] := by
  unfold State.ticketTaken
  dsimp only
  rw [intake_setLane, State.setPort_port]

theorem accepts_ticketTaken (s : State) (p l : Nat) : (s.ticketTaken p l).serve.accepts = s.serve.accepts + 1 := rfl

/-- Settles O20: a write that covers an empty slot is the slot's ticket; a ticket that is consumed moves the expected
stamp on; a write of TLR_STAMP restarts the lane. -/
theorem tellerTakesTickets : Obligations.TellerTakesTickets := by
  unfold Obligations.TellerTakesTickets
  refine ⟨?_, ?_, ?_, ?_⟩
  · intro w l bytes s hfn hl hlen p k hempty hstamp
    have hk : k < 64 := Nat.mod_lt _ (by decide)
    have hwrite : s.slotWrite p l k 0 bytes = s.setLane p l ((s.laneOf p l).setSlot k (TSlot.empty.take 0 bytes)) := by
      unfold State.slotWrite
      dsimp only
      rw [hempty]
      exact if_neg Bool.false_ne_true
    have hexec : exec (.tellerSlotWrite w (4096 * l + 64 * k) bytes true) s =
        .next ((s.slotWrite p l k 0 bytes).evalSlot p l k) := by
      have hfn' : w.fn.val = 0 := by rw [hfn]; rfl
      show execTellerSlotWrite w _ bytes true s = _
      unfold execTellerSlotWrite
      rw [if_neg, if_neg (by simp), hfn', tellerWrite_slot hl hk hlen]
      rw [hfn', bar2Size, if_pos rfl]
      omega
    have hslot : ((s.slotWrite p l k 0 bytes).laneOf p l).slot k = TSlot.empty.take 0 bytes := by
      rw [hwrite, State.setLane_laneOf, Lane.slot_setSlot]
    have hexp : (s.slotWrite p l k 0 bytes).stampOf p l = s.stampOf p l := by rw [hwrite, setLane_stampOf]
    have heval := evalSlot_expected (s := s.slotWrite p l k 0 bytes) (p := p) (l := l)
    rw [hexp, hslot, content_take_empty hlen] at heval
    have heval := heval rfl (full_take_empty hlen) hstamp
    refine ⟨_, hexec, ?_⟩
    rw [heval, State.setLane_laneOf, Lane.slot_setSlot, setLane_stampOf, hexp, intake_setLane, hwrite, intake_setLane]
    exact ⟨rfl, content_take_empty hlen, rfl, rfl, rfl⟩
  · intro w off bytes s _ hfit
    refine ⟨s.inBad w.port.val, ?_, rfl, reg_bump_self, fun a ha => reg_bump_other (Ne.symm ha)⟩
    show execTellerSlotWrite w off bytes false s = _
    unfold execTellerSlotWrite
    rw [if_neg (by omega)]
    rfl
  · intro p l s _ k hlatched hroom hbacklog
    refine ⟨s.consume p.val l.val, rfl, ?_⟩
    rw [consume_of_room hlatched hroom hbacklog]
    obtain ⟨hreg, hintake, hserve⟩ := evalSlot_keeps ((s.ticketTaken p.val l.val).setFld (TLR_STAMP p.val l.val) 31 0
      ((s.stampOf p.val l.val + 1) % 2 ^ 32)) p.val l.val ((s.stampOf p.val l.val + 1) % 2 ^ 32 % 64) p.isLt
    refine ⟨hintake.trans (intake_ticketTaken s _ _), (fld_of_reg hreg 31 0).trans ?_, ?_⟩
    · exact (fld_setFld_self (by decide) (by decide)).trans (Nat.mod_mod _ _)
    · rw [hserve, State.setFld_serve, accepts_ticketTaken]
  · intro w l v s _ hmay
    refine ⟨s.stampWrite w l.val v.toNat, rfl, ?_⟩
    unfold State.stampWrite
    rw [if_pos hmay]
    refine ⟨?_, ?_, flag_setFlag_self (by decide), ?_⟩
    · refine (fld_setFlag_other (stamp_ne_lstat _ _)).trans ?_
      exact (restamp_stampOf s _ _ _).trans (Nat.mod_eq_of_lt v.isLt)
    · have hlane : ((s.restamp w.port.val l.val v.toNat).setFlag (TLR_LSTAT w.port.val l.val) 31 false).laneOf w.port.val
          l.val = (s.restamp w.port.val l.val v.toNat).laneOf w.port.val l.val := by
        unfold State.laneOf State.port
        rw [State.setFlag_ports]
      rw [hlane, restamp_slots]
    · intro a hstamp hlstat
      rw [reg_setFlag_other (Ne.symm hlstat), restamp_reg_other (Ne.symm hstamp)]

/-- Settles O22: BAR4's checks in their order, and the bytes written. -/
theorem vaultApertureWritesAndReads : Obligations.VaultApertureWritesAndReads := by
  unfold Obligations.VaultApertureWritesAndReads
  refine ⟨?_, ?_, ?_, ?_⟩
  · intro w off bs s _ hholder hin
    refine ⟨s.write (keyOf 0 (s.bar4Addr w.port.val off)) bs, ?_, rfl, ?_, fun a ha => byte_write_other ha⟩
    · show s.bar4W w off bs true = _
      unfold State.bar4W
      rw [hholder, hin]
      rfl
    · intro i hi
      rw [byte_write, if_pos (by omega), Nat.add_sub_cancel_left, List.getD_eq_getElem?_getD, List.getElem?_eq_getElem hi, Option.getD_some]
  · intro w off bs s _ hholder
    refine ⟨s.bump (HPT_CNT_DENIED w.port.val) 1, ?_, rfl, reg_bump_self, fun a ha => reg_bump_other (Ne.symm ha)⟩
    show s.bar4W w off bs true = _
    unfold State.bar4W
    rw [hholder]
    rfl
  · intro w off bs s hholder hout
    show s.bar4W w off bs true = _
    unfold State.bar4W
    rw [hholder, hout]
    rfl
  · intro w off len s hfn hin
    have hfn' : w.fn.val = 0 := by rw [hfn]; rfl
    show s.bar4R w off len = _
    unfold State.bar4R
    dsimp only
    rw [hfn', hin]
    cases s.bad (keyOf 0 (s.bar4Addr w.port.val off)) len
    · rfl
    · rfl

end Sys2Proof.Machine
end

section
/-! SUPPORT. DMA errors, and a port's resets (O23). -/

namespace Sys2Proof.Machine

/-! ### Reading through an update of another part -/

theorem reg_of_regs {s t : State} (h : t.regs = s.regs) (a : Nat) : t.reg a = s.reg a := by
  unfold State.reg
  rw [h]

theorem port_of_ports {s t : State} (h : t.ports = s.ports) (p : Nat) : t.port p = s.port p := by
  unfold State.port
  rw [h]

/-! ### What a failed channel changes (R269) -/

theorem onlyRegs_markRows (as : List Nat) (s : State) (prog b : Nat) (f : Row → Row) : onlyRegs as s (s.markRows prog b f) :=
  onlyRegs_of_regs rfl

theorem onlyRegs_readyOrder (as : List Nat) (s : State) (u : EngUnit) (f : InFlight) : onlyRegs as s (s.readyOrder u f) :=
  onlyRegs_of_regs rfl

/-- The registers that the error of a channel may change. -/
def chanRegs (d k : Nat) : List Nat := DMA_STAT d k :: DMA_CTRL d k :: recordRegs

theorem recorded_chanRecord (s : State) (d : Die) (k code : Nat) : Recorded s (s.chanRecord d k code) := by
  unfold State.chanRecord
  exact recorded_fault s _

theorem onlyRegs_chanError (s : State) (d : Die) (k code : Nat) :
    onlyRegs (DMA_STAT d.val k :: recordRegs) s (s.chanError d k code) := by
  unfold State.chanError
  have hset : onlyRegs (DMA_STAT d.val k :: recordRegs) s
      ((s.setFlag (DMA_STAT d.val k) 27 true).setFld (DMA_STAT d.val k) 24 21 code) :=
    onlyRegs_setFld List.mem_cons_self (onlyRegs_setFlag List.mem_cons_self (onlyRegs_refl _ s))
  exact onlyRegs_trans hset
    (onlyRegs_mono (fun _ h => List.mem_cons_of_mem _ h) (recorded_chanRecord _ d k code).regs)

theorem onlyRegs_restChan (s : State) (d k : Nat) : onlyRegs (chanRegs d k) s (s.restChan d k) := by
  unfold State.restChan
  extract_lets idle reads quiet
  have hquiet : onlyRegs (chanRegs d k) s quiet := onlyRegs_of_regs rfl
  exact onlyRegs_setFlag (by simp [chanRegs]) (onlyRegs_setFld (by simp [chanRegs])
    (onlyRegs_setFlag (by simp [chanRegs]) hquiet))

/-- A chain that has failed ends without a signal: its rows are marked (R269). -/
theorem onlyRegs_endChain_failed {s : State} {d : Die} {k : Nat} (hfailed : (s.chan d.val k).failed = true) :
    onlyRegs (chanRegs d.val k) s (s.endChain d k) := by
  unfold State.endChain
  dsimp only
  split
  · exact onlyRegs_restChan s _ _
  · split
    · exact onlyRegs_restChan s _ _
    · next f _ =>
      rw [if_pos hfailed]
      exact onlyRegs_trans (onlyRegs_trans (onlyRegs_markRows _ s _ _ _) (onlyRegs_restChan _ _ _))
        (onlyRegs_readyOrder _ _ _ _)

theorem onlyRegs_transferError (s : State) (d : Die) (k : Nat) :
    onlyRegs (chanRegs d.val k) s (s.transferError d k) := by
  unfold State.transferError
  split
  · exact onlyRegs_refl _ s
  · have hmono : ∀ a ∈ DMA_STAT d.val k :: recordRegs, a ∈ chanRegs d.val k := by
      intro a ha
      simp only [chanRegs, List.mem_cons] at ha ⊢
      exact ha.imp_right .inr
    have hfailed : (((s.chanError d k 9).setChan d.val k { (s.chanError d k 9).chan d.val k with failed := true }).chan
        d.val k).failed = true := by rw [State.setChan_chan]
    exact onlyRegs_trans (onlyRegs_mono hmono (onlyRegs_chanError s d k 9))
      (onlyRegs_trans (onlyRegs_of_regs rfl) (onlyRegs_endChain_failed hfailed))

/-! ### A port whose host is gone (R426) -/

theorem hptLink_notOfRecord (p : Nat) (_ : p < 2) : HPT_LINK p ∉ recordRegs := by
  simp only [recordRegs, HPT_LINK, DBK_STAT, DBK_FLOG_HEAD, DBK_CNT_RECORDS, DBK_CNT_LOST, DBK_CNT_PERM, CLR_CNT_FWDLOST,
    hpt, dbk, clrReg, List.mem_cons, List.not_mem_nil, or_false]
  omega

theorem hptLink_notOfChannel (p d k : Nat) (hp : p < 2) : HPT_LINK p ∉ chanRegs d k := by
  have h := hptLink_notOfRecord p hp
  simp only [chanRegs, List.mem_cons, h, or_false]
  simp only [HPT_LINK, DMA_STAT, DMA_CTRL, hpt, dmaReg, dieBase]
  omega

theorem reg_failPort (s : State) (p : Nat) {a : Nat} (ha : ∀ d k, a ∉ chanRegs d k) : (s.failPort p).reg a = s.reg a := by
  unfold State.failPort
  exact List.foldlRecOn (motive := fun t : State => t.reg a = s.reg a) _ _ rfl
    fun t ht e _ => (onlyRegs_transferError t e.1 e.2 a (ha _ _)).trans ht

theorem ports_failPort (s : State) (p : Nat) : (s.failPort p).ports = s.ports :=
  (keeps_failPort Has.self Leads.self).same .ports rfl

theorem reg_linkOff (s : State) (p a : Nat) :
    (s.linkOff p).reg a = ((s.setFlag (HPT_LINK p) 31 false).setFld (HPT_LINK p) 7 0 0).reg a := by
  unfold State.linkOff
  dsimp only
  rw [State.setPort_reg]

theorem reg_linkOff_other {s : State} {p a : Nat} (h : HPT_LINK p ≠ a) : (s.linkOff p).reg a = s.reg a := by
  rw [reg_linkOff, reg_setFld_other h, reg_setFlag_other h]

theorem up_linkOff (s : State) (p : Nat) : (s.linkOff p).flag (HPT_LINK p) 31 = false := by
  rw [flag_of_reg (reg_linkOff s p _), flag_setFld_apart (by decide) (by decide) (by decide), flag_setFlag_self (by decide)]

theorem width_linkOff (s : State) (p : Nat) : (s.linkOff p).fld (HPT_LINK p) 7 0 = 0 := by
  rw [fld_of_reg (reg_linkOff s p _)]
  exact fld_setFld_self (by decide) (by decide)

theorem port_linkOff (s : State) (p : Nat) : ∃ n, (s.linkOff p).port p = { s.port p with downAt := some n } := by
  have hport : ((s.setFlag (HPT_LINK p) 31 false).setFld (HPT_LINK p) 7 0 0).port p = s.port p :=
    port_of_ports (by rw [State.setFld_ports, State.setFlag_ports]) p
  unfold State.linkOff
  dsimp only
  rw [State.setPort_port, hport]
  exact ⟨_, rfl⟩

/-! ### Lanes dropped -/

/-- What PERST# keeps of a port. -/
def PortState.sameStreams (q r : PortState) : Prop := r.intake = q.intake ∧ r.ide = q.ide

theorem dropBacklog_keeps (s : State) (p l : Nat) (_ : p < 2) :
    (s.dropBacklog p l).reg (HPT_LINK p) = s.reg (HPT_LINK p) ∧
      PortState.sameStreams (s.port p) ((s.dropBacklog p l).port p) := by
  unfold State.dropBacklog
  extract_lets lane n
  generalize hcut : s.setLane p l { lane with backlog := [], unsaid := 0 } = cut
  have hports : (cut.loseEntries p l n).ports = cut.ports := (keeps_loseEntries Has.self Leads.self).same .ports rfl
  have hcutPort : PortState.sameStreams (s.port p) (cut.port p) := by
    rw [← hcut, State.setLane, State.setPort_port]
    exact ⟨rfl, rfl⟩
  have hlink : HPT_LINK p ∉ deliverRegs p l := by
    simp only [deliverRegs, HPT_LINK, TLR_RPTR, TLR_LSTAT, HPT_CNT_STMTLOST, tlr, hpt, List.mem_cons, List.not_mem_nil,
      or_false]
    omega
  refine ⟨(onlyRegs_loseEntries cut p l n _ hlink).trans (reg_of_regs ?_ _), ?_⟩
  · rw [← hcut, State.setLane_regs]
  · rwa [port_of_ports hports]

theorem dropBacklogs_keep (l : List (Nat × Lane)) (s : State) (p : Nat) (hp : p < 2) :
    (l.foldl (fun s e => s.dropBacklog p e.1) s).reg (HPT_LINK p) = s.reg (HPT_LINK p) ∧
      PortState.sameStreams (s.port p) ((l.foldl (fun s e => s.dropBacklog p e.1) s).port p) := by
  refine List.foldlRecOn (motive := fun t : State => t.reg (HPT_LINK p) = s.reg (HPT_LINK p) ∧
    PortState.sameStreams (s.port p) (t.port p)) _ _ ⟨rfl, rfl, rfl⟩ fun t ht e _ => ?_
  obtain ⟨hreg, hintake, hide⟩ := ht
  obtain ⟨hreg', hintake', hide'⟩ := dropBacklog_keeps t p e.1 hp
  exact ⟨hreg'.trans hreg, hintake'.trans hintake, hide'.trans hide⟩

/-! ### Registers of a lane -/

theorem siteOf_tlr (p l o : Nat) (hp : p < 2) (hl : l < 256) (ho : o < 0x20) : siteOf (tlr p l o) = (.tlr p l, o) := by
  unfold siteOf tlr
  repeat rw [if_neg (by omega)]
  rw [if_pos (by omega)]
  have h1 : (0x02000000 + 0x2000 * p + 0x20 * l + o - 0x02000000) / 0x2000 = p := by omega
  have h2 : (0x02000000 + 0x2000 * p + 0x20 * l + o - 0x02000000) % 0x2000 / 0x20 = l := by omega
  have h3 : (0x02000000 + 0x2000 * p + 0x20 * l + o - 0x02000000) % 0x20 = o := by omega
  rw [h1, h2, h3]

theorem siteOf_hptLink (p : Nat) (hp : p < 2) : siteOf (HPT_LINK p) = (.hpt p, 0) := by
  have h : p = 0 ∨ p = 1 := by omega
  rcases h with rfl | rfl
  · rfl
  · rfl

theorem ofLanes_stamp (p l : Nat) (hp : p < 2) (hl : l < 256) : ofLanes p (TLR_STAMP p l) = true := by
  unfold ofLanes TLR_STAMP
  rw [siteOf_tlr p l _ hp hl (by decide)]
  exact beq_self_eq_true p

theorem resetVal_stamp (p l : Nat) (hp : p < 2) (hl : l < 256) : resetVal (TLR_STAMP p l) = 0 := by
  unfold resetVal TLR_STAMP
  rw [siteOf_tlr p l _ hp hl (by decide)]

theorem ofLanes_link (p q : Nat) (hp : p < 2) : ofLanes q (HPT_LINK p) = false := by
  unfold ofLanes
  rw [siteOf_hptLink p hp]

/-! ### Function resets -/

theorem stamp_inj {p l m : Nat} (h : TLR_STAMP p l = TLR_STAMP p m) : l = m := by
  simp only [TLR_STAMP, tlr] at h
  omega

theorem laneOf_setLane_other {s : State} {p l m : Nat} (v : Lane) (h : l ≠ m) : (s.setLane p l v).laneOf p m = s.laneOf p m := by
  unfold State.laneOf State.setLane
  dsimp only
  rw [State.setPort_port]
  exact look_put_other _ _ _ _ h

theorem laneOf_restamp_other {s : State} {p l m e : Nat} (h : l ≠ m) : (s.restamp p l e).laneOf p m = s.laneOf p m :=
  laneOf_setLane_other _ h

theorem restamps (ls : List Nat) (s : State) (p : Nat) :
    (∀ l, (ls.foldl (fun s l => s.restamp p l 0) s).stampOf p l = if l ∈ ls then 0 else s.stampOf p l) ∧
      (∀ l, l ∈ ls → ((ls.foldl (fun s l => s.restamp p l 0) s).laneOf p l).slots = []) ∧
      ((ls.foldl (fun s l => s.restamp p l 0) s).port p).intake = (s.port p).intake := by
  induction ls generalizing s with
  | nil => exact ⟨fun _ => rfl, nofun, rfl⟩
  | cons m ls ih =>
    obtain ⟨hstamp, hslots, hintake⟩ := ih (s.restamp p m 0)
    have hone : ∀ l, (s.restamp p m 0).stampOf p l = if l = m then 0 else s.stampOf p l := by
      intro l
      split
      next h => rw [h]; exact restamp_stampOf s p m 0
      next h => exact fld_of_reg (restamp_reg_other (fun e => h (stamp_inj e).symm)) 31 0
    have hfold : ∀ l, l ∉ ls → (ls.foldl (fun s l => s.restamp p l 0) (s.restamp p m 0)).laneOf p l =
        (s.restamp p m 0).laneOf p l := fun l hl =>
      List.foldlRecOn (motive := fun t : State => t.laneOf p l = (s.restamp p m 0).laneOf p l) _ _ rfl
        fun t ht x hx => (laneOf_restamp_other (fun e : x = l => hl (e ▸ hx))).trans ht
    refine ⟨fun l => ?_, fun l hl => ?_, hintake.trans (intake_restamp s p m 0 p)⟩
    · rw [List.foldl_cons, hstamp, hone]
      by_cases hm : l = m
      · simp [hm]
      · simp [hm]
    · by_cases hin : l ∈ ls
      · exact hslots l hin
      · have hm : l = m := (List.mem_cons.mp hl).resolve_right hin
        rw [List.foldl_cons, hfold l hin, hm]
        exact restamp_slots s p m 0

/-! ### PERST# (R426) -/

/-- A port's link is off, its channels have failed and its lanes' backlogs are lost. -/
def State.portStopped (s : State) (p : Nat) : State :=
  (((s.linkOff p).failPort p).port p).lanes.foldl (fun s e => s.dropBacklog p e.1) ((s.linkOff p).failPort p)

theorem perstOn_eq (s : State) (p : Nat) : s.perstOn p =
    (((s.portStopped p).clearRegs (ofLanes p)).setFld (HPT_LINK p) 13 8 0).setPort p
      { (((s.portStopped p).clearRegs (ofLanes p)).setFld (HPT_LINK p) 13 8 0).port p with
        perst := true, windows := [], lanes := [], masked := [], msiPend := [], vectors := [] } := rfl

theorem portStopped_eq (s : State) (p : Nat) : s.portStopped p =
    (((s.linkOff p).failPort p).port p).lanes.foldl (fun s e => s.dropBacklog p e.1) ((s.linkOff p).failPort p) := rfl

theorem portStopped_keeps (s : State) (p : Nat) (hp : p < 2) :
    (s.portStopped p).reg (HPT_LINK p) = (s.linkOff p).reg (HPT_LINK p) ∧
      PortState.sameStreams (s.port p) ((s.portStopped p).port p) := by
  obtain ⟨hreg, hintake, hide⟩ := dropBacklogs_keep (((s.linkOff p).failPort p).port p).lanes ((s.linkOff p).failPort p) p hp
  obtain ⟨n, hn⟩ := port_linkOff s p
  have hport := (port_of_ports (ports_failPort (s.linkOff p) p) p).trans hn
  have hintake' : ((s.portStopped p).port p).intake = (s.port p).intake := by
    rw [portStopped_eq, hintake, hport]
  have hide' : ((s.portStopped p).port p).ide = (s.port p).ide := by
    rw [portStopped_eq, hide, hport]
  exact ⟨hreg.trans (reg_failPort _ _ (fun d k => hptLink_notOfChannel p d k hp)), hintake', hide'⟩

/-- PERST#'s registers, before the port is cleared. -/
theorem reg_perstOn (s : State) (p a : Nat) :
    (s.perstOn p).reg a = (((s.portStopped p).clearRegs (ofLanes p)).setFld (HPT_LINK p) 13 8 0).reg a := by
  rw [perstOn_eq, State.setPort_reg]

theorem perstOn_up (s : State) (p : Nat) (hp : p < 2) : (s.perstOn p).flag (HPT_LINK p) 31 = false := by
  have hcleared : ((s.portStopped p).clearRegs (ofLanes p)).reg (HPT_LINK p) = (s.linkOff p).reg (HPT_LINK p) := by
    rw [reg_clearRegs, ofLanes_link p p hp, (portStopped_keeps s p hp).1]
    rfl
  rw [flag_of_reg (reg_perstOn s p _), flag_setFld_apart (by decide) (by decide) (by decide), flag_of_reg hcleared,
    up_linkOff]

theorem perstOn_stamp (s : State) (p l : Nat) (hp : p < 2) (hl : l < 256) : (s.perstOn p).reg (TLR_STAMP p l) = 0 := by
  have hne : HPT_LINK p ≠ TLR_STAMP p l := by
    simp only [HPT_LINK, TLR_STAMP, hpt, tlr]
    omega
  rw [reg_perstOn, reg_setFld_other hne, reg_clearRegs, ofLanes_stamp p l hp hl, if_pos rfl, resetVal_stamp p l hp hl]

/-! ### Links up -/

theorem pcieUp_spec {s : State} {p gen width : Nat} (hp : (s.port p).perst = false) (hup : s.flag (HPT_LINK p) 31 = false)
    (hrows : 3 ≤ s.rowsOf p) (hlanes : (s.port p).lanes = []) :
    s.pcieUp p gen width = (((s.setFlag (HPT_LINK p) 31 true).setFld (HPT_LINK p) 7 4 width).setFld (HPT_LINK p) 3 0
      gen).setPort p { s.port p with downAt := none } := by
  generalize hup' : ((s.setFlag (HPT_LINK p) 31 true).setFld (HPT_LINK p) 7 4 width).setFld (HPT_LINK p) 3 0 gen = up
  have hport : up.port p = s.port p := port_of_ports (by rw [← hup']; simp) p
  unfold State.pcieUp
  rw [hp, hup, if_neg (by simp; omega)]
  dsimp only
  rw [hup', State.setPort_port, hport, hlanes]
  rfl

theorem ideSetup_of_identity {s : State} {p stream base size : Nat} (h : s.identity = true) :
    ∃ key, s.ideSetup p stream base size true = (({ s with free := s.free + 1 } : State).setPort p
      { s.port p with ide := put none (s.port p).ide stream (some ⟨base, size, key⟩) }).setFlag (HPT_LINK p) 30 true := by
  refine ⟨Config.free s.free, ?_⟩
  unfold State.ideSetup
  rw [h]
  rfl

/-- Settles O23: what PERST#, the links, an FLR and a stream's set-up change of a port, step by step. -/
theorem portResetsKeepTheIntake : Obligations.PortResetsKeepTheIntake := by
  unfold Obligations.PortResetsKeepTheIntake
  refine ⟨?_, fun _ _ => rfl, ?_, ?_, ?_, ?_⟩
  · intro p s _
    have hport : ∀ q, (s.perstOn p.val).port p.val = q → q.perst = true ∧ q.windows = [] ∧ q.lanes = [] ∧
        q.intake = (s.port p.val).intake ∧ q.ide = (s.port p.val).ide := by
      rintro q rfl
      obtain ⟨_, hintake, hide⟩ := portStopped_keeps s p.val p.isLt
      rw [perstOn_eq, State.setPort_port]
      exact ⟨rfl, rfl, rfl, hintake, hide⟩
    obtain ⟨hperst, hwindows, hlanes, hintake, hide⟩ := hport _ rfl
    refine ⟨s.perstOn p.val, rfl, hperst, hwindows, hlanes, hintake, hide, perstOn_up s _ p.isLt, ?_,
      fun l hl => perstOn_stamp s _ l p.isLt hl, exec_same (i := .perstAssert p) (p := .seqs) rfl nofun⟩
    rw [fld_of_reg (reg_perstOn s _ _)]
    exact fld_setFld_self (by decide) (by decide)
  · intro p s _ hnone
    have hfail : s.pcieDown p.val = s.linkOff p.val := by
      unfold State.pcieDown State.failPort
      rw [show (s.linkOff p.val).portChannels p.val = s.portChannels p.val from rfl, hnone]
      rfl
    refine ⟨s.linkOff p.val, congrArg Host.Outcome.next hfail, up_linkOff s _, width_linkOff s _,
      fun a ha => reg_linkOff_other (Ne.symm ha), ?_⟩
    obtain ⟨n, hn⟩ := port_linkOff s p.val
    rw [hn]
    exact ⟨rfl, rfl, rfl, rfl⟩
  · intro p gen width s _ hperst hup hrows hlanes
    refine ⟨s.pcieUp p.val gen.val width.val, rfl, ?_⟩
    rw [pcieUp_spec hperst hup hrows hlanes, State.setPort_port]
    refine ⟨?_, ?_, ?_, fun a ha => ?_, rfl, rfl⟩
    · rw [State.setPort_flag, flag_setFld_apart (by decide) (by decide) (by decide),
        flag_setFld_apart (by decide) (by decide) (by decide), flag_setFlag_self (by decide)]
    · rw [State.setPort_fld, fld_setFld_apart (by decide) (by decide) (by decide), fld_setFld_self (by decide) (by decide)]
      exact Nat.mod_eq_of_lt (by omega)
    · rw [State.setPort_fld, fld_setFld_self (by decide) (by decide)]
      exact Nat.mod_eq_of_lt (by omega)
    · rw [State.setPort_reg, reg_setFld_other (Ne.symm ha), reg_setFld_other (Ne.symm ha), reg_setFlag_other (Ne.symm ha)]
  · intro p fn s _
    obtain ⟨hstamp, hslots, hintake⟩ := restamps ((List.range 256).filter (fun l => s.laneFn p.val l == fn.val)) s p.val
    have hmem : ∀ l, l < 256 → (l ∈ (List.range 256).filter (fun l => s.laneFn p.val l == fn.val) ↔
        s.laneFn p.val l = fn.val) := fun l hl => by simp [hl]
    refine ⟨s.flr p.val fn.val, rfl, fun l hl => ?_, fun l hl hfn => hslots l ((hmem l hl).mpr hfn), hintake⟩
    rw [State.flr, hstamp]
    simp only [hmem l hl]
  · intro p n base size s _ hid
    obtain ⟨key, hset⟩ := ideSetup_of_identity (p := p.val) (stream := n.val) (base := base) (size := size) hid
    refine ⟨s.ideSetup p.val n.val base size true, rfl, ?_⟩
    rw [hset]
    have hport := port_of_ports (s := ({ s with free := s.free + 1 } : State).setPort p.val
      { s.port p.val with ide := put none (s.port p.val).ide n.val (some ⟨base, size, key⟩) })
      (t := (({ s with free := s.free + 1 } : State).setPort p.val
        { s.port p.val with ide := put none (s.port p.val).ide n.val (some ⟨base, size, key⟩) }).setFlag (HPT_LINK p.val)
          30 true) rfl p.val
    rw [hport, State.setPort_port]
    refine ⟨flag_setFlag_self (by decide), ⟨key, look_put_self _ _ _ _⟩, rfl, fun a ha => ?_⟩
    rw [reg_setFlag_other (Ne.symm ha), State.setPort_reg]
    exact reg_of_regs rfl a

end Sys2Proof.Machine
end

section
/-! SUPPORT. What orders read of memory, what a faulted order changes, and what an issue leaves as its work left it
(R211, R237, R240). -/

namespace Sys2Proof.Machine

/-! ### Readings that depend on memory alone -/

section
variable {s t : State} (h : t.mem = s.mem)
include h

theorem byte_of_mem (a : Nat) : t.byte a = s.byte a := by
  unfold State.byte
  rw [h]

theorem read_of_mem (a n : Nat) : t.read a n = s.read a n := by
  unfold State.read
  simp only [byte_of_mem h]

theorem readNat_of_mem (a n : Nat) : t.readNat a n = s.readNat a n := by
  unfold State.readNat
  rw [read_of_mem h]

theorem secOff_of_mem (base ty : Nat) : t.secOff base ty = s.secOff base ty := by
  unfold State.secOff State.secEntry State.img
  simp only [readNat_of_mem h]

theorem chr_of_mem (ty hi lo : Nat) : t.chr ty hi lo = s.chr ty hi lo := by
  unfold State.chr State.sect State.img
  rw [secOff_of_mem h, readNat_of_mem h]

theorem progHdr_of_mem (n d hi lo : Nat) : t.progHdr n d hi lo = s.progHdr n d hi lo := by
  unfold State.progHdr State.copyLen
  simp only [chr_of_mem h]

theorem statusAt_of_mem (n d k : Nat) : t.statusAt n d k = s.statusAt n d k := by
  unfold State.statusAt
  rw [progHdr_of_mem h]

theorem rowFld_of_mem (n d b hi lo : Nat) : t.rowFld n d b hi lo = s.rowFld n d b hi lo := by
  unfold State.rowFld State.rowAt
  rw [progHdr_of_mem h, readNat_of_mem h]

theorem operand_of_mem (n d k : Nat) : t.operand n d k = s.operand n d k := by
  unfold State.operand
  rw [progHdr_of_mem h, read_of_mem h]

theorem everyDie_of_mem (u : EngUnit) (prog : Nat) (o : BitVec 128) : t.everyDie u prog o = s.everyDie u prog o := by
  unfold State.everyDie
  simp only [operand_of_mem h]

end

theorem eng_of_queues {s t : State} (h : t.queues = s.queues) (u : EngUnit) : t.eng u = s.eng u := by
  unfold State.eng
  rw [h]

theorem queueOf_of_queues {s t : State} (h : t.queues = s.queues) (u : EngUnit) (dec : Bool) :
    t.queueOf u dec = s.queueOf u dec := by
  unfold State.queueOf
  rw [eng_of_queues h]

/-- What a write of bytes leaves of memory and poison. -/
theorem onlyBytes_write (s : State) (a : Nat) (bs : List Byte) : onlyBytes a bs.length s (s.write a bs) := by
  refine ⟨fun k hk => byte_write_other hk, fun g hg => ?_⟩
  show look false (keepKeys s.poison (fun g => !covers a bs.length g)) g = _
  rw [look_keepKeys, if_pos]
  unfold covers
  simp only [Bool.not_eq_true', Bool.and_eq_false_iff, decide_eq_false_iff_not]
  omega

/-! ### Registers of a unit -/

/-- The registers of units that take orders lie apart from those of records. -/
theorem unitReg_notOfRecord (u : EngUnit) (o : Nat) (hu : EngUnit.ok u = true) (ho : o < 0x200) : unitReg u o ∉ recordRegs := by
  have hinst : u.inst < unitsOf u.kind := of_decide_eq_true hu
  have hd := u.die.isLt
  have hlt : unitReg u o < 0x02000000 ∧ 0x01000000 ≤ unitReg u o := by
    unfold unitReg asyReg atnReg vecReg dmaReg dieBase
    cases hk : u.kind
    all_goals
      rw [hk] at hinst
      simp only [unitsOf] at hinst
      dsimp only
      omega
  simp only [recordRegs, DBK_STAT, DBK_FLOG_HEAD, DBK_CNT_RECORDS, DBK_CNT_LOST, DBK_CNT_PERM, CLR_CNT_FWDLOST, dbk, clrReg,
    List.mem_cons, List.not_mem_nil, or_false]
  omega

theorem unitReg_inj {u : EngUnit} {o p : Nat} (h : unitReg u o = unitReg u p) : o = p := by
  unfold unitReg asyReg atnReg vecReg dmaReg at h
  cases hk : u.kind
  all_goals
    rw [hk] at h
    dsimp only at h
    omega

theorem unitReg_ne {u : EngUnit} {o p : Nat} (h : o ≠ p) : unitReg u o ≠ unitReg u p := fun e => h (unitReg_inj e)

theorem counted_of_reg {a n : Nat} {s t u : State} (hc : counted a n s t) (hr : u.reg a = t.reg a) : counted a n s u := by
  unfold counted at *
  rw [hr, hc]

theorem counted_bump {a n : Nat} (s : State) : counted a n s (s.bump a n) := reg_bump_self

theorem counted_from {a n : Nat} {s t u : State} (hr : t.reg a = s.reg a) (hc : counted a n t u) : counted a n s u := by
  unfold counted at *
  rw [hc, hr]

/-! ### A faulted order (R240) -/

/-- The word that `ENG_QFAULT` takes. -/
def faultWord (j : Job) (reason : Nat) : Nat :=
  ordClass j.order * 2 ^ 28 + ordOp j.order * 2 ^ 24 + reason * 2 ^ 20 + j.decode.toNat * 2 ^ 19 + j.row

theorem ordBits_lt (o : BitVec 128) (hi lo : Nat) : ordBits o hi lo < 2 ^ (hi + 1 - lo) := Nat.mod_lt _ (Nat.two_pow_pos _)

/-- What a faulted order changes: its unit's `ENG_QFAULT` and counter, one record, and marks of rows. -/
structure OrderFaulted (j : Job) (reason : Nat) (s t : State) : Prop where
  word : t.reg (ENG_QFAULT j.unit) = BitVec.ofNat 64 (faultWord j reason)
  count : counted (ENG_CNT_FAULT j.unit) 1 s t
  serial : t.log.serial = s.log.serial + 1
  regs : onlyRegs (ENG_QFAULT j.unit :: ENG_CNT_FAULT j.unit :: recordRegs) s t
  parts : onlyParts recordParts s t

theorem orderFaulted (s : State) (j : Job) (reason : Nat) (hu : EngUnit.ok j.unit = true) :
    OrderFaulted j reason s (s.orderFault j reason) := by
  have hparts : onlyParts recordParts s (s.orderFault j reason) :=
    Leads.onlyParts (keeps_orderFault (Has.self.sub rfl) Leads.self)
  unfold State.orderFault
  extract_lets named noted r told
  have htold : Recorded noted told := recorded_fault noted _
  have hword : ENG_QFAULT j.unit ∉ recordRegs := unitReg_notOfRecord _ _ hu (by decide)
  have hcount : ENG_CNT_FAULT j.unit ∉ recordRegs := unitReg_notOfRecord _ _ hu (by decide)
  have hne : ENG_CNT_FAULT j.unit ≠ ENG_QFAULT j.unit := unitReg_ne (by decide)
  have hmark : ∀ a, (told.markRows j.prog j.row (fun w => { w with faulted := true })).reg a = told.reg a :=
    fun a => onlyRegs_markRows [] told _ _ _ a List.not_mem_nil
  refine ⟨?_, ?_, htold.serial, ?_, hparts⟩
  · rw [hmark, htold.reg hword, reg_bump_other hne]
    exact reg_setReg_self
  · refine counted_of_reg ?_ ((hmark _).trans (htold.reg hcount))
    exact counted_from (reg_setReg_other (Ne.symm hne)) (counted_bump named)
  · have hnoted : onlyRegs (ENG_QFAULT j.unit :: ENG_CNT_FAULT j.unit :: recordRegs) s noted :=
      onlyRegs_bump (by simp) (onlyRegs_setReg (by simp) (onlyRegs_refl _ s))
    exact onlyRegs_trans (onlyRegs_trans hnoted
      (onlyRegs_mono (fun a ha => by simp [ha]) htold.regs)) (onlyRegs_markRows _ told _ _ _)

/-- The fields of `ENG_QFAULT` that name a fault. -/
theorem OrderFaulted.fields {j : Job} {reason : Nat} {s t : State} (h : OrderFaulted j reason s t) (hr : reason < 16)
    (hrow : j.row < 2 ^ 13) : t.fld (ENG_QFAULT j.unit) 31 28 = ordClass j.order ∧
      t.fld (ENG_QFAULT j.unit) 23 20 = reason ∧ t.flag (ENG_QFAULT j.unit) 19 = j.decode := by
  have hc : ordClass j.order < 16 := ordBits_lt _ 127 124
  have ho : ordOp j.order < 16 := ordBits_lt _ 123 120
  have hd : j.decode.toNat < 2 := by cases j.decode <;> decide
  have hlt : faultWord j reason < 2 ^ 64 := by
    unfold faultWord
    omega
  have hword : (t.reg (ENG_QFAULT j.unit)).toNat = faultWord j reason := by
    rw [h.word, BitVec.toNat_ofNat, Nat.mod_eq_of_lt hlt]
  have hbit : t.fld (ENG_QFAULT j.unit) 19 19 = j.decode.toNat := by
    unfold State.fld bits
    rw [hword]
    unfold faultWord
    omega
  refine ⟨?_, ?_, ?_⟩
  · unfold State.fld bits
    rw [hword]
    unfold faultWord
    omega
  · unfold State.fld bits
    rw [hword]
    unfold faultWord
    omega
  · rw [flag_eq_fld, hbit]
    cases j.decode
    · rfl
    · rfl

theorem row_lt (e : QEntry) : e.row < 2 ^ 13 := bits_lt _ 51 39

/-! ### Signals sent (R239) -/

theorem signalAfter_of_none (s : State) (u : EngUnit) (dec every : Bool) {o : BitVec 128} (h : ordSigInc o = 0) :
    s.signalAfter u dec o every = s := if_pos h

theorem signalAfter_same (s : State) (u : EngUnit) (dec every : Bool) (o : BitVec 128) {p : StatePart} (hp : p ≠ .signals) :
    p.same s (s.signalAfter u dec o every) := by
  have h : Leads (maskOf [.signals]) s (s.signalAfter u dec o every) := keeps_signalAfter (Has.self.sub rfl) Leads.self
  exact h.onlyParts p (by simp [hp])

theorem signalTimes_same (n : Nat) : ∀ (s : State) (u : EngUnit) (dec every : Bool) (o : BitVec 128) {p : StatePart},
    p ≠ .signals → p.same s (s.signalTimes u dec o every n) := by
  induction n with
  | zero => exact fun s _ _ _ _ p _ => onlyParts_refl [] s p List.not_mem_nil
  | succ n ih => exact fun s u dec every o p hp => StatePart.same_trans (signalAfter_same s u dec every o hp) (ih _ u dec every o hp)

theorem signalTimes_none (n : Nat) : ∀ (s : State) (u : EngUnit) (dec every : Bool) {o : BitVec 128}, ordSigInc o = 0 →
    s.signalTimes u dec o every n = s := by
  induction n with
  | zero => exact fun _ _ _ _ _ _ => rfl
  | succ n ih =>
    intro s u dec every o h
    unfold State.signalTimes
    rw [signalAfter_of_none s u dec every h, ih s u dec every h]

theorem signalAfter_one (s : State) (u : EngUnit) (dec : Bool) {o : BitVec 128} (h : ordSigInc o ≠ 0) :
    (s.signalAfter u dec o false).signals = s.signals ++ [⟨ordSigTally o, ordSigInc o, none, u, dec⟩] := by
  unfold State.signalAfter
  rw [if_neg h]
  rfl

/-! ### What an issue leaves as its work left it (R237) -/

/-- An order that has issued and not faulted: it is in progress, and its queue goes on. -/
def State.launched (u : EngUnit) (dec : Bool) (e : QEntry) (r : Done) : State :=
  let x := r.state.setEng u { r.state.eng u with flying := (r.state.eng u).flying ++ [⟨e, e.order, dec, r.ready, false⟩] }
  x.setQueue u dec (x.queueOf u dec).advance

section
variable {s : State} {u : EngUnit} {dec : Bool} {cls op : Nat} {e : QEntry} {work : Job → State → Done}

theorem issue_launched (h : s.starts u dec cls op e = true)
    (hr : (work (firstJob u dec e) (s.bump (issueCounter u dec) 1)).reason = 0) :
    s.issue u dec cls op work = State.launched u dec e (work (firstJob u dec e) (s.bump (issueCounter u dec) 1)) := by
  rw [issue_starts h]
  exact if_pos hr

theorem launched_same (r : Done) {p : StatePart} (hp : p ≠ .queues) : p.same r.state (State.launched u dec e r) := by
  unfold State.launched
  have h : Leads (maskOf [.queues]) r.state
      ((r.state.setEng u { r.state.eng u with flying := (r.state.eng u).flying ++ [⟨e, e.order, dec, r.ready, false⟩] }).setQueue
        u dec ((r.state.setEng u { r.state.eng u with flying := (r.state.eng u).flying ++ [⟨e, e.order, dec, r.ready, false⟩]
        }).queueOf u dec).advance) :=
    keeps_setQueue (Has.self.sub rfl) (keeps_setEng (Has.self.sub rfl) Leads.self)
  exact h.onlyParts p (by simp [hp])

theorem launched_reg (r : Done) (a : Nat) : (State.launched u dec e r).reg a = r.state.reg a :=
  reg_of_regs (launched_same r (p := .regs) nofun) a

/-- The frame of an order that has issued: what its work changed, and the queues. -/
theorem issue_onlyParts {ps : List StatePart} (h : s.starts u dec cls op e = true)
    (hr : (work (firstJob u dec e) (s.bump (issueCounter u dec) 1)).reason = 0)
    (hp : onlyParts ps (s.bump (issueCounter u dec) 1) (work (firstJob u dec e) (s.bump (issueCounter u dec) 1)).state)
    (hregs : StatePart.regs ∈ ps) (hqueues : StatePart.queues ∈ ps) : onlyParts ps s (s.issue u dec cls op work) := by
  have hbump : Leads (maskOf [.regs]) s (s.bump (issueCounter u dec) 1) := keeps_bump (Has.self.sub rfl) Leads.self
  rw [issue_launched h hr]
  refine onlyParts_trans (onlyParts_mono (by simpa using hregs) hbump.onlyParts) (onlyParts_trans hp ?_)
  exact fun p hout => launched_same _ (fun hq => hout (hq ▸ hqueues))

theorem issue_onlyRegs {as : List Nat} (h : s.starts u dec cls op e = true)
    (hr : (work (firstJob u dec e) (s.bump (issueCounter u dec) 1)).reason = 0)
    (hp : onlyRegs as (s.bump (issueCounter u dec) 1) (work (firstJob u dec e) (s.bump (issueCounter u dec) 1)).state)
    (hregs : issueCounter u dec ∈ as) : onlyRegs as s (s.issue u dec cls op work) := by
  rw [issue_launched h hr]
  exact onlyRegs_trans (onlyRegs_bump hregs (onlyRegs_refl _ s)) (onlyRegs_trans hp (fun a _ => launched_reg _ a))

end

end Sys2Proof.Machine
end

section
/-! SUPPORT. Queues: enqueueing, skipping, completion and the watchdog, and the MARK orders (O25, O27, O28). -/

namespace Sys2Proof.Machine

/-! ### MARK orders (R228, R235) -/

theorem issueCounter_ne_qctl (u : EngUnit) (dec : Bool) : issueCounter u dec ≠ ENG_QCTL u := by
  cases dec
  · exact unitReg_ne (by decide)
  · exact unitReg_ne (by decide)

/-- Work that only waits its turn leaves its queue and counts. -/
theorem noWork_issued {s : State} {u : EngUnit} {dec : Bool} {cls op : Nat} {e : QEntry}
    (h : s.starts u dec cls op e = true) :
    issued u dec e true s (s.issue u dec cls op noWork) ∧ onlyParts [.regs, .queues] s (s.issue u dec cls op noWork) ∧
      onlyRegs [issueCounter u dec] s (s.issue u dec cls op noWork) :=
  ⟨issue_issued (work := noWork) h rfl rfl rfl, issue_onlyParts h rfl (onlyParts_refl _ _) (by simp) (by simp),
    issue_onlyRegs h rfl (onlyRegs_refl _ _) (by simp)⟩

/-- STEP's mark on its queue. -/
def Queue.stopped (q : Queue) : Queue := { q with hold := true, stepped := true, skip := 0 }

/-- An order that is alone at the head of its queue leaves it. -/
theorem advance_once {q : Queue} {e : QEntry} {es : List QEntry} (hq : q.entries = e :: es) (hr : q.reps = 0)
    (ha : q.arrive = none) (hc : e.count = 1) : q.advance = q.rest := by
  obtain ⟨entries, reps, skip, hold, arrive, stepped⟩ := q
  dsimp only at hq hr ha
  subst hq hr ha
  simp [Queue.advance, Queue.rest, hc]

theorem flying_setQueue (g : EngState) (dec : Bool) (q : Queue) : (g.setQueue dec q).flying = g.flying := by
  cases dec
  · rfl
  · rfl

theorem queues_setEng_setEng {s t : State} {u : EngUnit} {v w : EngState} (h : t.queues = (s.setEng u v).queues)
    (hv : v ≠ EngState.idle) : (t.setEng u w).queues = (s.setEng u w).queues := by
  unfold State.setEng
  dsimp only
  rw [h]
  exact put_put hv

theorem ne_idle_of_flying {g : EngState} (h : g.flying ≠ []) : g ≠ EngState.idle := fun e => h (by rw [e]; rfl)

theorem ne_idle_of_entries {g : EngState} {dec : Bool} (h : (g.queue dec).entries ≠ []) : g ≠ EngState.idle := fun e =>
  h (by rw [e]; cases dec <;> rfl)

/-- An order whose work rewrites its own queue, without taking its head, leaves the queue's rest. -/
theorem launched_of_queue {s : State} {u : EngUnit} {dec : Bool} {e : QEntry} {es : List QEntry} {r : Done} {q : Queue}
    (hr : r.state.queues = (s.setQueue u dec q).queues) (hq : q.entries = e :: es) (hreps : q.reps = 0)
    (ha : q.arrive = none) (hc : e.count = 1) :
    (State.launched u dec e r).queues = (s.setEng u (({ s.eng u with flying := (s.eng u).flying ++
      [⟨e, e.order, dec, r.ready, false⟩] } : EngState).setQueue dec q.rest)).queues := by
  generalize hf : (⟨e, e.order, dec, r.ready, false⟩ : InFlight) = f
  have heng : r.state.eng u = (s.eng u).setQueue dec q := by
    rw [eng_of_queues hr, State.setQueue, State.setEng_eng]
  have hidle : (s.eng u).setQueue dec q ≠ EngState.idle :=
    ne_idle_of_entries (dec := dec) (by rw [queue_setQueue, hq]; exact List.cons_ne_nil _ _)
  have hflying : ({ (s.eng u).setQueue dec q with flying := (s.eng u).flying ++ [f] } : EngState) ≠ EngState.idle :=
    ne_idle_of_flying (by simp)
  have hqueue : ({ (s.eng u).setQueue dec q with flying := (s.eng u).flying ++ [f] } : EngState).queue dec = q := by
    cases dec
    · rfl
    · rfl
  have hnew : ({ (s.eng u).setQueue dec q with flying := (s.eng u).flying ++ [f] } : EngState).setQueue dec q.rest =
      ({ s.eng u with flying := (s.eng u).flying ++ [f] } : EngState).setQueue dec q.rest := by
    cases dec
    · rfl
    · rfl
  unfold State.launched
  rw [hf, heng, flying_setQueue]
  simp only [State.setQueue, State.queueOf, State.setEng_eng, hqueue, advance_once hq hreps ha hc, hnew]
  exact (queues_setEng_setEng rfl hflying).trans (queues_setEng_setEng hr hidle)

/-- STEP's order holds its queue and leaves it. -/
theorem stepWork_issued {s : State} {u : EngUnit} {dec : Bool} {e : QEntry} (h : s.starts u dec 9 0 e = true) :
    (s.issue u dec 9 0 stepWork).queues = (s.setEng u (({ s.eng u with flying := (s.eng u).flying ++
      [⟨e, e.order, dec, true, false⟩] } : EngState).setQueue dec (s.queueOf u dec).stopped.rest)).queues ∧
    ∀ a, (s.issue u dec 9 0 stepWork).reg a = ((s.bump (issueCounter u dec) 1).setFlag (ENG_QCTL u) 0 true).reg a := by
  obtain ⟨_, _, _, _, ⟨es, he⟩, _, _, reps, hn, _, _⟩ := starts_parts h
  obtain ⟨free, _⟩ := starts_free h
  have hbump : (s.bump (issueCounter u dec) 1).queues = s.queues := by rw [State.bump_queues]
  have hqueue : (s.bump (issueCounter u dec) 1).queueOf u dec = s.queueOf u dec := queueOf_of_queues hbump u dec
  have hstate : (stepWork (firstJob u dec e) (s.bump (issueCounter u dec) 1)).state =
      (((s.bump (issueCounter u dec) 1).setQueue u dec (s.queueOf u dec).stopped).setFlag (ENG_QCTL u) 0 true) := by
    rw [← hqueue]
    rfl
  have hreason : (stepWork (firstJob u dec e) (s.bump (issueCounter u dec) 1)).reason = 0 := rfl
  rw [issue_launched h hreason]
  constructor
  · refine launched_of_queue (s := s) (q := (s.queueOf u dec).stopped) (es := es) ?_ he reps free hn
    rw [hstate, State.setFlag_queues]
    unfold State.setQueue State.setEng
    dsimp only
    rw [hbump, eng_of_queues hbump]
  · intro a
    rw [launched_reg, hstate]
    unfold State.setFlag State.setFld
    by_cases ha : ENG_QCTL u = a
    · subst ha
      rw [reg_setReg_self, reg_setReg_self, State.setQueue_reg]
    · rw [reg_setReg_other ha, reg_setReg_other ha, State.setQueue_reg]

/-- The 16 bytes that TRACE writes. -/
def traceBytes (s : State) (j : Job) : List Byte :=
  natLe 8 (s.counter (j.die / 2)).toNat ++ natLe 2 (j.body 55 40) ++
    natLe 6 (j.account * 2 ^ 52 + j.row * 2 ^ 39 + j.layer * 2 ^ 27 + j.prog * 2 ^ 19 + j.index * 2 ^ 3)

theorem length_traceBytes (s : State) (j : Job) : (traceBytes s j).length = 16 := by
  simp only [traceBytes, List.length_append, length_natLe]

theorem traceWork_state (s : State) (u : EngUnit) (dec : Bool) (e : QEntry) (a : Nat) :
    (traceWork (firstJob u dec e) (s.bump a 1)).state = (s.bump a 1).write
      (s.statusAt e.prog u.die.val (ordBody e.order 39 28)) (traceBytes s (firstJob u dec e)) := by
  unfold traceWork
  dsimp only
  rw [show (firstJob u dec e).prog = e.prog from rfl, show (firstJob u dec e).die = u.die.val from rfl,
    statusAt_of_mem (s := s) (t := s.bump a 1) (by rw [State.bump_mem])]
  rfl

/-- Bytes from `a` on hold the parts they were written as. -/
theorem read_append {t : State} {a : Nat} {xs ys : List Byte} {n : Nat} (h : t.read a n = xs ++ ys) :
    t.read a xs.length = xs ∧ t.read (a + xs.length) ys.length = ys := by
  have hn : xs.length + ys.length = n := by
    rw [← List.length_append, ← h, State.read, List.length_map, List.length_range]
  have hsplit : t.read a n = t.read a xs.length ++ t.read (a + xs.length) ys.length := by
    unfold State.read
    rw [← hn, List.range_add, List.map_append, List.map_map]
    simp only [Function.comp_def, Nat.add_assoc]
  rw [hsplit] at h
  exact List.append_inj h (by simp [State.read])

/-- Settles O27: what each order's work does, and the issue around it. -/
theorem marksActOnTheirQueue : Obligations.MarksActOnTheirQueue := by
  unfold Obligations.MarksActOnTheirQueue
  refine ⟨?_, ?_, ?_⟩
  · rintro i u dec e s (⟨rfl, h⟩ | ⟨rfl, h⟩)
    · exact ⟨_, rfl, noWork_issued h⟩
    · exact ⟨_, rfl, noWork_issued h⟩
  · intro u dec e s h
    obtain ⟨hqueues, hreg⟩ := stepWork_issued h
    have hcount : (s.issue u dec 9 0 stepWork).reg (issueCounter u dec) = (s.bump (issueCounter u dec) 1).reg (issueCounter u dec) := by
      rw [hreg, reg_setFlag_other (Ne.symm (issueCounter_ne_qctl u dec))]
    have hqctl : (s.bump (issueCounter u dec) 1).reg (ENG_QCTL u) = s.reg (ENG_QCTL u) :=
      reg_bump_other (issueCounter_ne_qctl u dec)
    have hparts : Leads (maskOf [.regs, .queues]) (s.bump (issueCounter u dec) 1)
        (stepWork (firstJob u dec e) (s.bump (issueCounter u dec) 1)).state :=
      keeps_setFlag (Has.self.sub rfl) (keeps_setQueue (Has.self.sub rfl) Leads.self)
    refine ⟨s.issue u dec 9 0 stepWork, rfl, ⟨hqueues, counted_of_reg (counted_bump s) hcount⟩, ?_, ?_, ?_, ?_⟩
    · rw [flag_of_reg (hreg _), flag_setFlag_self (by decide)]
    · intro k hk h64
      rw [flag_of_reg (hreg _), flag_setFlag_apart (by decide) (by omega), flag_of_reg hqctl]
    · exact issue_onlyParts h rfl hparts.onlyParts (by simp) (by simp)
    · intro a ha
      rw [hreg]
      exact onlyRegs_setFlag (s := s) (as := [issueCounter u dec, ENG_QCTL u]) (by simp)
        (onlyRegs_bump (by simp) (onlyRegs_refl _ s)) a ha
  · intro u dec e s h a
    have hstate := traceWork_state s u dec e (issueCounter u dec)
    have hreason : (traceWork (firstJob u dec e) (s.bump (issueCounter u dec) 1)).reason = 0 := rfl
    have hregs : (traceWork (firstJob u dec e) (s.bump (issueCounter u dec) 1)).state.regs =
        (s.bump (issueCounter u dec) 1).regs := by rw [hstate, State.write_regs]
    have hparts : Leads (maskOf [.mem, .poison]) (s.bump (issueCounter u dec) 1)
        (traceWork (firstJob u dec e) (s.bump (issueCounter u dec) 1)).state := by
      rw [hstate]
      exact keeps_write (Has.self.sub rfl) Leads.self
    have hmem : (s.issue u dec 9 2 traceWork).mem = (traceWork (firstJob u dec e) (s.bump (issueCounter u dec) 1)).state.mem := by
      rw [issue_launched h hreason]
      exact launched_same _ (p := .mem) nofun
    have hpoison : (s.issue u dec 9 2 traceWork).poison =
        (traceWork (firstJob u dec e) (s.bump (issueCounter u dec) 1)).state.poison := by
      rw [issue_launched h hreason]
      exact launched_same _ (p := .poison) nofun
    have hread : (s.issue u dec 9 2 traceWork).read a 16 = traceBytes s (firstJob u dec e) := by
      rw [read_of_mem hmem, hstate, ← length_traceBytes s (firstJob u dec e), read_write_self]
    have hbytes : onlyBytes a 16 (s.bump (issueCounter u dec) 1)
        (traceWork (firstJob u dec e) (s.bump (issueCounter u dec) 1)).state := by
      rw [hstate, ← length_traceBytes s (firstJob u dec e)]
      exact onlyBytes_write _ _ _
    obtain ⟨hcounter, hbody, -⟩ : (s.issue u dec 9 2 traceWork).read a 8 = natLe 8 (s.counter (u.die.val / 2)).toNat ∧
        (s.issue u dec 9 2 traceWork).read (a + 8) 2 = natLe 2 (ordBody e.order 55 40) ∧ True := by
      obtain ⟨hhead, -⟩ := read_append hread
      obtain ⟨h8, h2⟩ := read_append hhead
      simp only [length_natLe] at h8 h2
      exact ⟨h8, h2, trivial⟩
    refine ⟨s.issue u dec 9 2 traceWork, rfl, issue_issued h hreason ?_ (reg_of_regs hregs _), hcounter, hbody, ?_, ?_, ?_⟩
    · rw [hstate, State.write_queues, State.bump_queues]
    · refine ⟨fun k hk => ?_, fun g hg => ?_⟩
      · rw [byte_of_mem hmem, hbytes.1 k hk, State.bump_byte]
      · rw [hpoison, hbytes.2 g hg, State.bump_poison]
    · exact issue_onlyParts h hreason (onlyParts_mono (by simp) hparts.onlyParts) (by simp) (by simp)
    · exact issue_onlyRegs h hreason (onlyRegs_of_regs hregs) (by simp)

end Sys2Proof.Machine
end

section
/-! SUPPORT. Enqueueing, skipping, completion and the watchdog (O25, O28). -/

namespace Sys2Proof.Machine

/-! ### Skipping (R217) -/

/-- The state of a queue whose head is skipped, before the head's signals. -/
def State.headSkipped (s : State) (u : EngUnit) (dec : Bool) : State :=
  (s.setQueue u dec { (s.queueOf u dec).drop with skip := (s.queueOf u dec).skip - 1 }).bump (ENG_CNT_SKIP u) 1

theorem skipHead_eq {s : State} {u : EngUnit} {dec : Bool} {e : QEntry} {es : List QEntry}
    (hq : (s.queueOf u dec).entries = e :: es) (hskip : 0 < (s.queueOf u dec).skip) (hreps : (s.queueOf u dec).reps = 0)
    (hhold : (s.queueOf u dec).hold = false) (harrive : (s.queueOf u dec).arrive = none) (hc : ordClass e.order ≠ 9) :
    s.skipHead u dec = (s.headSkipped u dec).signalTimes u dec e.order (s.everyDie u e.prog e.order) e.count := by
  unfold State.skipHead
  dsimp only
  rw [hq]
  dsimp only
  rw [if_pos ⟨hskip, hreps, hc, hhold, harrive⟩, everyDie_of_mem (s := s) (by rw [State.bump_mem, State.setQueue_mem])]
  rfl

theorem drop_skipped {q : Queue} {e : QEntry} {es : List QEntry} (hq : q.entries = e :: es) (hreps : q.reps = 0)
    (harrive : q.arrive = none) (n : Nat) : ({ q.drop with skip := n } : Queue) = { q with entries := es, skip := n } := by
  obtain ⟨entries, reps, skip, hold, arrive, stepped⟩ := q
  dsimp only at hq hreps harrive
  subst hq hreps harrive
  rfl

theorem drop_head {q : Queue} {e : QEntry} {es : List QEntry} (hq : q.entries = e :: es) (hreps : q.reps = 0)
    (harrive : q.arrive = none) : q.drop = { q with entries := es } := by
  obtain ⟨entries, reps, skip, hold, arrive, stepped⟩ := q
  dsimp only at hq hreps harrive
  subst hq hreps harrive
  rfl

theorem skipHead_of_mark {s : State} {u : EngUnit} {dec : Bool} {e : QEntry} {es : List QEntry}
    (hq : (s.queueOf u dec).entries = e :: es) (hc : ordClass e.order = 9) : s.skipHead u dec = s := by
  unfold State.skipHead
  dsimp only
  rw [hq]
  dsimp only
  rw [if_neg (fun h => h.2.2.1 hc)]

theorem signalTimes_one (s : State) (u : EngUnit) (dec : Bool) {o : BitVec 128} (h : ordSigInc o ≠ 0) :
    (s.signalTimes u dec o false 1).signals = s.signals ++ [⟨ordSigTally o, ordSigInc o, none, u, dec⟩] :=
  signalAfter_one s u dec h

/-! ### Completion (R237) -/

theorem countOrder_same (s : State) (u : EngUnit) (o : BitVec 128) {p : StatePart} (hp : p ≠ .regs) :
    p.same s (s.countOrder u o) := by
  have h : Leads (maskOf [.regs]) s (s.countOrder u o) := keeps_countOrder (Has.self.sub rfl) Leads.self
  exact h.onlyParts p (by simp [hp])

/-- TALLY orders are none of those an engine counts. -/
theorem countOrder_tally (s : State) (u : EngUnit) {o : BitVec 128} (h : ordClass o = 6) : s.countOrder u o = s := by
  unfold State.countOrder
  rw [h]
  cases u.kind
  all_goals rfl

theorem complete_eq {s : State} {u : EngUnit} {dec : Bool} {f : InFlight}
    (hf : (s.eng u).flying.find? (fun f => f.decode == dec && f.ready) = some f) :
    s.complete u dec =
      if ordClass f.order = 6 ∧ ordOp f.order = 2 then
        { (s.setEng u { s.eng u with flying := (s.eng u).flying.erase f }).countOrder u f.order with
          signals := s.signals ++ [⟨ordBody f.order 55 42, 0, some (ordBody f.order 25 18), u, dec⟩] }
      else ((s.setEng u { s.eng u with flying := (s.eng u).flying.erase f }).countOrder u f.order).signalAfter u dec f.order
        (s.everyDie u f.entry.prog f.order) := by
  have hsignals : ((s.setEng u { s.eng u with flying := (s.eng u).flying.erase f }).countOrder u f.order).signals = s.signals :=
    (countOrder_same _ u f.order (p := .signals) nofun).trans (by rw [State.setEng_signals])
  have hmem : ((s.setEng u { s.eng u with flying := (s.eng u).flying.erase f }).countOrder u f.order).mem = s.mem :=
    (countOrder_same _ u f.order (p := .mem) nofun).trans (by rw [State.setEng_mem])
  unfold State.complete
  dsimp only
  rw [hf]
  dsimp only
  rw [hsignals, everyDie_of_mem hmem]

/-! ### The watchdog (R253) -/

/-- The job of an entry that never issued. -/
def waitingJob (u : EngUnit) (dec : Bool) (e : QEntry) : Job := jobOf u dec e ((e.repeated (0 - 1)).getD e.order) false

theorem waitingJob_order (u : EngUnit) (dec : Bool) (e : QEntry) : (waitingJob u dec e).order = e.order := by
  show (e.repeated 0).getD e.order = e.order
  rw [repeated_zero]
  rfl

theorem watchdog_eq {s : State} {u : EngUnit} {dec : Bool} {e : QEntry} {es : List QEntry}
    (hq : (s.queueOf u dec).entries = e :: es) (harrive : (s.queueOf u dec).arrive = none)
    (hwait : s.waiting u (s.queueOf u dec) e.order = true) (hskip : (s.queueOf u dec).skip = 0)
    (hhold : (s.queueOf u dec).hold = false) : s.watchdog u dec =
      ((((s.bump (TAL_CNT_WDOG u.die.val) 1).orderFault (waitingJob u dec e) reasonWatchdog).setQueue u dec
        (s.queueOf u dec).drop).signalTimes u dec e.order
        ((((s.bump (TAL_CNT_WDOG u.die.val) 1).orderFault (waitingJob u dec e) reasonWatchdog).setQueue u dec
        (s.queueOf u dec).drop).everyDie u e.prog e.order) e.count) := by
  have hreps : (s.queueOf u dec).reps = 0 := by
    unfold State.waiting at hwait
    simp only [Bool.and_eq_true, beq_iff_eq] at hwait
    exact hwait.1.1.1
  have hqueue : ∀ j r, ((s.bump (TAL_CNT_WDOG u.die.val) 1).orderFault j r).queueOf u dec = s.queueOf u dec := by
    intro j r
    have hfault : ((s.bump (TAL_CNT_WDOG u.die.val) 1).orderFault j r).queues = (s.bump (TAL_CNT_WDOG u.die.val) 1).queues :=
      (keeps_orderFault Has.self Leads.self).same .queues rfl
    exact queueOf_of_queues (hfault.trans (by rw [State.bump_queues])) u dec
  unfold State.watchdog
  dsimp only
  rw [hq]
  dsimp only
  rw [harrive, hskip, hhold, hwait, hreps, if_neg (by simp)]
  dsimp only
  rw [hqueue, if_neg (by simp)]
  rfl

theorem watchdog_idle {s : State} {u : EngUnit} {dec : Bool} {e : QEntry} {es : List QEntry}
    (hq : (s.queueOf u dec).entries = e :: es) (harrive : (s.queueOf u dec).arrive = none)
    (hwait : s.waiting u (s.queueOf u dec) e.order = false) : s.watchdog u dec = s := by
  unfold State.watchdog
  dsimp only
  rw [hq]
  dsimp only
  rw [harrive, hwait, if_pos (by simp)]

theorem wdog_notOfUnit (u : EngUnit) (o : Nat) (d : Nat) (_ : EngUnit.ok u = true) (_ : d < 4) (ho : o < 0x200) :
    TAL_CNT_WDOG d ≠ unitReg u o := by
  have hinst : u.inst < unitsOf u.kind := of_decide_eq_true ‹_›
  have hdie := u.die.isLt
  unfold TAL_CNT_WDOG tal unitReg asyReg atnReg vecReg dmaReg dieBase
  cases hk : u.kind
  all_goals
    rw [hk] at hinst
    simp only [unitsOf] at hinst
    dsimp only
    omega

theorem wdog_notOfRecord (d : Nat) (_ : d < 4) : TAL_CNT_WDOG d ∉ recordRegs := by
  simp only [TAL_CNT_WDOG, tal, dieBase, recordRegs, DBK_STAT, DBK_FLOG_HEAD, DBK_CNT_RECORDS, DBK_CNT_LOST, DBK_CNT_PERM,
    CLR_CNT_FWDLOST, dbk, clrReg, List.mem_cons, List.not_mem_nil, or_false]
  omega

/-- Settles O28: completion takes the first ready order, and the watchdog a head that waits. -/
theorem completionAndWatchdog : Obligations.CompletionAndWatchdog := by
  unfold Obligations.CompletionAndWatchdog
  refine ⟨?_, ?_⟩
  · intro u dec f s _ hf _
    have heq := complete_eq hf
    constructor
    · intro hclass hinc hevery
      refine ⟨s.complete u dec, rfl, ?_⟩
      rw [heq, if_neg (fun h => hclass h.1), hevery]
      generalize hcount : (s.setEng u { s.eng u with flying := (s.eng u).flying.erase f }).countOrder u f.order = c
      have hsame : ∀ p : StatePart, p ≠ .regs → p.same (s.setEng u { s.eng u with flying := (s.eng u).flying.erase f }) c :=
        fun p hp => hcount ▸ countOrder_same _ u f.order hp
      refine ⟨?_, ?_, fun p hp => ?_⟩
      · exact (signalAfter_same c u dec false f.order (p := .queues) nofun).trans (hsame .queues nofun)
      · rw [signalAfter_one c u dec hinc, show c.signals = _ from hsame .signals nofun, State.setEng_signals]
      · simp only [List.mem_cons, List.not_mem_nil, or_false, not_or] at hp
        obtain ⟨hregs, hqueues, hsignals⟩ := hp
        have hset : Leads (maskOf [.queues]) s (s.setEng u { s.eng u with flying := (s.eng u).flying.erase f }) :=
          keeps_setEng (Has.self.sub rfl) Leads.self
        exact StatePart.same_trans (hset.onlyParts p (by simp [hqueues]))
          (StatePart.same_trans (hsame p hregs) (signalAfter_same c u dec false f.order hsignals))
    · intro hclass hop
      refine ⟨s.complete u dec, rfl, ?_⟩
      rw [heq, if_pos ⟨hclass, hop⟩, countOrder_tally _ u hclass]
      exact ⟨rfl, rfl, Leads.onlyParts (keeps_put_signals (Has.self.sub rfl) (keeps_setEng (Has.self.sub rfl) Leads.self))⟩
  · intro u dec e es s _ hu q hq harrive
    constructor
    · intro hwait hskip hhold
      refine ⟨s.watchdog u dec, rfl, ?_⟩
      have hreps : q.reps = 0 := by
        unfold State.waiting at hwait
        simp only [Bool.and_eq_true, beq_iff_eq] at hwait
        exact hwait.1.1.1
      rw [watchdog_eq hq harrive hwait hskip hhold, drop_head hq hreps harrive]
      generalize hfaulted : (s.bump (TAL_CNT_WDOG u.die.val) 1).orderFault (waitingJob u dec e) reasonWatchdog = f
      have hjob : EngUnit.ok (waitingJob u dec e).unit = true := hu
      have hf : OrderFaulted (waitingJob u dec e) reasonWatchdog (s.bump (TAL_CNT_WDOG u.die.val) 1) f :=
        hfaulted ▸ orderFaulted _ _ _ hjob
      generalize hset : f.setQueue u dec { q with entries := es } = g
      have hregs : ∀ every, (g.signalTimes u dec e.order every e.count).regs = f.regs := fun every =>
        (signalTimes_same e.count g u dec every e.order (p := .regs) nofun).trans (by rw [← hset, State.setQueue_regs])
      obtain ⟨hclass, hreason, _⟩ := hf.fields (by decide) (row_lt e)
      rw [waitingJob_order] at hclass
      have hunit : ∀ o, o < 0x200 → TAL_CNT_WDOG u.die.val ≠ unitReg u o := fun o ho => wdog_notOfUnit u o _ hu u.die.isLt ho
      have hnotFault : TAL_CNT_WDOG u.die.val ∉ ENG_QFAULT u :: ENG_CNT_FAULT u :: recordRegs := by
        simp only [List.mem_cons, not_or]
        exact ⟨hunit _ (by decide), hunit _ (by decide), wdog_notOfRecord _ u.die.isLt⟩
      refine ⟨?_, ?_, ?_, ?_, ?_, ?_, ?_⟩
      · refine (signalTimes_same e.count g u dec _ e.order (p := .queues) nofun).trans ?_
        have hqueues : f.queues = s.queues := (hf.parts .queues (by decide)).trans (by rw [State.bump_queues])
        rw [← hset]
        unfold State.setQueue State.setEng
        dsimp only
        rw [hqueues, eng_of_queues hqueues]
      · rw [fld_of_reg (reg_of_regs (hregs _) _)]
        exact hclass
      · rw [fld_of_reg (reg_of_regs (hregs _) _)]
        exact hreason
      · exact counted_of_reg (counted_bump s) ((reg_of_regs (hregs _) _).trans (hf.regs _ hnotFault))
      · exact counted_of_reg (counted_from (reg_bump_other (hunit _ (by decide))) hf.count) (reg_of_regs (hregs _) _)
      · have hlog := signalTimes_same e.count g u dec (g.everyDie u e.prog e.order) e.order (p := .log) nofun
        rw [show (g.signalTimes u dec e.order (g.everyDie u e.prog e.order) e.count).log = g.log from hlog, ← hset,
          State.setQueue_log, hf.serial, State.bump_log]
      · refine (signalTimes_same e.count g u dec _ e.order (p := .tallies) nofun).trans ?_
        rw [← hset, State.setQueue_tallies, show f.tallies = _ from hf.parts .tallies (by decide), State.bump_tallies]
    · intro hwait
      exact congrArg Host.Outcome.next (watchdog_idle hq harrive hwait)

end Sys2Proof.Machine
end

section
/-! SUPPORT. Enqueueing (O25). -/

namespace Sys2Proof.Machine

/-! ### The entry that a template makes (R211, R230, R234) -/

/-- A queue entry as the dispatch Clerk fills it: order, count, account, row, template bytes, program, number. -/
def filledEntry (te : List Byte) (count acct b n k : Nat) : QEntry :=
  ⟨BitVec.ofNat 128 (fieldB te 15 0),
   BitVec.ofNat 32 (count % 4096 + byteAt te 21 % 128 * 2 ^ 12 + byteAt te 22 % 32 * 2 ^ 19 + byteAt te 23 * 2 ^ 24),
   BitVec.ofNat 64 (acct * 2 ^ 52 + b * 2 ^ 39 + fieldB te 25 24 % 4096 * 2 ^ 27 + n * 2 ^ 19 + k * 2 ^ 3)⟩

theorem byteAt_lt (te : List Byte) (i : Nat) : byteAt te i < 256 := BitVec.isLt _

theorem count_filledEntry (te : List Byte) {count : Nat} (acct b n k : Nat) (h : count ≤ 4095) :
    (filledEntry te count acct b n k).count = count := by
  have h21 := byteAt_lt te 21
  have h22 := byteAt_lt te 22
  have h23 := byteAt_lt te 23
  unfold QEntry.count filledEntry nbits
  dsimp only
  rw [BitVec.toNat_ofNat]
  omega

/-- The fields of an entry's context word. -/
theorem ctx_filledEntry (te : List Byte) (count : Nat) {acct b n k : Nat} (_ : acct < 4096) (hb : b < 8192) (hn : n < 256)
    (hk : k < 65536) : (filledEntry te count acct b n k).prog = n ∧ (filledEntry te count acct b n k).index = k ∧
      (filledEntry te count acct b n k).row = b := by
  unfold QEntry.prog QEntry.index QEntry.row filledEntry bits
  dsimp only
  rw [BitVec.toNat_ofNat]
  refine ⟨?_, ?_, ?_⟩
  · omega
  · omega
  · omega

/-! ### The target's state -/

/-- Allotment moves its own pointer alone (R234). -/
theorem targetUnit_same {s s' : State} {d : Die} {target : Nat} {u : EngUnit} (h : s.targetUnit d target = some (u, s')) :
    onlyParts [.serve] s s' := by
  have hallot : ∀ l (v : EngUnit), some (v, ({ s with serve := { s.serve with allot := l } } : State)) = some (u, s') →
      onlyParts [.serve] s s' := by
    intro l v h
    injection h with h
    injection h with _ h
    rw [← h]
    exact Leads.onlyParts (keeps_put_serve (Has.self.sub rfl) Leads.self)
  have hself : ∀ v : EngUnit, some (v, s) = some (u, s') → onlyParts [.serve] s s' := by
    intro v h
    injection h with h
    injection h with _ h
    rw [← h]
    exact onlyParts_refl _ s
  unfold State.targetUnit at h
  dsimp only at h
  split at h
  · split at h
    · exact hallot _ _ h
    · split at h
      · cases h
      · exact hallot _ _ h
  · split at h
    · split at h
      · exact hself _ h
      · simp only [Option.map_eq_some_iff] at h
        obtain ⟨i, _, h⟩ := h
        exact hself _ (congrArg some h)
      · split at h
        · cases h
        · exact hself _ h
    · exact hself _ h

theorem patch_off {s : State} {n d row : Nat} {p : List Byte} {o : BitVec 128} (h : byteAt p 2 < 128) :
    s.patch n d row p o = some o := if_pos h

theorem byteAt_drop (te : List Byte) (n i : Nat) : byteAt (te.drop n) i = byteAt te (n + i) := by
  unfold byteAt
  rw [List.getD_eq_getElem?_getD, List.getD_eq_getElem?_getD, List.getElem?_drop]

theorem byteAt_take (te : List Byte) {n i : Nat} (h : i < n) : byteAt (te.take n) i = byteAt te i := by
  unfold byteAt
  rw [List.getD_eq_getElem?_getD, List.getD_eq_getElem?_getD, List.getElem?_take_of_lt h]

/-- The reasons for which a queue refuses an order. -/
theorem refusal_lt {s : State} {u : EngUnit} {n : Nat} {o : BitVec 128} {r : Nat} (h : s.refusal u n o = some r) : r < 16 := by
  unfold State.refusal at h
  split at h
  · injection h with h; subst h; decide
  · split at h
    · injection h with h; subst h; decide
    · split at h
      · injection h with h; subst h; decide
      · split at h
        · injection h with h; subst h; decide
        · split at h
          · injection h with h; subst h; decide
          · cases h

/-! ### Enqueueing (R211) -/

section
variable {s s' : State} {d : Die} {n k row : Nat} {u : EngUnit}

/-- The template of an entry of a program. -/
def State.template (s : State) (d : Die) (n k : Nat) : List Byte :=
  s.read (till d.val (32 * s.progHdr n d.val 7 4 + 32 * k)) 32

/-- How often an entry is to run (R234). -/
def State.templateCount (s : State) (d : Die) (n : Nat) (te : List Byte) : Nat :=
  if fieldB te 19 18 % 4096 = 0 then s.param n d.val (byteAt te 20) else fieldB te 19 18 % 4096

/-- The entry a template makes for a row. -/
def State.templateEntry (s : State) (d : Die) (n k row : Nat) : QEntry :=
  filledEntry (s.template d n k) (s.templateCount d n (s.template d n k))
    (if nbit (fieldB (s.template d n k) 19 18) 12 then s.rowFld n d.val row 3 2 % 4096 else 0)
    (if nbit (fieldB (s.template d n k) 19 18) 12 then row else wholeBatch) n k

/-- An entry that its program holds, for a row that the step has, with patches off. -/
theorem enqueue_eq (hprog : k < s.progHdr n d.val 3 2)
    (hrow : nbit (fieldB (s.template d n k) 19 18) 12 = true → row < (s.rowsIn n).length)
    (htarget : s.targetUnit d (fieldB (s.template d n k) 17 16) = some (u, s'))
    (hcount : 1 ≤ s.templateCount d n (s.template d n k)) (hmax : s.templateCount d n (s.template d n k) ≤ 4095)
    (h28 : byteAt (s.template d n k) 28 < 128) (h31 : byteAt (s.template d n k) 31 < 128) :
    s.enqueue d n k row =
      if 256 ≤ (s.queueOf u (nbit (fieldB (s.template d n k) 17 16) 11)).entries.length then s
      else match s'.refusal u n (s.templateEntry d n k row).order with
        | some r => (s'.orderFault (jobOf u (nbit (fieldB (s.template d n k) 17 16) 11) (s.templateEntry d n k row)
            (s.templateEntry d n k row).order false) r).signalTimes u (nbit (fieldB (s.template d n k) 17 16) 11)
            (s.templateEntry d n k row).order false (s.templateCount d n (s.template d n k))
        | none => s'.setQueue u (nbit (fieldB (s.template d n k) 17 16) 11)
            { s.queueOf u (nbit (fieldB (s.template d n k) 17 16) 11) with
              entries := (s.queueOf u (nbit (fieldB (s.template d n k) 17 16) 11)).entries ++ [s.templateEntry d n k row] } := by
  have hp : ∀ o, (s'.patch n d.val row (((s.template d n k).drop 26).take 3) o).bind
      (s'.patch n d.val row ((s.template d n k).drop 29)) = some o := by
    intro o
    rw [patch_off (by rw [byteAt_take _ (by decide), byteAt_drop]; exact h28), Option.bind_some,
      patch_off (by rw [byteAt_drop]; exact h31)]
  unfold State.enqueue
  extract_lets te rowMode rows b acct fixed count ctx exp raw dec src
  have hrow' : rowMode = true → row < rows := hrow
  have htarget' : s.targetUnit d (fieldB te 17 16) = some (u, s') := htarget
  have hcount' : 1 ≤ count := hcount
  have hmax' : count ≤ 4095 := hmax
  have hp' : (s'.patch n d.val row ((te.drop 26).take 3) raw).bind (s'.patch n d.val row (te.drop 29)) = some raw := hp raw
  rw [if_neg (by rw [not_or, not_and]; exact ⟨by omega, fun h => by have := hrow' h; omega⟩), htarget']
  dsimp only
  by_cases hfull : 256 ≤ (s.queueOf u (nbit (fieldB (s.template d n k) 17 16) 11)).entries.length
  · have hfull' : 256 ≤ ((s.eng u).queue dec).entries.length := hfull
    rw [if_pos hfull, if_pos (Or.inr hfull')]
  · have hroom : ¬ 256 ≤ ((s.eng u).queue dec).entries.length := hfull
    rw [if_neg hfull, if_neg (by rw [not_or]; exact ⟨by omega, hroom⟩), if_neg (by omega), hp']
    rfl

end

/-- Settles O25: the Clerk's checks in their order, and the queue left. -/
theorem queuesTakeAndSkipEntries : Obligations.QueuesTakeAndSkipEntries := by
  unfold Obligations.QueuesTakeAndSkipEntries
  refine ⟨?_, ?_⟩
  · intro d n k row u s s' _ hu hn hk hrowlt te f dec count raw q hprog hrow htarget hcount hmax h28 h31
    have heq := enqueue_eq (s := s) (d := d) (n := n) (k := k) (row := row) hprog hrow htarget hcount hmax h28 h31
    have hs' : onlyParts [.serve] s s' := targetUnit_same htarget
    generalize hentry : s.templateEntry d n k row = x at heq
    have hx : x = filledEntry te count (if nbit f 12 then s.rowFld n d.val row 3 2 % 4096 else 0)
        (if nbit f 12 then row else wholeBatch) n k := hentry.symm
    have horder : x.order = raw := by rw [hx]; rfl
    have hxcount : x.count = count := by rw [hx]; exact count_filledEntry te _ _ _ _ hmax
    have hacct : (if nbit f 12 then s.rowFld n d.val row 3 2 % 4096 else 0) < 4096 := by
      split
      · exact Nat.mod_lt _ (by decide)
      · decide
    have hb : (if nbit f 12 then row else wholeBatch) < 8192 := by
      unfold wholeBatch at hrowlt ⊢
      split
      · omega
      · decide
    obtain ⟨hxprog, hxindex, hxrow⟩ := ctx_filledEntry te count hacct hb hn hk
    rw [← hx] at hxprog hxindex hxrow
    have hq : s.queueOf u (nbit (fieldB (s.template d n k) 17 16) 11) = q := rfl
    have hdec : nbit (fieldB (s.template d n k) 17 16) 11 = dec := rfl
    have hcnt : s.templateCount d n (s.template d n k) = count := rfl
    rw [hq, hdec, horder, hcnt] at heq
    have hqueues : s'.queues = s.queues := hs' .queues (by decide)
    clear_value q dec count raw te f
    refine ⟨fun hfull => ?_, fun hroom hok => ?_, fun r hroom hbad => ?_⟩
    · exact congrArg Host.Outcome.next (heq.trans (if_pos hfull))
    · rw [if_neg (by omega), hok] at heq
      refine ⟨s.enqueue d n k row, x, rfl, ?_, horder, hxcount, hxprog, hxindex, hxrow, ?_⟩
      · rw [heq]
        unfold State.setQueue State.setEng
        dsimp only
        rw [hqueues, eng_of_queues hqueues]
      · rw [heq]
        have hset : Leads (maskOf [.queues, .serve]) s' (s'.setQueue u dec { q with entries := q.entries ++ [x] }) :=
          keeps_setQueue (Has.self.sub rfl) Leads.self
        exact onlyParts_trans (onlyParts_mono (by simp) hs') hset.onlyParts
    · rw [if_neg (by omega), hbad] at heq
      dsimp only at heq
      refine ⟨s.enqueue d n k row, rfl, ?_⟩
      rw [heq]
      have hf := orderFaulted s' (jobOf u dec x raw false) r hu
      generalize s'.orderFault (jobOf u dec x raw false) r = t at hf
      obtain ⟨hclass, hreason, hside⟩ := hf.fields (refusal_lt hbad) (row_lt x)
      have hsame : ∀ p : StatePart, p ≠ .signals → p.same t (t.signalTimes u dec raw false count) :=
        fun p hp => signalTimes_same count t u dec false raw hp
      generalize t.signalTimes u dec raw false count = v at hsame
      have hreg : ∀ a, v.reg a = t.reg a := reg_of_regs (hsame .regs nofun)
      have hs : ∀ a, s'.reg a = s.reg a := reg_of_regs (hs' .regs (by decide))
      have hlog : v.log = t.log := hsame .log nofun
      have hlog' : s'.log = s.log := hs' .log (by decide)
      have htq : t.queues = s'.queues := hf.parts .queues (by decide)
      have hvq : v.queues = t.queues := hsame .queues nofun
      refine ⟨hvq.trans (htq.trans hqueues), (fld_of_reg (hreg _) _ _).trans hclass, (fld_of_reg (hreg _) _ _).trans hreason,
        (flag_of_reg (hreg _) _).trans hside, counted_of_reg (counted_from (hs _) hf.count) (hreg _), ?_, fun a ha => ?_⟩
      · rw [hlog, hf.serial, hlog']
      · exact (hreg a).trans ((hf.regs a ha).trans (hs a))
  · intro u dec e es s _ q hq hskip hreps hhold harrive
    refine ⟨fun hc => ?_, fun hc => congrArg Host.Outcome.next (skipHead_of_mark hq hc)⟩
    refine ⟨s.skipHead u dec, rfl, ?_⟩
    rw [skipHead_eq hq hskip hreps hhold harrive hc]
    have hstate : s.headSkipped u dec =
        (s.setQueue u dec { q with entries := es, skip := q.skip - 1 }).bump (ENG_CNT_SKIP u) 1 := by
      unfold State.headSkipped
      rw [drop_skipped hq hreps harrive]
    generalize hg : s.headSkipped u dec = g at hstate
    generalize hev : s.everyDie u e.prog e.order = every
    have hsame : ∀ p : StatePart, p ≠ .signals → p.same g (g.signalTimes u dec e.order every e.count) :=
      fun p hp => signalTimes_same e.count g u dec every e.order hp
    have hframe : onlyParts [.regs, .queues] s g := by
      rw [hstate]
      exact Leads.onlyParts (keeps_bump (Has.self.sub rfl) (keeps_setQueue (Has.self.sub rfl) Leads.self))
    have hreg : ∀ a, (g.signalTimes u dec e.order every e.count).reg a = g.reg a := reg_of_regs (hsame .regs nofun)
    have hsignals : g.signals = s.signals := hframe .signals (by decide)
    have hset : ∀ a, (s.setQueue u dec { q with entries := es, skip := q.skip - 1 }).reg a = s.reg a :=
      fun a => State.setQueue_reg _ _ _ _ _
    refine ⟨?_, ?_, fun a ha => ?_, fun p hp => ?_, fun hnone => ?_, fun hinc hone hevery => ?_⟩
    · exact (show _ = g.queues from hsame .queues nofun).trans (by rw [hstate, State.bump_queues])
    · refine counted_of_reg ?_ (hreg _)
      rw [hstate]
      exact counted_from (hset _) (counted_bump _)
    · rw [hreg, hstate, reg_bump_other (fun h => ha (by simp [h])), hset]
    · simp only [List.mem_cons, List.not_mem_nil, or_false, not_or] at hp
      exact StatePart.same_trans (hframe p (by simp [hp])) (hsame p hp.2.2)
    · rcases hnone with h | h
      · rw [signalTimes_none _ g u dec every h, hsignals]
      · rw [h]
        exact hsignals
    · rw [hevery, hone, signalTimes_one g u dec hinc, hsignals]

end Sys2Proof.Machine
end

section
/-! SUPPORT. Planes cut to the row budget, and the codes of conversions (O30). -/

namespace Sys2Proof.Machine

/-! ### Runs of at most `n` (R106) -/

theorem ceilDiv_zero {n : Nat} (hn : 0 < n) : ceilDiv 0 n = 0 := Nat.div_eq_of_lt (by omega)

/-- Taking one run away lowers the number of runs by one. -/
theorem ceilDiv_sub {m n : Nat} (hn : 0 < n) (hm : 0 < m) : ceilDiv (m - n) n + 1 = ceilDiv m n := by
  unfold ceilDiv
  by_cases h : m ≤ n
  · have h0 : (m - n + n - 1) / n = 0 := Nat.div_eq_of_lt (by omega)
    have h1 : (m + n - 1) / n = 1 := Nat.div_eq_of_lt_le (by omega) (by omega)
    rw [h0, h1]
  · rw [show m + n - 1 = (m - n + n - 1) + n by omega, Nat.add_div_right _ hn]

theorem piecesOf_cons {α : Type} {n fuel : Nat} {l : List α} (hl : l ≠ []) :
    piecesOf n (fuel + 1) l = l.take n :: piecesOf n fuel (l.drop n) := by
  cases l with
  | nil => exact absurd rfl hl
  | cons a l => rfl

theorem piecesOf_nil {α : Type} {n fuel : Nat} : piecesOf n fuel ([] : List α) = [] := by
  cases fuel
  · rfl
  · rfl

theorem piecesOf_spec {α : Type} {n : Nat} (hn : 0 < n) : ∀ (fuel : Nat) (l : List α), l.length < fuel →
    (piecesOf n fuel l).flatten = l ∧ (∀ p ∈ piecesOf n fuel l, p ≠ [] ∧ p.length ≤ n) ∧
      (piecesOf n fuel l).length = ceilDiv l.length n := by
  intro fuel
  induction fuel with
  | zero => intro l h; omega
  | succ fuel ih =>
    intro l h
    by_cases hl : l = []
    · subst hl
      rw [piecesOf_nil]
      exact ⟨rfl, nofun, (ceilDiv_zero hn).symm⟩
    · have hpos : 0 < l.length := List.length_pos_iff.mpr hl
      have hdrop : (l.drop n).length = l.length - n := List.length_drop
      obtain ⟨hflat, hpieces, hlen⟩ := ih (l.drop n) (by omega)
      rw [piecesOf_cons hl]
      refine ⟨?_, ?_, ?_⟩
      · rw [List.flatten_cons, hflat, List.take_append_drop]
      · intro p hp
        rcases List.mem_cons.mp hp with rfl | hp
        · refine ⟨fun e => ?_, List.length_take_le n l⟩
          have := congrArg List.length e
          rw [List.length_take, List.length_nil] at this
          omega
        · exact hpieces p hp
      · rw [List.length_cons, hlen, hdrop]
        exact ceilDiv_sub hn hpos

/-! ### The strikes of one plane -/

/-- A plane's strikes in the plan of a part of a slice, where the plan reaches that plane. -/
theorem planForward_plane (b n rows : Nat) (struck : List Int) (seg : Nat × Nat) (k : Nat) :
    ((planForward b n rows struck seg ⟨[], 0, 0⟩).strikes.filter (fun p => p.plane == k)) =
      if k < n then planeStrikes b k 2 (planeLines n k (64 * seg.1) (Nat.min (64 * (seg.1 + seg.2)) rows) id struck)
      else [] := by
  unfold planForward
  generalize Nat.min (64 * (seg.1 + seg.2)) rows = hi
  suffices h : ∀ m, (((List.range m).foldl (fun p j => match planeLines n j (64 * seg.1) hi id struck with
      | [] => { p with skipped := p.skipped + 1 }
      | l => p.add b j 2 l) (⟨[], 0, 0⟩ : Plan)).strikes.filter (fun p => p.plane == k)) =
      if k < m then planeStrikes b k 2 (planeLines n k (64 * seg.1) hi id struck) else [] from h n
  intro m
  induction m with
  | zero => rfl
  | succ m ih =>
    rw [List.range_succ, List.foldl_append, List.foldl_cons, List.foldl_nil]
    generalize (List.range m).foldl _ (⟨[], 0, 0⟩ : Plan) = plan at ih ⊢
    have hstep : (match planeLines n m (64 * seg.1) hi id struck with
        | [] => { plan with skipped := plan.skipped + 1 }
        | l => plan.add b m 2 l).strikes = plan.strikes ++ planeStrikes b m 2 (planeLines n m (64 * seg.1) hi id struck) := by
      split
      next h => rw [h]; exact (List.append_nil _).symm
      next => rfl
    rw [hstep, List.filter_append, ih]
    have hown : ∀ p ∈ planeStrikes b m 2 (planeLines n m (64 * seg.1) hi id struck), p.plane = m := by
      intro p hp
      obtain ⟨_, _, rfl⟩ := List.mem_map.mp hp
      rfl
    by_cases hk : k = m
    · subst hk
      rw [if_neg (Nat.lt_irrefl _), if_pos (Nat.lt_succ_self _), List.nil_append, List.filter_eq_self]
      intro p hp
      rw [hown p hp]
      exact beq_self_eq_true k
    · have hnone : (planeStrikes b m 2 (planeLines n m (64 * seg.1) hi id struck)).filter (fun p => p.plane == k) = [] := by
        rw [List.filter_eq_nil_iff]
        intro p hp
        rw [hown p hp]
        simpa using Ne.symm hk
      rw [hnone, List.append_nil]
      by_cases hlt : k < m
      · rw [if_pos hlt, if_pos (by omega)]
      · rw [if_neg hlt, if_neg (by omega)]

theorem planeStrikes_spec {b : Nat} (hb : 0 < b) (k nib : Nat) (lines : List Nat) :
    (planeStrikes b k nib lines).flatMap (fun p => p.lines) = lines ∧
      (∀ p ∈ planeStrikes b k nib lines, p.lines ≠ [] ∧ p.lines.length ≤ b ∧ p.level = 0) ∧
      (planeStrikes b k nib lines).length = ceilDiv lines.length b := by
  obtain ⟨hflat, hpieces, hlen⟩ := piecesOf_spec hb (lines.length + 1) lines (Nat.lt_succ_self _)
  refine ⟨?_, ?_, ?_⟩
  · unfold planeStrikes
    rw [List.flatMap_map, List.flatMap_id']
    exact hflat
  · intro p hp
    obtain ⟨l, hl, rfl⟩ := List.mem_map.mp hp
    obtain ⟨hne, hle⟩ := hpieces l hl
    exact ⟨hne, hle, rfl⟩
  · unfold planeStrikes
    rw [List.length_map, hlen]

/-! ### Codes (R101) -/

theorem lsbNum_pos (d : DirEntry) : 0 < d.lsbNum := by
  unfold DirEntry.lsbNum DirEntry.budget
  have := Nat.two_pow_pos (nbits d.geom.toNat 5 3)
  omega

/-- The integers within `w` of a quotient `x / Q` that full scale allows are some, and a draw among them is one. -/
theorem code_between {x w Q : Int} (f : Nat) (hQ : 0 < Q) (hw : Q ≤ w) (hlo : -(256 * Q) < x) (hhi : x < 256 * Q) :
    -255 ≤ max (-255) (-((w - x) / Q)) + (f : Int) % (min 255 ((x + w) / Q) - max (-255) (-((w - x) / Q)) + 1) ∧
      max (-255) (-((w - x) / Q)) + (f : Int) % (min 255 ((x + w) / Q) - max (-255) (-((w - x) / Q)) + 1) ≤ 255 ∧
      ((max (-255) (-((w - x) / Q)) + (f : Int) % (min 255 ((x + w) / Q) - max (-255) (-((w - x) / Q)) + 1)) * Q - x).natAbs ≤
        w.toNat := by
  have hup : (x + w) / Q * Q ≤ x + w := Int.ediv_mul_le _ (by omega)
  have hdown : (w - x) / Q * Q ≤ w - x := Int.ediv_mul_le _ (by omega)
  have hlow : -255 ≤ (x + w) / Q := (Int.le_ediv_iff_mul_le hQ).mpr (by omega)
  have hhigh : -255 ≤ (w - x) / Q := (Int.le_ediv_iff_mul_le hQ).mpr (by omega)
  have hmeet : -((w - x) / Q) ≤ (x + w) / Q := Int.not_lt.mp fun hlt => by
    have h1 := Int.lt_ediv_add_one_mul_self (w - x) hQ
    have h2 := Int.lt_ediv_add_one_mul_self (x + w) hQ
    have : ((x + w) / Q + (w - x) / Q + 1) * Q ≤ 0 * Q := Int.mul_le_mul_of_nonneg_right (by omega) (by omega)
    rw [Int.zero_mul] at this
    have e : ((x + w) / Q + (w - x) / Q + 1) * Q = ((x + w) / Q + 1) * Q + ((w - x) / Q + 1) * Q - Q := by
      simp only [Int.add_mul, Int.one_mul]
      omega
    omega
  generalize (x + w) / Q = a at *
  generalize (w - x) / Q = b at *
  have hspan : 0 < min 255 a - max (-255) (-b) + 1 := by omega
  have h0 := Int.emod_nonneg (f : Int) (Int.ne_of_gt hspan)
  have h1 := Int.emod_lt_of_pos (f : Int) hspan
  generalize (f : Int) % (min 255 a - max (-255) (-b) + 1) = r at *
  generalize hc : max (-255) (-b) + r = c
  have hca : c ≤ a := by omega
  have hcb : -b ≤ c := by omega
  have hle : c * Q ≤ a * Q := Int.mul_le_mul_of_nonneg_right hca (by omega)
  have hge : -b * Q ≤ c * Q := Int.mul_le_mul_of_nonneg_right hcb (by omega)
  rw [Int.neg_mul] at hge
  refine ⟨by omega, by omega, by omega⟩

/-- Settles O30: a plan's strikes of a plane are its lines cut into runs, and a code is drawn from an interval that R101's
bounds leave non-empty. -/
theorem planesAndCodes : Obligations.PlanesAndCodes := by
  unfold Obligations.PlanesAndCodes
  refine ⟨?_, ?_⟩
  · intro b n rows struck seg k hb hk lines own
    have hown : own = planeStrikes b k 2 lines := by
      have h := planForward_plane b n rows struck seg k
      rwa [if_pos hk] at h
    rw [hown]
    exact planeStrikes_spec hb k 2 lines
  · intro s d sum wide r
    have hpos := lsbNum_pos d
    have hr : r = s.code d sum wide := rfl
    unfold State.code at hr
    dsimp only at hr
    generalize d.lsbNum = q at *
    generalize d.lsbDen = den at *
    by_cases hpast : (if 256 * q ≤ sum.natAbs * den then true else if sum.natAbs * den ≤ 254 * q then false
        else s.draw.1 % 2 == 1) = true
    · rw [if_pos hpast] at hr
      rw [hr]
      refine ⟨fun hsmall => ?_, fun _ => rfl, fun _ => rfl, nofun⟩
      rw [if_neg (by omega), if_pos hsmall] at hpast
      cases hpast
    · rw [if_neg hpast] at hr
      rw [hr]
      have hmag : sum.natAbs * den < 256 * q := Nat.lt_of_not_le fun h => hpast (if_pos h)
      refine ⟨fun _ => rfl, fun hbig => absurd hbig (by omega), nofun, fun _ => ?_⟩
      have habs : (2 * sum * den).natAbs < 512 * q := by
        rw [Int.natAbs_mul, Int.natAbs_mul, Int.natAbs_natCast]
        have : (2 : Int).natAbs = 2 := rfl
        rw [this, Nat.mul_assoc]
        omega
      have hw : (if wide then (6 * q : Int) else 3 * q) = ((if wide then 6 else 3) * q : Nat) := by
        cases wide
        · push_cast; rfl
        · push_cast; rfl
      have hbound := code_between (x := 2 * sum * den) (w := if wide then (6 * q : Int) else 3 * q) (Q := ((2 * q : Nat) : Int))
        s.draw.2.draw.1 (by omega) (by rw [hw]; cases wide <;> simp <;> omega) (by push_cast; omega) (by push_cast; omega)
      obtain ⟨h1, h2, h3⟩ := hbound
      refine ⟨h1, h2, ?_⟩
      have hnat : (if wide then (6 * q : Int) else 3 * q).toNat = (if wide then 6 else 3) * q := by
        rw [hw, Int.toNat_natCast]
      rw [hnat] at h3
      have hcomm : ∀ c : Int, 2 * c * (q : Int) = c * ((2 * q : Nat) : Int) := fun c => by
        rw [Int.natCast_mul, Int.mul_comm 2 c, Int.mul_assoc]
        rfl
      rw [hcomm]
      exact h3

end Sys2Proof.Machine
end

section
/-! SUPPORT. Spot assays and assay sets (O33, O34). -/

namespace Sys2Proof.Machine

/-! ### Registers of a die -/

/-- The registers of an Array die's window lie apart from those of records. -/
theorem dieReg_notOfRecord {a : Nat} (h1 : 0x01000000 ≤ a) (h2 : a < 0x02000000) : a ∉ recordRegs := by
  simp only [recordRegs, DBK_STAT, DBK_FLOG_HEAD, DBK_CNT_RECORDS, DBK_CNT_LOST, DBK_CNT_PERM, CLR_CNT_FWDLOST, dbk, clrReg,
    List.mem_cons, List.not_mem_nil, or_false]
  omega

theorem tileDie_lt {t : Nat} (h : t < 32768) : tileDie t < 4 := by
  unfold tileDie
  omega

theorem tileUnit_lt (t : Nat) : tileUnit t < 512 := by
  unfold tileUnit
  omega

theorem asyReg_notOfRecord {d u o : Nat} (hd : d < 4) (hu : u < 512) (ho : o < 0x800) : asyReg d u o ∉ recordRegs := by
  refine dieReg_notOfRecord ?_ ?_
  · unfold asyReg dieBase
    omega
  · unfold asyReg dieBase
    omega

theorem asyReg_ne {d u o p : Nat} (h : o ≠ p) : asyReg d u o ≠ asyReg d u p := by
  unfold asyReg
  omega

/-! ### One column of a spot assay (R160 to R163) -/

/-- The registers of a tile's Assay unit that a spot assay may change, and those of records. -/
def spotRegs (t : Nat) : List Nat :=
  [ASY_LASTFAIL (tileDie t) (tileUnit t), ASY_CNT_SPOTFAIL (tileDie t) (tileUnit t), ASY_CNT_PAIRDROP (tileDie t) (tileUnit t)]
    ++ recordRegs

theorem putPair_regs (s : State) (t : Nat) (w : Word64) :
    onlyRegs [ASY_CNT_PAIRDROP (tileDie t) (tileUnit t)] s (s.putPair t w) := by
  unfold State.putPair
  dsimp only
  split
  · split
    · refine onlyRegs_of_regs ?_
      dsimp only
      rw [State.writeNat_regs]
    · exact onlyRegs_bump (by simp) (onlyRegs_refl _ s)
  · exact onlyRegs_bump (by simp) (onlyRegs_refl _ s)

theorem putPairs_regs (l : List (Conv × Int × Int)) (s : State) (t : Nat) (x : Slice) :
    onlyRegs [ASY_CNT_PAIRDROP (tileDie t) (tileUnit t)] s
      (l.foldl (fun s e => s.putPair t (pairWord t x e.1 e.2.1)) s) :=
  List.foldlRecOn (motive := fun v => onlyRegs [ASY_CNT_PAIRDROP (tileDie t) (tileUnit t)] s v) _ _ (onlyRegs_refl _ s)
    fun v hv _ _ => onlyRegs_trans hv (putPair_regs v t _)

/-- The word that `ASY_LASTFAIL` takes. -/
def lastFailWord (t col : Nat) (sixteenth : Int) : Nat :=
  tileSub t * 2 ^ 23 + col * 2 ^ 13 + toTwos 13 (clampInt (-4096) 4095 sixteenth)

theorem spotFail_spec (s : State) (t : Nat) (v : Conv) (sum r : Int) (ht : t < 32768) :
    counted (ASY_CNT_SPOTFAIL (tileDie t) (tileUnit t)) 1 s (s.spotFail t v sum r) ∧
      (∃ z, (s.spotFail t v sum r).reg (ASY_LASTFAIL (tileDie t) (tileUnit t)) = BitVec.ofNat 64 (lastFailWord t v.col z)) ∧
      onlyRegs (spotRegs t) s (s.spotFail t v sum r) := by
  have hd := tileDie_lt ht
  have hu := tileUnit_lt t
  have hlast : ASY_LASTFAIL (tileDie t) (tileUnit t) ∉ recordRegs := asyReg_notOfRecord hd hu (by decide)
  have hcnt : ASY_CNT_SPOTFAIL (tileDie t) (tileUnit t) ∉ recordRegs := asyReg_notOfRecord hd hu (by decide)
  have hne : ASY_CNT_SPOTFAIL (tileDie t) (tileUnit t) ≠ ASY_LASTFAIL (tileDie t) (tileUnit t) := asyReg_ne (by decide)
  unfold State.spotFail
  extract_lets d u sixteenth named told
  have htold : Recorded named told := recorded_fault named _
  have hburst : ∀ a, (told.startBurst t).reg a = told.reg a := fun a => by unfold State.startBurst; rw [State.setTile_reg]
  refine ⟨?_, ⟨sixteenth, ?_⟩, ?_⟩
  · refine counted_from ?_ (counted_bump (told.startBurst t))
    rw [hburst, htold.reg hcnt, reg_setReg_other (Ne.symm hne)]
  · rw [reg_bump_other hne, hburst, htold.reg hlast]
    exact reg_setReg_self
  · have hnamed : onlyRegs (spotRegs t) s named := onlyRegs_setReg (by simp [spotRegs, d, u]) (onlyRegs_refl _ s)
    have hrec : onlyRegs (spotRegs t) named told := onlyRegs_mono (fun _ hp => List.mem_append_right _ hp) htold.regs
    exact onlyRegs_bump (by simp [spotRegs, d, u])
      (onlyRegs_trans hnamed (onlyRegs_trans hrec (fun a _ => hburst a)))

theorem toTwos_lt (w : Nat) (i : Int) : toTwos w i < 2 ^ w := by
  have hpos : (0 : Int) < (2 ^ w : Nat) := by exact_mod_cast Nat.two_pow_pos w
  have h0 := Int.emod_nonneg i (Int.ne_of_gt hpos)
  have h1 := Int.emod_lt_of_pos i hpos
  unfold toTwos
  omega

/-- The fields of `ASY_LASTFAIL` that name the tile and the column. -/
theorem lastFail_fields {s : State} {a t col : Nat} {z : Int} (h : s.reg a = BitVec.ofNat 64 (lastFailWord t col z))
    (hcol : col < 1024) : s.fld a 26 23 = tileSub t ∧ s.fld a 22 13 = col := by
  have hsub : tileSub t < 16 := Nat.mod_lt _ (by decide)
  have hz := toTwos_lt 13 (clampInt (-4096) 4095 z)
  unfold State.fld bits
  rw [h, BitVec.toNat_ofNat]
  unfold lastFailWord
  constructor
  · omega
  · omega

/-- The checked conversions of a column, each with its sum and residual. -/
def State.checked (s : State) (t : Nat) (x : Slice) (m : Nat) : List (Conv × Int × Int) :=
  (x.convs.filter (fun v => v.col == s.setPhase t + 128 * m && !v.past)).map (fun v => (v, s.spotResid t x m v))

theorem mem_checked {s : State} {t : Nat} {x : Slice} {m : Nat} {e : Conv × Int × Int} : e ∈ s.checked t x m ↔
    e.1 ∈ x.convs ∧ e.1.col = s.setPhase t + 128 * m ∧ e.1.past = false ∧ e.2 = s.spotResid t x m e.1 := by
  unfold State.checked
  simp only [List.mem_map, List.mem_filter, Bool.and_eq_true, beq_iff_eq, Bool.not_eq_true']
  constructor
  · rintro ⟨v, ⟨hv, hc, hp⟩, rfl⟩
    exact ⟨hv, hc, hp, rfl⟩
  · rintro ⟨hv, hc, hp, he⟩
    exact ⟨e.1, ⟨hv, hc, hp⟩, by rw [← he]⟩

theorem spotColumn_outside {s : State} {t : Nat} {x : Slice} {m : Nat}
    (h : (s.dirOf t).colsUsed ≤ s.setPhase t + 128 * m) : s.spotColumn t x m = (s, x) := if_pos h

/-- A slice with a column made digital (R161). -/
def Slice.alsoDigital (x : Slice) (c : Nat) : Slice :=
  { x with digital := if x.digital.contains c then x.digital else x.digital ++ [c] }

theorem mem_alsoDigital {x : Slice} {c k : Nat} : k ∈ (x.alsoDigital c).digital ↔ k ∈ x.digital ∨ k = c := by
  unfold Slice.alsoDigital
  dsimp only
  split
  next h =>
    have hc := List.contains_iff_mem.mp h
    exact ⟨Or.inl, fun hk => hk.elim id (fun e => e ▸ hc)⟩
  next => simp

theorem spotColumn_fail {s : State} {t : Nat} {x : Slice} {m : Nat} {e : Conv × Int × Int}
    (h : ¬ (s.dirOf t).colsUsed ≤ s.setPhase t + 128 * m)
    (hf : (s.checked t x m).find? (fun e => spotFails (s.dirOf t) x.stale e.2.2) = some e) :
    s.spotColumn t x m = (s.spotFail t e.1 e.2.1 e.2.2, x.alsoDigital (s.setPhase t + 128 * m)) := by
  unfold State.spotColumn
  dsimp only
  rw [if_neg h]
  unfold State.checked at hf
  rw [hf]
  rfl

theorem spotColumn_sound {s : State} {t : Nat} {x : Slice} {m : Nat}
    (h : ¬ (s.dirOf t).colsUsed ≤ s.setPhase t + 128 * m)
    (hf : (s.checked t x m).find? (fun e => spotFails (s.dirOf t) x.stale e.2.2) = none) :
    s.spotColumn t x m = ((s.checked t x m).foldl (fun s e => s.putPair t (pairWord t x e.1 e.2.1)) s, x) := by
  unfold State.spotColumn
  dsimp only
  rw [if_neg h]
  unfold State.checked at hf ⊢
  rw [hf]

/-- What a column of a spot assay may change. -/
structure SpotKept (t : Nat) (s : State) (x : Slice) (r : State × Slice) : Prop where
  regs : onlyRegs (spotRegs t) s r.1
  acc : r.2.acc = x.acc
  digital : ∀ c ∈ x.digital, c ∈ r.2.digital
  convs : r.2.convs = x.convs
  idle : x.convs = [] → r = (s, x)

theorem spotColumn_kept (s : State) (t : Nat) (x : Slice) (m : Nat) (ht : t < 32768) :
    SpotKept t s x (s.spotColumn t x m) := by
  by_cases hout : (s.dirOf t).colsUsed ≤ s.setPhase t + 128 * m
  · rw [spotColumn_outside hout]
    exact ⟨onlyRegs_refl _ s, rfl, fun _ h => h, rfl, fun _ => rfl⟩
  · cases hf : (s.checked t x m).find? (fun e => spotFails (s.dirOf t) x.stale e.2.2) with
    | some e =>
      rw [spotColumn_fail hout hf]
      refine ⟨(spotFail_spec s t e.1 e.2.1 e.2.2 ht).2.2, rfl, fun c hc => ?_, rfl, fun hnil => ?_⟩
      · exact mem_alsoDigital.mpr (Or.inl hc)
      · have hmem := (mem_checked.mp (List.mem_of_find?_eq_some hf)).1
        rw [hnil] at hmem
        cases hmem
    | none =>
      rw [spotColumn_sound hout hf]
      refine ⟨onlyRegs_mono (by simp [spotRegs]) (putPairs_regs _ s t x), rfl, fun _ h => h, rfl, fun hnil => ?_⟩
      unfold State.checked
      rw [hnil]
      rfl

theorem spotColumns_kept (l : List Nat) (s : State) (t : Nat) (x : Slice) (ht : t < 32768) :
    SpotKept t s x (l.foldl (fun (r : State × Slice) m => r.1.spotColumn t r.2 m) (s, x)) := by
  refine List.foldlRecOn (motive := fun r => SpotKept t s x r) _ _ ⟨onlyRegs_refl _ s, rfl, fun _ h => h, rfl, fun _ => rfl⟩
    fun r hr m _ => ?_
  have hm := spotColumn_kept r.1 t r.2 m ht
  refine ⟨onlyRegs_trans hr.regs hm.regs, hm.acc.trans hr.acc, fun c hc => hm.digital c (hr.digital c hc),
    hm.convs.trans hr.convs, fun hnil => ?_⟩
  rw [hm.idle (hr.convs.trans hnil)]
  exact hr.idle hnil

theorem spotAssay_eq {s : State} {t : Nat} {x : Slice} (hx : (s.tile t).slice = some x) (hspot : x.spot = true)
    (hrun : x.running = none) (hslots : x.slots = []) : s.spotAssay t =
      ((List.range 8).foldl (fun (r : State × Slice) m => r.1.spotColumn t r.2 m)
        (s.bump (ASY_CNT_SPOT (tileDie t) (tileUnit t)) 1, x)).1.setTile t
        { ((List.range 8).foldl (fun (r : State × Slice) m => r.1.spotColumn t r.2 m)
            (s.bump (ASY_CNT_SPOT (tileDie t) (tileUnit t)) 1, x)).1.tile t with
          slice := some { ((List.range 8).foldl (fun (r : State × Slice) m => r.1.spotColumn t r.2 m)
            (s.bump (ASY_CNT_SPOT (tileDie t) (tileUnit t)) 1, x)).2 with spot := false, convs := [] } } := by
  unfold State.spotAssay
  rw [hx]
  dsimp only
  rw [hspot, hrun, hslots, if_neg (by decide)]

theorem spot_notOfSpotRegs {t : Nat} (ht : t < 32768) : ASY_CNT_SPOT (tileDie t) (tileUnit t) ∉ spotRegs t := by
  have h : ASY_CNT_SPOT (tileDie t) (tileUnit t) ∉ recordRegs :=
    asyReg_notOfRecord (tileDie_lt ht) (tileUnit_lt t) (by decide)
  unfold spotRegs
  simp only [List.cons_append, List.nil_append, List.mem_cons, not_or]
  exact ⟨asyReg_ne (by decide), asyReg_ne (by decide), asyReg_ne (by decide), h⟩

/-- Settles O33: what one column of a spot assay does, and the columns of a set one after another. -/
theorem spotAssays : Obligations.SpotAssays := by
  unfold Obligations.SpotAssays
  refine ⟨⟨?_, ?_⟩, ?_⟩
  · intro t0 x s _ hx hspot hrun hslots
    have hk := spotColumns_kept (List.range 8) (s.bump (ASY_CNT_SPOT (tileDie t0.val) (tileUnit t0.val)) 1) t0.val x t0.isLt
    have heq := spotAssay_eq hx hspot hrun hslots
    generalize (List.range 8).foldl (fun (r : State × Slice) m => r.1.spotColumn t0.val r.2 m)
      (s.bump (ASY_CNT_SPOT (tileDie t0.val) (tileUnit t0.val)) 1, x) = r at hk heq
    refine ⟨s.spotAssay t0.val, { r.2 with spot := false, convs := [] }, rfl, ?_, ?_, rfl, rfl, hk.acc, hk.digital, ?_⟩
    · refine counted_of_reg (counted_bump s) ?_
      rw [heq, State.setTile_reg]
      exact hk.regs _ (spot_notOfSpotRegs t0.isLt)
    · rw [heq, State.setTile_tile]
    · intro hnil
      have hr := hk.idle hnil
      rw [hr] at heq ⊢
      rw [heq]
      exact ⟨rfl, Leads.onlyParts (keeps_setTile (Has.self.sub rfl) (keeps_bump (Has.self.sub rfl) Leads.self))⟩
  · intro t0 s
    constructor
    · intro h
      refine ⟨s.burstEnd t0.val, rfl, ?_⟩
      have heq : s.burstEnd t0.val = s.setTile t0.val { s.tile t0.val with burst := 0 } := if_pos h
      rw [heq]
      exact ⟨rfl, Leads.onlyParts (keeps_setTile (Has.self.sub rfl) Leads.self)⟩
    · intro h
      exact congrArg Host.Outcome.next (if_neg h)
  · intro s t0 m x _ ht d c r
    have hcols : d.colsUsed ≤ 1024 := Nat.min_le_right _ _
    refine ⟨fun hout => spotColumn_outside hout, fun hin hfail => ?_, fun hin hsound => ?_⟩
    · have hin' : ¬ (s.dirOf t0).colsUsed ≤ s.setPhase t0 + 128 * m := by
        have h : c < (s.dirOf t0).colsUsed := hin
        exact Nat.not_le.mpr h
      cases hf : (s.checked t0 x m).find? (fun e => spotFails (s.dirOf t0) x.stale e.2.2) with
      | none =>
        obtain ⟨v, hv, hc, hp, hbad⟩ := hfail
        have hnone := List.find?_eq_none.mp hf (v, s.spotResid t0 x m v) (mem_checked.mpr ⟨hv, hc, hp, rfl⟩)
        exact absurd hbad hnone
      | some e =>
        obtain ⟨_, hcol, _, _⟩ := mem_checked.mp (List.mem_of_find?_eq_some hf)
        have hr : r = _ := spotColumn_fail hin' hf
        obtain ⟨hcount, ⟨z, hword⟩, _⟩ := spotFail_spec s t0 e.1 e.2.1 e.2.2 ht
        have hlt : e.1.col < 1024 := by
          have h : e.1.col = c := hcol
          omega
        obtain ⟨hsub, hcolumn⟩ := lastFail_fields hword hlt
        rw [hr]
        refine ⟨?_, hcount, hsub, hcolumn.trans hcol⟩
        exact mem_alsoDigital.mpr (Or.inr rfl)
    · have hin' : ¬ (s.dirOf t0).colsUsed ≤ s.setPhase t0 + 128 * m := by
        have h : c < (s.dirOf t0).colsUsed := hin
        exact Nat.not_le.mpr h
      have hf : (s.checked t0 x m).find? (fun e => spotFails (s.dirOf t0) x.stale e.2.2) = none := by
        rw [List.find?_eq_none]
        intro e he
        obtain ⟨hv, hc, hp, hres⟩ := mem_checked.mp he
        rw [hres]
        exact Bool.eq_false_iff.mp (hsound e.1 hv hc hp)
      have hr : r = _ := spotColumn_sound hin' hf
      rw [hr]
      refine ⟨rfl, putPairs_regs _ s t0 x _ ?_⟩
      rw [List.mem_singleton]
      exact asyReg_ne (by decide)

end Sys2Proof.Machine
end

section
/-! SUPPORT. Phase boundaries, assay sets and the auxiliary area (O34). -/

namespace Sys2Proof.Machine

/-! ### What phase boundaries keep of the pairs (R157, R163) -/

/-- The window and the pairs of the calibration state stay. -/
def CalKept (s t : State) : Prop := t.cal.window = s.cal.window ∧ t.cal.ring = s.cal.ring

theorem CalKept.of_cal {s t : State} (h : t.cal = s.cal) : CalKept s t := ⟨by rw [h], by rw [h]⟩

theorem CalKept.refl (s : State) : CalKept s s := ⟨rfl, rfl⟩

theorem CalKept.trans {s t u : State} (h : CalKept s t) (k : CalKept t u) : CalKept s u :=
  ⟨k.1.trans h.1, k.2.trans h.2⟩

theorem CalKept.foldl {α : Type} {f : State → α → State} (hf : ∀ s a, CalKept s (f s a)) (l : List α) (s : State) :
    CalKept s (l.foldl f s) :=
  List.foldlRecOn (motive := fun t => CalKept s t) _ _ (CalKept.refl s) fun _ ht a _ => ht.trans (hf _ a)

theorem calKept_note (s : State) (g t col out : Nat) (f : Fit) (old : Nat) :
    CalKept s { s with cal := s.cal.note g t col out f old } := by
  unfold Calib.note
  dsimp only
  split
  · exact ⟨rfl, rfl⟩
  · exact ⟨rfl, rfl⟩

theorem calKept_fitLine (s : State) (t : Nat) (rowSide : Bool) (line : Nat) (ps : List (Int × Int)) :
    CalKept s (s.fitLine t rowSide line ps).1 :=
  CalKept.of_cal ((keeps_fitLine Has.self Leads.self).same .cal rfl)

theorem calKept_fitTile (s : State) (g t window : Nat) : CalKept s (s.fitTile g t window) := by
  unfold State.fitTile
  split
  · exact CalKept.refl s
  · refine CalKept.foldl (fun s c => ?_) _ s
    dsimp only
    split
    · exact CalKept.refl s
    · exact (calKept_fitLine s _ _ _ _).trans (calKept_note _ _ _ _ _ _ _)

section
variable {s t : State} (h : CalKept s t)
include h

theorem CalKept.setReg {a : Nat} {v : Word64} : CalKept s (t.setReg a v) := h.trans (.of_cal (State.setReg_cal _ _ _))
theorem CalKept.setFld {a hi lo v : Nat} : CalKept s (t.setFld a hi lo v) := h.trans (.of_cal (State.setFld_cal _ _ _ _ _))
theorem CalKept.setFlag {a k : Nat} {b : Bool} : CalKept s (t.setFlag a k b) := h.trans (.of_cal (State.setFlag_cal _ _ _ _))
theorem CalKept.bump {a n : Nat} : CalKept s (t.bump a n) := h.trans (.of_cal (State.bump_cal _ _ _))
theorem CalKept.writeNat {a n v : Nat} : CalKept s (t.writeNat a n v) := h.trans (.of_cal (State.writeNat_cal _ _ _ _))
theorem CalKept.write {a : Nat} {bs : List Byte} : CalKept s (t.write a bs) := h.trans (.of_cal (State.write_cal _ _ _))

theorem CalKept.setCal {c : Calib} (hw : c.window = t.cal.window) (hr : c.ring = t.cal.ring) :
    CalKept s { t with cal := c } := h.trans ⟨hw, hr⟩

theorem CalKept.writeIf {p : Prop} [Decidable p] {a n v : Nat} : CalKept s (if p then t.writeNat a n v else t) := by
  split
  · exact h.writeNat
  · exact h

end

theorem calKept_grantRing (s : State) (d u : Nat) : CalKept s (s.grantRing d u) := by
  unfold State.grantRing
  dsimp only
  split
  · exact (((CalKept.refl s).setCal (by rfl) (by rfl)).setFlag).writeNat
  · exact CalKept.refl s

theorem calKept_calTrigger (s : State) (d u reason : Nat) : CalKept s (s.calTrigger d u reason) := by
  unfold State.calTrigger
  extract_lets g marked named again due flagged told
  have hnamed : CalKept s named := (CalKept.refl s).setFlag.setFld.writeIf
  have htold : CalKept s told := ((hnamed.setCal (c := due.cal) (by rfl) (by rfl)).setFlag).writeIf
  split
  · split
    · exact hnamed
    · exact hnamed.setCal (by rfl) (by rfl)
  · split
    · exact hnamed
    · exact htold.trans (calKept_grantRing _ _ _)

theorem calKept_startSet (s : State) (t : Nat) : CalKept s (s.startSet t) := by
  unfold State.startSet
  split
  · exact CalKept.refl s
  · exact (CalKept.refl s).write

theorem calKept_moveRows (s : State) (t : Nat) : CalKept s (s.moveRows t) :=
  CalKept.of_cal ((keeps_moveRows Has.self Leads.self).same .cal rfl)

theorem calKept_beginRun (s : State) (g : Nat) : CalKept s (s.beginRun g) := by
  unfold State.beginRun
  extract_lets d u temp named dated told
  have htold : CalKept s told := (CalKept.refl s).setFld.setFld.writeNat.writeNat.writeNat.writeNat
  clear_value told
  exact htold.setCal (by rfl) (by rfl)

theorem calKept_endRun (s : State) (g : Nat) : CalKept s (s.endRun g) := by
  unfold State.endRun
  extract_lets d u moved figs worst
  have hmoved : CalKept s moved := CalKept.foldl calKept_moveRows _ s
  split
  extract_lets dated listed named quiet counted src
  have hcounted : CalKept s counted := hmoved.write.write.writeNat.setReg.setFld.setFlag.bump
  clear_value counted
  exact hcounted.setCal (by rfl) (by rfl)

theorem calKept_runBoundary (s : State) (window g : Nat) : CalKept s (s.runBoundary window g) := by
  unfold State.runBoundary
  extract_lets d u fitted left told src
  have hfits : CalKept s fitted := CalKept.foldl (fun s t => calKept_fitTile s g t window) _ s
  have htold : CalKept s told := hfits.setFld.writeNat
  clear_value told
  split
  · exact hfits.trans (calKept_beginRun _ g)
  · split
    · exact hfits.trans (calKept_endRun _ g)
    · exact htold.setCal (by rfl) (by rfl)

theorem phaseBoundary_of_same {s : State} (h : s.now.toNat / 125000000 = s.cal.window) : s.phaseBoundary = s := if_pos h

theorem phaseBoundary_cal {s : State} (h : s.now.toNat / 125000000 ≠ s.cal.window) :
    s.phaseBoundary.cal.window = s.now.toNat / 125000000 ∧ s.phaseBoundary.cal.ring = [] := by
  unfold State.phaseBoundary
  extract_lets w old src opened waiting run begun src' cleared granted aged
  rw [if_neg h]
  have hrun : CalKept opened run := CalKept.foldl (fun s g => calKept_runBoundary s old g) _ _
  have hbegun : CalKept run begun := CalKept.foldl calKept_beginRun _ _
  have hcleared : cleared.cal.window = w ∧ cleared.cal.ring = [] := ⟨(hrun.trans hbegun).1, rfl⟩
  clear_value cleared
  have hgranted : CalKept cleared granted := CalKept.foldl (fun s g => calKept_grantRing s (g % 4) (g / 4)) _ _
  have haged : CalKept granted aged := by
    dsimp only [aged]
    split
    · exact CalKept.foldl (fun s g => calKept_calTrigger s (g % 4) (g / 4) 4) _ _
    · exact CalKept.refl _
  have hsets : CalKept aged ((aged.dir.map Prod.fst).foldl State.startSet aged) := CalKept.foldl calKept_startSet _ _
  obtain ⟨hw, hr⟩ := (hgranted.trans haged).trans hsets
  exact ⟨hw.trans hcleared.1, hr.trans hcleared.2⟩

/-! ### The auxiliary area (R169) -/

theorem auxAt_of_dir {s v : State} (h : v.dir = s.dir) (t o : Nat) : v.auxAt t o = s.auxAt t o := by
  unfold State.auxAt State.dirOf
  rw [h]

/-- Bytes of the auxiliary area lie one behind another. -/
theorem auxAt_add (s : State) {t o : Nat} (ht : t < 32768) (ho : o < 2 ^ 20) : s.auxAt t o = s.auxAt t 0 + o := by
  have hd := tileDie_lt ht
  have ha := (s.dirOf t).aux.isLt
  unfold State.auxAt till keyOf
  rw [Nat.mod_eq_of_lt (by omega), Nat.mod_eq_of_lt (by omega)]
  omega

/-- A write of the assay set has no shadow copy (R367). -/
theorem auxWrite_set (s : State) (t : Nat) (bs : List Byte) : s.auxWrite t 0x1400 bs = s.write (s.auxAt t 0x1400) bs := by
  unfold State.auxWrite
  dsimp only
  rw [if_neg (by simp)]

theorem length_setBytes (f : Nat → Nat → Int) (phase : Nat) : (setBytes f phase).length = 4096 := by
  unfold setBytes
  rw [List.length_map, List.length_range]

theorem readNat_write_byte (s : State) (a : Nat) (b : Byte) : (s.write a [b]).readNat a 1 = b.toNat := by
  unfold State.readNat
  rw [show 1 = [b].length from rfl, read_write_self]
  unfold leNat leNat
  omega

/-- A tile's assay set and its state, as a set load leaves them. -/
theorem setWritten {s v : State} {t : Nat} {own : List Byte} {b : Byte} (ht : t < 32768) (hown : own.length = 4096)
    (hd : v.dir = s.dir) :
    ((v.auxWrite t 0x1400 own).write (v.auxAt t 11) [b]).read (s.auxAt t 0x1400) 4096 = own ∧
      ((v.auxWrite t 0x1400 own).write (v.auxAt t 11) [b]).setState t = b.toNat := by
  have h11 := auxAt_add s (o := 11) ht (by decide)
  have h14 := auxAt_add s (o := 0x1400) ht (by decide)
  rw [auxWrite_set, auxAt_of_dir hd, auxAt_of_dir hd]
  constructor
  · rw [read_write_other (Or.inr (by rw [List.length_singleton]; omega)), ← hown]
    exact read_write_self _ _ _
  · unfold State.setState State.auxFld
    have hdir : ((v.write (s.auxAt t 0x1400) own).write (s.auxAt t 11) [b]).dir = s.dir := by
      rw [State.write_dir, State.write_dir, hd]
    rw [auxAt_of_dir hdir]
    exact readNat_write_byte _ _ b

theorem setLoaded_of_live {s : State} {t : Nat} {k : Bank} (hlive : (s.dirOf t).live = some k) (hstate : s.setState t = 1) :
    ∃ differ, s.setLoaded t =
      if (crc32c (setBytes (s.soundLevel t k (s.surplusOf t k)) (s.setPhase t))).toNat = s.setCrc t k (s.setPhase t) then
        (s.auxWrite t 0x1400 (setBytes (s.soundLevel t k (s.surplusOf t k)) (s.setPhase t))).write (s.auxAt t 11) [0]
      else
        ((s.fault (faultTile clsCells t (s.setPhase t) differ)).auxWrite t 0x1400
          (setBytes (s.levelAt (s.masterAt t)) (s.setPhase t))).write
          ((s.fault (faultTile clsCells t (s.setPhase t) differ)).auxAt t 11) [2] := by
  unfold State.setLoaded
  rw [hlive]
  dsimp only
  rw [if_neg (not_not_intro hstate)]
  exact ⟨_, rfl⟩

theorem setLoaded_idle {s : State} {t : Nat} (h : (s.dirOf t).live = none ∨ s.setState t ≠ 1) : s.setLoaded t = s := by
  unfold State.setLoaded
  cases hlive : (s.dirOf t).live with
  | none => rfl
  | some k =>
    rcases h with h | h
    · rw [hlive] at h
      cases h
    · exact if_pos h

/-- Settles O34: the boundary's window and pairs, and the set that a load leaves in Till. -/
theorem assaySetsAreChecked : Obligations.AssaySetsAreChecked := by
  unfold Obligations.AssaySetsAreChecked
  refine ⟨fun s h => congrArg Host.Outcome.next (phaseBoundary_of_same h), fun s h => ⟨_, rfl, phaseBoundary_cal h⟩, ?_,
    fun t0 s h => congrArg Host.Outcome.next (setLoaded_idle h)⟩
  intro t0 k s hlive hstate own
  obtain ⟨differ, heq⟩ := setLoaded_of_live hlive hstate
  refine ⟨s.setLoaded t0.val, rfl, ?_⟩
  rw [heq]
  split
  · obtain ⟨hread, hset⟩ := setWritten (s := s) (v := s) (b := 0) t0.isLt (length_setBytes _ _) rfl
    exact ⟨hread, hset, by rw [State.write_log, auxWrite_set, State.write_log]⟩
  · have hrec := recorded_fault s (faultTile clsCells t0.val (s.setPhase t0.val) differ)
    have hdir : (s.fault (faultTile clsCells t0.val (s.setPhase t0.val) differ)).dir = s.dir :=
      hrec.same (p := .dir) (by decide)
    obtain ⟨hread, hset⟩ := setWritten (s := s) (b := 2) t0.isLt
      (length_setBytes (s.levelAt (s.masterAt t0.val)) (s.setPhase t0.val)) hdir
    exact ⟨hread, hset, by rw [State.write_log, auxWrite_set, State.write_log, hrec.serial]⟩

end Sys2Proof.Machine
end

section
/-! SUPPORT. Calibration and fits (O36). -/

namespace Sys2Proof.Machine

/-! ### A trigger marks its group (R346) -/

/-- A group is marked calibrating for a reason, and only its two registers have moved. -/
structure Triggered (d u reason : Nat) (s t : State) : Prop where
  calibrating : t.flag (MGC_STAT d u) 31 = true
  reason : t.fld (MGC_CAL d u) 19 16 = reason
  regs : onlyRegs [MGC_STAT d u, MGC_CAL d u] s t

theorem mgcStat_ne_cal (d u : Nat) : MGC_CAL d u ≠ MGC_STAT d u := by
  simp only [MGC_CAL, MGC_STAT, mgc]
  omega

section
variable {d u reason : Nat} {s t : State} (h : Triggered d u reason s t)
include h

theorem Triggered.of_regs {v : State} (hr : v.regs = t.regs) : Triggered d u reason s v :=
  ⟨(flag_of_reg (reg_of_regs hr _) 31).trans h.calibrating, (fld_of_reg (reg_of_regs hr _) 19 16).trans h.reason,
    onlyRegs_trans h.regs (onlyRegs_of_regs hr)⟩

/-- `due` and `running` stand beside the reason. -/
theorem Triggered.setDue {b : Bool} : Triggered d u reason s (t.setFlag (MGC_CAL d u) 31 b) :=
  ⟨(flag_setFlag_other (mgcStat_ne_cal d u)).trans h.calibrating, (fld_setFlag_apart (by decide) (by decide)).trans h.reason,
    onlyRegs_setFlag (by simp) h.regs⟩

theorem Triggered.writeNat {a n v : Nat} : Triggered d u reason s (t.writeNat a n v) := h.of_regs (State.writeNat_regs _ _ _ _)

theorem Triggered.writeIf {p : Prop} [Decidable p] {a n v : Nat} :
    Triggered d u reason s (if p then t.writeNat a n v else t) := by
  split
  · exact h.writeNat
  · exact h

theorem Triggered.setCal {c : Calib} : Triggered d u reason s { t with cal := c } := h.of_regs rfl

theorem Triggered.grantRing : Triggered d u reason s (t.grantRing d u) := by
  unfold State.grantRing
  extract_lets k src held
  have hheld : Triggered d u reason s held := h.setCal
  split
  · exact hheld.setDue.writeNat
  · exact h

end

theorem triggered_calTrigger (s : State) (d u : Nat) {reason : Nat} (hr : reason < 16) :
    Triggered d u reason s (s.calTrigger d u reason) := by
  unfold State.calTrigger
  extract_lets g marked named again due flagged told
  have hmarked : Triggered d u reason s marked := by
    refine ⟨?_, ?_, ?_⟩
    · exact (flag_setFld_other (mgcStat_ne_cal d u)).trans (flag_setFlag_self (by decide))
    · exact (fld_setFld_self (by decide) (by decide)).trans (Nat.mod_eq_of_lt hr)
    · exact onlyRegs_setFld (by simp) (onlyRegs_setFlag (by simp) (onlyRegs_refl _ s))
  have hnamed : Triggered d u reason s named := hmarked.writeIf
  have hdue : Triggered d u reason s due := hnamed.setCal
  have htold : Triggered d u reason s told := hdue.setDue.writeIf
  split
  · split
    · exact hnamed
    · exact hnamed.setCal
  · split
    · exact hnamed
    · exact htold.grantRing

/-! ### What fits keep of a tile (R345, R350) -/

/-- A tile's bench state, last bank and slice stay. -/
def TileKept (n : Nat) (s t : State) : Prop :=
  (t.tile n).benched = (s.tile n).benched ∧ (t.tile n).lastBank = (s.tile n).lastBank ∧ (t.tile n).slice = (s.tile n).slice

theorem TileKept.refl (n : Nat) (s : State) : TileKept n s s := ⟨rfl, rfl, rfl⟩

theorem TileKept.trans {n : Nat} {s t u : State} (h : TileKept n s t) (k : TileKept n t u) : TileKept n s u :=
  ⟨k.1.trans h.1, k.2.1.trans h.2.1, k.2.2.trans h.2.2⟩

theorem TileKept.of_tiles {n : Nat} {s t : State} (h : t.tiles = s.tiles) : TileKept n s t := by
  have e : t.tile n = s.tile n := by
    unfold State.tile
    rw [h]
  exact ⟨by rw [e], by rw [e], by rw [e]⟩

theorem TileKept.foldl {α : Type} {n : Nat} {f : State → α → State} (hf : ∀ s a, TileKept n s (f s a)) (l : List α) (s : State) :
    TileKept n s (l.foldl f s) :=
  List.foldlRecOn (motive := fun t => TileKept n s t) _ _ (TileKept.refl n s) fun _ ht a _ => ht.trans (hf _ a)

theorem tileKept_markDrifted (s : State) (n line : Nat) : TileKept n s (s.markDrifted n line) := by
  have hset : TileKept n s (s.setTile n { s.tile n with drifted := true }) := by
    unfold TileKept
    rw [State.setTile_tile]
    exact ⟨rfl, rfl, rfl⟩
  exact hset.trans (TileKept.of_tiles rfl)

theorem tiles_setRejects (s : State) (t c n : Nat) : (s.setRejects t c n).tiles = s.tiles :=
  (keeps_setRejects Has.self Leads.self).same .tiles rfl

theorem tiles_auxWrite (s : State) (t o : Nat) (bs : List Byte) : (s.auxWrite t o bs).tiles = s.tiles :=
  (keeps_auxWrite Has.self Leads.self).same .tiles rfl

theorem tiles_calSuspect (s : State) (t c : Nat) (f : Fit) : (s.calSuspect t c f).tiles = s.tiles :=
  (keeps_calSuspect Has.self Leads.self).same .tiles rfl

theorem tileKept_acceptFit (s : State) (n : Nat) (rowSide : Bool) (line : Nat) (f : Fit) :
    TileKept n s (s.acceptFit n rowSide line f) := by
  unfold State.acceptFit
  extract_lets counted trimmed told cleared
  have hcleared : TileKept n s cleared := by
    refine TileKept.of_tiles ?_
    have htold : told.tiles = s.tiles := by
      rw [show told.tiles = trimmed.tiles from tiles_auxWrite _ _ _ _,
        show trimmed.tiles = counted.tiles from tiles_auxWrite _ _ _ _, State.bump_tiles]
    dsimp only [cleared]
    split
    · exact htold
    · rw [tiles_setRejects, htold]
  split
  · exact hcleared.trans (tileKept_markDrifted _ n line)
  · exact hcleared

theorem tileKept_rejectFit (s : State) (n : Nat) (rowSide : Bool) (line : Nat) (f : Fit) :
    TileKept n s (s.rejectFit n rowSide line f) := by
  unfold State.rejectFit
  extract_lets counted noted k told
  have hcounted : TileKept n s counted := TileKept.of_tiles (State.bump_tiles _ _ _)
  have hnoted : TileKept n s noted := by
    dsimp only [noted]
    split
    · exact hcounted.trans (tileKept_markDrifted _ n line)
    · exact hcounted
  have htold : TileKept n s told := hnoted.trans (TileKept.of_tiles (tiles_setRejects _ _ _ _))
  split
  · exact hnoted
  · split
    · exact htold.trans (TileKept.of_tiles (tiles_calSuspect _ _ _ _))
    · exact htold

theorem tileKept_fitLine (s : State) (n : Nat) (rowSide : Bool) (line : Nat) (ps : List (Int × Int)) :
    TileKept n s (s.fitLine n rowSide line ps).1 := by
  unfold State.fitLine
  dsimp only
  split
  · exact TileKept.of_tiles (State.bump_tiles _ _ _)
  · split
    · exact tileKept_acceptFit s n rowSide line _
    · exact tileKept_rejectFit s n rowSide line _

theorem tileKept_benchVectors (n v : Nat) (s : State) (t : Nat) (k : Bank) (back : Bool) (acc : List Conv) (m : Nat) :
    TileKept m s (State.benchVectors t k back n v s acc).1 :=
  TileKept.of_tiles ((keeps_benchVectors Has.self Leads.self).same .tiles rfl)

theorem tileKept_benchFit (s : State) (t : Nat) (k : Bank) (n : Nat) : TileKept t s (s.benchFit t k n) := by
  unfold State.benchFit
  extract_lets d xs
  have hfwd := tileKept_benchVectors n 0 s t k false [] t
  generalize State.benchVectors t k false n 0 s [] = fwd at hfwd ⊢
  have hbwd := tileKept_benchVectors n n fwd.1 t k true [] t
  dsimp only
  generalize State.benchVectors t k true n n fwd.1 [] = bwd at hbwd ⊢
  have hcols : TileKept t bwd.1 ((List.range d.colsUsed).foldl (fun s c =>
      (s.fitLine t false c (s.benchPairs t k xs false fwd.2 (· == c))).1) bwd.1) :=
    TileKept.foldl (fun s c => tileKept_fitLine s t false c _) _ _
  exact ((hfwd.trans hbwd).trans hcols).trans (TileKept.foldl (fun s j => tileKept_fitLine s t true (8 * j) _) _ _)

/-! ### One fit before a Charter posts (R348, R349) -/

theorem auxWrite_of_unposted {s : State} (h : s.serve.posted = false) (t o : Nat) (bs : List Byte) :
    s.auxWrite t o bs = s.write (s.auxAt t o) bs := by
  unfold State.auxWrite
  dsimp only
  rw [State.write_serve, h, Bool.false_and]
  exact if_neg Bool.false_ne_true

theorem setRejects_of_unposted {s : State} (h : s.serve.posted = false) (t c n : Nat) : s.setRejects t c n = s := by
  unfold State.setRejects
  rw [h]
  exact if_neg Bool.false_ne_true

theorem mem_markDrifted (s : State) (t line : Nat) : (s.markDrifted t line).mem = s.mem :=
  (keeps_markDrifted Has.self Leads.self).same .mem rfl

theorem regs_markDrifted (s : State) (t line : Nat) : (s.markDrifted t line).regs = s.regs :=
  (keeps_markDrifted Has.self Leads.self).same .regs rfl

theorem posted_markDrifted (s : State) (t line : Nat) : (s.markDrifted t line).serve.posted = s.serve.posted := rfl

/-- A note of drift touches neither memory nor registers. -/
theorem markDrifted_if (s : State) (b : Bool) (t line : Nat) :
    (if b then s.markDrifted t line else s).mem = s.mem ∧ (if b then s.markDrifted t line else s).regs = s.regs := by
  split
  · exact ⟨mem_markDrifted s t line, regs_markDrifted s t line⟩
  · exact ⟨rfl, rfl⟩

theorem trimOffset_bounds {line : Nat} (h : line < 1024) (rowSide : Bool) :
    0x40 ≤ trimOffset rowSide line ∧ trimOffset rowSide line < 2 ^ 20 := by
  unfold trimOffset
  split <;> omega

/-- The trim word stays beside the generation, which lies before it in the auxiliary area. -/
theorem read_trim_then_generation {s v : State} {t line : Nat} {rowSide : Bool} {w g : Nat} (ht : t < 32768)
    (hl : line < 1024) (hd : v.dir = s.dir) :
    ((v.write (v.auxAt t (trimOffset rowSide line)) (natLe 4 w)).write (v.auxAt t 12) (natLe 4 g)).read
      (s.auxAt t (trimOffset rowSide line)) 4 = natLe 4 w := by
  obtain ⟨hlow, hhigh⟩ := trimOffset_bounds hl rowSide
  have htrim := auxAt_add s (o := trimOffset rowSide line) ht hhigh
  have hgen := auxAt_add s (o := 12) ht (by decide)
  rw [auxAt_of_dir hd, auxAt_of_dir hd, read_write_other (Or.inr (by rw [length_natLe]; omega))]
  have hself := read_write_self v (s.auxAt t (trimOffset rowSide line)) (natLe 4 w)
  rwa [length_natLe] at hself

theorem acceptFit_of_unposted {s : State} (hp : s.serve.posted = false) {t line : Nat} (ht : t < 32768)
    (hl : line < 1024) (rowSide : Bool) (f : Fit) :
    (s.acceptFit t rowSide line f).read (s.auxAt t (trimOffset rowSide line)) 4 =
        natLe 4 (trimWord (f.g.getD 0) (f.o.getD 0)) ∧
      counted (MGC_CNT_FIT (tileDie t) (tileUnit t)) 1 s (s.acceptFit t rowSide line f) := by
  unfold State.acceptFit
  extract_lets bumped trimmed told cleared
  have hbumped : bumped.serve.posted = false := by rw [State.bump_serve, hp]
  have htrimmed : trimmed = bumped.write (bumped.auxAt t (trimOffset rowSide line))
      (natLe 4 (trimWord (f.g.getD 0) (f.o.getD 0))) := auxWrite_of_unposted hbumped _ _ _
  have hdirs : trimmed.dir = bumped.dir := by rw [htrimmed, State.write_dir]
  have htold : told = trimmed.write (bumped.auxAt t 12) (natLe 4 (trimmed.auxFld t 15 12 + 1)) := by
    refine (auxWrite_of_unposted ?_ _ _ _).trans ?_
    · rw [htrimmed, State.write_serve, hbumped]
    · rw [auxAt_of_dir hdirs]
  have hcleared : cleared = told := by
    dsimp only [cleared]
    split
    · rfl
    · exact setRejects_of_unposted (by rw [htold, State.write_serve, htrimmed, State.write_serve, hbumped]) _ _ _
  obtain ⟨hmem, hregs⟩ := markDrifted_if cleared f.drifts t line
  constructor
  · rw [read_of_mem hmem, hcleared, htold, htrimmed]
    exact read_trim_then_generation ht hl (State.bump_dir _ _ _)
  · refine counted_of_reg (counted_bump s) (reg_of_regs ?_ _)
    rw [hregs, hcleared, htold, State.write_regs, htrimmed, State.write_regs]

theorem rejectFit_of_unposted {s : State} (hp : s.serve.posted = false) (t line : Nat) (rowSide : Bool) (f : Fit) :
    (s.rejectFit t rowSide line f).mem = s.mem ∧
      counted (MGC_CNT_REJECT (tileDie t) (tileUnit t)) 1 s (s.rejectFit t rowSide line f) := by
  unfold State.rejectFit
  extract_lets bumped noted k told
  have hposted : noted.serve.posted = false := by
    dsimp only [noted]
    split
    · exact (posted_markDrifted _ _ _).trans hp
    · exact hp
  obtain ⟨hmem, hregs⟩ := markDrifted_if bumped f.drifts t line
  rw [if_pos (by rw [hposted]; simp)]
  exact ⟨hmem.trans (State.bump_mem _ _ _), counted_of_reg (counted_bump s) (reg_of_regs hregs _)⟩

theorem benchEnd_of_idle {s : State} {t : Nat} (h : (s.tile t).benched = none) : s.benchEnd t = s := by
  unfold State.benchEnd
  rw [h]

theorem benchEnd_of_some {s : State} {t : Nat} {k : Bank} (h : (s.tile t).benched = some k) :
    s.benchEnd t = (s.benchLeave t k).benchFit t k 4096 := by
  unfold State.benchEnd
  rw [h]

theorem tile_benchLeave (s : State) (t : Nat) (k : Bank) :
    (s.benchLeave t k).tile t = { s.tile t with benched := none, lastBank := some k } := by
  unfold State.benchLeave
  dsimp only
  split
  · exact State.setTile_tile _ _ _
  · rw [State.setTile_tile]

/-- Settles O36: the trigger and the bench by their rules, and one fit by what became of it. -/
theorem calibrationAndFits : Obligations.CalibrationAndFits := by
  unfold Obligations.CalibrationAndFits
  refine ⟨⟨fun w d u s _ => ⟨fun hw => ?_, fun hw => ?_⟩, fun t0 k s => ⟨fun ha hs hb hg => ?_, fun ha => ?_⟩,
    fun t0 k s h => ?_, fun t0 s h => congrArg Host.Outcome.next (benchEnd_of_idle h)⟩, ?_⟩
  · obtain ⟨hcal, hreason, hregs⟩ := triggered_calTrigger s d.val u.val (reason := 5) (by decide)
    refine ⟨s.calTrigger d.val u.val 5, congrArg Host.Outcome.next (if_pos hw), hcal, hreason, hregs, ?_⟩
    have hparts : Leads (maskOf [.regs, .mem, .poison, .cal]) s (s.calTrigger d.val u.val 5) :=
      keeps_calTrigger (Has.self.sub rfl) Leads.self
    exact hparts.onlyParts
  · exact congrArg Host.Outcome.next (if_neg (by rw [hw]; exact Bool.false_ne_true))
  · exact congrArg Host.Outcome.next (if_pos (by rw [ha, hs, hb, hg]; rfl))
  · exact congrArg Host.Outcome.next (if_neg (by rw [ha]; exact Bool.false_ne_true))
  · obtain ⟨hb, hl, hs⟩ := tileKept_benchFit (s.benchLeave t0.val k) t0.val k 4096
    rw [tile_benchLeave] at hb hl hs
    exact ⟨_, congrArg Host.Outcome.next (benchEnd_of_some h), hb, hl, hs⟩
  · intro s t0 line rowSide ps _ hp ht hl f r
    refine ⟨fun hstarved => ?_, fun hfed hacc => ?_, fun hfed hrej => ?_⟩
    · have hr : r = (s.bump (MGC_CNT_STARVE (tileDie t0) (tileUnit t0)) 1, 0, f) := if_pos hstarved
      rw [hr]
      exact ⟨rfl, State.bump_mem _ _ _⟩
    · have hr : r = (s.acceptFit t0 rowSide line f, 1, f) :=
        (if_neg (by rw [hfed]; exact Bool.false_ne_true)).trans (if_pos hacc)
      rw [hr]
      exact ⟨rfl, acceptFit_of_unposted hp ht hl rowSide f⟩
    · have hr : r = (s.rejectFit t0 rowSide line f, 2, f) :=
        (if_neg (by rw [hfed]; exact Bool.false_ne_true)).trans (if_neg (by rw [hrej]; exact Bool.false_ne_true))
      rw [hr]
      exact ⟨rfl, rejectFit_of_unposted hp t0 line rowSide f⟩

end Sys2Proof.Machine
end

section
/-! SUPPORT. Operands in memory: what a reading depends on, and where a written operand can be read back (R47 to R52,
R76 to R81, R221, R222). -/

namespace Sys2Proof.Machine

/-! ### Readings that depend on memory and poison -/

/-- Two states hold the same memory and the same poison. -/
def SameBytes (s t : State) : Prop := t.mem = s.mem ∧ t.poison = s.poison

theorem SameBytes.refl (s : State) : SameBytes s s := ⟨rfl, rfl⟩

theorem SameBytes.trans {s t u : State} (h : SameBytes s t) (k : SameBytes t u) : SameBytes s u :=
  ⟨k.1.trans h.1, k.2.trans h.2⟩

theorem sameBytes_bump (s : State) (a n : Nat) : SameBytes s (s.bump a n) := ⟨State.bump_mem _ _ _, State.bump_poison _ _ _⟩

section
variable {s t : State}

theorem layEnt_of_mem (h : t.mem = s.mem) (l hi lo : Nat) : t.layEnt l hi lo = s.layEnt l hi lo := by
  unfold State.layEnt
  simp only [chr_of_mem h]

theorem layerPol_of_mem (h : t.mem = s.mem) (l hi lo : Nat) : t.layerPol l hi lo = s.layerPol l hi lo := chr_of_mem h _ _ _

theorem layerCount_of_mem (h : t.mem = s.mem) : t.layerCount = s.layerCount := chr_of_mem h _ _ _

theorem recFld_of_mem (h : t.mem = s.mem) (l hi lo : Nat) : t.recFld l hi lo = s.recFld l hi lo := by
  unfold State.recFld State.recAt
  rw [layerPol_of_mem h, readNat_of_mem h]

theorem jobRow_of_mem (h : t.mem = s.mem) (j : Job) (hi lo : Nat) : t.jobRow j hi lo = s.jobRow j hi lo := by
  unfold State.jobRow
  rw [rowFld_of_mem h]

theorem opnd_of_mem (h : t.mem = s.mem) (j : Job) (k : Nat) : t.opnd j k = s.opnd j k := operand_of_mem h _ _ _

theorem opGranule_of_mem (h : t.mem = s.mem) (j : Job) (o : Operand) (i : Nat) : t.opGranule j o i = s.opGranule j o i := by
  unfold State.opGranule
  rw [jobRow_of_mem h]

theorem vecIn_of_mem (h : t.mem = s.mem) (j : Job) (k : Nat) : t.vecIn j k = s.vecIn j k := by
  unfold State.vecIn
  simp only [opnd_of_mem h, opGranule_of_mem h]

theorem bad_of_poison (h : t.poison = s.poison) (a n : Nat) : t.bad a n = s.bad a n := by
  unfold State.bad
  rw [h]

variable (h : SameBytes s t)
include h

theorem floatAt_of_bytes (a fmt i : Nat) : t.floatAt a fmt i = s.floatAt a fmt i := by
  unfold State.floatAt
  simp only [bad_of_poison h.2, readNat_of_mem h.1]

theorem dbBlock_of_bytes (a n len k : Nat) : t.dbBlock a n len k = s.dbBlock a n len k := by
  unfold State.dbBlock
  simp only [bad_of_poison h.2, byte_of_mem h.1, read_of_mem h.1]

theorem vals_of_bytes (a fmt len : Nat) : t.vals a fmt len = s.vals a fmt len := by
  have hf : t.floatAt a fmt = s.floatAt a fmt := funext (floatAt_of_bytes h a fmt)
  have hb : t.dbBlock a (fmt + 1) len = s.dbBlock a (fmt + 1) len := funext (dbBlock_of_bytes h a (fmt + 1) len)
  unfold State.vals State.dbBlocks
  rw [hf, hb]

theorem partialAt_of_bytes (a : Nat) : t.partialAt a = s.partialAt a := by
  unfold State.partialAt
  rw [bad_of_poison h.2, read_of_mem h.1]

theorem SameBytes.write (a : Nat) (bs : List Byte) : SameBytes (s.write a bs) (t.write a bs) := by
  unfold State.write
  exact ⟨by dsimp only; rw [h.1], by dsimp only; rw [h.2]⟩

theorem SameBytes.addRec (l o n : Nat) : SameBytes (s.addRec l o n) (t.addRec l o n) := by
  unfold State.addRec
  rw [layerCount_of_mem h.1, recFld_of_mem h.1]
  split
  · exact h
  · unfold State.setRec State.writeNat State.recAt
    rw [layerPol_of_mem h.1]
    exact h.write _ _

theorem takeVals_of_bytes (j : Job) (v : VecIn) :
    (t.takeVals j v).2 = (s.takeVals j v).2 ∧ SameBytes (s.takeVals j v).1 (t.takeVals j v).1 := by
  unfold State.takeVals
  rw [vals_of_bytes h]
  exact ⟨rfl, h.addRec _ _ _⟩

end

/-! ### Regions of memory -/

/-- Two states hold the same bytes and poison in `[a, a+n)`. -/
structure AgreeOn (a n : Nat) (s t : State) : Prop where
  byte : ∀ k, a ≤ k → k < a + n → t.byte k = s.byte k
  poison : ∀ g, a < 32 * g + 32 → 32 * g < a + n → look false t.poison g = look false s.poison g

theorem AgreeOn.refl (a n : Nat) (s : State) : AgreeOn a n s s := ⟨fun _ _ _ => rfl, fun _ _ _ => rfl⟩

theorem AgreeOn.trans {a n : Nat} {s t u : State} (h : AgreeOn a n s t) (k : AgreeOn a n t u) : AgreeOn a n s u :=
  ⟨fun x hlo hhi => (k.byte x hlo hhi).trans (h.byte x hlo hhi), fun g hlo hhi => (k.poison g hlo hhi).trans (h.poison g hlo hhi)⟩

theorem AgreeOn.read {a n b m : Nat} {s t : State} (h : AgreeOn a n s t) (hlo : a ≤ b) (hhi : b + m ≤ a + n) :
    t.read b m = s.read b m :=
  List.map_congr_left fun i hi => h.byte _ (by omega) (by have := List.mem_range.mp hi; omega)

theorem AgreeOn.readNat {a n b m : Nat} {s t : State} (h : AgreeOn a n s t) (hlo : a ≤ b) (hhi : b + m ≤ a + n) :
    t.readNat b m = s.readNat b m := congrArg leNat (h.read hlo hhi)

theorem mem_range_iff {lo hi x : Nat} : x ∈ range lo hi ↔ lo ≤ x ∧ x < hi := by
  unfold range
  simp only [List.mem_map, List.mem_range]
  constructor
  · rintro ⟨i, hi, rfl⟩
    omega
  · rintro ⟨hlo, hhi⟩
    exact ⟨x - lo, by omega, by omega⟩

theorem bad_congr {b m : Nat} {s t : State}
    (h : ∀ g, b < 32 * g + 32 → 32 * g < b + m → look false t.poison g = look false s.poison g) : t.bad b m = s.bad b m := by
  have hg : ∀ g ∈ range (b / 32) ((b + m + 31) / 32), look false t.poison g = look false s.poison g := fun g hg => by
    obtain ⟨hlo, hhi⟩ := mem_range_iff.mp hg
    exact h g (by omega) (by omega)
  unfold State.bad
  rw [Bool.eq_iff_iff, List.any_eq_true, List.any_eq_true]
  constructor
  · rintro ⟨g, hmem, hbad⟩
    exact ⟨g, hmem, by rwa [← hg g hmem]⟩
  · rintro ⟨g, hmem, hbad⟩
    exact ⟨g, hmem, by rwa [hg g hmem]⟩

theorem AgreeOn.bad {a n b m : Nat} {s t : State} (h : AgreeOn a n s t) (hlo : a ≤ b) (hhi : b + m ≤ a + n) :
    t.bad b m = s.bad b m := bad_congr fun g h1 h2 => h.poison g (by omega) (by omega)

theorem AgreeOn.partialAt {a n b : Nat} {s t : State} (h : AgreeOn a n s t) (hlo : a ≤ b) (hhi : b + 96 ≤ a + n) :
    t.partialAt b = s.partialAt b := by
  unfold State.partialAt
  rw [h.bad hlo hhi, h.read hlo hhi]

theorem onlyBytes_refl (a n : Nat) (s : State) : onlyBytes a n s s := ⟨fun _ _ => rfl, fun _ _ => rfl⟩

theorem onlyBytes_trans {a n : Nat} {s t u : State} (h : onlyBytes a n s t) (k : onlyBytes a n t u) : onlyBytes a n s u :=
  ⟨fun x hx => (k.1 x hx).trans (h.1 x hx), fun g hg => (k.2 g hg).trans (h.2 g hg)⟩

theorem onlyBytes_mono {a n b m : Nat} {s t : State} (hlo : b ≤ a) (hhi : a + n ≤ b + m) (h : onlyBytes a n s t) :
    onlyBytes b m s t := ⟨fun x hx => h.1 x (by omega), fun g hg => h.2 g (by omega)⟩

theorem onlyBytes_foldl {α : Type} {a n : Nat} {f : State → α → State} {l : List α}
    (hf : ∀ s x, x ∈ l → onlyBytes a n s (f s x)) (s : State) : onlyBytes a n s (l.foldl f s) :=
  List.foldlRecOn (motive := fun t => onlyBytes a n s t) _ _ (onlyBytes_refl a n s) fun _ ht x hx => onlyBytes_trans ht (hf _ x hx)

/-- A region and the granules it touches lie apart from the bytes that change. -/
theorem AgreeOn.of_onlyBytes {a n b m : Nat} {s t : State} (h : onlyBytes a n s t)
    (hb : b + m ≤ a / 32 * 32 ∨ (a + n + 31) / 32 * 32 ≤ b) : AgreeOn b m s t :=
  ⟨fun k hlo hhi => h.1 k (by omega), fun g hlo hhi => h.2 g (by omega)⟩

theorem look_putAll_other {l : List (Nat × Bool)} {g : Nat} (h : ∀ e ∈ l, e.1 ≠ g) (p : SMap Bool) :
    look false (putAll false p l) g = look false p g := by
  induction l with
  | nil => rfl
  | cons e l ih =>
    obtain ⟨he, hl⟩ := List.forall_mem_cons.mp h
    show look false (put false (putAll false p l) e.1 e.2) g = _
    rw [look_put, if_neg he, ih hl]

theorem onlyBytes_spoil (s : State) (a n : Nat) : onlyBytes a n s (s.spoil a n) := by
  refine ⟨fun _ _ => rfl, fun g hg => look_putAll_other (fun e he => ?_) _⟩
  obtain ⟨x, hx, rfl⟩ := List.mem_map.mp he
  have := mem_range_iff.mp hx
  show x ≠ g
  omega

theorem look_cleansed {p : SMap Bool} {a n g : Nat} (h : covers a n g = false) : look false (cleansed p a n) g = look false p g := by
  unfold cleansed
  rw [look_keepKeys, if_pos (by rw [h]; rfl)]

theorem covers_of_apart {a n g : Nat} (h : 32 * g + 32 ≤ a ∨ a + n ≤ 32 * g) : covers a n g = false := by
  unfold covers
  simp only [Bool.and_eq_false_iff, decide_eq_false_iff_not]
  omega

theorem covers_of_short {a n : Nat} (h : n < 32) (g : Nat) : covers a n g = false := by
  unfold covers
  simp only [Bool.and_eq_false_iff, decide_eq_false_iff_not]
  omega

theorem onlyBytes_cleanse (s : State) (a n : Nat) : onlyBytes a n s { s with poison := cleansed s.poison a n } :=
  ⟨fun _ _ => rfl, fun _ hg => look_cleansed (covers_of_apart hg)⟩

theorem onlyBytes_writeNat (s : State) (a n v : Nat) : onlyBytes a n s (s.writeNat a n v) := by
  have h := onlyBytes_write s a (natLe n v)
  rwa [length_natLe] at h

theorem read_writeNat_self (s : State) (a n v : Nat) : (s.writeNat a n v).read a n = natLe n v := by
  have h := read_write_self s a (natLe n v)
  rwa [length_natLe] at h

/-! ### Writes of a list, one place after another -/

/-- Elements written one after another at places apart from each other: at the place of each, memory reads as that write
left it, and the write met what stood there before. `P` is what the writes keep. -/
theorem foldl_places {α : Type} {f : State → α × Nat → State} {W : Nat → Nat → Prop} {P : State → Prop} {l : List α} :
    ∀ {m : Nat} {s : State}, (∀ s e k, e ∈ l.zipIdx m → ¬W e.2 k → (f s e).byte k = s.byte k) →
      (∀ s e, e ∈ l.zipIdx m → P s → P (f s e)) → P s → (∀ i j k, i < j → j < m + l.length → W i k → ¬W j k) →
      ∀ {i : Nat} {x : α}, l[i]? = some x → ∃ s1, P s1 ∧ (∀ k, W (m + i) k → s1.byte k = s.byte k) ∧
        ∀ k, W (m + i) k → ((l.zipIdx m).foldl f s).byte k = (f s1 (x, m + i)).byte k := by
  induction l with
  | nil => exact fun _ _ _ _ _ _ h => nomatch h
  | cons y l ih =>
    intro m s hf hP hs hW i x hi
    rw [List.zipIdx_cons] at hf hP ⊢
    rw [List.foldl_cons]
    rw [List.length_cons] at hW
    cases i with
    | zero =>
      rw [List.getElem?_cons_zero, Option.some_inj] at hi
      subst hi
      refine ⟨s, hs, fun _ _ => rfl, fun k hk => ?_⟩
      rw [Nat.add_zero] at hk ⊢
      refine List.foldlRecOn (motive := fun t : State => t.byte k = (f s (y, m)).byte k) _ _ rfl fun t ht e he => ?_
      obtain ⟨hlo, hhi, -⟩ := List.mem_zipIdx he
      exact (hf t e k (List.mem_cons_of_mem _ he) (hW m e.2 k (by omega) (by omega) hk)).trans ht
    | succ i =>
      rw [List.getElem?_cons_succ] at hi
      have hlen : i < l.length := (List.getElem?_eq_some_iff.mp hi).1
      obtain ⟨s1, hP1, hbefore, hafter⟩ := ih (m := m + 1) (s := f s (y, m))
        (fun s e k he => hf s e k (List.mem_cons_of_mem _ he)) (fun s e he => hP s e (List.mem_cons_of_mem _ he))
        (hP s (y, m) List.mem_cons_self hs) (fun a b k h1 h2 => hW a b k h1 (by omega)) hi
      rw [show m + 1 + i = m + (i + 1) by omega] at hbefore hafter
      refine ⟨s1, hP1, fun k hk => (hbefore k hk).trans (hf s (y, m) k List.mem_cons_self fun hm => ?_), hafter⟩
      exact hW m (m + (i + 1)) k (by omega) (by omega) hm hk

/-- Cells of one width lie apart. -/
theorem cells_apart {a w i j k : Nat} (h : i < j) (hi : a + w * i ≤ k ∧ k < a + w * i + w) :
    ¬(a + w * j ≤ k ∧ k < a + w * j + w) := by
  have : w * (i + 1) ≤ w * j := Nat.mul_le_mul_left w h
  rw [Nat.mul_succ] at this
  omega

end Sys2Proof.Machine
end

section
/-! SUPPORT. What a written operand holds: values in a floating-point format, quantised blocks and partial records, on
every die that the operand names (R52, R76 to R81, R222). -/

namespace Sys2Proof.Machine

/-! ### Floating-point areas -/

/-- The bytes of element `i`. -/
def floatCell (a fmt i k : Nat) : Prop := a + elemBytes fmt * i ≤ k ∧ k < a + elemBytes fmt * i + elemBytes fmt

theorem onlyBytes_putFloat (s : State) (a fmt : Nat) (acc : Bool) (i : Nat) (v : Val) :
    onlyBytes (a + elemBytes fmt * i) (elemBytes fmt) s (s.putFloat a fmt acc i v) := by
  unfold State.putFloat
  dsimp only
  split
  · exact onlyBytes_spoil _ _ _
  · split
    · split
      · exact onlyBytes_refl _ _ _
      · exact onlyBytes_writeNat _ _ _ _
    · exact onlyBytes_writeNat _ _ _ _

theorem byte_putFloat_other {s : State} {a fmt i k : Nat} {acc : Bool} {v : Val} (h : ¬floatCell a fmt i k) :
    (s.putFloat a fmt acc i v).byte k = s.byte k := (onlyBytes_putFloat s a fmt acc i v).1 k (by unfold floatCell at h; omega)

theorem mem_zipIdx_lt {α : Type} {l : List α} {e : α × Nat} (h : e ∈ l.zipIdx) : e.2 < l.length ∧ e.1 ∈ l := by
  obtain ⟨-, hlt, hx⟩ := List.mem_zipIdx h
  exact ⟨by omega, hx ▸ List.getElem_mem _⟩

theorem onlyBytes_floats (s : State) (a fmt : Nat) (acc : Bool) (vs : List Val) :
    onlyBytes a (elemBytes fmt * vs.length) s ((vs.zipIdx).foldl (fun s e => s.putFloat a fmt acc e.2 e.1) s) := by
  refine onlyBytes_foldl (fun s e he => ?_) s
  obtain ⟨hlt, -⟩ := mem_zipIdx_lt he
  have : elemBytes fmt * (e.2 + 1) ≤ elemBytes fmt * vs.length := Nat.mul_le_mul_left _ hlt
  rw [Nat.mul_succ] at this
  exact onlyBytes_mono (by omega) (by omega) (onlyBytes_putFloat s a fmt acc e.2 e.1)

theorem onlyBytes_putFloats (s : State) (a fmt : Nat) (acc : Bool) (vs : List Val) :
    onlyBytes a (elemBytes fmt * vs.length) s (s.putFloats a fmt acc vs) := by
  unfold State.putFloats
  dsimp only
  refine onlyBytes_trans ?_ (onlyBytes_floats _ a fmt acc vs)
  split
  · exact onlyBytes_refl _ _ _
  · exact onlyBytes_cleanse _ _ _

/-- Elements put one after another, the first at place 0: what memory reads of element `i`. -/
theorem floats_at {a fmt : Nat} {acc : Bool} {P : State → Prop} {vs : List Val}
    (hP : ∀ s i x, x ∈ vs → P s → P (s.putFloat a fmt acc i x)) {s : State} (hs : P s) {i : Nat} {v : Val} (hi : vs[i]? = some v) :
    ∃ s1, P s1 ∧ s1.read (a + elemBytes fmt * i) (elemBytes fmt) = s.read (a + elemBytes fmt * i) (elemBytes fmt) ∧
      ((vs.zipIdx).foldl (fun s e => s.putFloat a fmt acc e.2 e.1) s).read (a + elemBytes fmt * i) (elemBytes fmt) =
        (s1.putFloat a fmt acc i v).read (a + elemBytes fmt * i) (elemBytes fmt) := by
  obtain ⟨s1, hs1, hbefore, hafter⟩ := foldl_places (f := fun s e => s.putFloat a fmt acc e.2 e.1) (W := floatCell a fmt) (P := P)
    (m := 0) (fun s e k _ => byte_putFloat_other) (fun s e he => hP s e.2 e.1 (mem_zipIdx_lt he).2) hs
    (fun i j k hij _ => cells_apart hij) hi
  rw [Nat.zero_add] at hbefore hafter
  have hcell : ∀ n ∈ List.range (elemBytes fmt), floatCell a fmt i (a + elemBytes fmt * i + n) := fun n hn => by
    have := List.mem_range.mp hn
    unfold floatCell
    omega
  exact ⟨s1, hs1, List.map_congr_left fun n hn => hbefore _ (hcell n hn), List.map_congr_left fun n hn => hafter _ (hcell n hn)⟩

theorem read_putFloat_self (s : State) (a fmt i : Nat) (x : Num) :
    (s.putFloat a fmt false i (some x)).read (a + elemBytes fmt * i) (elemBytes fmt) =
      natLe (elemBytes fmt) ((fmtOf fmt).encode x) := read_writeNat_self _ _ _ _

theorem holdsFloats_floats (s : State) (a fmt : Nat) (vs : List Val) :
    holdsFloats a fmt vs ((vs.zipIdx).foldl (fun s e => s.putFloat a fmt false e.2 e.1) s) := by
  intro i x hi
  obtain ⟨s1, -, -, hafter⟩ := floats_at (acc := false) (P := fun _ => True) (fun _ _ _ _ _ => trivial) (s := s) trivial hi
  rw [hafter, read_putFloat_self]

theorem holdsFloats_putFloats (s : State) (a fmt : Nat) (vs : List Val) : holdsFloats a fmt vs (s.putFloats a fmt false vs) :=
  holdsFloats_floats _ a fmt vs

theorem elemBytes_short {fmt : Nat} (h : fmtFloat fmt = true) : elemBytes fmt < 32 := by
  unfold fmtFloat at h
  simp only [Bool.and_eq_true, decide_eq_true_eq] at h
  unfold elemBytes
  split
  · decide
  · split
    · decide
    · rw [if_neg (by omega)]
      decide

/-- Under ACC a value is added to what stands there, where that is not poison. -/
theorem read_putFloat_acc {s : State} {a fmt i : Nat} (x : Num) (hb : s.bad (a + elemBytes fmt * i) (elemBytes fmt) = false) :
    (s.putFloat a fmt true i (some x)).read (a + elemBytes fmt * i) (elemBytes fmt) = natLe (elemBytes fmt)
      ((fmtOf fmt).encode (((fmtOf fmt).decode (s.readNat (a + elemBytes fmt * i) (elemBytes fmt))).add x)) := by
  unfold State.putFloat
  dsimp only
  rw [if_pos rfl, if_neg (by rw [hb]; exact Bool.false_ne_true)]
  exact read_writeNat_self _ _ _ _

/-- A value narrower than a granule leaves the poison of every granule. -/
theorem poison_putFloat {s : State} {a fmt i : Nat} {acc : Bool} {x : Num} (hf : fmtFloat fmt = true) (g : Nat) :
    look false (s.putFloat a fmt acc i (some x)).poison g = look false s.poison g := by
  have hw : ∀ v, look false (s.writeNat (a + elemBytes fmt * i) (elemBytes fmt) v).poison g = look false s.poison g := fun v =>
    look_cleansed (covers_of_short (by rw [length_natLe]; exact elemBytes_short hf) g)
  unfold State.putFloat
  dsimp only
  split
  · split
    · rfl
    · exact hw _
  · exact hw _

theorem addsFloats_putFloats {s : State} {a fmt : Nat} {vs : List Val} (hf : fmtFloat fmt = true)
    (hvs : vs.any Option.isNone = false) : addsFloats a fmt vs s (s.putFloats a fmt true vs) := by
  intro i x hi hb
  have hsome : ∀ v ∈ vs, ∃ x, v = some x := fun v hv => by
    rw [List.any_eq_false] at hvs
    exact Option.ne_none_iff_exists'.mp fun h => hvs v hv (by rw [h]; rfl)
  obtain ⟨s1, hpoison, hbefore, hafter⟩ := floats_at (a := a) (fmt := fmt) (acc := true) (s := s)
    (P := fun t => ∀ g, look false t.poison g = look false s.poison g)
    (fun t i v hv ht g => by
      obtain ⟨x, rfl⟩ := hsome v hv
      exact (poison_putFloat hf g).trans (ht g)) (fun _ => rfl) hi
  have hbad : s1.bad (a + elemBytes fmt * i) (elemBytes fmt) = false := (bad_congr fun g _ _ => hpoison g).trans hb
  show ((vs.zipIdx).foldl (fun s e => s.putFloat a fmt true e.2 e.1) s).read _ _ = _
  rw [hafter, read_putFloat_acc x hbad]
  unfold State.readNat
  rw [hbefore]

/-! ### Areas of denominated blocks (R52) -/

/-- The bytes of block `i`: its elements and its denomination. -/
def blockCell (a n len i k : Nat) : Prop :=
  i < ceilDiv len 32 ∧ ((a + 4 * n * i ≤ k ∧ k < a + 4 * n * i + 4 * n) ∨ k = a + roundUp32 (4 * n * ceilDiv len 32) + i)

theorem le_roundUp32 (n : Nat) : n ≤ roundUp32 n := by
  unfold roundUp32
  omega

theorem block_below {n len i : Nat} (hi : i < ceilDiv len 32) : 4 * n * i + 4 * n ≤ roundUp32 (4 * n * ceilDiv len 32) := by
  have h : 4 * n * (i + 1) ≤ 4 * n * ceilDiv len 32 := Nat.mul_le_mul_left _ hi
  rw [Nat.mul_succ] at h
  exact Nat.le_trans h (le_roundUp32 _)

theorem blockCells_apart {a n len i j k : Nat} (h : i < j) (hi : blockCell a n len i k) : ¬blockCell a n len j k := by
  rintro ⟨hj, hin | hd⟩
  · obtain ⟨_, hin' | hd'⟩ := hi
    · exact cells_apart h hin' hin
    · have := block_below (n := n) hj
      omega
  · obtain ⟨hi0, hin' | hd'⟩ := hi
    · have := block_below (n := n) hi0
      omega
    · omega

/-- The bytes that a block's elements are written as. -/
def quantBytes (n : Nat) (q : Quant) : List Byte := if q.poison ∨ q.denom = 0 then List.replicate (4 * n) 0 else dbPack n q.elems

theorem length_quantBytes (n : Nat) (q : Quant) : (quantBytes n q).length = 4 * n := by
  unfold quantBytes
  split
  · exact List.length_replicate
  · exact length_dbPack n q.elems

theorem byte_putBlock_other {s : State} {a n len i k : Nat} {q : Quant} (hi : i < ceilDiv len 32) (h : ¬blockCell a n len i k) :
    (s.putBlock a n len i q).byte k = s.byte k := by
  have hcell : ¬((a + 4 * n * i ≤ k ∧ k < a + 4 * n * i + 4 * n) ∨ k = a + roundUp32 (4 * n * ceilDiv len 32) + i) :=
    fun hc => h ⟨hi, hc⟩
  have hlen := length_quantBytes n q
  have helems : (s.write (a + 4 * n * i) (quantBytes n q)).byte k = s.byte k := byte_write_other (by omega)
  exact ((onlyBytes_writeNat _ _ 1 _).1 k (by omega)).trans helems

theorem reads_putBlock {s : State} {a n len i : Nat} {q : Quant} (hi : i < ceilDiv len 32) :
    (s.putBlock a n len i q).read (a + 4 * n * i) (4 * n) = quantBytes n q ∧
      (s.putBlock a n len i q).read (a + roundUp32 (4 * n * ceilDiv len 32) + i) 1 = natLe 1 (if q.poison then 0xFF else q.denom) := by
  have hbelow := block_below (n := n) hi
  refine ⟨?_, read_writeNat_self _ _ _ _⟩
  unfold State.putBlock State.writeNat
  dsimp only
  rw [read_write_other (Or.inl (by omega))]
  have h := read_write_self s (a + 4 * n * i) (quantBytes n q)
  rwa [length_quantBytes] at h

/-- The whole area of `len` elements in blocks, up to its last granule. -/
def blockArea (n len : Nat) : Nat := roundUp32 (4 * n * ceilDiv len 32) + roundUp32 (ceilDiv len 32)

theorem onlyBytes_putBlock (s : State) {a n len i : Nat} (q : Quant) (hi : i < ceilDiv len 32) :
    onlyBytes a (blockArea n len) s (s.putBlock a n len i q) := by
  have hbelow := block_below (n := n) hi
  have hdenoms := le_roundUp32 (ceilDiv len 32)
  have hlen := length_quantBytes n q
  have helems : onlyBytes a (blockArea n len) s (s.write (a + 4 * n * i) (quantBytes n q)) := by
    refine onlyBytes_mono (by omega) ?_ (onlyBytes_write s _ _)
    rw [hlen]
    unfold blockArea
    omega
  refine onlyBytes_trans helems (onlyBytes_mono (by omega) ?_ (onlyBytes_writeNat _ _ 1 _))
  unfold blockArea
  omega

theorem onlyBytes_putBlocks (s : State) {a n len : Nat} {qs : List Quant} (hqs : qs.length ≤ ceilDiv len 32) :
    onlyBytes a (blockArea n len) s (s.putBlocks a n len qs) := by
  unfold State.putBlocks
  refine onlyBytes_trans (onlyBytes_cleanse _ _ _) (onlyBytes_foldl (fun s e he => ?_) _)
  obtain ⟨hlt, -⟩ := mem_zipIdx_lt he
  exact onlyBytes_putBlock s e.1 (by omega)

theorem holdsBlocks_putBlocks (s : State) {a n len : Nat} {qs : List Quant} (hqs : qs.length ≤ ceilDiv len 32) :
    holdsBlocks a n len qs (s.putBlocks a n len qs) := by
  intro i q hi
  have hlt : i < ceilDiv len 32 := Nat.lt_of_lt_of_le (List.getElem?_eq_some_iff.mp hi).1 hqs
  obtain ⟨s1, -, -, hafter⟩ := foldl_places (f := fun s e => s.putBlock a n len e.2 e.1) (W := blockCell a n len)
    (P := fun _ => True) (m := 0) (s := { s with poison := cleansed s.poison a (blockArea n len) })
    (fun s e k he => byte_putBlock_other (Nat.lt_of_lt_of_le (mem_zipIdx_lt he).1 hqs)) (fun _ _ _ _ => trivial) trivial
    (fun i j k hij _ => blockCells_apart hij) hi
  rw [Nat.zero_add] at hafter
  obtain ⟨helems, hdenom⟩ := reads_putBlock (s := s1) (a := a) (n := n) (q := q) hlt
  refine ⟨Eq.trans ?_ helems, Eq.trans ?_ hdenom⟩
  · refine List.map_congr_left fun x hx => hafter _ ⟨hlt, .inl ?_⟩
    have := List.mem_range.mp hx
    omega
  · refine List.map_congr_left fun x hx => hafter _ ⟨hlt, .inr ?_⟩
    have := List.mem_range.mp hx
    omega

/-! ### Every die an operand is written on (R222) -/

theorem till_eq {d off : Nat} (hd : d < 4) (ho : off ≤ tillSize) : till d off = 2 ^ 48 + d * 2 ^ 27 + off := by
  unfold tillSize at ho
  unfold till keyOf
  rw [Nat.mod_eq_of_lt (by omega)]
  omega

theorem writeDies_lt {o : Operand} (ho : o.die < 4) {d : Nat} (hd : d ∈ o.writeDies) : d < 4 := by
  unfold Operand.writeDies at hd
  split at hd
  · exact List.mem_range.mp hd
  · rw [List.mem_singleton.mp hd]
    exact ho

theorem nodup_writeDies (o : Operand) : o.writeDies.Nodup := by
  unfold Operand.writeDies
  split
  · exact List.nodup_range
  · exact List.nodup_cons.mpr ⟨List.not_mem_nil, List.nodup_nil⟩

theorem agreeOn_otherDie {d e g n : Nat} {s t : State} (hfit : 32 * g + n ≤ tillSize) (hd : d < 4) (he : e < 4) (hde : d ≠ e)
    (h : onlyBytes (till e (32 * g)) n s t) : AgreeOn (till d (32 * g)) n s t := by
  have hed := till_eq (off := 32 * g) he (by omega)
  have hdd := till_eq (off := 32 * g) hd (by omega)
  unfold tillSize at hfit
  refine AgreeOn.of_onlyBytes h ?_
  rw [hed, hdd]
  omega

theorem agreeOn_otherDies {g n d : Nat} {f : State → Nat → State} {ds : List Nat} (hfit : 32 * g + n ≤ tillSize) (hd : d < 4)
    (hf : ∀ s e, e ∈ ds → onlyBytes (till e (32 * g)) n s (f s (till e (32 * g)))) (hds : ∀ e ∈ ds, e < 4 ∧ d ≠ e) (s : State) :
    AgreeOn (till d (32 * g)) n s (ds.foldl (fun s e => f s (till e (32 * g))) s) :=
  List.foldlRecOn (motive := fun t => AgreeOn (till d (32 * g)) n s t) _ _ (AgreeOn.refl _ _ s) fun t ht e he =>
    ht.trans (agreeOn_otherDie hfit hd (hds e he).1 (hds e he).2 (hf t e he))

/-- On each die an operand is written on, its region reads as the write on that die left it, and that write met what stood
there before. -/
theorem onDies_at {o : Operand} {g n d : Nat} {f : State → Nat → State} (ho : o.die < 4) (hfit : 32 * g + n ≤ tillSize)
    (hf : ∀ s e, e ∈ o.writeDies → onlyBytes (till e (32 * g)) n s (f s (till e (32 * g)))) (hd : d ∈ o.writeDies) (s : State) :
    ∃ s1, AgreeOn (till d (32 * g)) n s s1 ∧ AgreeOn (till d (32 * g)) n (f s1 (till d (32 * g))) (s.onDies o g f) := by
  obtain ⟨pre, post, hsplit⟩ := List.append_of_mem hd
  have hdup := nodup_writeDies o
  rw [hsplit, List.nodup_append] at hdup
  obtain ⟨-, hpost, hpre⟩ := hdup
  have hlt : ∀ e, e ∈ pre ∨ e ∈ post → e < 4 := fun e he => writeDies_lt ho (by rw [hsplit]; simp [he.elim Or.inl (fun h => Or.inr (Or.inr h))])
  have hfd : ∀ s e, e ∈ pre ∨ e ∈ post → onlyBytes (till e (32 * g)) n s (f s (till e (32 * g))) := fun s e he =>
    hf s e (by rw [hsplit]; simp [he.elim Or.inl (fun h => Or.inr (Or.inr h))])
  refine ⟨pre.foldl (fun s e => f s (till e (32 * g))) s, ?_, ?_⟩
  · refine agreeOn_otherDies hfit (writeDies_lt ho hd) (fun s e he => hfd s e (.inl he)) (fun e he => ⟨hlt e (.inl he), fun h => ?_⟩) s
    exact hpre e he d List.mem_cons_self h.symm
  · unfold State.onDies
    rw [hsplit, List.foldl_append, List.foldl_cons]
    refine agreeOn_otherDies hfit (writeDies_lt ho hd) (fun s e he => hfd s e (.inr he)) (fun e he => ⟨hlt e (.inr he), fun h => ?_⟩) _
    exact (List.nodup_cons.mp hpost).1 (h ▸ he)

theorem onlyOperand_onDies {o : Operand} {g n : Nat} {f : State → Nat → State}
    (hf : ∀ s e, e ∈ o.writeDies → onlyBytes (till e (32 * g)) n s (f s (till e (32 * g)))) (s : State) :
    onlyOperand o g n s (s.onDies o g f) := by
  intro k hk
  exact List.foldlRecOn (motive := fun t : State => t.byte k = s.byte k) _ _ rfl fun t ht e he =>
    ((hf t e he).1 k (hk e he)).trans ht

end Sys2Proof.Machine
end

section
/-! SUPPORT. What quantising, writing values and the issue of a VEC order leave (R54, R59, R76, R226). -/

namespace Sys2Proof.Machine

/-! ### Quantising block by block (R56, R59) -/

/-- One block of a quantising unit: its record or its counts, and what it quantises to. -/
def State.quantStep (j : Job) (n : Nat) (static : Option Nat) (us : Option (Nat → Nat)) (p : State × List Quant)
    (e : List Val × Nat) : State × List Quant :=
  let q := quantVals n static (us.map (fun f => (List.range 32).map (fun i => f (32 * e.2 + i)))) e.1
  (if blockSpecial e.1 then p.1.formatFault j e.2 else p.1.countQuant j.layer q, p.2 ++ [q])

theorem quantAll_eq (s : State) (j : Job) (n : Nat) (static : Option Nat) (us : Option (Nat → Nat)) (vs : List Val) :
    s.quantAll j n static us vs = ((piecesOf 32 (vs.length + 1) vs).zipIdx).foldl (State.quantStep j n static us) (s, []) := rfl

theorem quantSteps_snd (j : Job) (n : Nat) (static : Option Nat) (us : Option (Nat → Nat)) (l : List (List Val × Nat))
    (p : State × List Quant) : (l.foldl (State.quantStep j n static us) p).2 =
      p.2 ++ l.map (fun e => quantVals n static (us.map (fun f => (List.range 32).map (fun i => f (32 * e.2 + i)))) e.1) := by
  induction l generalizing p with
  | nil => rw [List.foldl_nil, List.map_nil, List.append_nil]
  | cons e l ih =>
    rw [List.foldl_cons, ih, List.map_cons]
    exact List.append_assoc _ _ _

/-- What the values quantise to does not depend on the state. -/
theorem quantAll_snd (s : State) (j : Job) (n : Nat) (static : Option Nat) (us : Option (Nat → Nat)) (vs : List Val) :
    (s.quantAll j n static us vs).2 = quantised n static us vs := by
  rw [quantAll_eq, quantSteps_snd]
  rfl

theorem length_quantised (n : Nat) (static : Option Nat) (us : Option (Nat → Nat)) (vs : List Val) :
    (quantised n static us vs).length = ceilDiv vs.length 32 := by
  unfold quantised
  rw [List.length_map, List.length_zipIdx]
  exact (piecesOf_spec (by decide) _ vs (Nat.lt_succ_self _)).2.2

theorem regs_addRec (s : State) (l o n : Nat) : (s.addRec l o n).regs = s.regs :=
  (keeps_addRec Has.self Leads.self).same .regs rfl

theorem onlyRegs_formatFault (s : State) (j : Job) (k : Nat) : onlyRegs recordRegs s (s.formatFault j k) :=
  onlyRegs_trans (onlyRegs_of_regs (regs_addRec s _ _ _)) (recorded_fault _ _).regs

theorem regs_countQuant (s : State) (l : Nat) (q : Quant) : (s.countQuant l q).regs = s.regs :=
  (keeps_countQuant Has.self Leads.self).same .regs rfl

theorem onlyRegs_quantAll (s : State) (j : Job) (n : Nat) (static : Option Nat) (us : Option (Nat → Nat)) (vs : List Val) :
    onlyRegs recordRegs s (s.quantAll j n static us vs).1 := by
  rw [quantAll_eq]
  refine List.foldlRecOn (motive := fun p : State × List Quant => onlyRegs recordRegs s p.1) _ _ (onlyRegs_refl _ s)
    fun p hp e _ => onlyRegs_trans hp ?_
  unfold State.quantStep
  dsimp only
  split
  · exact onlyRegs_formatFault _ _ _
  · exact onlyRegs_of_regs (regs_countQuant _ _ _)

/-! ### The number of values read (R47, R52) -/

theorem length_dbBlock (s : State) (a n len k : Nat) : (s.dbBlock a n len k).vals.length = 32 := by
  unfold State.dbBlock DbBlock.vals
  dsimp only
  split
  · simp
  · split
    · simp
    · simp [dbUnpack]

theorem length_vals (s : State) (a fmt len : Nat) : (s.vals a fmt len).1.length = len := by
  unfold State.vals
  split
  · have hblocks : ∀ l : List Nat, ((l.map (s.dbBlock a (fmt + 1) len)).flatMap DbBlock.vals).length = 32 * l.length := by
      intro l
      induction l with
      | nil => rfl
      | cons k l ih =>
        rw [List.map_cons, List.flatMap_cons, List.length_append, length_dbBlock, ih, List.length_cons]
        omega
    dsimp only
    rw [State.dbBlocks, List.length_take, hblocks, List.length_range]
    unfold ceilDiv
    omega
  · simp

theorem length_takeVals (s : State) (j : Job) (v : VecIn) : (s.takeVals j v).2.length = v.op.len := length_vals _ _ _ _

theorem onlyParts_takeVals (s : State) (j : Job) (v : VecIn) : onlyParts [.mem, .poison] s (s.takeVals j v).1 := by
  have h : Leads (maskOf [.mem, .poison]) s (s.takeVals j v).1 := keeps_takeVals (Has.self.sub rfl) Leads.self
  exact h.onlyParts

theorem regs_takeVals (s : State) (j : Job) (v : VecIn) : (s.takeVals j v).1.regs = s.regs :=
  onlyParts_takeVals s j v .regs (by decide)

/-! ### A written result (R76 to R78) -/

theorem destFault_zero {j : Job} {o : Operand} {g len : Nat} (h : destFault j o g len = 0) :
    (isDb o.fmt = true → j.acc = false) ∧ 32 * g + wholeArea o.fmt len ≤ tillSize := by
  unfold destFault at h
  split at h
  · exact absurd h (by decide)
  · split at h
    · exact absurd h (by decide)
    · rename_i hacc hfit
      refine ⟨fun hdb => ?_, ?_⟩
      · rw [hdb, Bool.true_and] at hacc
        exact Bool.eq_false_iff.mpr hacc
      · unfold inTill at hfit
        simpa using hfit

theorem isDb_of_float {fmt : Nat} (h : fmtFloat fmt = true) : isDb fmt = false := by
  unfold fmtFloat at h
  unfold isDb
  simp only [Bool.and_eq_true, decide_eq_true_eq] at h
  exact decide_eq_false (by omega)

theorem wholeArea_of_not_db {fmt : Nat} (h : isDb fmt = false) (len : Nat) : wholeArea fmt len = elemBytes fmt * len := by
  unfold wholeArea elemArea
  simp [h]

theorem fits_blocks {g fmt len : Nat} (hdb : isDb fmt = true) (h : 32 * g + wholeArea fmt len ≤ tillSize) :
    32 * g + blockArea (fmt + 1) len ≤ tillSize := by
  unfold wholeArea elemArea at h
  rw [if_pos hdb, if_pos hdb] at h
  unfold tillSize roundUp32 at *
  unfold blockArea roundUp32
  omega

theorem holdsFloats_of_agree {a fmt : Nat} {vs : List Val} {s t : State} (h : AgreeOn a (elemBytes fmt * vs.length) s t)
    (hs : holdsFloats a fmt vs s) : holdsFloats a fmt vs t := by
  intro i x hi
  have hlt : i < vs.length := (List.getElem?_eq_some_iff.mp hi).1
  have hle : elemBytes fmt * (i + 1) ≤ elemBytes fmt * vs.length := Nat.mul_le_mul_left _ hlt
  rw [Nat.mul_succ] at hle
  rw [h.read (by omega) (by omega), hs i x hi]

theorem addsFloats_of_agree {a fmt : Nat} {vs : List Val} {s s1 t1 t : State}
    (hbefore : AgreeOn a (elemBytes fmt * vs.length) s s1) (hafter : AgreeOn a (elemBytes fmt * vs.length) t1 t)
    (h : addsFloats a fmt vs s1 t1) : addsFloats a fmt vs s t := by
  intro i x hi hb
  have hlt : i < vs.length := (List.getElem?_eq_some_iff.mp hi).1
  have hle : elemBytes fmt * (i + 1) ≤ elemBytes fmt * vs.length := Nat.mul_le_mul_left _ hlt
  rw [Nat.mul_succ] at hle
  have hb1 := (hbefore.bad (b := a + elemBytes fmt * i) (m := elemBytes fmt) (by omega) (by omega)).trans hb
  rw [hafter.read (by omega) (by omega), h i x hi hb1, hbefore.readNat (by omega) (by omega)]

theorem holdsBlocks_of_agree {a n len : Nat} {qs : List Quant} {s t : State} (hqs : qs.length ≤ ceilDiv len 32)
    (h : AgreeOn a (blockArea n len) s t) (hs : holdsBlocks a n len qs s) : holdsBlocks a n len qs t := by
  intro k q hk
  have hlt : k < ceilDiv len 32 := Nat.lt_of_lt_of_le (List.getElem?_eq_some_iff.mp hk).1 hqs
  have hbelow := block_below (n := n) hlt
  have hdenoms := le_roundUp32 (ceilDiv len 32)
  obtain ⟨helems, hdenom⟩ := hs k q hk
  unfold blockArea at h
  exact ⟨(h.read (by omega) (by omega)).trans helems, (h.read (by omega) (by omega)).trans hdenom⟩

/-- Quantised blocks written at an operand stand on every die it names. -/
theorem holdsBlocks_onDies {o : Operand} {g len : Nat} {qs : List Quant} (ho : o.die < 4) (hdb : isDb o.fmt = true)
    (hfit : 32 * g + wholeArea o.fmt len ≤ tillSize) (hqs : qs.length ≤ ceilDiv len 32) (s : State) {d : Nat}
    (hd : d ∈ o.writeDies) : holdsBlocks (till d (32 * g)) (o.fmt + 1) len qs
      (s.onDies o g (fun s a => s.putBlocks a (o.fmt + 1) len qs)) := by
  obtain ⟨s1, -, hafter⟩ := onDies_at (f := fun s a => s.putBlocks a (o.fmt + 1) len qs) ho (fits_blocks hdb hfit)
    (fun s e _ => onlyBytes_putBlocks s hqs) hd s
  exact holdsBlocks_of_agree hqs hafter (holdsBlocks_putBlocks s1 hqs)

theorem valuesAt_writeVals {o : Operand} {g : Nat} {j : Job} {vs : List Val} (ho : o.die < 4)
    (hdest : destFault j o g vs.length = 0) (s : State) : valuesAt o g j.acc vs s (s.writeVals j o g vs) := by
  obtain ⟨hacc, hfit⟩ := destFault_zero hdest
  intro d hd
  unfold State.writeVals
  cases hdb : isDb o.fmt with
  | true =>
    have hfloat : fmtFloat o.fmt ≠ true := fun hf => by rw [isDb_of_float hf] at hdb; cases hdb
    refine ⟨fun _ => ?_, fun hf => absurd hf hfloat, fun hf => absurd hf hfloat⟩
    rw [if_pos rfl]
    dsimp only
    rw [quantAll_snd]
    exact holdsBlocks_onDies ho hdb hfit (Nat.le_of_eq (length_quantised _ _ _ _)) _ hd
  | false =>
    rw [if_neg Bool.false_ne_true]
    rw [wholeArea_of_not_db hdb] at hfit
    obtain ⟨s1, hbefore, hafter⟩ := onDies_at (f := fun s a => s.putFloats a o.fmt j.acc vs) ho hfit
      (fun s e _ => onlyBytes_putFloats s _ _ _ _) hd s
    refine ⟨(nomatch ·), fun _ hj => ?_, fun hf hj hvs => ?_⟩
    · rw [hj] at hafter
      rw [hj]
      exact holdsFloats_of_agree hafter (holdsFloats_putFloats s1 _ _ _)
    · rw [hj] at hafter
      rw [hj]
      exact addsFloats_of_agree hbefore hafter (addsFloats_putFloats hf hvs)

/-- Only memory matters to what stands at an operand. -/
theorem valuesAt_of_mem {o : Operand} {g : Nat} {acc : Bool} {vs : List Val} {m s t u : State} (h : valuesAt o g acc vs s t)
    (hm : SameBytes m s) (hu : u.mem = t.mem) : valuesAt o g acc vs m u := by
  intro d hd
  obtain ⟨hblocks, hfloats, hadds⟩ := h d hd
  refine ⟨fun hdb k q hk => ?_, fun hf hacc i x hi => ?_, fun hf hacc hvs i x hi hb => ?_⟩
  · rw [read_of_mem hu, read_of_mem hu]
    exact hblocks hdb k q hk
  · rw [read_of_mem hu]
    exact hfloats hf hacc i x hi
  · rw [read_of_mem hu, ← readNat_of_mem hm.1]
    exact hadds hf hacc hvs i x hi ((bad_of_poison hm.2 _ _).trans hb)

theorem writeVals_float {o : Operand} (hdb : isDb o.fmt = false) (s : State) (j : Job) (g : Nat) (vs : List Val) :
    s.writeVals j o g vs = s.onDies o g (fun s a => s.putFloats a o.fmt j.acc vs) :=
  if_neg (by rw [hdb]; exact Bool.false_ne_true)

theorem onlyParts_onDies {o : Operand} {g : Nat} {f : State → Nat → State}
    (hf : ∀ z s a, Leads (maskOf [.mem, .poison]) z s → Leads (maskOf [.mem, .poison]) z (f s a)) (s : State) :
    onlyParts [.mem, .poison] s (s.onDies o g f) := by
  have h : Leads (maskOf [.mem, .poison]) s (s.onDies o g f) := keeps_onDies Leads.self fun _ h _ => hf _ _ _ h
  exact h.onlyParts

theorem onlyParts_putFloats_onDies (s : State) (o : Operand) (g : Nat) (acc : Bool) (vs : List Val) :
    onlyParts [.mem, .poison] s (s.onDies o g (fun s a => s.putFloats a o.fmt acc vs)) :=
  onlyParts_onDies (fun _ _ _ h => keeps_putFloats (Has.self.sub rfl) h) s

theorem onlyRegs_writeVals (s : State) (j : Job) (o : Operand) (g : Nat) (vs : List Val) :
    onlyRegs recordRegs s (s.writeVals j o g vs) := by
  unfold State.writeVals
  split
  · dsimp only
    exact onlyRegs_trans (onlyRegs_quantAll s j _ none none vs)
      (onlyRegs_of_regs (onlyParts_onDies (fun _ _ _ h => keeps_putBlocks (Has.self.sub rfl) h) _ .regs (by decide)))
  · exact onlyRegs_of_regs (onlyParts_putFloats_onDies s o g _ vs .regs (by decide))

theorem onlyParts_writeVals (s : State) (j : Job) (o : Operand) (g : Nat) (vs : List Val) :
    onlyParts recordParts s (s.writeVals j o g vs) := by
  have h : Leads (maskOf recordParts) s (s.writeVals j o g vs) := keeps_writeVals (Has.self.sub rfl) Leads.self
  exact h.onlyParts

/-! ### The issue of a VEC order that writes values (R226) -/

theorem vec_of_accepts {k : UnitKind} (h : accepts k 4 = true) : k = .vec := by
  cases k
  · exact absurd h (by decide)
  · exact absurd h (by decide)
  · rfl
  · exact absurd h (by decide)

theorem vecReg_eq_unitReg {u : EngUnit} (h : u.kind = .vec) (off : Nat) : vecReg u.die.val u.inst off = unitReg u off := by
  unfold unitReg
  rw [h]

theorem issueCounter_eq (u : EngUnit) (dec : Bool) : issueCounter u dec = unitReg u (if dec then 0x108 else 0x100) := by
  cases dec
  · rfl
  · rfl

theorem vecReg_ne_issueCounter {u : EngUnit} (h : u.kind = .vec) {off : Nat} (ho : off < 0x100) (dec : Bool) :
    vecReg u.die.val u.inst off ≠ issueCounter u dec := by
  rw [vecReg_eq_unitReg h, issueCounter_eq]
  refine unitReg_ne ?_
  split <;> omega

theorem issueCounter_notOfRecord {u : EngUnit} (hu : EngUnit.ok u = true) (dec : Bool) : issueCounter u dec ∉ recordRegs := by
  rw [issueCounter_eq]
  refine unitReg_notOfRecord u _ hu ?_
  split <;> decide

theorem die_operand (s : State) (n d k : Nat) : (s.operand n d k).die < 4 := Nat.mod_lt _ (by decide)

theorem die_opnd (s : State) (j : Job) (k : Nat) : (s.opnd j k).die < 4 := die_operand s _ _ k

/-- The destination of a VEC order as the state before it gives it. -/
def State.vecDest (s : State) (j : Job) : Operand × Nat := (s.opnd j j.vecC, s.opGranule j (s.opnd j j.vecC) j.vecTok)

theorem vecOut_done {s before : State} {j : Job} {vs : List Val} {o : Operand} {g : Nat} (hdest : before.vecDest j = (o, g))
    (hc : j.vecC ≠ noOperand) (hf : destFault j o g vs.length = 0) : s.vecOut before j vs =
      done ((s.writeVals j o g vs).bump (VEC_CNT_NAN j.die j.unit.inst) (nansIn o.fmt vs)) := by
  obtain ⟨rfl, rfl⟩ := Prod.mk.inj hdest
  unfold State.vecOut
  dsimp only
  rw [if_neg hc, hf, if_neg (not_not_intro rfl)]

/-- Work that has not failed stands. -/
theorem unless_failed {s : State} {r : Done} (h : r.reason = 0) : (if r.reason ≠ 0 then failed s r.reason else r) = r :=
  if_neg (not_not_intro h)

section
variable {s s' m : State} {u : EngUnit} {dec : Bool} {op : Nat} {e : QEntry} {work : Job → State → Done} {vs : List Val}
  {o : Operand} {g : Nat}

/-- What the issue of a VEC order leaves that writes its values from state `s'`; `m` has the bytes of `s'`. -/
structure VecWritten (u : EngUnit) (dec : Bool) (e : QEntry) (o : Operand) (g : Nat) (vs : List Val)
    (m s' s t : State) : Prop where
  issued : issued u dec e true s t
  values : valuesAt o g (firstJob u dec e).acc vs m t
  nans : counted (VEC_CNT_NAN u.die.val u.inst) (nansIn o.fmt vs) s t
  parts : onlyParts (.queues :: recordParts) s t
  floatMem : isDb o.fmt = false → onlyOperand o g (elemBytes o.fmt * vs.length) m t
  floatParts : isDb o.fmt = false → onlyParts [.regs, .queues, .mem, .poison] s t
  floatRegs : isDb o.fmt = false → onlyRegs [VEC_CNT_NAN u.die.val u.inst] s' t

/-- The state that work makes of writing values from `s'`. -/
def State.vecState (s' : State) (u : EngUnit) (j : Job) (o : Operand) (g : Nat) (vs : List Val) : State :=
  (s'.writeVals j o g vs).bump (VEC_CNT_NAN u.die.val u.inst) (nansIn o.fmt vs)

theorem onlyParts_vecState {ps : List StatePart} {j : Job} (h : onlyParts ps s' (s'.writeVals j o g vs)) (hr : StatePart.regs ∈ ps) :
    onlyParts ps s' (s'.vecState u j o g vs) := by
  have hb : Leads (maskOf [.regs]) (s'.writeVals j o g vs) (s'.vecState u j o g vs) := keeps_bump (Has.self.sub rfl) Leads.self
  exact onlyParts_trans h (onlyParts_mono (by simpa using hr) hb.onlyParts)

theorem vecNan_notOfRecord (hkind : u.kind = .vec) (hok : EngUnit.ok u = true) : VEC_CNT_NAN u.die.val u.inst ∉ recordRegs := by
  rw [VEC_CNT_NAN, vecReg_eq_unitReg hkind]
  exact unitReg_notOfRecord u _ hok (by decide)

theorem vecWritten (h : s.starts u dec 4 op e = true)
    (hwork : work (firstJob u dec e) (s.bump (issueCounter u dec) 1) =
      s'.vecOut (s.bump (issueCounter u dec) 1) (firstJob u dec e) vs)
    (hm : SameBytes m s') (hparts : onlyParts [.regs, .mem, .poison] (s.bump (issueCounter u dec) 1) s')
    (hregs : ∀ a, a = issueCounter u dec ∨ a = VEC_CNT_NAN u.die.val u.inst → s'.reg a = (s.bump (issueCounter u dec) 1).reg a)
    (hdest : s.vecDest (firstJob u dec e) = (o, g)) (hc : (firstJob u dec e).vecC ≠ noOperand)
    (hf : destFault (firstJob u dec e) o g vs.length = 0) :
    VecWritten u dec e o g vs m s' s (s.issue u dec 4 op work) := by
  obtain ⟨-, haccepts, -⟩ := starts_parts h
  obtain ⟨-, -, hok, -⟩ := starts_free h
  have hkind := vec_of_accepts haccepts
  have hdest' : (s.bump (issueCounter u dec) 1).vecDest (firstJob u dec e) = (o, g) := by
    unfold State.vecDest
    rw [opnd_of_mem (State.bump_mem _ _ _), opGranule_of_mem (State.bump_mem _ _ _)]
    exact hdest
  have hdone : work (firstJob u dec e) (s.bump (issueCounter u dec) 1) = done (s'.vecState u (firstJob u dec e) o g vs) :=
    hwork.trans (vecOut_done hdest' hc hf)
  have hstate : (work (firstJob u dec e) (s.bump (issueCounter u dec) 1)).state = s'.vecState u (firstJob u dec e) o g vs := by
    rw [hdone]
    rfl
  have hreason : (work (firstJob u dec e) (s.bump (issueCounter u dec) 1)).reason = 0 := by rw [hdone]; rfl
  have hready : (work (firstJob u dec e) (s.bump (issueCounter u dec) 1)).ready = true := by rw [hdone]; rfl
  have ho : o.die < 4 := (Prod.mk.inj hdest).1 ▸ die_opnd s _ _
  have hwrite := onlyRegs_writeVals s' (firstJob u dec e) o g vs
  have hne : VEC_CNT_NAN u.die.val u.inst ≠ issueCounter u dec := vecReg_ne_issueCounter hkind (by decide) dec
  have hsame : ∀ p : StatePart, p ≠ .queues → p.same (s'.vecState u (firstJob u dec e) o g vs) (s.issue u dec 4 op work) :=
    fun p hp => by
      rw [issue_launched h hreason, ← hstate]
      exact launched_same _ hp
  have hregt : ∀ a, (s.issue u dec 4 op work).reg a = (s'.vecState u (firstJob u dec e) o g vs).reg a :=
    reg_of_regs (hsame .regs nofun)
  have hmemt : (s.issue u dec 4 op work).mem = (s'.writeVals (firstJob u dec e) o g vs).mem :=
    (show (s.issue u dec 4 op work).mem = _ from hsame .mem nofun).trans (State.bump_mem _ _ _)
  refine ⟨?_, valuesAt_of_mem (valuesAt_writeVals ho hf s') hm hmemt, ?_, ?_, ?_, ?_, ?_⟩
  · rw [← hready]
    refine issue_issued h hreason ?_ ?_
    · rw [hstate]
      have hq := onlyParts_trans (onlyParts_mono (by decide) hparts)
        (onlyParts_vecState (u := u) (onlyParts_writeVals s' (firstJob u dec e) o g vs) (by decide))
      exact (hq .queues (by decide)).trans (State.bump_queues _ _ _)
    · rw [hstate, State.vecState, reg_bump_other hne, hwrite _ (issueCounter_notOfRecord hok dec), hregs _ (.inl rfl)]
  · refine counted_from (t := s'.writeVals (firstJob u dec e) o g vs) ?_ (counted_of_reg (counted_bump _) (hregt _))
    rw [hwrite _ (vecNan_notOfRecord hkind hok), hregs _ (.inr rfl), reg_bump_other (Ne.symm hne)]
  · refine issue_onlyParts h hreason ?_ (by decide) (by decide)
    rw [hstate]
    exact onlyParts_trans (onlyParts_mono (by decide) hparts)
      (onlyParts_mono (by decide) (onlyParts_vecState (u := u) (onlyParts_writeVals s' (firstJob u dec e) o g vs) (by decide)))
  · intro hdb k hk
    rw [byte_of_mem hmemt, writeVals_float hdb]
    exact (onlyOperand_onDies (fun s e _ => onlyBytes_putFloats s _ _ _ _) s' k hk).trans (byte_of_mem hm.1 k)
  · intro hdb
    refine issue_onlyParts h hreason ?_ (by decide) (by decide)
    rw [hstate]
    refine onlyParts_trans (onlyParts_mono (by decide) hparts) (onlyParts_mono (ps := [.regs, .mem, .poison]) (by decide)
      (onlyParts_vecState (u := u) ?_ (by decide)))
    rw [writeVals_float hdb]
    exact onlyParts_mono (by decide) (onlyParts_putFloats_onDies s' o g _ vs)
  · intro hdb a ha
    rw [List.mem_singleton] at ha
    rw [hregt, State.vecState, reg_bump_other (Ne.symm ha), writeVals_float hdb]
    exact reg_of_regs (onlyParts_putFloats_onDies s' o g _ vs .regs (by decide)) a

end

end Sys2Proof.Machine
end

section
/-! SUPPORT. VEC orders: quantising and elementwise operations (O41), reductions (O42), and the normalisations, rotations,
combines and watches (O43). -/

namespace Sys2Proof.Machine

/-! ### The values an order takes, with its issue counted -/

/-- State `s'` was made of `b` by reading operands, and holds the bytes of `m`. -/
structure Taken (b m s' : State) : Prop where
  bytes : SameBytes m s'
  parts : onlyParts [.mem, .poison] b s'

theorem Taken.regs {b m s' : State} (h : Taken b m s') : s'.regs = b.regs := h.parts .regs (by decide)

theorem taken_one (s : State) (a n : Nat) (j : Job) (v : VecIn) :
    ((s.bump a n).takeVals j v).2 = (s.takeVals j v).2 ∧ Taken (s.bump a n) (s.takeVals j v).1 ((s.bump a n).takeVals j v).1 := by
  obtain ⟨hvals, hbytes⟩ := takeVals_of_bytes (sameBytes_bump s a n) j v
  exact ⟨hvals, hbytes, onlyParts_takeVals _ j v⟩

theorem Taken.next {b m s' : State} (h : Taken b m s') (j : Job) (v : VecIn) :
    (s'.takeVals j v).2 = (m.takeVals j v).2 ∧ Taken b (m.takeVals j v).1 (s'.takeVals j v).1 := by
  obtain ⟨hvals, hbytes⟩ := takeVals_of_bytes h.bytes j v
  exact ⟨hvals, hbytes, onlyParts_trans h.parts (onlyParts_takeVals s' j v)⟩

theorem firstReason_of_zero {l : List Nat} (h : ∀ r ∈ l, r = 0) : firstReason l = 0 := by
  have hnone : l.find? (· != 0) = none := List.find?_eq_none.mpr fun r hr => by simp [h r hr]
  unfold firstReason
  rw [hnone]
  rfl

theorem vecOut_reason {s before : State} {j : Job} {vs : List Val} {o : Operand} {g : Nat} (hdest : before.vecDest j = (o, g))
    (hc : j.vecC ≠ noOperand) (hf : destFault j o g vs.length = 0) : (s.vecOut before j vs).reason = 0 := by
  rw [vecOut_done hdest hc hf]
  rfl

theorem vecDest_of_mem {s t : State} (h : t.mem = s.mem) (j : Job) : t.vecDest j = s.vecDest j := by
  unfold State.vecDest
  rw [opnd_of_mem h, opGranule_of_mem h]

/-! ### The works that write values, where their operands can be read -/

theorem convertWork_eq {s : State} {j : Job} {vs : List Val} (ha : (s.vecIn j j.vecA).why = 0)
    (hv : vs = (s.takeVals j (s.vecIn j j.vecA)).2) (hr : ((s.takeVals j (s.vecIn j j.vecA)).1.vecOut s j vs).reason = 0) :
    convertWork j s = (s.takeVals j (s.vecIn j j.vecA)).1.vecOut s j vs := by
  subst hv
  unfold convertWork
  dsimp only
  rw [if_neg (not_not_intro ha), unless_failed hr]

theorem funcWork_eq {s : State} {j : Job} {vs : List Val} (ha : (s.vecIn j j.vecA).why = 0)
    (hv : vs = (s.takeVals j (s.vecIn j j.vecA)).2.map (lift1 (fun x => fp32.decode (fnVal (j.vecImm 3 0) (fp32.encode x)))))
    (hr : ((s.takeVals j (s.vecIn j j.vecA)).1.vecOut s j vs).reason = 0) :
    funcWork j s = (s.takeVals j (s.vecIn j j.vecA)).1.vecOut s j vs := by
  subst hv
  unfold funcWork
  dsimp only
  rw [if_neg (not_not_intro ha), unless_failed hr]

/-- The state after both operands of a two-operand order are read, and the second operand's values. -/
def State.takeTwo (s : State) (j : Job) : State × List Val :=
  (s.takeVals j (s.vecIn j j.vecA)).1.takeVals j (s.vecIn j j.vecB)

theorem twoWork_eq {s : State} {j : Job} {f : Num → Num → Num} {vs : List Val} (ha : (s.vecIn j j.vecA).why = 0)
    (hb : (s.vecIn j j.vecB).why = 0)
    (hv : vs = ((s.takeVals j (s.vecIn j j.vecA)).2.zip (s.takeTwo j).2).map (fun e => lift2 f e.1 e.2))
    (hr : ((s.takeTwo j).1.vecOut s j vs).reason = 0) : twoWork f j s = (s.takeTwo j).1.vecOut s j vs := by
  subst hv
  unfold twoWork
  dsimp only
  rw [firstReason_of_zero (by simp [ha, hb]), if_neg (not_not_intro rfl)]
  exact unless_failed hr

/-- What DGRAD makes of two operands' values: the sum of each head's products. -/
def State.dgradValues (s : State) (j : Job) (xs ys : List Val) : List Val :=
  let ps := (xs.zip ys).map (fun e => lift2 (hoardProd (s.vecIn j j.vecA).op.fmt (s.vecIn j j.vecB).op.fmt) e.1 e.2)
  (piecesOf s.headDim (ps.length + 1) ps).map (fun l => (hoardOf l).value)

theorem dgradWork_eq {s : State} {j : Job} {vs : List Val} (ha : (s.vecIn j j.vecA).why = 0) (hb : (s.vecIn j j.vecB).why = 0)
    (hv : vs = s.dgradValues j (s.takeVals j (s.vecIn j j.vecA)).2 (s.takeTwo j).2)
    (hr : ((s.takeTwo j).1.vecOut s j vs).reason = 0) : dgradWork j s = (s.takeTwo j).1.vecOut s j vs := by
  subst hv
  unfold dgradWork
  dsimp only
  rw [firstReason_of_zero (by simp [ha, hb]), if_neg (not_not_intro rfl)]
  exact unless_failed hr

/-- What ROPE makes of its operand's values. -/
def State.ropeValues (s : State) (j : Job) (xs : List Val) : List Val :=
  let turned := rotated s.headDim (s.layEnt j.layer 7 4) (s.jobRow j 7 4 + j.vecTok) xs
  if j.vecImm 0 0 = 0 then turned.map (lift1 (fun x => fp32Op fp32.mul x (fp32.decode (rsqrtCode s.headDim)))) else turned

theorem ropeWork_eq {s : State} {j : Job} {vs : List Val} (ha : (s.vecIn j j.vecA).why = 0)
    (hv : vs = s.ropeValues j (s.takeVals j (s.vecIn j j.vecA)).2)
    (hr : ((s.takeVals j (s.vecIn j j.vecA)).1.vecOut s j vs).reason = 0) :
    ropeWork j s = (s.takeVals j (s.vecIn j j.vecA)).1.vecOut s j vs := by
  subst hv
  unfold ropeWork
  dsimp only
  rw [if_neg (not_not_intro ha)]
  exact unless_failed hr

/-- The factor of a NORM: rsqrt(S / len + 2^-e), S read from state `m`. -/
def State.normFactor (s m : State) (j : Job) : Val :=
  (m.floatAt ((s.vecIn j (j.vecImm 19 12)).at_ j.die) (s.vecIn j (j.vecImm 19 12)).op.fmt 0).map (fun v => fp32.decode (fnVal 4
    (fp32.add (fp32.div (fp32.encode v) (fp32.ofInt (s.vecIn j j.vecA).op.len))
      (fp32.encode (.fin false 1 (-(j.vecImm 6 0 : Int)))))))

theorem normWork_eq {s : State} {j : Job} {vs : List Val} (ha : (s.vecIn j j.vecA).why = 0) (hb : (s.vecIn j j.vecB).why = 0)
    (hz : (s.vecIn j (j.vecImm 19 12)).why = 0)
    (hv : vs = ((s.takeVals j (s.vecIn j j.vecA)).2.zip (s.takeTwo j).2).map (fun e =>
      lift2 (fp32Op fp32.mul) (lift2 (fp32Op fp32.mul) e.1 e.2) (s.normFactor (s.takeTwo j).1 j)))
    (hr : ((s.takeTwo j).1.vecOut s j vs).reason = 0) : normWork j s = (s.takeTwo j).1.vecOut s j vs := by
  subst hv
  unfold normWork
  dsimp only
  rw [firstReason_of_zero (by simp [ha, hb, hz]), if_neg (not_not_intro rfl)]
  exact unless_failed hr

/-! ### Issued orders of one or two operands -/

section
variable {s : State} {u : EngUnit} {dec : Bool} {op : Nat} {e : QEntry} {work : Job → State → Done} {vs : List Val}
  {o : Operand} {g : Nat} {m s' : State}

/-- An order whose work comes down to writing its values from the state its operands were read in. -/
theorem vecWritten_of_taken (h : s.starts u dec 4 op e = true)
    (hwork : (s'.vecOut (s.bump (issueCounter u dec) 1) (firstJob u dec e) vs).reason = 0 →
      work (firstJob u dec e) (s.bump (issueCounter u dec) 1) = s'.vecOut (s.bump (issueCounter u dec) 1) (firstJob u dec e) vs)
    (ht : Taken (s.bump (issueCounter u dec) 1) m s') (hdest : s.vecDest (firstJob u dec e) = (o, g))
    (hc : (firstJob u dec e).vecC ≠ noOperand) (hf : destFault (firstJob u dec e) o g vs.length = 0) :
    VecWritten u dec e o g vs m s' s (s.issue u dec 4 op work) := by
  have hdest' : (s.bump (issueCounter u dec) 1).vecDest (firstJob u dec e) = (o, g) :=
    (vecDest_of_mem (State.bump_mem _ _ _) _).trans hdest
  exact vecWritten h (hwork (vecOut_reason hdest' hc hf)) ht.bytes (onlyParts_mono (by decide) ht.parts)
    (fun a _ => reg_of_regs ht.regs a) hdest hc hf

/-- Elementwise orders change their issue counter and the count of NaNs, no other register. -/
theorem VecWritten.onlyRegs {t : State} (h : VecWritten u dec e o g vs m s' s t)
    (ht : Taken (s.bump (issueCounter u dec) 1) m s') (hdb : isDb o.fmt = false) :
    onlyRegs [issueCounter u dec, VEC_CNT_NAN u.die.val u.inst] s t := fun a ha => by
  simp only [List.mem_cons, List.not_mem_nil, or_false, not_or] at ha
  rw [h.floatRegs hdb a (by simpa using ha.2), reg_of_regs ht.regs, reg_bump_other (Ne.symm ha.1)]

end

section
variable (s : State) (u : EngUnit) (dec : Bool) (j : Job)

/-- The state with the issue counted. -/
def State.issuing (s : State) (u : EngUnit) (dec : Bool) : State := s.bump (issueCounter u dec) 1

theorem mem_issuing : (s.issuing u dec).mem = s.mem := State.bump_mem _ _ _

theorem vecIn_issuing (k : Nat) : (s.issuing u dec).vecIn j k = s.vecIn j k := vecIn_of_mem (mem_issuing s u dec) j k

theorem takeOne_issuing : ((s.issuing u dec).takeVals j ((s.issuing u dec).vecIn j j.vecA)).2 = (s.takeVals j (s.vecIn j j.vecA)).2 ∧
    Taken (s.issuing u dec) (s.takeVals j (s.vecIn j j.vecA)).1
      ((s.issuing u dec).takeVals j ((s.issuing u dec).vecIn j j.vecA)).1 := by
  rw [vecIn_issuing]
  exact taken_one s _ 1 j _

theorem takeTwo_issuing : ((s.issuing u dec).takeTwo j).2 = (s.takeTwo j).2 ∧
    Taken (s.issuing u dec) (s.takeTwo j).1 ((s.issuing u dec).takeTwo j).1 := by
  unfold State.takeTwo
  rw [vecIn_issuing, vecIn_issuing]
  exact (taken_one s _ 1 j _).2.next j _

theorem headDim_of_mem {s t : State} (h : t.mem = s.mem) : t.headDim = s.headDim := by
  unfold State.headDim State.headBlocks State.geo
  rw [chr_of_mem h]

theorem normFactor_issuing : (s.issuing u dec).normFactor ((s.issuing u dec).takeTwo j).1 j = s.normFactor (s.takeTwo j).1 j := by
  unfold State.normFactor
  rw [vecIn_issuing, vecIn_issuing, floatAt_of_bytes (takeTwo_issuing s u dec j).2.bytes]

end

theorem ropeValues_issuing (s : State) (u : EngUnit) (dec : Bool) (j : Job) (xs : List Val) :
    (s.issuing u dec).ropeValues j xs = s.ropeValues j xs := by
  unfold State.ropeValues
  rw [headDim_of_mem (mem_issuing s u dec), layEnt_of_mem (mem_issuing s u dec), jobRow_of_mem (mem_issuing s u dec)]

theorem dgradValues_issuing (s : State) (u : EngUnit) (dec : Bool) (j : Job) (xs ys : List Val) :
    (s.issuing u dec).dgradValues j xs ys = s.dgradValues j xs ys := by
  unfold State.dgradValues
  rw [headDim_of_mem (mem_issuing s u dec), vecIn_issuing, vecIn_issuing]

/-! ### QUANT (R58 to R62, R226) -/

theorem isGradient_issuing (s : State) (u : EngUnit) (dec : Bool) (j : Job) : (s.issuing u dec).isGradient j = s.isGradient j := by
  unfold State.isGradient State.progKind
  rw [progHdr_of_mem (mem_issuing s u dec)]

theorem withheldList_issuing (s : State) (u : EngUnit) (dec : Bool) (l k : Nat) :
    (s.issuing u dec).withheldList l k = s.withheldList l k := by
  unfold State.withheldList
  simp only [layEnt_of_mem (mem_issuing s u dec), chr_of_mem (mem_issuing s u dec)]

theorem glbStep_ne_issueCounter {u : EngUnit} (dec : Bool) : issueCounter u dec ≠ GLB_STEP := by
  have hlow : 0x01000000 ≤ unitReg u (if dec then 0x108 else 0x100) := by
    unfold unitReg asyReg atnReg vecReg dmaReg dieBase
    cases u.kind
    all_goals
      dsimp only
      omega
  rw [issueCounter_eq]
  unfold GLB_STEP glb
  omega

theorem roundDraws_issuing (s : State) (u : EngUnit) (dec : Bool) (l p : Nat) :
    (s.issuing u dec).roundDraws l p = s.roundDraws l p := by
  have hstep : (s.issuing u dec).step = s.step := congrArg BitVec.toNat (reg_bump_other (glbStep_ne_issueCounter dec))
  funext i
  unfold State.roundDraws State.stepNow
  rw [chr_of_mem (mem_issuing s u dec), hstep]
  rfl

/-- How the blocks of a QUANT are rounded. -/
def State.quantDraws (s : State) (j : Job) : Option (Nat → Nat) :=
  if s.isGradient j && s.layerPol j.layer 4 4 == 1 then
    some (s.roundDraws j.layer ((s.jobRow j 21 18 + j.vecTok) * (s.vecIn j j.vecA).op.len)) else none

/-- The denomination of a QUANT, where its layer fixes one. -/
def State.quantStatic (s : State) (j : Job) : Option Nat :=
  if s.layerPol j.layer 1 1 = 1 then some (s.layerPol j.layer 2 2) else none

theorem quantDraws_issuing (s : State) (u : EngUnit) (dec : Bool) (j : Job) : (s.issuing u dec).quantDraws j = s.quantDraws j := by
  unfold State.quantDraws
  rw [isGradient_issuing, layerPol_of_mem (mem_issuing s u dec), vecIn_issuing, jobRow_of_mem (mem_issuing s u dec),
    roundDraws_issuing]

theorem quantStatic_issuing (s : State) (u : EngUnit) (dec : Bool) (j : Job) :
    (s.issuing u dec).quantStatic j = s.quantStatic j := by
  unfold State.quantStatic
  rw [layerPol_of_mem (mem_issuing s u dec), layerPol_of_mem (mem_issuing s u dec)]

theorem unheld_values (xs : List Val) : (xs.zipIdx).map (fun e => if ([] : List Nat).contains e.2 then some Num.zero else e.1) = xs := by
  simp

/-- Notes of side vectors touch that part alone. -/
theorem sides_foldl (f : SMap Nat → Nat → SMap Nat) (ds : List Nat) (s : State) :
    ∃ x, ds.foldl (fun s d => { s with sides := f s.sides d }) s = { s with sides := x } := by
  induction ds generalizing s with
  | nil => exact ⟨s.sides, rfl⟩
  | cons d ds ih =>
    obtain ⟨x, hx⟩ := ih { s with sides := f s.sides d }
    exact ⟨x, hx⟩

/-- The blocks of a QUANT, written where its values were read. -/
def State.quantWritten (s : State) (j : Job) (o : Operand) (g : Nat) : State × List Quant :=
  let x := s.takeVals j (s.vecIn j j.vecA)
  let q := x.1.quantAll j (o.fmt + 1) (s.quantStatic j) (s.quantDraws j) x.2
  (q.1.onDies o g (fun t k => t.putBlocks k (o.fmt + 1) (s.vecIn j j.vecA).op.len q.2), q.2)

theorem quantWork_eq {s : State} {j : Job} {o : Operand} {g : Nat} (ha : (s.vecIn j j.vecA).why = 0)
    (hdest : s.vecDest j = (o, g)) (hc : j.vecC ≠ noOperand) (hf : destFault j o g (s.vecIn j j.vecA).op.len = 0)
    (hheld : s.isGradient j = true ∨ s.withheldList j.layer (j.vecImm 1 0) = []) :
    ∃ x, quantWork j s = done (({ (s.quantWritten j o g).1 with sides := x } : State).bump (VEC_CNT_QUANT j.die j.unit.inst)
      (s.quantWritten j o g).2.length) := by
  obtain ⟨rfl, rfl⟩ := Prod.mk.inj hdest
  have hnone : (if s.isGradient j then [] else
      (s.withheldList j.layer (j.vecImm 1 0)).filter (· < (s.vecIn j j.vecA).op.len)) = [] := by
    rcases hheld with h | h
    · exact if_pos h
    · rw [h, List.filter_nil, ite_self]
  obtain ⟨x, hx⟩ := sides_foldl (fun p d => put 0 p (till d (32 * s.opGranule j (s.opnd j j.vecC) j.vecTok)) 0)
    (s.opnd j j.vecC).writeDies (s.quantWritten j (s.opnd j j.vecC) (s.opGranule j (s.opnd j j.vecC) j.vecTok)).1
  refine ⟨x, ?_⟩
  rw [← hx]
  unfold quantWork
  dsimp only
  rw [hnone]
  simp only [List.isEmpty_nil, if_true]
  rw [if_neg hc, hf, firstReason_of_zero (by simp [ha]), if_neg (not_not_intro rfl), unheld_values]
  rfl

theorem vecQuant_notOfRecord {u : EngUnit} (hkind : u.kind = .vec) (hok : EngUnit.ok u = true) :
    VEC_CNT_QUANT u.die.val u.inst ∉ recordRegs := by
  rw [VEC_CNT_QUANT, vecReg_eq_unitReg hkind]
  exact unitReg_notOfRecord u _ hok (by decide)

theorem onlyParts_putBlocks_onDies (s : State) (o : Operand) (g n len : Nat) (qs : List Quant) :
    onlyParts [.mem, .poison] s (s.onDies o g (fun t k => t.putBlocks k n len qs)) :=
  onlyParts_onDies (fun _ _ _ h => keeps_putBlocks (Has.self.sub rfl) h) s

theorem regs_putBlocks_onDies (s : State) (o : Operand) (g n len : Nat) (qs : List Quant) :
    (s.onDies o g (fun t k => t.putBlocks k n len qs)).regs = s.regs := onlyParts_putBlocks_onDies s o g n len qs .regs (by decide)

theorem quantWritten_regs (s : State) (j : Job) (o : Operand) (g : Nat) : onlyRegs recordRegs s (s.quantWritten j o g).1 := by
  unfold State.quantWritten
  extract_lets x q
  have hread : onlyRegs recordRegs s x.1 := onlyRegs_of_regs (regs_takeVals s j _)
  have hquant : onlyRegs recordRegs x.1 q.1 := onlyRegs_quantAll x.1 j _ _ _ x.2
  clear_value q
  exact onlyRegs_trans (onlyRegs_trans hread hquant) (onlyRegs_of_regs (regs_putBlocks_onDies q.1 o g _ _ _))

theorem quantWritten_queues (s : State) (j : Job) (o : Operand) (g : Nat) : (s.quantWritten j o g).1.queues = s.queues := by
  unfold State.quantWritten
  dsimp only
  refine (onlyParts_putBlocks_onDies _ o g _ _ _ .queues (by decide)).trans ?_
  refine ((keeps_quantAll Has.self Leads.self).same .queues rfl).trans ?_
  exact onlyParts_takeVals s j _ .queues (by decide)

theorem quantWritten_snd (s : State) (j : Job) (o : Operand) (g : Nat) : (s.quantWritten j o g).2 =
    quantised (o.fmt + 1) (s.quantStatic j) (s.quantDraws j) (s.takeVals j (s.vecIn j j.vecA)).2 := quantAll_snd _ _ _ _ _ _

theorem length_quantWritten (s : State) (j : Job) (o : Operand) (g : Nat) :
    (s.quantWritten j o g).2.length = ceilDiv (s.vecIn j j.vecA).op.len 32 := by
  rw [quantWritten_snd, length_quantised, length_takeVals]

theorem holdsBlocks_quantWritten {s : State} {j : Job} {o : Operand} {g : Nat} (ho : o.die < 4) (hdb : isDb o.fmt = true)
    (hf : destFault j o g (s.vecIn j j.vecA).op.len = 0) {d : Nat} (hd : d ∈ o.writeDies) :
    holdsBlocks (till d (32 * g)) (o.fmt + 1) (s.vecIn j j.vecA).op.len (s.quantWritten j o g).2 (s.quantWritten j o g).1 :=
  holdsBlocks_onDies ho hdb (destFault_zero hf).2 (Nat.le_of_eq (length_quantWritten s j o g)) _ hd

theorem quantWritten_issuing (s : State) (u : EngUnit) (dec : Bool) (j : Job) (o : Operand) (g : Nat) :
    ((s.issuing u dec).quantWritten j o g).2 =
      quantised (o.fmt + 1) (s.quantStatic j) (s.quantDraws j) (s.takeVals j (s.vecIn j j.vecA)).2 := by
  rw [quantWritten_snd, quantStatic_issuing, quantDraws_issuing, (takeOne_issuing s u dec j).1]

/-- The blocks that a QUANT leaves, and what it counts. -/
theorem quant_issued {s : State} {u : EngUnit} {dec : Bool} {e : QEntry} {o : Operand} {g : Nat}
    (h : s.starts u dec 4 0 e = true) (ha : (s.vecIn (firstJob u dec e) (firstJob u dec e).vecA).why = 0)
    (hdest : s.vecDest (firstJob u dec e) = (o, g)) (hc : (firstJob u dec e).vecC ≠ noOperand)
    (hf : destFault (firstJob u dec e) o g (s.vecIn (firstJob u dec e) (firstJob u dec e).vecA).op.len = 0)
    (hdb : isDb o.fmt = true)
    (hheld : s.isGradient (firstJob u dec e) = true ∨ s.withheldList e.layer ((firstJob u dec e).vecImm 1 0) = []) :
    issued u dec e true s (s.issue u dec 4 0 quantWork) ∧
      counted (VEC_CNT_QUANT u.die.val u.inst) (ceilDiv (s.vecIn (firstJob u dec e) (firstJob u dec e).vecA).op.len 32) s
        (s.issue u dec 4 0 quantWork) ∧
      ∀ d, d ∈ o.writeDies → holdsBlocks (till d (32 * g)) (o.fmt + 1)
        (s.vecIn (firstJob u dec e) (firstJob u dec e).vecA).op.len
        (quantised (o.fmt + 1) (s.quantStatic (firstJob u dec e)) (s.quantDraws (firstJob u dec e))
          (s.takeVals (firstJob u dec e) (s.vecIn (firstJob u dec e) (firstJob u dec e).vecA)).2)
        (s.issue u dec 4 0 quantWork) := by
  obtain ⟨-, haccepts, -⟩ := starts_parts h
  obtain ⟨-, -, hok, -⟩ := starts_free h
  have hkind := vec_of_accepts haccepts
  have ho : o.die < 4 := (Prod.mk.inj hdest).1 ▸ die_opnd s _ _
  have hin := vecIn_issuing s u dec (firstJob u dec e) (firstJob u dec e).vecA
  obtain ⟨x, hwork⟩ := quantWork_eq (s := s.issuing u dec) (j := firstJob u dec e) (by rw [hin]; exact ha)
    ((vecDest_of_mem (mem_issuing s u dec) _).trans hdest) hc (by rw [hin]; exact hf)
    (by rw [isGradient_issuing, withheldList_issuing]; exact hheld)
  have hsnd := quantWritten_issuing s u dec (firstJob u dec e) o g
  have hlen := length_quantWritten (s.issuing u dec) (firstJob u dec e) o g
  have hregs := quantWritten_regs (s.issuing u dec) (firstJob u dec e) o g
  have hqueues := quantWritten_queues (s.issuing u dec) (firstJob u dec e) o g
  have hholds := fun d hd => holdsBlocks_quantWritten (s := s.issuing u dec) (j := firstJob u dec e) ho hdb
    (by rw [hin]; exact hf) (d := d) hd
  rw [hin] at hlen hholds
  generalize (s.issuing u dec).quantWritten (firstJob u dec e) o g = w at *
  have hstate : (quantWork (firstJob u dec e) (s.issuing u dec)).state =
      ({ w.1 with sides := x } : State).bump (VEC_CNT_QUANT u.die.val u.inst) w.2.length := by
    rw [hwork]
    rfl
  have hreason : (quantWork (firstJob u dec e) (s.issuing u dec)).reason = 0 := by rw [hwork]; rfl
  have hready : (quantWork (firstJob u dec e) (s.issuing u dec)).ready = true := by rw [hwork]; rfl
  have hne : VEC_CNT_QUANT u.die.val u.inst ≠ issueCounter u dec := vecReg_ne_issueCounter hkind (by decide) dec
  refine ⟨?_, ?_, fun d hd k q hk => ?_⟩
  · rw [← hready]
    refine issue_issued h hreason ?_ ?_
    · show (quantWork (firstJob u dec e) (s.issuing u dec)).state.queues = _
      rw [hstate, State.bump_queues]
      exact hqueues.trans (State.bump_queues _ _ _)
    · show (quantWork (firstJob u dec e) (s.issuing u dec)).state.reg _ = _
      rw [hstate, reg_bump_other hne]
      exact hregs _ (issueCounter_notOfRecord hok dec)
  · rw [issue_launched h hreason]
    refine counted_of_reg ?_ (launched_reg _ _)
    show counted _ _ s (quantWork (firstJob u dec e) (s.issuing u dec)).state
    rw [hstate, ← hlen]
    refine counted_from (t := ({ w.1 with sides := x } : State)) ?_ (counted_bump _)
    exact (hregs _ (vecQuant_notOfRecord hkind hok)).trans (reg_bump_other (Ne.symm hne))
  · rw [← hsnd] at hk
    have hmem : (s.issue u dec 4 0 quantWork).mem = w.1.mem := by
      rw [issue_launched h hreason]
      refine (launched_same _ (p := .mem) nofun).trans ?_
      show (quantWork (firstJob u dec e) (s.issuing u dec)).state.mem = _
      rw [hstate, State.bump_mem]
    rw [read_of_mem hmem, read_of_mem hmem]
    exact hholds d hd k q hk

/-- Settles O41: QUANT by the blocks its values quantise to, the elementwise orders by the values they write. -/
theorem quantAndElementwise : Obligations.QuantAndElementwise := by
  unfold Obligations.QuantAndElementwise
  refine ⟨?_, ?_⟩
  · intro u dec e s h j a o g xs us static ha hc hf hdb hheld
    exact ⟨s.issue u dec 4 0 quantWork, rfl, quant_issued h ha rfl hc hf hdb hheld⟩
  · intro i u dec e vs s m j a b o g xs m2 ys hcase ha hc hfloat hf
    have hdb := isDb_of_float hfloat
    have ha' : ((s.issuing u dec).vecIn j j.vecA).why = 0 := by rw [vecIn_issuing]; exact ha
    obtain ⟨hone, htone⟩ := takeOne_issuing s u dec j
    obtain ⟨htwo, httwo⟩ := takeTwo_issuing s u dec j
    have hpair : ∀ f : Num → Num → Num,
        (((s.issuing u dec).takeVals j ((s.issuing u dec).vecIn j j.vecA)).2.zip ((s.issuing u dec).takeTwo j).2).map
          (fun e => lift2 f e.1 e.2) = (xs.zip ys).map (fun e => lift2 f e.1 e.2) := fun f => by
      rw [hone, htwo]
      rfl
    have finish : ∀ {op : Nat} {work : Job → State → Done} {s' : State}, exec i s = .next (s.issue u dec 4 op work) →
        Taken (s.issuing u dec) m s' → VecWritten u dec e o g vs m s' s (s.issue u dec 4 op work) →
        ∃ t, exec i s = .next t ∧ issued u dec e true s t ∧ valuesAt o g j.acc vs m t ∧
          counted (VEC_CNT_NAN u.die.val u.inst) (nansIn o.fmt vs) s t ∧
          onlyOperand o g (elemBytes o.fmt * vs.length) m t ∧ onlyParts [.regs, .queues, .mem, .poison] s t ∧
          onlyRegs [issueCounter u dec, VEC_CNT_NAN u.die.val u.inst] s t := fun hexec ht hw =>
      ⟨_, hexec, hw.issued, hw.values, hw.nans, hw.floatMem hdb, hw.floatParts hdb, hw.onlyRegs ht hdb⟩
    rcases hcase with ⟨rfl, h, rfl, rfl⟩ | ⟨rfl, h, hb, rfl, rfl⟩ | ⟨rfl, h, hb, rfl, rfl⟩ | ⟨rfl, h, rfl, rfl⟩
    · exact finish rfl htone (vecWritten_of_taken h (convertWork_eq ha' hone.symm) htone rfl hc hf)
    · have hb' : ((s.issuing u dec).vecIn j j.vecB).why = 0 := by rw [vecIn_issuing]; exact hb
      exact finish rfl httwo (vecWritten_of_taken h (twoWork_eq ha' hb' (hpair Num.add).symm) httwo rfl hc hf)
    · have hb' : ((s.issuing u dec).vecIn j j.vecB).why = 0 := by rw [vecIn_issuing]; exact hb
      exact finish rfl httwo (vecWritten_of_taken h (twoWork_eq ha' hb' (hpair Num.mul).symm) httwo rfl hc hf)
    · exact finish rfl htone (vecWritten_of_taken h (funcWork_eq ha' (congrArg (List.map _) hone.symm)) htone rfl hc hf)

end Sys2Proof.Machine
end

section
/-! SUPPORT. Partial records at an operand, and the reductions that write and read them (O42; R75, R80 to R82). -/

namespace Sys2Proof.Machine

/-! ### Partial records (R81) -/

theorem length_encode (h : Hoard) (source : Nat) : (h.encode source).length = 96 := by
  unfold Hoard.encode
  simp only [List.length_append, length_natLe]

/-- What ACC leaves of a Hoard: joined to the record that stands there. -/
def State.joined (s : State) (a : Nat) (acc : Bool) (h : Hoard) : Hoard :=
  if acc then (match s.partialAt a with | some x => x.join h | none => h.spoil) else h

theorem joined_false (s : State) (a : Nat) (h : Hoard) : s.joined a false h = h := rfl

theorem joined_none {s : State} {a : Nat} (hp : s.partialAt a = none) (h : Hoard) : s.joined a true h = h.spoil := by
  unfold State.joined
  rw [hp]
  rfl

theorem joined_some {s : State} {a : Nat} {x : Hoard} (hp : s.partialAt a = some x) (h : Hoard) :
    s.joined a true h = x.join h := by
  unfold State.joined
  rw [hp]
  rfl

theorem onlyBytes_putPartial (s : State) (a : Nat) (acc : Bool) (source : Nat) (h : Hoard) :
    onlyBytes a 96 s (s.putPartial a acc source h) := by
  have hw := onlyBytes_write s a ((s.joined a acc h).encode source)
  rwa [length_encode] at hw

theorem read_putPartial (s : State) (a : Nat) (acc : Bool) (source : Nat) (h : Hoard) :
    (s.putPartial a acc source h).read a 96 = (s.joined a acc h).encode source := by
  have hw := read_write_self s a ((s.joined a acc h).encode source)
  rwa [length_encode] at hw

theorem holdsRecords_of_mem {a source : Nat} {hs : List Hoard} {s t : State} (h : t.mem = s.mem)
    (hr : holdsRecords a source hs s) : holdsRecords a source hs t := fun i x hi => by rw [read_of_mem h, hr i x hi]

/-- Records written one after another, without ACC. -/
theorem holdsRecords_puts (s : State) (a source : Nat) (hs : List Hoard) :
    holdsRecords a source hs ((hs.zipIdx).foldl (fun s e => s.putPartial (a + 96 * e.2) false source e.1) s) ∧
      onlyBytes a (96 * hs.length) s ((hs.zipIdx).foldl (fun s e => s.putPartial (a + 96 * e.2) false source e.1) s) := by
  constructor
  · intro i h hi
    obtain ⟨s1, -, -, hafter⟩ := foldl_places (f := fun s e => s.putPartial (a + 96 * e.2) false source e.1)
      (W := fun i k => a + 96 * i ≤ k ∧ k < a + 96 * i + 96) (P := fun _ => True) (m := 0) (s := s)
      (fun s e k _ hk => (onlyBytes_putPartial s _ false source e.1).1 k (by omega)) (fun _ _ _ _ => trivial) trivial
      (fun i j k hij _ => cells_apart hij) hi
    rw [Nat.zero_add] at hafter
    have hself := read_putPartial s1 (a + 96 * i) false source h
    refine Eq.trans (List.map_congr_left fun x hx => hafter _ ?_) hself
    have := List.mem_range.mp hx
    omega
  · refine onlyBytes_foldl (fun s e he => ?_) s
    obtain ⟨hlt, -⟩ := mem_zipIdx_lt he
    exact onlyBytes_mono (by omega) (by omega) (onlyBytes_putPartial s _ false source e.1)

theorem holdsRecords_singleton {a source : Nat} {h : Hoard} {t : State} :
    holdsRecords a source [h] t ↔ t.read a 96 = h.encode source := by
  refine ⟨fun hr => hr 0 h rfl, fun hr i x hi => ?_⟩
  cases i with
  | zero =>
    rw [List.getElem?_cons_zero, Option.some_inj] at hi
    rw [← hi, Nat.mul_zero, Nat.add_zero, hr]
  | succ i => cases hi

/-- One record written at an operand, on every die it names. -/
theorem holdsRecord_onDies {o : Operand} {g : Nat} (ho : o.die < 4) (hfit : 32 * g + 96 ≤ tillSize) (acc : Bool)
    (source : Nat) (h : Hoard) {m s : State} (hm : SameBytes m s) {d : Nat} (hd : d ∈ o.writeDies) :
    holdsRecords (till d (32 * g)) source [m.joined (till d (32 * g)) acc h]
      (s.onDies o g (fun s a => s.putPartial a acc source h)) := by
  obtain ⟨s1, hbefore, hafter⟩ := onDies_at (f := fun s a => s.putPartial a acc source h) ho hfit
    (fun s e _ => onlyBytes_putPartial s _ acc source h) hd s
  have hjoined : s1.joined (till d (32 * g)) acc h = m.joined (till d (32 * g)) acc h := by
    unfold State.joined
    rw [hbefore.partialAt (Nat.le_refl _) (Nat.le_refl _), partialAt_of_bytes hm]
  rw [holdsRecords_singleton, hafter.read (Nat.le_refl _) (Nat.le_refl _), ← hjoined]
  exact read_putPartial s1 (till d (32 * g)) acc source h

/-! ### SUM, SUMSQ and MEANVAR (R80) -/

theorem writeHoards_record {o : Operand} (hfmt : o.fmt = 0xC) (s : State) (j : Job) (g : Nat) (h : Hoard) :
    s.writeHoards j o g [h] = s.onDies o g (fun s a => s.putPartial a j.acc (sourceOf j.unit) h) := if_pos hfmt

/-- The Hoard of a SUM or SUMSQ of values. -/
def Job.sumOf (j : Job) (fmt : Nat) (xs : List Val) : Hoard :=
  hoardOf (if j.vecImm 1 0 = 1 then xs.map (lift1 (squareOf fmt)) else xs)

/-- The two values of a MEANVAR. -/
def meanVarOf (xs : List Val) : List Val :=
  let mv := meanVar (xs.map (fun x => fp32.encode (x.getD Num.zero)))
  if xs.any Option.isNone then [none, none] else [some (fp32.decode mv.1), some (fp32.decode mv.2)]

theorem length_meanVarOf (xs : List Val) : (meanVarOf xs).length = 2 := by
  unfold meanVarOf
  dsimp only
  split
  · rfl
  · rfl

section
variable {s : State} {j : Job} {o : Operand} {g : Nat} (ha : (s.vecIn j j.vecA).why = 0) (hdest : s.vecDest j = (o, g))
  (hc : j.vecC ≠ noOperand)
include ha hdest hc

theorem reduceWork_sum (hkind : j.vecImm 1 0 < 2) (hf : destFault j o g 1 = 0) : reduceWork j s =
    done ((s.takeVals j (s.vecIn j j.vecA)).1.writeHoards j o g
      [j.sumOf (s.vecIn j j.vecA).op.fmt (s.takeVals j (s.vecIn j j.vecA)).2]) := by
  obtain ⟨rfl, rfl⟩ := Prod.mk.inj hdest
  unfold reduceWork
  dsimp only
  rw [if_neg hc, if_neg (show ¬j.vecImm 1 0 = 2 by omega), hf, firstReason_of_zero (by simp [ha]), if_neg (not_not_intro rfl),
    if_neg (show ¬j.vecImm 1 0 = 2 by omega)]
  rfl

theorem reduceWork_meanVar (hkind : j.vecImm 1 0 = 2) (hf : destFault j o g 2 = 0) : reduceWork j s =
    (s.takeVals j (s.vecIn j j.vecA)).1.vecOut s j (meanVarOf (s.takeVals j (s.vecIn j j.vecA)).2) := by
  obtain ⟨rfl, rfl⟩ := Prod.mk.inj hdest
  unfold reduceWork
  dsimp only
  rw [if_neg hc, if_pos hkind, hf, firstReason_of_zero (by simp [ha]), if_neg (not_not_intro rfl), if_pos hkind]
  rfl

end

/-! ### COMBINE (R82) -/

theorem takePartial_of_some {s : State} {a : Nat} {h : Hoard} (hp : s.partialAt a = some h) (j : Job) (lane : Nat) :
    s.takePartial j a lane = (s, h, false) := by
  unfold State.partialAt at hp
  unfold State.takePartial
  split at hp
  · rw [if_pos ‹_›, ← Option.some.inj hp]
  · rw [if_neg ‹_›]
    dsimp only
    rw [hp]

/-- Records that all read are taken as they stand. -/
theorem takePartials_of_some {s : State} {a : Nat} (j : Job) (n : Nat)
    (h : ∀ k, k < n → (s.partialAt (a + 96 * k)).isSome = true) :
    s.takePartials j a n = (s, (List.range n).map (fun k => (s.partialAt (a + 96 * k)).getD Hoard.zero), 0) := by
  unfold State.takePartials
  induction n with
  | zero => rfl
  | succ n ih =>
    obtain ⟨x, hx⟩ := Option.isSome_iff_exists.mp (h n (Nat.lt_succ_self n))
    rw [List.range_succ, List.foldl_append, ih fun k hk => h k (Nat.lt_succ_of_lt hk), List.map_append]
    simp only [List.foldl_cons, List.foldl_nil, takePartial_of_some hx, List.map_cons, List.map_nil, hx, Option.getD_some]
    rfl

theorem combineWork_eq {s : State} {j : Job} {o : Operand} {g : Nat} {hs : List Hoard} (hva : j.vecA ≠ noOperand)
    (hin : inTill (s.vecIn j j.vecA).granule 0xC (j.vecImm 11 0) = true) (hc : j.vecC ≠ noOperand) (hdest : s.vecDest j = (o, g))
    (hf : destFault j o g 1 = 0)
    (hall : ∀ k, k < j.vecImm 11 0 → (s.partialAt ((s.vecIn j j.vecA).at_ j.die + 96 * k)).isSome = true)
    (hhs : (List.range (j.vecImm 11 0)).map (fun k =>
      (s.partialAt ((s.vecIn j j.vecA).at_ j.die + 96 * k)).getD Hoard.zero) = hs) : combineWork j s =
    ((s.bump (VEC_CNT_PARTIAL j.die j.unit.inst) (j.vecImm 11 0)).bump (VEC_CNT_PARTBAD j.die j.unit.inst) 0).vecOut s j
      [(hs.foldl Hoard.join Hoard.zero).value] := by
  obtain ⟨rfl, rfl⟩ := Prod.mk.inj hdest
  unfold combineWork
  dsimp only
  rw [if_neg hva, if_neg hc, hin, hf, firstReason_of_zero (by simp), if_neg (not_not_intro rfl), takePartials_of_some j _ hall, hhs]

/-! ### Issued orders whose work ends in one state -/

section
variable {s w : State} {u : EngUnit} {dec : Bool} {cls op : Nat} {e : QEntry} {work : Job → State → Done}

/-- An order whose work ends at once and leaves the registers and the queues. -/
theorem doneWork_issued {ps : List StatePart} (h : s.starts u dec cls op e = true)
    (hwork : work (firstJob u dec e) (s.issuing u dec) = done w) (hw : onlyParts ps (s.issuing u dec) w)
    (hr : StatePart.regs ∉ ps) (hq : StatePart.queues ∉ ps) :
    issued u dec e true s (s.issue u dec cls op work) ∧
      onlyParts (.regs :: .queues :: ps) s (s.issue u dec cls op work) ∧
      onlyRegs [issueCounter u dec] s (s.issue u dec cls op work) ∧
      ∀ p : StatePart, p ≠ .queues → p.same w (s.issue u dec cls op work) := by
  have hstate : (work (firstJob u dec e) (s.issuing u dec)).state = w := congrArg Done.state hwork
  have hreason : (work (firstJob u dec e) (s.issuing u dec)).reason = 0 := congrArg Done.reason hwork
  have hready : (work (firstJob u dec e) (s.issuing u dec)).ready = true := congrArg Done.ready hwork
  have hregs : (work (firstJob u dec e) (s.issuing u dec)).state.regs = (s.issuing u dec).regs := by
    rw [hstate]
    exact hw .regs hr
  refine ⟨?_, issue_onlyParts h hreason (onlyParts_mono (by simp +contextual) (hstate ▸ hw)) (by simp) (by simp),
    issue_onlyRegs h hreason (onlyRegs_of_regs hregs) (by simp), fun p hp => ?_⟩
  · rw [← hready]
    refine issue_issued h hreason ?_ (reg_of_regs hregs _)
    show (work (firstJob u dec e) (s.issuing u dec)).state.queues = _
    rw [hstate]
    exact (hw .queues hq).trans (State.bump_queues _ _ _)
  · rw [issue_launched h hreason, ← hstate]
    exact launched_same _ hp

/-- An order whose work ends at once and changes memory alone. -/
theorem memWork_issued (h : s.starts u dec cls op e = true) (hwork : work (firstJob u dec e) (s.issuing u dec) = done w)
    (hw : onlyParts [.mem, .poison] (s.issuing u dec) w) :
    issued u dec e true s (s.issue u dec cls op work) ∧
      onlyParts [.regs, .queues, .mem, .poison] s (s.issue u dec cls op work) ∧
      onlyRegs [issueCounter u dec] s (s.issue u dec cls op work) ∧ SameBytes w (s.issue u dec cls op work) := by
  obtain ⟨hissued, hparts, hregs, hsame⟩ := doneWork_issued h hwork hw (by decide) (by decide)
  exact ⟨hissued, hparts, hregs, hsame .mem nofun, hsame .poison nofun⟩

end

theorem fit_record {j : Job} {o : Operand} {g n : Nat} (hfmt : o.fmt = 0xC) (hf : destFault j o g n = 0) :
    32 * g + 96 * n ≤ tillSize := by
  have hfit := (destFault_zero hf).2
  rw [hfmt, wholeArea_of_not_db (by decide)] at hfit
  exact hfit

theorem vecPartial_notNan (u : EngUnit) :
    VEC_CNT_PARTIAL u.die.val u.inst ≠ VEC_CNT_NAN u.die.val u.inst ∧ VEC_CNT_PARTBAD u.die.val u.inst ≠ VEC_CNT_NAN u.die.val u.inst ∧
      VEC_CNT_PARTBAD u.die.val u.inst ≠ VEC_CNT_PARTIAL u.die.val u.inst := by
  unfold VEC_CNT_PARTIAL VEC_CNT_NAN VEC_CNT_PARTBAD vecReg
  omega

/-- Settles O42: the record of a sum, the two values of a MEANVAR, and the value that a COMBINE reads out. -/
theorem reductionsAreExact : Obligations.ReductionsAreExact := by
  unfold Obligations.ReductionsAreExact
  refine ⟨?_, ?_⟩
  · intro u dec e s h j a o g m xs x mv ha hc
    have ha' : ((s.issuing u dec).vecIn j j.vecA).why = 0 := by rw [vecIn_issuing]; exact ha
    have hdest : (s.issuing u dec).vecDest j = (o, g) := vecDest_of_mem (mem_issuing s u dec) j
    obtain ⟨hone, htone⟩ := takeOne_issuing s u dec j
    refine ⟨fun hkind hfmt hf => ?_, fun hkind hfmt hf => ?_⟩
    · have hwork := reduceWork_sum ha' hdest hc hkind hf
      rw [writeHoards_record hfmt, hone, vecIn_issuing] at hwork
      rw [vecIn_issuing] at htone
      have hparts : onlyParts [.mem, .poison] ((s.issuing u dec).takeVals j (s.vecIn j j.vecA)).1 _ :=
        onlyParts_onDies (o := o) (g := g) (f := fun t k => t.putPartial k j.acc (sourceOf j.unit) x)
          (fun _ _ _ h => keeps_putPartial (Has.self.sub rfl) h) _
      obtain ⟨hissued, hp, -, hbytes⟩ := memWork_issued h hwork (onlyParts_trans htone.parts hparts)
      refine ⟨_, rfl, hissued, hp, fun d hd => ?_⟩
      have hrecord := holdsRecord_onDies (die_opnd s _ _) (by have := fit_record hfmt hf; omega) j.acc (sourceOf u) x
        htone.bytes hd
      rw [holdsRecords_singleton] at hrecord ⊢
      refine (read_of_mem hbytes.1 _ _).trans (hrecord.trans ?_)
      refine congrArg (fun y : Hoard => y.encode (sourceOf u)) ?_
      cases j.acc with
      | false => exact joined_false m _ x
      | true =>
        cases hold : m.partialAt (till d (32 * g)) with
        | none => exact joined_none hold x
        | some y => exact joined_some hold x
    · have hwork := reduceWork_meanVar ha' hdest hc hkind (by simpa using hf)
      rw [hone] at hwork
      have hw := vecWritten_of_taken (o := o) (g := g) h (fun _ => hwork) htone rfl hc (by rw [length_meanVarOf]; exact hf)
      exact ⟨_, rfl, hw.issued, hw.floatParts (by rw [hfmt]; rfl), hw.values⟩
  · intro u dec e s h j a o g n hs hva hin hc hf hall hfloat
    obtain ⟨-, haccepts, -⟩ := starts_parts h
    have hkind := vec_of_accepts haccepts
    have hbytes : SameBytes s (s.issuing u dec) := sameBytes_bump s _ 1
    have hdest : (s.issuing u dec).vecDest j = (o, g) := vecDest_of_mem (mem_issuing s u dec) j
    obtain ⟨hp, hb, hbp⟩ := vecPartial_notNan u
    have hp1 : VEC_CNT_PARTIAL u.die.val u.inst ≠ issueCounter u dec := vecReg_ne_issueCounter hkind (by decide) dec
    have hb1 : VEC_CNT_PARTBAD u.die.val u.inst ≠ issueCounter u dec := vecReg_ne_issueCounter hkind (by decide) dec
    have hwork := combineWork_eq (s := s.issuing u dec) (j := j) (hs := hs) hva (by rw [vecIn_issuing]; exact hin) hc hdest hf
      (fun k hk => by rw [vecIn_issuing, partialAt_of_bytes hbytes]; exact hall k hk)
      (by simp only [vecIn_issuing, partialAt_of_bytes hbytes]; rfl)
    have hl : Leads (maskOf [.regs]) (s.issuing u dec) (((s.issuing u dec).bump (VEC_CNT_PARTIAL u.die.val u.inst) n).bump
        (VEC_CNT_PARTBAD u.die.val u.inst) 0) := keeps_bump (Has.self.sub rfl) (keeps_bump (Has.self.sub rfl) Leads.self)
    have hw := vecWritten (o := o) (g := g) (m := s) h hwork
      ((hbytes.trans (sameBytes_bump _ _ _)).trans (sameBytes_bump _ _ _)) (onlyParts_mono (by decide) hl.onlyParts)
      (fun r hr => by
        rcases hr with rfl | rfl
        · exact (reg_bump_other hb1).trans (reg_bump_other hp1)
        · exact (reg_bump_other hb).trans (reg_bump_other hp)) rfl hc hf
    refine ⟨_, rfl, hw.issued, hw.values, ?_, hw.floatParts (isDb_of_float hfloat)⟩
    refine counted_of_reg ?_ (hw.floatRegs (isDb_of_float hfloat) _ (by simpa using hp))
    refine counted_of_reg ?_ (reg_bump_other hbp)
    exact counted_from (reg_bump_other (Ne.symm hp1)) (counted_bump (s.issuing u dec))

end Sys2Proof.Machine
end

section
/-! SUPPORT. NORM, ROPE, DGRAD, the combine of attention partials and the norm watch (O43; R86, R175, R188, R205 to R207). -/

namespace Sys2Proof.Machine

/-! ### Combining partials (R188) -/

theorem readPart_of_bytes {s t : State} (h : SameBytes s t) (a : Nat) : t.readPart a = s.readPart a := by
  unfold State.readPart
  simp only [readNat_of_mem h.1, bad_of_poison h.2]

/-- One partial added to the weight sum and to the elements. -/
def combineStep (m : Nat) (c : Nat × List Nat) (p : AttnPart) : Nat × List Nat :=
  let a := if p.empty then 0 else fnVal 1 (fp32.sub p.m m)
  (fp32.add c.1 (fp32.mul a p.l), (c.2.zipIdx).map (fun e => fp32.add e.1 (fp32.mul a (p.o.getD e.2 0))))

theorem length_combineSteps (m : Nat) (ps : List AttnPart) (c : Nat × List Nat) :
    (ps.foldl (combineStep m) c).2.length = c.2.length :=
  List.foldlRecOn (motive := fun x : Nat × List Nat => x.2.length = c.2.length) _ _ rfl fun x hx p _ => by
    unfold combineStep
    rw [List.length_map, List.length_zipIdx, hx]

/-- A combine has as many elements as a head. -/
theorem length_combineParts (d : Nat) (ps : List AttnPart) : (combineParts d ps).1.length = d := by
  have hfold : (ps.foldl (combineStep (fp32MaxOf (ps.map (fun p => p.m)))) (0, List.replicate d 0)).2.length = d :=
    (length_combineSteps _ ps _).trans List.length_replicate
  unfold combineParts
  dsimp only
  split
  · exact List.length_replicate
  · split
    · exact List.length_replicate
    · rw [List.length_map]
      exact hfold

/-! ### ACOMB (R188, R206) -/

/-- The granule of the partials of query head `h`. -/
def State.acombPlace (s : State) (j : Job) (h : Nat) : Nat :=
  (s.opnd j j.vecA).granule + ((s.jobRow j 21 18 + j.vecTok) * (s.groupSize j * s.kvCount) + h) * 4 * 32 * 18

/-- The partials of query head `h`, in ascending run and then die. -/
def State.acombParts (s : State) (j : Job) (h : Nat) : List AttnPart :=
  (List.range (j.vecImm 7 0)).map (fun n => s.readPart (till ((s.opnd j j.vecA).readDie j.die)
    (32 * (s.acombPlace j h + ((n % 4) * 32 + n / 4) * 18))))

/-- What an ACOMB makes of query head `h`: its poison and its combine. -/
def State.acombOut (s : State) (j : Job) (h : Nat) : Nat × Bool × List Nat × Nat × Nat :=
  (h, (s.acombParts j h).any (fun p => p.poison), combineParts s.headDim (s.acombParts j h))

/-- The query heads of the order's key/value head. -/
def State.acombHeads (s : State) (j : Job) : List Nat :=
  (List.range (s.groupSize j)).map (fun i => j.vecImm 15 8 * s.groupSize j + i)

/-- The values of a combined head. -/
def acombValues (d : Nat) (e : Nat × Bool × List Nat × Nat × Nat) : List Val :=
  if e.2.1 then List.replicate d none else e.2.2.1.map (fun c => some (fp32.decode c))

/-- Values of one head written behind those of the heads before it. -/
def State.putHead (s : State) (o : Operand) (g : Nat) (acc : Bool) (first : Nat) (vs : List Val) : State :=
  s.onDies o g (fun s x => (vs.zipIdx).foldl (fun s y => s.putFloat x o.fmt acc (first + y.2) y.1) s)

/-- An ACOMB writes one head. -/
def State.acombHead (j : Job) (o : Operand) (g d : Nat) (s : State) (e : Nat × Bool × List Nat × Nat × Nat) : State :=
  let vs := acombValues d e
  let s := s.bump (VEC_CNT_NAN j.die j.unit.inst) (nansIn o.fmt vs)
  if isDb o.fmt then
    let q := s.quantAll j (o.fmt + 1) none none vs
    q.1.onDies o g (fun s x => (q.2.zipIdx).foldl (fun s y =>
      s.putBlock x (o.fmt + 1) o.len (e.1 * s.headBlocks + y.2) y.1) s)
  else s.putHead o g j.acc (e.1 * d) vs

/-- An ACOMB before it writes: its partials counted, and the row of a lost chunk marked. -/
def State.acombStart (s : State) (j : Job) : State :=
  let s' := s.bump (VEC_CNT_COMBINE j.die j.unit.inst) (j.vecImm 7 0 * s.groupSize j)
  if (s.acombHeads j).any (fun h => (s.acombParts j h).any (fun p => p.lost)) then
    s'.markRows j.prog j.row (fun w => { w with lostChunk := true }) else s'

theorem acombWork_eq {s : State} {j : Job} {o : Operand} {g : Nat} (hdest : s.vecDest j = (o, g)) (ha : j.vecA ≠ noOperand)
    (hc : j.vecC ≠ noOperand) (hb : j.vecB = noOperand)
    (hplace : 32 * s.acombPlace j (j.vecImm 15 8 * s.groupSize j + s.groupSize j) ≤ tillSize)
    (hf : destFault j o g ((j.vecImm 15 8 * s.groupSize j + s.groupSize j) * s.headDim) = 0) :
    acombWork j s = done (((s.acombHeads j).map (s.acombOut j)).foldl (State.acombHead j o g s.headDim) (s.acombStart j)) := by
  obtain ⟨rfl, rfl⟩ := Prod.mk.inj hdest
  have hstats : (s.progKind j.prog j.die == 2 && j.vecB != noOperand) = false := by simp [hb]
  unfold State.acombPlace at hplace
  unfold acombWork
  dsimp only
  rw [hstats, hf, if_neg (Nat.not_lt.mpr hplace), firstReason_of_zero (by simp [ha, hc]),
    if_neg (not_not_intro rfl)]
  unfold State.acombStart State.acombHeads
  simp only [List.map_map, List.any_map, Bool.false_eq_true, if_false]
  rfl

/-! ### What a combined head leaves (R188) -/

theorem putFloat_from (s : State) (a fmt : Nat) (acc : Bool) (first i : Nat) (v : Val) :
    s.putFloat a fmt acc (first + i) v = s.putFloat (a + elemBytes fmt * first) fmt acc i v := by
  unfold State.putFloat
  simp only [Nat.mul_add, Nat.add_assoc]

theorem AgreeOn.sub {a n b m : Nat} {s t : State} (h : AgreeOn a n s t) (hlo : a ≤ b) (hhi : b + m ≤ a + n) : AgreeOn b m s t :=
  ⟨fun k h1 h2 => h.byte k (by omega) (by omega), fun g h1 h2 => h.poison g (by omega) (by omega)⟩

/-- A head written stands on every die, behind the heads before it. -/
theorem holdsFloats_putHead {o : Operand} {g first : Nat} {vs : List Val} (ho : o.die < 4)
    (hfit : 32 * g + elemBytes o.fmt * (first + vs.length) ≤ tillSize) (s : State) {d : Nat} (hd : d ∈ o.writeDies) :
    holdsFloats (till d (32 * g) + elemBytes o.fmt * first) o.fmt vs (s.putHead o g false first vs) := by
  have hlocal : ∀ (s : State) (a : Nat), onlyBytes a (elemBytes o.fmt * (first + vs.length)) s
      ((vs.zipIdx).foldl (fun s y => s.putFloat a o.fmt false (first + y.2) y.1) s) := fun s a => by
    simp only [putFloat_from]
    refine onlyBytes_mono (by omega) ?_ (onlyBytes_floats s _ o.fmt false vs)
    rw [Nat.mul_add]
    omega
  obtain ⟨s1, -, hafter⟩ := onDies_at (f := fun s x => (vs.zipIdx).foldl (fun s y => s.putFloat x o.fmt false (first + y.2) y.1) s)
    ho hfit (fun s e _ => hlocal s _) hd s
  refine holdsFloats_of_agree (hafter.sub (by omega) (by rw [Nat.mul_add]; omega)) ?_
  simp only [putFloat_from]
  exact holdsFloats_floats s1 _ o.fmt vs

theorem onlyParts_putHead (s : State) (o : Operand) (g : Nat) (acc : Bool) (first : Nat) (vs : List Val) :
    onlyParts [.mem, .poison] s (s.putHead o g acc first vs) :=
  onlyParts_onDies (fun _ _ _ h => keeps_foldl (fun _ h _ => keeps_putFloat (Has.self.sub rfl) h) h) s

theorem acombHead_float {o : Operand} (hdb : isDb o.fmt = false) (j : Job) (g d : Nat) (s : State)
    (e : Nat × Bool × List Nat × Nat × Nat) : State.acombHead j o g d s e =
      (s.bump (VEC_CNT_NAN j.die j.unit.inst) (nansIn o.fmt (acombValues d e))).putHead o g j.acc (e.1 * d) (acombValues d e) := by
  unfold State.acombHead
  exact if_neg (by rw [hdb]; exact Bool.false_ne_true)

/-- A head written changes the count of NaNs and what records change, no other register, and no queue. -/
theorem acombHead_keeps (j : Job) (o : Operand) (g d : Nat) (s : State) (e : Nat × Bool × List Nat × Nat × Nat) :
    onlyRegs (VEC_CNT_NAN j.die j.unit.inst :: recordRegs) s (State.acombHead j o g d s e) ∧
      (State.acombHead j o g d s e).queues = s.queues := by
  unfold State.acombHead
  extract_lets vs counted q
  have hregs : onlyRegs (VEC_CNT_NAN j.die j.unit.inst :: recordRegs) s counted := onlyRegs_bump (by simp) (onlyRegs_refl _ s)
  have hquant : onlyRegs recordRegs counted q.1 := onlyRegs_quantAll counted j _ none none vs
  have hqueues : q.1.queues = s.queues :=
    ((keeps_quantAll Has.self Leads.self).same .queues rfl).trans (State.bump_queues s _ _)
  have hcounted : counted.queues = s.queues := State.bump_queues _ _ _
  clear_value q counted
  split
  · have hput : onlyParts [.mem, .poison] q.1 (q.1.onDies o g (fun s x => (q.2.zipIdx).foldl (fun s y =>
        s.putBlock x (o.fmt + 1) o.len (e.1 * s.headBlocks + y.2) y.1) s)) :=
      onlyParts_onDies (fun _ _ _ h => keeps_foldl (fun _ h _ => keeps_putBlock (Has.self.sub rfl) h) h) q.1
    refine ⟨onlyRegs_trans hregs (onlyRegs_trans (onlyRegs_mono (by simp +contextual) hquant) (onlyRegs_of_regs ?_)), ?_⟩
    · exact hput .regs (by decide)
    · exact Eq.trans (hput .queues (by decide)) hqueues
  · have hput := onlyParts_putHead counted o g j.acc (e.1 * d) vs
    exact ⟨onlyRegs_trans hregs (onlyRegs_of_regs (hput .regs (by decide))), Eq.trans (hput .queues (by decide)) hcounted⟩

theorem acombHeads_keep (j : Job) (o : Operand) (g d : Nat) (l : List (Nat × Bool × List Nat × Nat × Nat)) (s : State) :
    onlyRegs (VEC_CNT_NAN j.die j.unit.inst :: recordRegs) s (l.foldl (State.acombHead j o g d) s) ∧
      (l.foldl (State.acombHead j o g d) s).queues = s.queues :=
  List.foldlRecOn (motive := fun t : State => onlyRegs (VEC_CNT_NAN j.die j.unit.inst :: recordRegs) s t ∧ t.queues = s.queues) _ _
    ⟨onlyRegs_refl _ s, rfl⟩ fun t ht e _ =>
      ⟨onlyRegs_trans ht.1 (acombHead_keeps j o g d t e).1, (acombHead_keeps j o g d t e).2.trans ht.2⟩

theorem acombStart_keeps (s : State) (j : Job) : (∀ a, a ≠ VEC_CNT_COMBINE j.die j.unit.inst → (s.acombStart j).reg a = s.reg a) ∧
    counted (VEC_CNT_COMBINE j.die j.unit.inst) (j.vecImm 7 0 * s.groupSize j) s (s.acombStart j) ∧
      (s.acombStart j).queues = s.queues := by
  have hregs : (s.acombStart j).regs = (s.bump (VEC_CNT_COMBINE j.die j.unit.inst) (j.vecImm 7 0 * s.groupSize j)).regs ∧
      (s.acombStart j).queues = (s.bump (VEC_CNT_COMBINE j.die j.unit.inst) (j.vecImm 7 0 * s.groupSize j)).queues := by
    unfold State.acombStart
    dsimp only
    split
    · exact ⟨(keeps_markRows Has.self Leads.self).same .regs rfl, (keeps_markRows Has.self Leads.self).same .queues rfl⟩
    · exact ⟨rfl, rfl⟩
  exact ⟨fun a ha => (reg_of_regs hregs.1 a).trans (reg_bump_other (Ne.symm ha)),
    counted_of_reg (counted_bump s) (reg_of_regs hregs.1 _), hregs.2.trans (State.bump_queues _ _ _)⟩

theorem acombStart_rows (s : State) (j : Job) : (s.acombStart j).serve.rows =
    if (s.acombHeads j).any (fun h => (s.acombParts j h).any (fun p => p.lost)) then
      mapRows j.prog j.row (fun w => { w with lostChunk := true }) 0 s.serve.rows else s.serve.rows := by
  unfold State.acombStart
  dsimp only
  split
  · unfold State.markRows
    dsimp only
    rw [State.bump_serve]
  · rw [State.bump_serve]

/-! ### The norm watch (R86) -/

/-- A Hoard joined to one sum of the norm watch. -/
def State.watched (s : State) (k : Nat) (h : Hoard) : State := { s with watch := upd Hoard.zero s.watch k (fun w => w.join h) }

theorem watchWork_eq {s : State} {j : Job} {xs : List Val} (ha : (s.vecIn j j.vecA).why = 0)
    (hxs : (s.takeVals j (s.vecIn j j.vecA)).2 = xs) : watchWork j s =
    done ((s.takeVals j (s.vecIn j j.vecA)).1.watched (2 * j.layer + j.vecImm 0 0)
      (hoardOf (xs.map (lift1 (squareOf (s.vecIn j j.vecA).op.fmt))))) := by
  subst hxs
  unfold watchWork
  dsimp only
  rw [if_neg (not_not_intro ha)]
  rfl

/-- What a WATCH leaves. -/
theorem watch_issued {s : State} {u : EngUnit} {dec : Bool} {e : QEntry} (h : s.starts u dec 4 0xA e = true)
    (ha : (s.vecIn (firstJob u dec e) (firstJob u dec e).vecA).why = 0) :
    let j := firstJob u dec e
    let a := s.vecIn j j.vecA
    issued u dec e true s (s.issue u dec 4 0xA watchWork) ∧
      (s.issue u dec 4 0xA watchWork).watch = upd Hoard.zero s.watch (2 * e.layer + j.vecImm 0 0)
        (fun w => w.join (hoardOf ((s.takeVals j a).2.map (lift1 (squareOf a.op.fmt))))) ∧
      onlyParts [.regs, .queues, .watch, .mem, .poison] s (s.issue u dec 4 0xA watchWork) ∧
      onlyRegs [issueCounter u dec] s (s.issue u dec 4 0xA watchWork) := by
  intro j a
  obtain ⟨hone, htone⟩ := takeOne_issuing s u dec j
  have hwork := watchWork_eq (s := s.issuing u dec) (j := j) (by rw [vecIn_issuing]; exact ha) hone
  rw [vecIn_issuing] at hwork htone
  have hwatch : ((s.issuing u dec).takeVals j (s.vecIn j j.vecA)).1.watch = s.watch :=
    Eq.trans (htone.parts .watch (by decide)) (State.bump_watch _ _ _)
  generalize ((s.issuing u dec).takeVals j (s.vecIn j j.vecA)).1 = s' at hwork htone hwatch
  have hparts : onlyParts [.watch, .mem, .poison] (s.issuing u dec) (s'.watched (2 * j.layer + j.vecImm 0 0)
      (hoardOf ((s.takeVals j a).2.map (lift1 (squareOf a.op.fmt))))) := fun p hp => by
    simp only [List.mem_cons, List.not_mem_nil, or_false, not_or] at hp
    obtain ⟨h1, h2, h3⟩ := hp
    refine StatePart.same_trans (htone.parts p (by simp [h2, h3])) ?_
    cases p
    case watch => exact absurd rfl h1
    all_goals rfl
  obtain ⟨hissued, hp, hr, hsame⟩ := doneWork_issued h hwork hparts (by decide) (by decide)
  refine ⟨hissued, ?_, hp, hr⟩
  have hw : (s.issue u dec 4 0xA watchWork).watch = _ := hsame .watch nofun
  rw [hw]
  unfold State.watched
  dsimp only
  rw [hwatch]
  rfl

/-! ### ACOMB issued (R188) -/

section
variable (s : State) (u : EngUnit) (dec : Bool) (j : Job)

theorem groupSize_issuing : (s.issuing u dec).groupSize j = s.groupSize j := layEnt_of_mem (mem_issuing s u dec) _ _ _

theorem kvCount_of_mem {s t : State} (h : t.mem = s.mem) : t.kvCount = s.kvCount := by
  unfold State.kvCount State.geo
  rw [chr_of_mem h]

theorem acombPlace_issuing (h : Nat) : (s.issuing u dec).acombPlace j h = s.acombPlace j h := by
  unfold State.acombPlace
  rw [opnd_of_mem (mem_issuing s u dec), jobRow_of_mem (mem_issuing s u dec), groupSize_issuing,
    kvCount_of_mem (mem_issuing s u dec)]

theorem acombParts_issuing (h : Nat) : (s.issuing u dec).acombParts j h = s.acombParts j h := by
  unfold State.acombParts
  have hread : ∀ a, (s.issuing u dec).readPart a = s.readPart a := readPart_of_bytes (sameBytes_bump s (issueCounter u dec) 1)
  simp only [acombPlace_issuing, opnd_of_mem (mem_issuing s u dec), hread]

theorem acombHeads_alone (h : s.groupSize j = 1) : s.acombHeads j = [j.vecImm 15 8] := by
  unfold State.acombHeads
  rw [h]
  simp

end

/-- The values of a head none of whose partials is poison. -/
theorem acombValues_sound {s : State} {j : Job} {h d : Nat} (hp : (s.acombParts j h).any (fun p => p.poison) = false) :
    acombValues d (s.acombOut j h) = (combineParts s.headDim (s.acombParts j h)).1.map (fun c => some (fp32.decode c)) := by
  unfold acombValues State.acombOut
  exact if_neg (by rw [hp]; exact Bool.false_ne_true)

section
variable {s : State} {u : EngUnit} {dec : Bool} {e : QEntry} {o : Operand} {g : Nat}

/-- The state that an ACOMB's work leaves. -/
def State.acombined (s : State) (j : Job) (o : Operand) (g : Nat) : State :=
  ((s.acombHeads j).map (s.acombOut j)).foldl (State.acombHead j o g s.headDim) (s.acombStart j)

theorem acombWork_issued (h : s.starts u dec 4 9 e = true)
    (hwork : acombWork (firstJob u dec e) (s.issuing u dec) = done ((s.issuing u dec).acombined (firstJob u dec e) o g)) :
    issued u dec e true s (s.issue u dec 4 9 acombWork) ∧
      counted (VEC_CNT_COMBINE u.die.val u.inst) ((firstJob u dec e).vecImm 7 0 * s.groupSize (firstJob u dec e)) s
        (s.issue u dec 4 9 acombWork) ∧
      ∀ p : StatePart, p ≠ .queues → p.same ((s.issuing u dec).acombined (firstJob u dec e) o g) (s.issue u dec 4 9 acombWork) := by
  obtain ⟨-, haccepts, -⟩ := starts_parts h
  obtain ⟨-, -, hok, -⟩ := starts_free h
  have hkind := vec_of_accepts haccepts
  have hn : VEC_CNT_COMBINE u.die.val u.inst ≠ VEC_CNT_NAN u.die.val u.inst := by
    unfold VEC_CNT_COMBINE VEC_CNT_NAN vecReg
    omega
  have hi : VEC_CNT_COMBINE u.die.val u.inst ≠ issueCounter u dec := vecReg_ne_issueCounter hkind (by decide) dec
  have hni : VEC_CNT_NAN u.die.val u.inst ≠ issueCounter u dec := vecReg_ne_issueCounter hkind (by decide) dec
  have hr : VEC_CNT_COMBINE u.die.val u.inst ∉ recordRegs := by
    rw [VEC_CNT_COMBINE, vecReg_eq_unitReg hkind]
    exact unitReg_notOfRecord u _ hok (by decide)
  obtain ⟨hstart, hcount, hq⟩ := acombStart_keeps (s.issuing u dec) (firstJob u dec e)
  obtain ⟨hregs, hqueues⟩ := acombHeads_keep (firstJob u dec e) o g (s.issuing u dec).headDim
    (((s.issuing u dec).acombHeads (firstJob u dec e)).map ((s.issuing u dec).acombOut (firstJob u dec e)))
    ((s.issuing u dec).acombStart (firstJob u dec e))
  change onlyRegs _ _ ((s.issuing u dec).acombined (firstJob u dec e) o g) at hregs
  change ((s.issuing u dec).acombined (firstJob u dec e) o g).queues = _ at hqueues
  generalize (s.issuing u dec).acombined (firstJob u dec e) o g = w at *
  have hstate : (acombWork (firstJob u dec e) (s.issuing u dec)).state = w := congrArg Done.state hwork
  have hreason : (acombWork (firstJob u dec e) (s.issuing u dec)).reason = 0 := congrArg Done.reason hwork
  have hready : (acombWork (firstJob u dec e) (s.issuing u dec)).ready = true := congrArg Done.ready hwork
  have hsame : ∀ p : StatePart, p ≠ .queues → p.same w (s.issue u dec 4 9 acombWork) := fun p hp => by
    rw [issue_launched h hreason, ← hstate]
    exact launched_same _ hp
  refine ⟨?_, ?_, hsame⟩
  · rw [← hready]
    refine issue_issued h hreason ?_ ?_
    · show (acombWork (firstJob u dec e) (s.issuing u dec)).state.queues = _
      rw [hstate, hqueues, hq]
      exact State.bump_queues _ _ _
    · show (acombWork (firstJob u dec e) (s.issuing u dec)).state.reg _ = _
      rw [hstate, hregs _ ?_, hstart _ (Ne.symm hi)]
      · rfl
      · rw [List.mem_cons, not_or]
        exact ⟨Ne.symm hni, issueCounter_notOfRecord hok dec⟩
  · rw [groupSize_issuing] at hcount
    refine counted_of_reg ?_ (reg_of_regs (hsame .regs nofun) _)
    refine counted_of_reg (counted_from (reg_bump_other (Ne.symm hi)) hcount) (hregs _ ?_)
    rw [List.mem_cons, not_or]
    exact ⟨hn, hr⟩

/-- What an ACOMB leaves of a head that is alone in its group. -/
theorem acombined_alone {j : Job} (hg : s.groupSize j = 1) (hdb : isDb o.fmt = false) (ho : o.die < 4)
    (hf : destFault j o g ((j.vecImm 15 8 * s.groupSize j + s.groupSize j) * s.headDim) = 0) :
    (∀ d, d ∈ o.writeDies → j.acc = false → (s.acombParts j (j.vecImm 15 8)).any (fun p => p.poison) = false →
      holdsFloats (till d (32 * g) + elemBytes o.fmt * (j.vecImm 15 8 * s.headDim)) o.fmt
        ((combineParts s.headDim (s.acombParts j (j.vecImm 15 8))).1.map (fun c => some (fp32.decode c))) (s.acombined j o g)) ∧
      (s.acombined j o g).serve.rows = (if (s.acombParts j (j.vecImm 15 8)).any (fun p => p.lost) then
        mapRows j.prog j.row (fun w => { w with lostChunk := true }) 0 s.serve.rows else s.serve.rows) := by
  have hone : s.acombined j o g = ((s.acombStart j).bump (VEC_CNT_NAN j.die j.unit.inst) (nansIn o.fmt
      (acombValues s.headDim (s.acombOut j (j.vecImm 15 8))))).putHead o g j.acc (j.vecImm 15 8 * s.headDim)
      (acombValues s.headDim (s.acombOut j (j.vecImm 15 8))) := by
    unfold State.acombined
    rw [acombHeads_alone s j hg, List.map_cons, List.map_nil, List.foldl_cons, List.foldl_nil, acombHead_float hdb]
    rfl
  constructor
  · intro d hd hacc hp
    rw [hone, hacc, acombValues_sound hp]
    refine holdsFloats_putHead ho ?_ _ hd
    have hfit := (destFault_zero hf).2
    rw [wholeArea_of_not_db hdb, hg, Nat.mul_one, Nat.add_mul, Nat.one_mul] at hfit
    rwa [List.length_map, length_combineParts]
  · have hserve : (s.acombined j o g).serve = (s.acombStart j).serve := by
      rw [hone]
      exact Eq.trans (onlyParts_putHead _ o g _ _ _ .serve (by decide)) (State.bump_serve _ _ _)
    rw [hserve, acombStart_rows, acombHeads_alone s j hg, List.any_cons, List.any_nil, Bool.or_false]

end

/-- Settles O43: the values each order writes, the head that ACOMB combines, and the sum that WATCH adds to. -/
theorem normRopeAndPartials : Obligations.NormRopeAndPartials := by
  unfold Obligations.NormRopeAndPartials
  refine ⟨?_, ?_, ?_⟩
  · intro i u dec e vs s m j a b z o g xs m2 ys r turned hcase ha hc hf
    have hmem := mem_issuing s u dec
    have hwhy : ∀ {k : Nat}, (s.vecIn j k).why = 0 → ((s.issuing u dec).vecIn j k).why = 0 := fun hk =>
      (congrArg VecIn.why (vecIn_issuing s u dec j _)).trans hk
    have ha' := hwhy ha
    obtain ⟨hone, htone⟩ := takeOne_issuing s u dec j
    obtain ⟨htwo, httwo⟩ := takeTwo_issuing s u dec j
    have finish : ∀ {op : Nat} {work : Job → State → Done} {s' : State}, exec i s = .next (s.issue u dec 4 op work) →
        VecWritten u dec e o g vs m s' s (s.issue u dec 4 op work) →
        ∃ t, exec i s = .next t ∧ issued u dec e true s t ∧ valuesAt o g j.acc vs m t ∧
          (fmtFloat o.fmt = true → onlyParts [.regs, .queues, .mem, .poison] s t ∧
            counted (VEC_CNT_NAN u.die.val u.inst) (nansIn o.fmt vs) s t) ∧ t.watch = s.watch ∧ t.folio = s.folio :=
      fun hexec hw => ⟨_, hexec, hw.issued, hw.values, fun hfloat => ⟨hw.floatParts (isDb_of_float hfloat), hw.nans⟩,
        hw.parts .watch (by decide), hw.parts .folio (by decide)⟩
    rcases hcase with ⟨rfl, h, hb, hz, rfl, rfl⟩ | ⟨rfl, h, rfl, hvs⟩ | ⟨rfl, h, hb, rfl, hvs⟩
    · refine finish rfl (vecWritten_of_taken h (normWork_eq ha' (hwhy hb) (hwhy hz) ?_) httwo rfl hc hf)
      · show _ = (((s.issuing u dec).takeVals j ((s.issuing u dec).vecIn j j.vecA)).2.zip ((s.issuing u dec).takeTwo j).2).map
          (fun e => lift2 (fp32Op fp32.mul) (lift2 (fp32Op fp32.mul) e.1 e.2)
            ((s.issuing u dec).normFactor ((s.issuing u dec).takeTwo j).1 j))
        rw [hone, htwo, normFactor_issuing]
        rfl
    · refine finish rfl (vecWritten_of_taken h (ropeWork_eq ha' ?_) htone rfl hc hf)
      show vs = (s.issuing u dec).ropeValues j ((s.issuing u dec).takeVals j ((s.issuing u dec).vecIn j j.vecA)).2
      rw [hone, ropeValues_issuing]
      exact hvs
    · refine finish rfl (vecWritten_of_taken h (dgradWork_eq ha' (hwhy hb) ?_) httwo rfl hc hf)
      show vs = (s.issuing u dec).dgradValues j ((s.issuing u dec).takeVals j ((s.issuing u dec).vecIn j j.vecA)).2
        ((s.issuing u dec).takeTwo j).2
      rw [hone, htwo, dgradValues_issuing]
      exact hvs
  · intro u dec e s h j a o k kvh gs q g place parts ha hc hb hplace hf
    have hdest : (s.issuing u dec).vecDest j = (o, g) := vecDest_of_mem (mem_issuing s u dec) j
    have hf' : destFault j o g ((j.vecImm 15 8 * (s.issuing u dec).groupSize j + (s.issuing u dec).groupSize j) *
        (s.issuing u dec).headDim) = 0 := by
      rw [groupSize_issuing, headDim_of_mem (mem_issuing s u dec)]
      exact hf
    have hwork := acombWork_eq (s := s.issuing u dec) (j := j) hdest ha hc hb (by
      rw [acombPlace_issuing, groupSize_issuing]
      exact hplace) hf'
    obtain ⟨hissued, hcount, hsame⟩ := acombWork_issued (o := o) (g := g) h hwork
    refine ⟨_, rfl, hissued, hcount, fun hgs hfloat => ?_⟩
    obtain ⟨hheads, hrows⟩ := acombined_alone (s := s.issuing u dec) (j := j) (by rw [groupSize_issuing]; exact hgs)
      (isDb_of_float hfloat) (die_opnd s _ _) hf'
    rw [acombParts_issuing, headDim_of_mem (mem_issuing s u dec)] at hheads
    rw [acombParts_issuing] at hrows
    refine ⟨fun d hd hacc hp i x hi => ?_, ?_⟩
    · rw [read_of_mem (hsame .mem nofun)]
      exact hheads d hd hacc hp i x hi
    · have hserve : (s.issue u dec 4 9 acombWork).serve = _ := hsame .serve nofun
      rw [hserve, hrows]
      rfl
  · intro u dec e s h j a ha
    exact ⟨_, rfl, watch_issued h ha⟩

end Sys2Proof.Machine
end

section
/-! SUPPORT. What is read of a tile's weights, and the digital rung (O40; R141 to R152, R225). -/

namespace Sys2Proof.Machine

/-! ### What a tile's weights depend on -/

/-- Two states hold the same memory, poison, directory and tiles. -/
structure SameWeights (s t : State) : Prop where
  bytes : SameBytes s t
  dir : t.dir = s.dir
  tiles : t.tiles = s.tiles

theorem sameWeights_bump (s : State) (a n : Nat) : SameWeights s (s.bump a n) := ⟨sameBytes_bump s a n, State.bump_dir _ _ _, State.bump_tiles _ _ _⟩

/-- The side value of withheld record `n`, its channel found in a list, from a vector at key `k`. -/
def State.sideRow (s : State) (t k : Nat) (list : List Nat) (first n : Nat) : Option (Nat × BitVec 16 × Bool) :=
  let r := s.withheldRow t n
  let p := list.idxOf (first + r)
  if p < list.length then some (r, BitVec.ofNat 16 (s.readNat (k + 2 * p) 2), s.bad (k + 2 * p) 2) else none

/-- The side values of a tile's withheld rows whose vector starts at key `k`. -/
def State.sideRows (s : State) (t k : Nat) : List (Nat × BitVec 16 × Bool) :=
  (List.range (s.withheldCount t)).filterMap
    (s.sideRow t k (s.withheldList (s.dirOf t).lay (inputKind (s.dirOf t).matrix)) ((s.dirOf t).rowBlk.toNat * 1024))

theorem sideValues_zero {s : State} {t key : Nat} (h : look 0 s.sides key = 0) : s.sideValues t key = ([], false) := by
  unfold State.sideValues
  rw [h]

theorem sideValues_succ {s : State} {t key k : Nat} (h : look 0 s.sides key = k + 1) :
    s.sideValues t key = ((s.sideRows t k).map (fun v => (v.1, v.2.1)), (s.sideRows t k).any (fun v => v.2.2)) := by
  unfold State.sideValues
  rw [h]
  rfl

section
variable {s t : State} (h : SameWeights s t)
include h

theorem dirOf_of_weights (n : Nat) : t.dirOf n = s.dirOf n := by
  unfold State.dirOf
  rw [h.dir]

theorem tile_of_weights (n : Nat) : t.tile n = s.tile n := by
  unfold State.tile
  rw [h.tiles]

theorem auxFld_of_weights (n hi lo : Nat) : t.auxFld n hi lo = s.auxFld n hi lo := by
  unfold State.auxFld
  rw [auxAt_of_dir h.dir, readNat_of_mem h.bytes.1]

theorem scaleCode_of_weights (n j : Nat) : t.scaleCode n j = s.scaleCode n j := by
  unfold State.scaleCode
  rw [auxFld_of_weights h, readNat_of_mem h.bytes.1]

theorem factor_of_weights (n j : Nat) : t.factor n j = s.factor n j := by
  unfold State.factor
  rw [scaleCode_of_weights h, auxFld_of_weights h, bad_of_poison h.bytes.2, dirOf_of_weights h]

theorem withheldCount_of_weights (n : Nat) : t.withheldCount n = s.withheldCount n := by
  unfold State.withheldCount
  rw [auxFld_of_weights h]

theorem withheldAt_of_weights (n k : Nat) : t.withheldAt n k = s.withheldAt n k := auxAt_of_dir h.dir _ _

theorem withheldRow_of_weights (n k : Nat) : t.withheldRow n k = s.withheldRow n k := by
  unfold State.withheldRow
  rw [withheldAt_of_weights h, readNat_of_mem h.bytes.1]

theorem withheldWeight_of_weights (n k j : Nat) : t.withheldWeight n k j = s.withheldWeight n k j := by
  unfold State.withheldWeight
  rw [withheldAt_of_weights h, byte_of_mem h.bytes.1]

theorem surplusOff_of_weights (n : Nat) : t.surplusOff n = s.surplusOff n := by
  unfold State.surplusOff
  rw [withheldCount_of_weights h]

theorem surplusCount_of_weights (n : Nat) : t.surplusCount n = s.surplusCount n := by
  unfold State.surplusCount
  rw [auxFld_of_weights h]

theorem surplusOf_of_weights (n : Nat) (k : Bank) : t.surplusOf n k = s.surplusOf n k := by
  unfold State.surplusOf State.surplusWords
  simp only [auxAt_of_dir h.dir, surplusOff_of_weights h, surplusCount_of_weights h, readNat_of_mem h.bytes.1]

theorem levelAt_of_weights (base r c : Nat) : t.levelAt base r c = s.levelAt base r c := by
  unfold State.levelAt
  rw [byte_of_mem h.bytes.1]

theorem masterAt_of_weights (n : Nat) : t.masterAt n = s.masterAt n := by
  unfold State.masterAt
  rw [dirOf_of_weights h]

theorem weightPlane_of_weights (n : Nat) (k : Bank) : t.weightPlane n k = s.weightPlane n k := by
  unfold State.weightPlane State.masterOwn
  simp only [tile_of_weights h, dirOf_of_weights h, masterAt_of_weights h]

theorem masterWeight_of_weights (n : Nat) (k : Bank) (xs : List Surplus) (r j : Nat) :
    t.masterWeight n k xs r j = s.masterWeight n k xs r j := by
  unfold State.masterWeight
  simp only [weightPlane_of_weights h, dirOf_of_weights h, levelAt_of_weights h]

theorem masterBad_of_weights (n : Nat) (k : Bank) (r o m : Nat) : t.masterBad n k r o m = s.masterBad n k r o m := by
  unfold State.masterBad
  rw [weightPlane_of_weights h, bad_of_poison h.bytes.2]

theorem auxPoison_of_weights (n : Nat) : t.auxPoison n = s.auxPoison n := by
  unfold State.auxPoison
  simp only [auxAt_of_dir h.dir, surplusOff_of_weights h, surplusCount_of_weights h, withheldCount_of_weights h,
    bad_of_poison h.bytes.2]

theorem withheldTerms_of_weights (n : Nat) (x : Slice) (j : Nat) : t.withheldTerms n x j = s.withheldTerms n x j := by
  unfold State.withheldTerms
  simp only [withheldCount_of_weights h, withheldRow_of_weights h, withheldWeight_of_weights h]

theorem sliceBlocks_of_weights (d g : Nat) (o : Operand) (first n : Nat) :
    t.sliceBlocks d g o first n = s.sliceBlocks d g o first n := by
  unfold State.sliceBlocks
  simp only [dbBlock_of_bytes h.bytes]

theorem withheldList_of_weights (l kind : Nat) : t.withheldList l kind = s.withheldList l kind := by
  unfold State.withheldList
  simp only [layEnt_of_mem h.bytes.1, chr_of_mem h.bytes.1]

theorem sideRow_of_weights (n k : Nat) (list : List Nat) (first i : Nat) :
    t.sideRow n k list first i = s.sideRow n k list first i := by
  unfold State.sideRow
  dsimp only
  rw [withheldRow_of_weights h, readNat_of_mem h.bytes.1, bad_of_poison h.bytes.2]

theorem sideRows_of_weights (n k : Nat) : t.sideRows n k = s.sideRows n k := by
  unfold State.sideRows
  rw [dirOf_of_weights h, withheldList_of_weights h, withheldCount_of_weights h]
  exact congrArg (List.filterMap · _) (funext (sideRow_of_weights h n k _ _))

theorem sideValues_of_weights (hs : t.sides = s.sides) (n key : Nat) : t.sideValues n key = s.sideValues n key := by
  cases hk : look 0 s.sides key with
  | zero => rw [sideValues_zero hk, sideValues_zero (by rw [hs]; exact hk)]
  | succ k => rw [sideValues_succ hk, sideValues_succ (by rw [hs]; exact hk), sideRows_of_weights h]

end

/-- The readings that a DENSE order's lanes are made of are the same. -/
theorem denseLanes_of_weights {s t : State} (h : SameWeights s t) (hs : t.sides = s.sides) (j : Job) (n : Nat) (o : Operand)
    (g : Nat) : t.denseLanes j n o g = s.denseLanes j n o g := by
  have hsurplus : t.surplusOf n = s.surplusOf n := funext (surplusOf_of_weights h n)
  have hblocks : t.sliceBlocks = s.sliceBlocks := by
    funext d g o first n
    exact sliceBlocks_of_weights h d g o first n
  have hside : t.sideValues n = s.sideValues n := funext (sideValues_of_weights h hs n)
  have hfactor : t.factor n = s.factor n := funext (factor_of_weights h n)
  have hweight : t.masterWeight n = s.masterWeight n := by
    funext k xs r c
    exact masterWeight_of_weights h n k xs r c
  have hterms : t.withheldTerms n = s.withheldTerms n := by
    funext x c
    exact withheldTerms_of_weights h n x c
  have hbad : t.masterBad n = s.masterBad n := by
    funext k r c m
    exact masterBad_of_weights h n k r c m
  unfold State.denseLanes
  rw [dirOf_of_weights h, jobRow_of_mem h.bytes.1, hsurplus, hblocks, hside, hfactor, hweight, hterms, hbad,
    auxPoison_of_weights h]

/-! ### Orders whose work ends in one state -/

/-- An order whose work does not fault and leaves the queues and its own issue counter. -/
theorem workDone_issued {s w : State} {u : EngUnit} {dec ready : Bool} {cls op : Nat} {e : QEntry} {work : Job → State → Done}
    (h : s.starts u dec cls op e = true) (hwork : work (firstJob u dec e) (s.issuing u dec) = ⟨w, 0, ready⟩)
    (hq : w.queues = (s.issuing u dec).queues)
    (hc : w.reg (issueCounter u dec) = (s.issuing u dec).reg (issueCounter u dec)) :
    issued u dec e ready s (s.issue u dec cls op work) ∧
      ∀ p : StatePart, p ≠ .queues → p.same w (s.issue u dec cls op work) := by
  have hstate : (work (firstJob u dec e) (s.issuing u dec)).state = w := congrArg Done.state hwork
  have hreason : (work (firstJob u dec e) (s.issuing u dec)).reason = 0 := congrArg Done.reason hwork
  have hready : (work (firstJob u dec e) (s.issuing u dec)).ready = ready := congrArg Done.ready hwork
  refine ⟨?_, fun p hp => ?_⟩
  · rw [← hready]
    refine issue_issued h hreason ?_ ?_
    · show (work (firstJob u dec e) (s.issuing u dec)).state.queues = _
      rw [hstate, hq]
      exact State.bump_queues _ _ _
    · show (work (firstJob u dec e) (s.issuing u dec)).state.reg _ = _
      rw [hstate]
      exact hc
  · rw [issue_launched h hreason, ← hstate]
    exact launched_same _ hp

/-! ### The lanes of an engine (R225) -/

/-- A lane with terms added, poison among them. -/
def laneWith (h : Hoard) (e : List Num × Bool) : Hoard := if e.2 then (h.addAll e.1).spoil else h.addAll e.1

theorem laneKey_inj {d k i j : Nat} (h : laneKey d k i = laneKey d k j) : i = j := by
  unfold laneKey at h
  omega

theorem lanes_other {d k a : Nat} (l : List ((List Num × Bool) × Nat)) (m : SMap Hoard) (h : ∀ e ∈ l, laneKey d k e.2 ≠ a) :
    look Hoard.zero (l.foldl (fun m e => upd Hoard.zero m (laneKey d k e.2) (fun h => laneWith h e.1)) m) a =
      look Hoard.zero m a :=
  List.foldlRecOn (motive := fun x : SMap Hoard => look Hoard.zero x a = look Hoard.zero m a) _ _ rfl fun _ hx e he =>
    (look_put_other _ _ _ _ (h e he)).trans hx

/-- Every lane takes its own terms. -/
theorem lanes_at {d k : Nat} {v : List (List Num × Bool)} : ∀ {n i : Nat} {m : SMap Hoard} {e : List Num × Bool},
    v[i]? = some e → look Hoard.zero ((v.zipIdx n).foldl (fun m e => upd Hoard.zero m (laneKey d k e.2) (fun h => laneWith h e.1)) m)
      (laneKey d k (n + i)) = laneWith (look Hoard.zero m (laneKey d k (n + i))) e := by
  induction v with
  | nil => exact fun h => nomatch h
  | cons x v ih =>
    intro n i m e hi
    rw [List.zipIdx_cons, List.foldl_cons]
    cases i with
    | zero =>
      rw [List.getElem?_cons_zero, Option.some_inj] at hi
      subst hi
      rw [lanes_other _ _ fun e he hk => ?_, Nat.add_zero]
      · exact look_put_self _ _ _ _
      · obtain ⟨hlo, -, -⟩ := List.mem_zipIdx he
        have := laneKey_inj hk
        omega
    | succ i =>
      rw [List.getElem?_cons_succ] at hi
      rw [show n + (i + 1) = n + 1 + i by omega, ih hi]
      refine congrArg (laneWith · e) (look_put_other _ _ _ _ fun hk => ?_)
      have := laneKey_inj hk
      omega

theorem lane_cleared (s : State) (d k a : Nat) : look Hoard.zero (s.clearLanes d k).lanes a =
    if laneKey d k 0 ≤ a ∧ a < laneKey d k 1024 then Hoard.zero else look Hoard.zero s.lanes a := by
  unfold State.clearLanes
  dsimp only
  rw [look_keepKeys]
  by_cases h : laneKey d k 0 ≤ a ∧ a < laneKey d k 1024
  · rw [if_neg (by simp [h]), if_pos h]
  · rw [if_pos, if_neg h]
    simp only [Bool.not_eq_true', Bool.and_eq_false_iff, decide_eq_false_iff_not]
    omega

/-! ### DENSE and DOUT (R225) -/

theorem onlyRegs_weightPoison (s : State) (t a : Nat) : onlyRegs recordRegs s (s.weightPoison t a) := (recorded_fault s _).regs

theorem onlyRegs_sliceRecords (s : State) (t : Nat) (auxBad masBad : Bool) (n : Nat) :
    onlyRegs recordRegs s (s.sliceRecords t auxBad masBad n) := by
  unfold State.sliceRecords
  extract_lets scales aux
  have hscales : onlyRegs recordRegs s scales :=
    List.foldlRecOn (motive := fun v : State => onlyRegs recordRegs s v) _ _ (onlyRegs_refl _ s) fun v hv j _ => by
      refine onlyRegs_trans hv ?_
      split
      · exact onlyRegs_weightPoison _ _ _
      · split
        · exact onlyRegs_refl _ _
        · exact (recorded_fault _ _).regs
  have haux : onlyRegs recordRegs s aux := by
    dsimp only [aux]
    split
    · exact onlyRegs_trans hscales (onlyRegs_weightPoison _ _ _)
    · exact hscales
  split
  · exact onlyRegs_trans haux (onlyRegs_weightPoison _ _ _)
  · exact haux

/-- The state of a DENSE order before its lanes are summed: what its slice met is recorded and counted. -/
def State.denseRead (s : State) (j : Job) : State :=
  let t := j.body 55 41
  let o := s.opnd j (j.body 40 33)
  let v := s.denseLanes j t o (s.opGranule j o (j.body 32 21))
  let x := s.sliceRecords t (s.auxPoison t) v.2.1 (s.dirOf t).outputs
  x.addRec j.layer recInvalid v.2.2

theorem denseRead_keeps (s : State) (j : Job) : onlyRegs recordRegs s (s.denseRead j) ∧ (s.denseRead j).queues = s.queues ∧
    (s.denseRead j).lanes = s.lanes := by
  have hl : Leads (maskOf recordParts) s (s.denseRead j) := by
    unfold State.denseRead
    exact keeps_addRec (Has.self.sub rfl) (keeps_sliceRecords (Has.self.sub rfl) Leads.self)
  refine ⟨?_, hl.onlyParts .queues (by decide), hl.onlyParts .lanes (by decide)⟩
  unfold State.denseRead
  extract_lets t o v x
  exact onlyRegs_trans (onlyRegs_sliceRecords s _ _ _ _) (onlyRegs_of_regs (regs_addRec x _ _ _))

/-- The lanes of an engine before a DENSE order adds to them. -/
def State.lanesFor (s : State) (j : Job) : State := if j.acc then s else s.clearLanes j.die j.unit.inst

theorem attendDenseWork_eq {s : State} {j : Job} {v : List (List Num × Bool)}
    (hin : let o := s.opnd j (j.body 40 33); inTill (s.opGranule j o (j.body 32 21)) o.fmt o.len = true)
    (hv : (s.denseLanes j (j.body 55 41) (s.opnd j (j.body 40 33))
      (s.opGranule j (s.opnd j (j.body 40 33)) (j.body 32 21))).1 = v) :
    attendDenseWork j s = done (((s.denseRead j).lanesFor j).addLanes j.die j.unit.inst v) := by
  subst hv
  unfold attendDenseWork
  dsimp only at hin ⊢
  rw [if_neg (by rw [hin]; exact Bool.false_ne_true)]
  rfl

theorem lanesFor_keeps (s : State) (j : Job) (v : List (List Num × Bool)) :
    ((s.lanesFor j).addLanes j.die j.unit.inst v).regs = s.regs ∧
      ((s.lanesFor j).addLanes j.die j.unit.inst v).queues = s.queues := by
  unfold State.lanesFor
  split
  · exact ⟨rfl, rfl⟩
  · exact ⟨rfl, rfl⟩

theorem lane_lanesFor (s : State) (j : Job) {c : Nat} (hc : c < 1024) :
    look Hoard.zero (s.lanesFor j).lanes (laneKey j.die j.unit.inst c) =
      if j.acc then look Hoard.zero s.lanes (laneKey j.die j.unit.inst c) else Hoard.zero := by
  unfold State.lanesFor
  split
  · rfl
  · rw [lane_cleared, if_pos]
    unfold laneKey
    omega

theorem lane_lanesFor_other (s : State) (j : Job) {a : Nat} (ha : a / 2 ^ 20 ≠ j.die * 64 + j.unit.inst) :
    look Hoard.zero (s.lanesFor j).lanes a = look Hoard.zero s.lanes a := by
  unfold State.lanesFor
  split
  · rfl
  · rw [lane_cleared, if_neg]
    unfold laneKey
    omega

theorem attendDoutWork_eq {s : State} {j : Job} {o : Operand} {g : Nat} (ho : s.opnd j (j.body 55 48) = o)
    (hg : s.opGranule j o (j.body 47 36) = g) (hf : destFault j o g (Nat.min o.len 1024) = 0) (hfmt : o.fmt = 0xC) :
    attendDoutWork j s = done (s.onDies o g (fun t a => (((List.range (Nat.min o.len 1024)).map (fun c =>
      look Hoard.zero s.lanes (laneKey j.die j.unit.inst c))).zipIdx).foldl (fun t e =>
        t.putPartial (a + 96 * e.2) j.acc (sourceOf j.unit) e.1) t)) := by
  subst ho hg
  unfold attendDoutWork
  dsimp only
  rw [hf, if_neg (not_not_intro rfl)]
  unfold State.writeHoards
  rw [if_pos hfmt]

theorem onDies_one {o : Operand} (h : o.allDies = false) (s : State) (g : Nat) (f : State → Nat → State) :
    s.onDies o g f = f s (till o.die (32 * g)) := by
  unfold State.onDies Operand.writeDies
  rw [h]
  rfl

/-- What a DENSE order leaves on its lanes. -/
theorem dense_issued {s : State} {u : EngUnit} {dec : Bool} {e : QEntry} (h : s.starts u dec 3 2 e = true) :
    let j := firstJob u dec e
    let o := s.opnd j (j.body 40 33)
    let g := s.opGranule j o (j.body 32 21)
    let v := s.denseLanes j (j.body 55 41) o g
    inTill g o.fmt o.len = true → issued u dec e true s (s.issue u dec 3 2 attendDenseWork) ∧
      (s.issue u dec 3 2 attendDenseWork).lanes = (v.1.zipIdx).foldl (fun m e =>
        upd Hoard.zero m (laneKey u.die.val u.inst e.2) (fun h => laneWith h e.1)) ((((s.issuing u dec).denseRead j).lanesFor j).lanes) ∧
      ((s.issuing u dec).denseRead j).lanes = s.lanes := by
  intro j o g v hin
  obtain ⟨-, -, hok, -⟩ := starts_free h
  have hmem := mem_issuing s u dec
  have hv : (s.issuing u dec).denseLanes j (j.body 55 41) o g = v :=
    denseLanes_of_weights (sameWeights_bump s _ 1) (State.bump_sides _ _ _) j _ o g
  have hwork := attendDenseWork_eq (s := s.issuing u dec) (j := j) (v := v.1)
    (show inTill ((s.issuing u dec).opGranule j ((s.issuing u dec).opnd j (j.body 40 33)) (j.body 32 21))
        ((s.issuing u dec).opnd j (j.body 40 33)).fmt ((s.issuing u dec).opnd j (j.body 40 33)).len = true by
      rw [opnd_of_mem hmem, opGranule_of_mem hmem]; exact hin)
    (by rw [opnd_of_mem hmem, opGranule_of_mem hmem]; exact congrArg Prod.fst hv)
  obtain ⟨hregs, hqueues, hlanes⟩ := denseRead_keeps (s.issuing u dec) j
  obtain ⟨hr, hq⟩ := lanesFor_keeps ((s.issuing u dec).denseRead j) j v.1
  obtain ⟨hissued, hsame⟩ := workDone_issued h hwork (hq.trans hqueues)
    ((reg_of_regs hr _).trans (hregs _ (issueCounter_notOfRecord hok dec)))
  exact ⟨hissued, hsame .lanes nofun, hlanes.trans (State.bump_lanes _ _ _)⟩

/-- Settles O40: the lanes that DENSE adds to, and the records that DOUT writes of them. -/
theorem denseLanesAreSummedAndWritten : Obligations.DenseLanesAreSummedAndWritten := by
  unfold Obligations.DenseLanesAreSummedAndWritten
  refine ⟨?_, ?_⟩
  · intro u dec e s h j t0 o g v hin
    obtain ⟨hissued, hlanes, hread⟩ := dense_issued h hin
    refine ⟨_, rfl, hissued, ?_, fun k hk hlen => ?_⟩
    · intro c ts bad hc old _ hlen
      have hlt : c < 1024 := Nat.lt_of_lt_of_le (List.getElem?_eq_some_iff.mp hc).1 hlen
      have hlane := lanes_at (d := u.die.val) (k := u.inst) (n := 0) (m := (((s.issuing u dec).denseRead j).lanesFor j).lanes) hc
      rw [Nat.zero_add] at hlane
      rw [hlanes, hlane]
      have hold : look Hoard.zero (((s.issuing u dec).denseRead j).lanesFor j).lanes (laneKey u.die.val u.inst c) = old := by
        refine (lane_lanesFor _ j hlt).trans ?_
        rw [hread]
        rfl
      rw [hold]
      rfl
    · rw [hlanes, lanes_other, lane_lanesFor_other _ j hk, hread]
      intro x hx hkey
      have hlt : x.2 < 1024 := Nat.lt_of_lt_of_le (mem_zipIdx_lt hx).1 hlen
      refine hk ?_
      rw [← hkey]
      unfold laneKey
      omega
  · intro u dec e s h j o g len hs hf hfmt
    have hmem := mem_issuing s u dec
    have hlanes : (s.issuing u dec).lanes = s.lanes := State.bump_lanes _ _ _
    have hwork := attendDoutWork_eq (s := s.issuing u dec) (j := j) (o := o) (g := g) (opnd_of_mem hmem j _)
      (opGranule_of_mem hmem j o _) hf hfmt
    rw [hlanes] at hwork
    have hparts : onlyParts [.mem, .poison] (s.issuing u dec) ((s.issuing u dec).onDies o g (fun t a =>
        (hs.zipIdx).foldl (fun t e => t.putPartial (a + 96 * e.2) j.acc (sourceOf u) e.1) t)) :=
      onlyParts_onDies (fun _ _ _ h => keeps_foldl (fun _ h _ => keeps_putPartial (Has.self.sub rfl) h) h) _
    obtain ⟨hissued, hp, hr, hbytes⟩ := memWork_issued h hwork hparts
    refine ⟨_, rfl, hissued, hp .lanes (by decide), fun hone hacc => ?_, hp, hr⟩
    obtain ⟨hrecords, honly⟩ := holdsRecords_puts (s.issuing u dec) (till o.die (32 * g)) (sourceOf u) hs
    rw [onDies_one hone, hacc] at hbytes
    refine ⟨holdsRecords_of_mem hbytes.1 hrecords, fun k hk => ?_, fun x hx => ?_⟩
    · exact (byte_of_mem hbytes.1 k).trans ((honly.1 k (by simpa [hs] using hk)).trans (byte_of_mem hmem k))
    · exact (congrArg (look false · x) hbytes.2).trans (honly.2 x (by simpa [hs] using hx))

end Sys2Proof.Machine
end

section
/-! SUPPORT. Orders that fault as they issue, and the slices that strikes begin (O29; R113, R120, R121, R223, R240). -/

namespace Sys2Proof.Machine

/-! ### Orders that fault as they issue (R240) -/

/-- An order whose work faults is recorded with its reason; nothing else moves of what its work left. -/
theorem issue_faulted {s x : State} {u : EngUnit} {dec : Bool} {cls op reason : Nat} {e : QEntry} {work : Job → State → Done}
    (h : s.starts u dec cls op e = true) (hwork : work (firstJob u dec e) (s.issuing u dec) = failed x reason)
    (hr : reason ≠ 0) (hlt : reason < 16) :
    (s.issue u dec cls op work).fld (ENG_QFAULT u) 23 20 = reason ∧
      counted (ENG_CNT_FAULT u) 1 x (s.issue u dec cls op work) ∧
      onlyParts (.queues :: .signals :: recordParts) x (s.issue u dec cls op work) := by
  obtain ⟨-, -, hok, -⟩ := starts_free h
  have hfault : OrderFaulted (firstJob u dec e) reason x (x.orderFault (firstJob u dec e) reason) := orderFaulted _ _ _ hok
  obtain ⟨-, hreason, -⟩ := hfault.fields hlt (row_lt e)
  have hissue : s.issue u dec cls op work = afterWork u dec e (failed x reason) := hwork ▸ issue_starts h
  unfold afterWork at hissue
  rw [if_neg (show ¬ (failed x reason).reason = 0 from hr)] at hissue
  dsimp only [failed] at hissue
  generalize x.orderFault (firstJob u dec e) reason = y at hissue hfault hreason
  have hrest : onlyParts [.queues, .signals] y (s.issue u dec cls op work) := by
    rw [hissue]
    exact Leads.onlyParts (keeps_signalAfter (Has.self.sub rfl) (keeps_setQueue (Has.self.sub rfl) Leads.self))
  have hregs : (s.issue u dec cls op work).regs = y.regs := hrest .regs (by decide)
  refine ⟨(fld_of_reg (reg_of_regs hregs _) _ _).trans hreason, counted_of_reg hfault.count (reg_of_regs hregs _), ?_⟩
  exact onlyParts_trans (onlyParts_mono (fun p hp => List.mem_cons_of_mem _ (List.mem_cons_of_mem _ hp)) hfault.parts)
    (onlyParts_mono (by decide) hrest)

/-- An order whose work refuses it and leaves the state. -/
theorem issue_refused {s : State} {u : EngUnit} {dec : Bool} {cls op reason : Nat} {e : QEntry} {work : Job → State → Done}
    (h : s.starts u dec cls op e = true)
    (hwork : work (firstJob u dec e) (s.issuing u dec) = failed (s.issuing u dec) reason) (hr : reason ≠ 0)
    (hlt : reason < 16) :
    (s.issue u dec cls op work).fld (ENG_QFAULT u) 23 20 = reason ∧
      counted (ENG_CNT_FAULT u) 1 s (s.issue u dec cls op work) ∧
      onlyParts (.queues :: .signals :: recordParts) s (s.issue u dec cls op work) := by
  obtain ⟨hreason, hcount, hparts⟩ := issue_faulted h hwork hr hlt
  have hbump : Leads (maskOf [.regs]) s (s.issuing u dec) := keeps_bump (Has.self.sub rfl) Leads.self
  refine ⟨hreason, counted_from (reg_bump_other ?_) hcount, onlyParts_trans (onlyParts_mono (by decide) hbump.onlyParts) hparts⟩
  rw [issueCounter_eq]
  exact unitReg_ne (by split <;> omega)

/-! ### Full redundancy (R369, R370) -/

/-- The Charter's bytes lie below every byte of the node's own memory. -/
def SameCharter (s t : State) : Prop := ∀ k, k < 2 ^ 48 → t.byte k = s.byte k

theorem readNat_of_charter {s t : State} (h : SameCharter s t) {a n : Nat} (ha : a + n ≤ 2 ^ 48) :
    t.readNat a n = s.readNat a n := by
  unfold State.readNat State.read
  refine congrArg leNat (List.map_congr_left fun i hi => h _ ?_)
  have := List.mem_range.mp hi
  omega

theorem img_of_charter {s t : State} (h : SameCharter s t) {o n : Nat} (ho : o + n ≤ 2 ^ 40) :
    t.img postedSlot o n = s.img postedSlot o n :=
  readNat_of_charter h (by unfold postedSlot; omega)

theorem readNat_lt (s : State) (a n : Nat) : s.readNat a n < 256 ^ n := by
  have h := leNat_lt (s.read a n)
  rwa [show (s.read a n).length = n by simp [State.read]] at h

theorem find?_agree {α : Type} {p q : α → Bool} {l : List α} (h : ∀ x ∈ l, p x = q x) : l.find? p = l.find? q := by
  induction l with
  | nil => rfl
  | cons x l ih =>
    rw [List.find?_cons, List.find?_cons, h x List.mem_cons_self, ih fun y hy => h y (List.mem_cons_of_mem _ hy)]

theorem secOff_of_charter {s t : State} (h : SameCharter s t) (ty : Nat) : t.secOff postedSlot ty = s.secOff postedSlot ty := by
  have hentry : t.secEntry postedSlot ty = s.secEntry postedSlot ty := by
    unfold State.secEntry
    refine find?_agree fun i hi => ?_
    have := List.mem_range.mp hi
    rw [img_of_charter h (by omega)]
  cases hi : s.secEntry postedSlot ty with
  | none =>
    unfold State.secOff
    rw [hentry, hi]
  | some i =>
    have hlt : i < 14 := List.mem_range.mp (List.mem_of_find?_eq_some hi)
    unfold State.secOff
    rw [hentry, hi]
    exact img_of_charter h (by omega)

theorem secOff_lt (s : State) (ty : Nat) : s.secOff postedSlot ty < 2 ^ 32 := by
  cases hi : s.secEntry postedSlot ty with
  | none =>
    unfold State.secOff
    rw [hi]
    exact Nat.two_pow_pos 32
  | some i =>
    unfold State.secOff
    rw [hi]
    exact readNat_lt s _ 4

theorem mirrorOn_of_charter {s t : State} (h : SameCharter s t) (hserve : t.serve = s.serve) : t.mirrorOn = s.mirrorOn := by
  have hoff := secOff_lt s secMirror
  unfold State.mirrorOn State.chr State.sect
  rw [hserve, secOff_of_charter h, img_of_charter h (by omega)]

theorem mateOf_of_charter {s t : State} (h : SameCharter s t) (hserve : t.serve = s.serve) (hlog : t.log = s.log)
    (hdir : t.dir = s.dir) (n : Nat) : t.mateOf n = s.mateOf n := by
  have hentry : t.dirOf = s.dirOf := by
    funext k
    unfold State.dirOf
    rw [hdir]
  have hpermanent : t.permanent = s.permanent := by
    funext k
    unfold State.permanent
    rw [hlog, hentry]
  unfold State.mateOf
  rw [mirrorOn_of_charter h hserve, hentry, hpermanent]

theorem sameCharter_addRec (s : State) (l o n : Nat) : SameCharter s (s.addRec l o n) := by
  intro k hk
  unfold State.addRec
  split
  · rfl
  · refine byte_write_other (.inl ?_)
    unfold State.recAt keyOf
    omega

/-! ### What building a slice leaves and gives (R63 to R67, R104 to R106) -/

/-- The counters that building a slice on a tile may move. -/
def sliceRegs (t : Nat) : List Nat :=
  [MGC_CNT_SKIP (tileDie t) (tileUnit t), MGC_CNT_SPLIT (tileDie t) (tileUnit t), ASY_CNT_SLICE (tileDie t) (tileUnit t),
    ASY_CNT_OUTSPLIT (tileDie t) (tileUnit t), ASY_CNT_OUTDIG (tileDie t) (tileUnit t)]

/-- A slice as it was asked for, with its plan and nothing struck. -/
structure SliceBegun (x y : Slice) : Prop where
  kind : y.kind = x.kind
  decode : y.decode = x.decode
  bank : y.bank = x.bank
  set : y.set = x.set
  row : y.row = x.row
  running : y.running = x.running
  slots : y.slots = x.slots
  acc : y.acc = x.acc
  paired : y.paired = x.paired

theorem buildSlice_begun (s : State) (t g : Nat) (o : Operand) (x : Slice) : SliceBegun x (s.buildSlice t g o x).2 := by
  unfold State.buildSlice
  extract_lets
  split
  split
  exact ⟨rfl, rfl, rfl, rfl, rfl, rfl, rfl, rfl, rfl⟩

theorem buildSlice_keeps (s : State) (t g : Nat) (o : Operand) (x : Slice) :
    onlyRegs (sliceRegs t) s (s.buildSlice t g o x).1 ∧ SameCharter s (s.buildSlice t g o x).1 := by
  unfold State.buildSlice
  extract_lets d die l back first n bs widths width s1 bad ds skip a s2 clip struck rows carry outs count whole u
  have h1 : s1.regs = s.regs ∧ SameCharter s s1 := ⟨regs_addRec _ _ _ _, sameCharter_addRec _ _ _ _⟩
  have h2 : s2.regs = s.regs ∧ SameCharter s s2 :=
    ⟨(regs_addRec _ _ _ _).trans h1.1, fun k hk => (sameCharter_addRec _ _ _ _ k hk).trans (h1.2 k hk)⟩
  split
  split
  extract_lets plan s3 s4
  dsimp only
  have h3 : onlyRegs (sliceRegs t) s s3 ∧ SameCharter s s3 := by
    dsimp only [s3]
    split
    · exact ⟨onlyRegs_of_regs h2.1, h2.2⟩
    · exact ⟨onlyRegs_bump (by simp [sliceRegs, u, die]) (onlyRegs_bump (by simp [sliceRegs, u, die]) (onlyRegs_of_regs h2.1)), h2.2⟩
  dsimp only [s4]
  split
  · exact h3
  · exact ⟨onlyRegs_bump (by simp [sliceRegs, u, die]) (onlyRegs_bump (by simp [sliceRegs, u, die])
      (onlyRegs_bump (by simp [sliceRegs, u, die]) h3.1)), h3.2⟩

/-- An issue counter is none of a slice's counters. -/
theorem issueCounter_notOfSlice {u : EngUnit} (hk : u.kind = .assay) (hok : EngUnit.ok u = true) (dec : Bool) {t : Nat}
    (ht : t < 32768) : issueCounter u dec ∉ sliceRegs t := by
  have hd := tileDie_lt ht
  have hu := tileUnit_lt t
  have hi : u.inst < 512 := by
    unfold EngUnit.ok at hok
    rw [hk] at hok
    exact of_decide_eq_true hok
  have hdie := u.die.isLt
  rw [issueCounter_eq]
  unfold unitReg
  rw [hk]
  simp only [sliceRegs, MGC_CNT_SKIP, MGC_CNT_SPLIT, ASY_CNT_SLICE, ASY_CNT_OUTSPLIT, ASY_CNT_OUTDIG, mgc, asyReg, dieBase,
    List.mem_cons, List.not_mem_nil, or_false]
  split
  · omega
  · omega

/-! ### A strike order's work (R121, R223) -/

/-- The kind of slice that a strike order begins. -/
def strikeKind (verify back : Bool) : SliceKind := if back then .transposed else if verify then .verify else .order

/-- The set of a strike order: kept where the order accumulates into an open one, else free and open. -/
def State.openedSet (s : State) (j : Job) (t : Nat) : State :=
  if j.acc && (s.resultSet j.unit (j.body 50 50)).isOpen then s
  else s.setResultSet j.unit (j.body 50 50) { ResultSet.free with isOpen := true, decode := j.decode, tile := t }

/-- The slice that a strike order asks for. -/
def Job.askedSlice (j : Job) (verify back : Bool) : Slice :=
  { newSlice (strikeKind verify back) j.decode (nbit (j.body 51 51) 0) (j.body 50 50) with row := j.row }

/-- The state after a strike order's slice is built. -/
def State.struck (s : State) (j : Job) (verify back : Bool) (t : Nat) (o : Operand) : State × Slice :=
  (s.openedSet j t).buildSlice t (s.opGranule j o (j.body 25 14)) o (j.askedSlice verify back)

/-- A tile on which a slice begins. -/
def Tile.begun (t : Tile) (x : Slice) : Tile := { t with slice := some x, partnerAcc := none }

theorem onlyParts_openedSet (s : State) (j : Job) (t : Nat) : onlyParts [.assay] s (s.openedSet j t) := by
  unfold State.openedSet
  split
  · exact onlyParts_refl _ _
  · exact Leads.onlyParts (keeps_setResultSet (Has.self.sub rfl) Leads.self)

theorem onlyParts_struck (s : State) (j : Job) (verify back : Bool) (t : Nat) (o : Operand) :
    onlyParts [.regs, .mem, .poison, .assay] s (s.struck j verify back t o).1 :=
  onlyParts_trans (onlyParts_mono (by decide) (onlyParts_openedSet s j t))
    (Leads.onlyParts (keeps_buildSlice (Has.self.sub rfl) Leads.self))

theorem assay_openedSet {s t : State} (h : t.assay = s.assay) (j : Job) (n : Nat) :
    (t.openedSet j n).assay = (s.openedSet j n).assay := by
  have hset : t.resultSet = s.resultSet := by
    unfold State.resultSet
    rw [h]
  unfold State.openedSet
  rw [hset]
  split
  · exact h
  · unfold State.setResultSet
    rw [h]

theorem assay_struck (s : State) (j : Job) (verify back : Bool) (t : Nat) (o : Operand) :
    (s.struck j verify back t o).1.assay = (s.openedSet j t).assay := by
  have h : onlyParts [.regs, .mem, .poison] (s.openedSet j t) (s.struck j verify back t o).1 :=
    Leads.onlyParts (keeps_buildSlice (Has.self.sub rfl) Leads.self)
  exact h .assay (by decide)

theorem onlyRegs_struck (s : State) (j : Job) (verify back : Bool) (t : Nat) (o : Operand) :
    onlyRegs (sliceRegs t) s (s.struck j verify back t o).1 :=
  onlyRegs_trans (onlyRegs_of_regs (onlyParts_openedSet s j t .regs (by decide))) (buildSlice_keeps _ _ _ _ _).1

theorem mateOf_struck (s : State) (j : Job) (verify back : Bool) (t : Nat) (o : Operand) (n : Nat) :
    (s.struck j verify back t o).1.mateOf n = s.mateOf n := by
  have hparts := onlyParts_struck s j verify back t o
  have hopened : (s.openedSet j t).mem = s.mem := onlyParts_openedSet s j t .mem (by decide)
  refine mateOf_of_charter ?_ (hparts .serve (by decide)) (hparts .log (by decide)) (hparts .dir (by decide)) n
  exact fun k hk => ((buildSlice_keeps _ _ _ _ _).2 k hk).trans (byte_of_mem hopened k)

section
variable {s : State} {j : Job} {verify back : Bool} {t : Nat} {o : Operand}

theorem strikeWork_begins (ht : strikeTile j.unit j.order = t) (ho : s.opnd j (j.body 33 26) = o)
    (hepoch : (s.dirOf t).epoch (nbit (j.body 51 51) 0) = BitVec.ofNat 16 (j.body 49 34))
    (hbank : bankStrikes verify ((s.dirOf t).state (nbit (j.body 51 51) 0)) = true)
    (hin : inTill (s.opGranule j o (j.body 25 14)) o.fmt o.len = true) (hsurplus : s.surplusBad t = false)
    (hmate : s.mateOf t = none) : strikeWork verify back j s = ⟨(s.struck j verify back t o).1.setTile t
      (((s.struck j verify back t o).1.tile t).begun (s.struck j verify back t o).2), 0, false⟩ := by
  have hm : (s.struck j verify back t o).1.mateOf t = none := (mateOf_struck _ _ _ _ _ _ _).trans hmate
  subst ht ho
  unfold strikeWork
  dsimp only
  rw [if_neg (not_not_intro hepoch), if_neg (by rw [hbank]; exact Bool.false_ne_true), if_neg (by rw [hin]; exact Bool.false_ne_true),
    if_neg (by rw [hsurplus]; exact Bool.false_ne_true)]
  unfold State.struck State.openedSet Job.askedSlice strikeKind at hm ⊢
  generalize State.buildSlice _ _ _ _ _ = y at hm ⊢
  rw [hm]
  rfl

theorem strikeWork_refused (h : ¬ ((s.dirOf (strikeTile j.unit j.order)).epoch (nbit (j.body 51 51) 0) =
      BitVec.ofNat 16 (j.body 49 34) ∧
      bankStrikes verify ((s.dirOf (strikeTile j.unit j.order)).state (nbit (j.body 51 51) 0)) = true)) :
    strikeWork verify back j s = failed s reasonBank := by
  unfold strikeWork
  dsimp only
  split
  · rfl
  · rename_i hepoch
    rw [if_pos]
    simpa using fun hbank => h ⟨Classical.not_not.mp hepoch, hbank⟩

end

/-! ### Strikes issue (R113, R121, R223) -/

theorem issueStrike_starts {s : State} {u : EngUnit} {dec : Bool} {cls op : Nat} {e : QEntry}
    (h : s.starts u dec cls op e = true) (hmate : s.mateOf (strikeTile u e.order) = none) :
    s.issueStrike u dec cls op = s.issue u dec cls op (strikeWork (cls == 0 && op == 1) (cls == 1)) := by
  obtain ⟨_, _, _, _, ⟨es, hq⟩, _, _, hreps, _, _, _⟩ := starts_parts h
  have hfree : s.mateFree (strikeTile u ((e.repeated (s.queueOf u dec).reps).getD e.order)) = true := by
    rw [hreps, repeated_zero, Option.getD_some]
    unfold State.mateFree
    rw [hmate]
  unfold State.issueStrike
  rw [hq]
  exact if_pos hfree

theorem strikeTile_lt {u : EngUnit} (hk : u.kind = .assay) (hok : EngUnit.ok u = true) (o : BitVec 128) :
    strikeTile u o < 32768 := by
  have hi : u.inst < 512 := by
    unfold EngUnit.ok at hok
    rw [hk] at hok
    exact of_decide_eq_true hok
  have hdie := u.die.isLt
  have hn : ordBody o 55 52 < 16 := ordBits_lt o 55 52
  unfold strikeTile tileAt
  omega

theorem assay_of_accepts {k : UnitKind} {c : Nat} (h : accepts k c = true) (hc : c ≤ 2) : k = .assay := by
  cases k
  · rfl
  all_goals
    unfold accepts at h
    simp only [Bool.or_eq_true, beq_iff_eq] at h
    omega

theorem surplusBad_of_weights {s t : State} (h : SameWeights s t) (n : Nat) : t.surplusBad n = s.surplusBad n := by
  unfold State.surplusBad State.surplusWords
  simp only [auxAt_of_dir h.dir, surplusOff_of_weights h, surplusCount_of_weights h, readNat_of_mem h.bytes.1]

section
variable {s : State} {u : EngUnit} {dec : Bool} {cls op : Nat} {e : QEntry} {verify back : Bool}

/-- A strike order that is as its tile and operand ask begins its slice. -/
theorem strike_begins (h : s.starts u dec cls op e = true) (hc : cls ≤ 2)
    (hepoch : (s.dirOf (strikeTile u e.order)).epoch (nbit ((firstJob u dec e).body 51 51) 0) =
      BitVec.ofNat 16 ((firstJob u dec e).body 49 34))
    (hbank : bankStrikes verify ((s.dirOf (strikeTile u e.order)).state (nbit ((firstJob u dec e).body 51 51) 0)) = true)
    (hin : inTill (s.opGranule (firstJob u dec e) (s.opnd (firstJob u dec e) ((firstJob u dec e).body 33 26))
        ((firstJob u dec e).body 25 14)) (s.opnd (firstJob u dec e) ((firstJob u dec e).body 33 26)).fmt
      (s.opnd (firstJob u dec e) ((firstJob u dec e).body 33 26)).len = true)
    (hsurplus : s.surplusBad (strikeTile u e.order) = false) (hmate : s.mateOf (strikeTile u e.order) = none) :
    ∃ x, issued u dec e false s (s.issue u dec cls op (strikeWork verify back)) ∧
      SliceBegun ((firstJob u dec e).askedSlice verify back) x ∧
      (s.issue u dec cls op (strikeWork verify back)).tiles =
        (s.setTile (strikeTile u e.order) ((s.tile (strikeTile u e.order)).begun x)).tiles ∧
      (s.issue u dec cls op (strikeWork verify back)).assay = (s.openedSet (firstJob u dec e) (strikeTile u e.order)).assay ∧
      onlyParts [.regs, .mem, .poison, .tiles, .assay, .queues] s (s.issue u dec cls op (strikeWork verify back)) := by
  obtain ⟨-, hkind, -⟩ := starts_parts h
  obtain ⟨-, -, hok, -⟩ := starts_free h
  have hk := assay_of_accepts hkind hc
  have hmem := mem_issuing s u dec
  have hw := sameWeights_bump s (issueCounter u dec) 1
  have hbump : onlyParts [.regs] s (s.issuing u dec) := Leads.onlyParts (keeps_bump (Has.self.sub rfl) Leads.self)
  generalize htile : strikeTile u e.order = t at *
  generalize hj : firstJob u dec e = j at *
  generalize ho : s.opnd j (j.body 33 26) = o at *
  have hunit : j.unit = u := by rw [← hj]; rfl
  have horder : j.order = e.order := by rw [← hj]; rfl
  have hwork := strikeWork_begins (s := s.issuing u dec) (j := j) (verify := verify) (back := back) (t := t) (o := o)
    (by rw [hunit, horder, htile]) ((opnd_of_mem hmem j _).trans ho) ((dirOf_of_weights hw t).symm ▸ hepoch)
    ((dirOf_of_weights hw t).symm ▸ hbank) ((opGranule_of_mem hmem j o _).symm ▸ hin)
    ((surplusBad_of_weights hw t).trans hsurplus)
    ((mateOf_of_charter (fun k _ => byte_of_mem hmem k) (hbump .serve (by decide)) (hbump .log (by decide))
      (hbump .dir (by decide)) t).trans hmate)
  have hparts := onlyParts_struck (s.issuing u dec) j verify back t o
  have hregs := onlyRegs_struck (s.issuing u dec) j verify back t o
  have hassay : ((s.issuing u dec).struck j verify back t o).1.assay = (s.openedSet j t).assay :=
    (assay_struck _ _ _ _ _ _).trans (assay_openedSet (hbump .assay (by decide)) j t)
  have hbegun : SliceBegun (j.askedSlice verify back) ((s.issuing u dec).struck j verify back t o).2 :=
    buildSlice_begun _ _ _ _ _
  generalize (s.issuing u dec).struck j verify back t o = y at *
  rw [← hj] at hwork
  obtain ⟨hissued, hsame⟩ := workDone_issued h hwork (hparts .queues (by decide))
    (hregs _ (issueCounter_notOfSlice hk hok dec (htile ▸ strikeTile_lt hk hok e.order)))
  have htiles : y.1.tiles = s.tiles := (hparts .tiles (by decide)).trans (hbump .tiles (by decide))
  refine ⟨y.2, hissued, hbegun, (hsame .tiles nofun).trans ?_, (hsame .assay nofun).trans hassay, fun p hp => ?_⟩
  · unfold State.setTile State.tile
    rw [htiles]
  · have hset : onlyParts [.tiles] y.1 (y.1.setTile t ((y.1.tile t).begun y.2)) :=
      Leads.onlyParts (keeps_setTile (Has.self.sub rfl) Leads.self)
    have hall : onlyParts [.regs, .mem, .poison, .tiles, .assay, .queues] s (y.1.setTile t ((y.1.tile t).begun y.2)) :=
      onlyParts_trans (onlyParts_mono (by decide) hbump) (onlyParts_trans (onlyParts_mono (by decide) hparts)
        (onlyParts_mono (by decide) hset))
    exact StatePart.same_trans (hall p hp) (hsame p fun hq => hp (by rw [hq]; decide))

end

/-- Settles O29: a strike's slice, or its refusal. -/
theorem strikesBeginTheirSlices : Obligations.StrikesBeginTheirSlices := by
  unfold Obligations.StrikesBeginTheirSlices
  intro i kind u dec e s hi j t0 d bank o good hmate
  obtain ⟨cls, op, hrun, hkind, hstarts, hc⟩ : ∃ cls op, exec i s = .next (s.issueStrike u dec cls op) ∧
      kind = strikeKind (cls == 0 && op == 1) (cls == 1) ∧ s.starts u dec cls op e = true ∧ cls ≤ 2 ∧ 
        (kind == .verify) = (cls == 0 && op == 1) := by
    obtain ⟨rfl, rfl, h⟩ | ⟨rfl, rfl, h⟩ | ⟨rfl, rfl, h⟩ := hi
    · exact ⟨0, 0, rfl, rfl, h, by decide, rfl⟩
    · exact ⟨0, 1, rfl, rfl, h, by decide, rfl⟩
    · exact ⟨1, 0, rfl, rfl, h, by decide, rfl⟩
  rw [issueStrike_starts hstarts hmate] at hrun
  refine ⟨fun hgood hin hsurplus => ?_, fun hbad => ?_⟩
  · obtain ⟨x, hissued, hbegun, htiles, hassay, hparts⟩ := strike_begins (verify := cls == 0 && op == 1) (back := cls == 1)
      hstarts hc.1 hgood.1 (hc.2 ▸ hgood.2) hin hsurplus hmate
    refine ⟨_, x, hrun, hissued, htiles, hbegun.kind.trans hkind.symm, hbegun.decode, hbegun.bank, hbegun.set, hbegun.row,
      hbegun.running, hbegun.slots, hbegun.acc, hbegun.paired, hassay.trans ?_, hparts⟩
    unfold State.openedSet
    simp only [Bool.and_eq_true]
    split
    · exact (if_pos ‹_›).symm
    · exact (if_neg ‹_›).symm
  · have hw : SameWeights s (s.issuing u dec) := sameWeights_bump s (issueCounter u dec) 1
    have hwork := strikeWork_refused (s := s.issuing u dec) (j := j) (verify := cls == 0 && op == 1) (back := cls == 1)
      (by rw [dirOf_of_weights hw]; exact fun h => hbad ⟨h.1, hc.2.symm ▸ h.2⟩)
    obtain ⟨hreason, hcount, hparts⟩ := issue_refused hstarts hwork (by decide) (by decide)
    exact ⟨_, hrun, hparts .tiles (by decide), hparts .assay (by decide), hreason, hcount⟩

end Sys2Proof.Machine
end

section
/-! SUPPORT. The passes of the attention engines (O38, O39; R183 to R187, R192, R205 to R209). -/

namespace Sys2Proof.Machine

/-! ### What the readings of a run depend on -/

/-- Two states hold the same memory, poison, Ledger, staging slots and sequences. -/
structure SameRun (s t : State) : Prop where
  bytes : SameBytes s t
  folio : t.folio = s.folio
  staging : t.staging = s.staging
  seqs : t.seqs = s.seqs

/-- A folio's state, frame and poison mark are the same. -/
def SameFolio (x y : Folio) : Prop := y.st = x.st ∧ y.frame = x.frame ∧ y.poisoned = x.poisoned

theorem SameFolio.trans {x y z : Folio} (h : SameFolio x y) (k : SameFolio y z) : SameFolio x z :=
  ⟨k.1.trans h.1, k.2.1.trans h.2.1, k.2.2.trans h.2.2⟩

/-- Two states hold the same chunks: memory, poison, staging slots, and every folio's state, frame and mark. -/
structure SameChunks (s t : State) : Prop where
  bytes : SameBytes s t
  staging : t.staging = s.staging
  folios : ∀ k, SameFolio (s.folioOf k) (t.folioOf k)

theorem sameRun_of_onlyRegs {s t : State} (h : onlyParts [.regs] s t) : SameRun s t :=
  ⟨⟨h .mem (by decide), h .poison (by decide)⟩, h .folio (by decide), h .staging (by decide), h .seqs (by decide)⟩

section
variable {s t : State}

theorem geo_of_mem (h : t.mem = s.mem) (hi lo : Nat) : t.geo hi lo = s.geo hi lo := chr_of_mem h _ _ _

theorem headBlocks_of_mem (h : t.mem = s.mem) : t.headBlocks = s.headBlocks := geo_of_mem h _ _

theorem quarterLayer_of_mem (h : t.mem = s.mem) : t.quarterLayer = s.quarterLayer := by
  unfold State.quarterLayer State.laneBlock State.rowBytes State.folioWidth State.kvCount
  rw [headBlocks_of_mem h, geo_of_mem h, geo_of_mem h]

theorem frameAt_of_mem (h : t.mem = s.mem) (q f : Nat) : t.frameAt q f = s.frameAt q f := by
  unfold State.frameAt State.pitchBytes
  rw [geo_of_mem h, geo_of_mem h]

theorem stageAt_of_mem (h : t.mem = s.mem) (d n : Nat) : t.stageAt d n = s.stageAt d n := by
  unfold State.stageAt State.stageBytes
  rw [geo_of_mem h, quarterLayer_of_mem h]

theorem maskWindow_of_mem (h : t.mem = s.mem) (j : Job) : t.maskWindow j = s.maskWindow j := by
  unfold State.maskWindow
  simp only [progHdr_of_mem h]

theorem jobQueries_of_mem (h : t.mem = s.mem) (j : Job) : t.jobQueries j = s.jobQueries j := by
  unfold State.jobQueries
  rw [jobRow_of_mem h]

theorem runChunks_of_mem (h : t.mem = s.mem) (j : Job) : t.runChunks j = s.runChunks j := by
  unfold State.runChunks
  rw [maskWindow_of_mem h, jobQueries_of_mem h]

theorem groupSize_of_mem (h : t.mem = s.mem) (j : Job) : t.groupSize j = s.groupSize j := layEnt_of_mem h _ _ _

theorem jobSlot_of_mem (h : t.mem = s.mem) (j : Job) : t.jobSlot j = s.jobSlot j := by
  unfold State.jobSlot
  rw [jobRow_of_mem h]

theorem blockOf_of_bytes (h : SameBytes s t) (ea da n : Nat) : t.blockOf ea da n = s.blockOf ea da n := by
  unfold State.blockOf
  dsimp only
  rw [byte_of_mem h.1, bad_of_poison h.2, bad_of_poison h.2, read_of_mem h.1]

theorem blockKeys_of_mem (h : t.mem = s.mem) (base head kind i k : Nat) :
    t.blockKeys base head kind i k = s.blockKeys base head kind i k := by
  unfold State.blockKeys State.laneBlock State.rowBytes State.folioWidth
  rw [headBlocks_of_mem h, geo_of_mem h]

theorem kvRow_of_bytes (h : SameBytes s t) (base head kind i : Nat) (p : Bool) :
    t.kvRow base head kind i p = s.kvRow base head kind i p := by
  unfold State.kvRow State.headDim State.folioWidth
  dsimp only
  rw [headBlocks_of_mem h.1, geo_of_mem h.1]
  simp only [blockKeys_of_mem h.1, blockOf_of_bytes h]

theorem headOf_of_bytes (h : SameBytes s t) (j : Job) (o : Operand) (i n : Nat) : t.headOf j o i n = s.headOf j o i n := by
  unfold State.headOf State.headDim
  dsimp only
  rw [opGranule_of_mem h.1, headBlocks_of_mem h.1]
  simp only [dbBlock_of_bytes h, floatAt_of_bytes h]

theorem forwardPart_of_bytes (h : SameBytes s t) (kvh : Nat) (q : List Val) (keys : List (Nat × Nat × Nat × Bool)) (lost : Bool) :
    t.forwardPart kvh q keys lost = s.forwardPart kvh q keys lost := by
  have hrow : t.kvRow = s.kvRow := by
    funext base head kind i p
    exact kvRow_of_bytes h base head kind i p
  unfold State.forwardPart State.headDim
  rw [hrow, headBlocks_of_mem h.1]

section
variable (h : SameChunks s t)
include h

theorem folioFrame_of_chunks (j : Job) (f : Nat) : SameFolio (s.jobFolio j f) (t.jobFolio j f) := by
  unfold State.jobFolio
  rw [jobRow_of_mem h.bytes.1]
  exact h.folios _

theorem stagedFor_of_chunks (d e l : Nat) : t.stagedFor d e l = s.stagedFor d e l := by
  unfold State.stagedFor
  rw [h.staging]

theorem chunkBase_of_chunks (j : Job) : t.chunkBase j = s.chunkBase j := by
  have hstage : t.stageAt = s.stageAt := by
    funext d n
    exact stageAt_of_mem h.bytes.1 d n
  have hframe : t.frameAt = s.frameAt := by
    funext q f
    exact frameAt_of_mem h.bytes.1 q f
  funext f
  obtain ⟨hst, hfr, -⟩ := folioFrame_of_chunks h j f
  unfold State.chunkBase
  dsimp only
  rw [hst, hfr, stagedFor_of_chunks h, jobRow_of_mem h.bytes.1, hstage, hframe, quarterLayer_of_mem h.bytes.1]

theorem chunkInvalid_of_chunks (j : Job) (head f : Nat) : t.chunkInvalid j head f = s.chunkInvalid j head f := by
  have hblock : t.blockOf = s.blockOf := by
    funext ea da n
    exact blockOf_of_bytes h.bytes ea da n
  have hkeys : t.blockKeys = s.blockKeys := by
    funext base hd kind i k
    exact blockKeys_of_mem h.bytes.1 base hd kind i k
  obtain ⟨-, -, hpoisoned⟩ := folioFrame_of_chunks h j f
  unfold State.chunkInvalid State.folioWidth
  rw [chunkBase_of_chunks h, hpoisoned, hblock, hkeys, headBlocks_of_mem h.bytes.1, geo_of_mem h.bytes.1]

end

section
variable (h : SameRun s t)
include h

theorem SameRun.chunks : SameChunks s t :=
  ⟨h.bytes, h.staging, fun k => by
    unfold State.folioOf
    rw [h.folio]
    exact ⟨rfl, rfl, rfl⟩⟩

theorem jobFolio_of_run (j : Job) (f : Nat) : t.jobFolio j f = s.jobFolio j f := by
  unfold State.jobFolio State.folioOf
  rw [jobRow_of_mem h.bytes.1, h.folio]

theorem chunkFaults_of_run (j : Job) : t.chunkFaults j = s.chunkFaults j := by
  funext f
  unfold State.chunkFaults State.seq
  rw [jobFolio_of_run h, jobSlot_of_mem h.bytes.1, h.seqs]

theorem runKeys_of_run (j : Job) (fs : List Nat) : t.runKeys j fs = s.runKeys j fs := by
  have hfolio : t.jobFolio j = s.jobFolio j := funext (jobFolio_of_run h j)
  unfold State.runKeys
  rw [chunkBase_of_chunks h.chunks, hfolio]

end

end

/-! ### Chunks that a pass reads (R192, R205) -/

/-- A folio that a run reads takes the step. -/
def State.readFolio (j : Job) (s : State) (f : Nat) : State :=
  s.setFolio (s.jobRow j 11 10 + f) { s.folioOf (s.jobRow j 11 10 + f) with lastRead := s.stepNow }

/-- The counters and the run register of a pass. -/
def State.countChunks (s : State) (j : Job) (read masked lost : Nat) : State :=
  (((s.bump (ATN_CNT_CHUNKS j.die j.unit.inst) read).bump (ATN_CNT_MASKED j.die j.unit.inst) masked).bump
    (ATN_CNT_LOST j.die j.unit.inst) lost).setReg (ATN_RUN j.die j.unit.inst)
    (BitVec.ofNat 64 (s.jobSlot j * 2 ^ 19 + j.layer % 4096 * 2 ^ 7 + j.body 47 43))

theorem countRun_eq (s : State) (j : Job) (read masked lost : Nat) (fs : List Nat) :
    s.countRun j read masked lost fs = fs.foldl (State.readFolio j) (s.countChunks j read masked lost) := by
  unfold State.countRun State.countChunks
  dsimp only
  rw [jobSlot_of_mem (t := ((s.bump (ATN_CNT_CHUNKS j.die j.unit.inst) read).bump (ATN_CNT_MASKED j.die j.unit.inst) masked).bump
    (ATN_CNT_LOST j.die j.unit.inst) lost) (s := s) (by simp only [State.bump_mem])]
  rfl

theorem folioOf_readFolio (j : Job) (s : State) (f k : Nat) : (s.readFolio j f).folioOf k =
    if s.jobRow j 11 10 + f = k then { s.folioOf k with lastRead := s.stepNow } else s.folioOf k := by
  unfold State.readFolio State.folioOf State.setFolio
  split
  · next h =>
    subst h
    exact look_put_self _ _ _ _
  · next h => exact look_put_other _ _ _ _ h

theorem stepNow_of {s t : State} (hserve : t.serve = s.serve) (hreg : t.reg GLB_STEP = s.reg GLB_STEP) :
    t.stepNow = s.stepNow := by
  unfold State.stepNow State.step
  rw [hserve, hreg]

theorem readFolio_keeps (j : Job) (s : State) (f : Nat) : onlyParts [.folio] s (s.readFolio j f) :=
  Leads.onlyParts (keeps_setFolio (Has.self.sub rfl) Leads.self)

theorem stepNow_readFolio (j : Job) (s : State) (f : Nat) : (s.readFolio j f).stepNow = s.stepNow :=
  stepNow_of (readFolio_keeps j s f .serve (by decide)) (reg_of_regs (readFolio_keeps j s f .regs (by decide)) _)

theorem folio_readFolio (j : Job) (s : State) (f k : Nat) : SameFolio (s.folioOf k) ((s.readFolio j f).folioOf k) := by
  rw [folioOf_readFolio]
  split
  · exact ⟨rfl, rfl, rfl⟩
  · exact ⟨rfl, rfl, rfl⟩

theorem onlyParts_readFolios (j : Job) (fs : List Nat) (s : State) : onlyParts [.folio] s (fs.foldl (State.readFolio j) s) :=
  List.foldlRecOn (motive := fun t : State => onlyParts [.folio] s t) _ _ (onlyParts_refl _ s)
    fun t ht f _ => onlyParts_trans ht (readFolio_keeps j t f)

theorem folio_readFolios (j : Job) (fs : List Nat) (s : State) (k : Nat) :
    SameFolio (s.folioOf k) ((fs.foldl (State.readFolio j) s).folioOf k) :=
  List.foldlRecOn (motive := fun t : State => SameFolio (s.folioOf k) (t.folioOf k)) _ _ ⟨rfl, rfl, rfl⟩
    fun t ht f _ => ht.trans (folio_readFolio j t f k)

/-- A folio read stays read at the step. -/
theorem lastRead_kept (j : Job) (fs : List Nat) (s : State) {k n : Nat} (h : (s.folioOf k).lastRead = n ∧ s.stepNow = n) :
    ((fs.foldl (State.readFolio j) s).folioOf k).lastRead = n ∧ (fs.foldl (State.readFolio j) s).stepNow = n :=
  List.foldlRecOn (motive := fun t : State => (t.folioOf k).lastRead = n ∧ t.stepNow = n) _ _ h fun t ht f _ => by
    refine ⟨?_, (stepNow_readFolio j t f).trans ht.2⟩
    rw [folioOf_readFolio]
    split
    · exact ht.2
    · exact ht.1

theorem lastRead_readFolios {j : Job} {fs : List Nat} : ∀ {s : State} {f : Nat}, f ∈ fs →
    ((fs.foldl (State.readFolio j) s).folioOf (s.jobRow j 11 10 + f)).lastRead = s.stepNow := by
  induction fs with
  | nil => exact fun h => absurd h List.not_mem_nil
  | cons x fs ih =>
    intro s f hf
    rw [List.foldl_cons]
    obtain rfl | hf := List.mem_cons.mp hf
    · refine (lastRead_kept j fs _ ⟨?_, stepNow_readFolio j s f⟩).1
      rw [folioOf_readFolio, if_pos rfl]
    · have h := ih (s := s.readFolio j x) hf
      rw [jobRow_of_mem (readFolio_keeps j s x .mem (by decide)), stepNow_readFolio] at h
      exact h

/-- What reading a run's chunks leaves: its counters, its run register and the folios read. -/
structure ChunksRead (j : Job) (read lost : Nat) (fs : List Nat) (s t : State) : Prop where
  chunks : counted (ATN_CNT_CHUNKS j.die j.unit.inst) read s t
  lost : counted (ATN_CNT_LOST j.die j.unit.inst) lost s t
  run : t.fld (ATN_RUN j.die j.unit.inst) 6 0 = j.body 47 43 ∧ t.fld (ATN_RUN j.die j.unit.inst) 18 7 = j.layer
  last : ∀ f ∈ fs, (t.folioOf (s.jobRow j 11 10 + f)).lastRead = s.stepNow
  folios : ∀ k, SameFolio (s.folioOf k) (t.folioOf k)

theorem atnReg_ne {d k o p : Nat} (h : o ≠ p) : atnReg d k o ≠ atnReg d k p := by
  unfold atnReg
  omega

theorem atnReg_ne_glbStep (d k o : Nat) : GLB_STEP ≠ atnReg d k o := by
  unfold atnReg dieBase GLB_STEP glb
  omega

/-- The registers of a pass's chunks. -/
def chunkRegs (j : Job) : List Nat :=
  [ATN_CNT_CHUNKS j.die j.unit.inst, ATN_CNT_MASKED j.die j.unit.inst, ATN_CNT_LOST j.die j.unit.inst,
    ATN_RUN j.die j.unit.inst]

theorem onlyRegs_countChunks (s : State) (j : Job) (read masked lost : Nat) :
    onlyRegs (chunkRegs j) s (s.countChunks j read masked lost) :=
  onlyRegs_setReg (by simp [chunkRegs]) (onlyRegs_bump (by simp [chunkRegs]) (onlyRegs_bump (by simp [chunkRegs])
    (onlyRegs_bump (by simp [chunkRegs]) (onlyRegs_refl _ s))))

theorem onlyParts_countChunks (s : State) (j : Job) (read masked lost : Nat) :
    onlyParts [.regs] s (s.countChunks j read masked lost) :=
  Leads.onlyParts (keeps_setReg (Has.self.sub rfl) (keeps_bump (Has.self.sub rfl) (keeps_bump (Has.self.sub rfl)
    (keeps_bump (Has.self.sub rfl) Leads.self))))

theorem countChunks_counted (s : State) (j : Job) (read masked lost : Nat) :
    counted (ATN_CNT_CHUNKS j.die j.unit.inst) read s (s.countChunks j read masked lost) ∧
      counted (ATN_CNT_LOST j.die j.unit.inst) lost s (s.countChunks j read masked lost) := by
  unfold State.countChunks ATN_CNT_CHUNKS ATN_CNT_MASKED ATN_CNT_LOST ATN_RUN
  refine ⟨?_, ?_⟩
  · refine counted_of_reg (counted_bump s) ?_
    rw [reg_setReg_other (atnReg_ne (by decide)), reg_bump_other (atnReg_ne (by decide)), reg_bump_other (atnReg_ne (by decide))]
  · refine counted_of_reg (counted_from ?_ (counted_bump _)) (reg_setReg_other (atnReg_ne (by decide)))
    rw [reg_bump_other (atnReg_ne (by decide)), reg_bump_other (atnReg_ne (by decide))]

theorem countChunks_run (s : State) (j : Job) (read masked lost : Nat) (hl : j.layer < 4096) :
    (s.countChunks j read masked lost).fld (ATN_RUN j.die j.unit.inst) 6 0 = j.body 47 43 ∧
      (s.countChunks j read masked lost).fld (ATN_RUN j.die j.unit.inst) 18 7 = j.layer := by
  have hrun : j.body 47 43 < 32 := ordBits_lt _ 47 43
  have hslot : s.jobSlot j < 8192 := Nat.mod_lt _ (by decide)
  have hword : ((s.countChunks j read masked lost).reg (ATN_RUN j.die j.unit.inst)).toNat =
      s.jobSlot j * 2 ^ 19 + j.layer % 4096 * 2 ^ 7 + j.body 47 43 := by
    unfold State.countChunks
    rw [reg_setReg_self, BitVec.toNat_ofNat, Nat.mod_eq_of_lt (by omega)]
  unfold State.fld bits
  rw [hword]
  generalize s.jobSlot j = slot at *
  generalize j.body 47 43 = r at *
  omega

theorem countRun_read (s : State) (j : Job) (read masked lost : Nat) (fs : List Nat) (hl : j.layer < 4096) :
    ChunksRead j read lost fs s (s.countRun j read masked lost fs) ∧
      onlyParts [.regs, .folio] s (s.countRun j read masked lost fs) ∧
      onlyRegs (chunkRegs j) s (s.countRun j read masked lost fs) := by
  rw [countRun_eq]
  have hparts := onlyParts_countChunks s j read masked lost
  have hregs := onlyRegs_countChunks s j read masked lost
  obtain ⟨hchunks, hlost⟩ := countChunks_counted s j read masked lost
  obtain ⟨hrun, hlayer⟩ := countChunks_run s j read masked lost hl
  generalize s.countChunks j read masked lost = c at *
  have hfold := onlyParts_readFolios j fs c
  have hsame : ∀ a, (fs.foldl (State.readFolio j) c).reg a = c.reg a := reg_of_regs (hfold .regs (by decide))
  have hstep : c.stepNow = s.stepNow := stepNow_of (hparts .serve (by decide)) (hregs _ (by
    simp only [chunkRegs, ATN_CNT_CHUNKS, ATN_CNT_MASKED, ATN_CNT_LOST, ATN_RUN, List.mem_cons, List.not_mem_nil, or_false,
      atnReg_ne_glbStep, not_false_eq_true]))
  refine ⟨⟨counted_of_reg hchunks (hsame _), counted_of_reg hlost (hsame _), ⟨(fld_of_reg (hsame _) _ _).trans hrun,
    (fld_of_reg (hsame _) _ _).trans hlayer⟩, fun f hf => ?_, fun k => ?_⟩, ?_, ?_⟩
  · have h := lastRead_readFolios (j := j) (s := c) hf
    rwa [jobRow_of_mem (hparts .mem (by decide)), hstep] at h
  · have h := folio_readFolios j fs c k
    unfold State.folioOf at h ⊢
    rwa [hparts .folio (by decide)] at h
  · exact onlyParts_trans (onlyParts_mono (by decide) hparts) (onlyParts_mono (by decide) hfold)
  · exact onlyRegs_trans hregs (fun a _ => hsame a)

/-! ### The forward pass (R185 to R187) -/

/-- Where the partial of a query and head stands. -/
def State.partPlace (s : State) (j : Job) (i h : Nat) : Nat :=
  (s.opnd j (j.body 11 4)).granule + (((s.jobRow j 21 18 + i) * (s.groupSize j * s.kvCount) + h) * 4 + j.die) * 32 * 18 +
    j.body 47 43 * 18

/-- The chunks of a run that cannot be read. -/
def State.goneChunks (s : State) (j : Job) : List Nat := (s.runChunks j).1.filter (fun f => (s.chunkBase j f).isNone)

/-- The keys of a run that a query sees. -/
def State.seenKeys (s : State) (j : Job) (p : Nat) : List (Nat × Nat × Nat × Bool) :=
  (s.runKeys j (s.runChunks j).1).filter (fun e => !maskedFor (s.maskWindow j) p e.1)

/-- Has a query lost a key it would have seen? -/
def State.seenLost (s : State) (j : Job) (p : Nat) : Bool :=
  (s.goneChunks j).any (fun f => (chunkPositions j.die f).any (fun t => !maskedFor (s.maskWindow j) p t))

/-- One query and head of a forward pass, read as `s` says: its NaNs are counted and its partial written. -/
def State.forwardOne (s : State) (j : Job) (q : Nat × Nat) (z : State) (i : Nat) : State :=
  let h := j.body 55 48 * s.groupSize j + i
  let v := z.forwardPart (j.body 55 48) (z.headOf j (s.opnd j (j.body 19 12)) q.1 h) (s.seenKeys j q.2) (s.seenLost j q.2)
  (z.bump (ATN_CNT_NAN j.die j.unit.inst) v.2).write (till (s.opnd j (j.body 11 4)).die (32 * s.partPlace j q.1 h))
    (v.1.encode (sourceOf j.unit))

/-- The state of a pass before its queries: its chunks and invalid codes counted. -/
def State.passRead (s : State) (j : Job) (ops : List Operand) : State :=
  (s.countRun j ((s.runChunks j).1.length - (s.goneChunks j).length) (s.runChunks j).2 (s.goneChunks j).length
    (s.runChunks j).1).countInvalid j (s.runChunks j).1 ops

theorem attendFwdWork_faults {s : State} {j : Job} (h : (s.runChunks j).1.any (s.chunkFaults j) = true) :
    attendFwdWork j s = failed s reasonWindow := by
  unfold attendFwdWork
  exact if_pos h

theorem attendFwdWork_runs {s : State} {j : Job} (h : (s.runChunks j).1.any (s.chunkFaults j) = false)
    (hfits : ∀ q ∈ s.jobQueries j, 32 * s.partPlace j q.1 (j.body 55 48 * s.groupSize j + s.groupSize j) + 576 ≤ tillSize ∧
      inTill (s.opGranule j (s.opnd j (j.body 19 12)) q.1) (s.opnd j (j.body 19 12)).fmt (s.opnd j (j.body 19 12)).len = true) :
    attendFwdWork j s = done ((s.jobQueries j).foldl (fun z q => (List.range (s.groupSize j)).foldl (s.forwardOne j q) z)
      (s.passRead j [s.opnd j (j.body 19 12)])) := by
  unfold attendFwdWork
  refine (if_neg fun he => Bool.false_ne_true (h.symm.trans he)).trans ?_
  dsimp only
  refine (if_neg ?_).trans rfl
  rw [List.any_eq_true]
  rintro ⟨q, hq, hbad⟩
  obtain ⟨hplace, hin⟩ := hfits q hq
  rw [hin, Bool.not_true, Bool.or_false, decide_eq_true_eq] at hbad
  exact Nat.not_lt.mpr hplace hbad

theorem goneChunks_of_run {s t : State} (h : SameRun s t) (j : Job) : t.goneChunks j = s.goneChunks j := by
  unfold State.goneChunks
  rw [runChunks_of_mem h.bytes.1, chunkBase_of_chunks h.chunks]

theorem seenKeys_of_run {s t : State} (h : SameRun s t) (j : Job) (p : Nat) : t.seenKeys j p = s.seenKeys j p := by
  unfold State.seenKeys
  rw [runKeys_of_run h, runChunks_of_mem h.bytes.1, maskWindow_of_mem h.bytes.1]

theorem seenLost_of_run {s t : State} (h : SameRun s t) (j : Job) (p : Nat) : t.seenLost j p = s.seenLost j p := by
  unfold State.seenLost
  rw [goneChunks_of_run h, maskWindow_of_mem h.bytes.1]

theorem partPlace_of_mem {s t : State} (h : t.mem = s.mem) (j : Job) (i n : Nat) : t.partPlace j i n = s.partPlace j i n := by
  unfold State.partPlace
  rw [opnd_of_mem h, jobRow_of_mem h, groupSize_of_mem h, kvCount_of_mem h]

/-- What a pass leaves of a state besides memory: its chunks read, NaNs counted. -/
structure PassLeft (j : Job) (s t : State) : Prop where
  read : ChunksRead j ((s.runChunks j).1.length - (s.goneChunks j).length) (s.goneChunks j).length (s.runChunks j).1 s t
  regs : onlyRegs (ATN_CNT_NAN j.die j.unit.inst :: chunkRegs j) s t
  queues : t.queues = s.queues

/-- Reading memory aside, what the chunks read left stays. -/
theorem ChunksRead.kept {j : Job} {read lost : Nat} {fs : List Nat} {s t u : State} (h : ChunksRead j read lost fs s t)
    (hr : ∀ a, a ≠ ATN_CNT_NAN j.die j.unit.inst → u.reg a = t.reg a) (hf : u.folio = t.folio) :
    ChunksRead j read lost fs s u := by
  have hfolio : ∀ k, u.folioOf k = t.folioOf k := fun k => by unfold State.folioOf; rw [hf]
  have hrun := hr (ATN_RUN j.die j.unit.inst) (atnReg_ne (by decide))
  refine ⟨counted_of_reg h.chunks (hr _ (atnReg_ne (by decide))), counted_of_reg h.lost (hr _ (atnReg_ne (by decide))),
    ⟨(fld_of_reg hrun _ _).trans h.run.1, (fld_of_reg hrun _ _).trans h.run.2⟩, fun f hf => ?_, fun k => ?_⟩
  · rw [hfolio]
    exact h.last f hf
  · rw [hfolio]
    exact h.folios k

theorem onlyParts_countInvalid (s : State) (j : Job) (fs : List Nat) (ops : List Operand) :
    onlyParts [.mem, .poison] s (s.countInvalid j fs ops) :=
  Leads.onlyParts (keeps_countInvalid (Has.self.sub rfl) Leads.self)

theorem passRead_left (s : State) (j : Job) (ops : List Operand) (hl : j.layer < 4096) : PassLeft j s (s.passRead j ops) := by
  obtain ⟨hread, hparts, hregs⟩ := countRun_read s j ((s.runChunks j).1.length - (s.goneChunks j).length)
    (s.runChunks j).2 (s.goneChunks j).length (s.runChunks j).1 hl
  unfold State.passRead
  have hinvalid := onlyParts_countInvalid (s.countRun j ((s.runChunks j).1.length - (s.goneChunks j).length)
    (s.runChunks j).2 (s.goneChunks j).length (s.runChunks j).1) j (s.runChunks j).1 ops
  have hreg := reg_of_regs (hinvalid .regs (by decide))
  exact ⟨hread.kept (fun a _ => hreg a) (hinvalid .folio (by decide)),
    fun a ha => (hreg a).trans (hregs a fun h => ha (List.mem_cons_of_mem _ h)),
    (hinvalid .queues (by decide)).trans (hparts .queues (by decide))⟩

theorem PassLeft.then {j : Job} {s t u : State} (h : PassLeft j s t) (hr : onlyRegs [ATN_CNT_NAN j.die j.unit.inst] t u)
    (hf : u.folio = t.folio) (hq : u.queues = t.queues) : PassLeft j s u :=
  ⟨h.read.kept (fun a ha => hr a (by simpa using ha)) hf,
    onlyRegs_trans h.regs (onlyRegs_mono (by simp) hr), hq.trans h.queues⟩

theorem forwardOne_left {s z : State} {j : Job} (q : Nat × Nat) (i : Nat) (h : PassLeft j s z) (x : State) :
    PassLeft j s (x.forwardOne j q z i) := by
  unfold State.forwardOne
  extract_lets n v
  clear_value v
  refine h.then ?_ ?_ ?_
  · exact onlyRegs_trans (onlyRegs_bump (by simp) (onlyRegs_refl _ z)) (onlyRegs_of_regs (State.write_regs _ _ _))
  · rw [State.write_folio, State.bump_folio]
  · rw [State.write_queues, State.bump_queues]

theorem forwardAll_left {s z : State} {j : Job} (h : PassLeft j s z) (x : State) (qs : List (Nat × Nat)) (is : List Nat) :
    PassLeft j s (qs.foldl (fun z q => is.foldl (x.forwardOne j q) z) z) :=
  List.foldlRecOn (motive := fun t : State => PassLeft j s t) _ _ h fun _ ht q _ =>
    List.foldlRecOn (motive := fun t : State => PassLeft j s t) _ _ ht fun _ ht i _ => forwardOne_left q i ht x

theorem attn_of_accepts {k : UnitKind} (h : accepts k 3 = true) : k = .attn := by
  cases k
  · exact absurd h (by decide)
  · rfl
  · exact absurd h (by decide)
  · exact absurd h (by decide)

theorem atnReg_ne_issueCounter {u : EngUnit} (h : u.kind = .attn) {off : Nat} (ho : off < 0x100) (dec : Bool) :
    atnReg u.die.val u.inst off ≠ issueCounter u dec := by
  have hreg : atnReg u.die.val u.inst off = unitReg u off := by
    unfold unitReg
    rw [h]
  rw [hreg, issueCounter_eq]
  exact unitReg_ne (by split <;> omega)

section
variable {s w : State} {u : EngUnit} {dec : Bool} {op : Nat} {e : QEntry} {work : Job → State → Done}

/-- A pass issues: what it read of its run is counted, and its folios take the step. -/
theorem pass_issued (h : s.starts u dec 3 op e = true) (hwork : work (firstJob u dec e) (s.issuing u dec) = done w)
    (hleft : PassLeft (firstJob u dec e) (s.issuing u dec) w) :
    issued u dec e true s (s.issue u dec 3 op work) ∧
      ChunksRead (firstJob u dec e) ((s.runChunks (firstJob u dec e)).1.length - (s.goneChunks (firstJob u dec e)).length)
        (s.goneChunks (firstJob u dec e)).length (s.runChunks (firstJob u dec e)).1 s (s.issue u dec 3 op work) ∧
      ∀ p : StatePart, p ≠ .queues → p.same w (s.issue u dec 3 op work) := by
  obtain ⟨-, hkind, -⟩ := starts_parts h
  have hk := attn_of_accepts hkind
  have hrun : SameRun s (s.issuing u dec) :=
    sameRun_of_onlyRegs (Leads.onlyParts (keeps_bump (Has.self.sub rfl) Leads.self))
  have hother : ∀ {off : Nat}, off < 0x100 → (s.issuing u dec).reg (atnReg u.die.val u.inst off) = s.reg (atnReg u.die.val u.inst off) :=
    fun ho => reg_bump_other (Ne.symm (atnReg_ne_issueCounter hk ho dec))
  have hnot : issueCounter u dec ∉ ATN_CNT_NAN u.die.val u.inst :: chunkRegs (firstJob u dec e) := by
    simp only [chunkRegs, List.mem_cons, List.not_mem_nil, or_false, not_or]
    exact ⟨(atnReg_ne_issueCounter hk (by decide) dec).symm, (atnReg_ne_issueCounter hk (by decide) dec).symm,
      (atnReg_ne_issueCounter hk (by decide) dec).symm, (atnReg_ne_issueCounter hk (by decide) dec).symm,
      (atnReg_ne_issueCounter hk (by decide) dec).symm⟩
  obtain ⟨hissued, hsame⟩ := workDone_issued h hwork hleft.queues (hleft.regs _ hnot)
  refine ⟨hissued, ?_, hsame⟩
  obtain ⟨hchunks, hlost, hrunReg, hlast, hframe⟩ := hleft.read.kept
    (fun a _ => reg_of_regs (hsame .regs nofun) a) (hsame .folio nofun)
  rw [runChunks_of_mem hrun.bytes.1, goneChunks_of_run hrun] at *
  refine ⟨counted_from (hother (by decide)) hchunks, counted_from (hother (by decide)) hlost, hrunReg, fun f hf => ?_,
    fun k => ?_⟩
  · have hstep : (s.issuing u dec).stepNow = s.stepNow :=
      stepNow_of (State.bump_serve _ _ _) (reg_bump_other (glbStep_ne_issueCounter dec))
    rw [← hstep, ← jobRow_of_mem hrun.bytes.1]
    exact hlast f hf
  · have h := hframe k
    unfold State.folioOf at h ⊢
    rwa [hrun.folio] at h

end

/-! ### A single query's partial (R186, R187) -/

theorem length_encode_part (p : AttnPart) (source : Nat) : (p.encode source).length = 576 := by
  have hvalues : ((List.range 128).map (fun _ => 4)).sum = 512 := by
    rw [List.map_const', List.length_range, List.sum_replicate_nat]
  unfold AttnPart.encode
  simp only [List.length_append, List.length_flatMap, List.map_map, Function.comp_def, length_natLe, hvalues]

theorem foldl_zero {α : Type} (l : List α) {f : Nat → α → Nat} (h : ∀ a ∈ l, f 0 a = 0) : l.foldl f 0 = 0 :=
  List.foldlRecOn (motive := fun n => n = 0) _ _ rfl fun n hn a ha => by rw [hn]; exact h a ha

theorem countInvalid_zero {s : State} {j : Job} {fs : List Nat} {o : Operand} (hf : isDb o.fmt = false)
    (h : ∀ f ∈ fs, s.chunkInvalid j (j.body 55 48) f = 0) : s.countInvalid j fs [o] = s := by
  have hhead : ∀ i n, s.headInvalid j o i n = 0 := fun i n => by
    unfold State.headInvalid
    rw [hf]
    exact if_neg Bool.false_ne_true
  unfold State.countInvalid State.addRec
  dsimp only
  refine if_pos (.inl ?_)
  rw [foldl_zero fs fun f hf => by rw [h f hf]]
  refine foldl_zero _ fun q _ => foldl_zero _ fun i _ => ?_
  rw [List.foldl_cons, List.foldl_nil, hhead]

/-- A run whose one query has one head writes that partial. -/
theorem read_forwardOne (s z : State) (j : Job) (q : Nat × Nat) (i : Nat) (hz : SameBytes s z) :
    (s.forwardOne j q z i).read (till (s.opnd j (j.body 11 4)).die (32 * s.partPlace j q.1 (j.body 55 48 * s.groupSize j + i))) 576 =
      (s.forwardPart (j.body 55 48) (s.headOf j (s.opnd j (j.body 19 12)) q.1 (j.body 55 48 * s.groupSize j + i))
        (s.seenKeys j q.2) (s.seenLost j q.2)).1.encode (sourceOf j.unit) := by
  unfold State.forwardOne
  dsimp only
  rw [headOf_of_bytes hz, forwardPart_of_bytes hz]
  generalize s.forwardPart _ _ _ _ = v
  have h := read_write_self (z.bump (ATN_CNT_NAN j.die j.unit.inst) v.2)
    (till (s.opnd j (j.body 11 4)).die (32 * s.partPlace j q.1 (j.body 55 48 * s.groupSize j + i))) (v.1.encode (sourceOf j.unit))
  rwa [length_encode_part] at h

/-! ### What a partial says (R186, R187) -/

theorem dotTerms_poison {xs ys : List Val} (hx : xs ≠ []) (hy : ys ≠ []) (hn : ∀ y ∈ ys, y = none) : (dotTerms xs ys).2 = true := by
  obtain ⟨x, xs, rfl⟩ := List.exists_cons_of_ne_nil hx
  obtain ⟨y, ys, rfl⟩ := List.exists_cons_of_ne_nil hy
  obtain rfl := hn y List.mem_cons_self
  unfold dotTerms
  rw [List.zip_cons_cons, List.foldl_cons]
  refine List.foldlRecOn (motive := fun v : List Num × Bool => v.2 = true) _ _ ?_ fun v hv p _ => ?_
  · cases x
    · rfl
    · rfl
  · obtain ⟨l, b⟩ := v
    dsimp only at hv ⊢
    split
    · exact hv
    · rfl

theorem dotOut_poison {xs ys : List Val} (hx : xs ≠ []) (hy : ys ≠ []) (hn : ∀ y ∈ ys, y = none) : dotOut xs ys = none := by
  have h := dotTerms_poison hx hy hn
  unfold dotOut
  split
  next hd =>
    rw [hd] at h
    dsimp only at h ⊢
    rw [h]
    rfl

/-- Settles O38: a forward pass's chunks, its fault, and its partial. -/
theorem forwardPassesWritePartials : Obligations.ForwardPassesWritePartials := by
  unfold Obligations.ForwardPassesWritePartials
  refine ⟨?_, ?_⟩
  · intro u dec e s h hstaged j fs gone oq op kvh place fits
    have hissue : exec (.attendFwd u dec) s = .next (s.issue u dec 3 0 attendFwdWork) :=
      congrArg Host.Outcome.next (if_pos hstaged)
    have hrun : SameRun s (s.issuing u dec) :=
      sameRun_of_onlyRegs (Leads.onlyParts (keeps_bump (Has.self.sub rfl) Leads.self))
    refine ⟨fun hfaults => ?_, fun hfaults hfits => ?_⟩
    · have hwork := attendFwdWork_faults (s := s.issuing u dec) (j := j)
        (by rw [runChunks_of_mem hrun.bytes.1, chunkFaults_of_run hrun]; exact hfaults)
      obtain ⟨hreason, hcount, hparts⟩ := issue_refused h hwork (by decide) (by decide)
      exact ⟨_, hissue, hreason, hparts .folio (by decide), hcount⟩
    · have hwork := attendFwdWork_runs (s := s.issuing u dec) (j := j)
        (by rw [runChunks_of_mem hrun.bytes.1, chunkFaults_of_run hrun]; exact hfaults)
        (by
          rw [jobQueries_of_mem hrun.bytes.1, opnd_of_mem hrun.bytes.1, groupSize_of_mem hrun.bytes.1]
          simp only [partPlace_of_mem hrun.bytes.1, opGranule_of_mem hrun.bytes.1]
          exact hfits)
      rw [jobQueries_of_mem hrun.bytes.1, groupSize_of_mem hrun.bytes.1, opnd_of_mem hrun.bytes.1] at hwork
      have hleft := passRead_left (s.issuing u dec) j [oq] (bits_lt _ 38 27)
      obtain ⟨hissued, hread, hsame⟩ := pass_issued h hwork (forwardAll_left hleft _ _ _)
      refine ⟨_, hissue, hissued, hread.chunks, hread.lost, hread.run.1, hread.run.2,
        fun f hf _ => ⟨hread.last f hf, (hread.folios _).2.1⟩, ?_⟩
      intro i p hq hg hfmt hvalid seen lost
      rw [read_of_mem (hsame .mem nofun), hq, hg]
      have hone := read_forwardOne (s.issuing u dec) ((s.issuing u dec).passRead j [oq]) j (i, p) 0 ?_
      · rw [opnd_of_mem hrun.bytes.1, opnd_of_mem hrun.bytes.1, partPlace_of_mem hrun.bytes.1, groupSize_of_mem hrun.bytes.1, hg,
          Nat.mul_one, Nat.add_zero, headOf_of_bytes hrun.bytes, forwardPart_of_bytes hrun.bytes, seenKeys_of_run hrun,
          seenLost_of_run hrun] at hone
        exact hone
      · obtain ⟨hcounted, hparts, -⟩ := countRun_read (s.issuing u dec) j
          (((s.issuing u dec).runChunks j).1.length - ((s.issuing u dec).goneChunks j).length) ((s.issuing u dec).runChunks j).2
          ((s.issuing u dec).goneChunks j).length ((s.issuing u dec).runChunks j).1 (bits_lt _ 38 27)
        have hbytes : SameBytes (s.issuing u dec) _ := ⟨hparts .mem (by decide), hparts .poison (by decide)⟩
        have hchunks : SameChunks (s.issuing u dec) _ := ⟨hbytes, hparts .staging (by decide), hcounted.folios⟩
        unfold State.passRead
        rw [countInvalid_zero hfmt fun f hf => ?_]
        · exact hbytes
        · rw [chunkInvalid_of_chunks hchunks, chunkInvalid_of_chunks hrun.chunks]
          rw [runChunks_of_mem hrun.bytes.1] at hf
          exact hvalid f hf
  · intro s kvh q keys lost
    refine ⟨?_, fun hkeys => ?_⟩
    · rintro rfl
      exact ⟨rfl, rfl, rfl, rfl, rfl, rfl⟩
    · obtain ⟨k, ks, rfl⟩ := List.exists_cons_of_ne_nil hkeys
      refine ⟨rfl, rfl, rfl, ?_, fun hp hq hb => ?_⟩
      · exact (List.length_map _).trans ((List.length_map _).trans List.length_range)
      · obtain ⟨x, hx, hpoisoned⟩ := hp
        have hrow : s.kvRow x.2.1 kvh 0 x.2.2.1 x.2.2.2 = List.replicate s.headDim none := by
          unfold State.kvRow
          exact if_pos hpoisoned
        have hdim : 0 < s.headDim := Nat.mul_pos (by decide) hb
        have hbad : ((k :: ks).map (fun e => dotOut q (s.kvRow e.2.1 kvh 0 e.2.2.1 e.2.2.2))).any Option.isNone = true := by
          rw [List.any_map, List.any_eq_true]
          refine ⟨x, hx, ?_⟩
          rw [Function.comp_apply, hrow, dotOut_poison hq (List.ne_nil_of_length_pos (by rwa [List.length_replicate]))
            fun y hy => (List.mem_replicate.mp hy).2]
          rfl
        exact (Bool.or_eq_true _ _).mpr (.inl hbad)

/-! ### The backward pass (R207 to R209) -/

theorem attendBwdWork_faults {s : State} {j : Job} (h : (s.runChunks j).1.any (s.chunkFaults j) = true) :
    attendBwdWork j s = failed s reasonWindow := by
  unfold attendBwdWork
  exact if_pos h

/-- Does an operand of a backward pass lie in Till? -/
def State.backFits (s : State) (j : Job) (k i : Nat) : Prop :=
  inTill (s.opGranule j (s.opnd j k) i) (s.opnd j k).fmt (s.opnd j k).len = true

theorem backFits_of_mem {s t : State} (h : t.mem = s.mem) (j : Job) (k i : Nat) : t.backFits j k i ↔ s.backFits j k i := by
  unfold State.backFits
  rw [opnd_of_mem h, opGranule_of_mem h]

/-- Do the operands of a backward pass that a query names lie in Till? -/
def State.queryFits (s : State) (j : Job) (i : Nat) : Prop :=
  s.backFits j (j.body 19 12) i ∧ s.backFits j (j.body 11 4) i ∧ s.backFits j (j.body 11 4 + 1) i ∧
    s.backFits j (j.body 11 4 + 2) i ∧ s.backFits j (j.body 11 4 + 3) i

/-- The operands of a backward pass as it reads its invalid codes. -/
def State.backOps (s : State) (j : Job) : List Operand := [s.opnd j (j.body 19 12), s.opnd j (j.body 11 4)]

/-- What a backward pass leaves of a state besides memory and its replays. -/
structure BackLeft (j : Job) (s t : State) : Prop where
  left : PassLeft j s t
  rows : s.goneChunks j ≠ [] → t.serve.rows = mapRows j.prog j.row (fun w => { w with replayBad := true }) 0 s.serve.rows

theorem backwardRow_left {s z : State} {j : Job} (h : BackLeft j s z) (kvh n i : Nat) (keys : List (Nat × Nat × Nat × Bool))
    (lost : Bool) : BackLeft j s (z.backwardRow j kvh n i keys lost) := by
  have hparts : onlyParts [.mem, .poison, .replays] z (z.backwardRow j kvh n i keys lost) :=
    Leads.onlyParts (keeps_backwardRow (Has.self.sub rfl) Leads.self)
  refine ⟨h.left.then (onlyRegs_of_regs (hparts .regs (by decide))) (hparts .folio (by decide)) (hparts .queues (by decide)),
    fun hgone => ?_⟩
  rw [hparts .serve (by decide)]
  exact h.rows hgone

theorem passRead_serve (s : State) (j : Job) (ops : List Operand) (hl : j.layer < 4096) : (s.passRead j ops).serve = s.serve :=
  (onlyParts_countInvalid _ _ _ _ .serve (by decide)).trans ((countRun_read s j _ _ _ _ hl).2.1 .serve (by decide))

/-- The rows of a backward pass that lost keys are marked. -/
theorem backMarked_left {s z : State} {j : Job} (h : PassLeft j s z) (hserve : z.serve = s.serve) (poisoned : Bool) :
    BackLeft j s (if !(s.goneChunks j).isEmpty || poisoned then
      z.markRows j.prog j.row (fun w => { w with replayBad := true }) else z) := by
  split
  · refine ⟨h.then (onlyRegs_refl _ z) rfl rfl, fun _ => ?_⟩
    unfold State.markRows
    rw [hserve]
  · next hlost =>
    refine ⟨h, fun hgone => absurd ?_ hlost⟩
    rw [Bool.or_eq_true, Bool.not_eq_true', List.isEmpty_eq_false_iff]
    exact .inl hgone

theorem attendBwdWork_runs {s : State} {j : Job} (hl : j.layer < 4096) (h : (s.runChunks j).1.any (s.chunkFaults j) = false)
    (hfits : ∀ q ∈ s.jobQueries j, s.queryFits j q.1) (hlast : s.backFits j (j.body 11 4 + 4) (s.jobRow j 9 8 - 1)) :
    ∃ w, attendBwdWork j s = done w ∧ BackLeft j s w := by
  unfold attendBwdWork
  refine ⟨_, (if_neg fun he => Bool.false_ne_true (h.symm.trans he)).trans ((if_neg ?_).trans rfl), ?_⟩
  · rw [Bool.or_eq_true, List.any_eq_true, not_or]
    refine ⟨?_, ?_⟩
    · rintro ⟨q, hq, hbad⟩
      obtain ⟨h1, h2, h3, h4, h5⟩ := hfits q hq
      unfold State.backFits at h1 h2 h3 h4 h5
      simp [h1, h2, h3, h4, h5] at hbad
    · unfold State.backFits at hlast
      simp [hlast]
  · refine List.foldlRecOn (motive := fun t : State => BackLeft j s t) _ _ ?_ fun t ht q _ =>
      List.foldlRecOn (motive := fun t : State => BackLeft j s t) _ _ ht fun t ht i _ => backwardRow_left ht _ _ _ _ _
    exact backMarked_left (passRead_left s j (s.backOps j) hl) (passRead_serve s j (s.backOps j) hl) _

/-- Settles O39: a backward pass's chunks, its fault, and the rows it marks. -/
theorem backwardPassesMarkLostRows : Obligations.BackwardPassesMarkLostRows := by
  unfold Obligations.BackwardPassesMarkLostRows
  intro u dec e s h hstaged j fs gone first fits
  have hissue : exec (.attendBwd u dec) s = .next (s.issue u dec 3 1 attendBwdWork) :=
    congrArg Host.Outcome.next (if_pos hstaged)
  have hrun : SameRun s (s.issuing u dec) :=
    sameRun_of_onlyRegs (Leads.onlyParts (keeps_bump (Has.self.sub rfl) Leads.self))
  refine ⟨fun hfaults => ?_, fun hfaults hfits hlast => ?_⟩
  · have hwork := attendBwdWork_faults (s := s.issuing u dec) (j := j)
      (by rw [runChunks_of_mem hrun.bytes.1, chunkFaults_of_run hrun]; exact hfaults)
    obtain ⟨hreason, hcount, hparts⟩ := issue_refused h hwork (by decide) (by decide)
    exact ⟨_, hissue, hreason, hparts .replays (by decide), hcount⟩
  · obtain ⟨w, hwork, hleft, hrows⟩ := attendBwdWork_runs (s := s.issuing u dec) (j := j) (bits_lt _ 38 27)
      (by rw [runChunks_of_mem hrun.bytes.1, chunkFaults_of_run hrun]; exact hfaults)
      (by
        rw [jobQueries_of_mem hrun.bytes.1]
        unfold State.queryFits
        simp only [backFits_of_mem hrun.bytes.1]
        exact hfits)
      (by rw [backFits_of_mem hrun.bytes.1, jobRow_of_mem hrun.bytes.1]; exact hlast)
    obtain ⟨hissued, hread, hsame⟩ := pass_issued h hwork hleft
    refine ⟨_, hissue, hissued, hread.chunks, hread.lost, fun hgone => ?_⟩
    rw [goneChunks_of_run hrun] at hrows
    exact (congrArg (fun v => v.rows) (hsame .serve nofun)).trans (hrows hgone)

end Sys2Proof.Machine
end

section
/-! SUPPORT. What APPEND writes of a token's keys and values (O44; R177, R227). -/

namespace Sys2Proof.Machine

theorem folioWidth_of_mem {s t : State} (h : t.mem = s.mem) : t.folioWidth = s.folioWidth := by
  unfold State.folioWidth
  rw [geo_of_mem h]

theorem rowBytes_of_mem {s t : State} (h : t.mem = s.mem) : t.rowBytes = s.rowBytes := by
  unfold State.rowBytes
  rw [headBlocks_of_mem h, folioWidth_of_mem h]

/-! ### Writes that carry poison (R28, R29) -/

theorem onlyBytes_writeP (s : State) (a : Nat) (bs : List Byte) (bad : Bool) : onlyBytes a bs.length s (s.writeP a bs bad) := by
  unfold State.writeP
  split
  · exact onlyBytes_trans (onlyBytes_write s a bs) (onlyBytes_spoil _ _ _)
  · exact onlyBytes_write s a bs

theorem mem_writeP (s : State) (a : Nat) (bs : List Byte) (bad : Bool) : (s.writeP a bs bad).mem = (s.write a bs).mem := by
  unfold State.writeP
  split
  · rfl
  · rfl

theorem read_writeP_self (s : State) (a : Nat) (bs : List Byte) (bad : Bool) : (s.writeP a bs bad).read a bs.length = bs := by
  rw [read_of_mem (mem_writeP s a bs bad)]
  exact read_write_self s a bs

theorem read_writeP_other {s : State} {a b n : Nat} {bs : List Byte} {bad : Bool} (h : b + n ≤ a ∨ a + bs.length ≤ b) :
    (s.writeP a bs bad).read b n = s.read b n := by
  rw [read_of_mem (mem_writeP s a bs bad)]
  exact read_write_other h

theorem length_read (s : State) (a n : Nat) : (s.read a n).length = n := by
  unfold State.read
  rw [List.length_map, List.length_range]

/-! ### The rows of a lane block (R177) -/

/-- A row's elements and its denominations lie in their lane block, the elements below all denominations. -/
theorem row_within (s : State) {r : Nat} (hr : r < 64) : r * s.rowBytes + s.rowBytes ≤ 64 * s.rowBytes ∧
    s.headBlocks * r + s.headBlocks ≤ 64 * s.headBlocks ∧ s.laneBlock = 64 * s.rowBytes + 64 * s.headBlocks := by
  have h1 : (r + 1) * s.rowBytes ≤ 64 * s.rowBytes := Nat.mul_le_mul_right _ hr
  have h2 : s.headBlocks * (r + 1) ≤ s.headBlocks * 64 := Nat.mul_le_mul_left _ hr
  rw [Nat.add_mul, Nat.one_mul] at h1
  rw [Nat.mul_add, Nat.mul_one] at h2
  exact ⟨h1, by omega, rfl⟩

/-- Where a row of a kind lies in a folio with one head. -/
theorem blockKeys_one (s : State) (base kind r : Nat) : s.blockKeys base 0 kind r 0 =
    (base + kind * s.laneBlock + r * s.rowBytes, base + kind * s.laneBlock + 64 * s.rowBytes + s.headBlocks * r) := by
  unfold State.blockKeys
  simp only [Nat.zero_mul, Nat.zero_add, Nat.mul_zero, Nat.add_zero]

/-- The write of a row's elements, and that of its denominations. -/
def State.appendRow (s z : State) (base kind r src da : Nat) : State :=
  (z.writeP (s.blockKeys base 0 kind r 0).1 (s.read src s.rowBytes) (s.bad src s.rowBytes)).writeP
    (s.blockKeys base 0 kind r 0).2 (s.read da s.headBlocks) (s.bad da s.headBlocks)

section
variable (s z : State) (base : Nat) {kind r : Nat} (hr : r < 64) (src da : Nat)
include hr

theorem onlyBytes_appendRow : onlyBytes (base + kind * s.laneBlock) s.laneBlock z (s.appendRow z base kind r src da) := by
  obtain ⟨hrow, hden, hlane⟩ := row_within s hr
  unfold State.appendRow
  rw [blockKeys_one]
  dsimp only
  have hrows := onlyBytes_writeP z (base + kind * s.laneBlock + r * s.rowBytes) (s.read src s.rowBytes) (s.bad src s.rowBytes)
  have hdens := onlyBytes_writeP (z.writeP (base + kind * s.laneBlock + r * s.rowBytes) (s.read src s.rowBytes) (s.bad src s.rowBytes))
    (base + kind * s.laneBlock + 64 * s.rowBytes + s.headBlocks * r) (s.read da s.headBlocks) (s.bad da s.headBlocks)
  rw [length_read] at hrows hdens
  exact onlyBytes_trans (onlyBytes_mono (by omega) (by omega) hrows) (onlyBytes_mono (by omega) (by omega) hdens)

theorem read_appendRow :
    (s.appendRow z base kind r src da).read (s.blockKeys base 0 kind r 0).1 s.rowBytes = s.read src s.rowBytes ∧
      (s.appendRow z base kind r src da).read (s.blockKeys base 0 kind r 0).2 s.headBlocks = s.read da s.headBlocks := by
  obtain ⟨hrow, hden, hlane⟩ := row_within s hr
  unfold State.appendRow
  refine ⟨?_, ?_⟩
  · rw [read_writeP_other]
    · have h := read_writeP_self z (s.blockKeys base 0 kind r 0).1 (s.read src s.rowBytes) (s.bad src s.rowBytes)
      rwa [length_read] at h
    · rw [blockKeys_one]
      dsimp only
      omega
  · have h := read_writeP_self (z.writeP (s.blockKeys base 0 kind r 0).1 (s.read src s.rowBytes) (s.bad src s.rowBytes))
      (s.blockKeys base 0 kind r 0).2 (s.read da s.headBlocks) (s.bad da s.headBlocks)
    rwa [length_read] at h

end

theorem onlyBytes_of_bytes {s t w x : State} (h : SameBytes s t) (hw : SameBytes w x) {a n : Nat} (ho : onlyBytes a n t w) :
    onlyBytes a n s x :=
  ⟨fun k hk => (byte_of_mem hw.1 k).trans ((ho.1 k hk).trans (byte_of_mem h.1 k)),
    fun g hg => (congrArg (look false · g) hw.2).trans ((ho.2 g hg).trans (congrArg (look false · g) h.2))⟩

/-- Bytes that a change leaves alone read as before. -/
theorem read_of_onlyBytes {s t : State} {a n b m : Nat} (h : onlyBytes a n s t) (hb : b + m ≤ a ∨ a + n ≤ b) :
    t.read b m = s.read b m := by
  unfold State.read
  refine List.map_congr_left fun i hi => h.1 _ ?_
  have := List.mem_range.mp hi
  omega

/-- The state after one token's key row and value row of a folio with one head. -/
def State.appendOne (s z : State) (base r ks kd vs vd : Nat) : State := s.appendRow (s.appendRow z base 0 r ks kd) base 1 r vs vd

section
variable (s z : State) (base : Nat) {r : Nat} (hr : r < 64) (ks kd vs vd : Nat)
include hr

theorem onlyBytes_appendOne : onlyBytes base (2 * s.laneBlock) z (s.appendOne z base r ks kd vs vd) :=
  onlyBytes_trans (onlyBytes_mono (by omega) (by omega) (onlyBytes_appendRow s z base (kind := 0) hr ks kd))
    (onlyBytes_mono (by omega) (by omega) (onlyBytes_appendRow s _ base (kind := 1) hr vs vd))

/-- The elements and denominations of a row of a kind, as they were read. -/
def State.rowStands (s w : State) (base kind r src da : Nat) : Prop :=
  w.read (s.blockKeys base 0 kind r 0).1 s.rowBytes = s.read src s.rowBytes ∧
    w.read (s.blockKeys base 0 kind r 0).2 s.headBlocks = s.read da s.headBlocks

theorem read_appendOne : s.rowStands (s.appendOne z base r ks kd vs vd) base 0 r ks kd ∧
    s.rowStands (s.appendOne z base r ks kd vs vd) base 1 r vs vd := by
  obtain ⟨hrow, hden, hlane⟩ := row_within s hr
  have hother := onlyBytes_appendRow s (s.appendRow z base 0 r ks kd) base (kind := 1) hr vs vd
  obtain ⟨hkeys, hdens⟩ := read_appendRow s z base (kind := 0) hr ks kd
  refine ⟨⟨(read_of_onlyBytes hother ?_).trans hkeys, (read_of_onlyBytes hother ?_).trans hdens⟩,
    read_appendRow s _ base hr vs vd⟩
  all_goals
    rw [blockKeys_one]
    dsimp only
    omega

end

/-- A row that stands stays where the memory does. -/
theorem rowStands_of_mem {s t w x : State} (h : t.mem = s.mem) (hw : x.mem = w.mem) {base kind r src da : Nat}
    (hrow : t.rowStands w base kind r src da) : s.rowStands x base kind r src da := by
  unfold State.rowStands at hrow ⊢
  rwa [blockKeys_of_mem h, rowBytes_of_mem h, headBlocks_of_mem h, read_of_mem h, read_of_mem h, ← read_of_mem hw,
    ← read_of_mem hw] at hrow

/-! ### APPEND's work (R227) -/

theorem appendWork_acc {s : State} {j : Job} (h : j.acc = true) : appendWork j s = failed s reasonAcc := by
  unfold appendWork
  exact if_pos h

/-- Where an operand's row of a token lies, and its denominations. -/
def State.rowSrc (s : State) (j : Job) (o : Operand) (i : Nat) : Nat := till (o.readDie j.die) (32 * s.opGranule j o i)
def State.rowDens (s : State) (j : Job) (o : Operand) (i : Nat) : Nat :=
  s.rowSrc j o i + roundUp32 (4 * s.folioWidth * ceilDiv o.len 32)

/-- The rows of an append's order, marked where a token holds poison. -/
def State.appendMarked (s : State) (j : Job) : State :=
  if s.tokenBad j (s.opnd j (j.body 55 48)) (j.body 39 28) || s.tokenBad j (s.opnd j (j.body 47 40)) (j.body 39 28) then
    s.poisonRows j else s

theorem rowSrc_of_mem {s t : State} (h : t.mem = s.mem) (j : Job) (o : Operand) (i : Nat) : t.rowSrc j o i = s.rowSrc j o i := by
  unfold State.rowSrc
  rw [opGranule_of_mem h]

theorem rowDens_of_mem {s t : State} (h : t.mem = s.mem) (j : Job) (o : Operand) (i : Nat) : t.rowDens j o i = s.rowDens j o i := by
  unfold State.rowDens
  rw [rowSrc_of_mem h, folioWidth_of_mem h]

theorem appendable_of_run {s t : State} (h : SameRun s t) (j : Job) (i : Nat) : t.appendable j i = s.appendable j i := by
  unfold State.appendable State.seq
  dsimp only
  rw [jobRow_of_mem h.bytes.1, jobFolio_of_run h, jobSlot_of_mem h.bytes.1, h.seqs]

theorem rowWrites_one {s : State} {j : Job} {i fr : Nat} (h : (s.jobFolio j ((s.jobRow j 7 4 + i) / 256)).frame = some fr)
    (o : Operand) (kind : Nat) : s.rowWrites j o kind i 0 =
      [⟨(s.blockKeys (s.frameAt ((s.jobRow j 7 4 + i) % 4) fr + j.layer * s.quarterLayer) 0 kind ((s.jobRow j 7 4 + i) % 256 / 4) 0).1,
        s.read (s.rowSrc j o i) s.rowBytes, s.bad (s.rowSrc j o i) s.rowBytes⟩,
       ⟨(s.blockKeys (s.frameAt ((s.jobRow j 7 4 + i) % 4) fr + j.layer * s.quarterLayer) 0 kind ((s.jobRow j 7 4 + i) % 256 / 4) 0).2,
        s.read (s.rowDens j o i) s.headBlocks, s.bad (s.rowDens j o i) s.headBlocks⟩] := by
  unfold State.rowWrites
  dsimp only
  rw [h]
  dsimp only
  rw [Nat.mul_zero, Nat.mul_zero, Nat.add_zero, Nat.add_zero]
  rfl

theorem onlyParts_appendMarked (s : State) (j : Job) : onlyParts [.serve] s (s.appendMarked j) := by
  unfold State.appendMarked
  split
  · exact Leads.onlyParts (keeps_markRows (Has.self.sub rfl) Leads.self)
  · exact onlyParts_refl _ _

theorem onlyParts_appendOne (s z : State) (base r ks kd vs vd : Nat) :
    onlyParts [.mem, .poison] z (s.appendOne z base r ks kd vs vd) :=
  Leads.onlyParts (keeps_writeP (Has.self.sub rfl) (keeps_writeP (Has.self.sub rfl) (keeps_writeP (Has.self.sub rfl)
    (keeps_writeP (Has.self.sub rfl) Leads.self))))

theorem appendWork_one {s : State} {j : Job} {ka va : Operand} {fr : Nat} (hacc : j.acc = false) (hcount : j.body 27 20 = 1)
    (hka : s.opnd j (j.body 55 48) = ka) (hva : s.opnd j (j.body 47 40) = va)
    (hkf : ka.fmt + 1 = s.folioWidth) (hvf : va.fmt + 1 = s.folioWidth) (happ : s.appendable j (j.body 39 28) = true)
    (hkin : inTill (s.opGranule j ka (j.body 39 28)) ka.fmt ka.len = true)
    (hvin : inTill (s.opGranule j va (j.body 39 28)) va.fmt va.len = true) (hlayer : j.layer < s.geo 5 4)
    (hframe : (s.jobFolio j ((s.jobRow j 7 4 + j.body 39 28) / 256)).frame = some fr) (hheads : s.kvCount = 1) :
    appendWork j s = done (s.appendOne (s.appendMarked j) (s.frameAt ((s.jobRow j 7 4 + j.body 39 28) % 4) fr + j.layer * s.quarterLayer)
      ((s.jobRow j 7 4 + j.body 39 28) % 256 / 4) (s.rowSrc j ka (j.body 39 28)) (s.rowDens j ka (j.body 39 28))
      (s.rowSrc j va (j.body 39 28)) (s.rowDens j va (j.body 39 28))) := by
  subst hka hva
  have htoks : (List.range (j.body 27 20)).map (j.body 39 28 + ·) = [j.body 39 28] := by
    rw [hcount]
    rfl
  unfold appendWork
  dsimp only
  rw [htoks, if_neg (by rw [hacc]; exact Bool.false_ne_true), if_neg (by simp [hkf, hvf]), if_neg (by simp [happ, hkin, hvin, hlayer])]
  rw [hheads, List.flatMap_singleton, List.range_one, List.flatMap_singleton, rowWrites_one hframe, rowWrites_one hframe]
  unfold State.appendMarked
  rw [List.any_cons, List.any_nil, Bool.or_false]
  generalize (if (s.tokenBad j (s.opnd j (j.body 55 48)) (j.body 39 28) || s.tokenBad j (s.opnd j (j.body 47 40)) (j.body 39 28)) = true
    then s.poisonRows j else s) = z
  rw [List.cons_append, List.cons_append, List.nil_append, List.foldl_cons, List.foldl_cons, List.foldl_cons, List.foldl_cons,
    List.foldl_nil]
  rfl

/-- Settles O44: an append refused, and a token's key and value row in its folio. -/
theorem appendedRowsReachTheirFolio : Obligations.AppendedRowsReachTheirFolio := by
  unfold Obligations.AppendedRowsReachTheirFolio
  intro u dec e s h j ka va i p base src
  refine ⟨fun hacc => ?_, fun fr hacc hcount hkf hvf happ hkin hvin hlayer hframe hheads => ?_⟩
  · obtain ⟨hreason, hcount, hparts⟩ := issue_refused h (appendWork_acc hacc) (by decide) (by decide)
    exact ⟨_, rfl, hreason, hcount, hparts .folio (by decide)⟩
  · have hrun : SameRun s (s.issuing u dec) :=
      sameRun_of_onlyRegs (Leads.onlyParts (keeps_bump (Has.self.sub rfl) Leads.self))
    have hmem := hrun.bytes.1
    have hwork := appendWork_one (s := s.issuing u dec) (j := j) (fr := fr) hacc hcount (opnd_of_mem hmem j _) (opnd_of_mem hmem j _)
      (hkf.trans (folioWidth_of_mem hmem).symm) (hvf.trans (folioWidth_of_mem hmem).symm) ((appendable_of_run hrun j i).trans happ)
      ((congrArg (inTill · ka.fmt ka.len) (opGranule_of_mem hmem j ka i)).trans hkin)
      ((congrArg (inTill · va.fmt va.len) (opGranule_of_mem hmem j va i)).trans hvin)
      (Nat.lt_of_lt_of_eq hlayer (geo_of_mem hmem 5 4).symm)
      (by rw [jobRow_of_mem hmem, jobFolio_of_run hrun]; exact hframe) ((kvCount_of_mem hmem).trans hheads)
    rw [jobRow_of_mem hmem, frameAt_of_mem hmem, quarterLayer_of_mem hmem, rowDens_of_mem hmem, rowSrc_of_mem hmem,
      rowDens_of_mem hmem, rowSrc_of_mem hmem] at hwork
    have hmarked := onlyParts_appendMarked (s.issuing u dec) j
    have hr : p % 256 / 4 < 64 := by omega
    obtain ⟨hkeys, hvalues⟩ := read_appendOne (s.issuing u dec) ((s.issuing u dec).appendMarked j) (base fr) hr (s.rowSrc j ka i)
      (s.rowDens j ka i) (s.rowSrc j va i) (s.rowDens j va i)
    have hone := onlyParts_appendOne (s.issuing u dec) ((s.issuing u dec).appendMarked j) (base fr) (p % 256 / 4) (s.rowSrc j ka i)
      (s.rowDens j ka i) (s.rowSrc j va i) (s.rowDens j va i)
    have honly := onlyBytes_appendOne (s.issuing u dec) ((s.issuing u dec).appendMarked j) (base fr) hr (s.rowSrc j ka i)
      (s.rowDens j ka i) (s.rowSrc j va i) (s.rowDens j va i)
    have hparts := onlyParts_trans (onlyParts_mono (by decide) hmarked) (onlyParts_mono (by decide) hone)
      (ps := [.mem, .poison, .serve])
    obtain ⟨hissued, hleft, -, hsame⟩ := doneWork_issued h hwork hparts (by decide) (by decide)
    refine ⟨_, rfl, hissued, ?_, ?_, hleft .folio (by decide)⟩
    · rintro o n (⟨rfl, rfl⟩ | ⟨rfl, rfl⟩)
      · exact rowStands_of_mem hmem (hsame .mem nofun) hkeys
      · exact rowStands_of_mem hmem (hsame .mem nofun) hvalues
    · have hlane : (s.issuing u dec).laneBlock = s.laneBlock := by
        unfold State.laneBlock
        rw [rowBytes_of_mem hmem, headBlocks_of_mem hmem]
      rw [hlane] at honly
      exact onlyBytes_of_bytes (hrun.bytes.trans ⟨hmarked .mem (by decide), hmarked .poison (by decide)⟩)
        ⟨hsame .mem nofun, hsame .poison nofun⟩ honly

end Sys2Proof.Machine
end

section
/-! SUPPORT. Staged folios, their prefetches, and spill copies (O45; R193, R195, R196). -/

namespace Sys2Proof.Machine

/-! ### What reaching a host depends on (R390, R420, R426) -/

/-- Two states hold the same memory, post, ports and port registers. -/
structure SamePorts (s t : State) : Prop where
  mem : t.mem = s.mem
  serve : t.serve = s.serve
  ports : t.ports = s.ports
  links : ∀ p, p < 2 → t.reg (HPT_LINK p) = s.reg (HPT_LINK p)

section
variable {s t : State} (h : SamePorts s t)
include h

theorem ownNode_of_ports (a : Word64) : t.ownNode a = s.ownNode a := by
  unfold State.ownNode State.node
  rw [h.serve, chr_of_mem h.mem]

theorem hostWin_of_ports (a : Word64) (len : Nat) (write : Bool) : t.hostWin a len write = s.hostWin a len write := by
  have hport : t.port = s.port := by
    funext p
    unfold State.port
    rw [h.ports]
  unfold State.hostWin State.windowFor
  rw [ownNode_of_ports h, hport]

theorem portUp_of_ports {p : Nat} (hp : p < 2) : t.portUp p = s.portUp p := by
  unfold State.portUp State.port
  rw [flag_of_reg (h.links p hp), h.ports]

end

theorem hostWin_port {s : State} {a : Word64} {len p fn : Nat} {write : Bool} {x : Word64}
    (h : s.hostWin a len write = some (p, fn, x)) : p < 2 := by
  unfold State.hostWin at h
  dsimp only at h
  split at h
  · next hspace =>
    rw [Bool.and_eq_true, Bool.or_eq_true, beq_iff_eq, beq_iff_eq] at hspace
    split at h
    · split at h
      · obtain ⟨rfl, -⟩ := Prod.mk.inj (Option.some.inj h)
        omega
      · exact nomatch h
    · exact nomatch h
  · exact nomatch h

theorem samePorts_issuing (s : State) (u : EngUnit) (dec : Bool) : SamePorts s (s.issuing u dec) :=
  ⟨mem_issuing s u dec, State.bump_serve _ _ _, State.bump_ports _ _ _, fun p hp => reg_bump_other fun he => by
    have hlow : 0x01000000 ≤ unitReg u (if dec then 0x108 else 0x100) := by
      unfold unitReg asyReg atnReg vecReg dmaReg dieBase
      cases u.kind
      all_goals
        dsimp only
        omega
    rw [issueCounter_eq] at he
    rw [he] at hlow
    unfold HPT_LINK hpt at hlow
    omega⟩

/-! ### STAGE (R195) -/

theorem toStage_of_run {s t : State} (h : SameRun s t) (j : Job) : t.toStage j = s.toStage j := by
  have hfolio : t.jobFolio j = s.jobFolio j := funext (jobFolio_of_run h j)
  have hstaged : t.stagedFor = s.stagedFor := by
    funext d e l
    exact stagedFor_of_chunks h.chunks d e l
  unfold State.toStage State.seq
  rw [hfolio, hstaged, jobSlot_of_mem h.bytes.1, jobRow_of_mem h.bytes.1, h.seqs]

theorem put_nil {α : Type} [DecidableEq α] {d v : α} (k : Nat) (h : v ≠ d) : put d [] k v = [(k, v)] := by
  unfold put insertAt
  simp [h]

/-- Where a quarter-layer of an entry lies in the Reserve. -/
def State.reserveOf (s : State) (d entry layer : Nat) : Word64 :=
  (s.folioOf entry).reserve + BitVec.ofNat 64 (d * s.pitchBytes + layer * s.quarterLayer)

/-- A prefetch whose Reserve slot is within reach asks the host for it. -/
theorem startPrefetch_asks {s : State} {d n entry layer p fn : Nat} {x : Word64}
    (hown : s.ownNode (s.reserveOf d entry layer) = true)
    (hwin : s.hostWin (s.reserveOf d entry layer) s.quarterLayer false = some (p, fn, x)) (hup : s.portUp p = true) :
    s.startPrefetch d n entry layer =
      ({ s with staging := put Stage.none s.staging (d * 4096 + n) ⟨entry, layer, none⟩ } : State).send
        (.hostRead p fn x s.quarterLayer) := by
  have hsame : SamePorts s ({ s with staging := put Stage.none s.staging (d * 4096 + n) ⟨entry, layer, none⟩ } : State) :=
    ⟨rfl, rfl, rfl, fun _ _ => rfl⟩
  unfold State.startPrefetch
  dsimp only
  generalize hz : ({ s with staging := put Stage.none s.staging (d * 4096 + n) ⟨entry, layer, none⟩ } : State) = z at hsame ⊢
  have hreserve : (z.folioOf entry).reserve + BitVec.ofNat 64 (d * z.pitchBytes + layer * z.quarterLayer) = s.reserveOf d entry layer := by
    rw [← hz]
    rfl
  rw [hreserve, ownNode_of_ports hsame, if_pos hown, quarterLayer_of_mem hsame.mem, hostWin_of_ports hsame, hwin]
  dsimp only
  rw [portUp_of_ports hsame (hostWin_port hwin), if_pos hup]

theorem stageWork_one {s : State} {j : Job} {f n : Nat} (hf : s.toStage j = [f]) (hnone : s.staging = [])
    (hfree : s.freeStage j.die = some n) :
    stageWork j s = done (s.startPrefetch j.die n (s.jobRow j 11 10 + f) j.layer) := by
  unfold stageWork
  rw [hf, List.foldl_cons, List.foldl_nil]
  unfold State.stageOne
  have hkept : ∀ q : Nat × Stage → Bool, ({ s with staging := s.staging.filter q } : State) = s := fun q => by
    rw [hnone]
    cases s
    dsimp only at hnone
    subst hnone
    rfl
  dsimp only
  rw [hkept, hfree]

theorem freeStage_of_run {s t : State} (h : SameRun s t) (d : Nat) : t.freeStage d = s.freeStage d := by
  unfold State.freeStage
  rw [h.staging, geo_of_mem h.bytes.1]

theorem stage_exec {s : State} {u : EngUnit} {dec : Bool} (h : s.stageRoom u dec = true) :
    exec (.folioStage u dec) s = .next (s.issue u dec 7 1 stageWork) := congrArg Host.Outcome.next (if_pos h)

section
variable {s : State} {u : EngUnit} {dec : Bool} {e : QEntry} (h : s.starts u dec 7 1 e = true)
include h

theorem stage_nothing (hf : s.toStage (firstJob u dec e) = []) : issued u dec e true s (s.issue u dec 7 1 stageWork) ∧
    onlyParts [.regs, .queues] s (s.issue u dec 7 1 stageWork) := by
  have hrun : SameRun s (s.issuing u dec) :=
    sameRun_of_onlyRegs (Leads.onlyParts (keeps_bump (Has.self.sub rfl) Leads.self))
  have hwork : stageWork (firstJob u dec e) (s.issuing u dec) = done (s.issuing u dec) := by
    unfold stageWork
    rw [toStage_of_run hrun, hf, List.foldl_nil]
  obtain ⟨hissued, hparts, -⟩ := doneWork_issued (ps := []) h hwork (onlyParts_refl _ _) (by decide) (by decide)
  exact ⟨hissued, hparts⟩

theorem stage_one {f n p fn : Nat} {x : Word64} (hf : s.toStage (firstJob u dec e) = [f]) (hnone : s.staging = [])
    (hfree : s.freeStage u.die.val = some n) (hk : s.jobRow (firstJob u dec e) 11 10 + f < 32768)
    (hown : s.ownNode (s.reserveOf u.die.val (s.jobRow (firstJob u dec e) 11 10 + f) e.layer) = true)
    (hwin : s.hostWin (s.reserveOf u.die.val (s.jobRow (firstJob u dec e) 11 10 + f) e.layer) s.quarterLayer false = some (p, fn, x))
    (hup : s.portUp p = true) : issued u dec e true s (s.issue u dec 7 1 stageWork) ∧
      (s.issue u dec 7 1 stageWork).staging =
        [(u.die.val * 4096 + n, ⟨s.jobRow (firstJob u dec e) 11 10 + f, e.layer, none⟩)] ∧
      (s.issue u dec 7 1 stageWork).out = s.out ++ [.hostRead p fn x s.quarterLayer] := by
  have hrun : SameRun s (s.issuing u dec) :=
    sameRun_of_onlyRegs (Leads.onlyParts (keeps_bump (Has.self.sub rfl) Leads.self))
  have hports := samePorts_issuing s u dec
  have hreserve : ∀ d k l, (s.issuing u dec).reserveOf d k l = s.reserveOf d k l := fun d k l => by
    unfold State.reserveOf State.folioOf State.pitchBytes
    rw [hrun.folio, geo_of_mem hrun.bytes.1, quarterLayer_of_mem hrun.bytes.1]
  have hwork := stageWork_one ((toStage_of_run hrun _).trans hf) (hrun.staging.trans hnone) ((freeStage_of_run hrun _).trans hfree)
  rw [jobRow_of_mem hrun.bytes.1, startPrefetch_asks (p := p) (fn := fn) (x := x)] at hwork
  · obtain ⟨hissued, hsame⟩ := workDone_issued h hwork (State.send_queues _ _) rfl
    refine ⟨hissued, (hsame .staging nofun).trans ?_, (hsame .out nofun).trans ?_⟩
    · rw [State.send_staging]
      dsimp only
      rw [hrun.staging, hnone]
      refine put_nil _ fun he => ?_
      have := congrArg Stage.entry he
      dsimp only [Stage.none] at this
      omega
    · unfold State.send
      dsimp only
      rw [quarterLayer_of_mem hrun.bytes.1]
      exact congrArg (· ++ _) (State.bump_out _ _ _)
  · rw [hreserve, ownNode_of_ports hports]
    exact hown
  · rw [hreserve, hostWin_of_ports hports, quarterLayer_of_mem hrun.bytes.1]
    exact hwin
  · rw [portUp_of_ports hports (hostWin_port hwin)]
    exact hup

end

/-! ### The end of a prefetch (R195) -/

theorem prefetchEnd_done {s : State} {d n : Nat} {g : Stage} (h : s.staging.find? (fun e => e.1 == d * 4096 + n) = some (d * 4096 + n, g))
    (hd : g.done.isSome = true) (ok : Bool) (data : List (Byte × Bool)) : s.prefetchEnd d n ok data = s := by
  unfold State.prefetchEnd
  rw [h]
  exact if_pos hd

theorem prefetchEnd_failed {s : State} {d n : Nat} {g : Stage} (h : s.staging.find? (fun e => e.1 == d * 4096 + n) = some (d * 4096 + n, g))
    (hd : g.done = none) (data : List (Byte × Bool)) : s.prefetchEnd d n false data = s.prefetchFailed d n g := by
  unfold State.prefetchEnd
  rw [h]
  dsimp only
  rw [hd]
  rfl

theorem prefetchEnd_arrived {s : State} {d n : Nat} {g : Stage} (h : s.staging.find? (fun e => e.1 == d * 4096 + n) = some (d * 4096 + n, g))
    (hd : g.done = none) {data : List (Byte × Bool)} (hl : data.length = s.quarterLayer) : s.prefetchEnd d n true data =
      ({ s.spaceWrite 0 (s.stageAt d n) data with
        staging := put Stage.none (s.spaceWrite 0 (s.stageAt d n) data).staging (d * 4096 + n) { g with done := some true } }
        : State).bump (FOL_CNT_FETCH d) 1 := by
  unfold State.prefetchEnd
  rw [h]
  dsimp only
  rw [hd, hl]
  exact (if_neg Bool.false_ne_true).trans (if_neg (by simp))

theorem mem_spaceWrite (s : State) (space o : Nat) (bs : List (Byte × Bool)) :
    (s.spaceWrite space o bs).mem = (s.write (spaceKey space o) (bs.map Prod.fst)).mem := by
  unfold State.spaceWrite
  dsimp only
  exact List.foldlRecOn (motive := fun t : State => t.mem = (s.write (spaceKey space o) (bs.map Prod.fst)).mem) _ _ rfl
    fun t ht e _ => by
      split
      · exact ht
      · exact ht

theorem read_spaceWrite (s : State) {o : Nat} (ho : o < 2 ^ 48) (bs : List (Byte × Bool)) :
    (s.spaceWrite 0 o bs).read o bs.length = bs.map Prod.fst := by
  have hkey : spaceKey 0 o = o := by
    unfold spaceKey keyOf
    rw [if_neg (by decide), Nat.mod_eq_of_lt ho, Nat.zero_mul, Nat.zero_add]
  rw [read_of_mem (mem_spaceWrite s 0 o bs), hkey]
  have h := read_write_self s o (bs.map Prod.fst)
  rwa [List.length_map] at h

theorem stageAt_lt (s : State) (d n : Nat) : s.stageAt d n < 2 ^ 48 := by
  unfold State.stageAt keyOf
  omega

theorem prefetchFailed_spec (s : State) (d n : Nat) (g : Stage) : counted (FOL_CNT_FETCHERR d) 1 s (s.prefetchFailed d n g) ∧
    ((s.prefetchFailed d n g).folioOf g.entry).failed = true ∧ (s.prefetchFailed d n g).mem = s.mem ∧
      (s.prefetchFailed d n g).staging = put Stage.none s.staging (d * 4096 + n) { g with done := some false } := by
  unfold State.prefetchFailed
  refine ⟨counted_from rfl (counted_bump _), ?_, State.bump_mem _ _ _, State.bump_staging _ _ _⟩
  unfold State.folioOf
  rw [State.bump_folio]
  exact congrArg Folio.failed (look_put_self _ _ _ _)

/-! ### Spill copies (R193, R196) -/

section
variable {s : State} {e q fr : Nat} (hframe : (s.folioOf e).frame = some fr) (hst : (s.folioOf e).st = 4)
  (hgood : (s.folioOf e).failed = false) (hnew : q ∉ (s.folioOf e).copied)
include hframe hst hgood hnew

omit hframe in
theorem spillEnd_goes : ¬ ((s.folioOf e).st ≠ 4 ∨ (s.folioOf e).failed = true ∨ (s.folioOf e).copied.contains q = true) := by
  simp [hst, hgood, hnew]

theorem spillEnd_failed : s.spillEnd e q false = (s.setFolio e { s.folioOf e with failed := true }).bump (FOL_CNT_FETCHERR q) 1 := by
  have hgoes := spillEnd_goes hst hgood hnew
  unfold State.spillEnd
  dsimp only
  rw [hframe]
  exact if_neg hgoes

theorem spillEnd_sent {z : State}
    (hz : s.spillOut q ((s.folioOf e).reserve + BitVec.ofNat 64 (q * s.pitchBytes)) (s.quarterBytes q fr) = some z) :
    ∃ taint, s.spillEnd e q true =
      (z.setFolio e { s.folioOf e with copied := (s.folioOf e).copied ++ [q], tainted := taint }).bump (FOL_CNT_SPILL q) 1 := by
  have hgoes := spillEnd_goes hst hgood hnew
  unfold State.spillEnd
  dsimp only
  rw [hframe]
  dsimp only
  rw [if_neg hgoes, if_pos rfl, hz]
  exact ⟨_, rfl⟩

end

/-- Settles O45: STAGE, the end of a prefetch, and the end of a spill copy. -/
theorem stagedFoliosArrive : Obligations.StagedFoliosArrive := by
  unfold Obligations.StagedFoliosArrive
  refine ⟨?_, ?_, ?_⟩
  · intro u dec e s h j
    refine ⟨fun hroom => ?_, fun hroom hf => ?_, ?_⟩
    · exact congrArg Host.Outcome.next (if_neg (by rw [hroom]; exact Bool.false_ne_true))
    · exact ⟨_, stage_exec hroom, stage_nothing h hf⟩
    · intro f n p fn x hroom hf hnone hfree k at_ hk hown hwin hup
      exact ⟨_, stage_exec hroom, stage_one h hf hnone hfree hk hown hwin hup⟩
  · intro d n g data s _ hfind _
    refine ⟨fun hd ok => congrArg Host.Outcome.next (prefetchEnd_done hfind hd ok data), fun hd hl => ?_, fun hd => ?_⟩
    · have hparts : onlyParts [.mem, .poison] s (s.spaceWrite 0 (s.stageAt d.val n) data) :=
        Leads.onlyParts (keeps_spaceWrite (Has.self.sub rfl) Leads.self)
      refine ⟨_, congrArg Host.Outcome.next (prefetchEnd_arrived hfind hd hl), ?_, ?_, ?_, fun _ => ?_⟩
      · exact counted_from (reg_of_regs (hparts .regs (by decide)) _) (counted_bump _)
      · rw [State.bump_staging, hparts .staging (by decide)]
      · rw [State.bump_folio]
        exact hparts .folio (by decide)
      · rw [read_of_mem (State.bump_mem _ _ _), ← hl]
        exact read_spaceWrite s (stageAt_lt s d.val n) data
    · exact ⟨_, congrArg Host.Outcome.next (prefetchEnd_failed hfind hd data), prefetchFailed_spec s d.val n g⟩
  · intro n q fr s _ x hframe hst hgood hnew
    refine ⟨?_, fun z hz => ?_⟩
    · refine ⟨_, congrArg Host.Outcome.next (spillEnd_failed hframe hst hgood hnew), State.bump_folio _ _ _,
        counted_from rfl (counted_bump _), ?_⟩
      exact Leads.onlyParts (keeps_bump (Has.self.sub rfl) (keeps_setFolio (Has.self.sub rfl) Leads.self))
    · obtain ⟨taint, hend⟩ := spillEnd_sent hframe hst hgood hnew hz
      have hx : ((z.setFolio n.val { x with copied := x.copied ++ [q.val], tainted := taint }).bump (FOL_CNT_SPILL q.val) 1).folioOf
          n.val = { x with copied := x.copied ++ [q.val], tainted := taint } := look_put_self _ _ _ _
      refine ⟨_, congrArg Host.Outcome.next hend, ?_, ?_, ?_, State.bump_out _ _ _, State.bump_mem _ _ _⟩
      · rw [hx]
      · rw [hx]
        exact hst
      · rw [hx]
        exact hgood

end Sys2Proof.Machine
end

section
/-! SUPPORT. The order of exact values, and the token that SAMPLE draws (O46; R298, R299). -/

namespace Sys2Proof.Machine

/-! ### The order of values (R53) -/

/-- Where a value stands: its number of FP32's smallest steps 2^-149, an infinity beyond every finite FP32 value; NaN
stands with zero and is set apart by its lemmas. -/
def Num.rank : Num → Int
  | .inf neg => if neg then -(2 ^ 24 * 2 ^ 253) else 2 ^ 24 * 2 ^ 253
  | x => x.toUnits (-149)

/-- The finite values that FP32 can name, or more. -/
def Num.inFp32 : Num → Prop
  | .fin _ m e => m < 2 ^ 24 ∧ -149 ≤ e ∧ e ≤ 104
  | _ => True

theorem toUnits_fin (neg : Bool) (m : Nat) (e u : Int) :
    (Num.fin neg m e).toUnits u = (if neg then -1 else 1) * ((m * 2 ^ (e - u).toNat : Nat) : Int) := by
  unfold Num.toUnits
  cases neg
  · exact (Int.one_mul _).symm
  · exact (Int.neg_one_mul _).symm

/-- A finite value in a smaller unit. -/
theorem toUnits_scale {neg : Bool} {m : Nat} {e u v : Int} (h : m = 0 ∨ u ≤ e) (huv : v ≤ u) :
    (Num.fin neg m e).toUnits v = (Num.fin neg m e).toUnits u * ((2 ^ (u - v).toNat : Nat) : Int) := by
  have hm : m * 2 ^ (e - v).toNat = m * 2 ^ (e - u).toNat * 2 ^ (u - v).toNat := by
    obtain rfl | hu := h
    · simp only [Nat.zero_mul]
    · rw [Nat.mul_assoc, ← Nat.pow_add, show (e - u).toNat + (u - v).toNat = (e - v).toNat by omega]
  rw [toUnits_fin, toUnits_fin, hm, Int.natCast_mul, Int.mul_assoc]

theorem expo_le {neg : Bool} {m : Nat} {e u : Int} (h : u ≤ (Num.fin neg m e).expo) : m = 0 ∨ u ≤ e := by
  cases m with
  | zero => exact .inl rfl
  | succ m => exact .inr h

theorem step_le_expo {neg : Bool} {m : Nat} {e : Int} (h : -149 ≤ e) : -149 ≤ (Num.fin neg m e).expo := by
  cases m with
  | zero => exact show (-149 : Int) ≤ 0 by decide
  | succ m => exact h

theorem fin_lt_iff {a b : Bool} {m n : Nat} {e k : Int} (he : -149 ≤ e) (hk : -149 ≤ k) :
    (Num.fin a m e).lt (Num.fin b n k) = true ↔ (Num.fin a m e).rank < (Num.fin b n k).rank := by
  have hea := step_le_expo (neg := a) (m := m) he
  have hkb := step_le_expo (neg := b) (m := n) hk
  show decide ((Num.fin a m e).toUnits (min (Num.fin a m e).expo (Num.fin b n k).expo) <
    (Num.fin b n k).toUnits (min (Num.fin a m e).expo (Num.fin b n k).expo)) = true ↔
      (Num.fin a m e).toUnits (-149) < (Num.fin b n k).toUnits (-149)
  rw [decide_eq_true_iff,
    toUnits_scale (neg := a) (expo_le (Int.min_le_left (Num.fin a m e).expo (Num.fin b n k).expo)) (v := -149) (by omega),
    toUnits_scale (neg := b) (expo_le (Int.min_le_right (Num.fin a m e).expo (Num.fin b n k).expo)) (v := -149) (by omega)]
  have hpos : (0 : Int) < ((2 ^ (min (Num.fin a m e).expo (Num.fin b n k).expo - -149).toNat : Nat) : Int) :=
    Int.natCast_pos.mpr (Nat.two_pow_pos _)
  exact ⟨fun h => Int.mul_lt_mul_of_pos_right h hpos, fun h => Int.lt_of_mul_lt_mul_right h (Int.le_of_lt hpos)⟩

/-- Every finite value stands between the infinities. -/
theorem rank_fin_lt {neg : Bool} {m : Nat} {e : Int} (h : (Num.fin neg m e).inFp32) :
    -(2 ^ 24 * 2 ^ 253) < (Num.fin neg m e).rank ∧ (Num.fin neg m e).rank < 2 ^ 24 * 2 ^ 253 := by
  obtain ⟨hm, _, he⟩ := h
  have hpow : 2 ^ (e - -149).toNat ≤ 2 ^ 253 := Nat.pow_le_pow_right (by decide) (by omega)
  have hlt : m * 2 ^ (e - -149).toNat < 2 ^ 24 * 2 ^ 253 :=
    Nat.lt_of_le_of_lt (Nat.mul_le_mul_left m hpow) (Nat.mul_lt_mul_of_pos_right hm (Nat.two_pow_pos 253))
  show -(2 ^ 24 * 2 ^ 253) < (Num.fin neg m e).toUnits (-149) ∧ (Num.fin neg m e).toUnits (-149) < 2 ^ 24 * 2 ^ 253
  rw [toUnits_fin]
  generalize m * 2 ^ (e - -149).toNat = x at hlt
  cases neg
  · simp only [Bool.false_eq_true, if_false]
    omega
  · simp only [if_true]
    omega

theorem lt_iff_rank {x y : Num} (hx : x ≠ .nan) (hy : y ≠ .nan) (hxin : x.inFp32) (hyin : y.inFp32) :
    x.lt y = true ↔ x.rank < y.rank := by
  cases x with
  | nan => exact absurd rfl hx
  | inf a =>
    cases y with
    | nan => exact absurd rfl hy
    | inf b => cases a <;> cases b <;> decide
    | fin b n k =>
      have hbound := rank_fin_lt hyin
      cases a
      · exact iff_of_false Bool.false_ne_true (Int.not_lt.mpr (Int.le_of_lt hbound.2))
      · exact iff_of_true rfl hbound.1
  | fin a m e =>
    cases y with
    | nan => exact absurd rfl hy
    | inf b =>
      have hbound := rank_fin_lt hxin
      cases b
      · exact iff_of_true rfl hbound.2
      · exact iff_of_false Bool.false_ne_true (Int.not_lt.mpr (Int.le_of_lt hbound.1))
    | fin b n k => exact fin_lt_iff hxin.2.1 hyin.2.1

/-! ### Ranking logits (R298 steps 1 and 4) -/

/-- The rank of an FP32 code. -/
def codeRank (z : Nat) : Int := (fp32.decode z).rank

theorem inFp32_decode (z : Nat) : (fp32.decode z).inFp32 := by
  unfold Fmt.decode
  dsimp only
  split
  · trivial
  · split
    · trivial
    next htop =>
      have hex : z % fp32.sign / 2 ^ fp32.mb ≤ 254 := by
        have htop : z % fp32.sign ≤ 0x7F7FFFFF := Nat.le_of_not_lt htop
        show z % fp32.sign / 2 ^ 23 ≤ 254
        omega
      have hm : z % fp32.sign % 2 ^ fp32.mb < 2 ^ 23 := Nat.mod_lt _ (by decide)
      split
      · exact ⟨Nat.lt_of_lt_of_le hm (by decide), by decide, by decide⟩
      next hzero =>
        generalize z % fp32.sign / 2 ^ fp32.mb = x at hex hzero
        generalize z % fp32.sign % 2 ^ fp32.mb = y at hm
        show 2 ^ 23 + y < 2 ^ 24 ∧ -149 ≤ (x : Int) - 127 - 23 ∧ (x : Int) - 127 - 23 ≤ 104
        omega

theorem decode_ne_nan {z : Nat} (h : fp32.isNan z = false) : fp32.decode z ≠ .nan := by
  intro hz
  unfold Fmt.isNan at h
  rw [hz] at h
  exact nomatch h

theorem code_lt_iff {a b : Nat} (ha : fp32.isNan a = false) (hb : fp32.isNan b = false) :
    (fp32.decode a).lt (fp32.decode b) = true ↔ codeRank a < codeRank b :=
  lt_iff_rank (decode_ne_nan ha) (decode_ne_nan hb) (inFp32_decode a) (inFp32_decode b)

theorem code_not_lt_iff {a b : Nat} (ha : fp32.isNan a = false) (hb : fp32.isNan b = false) :
    (fp32.decode a).lt (fp32.decode b) = false ↔ codeRank b ≤ codeRank a := by
  rw [← Int.not_lt, ← code_lt_iff ha hb, Bool.not_eq_true]

/-- An earlier candidate keeps its place unless the later one is larger. -/
theorem ranksBefore_iff {b v n x : Nat} (h : b < n) (hv : fp32.isNan v = false) (hx : fp32.isNan x = false) :
    ranksBefore (b, v) (n, x) = true ↔ codeRank x ≤ codeRank v := by
  unfold ranksBefore
  dsimp only
  rw [decide_eq_true h, Bool.and_true, Bool.or_eq_true, Bool.not_eq_true', code_lt_iff hx hv, code_not_lt_iff hv hx]
  exact ⟨fun hle => hle.elim Int.le_of_lt id, .inr⟩

/-- The best candidate after one more. -/
def bestStep (best : List (Nat × Nat)) (e : Nat × Nat) : List (Nat × Nat) := (insertBy ranksBefore (e.2, e.1) best).take 1

theorem bestStep_one {b v n x : Nat} (h : b < n) (hv : fp32.isNan v = false) (hx : fp32.isNan x = false) :
    bestStep [(b, v)] (x, n) = if codeRank x ≤ codeRank v then [(b, v)] else [(n, x)] := by
  have hiff := ranksBefore_iff h hv hx
  unfold bestStep insertBy
  split
  · next hle =>
    rw [if_pos (hiff.mp hle)]
    rfl
  · next hle =>
    rw [if_neg fun hr => hle (hiff.mpr hr)]
    rfl

/-- `(r, w)` is the first largest of the codes `zs`, numbered from `n` on, and of `(b, v)` before them. -/
structure FirstLargest (b v n : Nat) (zs : List Nat) (r w : Nat) : Prop where
  start : codeRank v ≤ codeRank w
  largest : ∀ z ∈ zs, codeRank z ≤ codeRank w
  first : (r = b ∧ w = v) ∨ ∃ k, r = n + k ∧ zs[k]? = some w ∧ codeRank v < codeRank w ∧
    ∀ i z, i < k → zs[i]? = some z → codeRank z < codeRank w

theorem best_firstLargest {zs : List Nat} : ∀ {b v n : Nat}, b < n → fp32.isNan v = false → (∀ z ∈ zs, fp32.isNan z = false) →
    ∃ r w, (zs.zipIdx n).foldl bestStep [(b, v)] = [(r, w)] ∧ FirstLargest b v n zs r w := by
  induction zs with
  | nil => exact fun _ _ _ => ⟨_, _, rfl, Int.le_refl _, fun _ h => absurd h List.not_mem_nil, .inl ⟨rfl, rfl⟩⟩
  | cons x zs ih =>
    intro b v n hb hv hzs
    have hx := hzs x List.mem_cons_self
    have hrest := fun z hz => hzs z (List.mem_cons_of_mem _ hz)
    rw [List.zipIdx_cons, List.foldl_cons, bestStep_one hb hv hx]
    split
    · next hle =>
      obtain ⟨r, w, hfold, hstart, hlargest, hfirst⟩ := ih (n := n + 1) (Nat.lt_succ_of_lt hb) hv hrest
      refine ⟨r, w, hfold, hstart, ?_, ?_⟩
      · exact List.forall_mem_cons.mpr ⟨Int.le_trans hle hstart, hlargest⟩
      · obtain hsame | ⟨k, rfl, hk, hlt, hbefore⟩ := hfirst
        · exact .inl hsame
        · refine .inr ⟨k + 1, by omega, hk, hlt, fun i z hi hz => ?_⟩
          cases i with
          | zero =>
            obtain rfl := Option.some.inj hz
            exact Int.lt_of_le_of_lt hle hlt
          | succ i => exact hbefore i z (by omega) hz
    · next hle =>
      have hvx := Int.not_le.mp hle
      obtain ⟨r, w, hfold, hstart, hlargest, hfirst⟩ := ih (n := n + 1) (Nat.lt_succ_self n) hx hrest
      have hvw := Int.lt_of_lt_of_le hvx hstart
      refine ⟨r, w, hfold, Int.le_of_lt hvw, List.forall_mem_cons.mpr ⟨hstart, hlargest⟩, .inr ?_⟩
      obtain ⟨rfl, rfl⟩ | ⟨k, rfl, hk, hlt, hbefore⟩ := hfirst
      · exact ⟨0, rfl, rfl, hvw, fun i z hi => absurd hi (Nat.not_lt_zero i)⟩
      · refine ⟨k + 1, by omega, hk, hvw, fun i z hi hz => ?_⟩
        cases i with
        | zero =>
          obtain rfl := Option.some.inj hz
          exact hlt
        | succ i => exact hbefore i z (by omega) hz

theorem topRanked_one {zs : List Nat} {tk : Nat} (hzs : ∀ z ∈ zs, fp32.isNan z = false)
    (h : ((topRanked 1 zs).head?).map Prod.fst = some tk) : ∃ w, zs[tk]? = some w ∧ (∀ z ∈ zs, codeRank z ≤ codeRank w) ∧
      ∀ i z, i < tk → zs[i]? = some z → codeRank z < codeRank w := by
  cases zs with
  | nil => exact nomatch h
  | cons x zs =>
    obtain ⟨r, w, hfold, hstart, hlargest, hfirst⟩ := best_firstLargest (zs := zs) (b := 0) (n := 1) Nat.zero_lt_one
      (hzs x List.mem_cons_self) fun z hz => hzs z (List.mem_cons_of_mem _ hz)
    have htop : topRanked 1 (x :: zs) = [(r, w)] := hfold
    rw [htop] at h
    obtain rfl := Option.some.inj h
    have hall : ∀ z ∈ x :: zs, codeRank z ≤ codeRank w := List.forall_mem_cons.mpr ⟨hstart, hlargest⟩
    obtain ⟨rfl, rfl⟩ | ⟨k, rfl, hk, hlt, hbefore⟩ := hfirst
    · exact ⟨w, rfl, hall, fun i z hi => absurd hi (Nat.not_lt_zero i)⟩
    · dsimp only
      refine ⟨w, by rw [Nat.add_comm]; exact hk, hall, fun i z hi hz => ?_⟩
      cases i with
      | zero =>
        obtain rfl := Option.some.inj hz
        exact hlt
      | succ i => exact hbefore i z (by omega) hz

/-! ### Tokens drawn lie in the vocabulary (R298) -/

theorem mem_insertBy {α : Type} {le : α → α → Bool} {x z : α} {l : List α} (h : z ∈ insertBy le x l) : z = x ∨ z ∈ l := by
  induction l with
  | nil => exact .inl (List.mem_singleton.mp h)
  | cons y l ih =>
    unfold insertBy at h
    split at h
    · obtain rfl | h := List.mem_cons.mp h
      · exact .inr List.mem_cons_self
      · exact (ih h).imp_right (List.mem_cons_of_mem _)
    · exact List.mem_cons.mp h

theorem topRanked_lt {k : Nat} {zs : List Nat} {c : Nat × Nat} (h : c ∈ topRanked k zs) : c.1 < zs.length := by
  unfold topRanked at h
  have hall : ∀ c ∈ (zs.zipIdx).foldl (fun best e => (insertBy ranksBefore (e.2, e.1) best).take k) [], c.1 < zs.length :=
    List.foldlRecOn (motive := fun best : List (Nat × Nat) => ∀ c ∈ best, c.1 < zs.length) _ _
      (fun _ hc => absurd hc List.not_mem_nil) fun best hbest e he c hc => by
        obtain rfl | hc := mem_insertBy (List.mem_of_mem_take hc)
        · exact (mem_zipIdx_lt he).1
        · exact hbest c hc
  exact hall c h

theorem drawToken_bad {zs : List Nat} (h : badLogits zs = true) (temp topP topK seed n : Nat) :
    drawToken zs temp topP topK seed n = none := if_pos h

theorem drawToken_zero {zs : List Nat} {temp : Nat} (h : badLogits zs = false) (ht : temp % 2 ^ 15 = 0) (topP topK seed n : Nat) :
    drawToken zs temp topP topK seed n = ((topRanked 1 zs).head?).map Prod.fst := by
  unfold drawToken
  rw [if_neg (by rw [h]; exact Bool.false_ne_true), if_pos ht]

theorem drawToken_lt {zs : List Nat} {temp topP topK seed n tk : Nat} (h : drawToken zs temp topP topK seed n = some tk) :
    tk < zs.length := by
  unfold drawToken at h
  split at h
  · exact nomatch h
  · split at h
    · obtain ⟨c, hc, rfl⟩ := Option.map_eq_some_iff.mp h
      exact topRanked_lt (List.mem_of_mem_head? hc)
    · dsimp only at h
      split at h
      · exact nomatch h
      · obtain ⟨c, hc, rfl⟩ := Option.map_eq_some_iff.mp h
        have hlt := topRanked_lt (List.mem_of_mem_take (List.mem_of_getElem? hc))
        rwa [List.length_map] at hlt

theorem drawToken_largest {zs : List Nat} {temp topP topK seed n tk : Nat} (ht : temp % 2 ^ 15 = 0)
    (h : drawToken zs temp topP topK seed n = some tk) (i : Nat) (hi : i < zs.length) :
    (fp32.decode (zs.getD tk 0)).lt (fp32.decode (zs.getD i 0)) = false ∧
      (i < tk → (fp32.decode (zs.getD i 0)).lt (fp32.decode (zs.getD tk 0)) = true) := by
  have hgood : badLogits zs = false := Bool.eq_false_iff.mpr fun hbad => by
    rw [drawToken_bad hbad] at h
    exact nomatch h
  have hnan : ∀ z ∈ zs, fp32.isNan z = false := fun z hz => by
    unfold badLogits at hgood
    have h := List.any_eq_false.mp (Bool.or_eq_false_iff.mp hgood).1 z hz
    rw [Bool.not_eq_true, Bool.or_eq_false_iff] at h
    exact h.1
  rw [drawToken_zero hgood ht] at h
  obtain ⟨w, hw, hlargest, hfirst⟩ := topRanked_one hnan h
  have hzi : zs[i]? = some zs[i] := List.getElem?_eq_getElem hi
  rw [List.getD_eq_getElem?_getD, List.getD_eq_getElem?_getD, hw, hzi, Option.getD_some, Option.getD_some]
  have hi' := hnan _ (List.getElem_mem hi)
  have hw' := hnan _ (List.mem_of_getElem? hw)
  exact ⟨(code_not_lt_iff hw' hi').mpr (hlargest _ (List.getElem_mem hi)), fun hlt => (code_lt_iff hi' hw').mpr (hfirst i _ hlt hzi)⟩

end Sys2Proof.Machine
end

section
/-! SUPPORT. SAMPLE's order (O46; R227, R298, R299). -/

namespace Sys2Proof.Machine

/-! ### What SAMPLE reads -/

theorem onlyParts_addRec (s : State) (l o n : Nat) : onlyParts [.mem, .poison] s (s.addRec l o n) :=
  Leads.onlyParts (keeps_addRec (Has.self.sub rfl) Leads.self)

theorem seq_addRec (s : State) (l o n k : Nat) : (s.addRec l o n).seq k = s.seq k := by
  unfold State.seq
  rw [onlyParts_addRec s l o n .seqs (by decide)]

/-- The operands of a SAMPLE order and where they lie. -/
def State.logitsOp (s : State) (j : Job) : Operand := s.opnd j (j.body 55 48)
def State.logitsAt (s : State) (j : Job) : Nat := s.opGranule j (s.logitsOp j) (j.body 39 28)
def State.tokenOp (s : State) (j : Job) : Operand := s.opnd j (j.body 47 40)
def State.tokenAt (s : State) (j : Job) : Nat := s.opGranule j (s.tokenOp j) (j.body 39 28)

/-- A row's logits, and the invalid codes among them. -/
def State.logits (s : State) (j : Job) : List Val × Nat :=
  s.vals (till ((s.logitsOp j).readDie j.die) (32 * s.logitsAt j)) (s.logitsOp j).fmt s.vocab

/-- Are a SAMPLE order's operands as it needs them? -/
structure Samples (s : State) (j : Job) : Prop where
  long : s.vocab ≤ (s.logitsOp j).len
  fits : inTill (s.logitsAt j) (s.logitsOp j).fmt (s.logitsOp j).len = true
  dest : destFault j (s.tokenOp j) (s.tokenAt j) 1 = 0

section
variable {s t : State} (h : SameBytes s t)
include h

theorem logits_of_bytes (j : Job) : t.logits j = s.logits j := by
  unfold State.logits State.logitsAt State.logitsOp State.vocab
  rw [opnd_of_mem h.1, opGranule_of_mem h.1, chr_of_mem h.1, vals_of_bytes h]

theorem token_of_bytes (j : Job) : t.tokenOp j = s.tokenOp j ∧ t.tokenAt j = s.tokenAt j := by
  unfold State.tokenAt State.tokenOp
  rw [opnd_of_mem h.1, opGranule_of_mem h.1]
  exact ⟨rfl, rfl⟩

theorem samples_of_bytes {j : Job} (hs : Samples s j) : Samples t j := by
  obtain ⟨hop, hat⟩ := token_of_bytes h j
  obtain ⟨hlong, hfits, hdest⟩ := hs
  refine ⟨?_, ?_, by rw [hop, hat]; exact hdest⟩
  · unfold State.vocab State.logitsOp at *
    rwa [opnd_of_mem h.1, chr_of_mem h.1]
  · unfold State.logitsAt State.logitsOp at *
    rwa [opnd_of_mem h.1, opGranule_of_mem h.1]

end

/-! ### SAMPLE's work (R227) -/

section
variable {s : State} {j : Job} {r : Row} (h : Samples s j) (hr : (s.rowsIn j.prog)[j.row]? = some r)
include h hr

theorem sampleWork_row : sampleWork j s =
    if !r.sample || j.row == wholeBatch then done s
    else
      let z := s.addRec j.layer recInvalid (s.logits j).2
      if (s.logits j).1.any Option.isNone then done (z.poisonRows j)
      else
        match drawToken ((s.logits j).1.map (fun v => fp32.encode (v.getD .nan))) (z.seq r.slot).temp.toNat
            (z.seq r.slot).topP.toNat (z.seq r.slot).topK (z.seq r.slot).seed.toNat (z.seq r.slot).produced with
        | none => done ((z.fault (z.tellJob j (faultUnit clsFormat j.unit 0 0xFF))).poisonRows j)
        | some tk => done ((z.putToken j (s.tokenOp j) (s.tokenAt j) tk).markRows j.prog j.row (fun w => { w with token := some tk })) := by
  obtain ⟨hlong, hfits, hdest⟩ := h
  unfold State.tokenAt State.tokenOp State.logitsAt State.logitsOp at *
  unfold sampleWork
  dsimp only
  rw [if_neg (Nat.not_lt.mpr hlong), if_neg (by rw [hfits]; exact Bool.false_ne_true), if_neg (not_not_intro hdest), hr]
  rfl

/-- A row that does not sample is left alone. -/
theorem sampleWork_idle (hs : r.sample = false) : sampleWork j s = done s := by
  rw [sampleWork_row h hr, hs]
  rfl

variable (hs : r.sample = true) (hrow : j.row ≠ wholeBatch)
include hs hrow

theorem sampleWork_poisoned (hbad : (s.logits j).1.any Option.isNone = true) :
    sampleWork j s = done ((s.addRec j.layer recInvalid (s.logits j).2).poisonRows j) := by
  rw [sampleWork_row h hr, hs, if_neg (by simpa using hrow)]
  dsimp only
  rw [if_pos hbad]

theorem sampleWork_draws {tk : Nat} (hgood : (s.logits j).1.any Option.isNone = false)
    (hdraw : drawToken ((s.logits j).1.map (fun v => fp32.encode (v.getD .nan))) (s.seq r.slot).temp.toNat
      (s.seq r.slot).topP.toNat (s.seq r.slot).topK (s.seq r.slot).seed.toNat (s.seq r.slot).produced = some tk) :
    sampleWork j s = done (((s.addRec j.layer recInvalid (s.logits j).2).putToken j (s.tokenOp j) (s.tokenAt j) tk).markRows
      j.prog j.row (fun w => { w with token := some tk })) := by
  rw [sampleWork_row h hr, hs, if_neg (by simpa using hrow)]
  dsimp only
  rw [if_neg (by rw [hgood]; exact Bool.false_ne_true), seq_addRec, hdraw]

end

/-! ### The token in its operand (R227) -/

theorem onlyParts_putToken (s : State) (j : Job) (o : Operand) (g tk : Nat) : onlyParts [.mem, .poison] s (s.putToken j o g tk) := by
  unfold State.putToken
  exact onlyParts_onDies (fun _ _ _ h => keeps_writeNat (Has.self.sub rfl) h) s

theorem read_putToken (s : State) {j : Job} {o : Operand} {g d : Nat} (tk : Nat) (ho : o.die < 4) (hdest : destFault j o g 1 = 0)
    (hfmt : o.fmt = 9) (hacc : j.acc = false) (hd : d ∈ o.writeDies) :
    (s.putToken j o g tk).read (till d (32 * g)) 4 = natLe 4 (tk % 2 ^ 32) := by
  have hfit : 32 * g + 4 ≤ tillSize := by
    have h := (destFault_zero hdest).2
    rw [hfmt] at h
    have hfour : 4 ≤ wholeArea 9 1 := by decide
    omega
  obtain ⟨s1, -, hat⟩ := onDies_at (n := 4)
    (f := fun s a => s.writeNat a 4 ((if j.acc then s.readNat a 4 + tk else tk) % 2 ^ 32)) ho hfit
    (fun s e _ => onlyBytes_writeNat _ _ _ _) hd s
  unfold State.putToken
  rw [hat.read (Nat.le_refl _) (Nat.le_refl _), read_writeNat_self, hacc]
  rfl

/-- A SAMPLE order that changed memory and then marked its rows. -/
theorem sampled_issued {s x : State} {u : EngUnit} {dec : Bool} {e : QEntry} {f : Row → Row} (h : s.starts u dec 8 0 e = true)
    (hwork : sampleWork (firstJob u dec e) (s.issuing u dec) = done (x.markRows e.prog e.row f))
    (hx : onlyParts [.mem, .poison] (s.issuing u dec) x) :
    issued u dec e true s (s.issue u dec 8 0 sampleWork) ∧
      onlyParts [.regs, .queues, .mem, .poison, .serve] s (s.issue u dec 8 0 sampleWork) ∧
      (s.issue u dec 8 0 sampleWork).mem = x.mem ∧
      (s.issue u dec 8 0 sampleWork).serve.rows = mapRows e.prog e.row f 0 s.serve.rows := by
  have hmarked : onlyParts [.serve] x (x.markRows e.prog e.row f) := Leads.onlyParts (keeps_markRows (Has.self.sub rfl) Leads.self)
  have hparts := onlyParts_trans (onlyParts_mono (by decide) hx) (onlyParts_mono (by decide) hmarked) (ps := [.mem, .poison, .serve])
  have hserve : x.serve = s.serve := (hx .serve (by decide)).trans (State.bump_serve _ _ _)
  obtain ⟨hissued, hleft, -, hsame⟩ := doneWork_issued h hwork hparts (by decide) (by decide)
  refine ⟨hissued, hleft, hsame .mem nofun, ?_⟩
  rw [hsame .serve nofun]
  unfold State.markRows
  rw [hserve]

/-- Settles O46: a row's draw, and what every draw is. -/
theorem sampledRowsTakeOneToken : Obligations.SampledRowsTakeOneToken := by
  unfold Obligations.SampledRowsTakeOneToken
  refine ⟨?_, ?_⟩
  · intro u dec e s h j a o ga go vs hlong hfits hdest
    have hbytes : SameBytes s (s.issuing u dec) := sameBytes_bump s _ 1
    have hserve : (s.issuing u dec).serve = s.serve := State.bump_serve _ _ _
    have hrows : (s.issuing u dec).rowsIn e.prog = s.rowsIn e.prog := by
      unfold State.rowsIn
      rw [hserve]
    have hs : Samples (s.issuing u dec) j := samples_of_bytes hbytes ⟨hlong, hfits, hdest⟩
    have hlogits : (s.issuing u dec).logits j = s.logits j := logits_of_bytes hbytes j
    obtain ⟨hop, hat⟩ := token_of_bytes hbytes j
    refine ⟨fun r hr hsample => ?_, ?_, fun r hr hsample hrow hbad => ?_⟩
    · have hwork := sampleWork_idle hs (hrows ▸ hr) hsample
      obtain ⟨hissued, hparts, -⟩ := doneWork_issued (ps := []) h hwork (onlyParts_refl _ _) (by decide) (by decide)
      exact ⟨_, rfl, hissued, hparts⟩
    · intro r tk hr hsample hrow hgood q hdraw
      have hwork := sampleWork_draws (tk := tk) hs (hrows ▸ hr) hsample hrow (by rw [hlogits]; exact hgood) (by
        rw [hlogits, show (s.issuing u dec).seq r.slot = s.seq r.slot from congrArg (look Seq.fresh · _) (State.bump_seqs _ _ _)]
        exact hdraw)
      rw [hop, hat] at hwork
      obtain ⟨hissued, hleft, hmem, hserve⟩ := sampled_issued h hwork
        (onlyParts_trans (onlyParts_addRec _ _ _ _) (onlyParts_putToken _ _ _ _ _))
      refine ⟨_, rfl, hissued, hserve, fun d hd hacc hfmt => ?_, hleft .seqs (by decide)⟩
      rw [read_of_mem hmem]
      exact read_putToken _ tk (die_opnd s j _) hdest hfmt hacc hd
    · have hwork := sampleWork_poisoned hs (hrows ▸ hr) hsample hrow (by rw [hlogits]; exact hbad)
      obtain ⟨hissued, -, -, hserve⟩ := sampled_issued h hwork (onlyParts_addRec _ _ _ _)
      exact ⟨_, rfl, hissued, hserve⟩
  · intro zs temp topP topK seed n
    exact ⟨fun hbad => drawToken_bad hbad _ _ _ _ _, fun tk h => drawToken_lt h, fun tk ht h i hi => drawToken_largest ht h i hi⟩

end Sys2Proof.Machine
end

section
/-! SUPPORT. DMA channels: descriptors started, channels in error, channels at rest (O47, O48; R261, R268, R269, R271). -/

namespace Sys2Proof.Machine

/-! ### Registers of a channel -/

theorem dmaReg_ne {d k o p : Nat} (h : o ≠ p) : dmaReg d k o ≠ dmaReg d k p := by
  unfold dmaReg
  omega

theorem dmaReg_notOfRecord {d k o : Nat} (hd : d < 4) (hk : k < 64) (ho : o < 0x200) : dmaReg d k o ∉ recordRegs := by
  refine dieReg_notOfRecord ?_ ?_
  · unfold dmaReg dieBase
    omega
  · unfold dmaReg dieBase
    omega

/-! ### A descriptor that starts (R261) -/

section
variable {s t : State} (h : SamePorts s t)
include h

theorem inWindow_of_ports (a : Word64) (len : Nat) (write : Bool) : t.inWindow a len write = s.inWindow a len write := by
  unfold State.inWindow
  rw [ownNode_of_ports h, hostWin_of_ports h]

theorem roleOk_of_ports (a : Word64) (clerk write : Bool) : t.roleOk a clerk write = s.roleOk a clerk write := by
  unfold State.roleOk
  rw [ownNode_of_ports h]

theorem checkDesc_of_ports {d k : Nat} (hc : t.reg (DMA_CTRL d k) = s.reg (DMA_CTRL d k)) (n : Nat) (x : Desc) (raw : List Byte) :
    t.checkDesc d k n x raw = s.checkDesc d k n x raw := by
  unfold State.checkDesc State.owner
  simp only [inWindow_of_ports h, roleOk_of_ports h, fld_of_reg hc]

end

/-- A channel that a descriptor starts. -/
def State.runOf (s : State) (n : Nat) (x : Desc) (mover : Option Bool) : Channel :=
  { Channel.idle with
    desc := some x, chain := n, released := if x.trigKind = 0 then x.bursts else 0,
    srcWin := s.hostWin x.src x.len false, dstWin := s.hostWin x.dst x.len true, mover := mover }

/-- The state after a descriptor starts on a channel. -/
def State.started (s : State) (d k g n : Nat) (x : Desc) : State :=
  ((((s.setChan d k (s.runOf n x (s.chan d k).mover)).setFlag (DMA_STAT d k) 31 true).setFld (DMA_STAT d k) 20 13 0).setFld
    (DMA_DESC d k) 21 0 g).setReg (DMA_DONE d k) 0

section
variable {s : State} {d k g n code : Nat} {x : Desc} (hfit : 32 * g + 32 ≤ tillSize) (hgood : s.bad (till d (32 * g)) 32 = false)
  (hx : Desc.ofBytes (s.read (till d (32 * g)) 32) = x) (hcode : s.checkDesc d k n x (s.read (till d (32 * g)) 32) = code)
include hfit hgood hx hcode

theorem startDesc_eq : s.startDesc d k g n = if code ≠ 0 then (s, code) else (s.started d k g n x, 0) := by
  subst hx hcode
  unfold State.startDesc
  rw [if_neg (Nat.not_lt.mpr hfit), if_neg (by rw [hgood]; exact Bool.false_ne_true)]
  rfl

theorem startDesc_fails (h : code ≠ 0) : s.startDesc d k g n = (s, code) := (startDesc_eq hfit hgood hx hcode).trans (if_pos h)

theorem startDesc_starts (h : code = 0) : s.startDesc d k g n = (s.started d k g n x, 0) :=
  (startDesc_eq hfit hgood hx hcode).trans (if_neg (not_not_intro h))

end

/-- What the start of a descriptor leaves. -/
structure Started (d k g n : Nat) (x : Desc) (s t : State) : Prop where
  chan : t.chan d k = s.runOf n x (s.chan d k).mover
  busy : t.flag (DMA_STAT d k) 31 = true
  desc : g < 2 ^ 22 → t.fld (DMA_DESC d k) 21 0 = g
  done : t.reg (DMA_DONE d k) = 0
  parts : onlyParts [.regs, .dma] s t
  regs : onlyRegs [DMA_STAT d k, DMA_DESC d k, DMA_DONE d k] s t

theorem started_spec (s : State) (d k g n : Nat) (x : Desc) : Started d k g n x s (s.started d k g n x) := by
  have hstat : DMA_DESC d k ≠ DMA_STAT d k := dmaReg_ne (by decide)
  have hdone : DMA_DONE d k ≠ DMA_STAT d k := dmaReg_ne (by decide)
  have hdesc : DMA_DONE d k ≠ DMA_DESC d k := dmaReg_ne (by decide)
  unfold State.started
  refine ⟨?_, ?_, fun hg => ?_, reg_setReg_self, ?_, ?_⟩
  · show look Channel.idle (put Channel.idle s.dma (d * 64 + k) _) (d * 64 + k) = _
    exact look_put_self _ _ _ _
  · rw [flag_of_reg (reg_setReg_other hdone), flag_of_reg (reg_setFld_other hstat), flag_setFld_apart (by decide) (by decide) (by decide),
      flag_setFlag_self (by decide)]
  · rw [fld_of_reg (reg_setReg_other hdesc), fld_setFld_self (by decide) (by decide)]
    exact Nat.mod_eq_of_lt hg
  · exact Leads.onlyParts (keeps_setReg (Has.self.sub rfl) (keeps_setFld (Has.self.sub rfl) (keeps_setFld (Has.self.sub rfl)
      (keeps_setFlag (Has.self.sub rfl) (keeps_setChan (Has.self.sub rfl) Leads.self)))))
  · exact onlyRegs_setReg (by simp) (onlyRegs_setFld (by simp) (onlyRegs_setFld (by simp) (onlyRegs_setFlag (by simp)
      (onlyRegs_of_regs rfl))))

/-! ### A channel in error, and at rest (R268, R269) -/

/-- What an error of a channel leaves. -/
structure ChanErrored (d k code : Nat) (s t : State) : Prop where
  stuck : t.flag (DMA_STAT d k) 27 = true
  code : t.fld (DMA_STAT d k) 24 21 = code
  serial : t.log.serial = s.log.serial + 1
  rows : t.serve.rows = s.serve.rows
  parts : onlyParts recordParts s t

theorem chanError_spec (s : State) (d : Die) {k code : Nat} (hk : k < 64) (hc : code < 16) :
    ChanErrored d.val k code s (s.chanError d k code) := by
  unfold State.chanError
  generalize hset : (s.setFlag (DMA_STAT d.val k) 27 true).setFld (DMA_STAT d.val k) 24 21 code = v
  have hparts : onlyParts [.regs] s v := by
    rw [← hset]
    exact Leads.onlyParts (keeps_setFld (Has.self.sub rfl) (keeps_setFlag (Has.self.sub rfl) Leads.self))
  have hrec : Recorded v (v.chanRecord d k code) := recorded_chanRecord v d k code
  have hstat := hrec.reg (dmaReg_notOfRecord d.isLt hk (o := 4) (by decide))
  refine ⟨?_, ?_, ?_, hrec.rows.trans (congrArg Serve.rows (hparts .serve (by decide))), ?_⟩
  · rw [show (v.chanRecord d k code).flag (DMA_STAT d.val k) 27 = v.flag (DMA_STAT d.val k) 27 from flag_of_reg hstat _, ← hset,
      flag_setFld_apart (by decide) (by decide) (by decide), flag_setFlag_self (by decide)]
  · rw [show (v.chanRecord d k code).fld (DMA_STAT d.val k) 24 21 = v.fld (DMA_STAT d.val k) 24 21 from fld_of_reg hstat _ _, ← hset,
      fld_setFld_self (by decide) (by decide)]
    exact Nat.mod_eq_of_lt hc
  · rw [hrec.serial, hparts .log (by decide)]
  · exact onlyParts_trans (onlyParts_mono (by decide) hparts) hrec.parts

/-- What is left of a channel at rest. -/
structure Rested (d k : Nat) (s t : State) : Prop where
  dma : t.dma = (s.setChan d k Channel.idle).dma
  idle : t.flag (DMA_STAT d k) 31 = false
  stuck : t.flag (DMA_STAT d k) 27 = s.flag (DMA_STAT d k) 27
  code : t.fld (DMA_STAT d k) 24 21 = s.fld (DMA_STAT d k) 24 21
  regs : onlyRegs [DMA_STAT d k, DMA_CTRL d k] s t
  parts : onlyParts [.regs, .dma, .clr] s t

theorem restChan_spec (s : State) (d k : Nat) : Rested d k s (s.restChan d k) := by
  have hctrl : DMA_CTRL d k ≠ DMA_STAT d k := dmaReg_ne (by decide)
  unfold State.restChan
  extract_lets idle reads
  refine ⟨rfl, ?_, ?_, ?_, ?_, ?_⟩
  · rw [flag_setFlag_other hctrl, flag_setFld_apart (by decide) (by decide) (by decide), flag_setFlag_self (by decide)]
  · rw [flag_setFlag_other hctrl, flag_setFld_apart (by decide) (by decide) (by decide), flag_setFlag_apart (by decide) (by decide)]
    rfl
  · rw [fld_setFlag_other hctrl, fld_setFld_apart (by decide) (by decide) (by decide), fld_setFlag_apart (by decide) (by decide)]
    rfl
  · exact onlyRegs_setFlag (by simp) (onlyRegs_setFld (by simp) (onlyRegs_setFlag (by simp) (onlyRegs_of_regs rfl)))
  · exact Leads.onlyParts (keeps_restChan (Has.self.sub rfl) Leads.self)

theorem endChain_none {s : State} {d : Die} {k : Nat} (h : (s.chan d.val k).mover = none) :
    s.endChain d k = s.restChan d.val k := by
  unfold State.endChain
  dsimp only
  rw [h]

theorem endChain_failed {s : State} {d : Die} {k : Nat} {dec : Bool} {f : InFlight} (h : (s.chan d.val k).mover = some dec)
    (hf : s.moveOf ⟨d, .dma, k⟩ dec = some f) (hfailed : (s.chan d.val k).failed = true) :
    s.endChain d k = ((s.markRows f.entry.prog f.entry.row (fun w => { w with faulted := true })).restChan d.val k).readyOrder
      ⟨d, .dma, k⟩ f := by
  unfold State.endChain
  dsimp only
  rw [h]
  dsimp only
  rw [hf]
  dsimp only
  rw [if_pos hfailed]

/-- A transfer that ended in error 9: the channel at rest, the error shown and one record written. -/
structure TransferEnded (d k : Nat) (s t : State) : Prop where
  dma : t.dma = (s.setChan d k Channel.idle).dma
  stuck : t.flag (DMA_STAT d k) 27 = true
  code : t.fld (DMA_STAT d k) 24 21 = 9
  idle : t.flag (DMA_STAT d k) 31 = false
  serial : t.log.serial = s.log.serial + 1

/-- A channel that holds a descriptor is written over. -/
theorem setChan_idle {s t : State} {d k : Nat} {c : Channel} (hc : c.desc ≠ none) (h : t.dma = (s.setChan d k c).dma) :
    (t.setChan d k Channel.idle).dma = (s.setChan d k Channel.idle).dma := by
  unfold State.setChan at h ⊢
  dsimp only at h ⊢
  rw [h, put_put fun he => hc (by rw [he]; rfl)]

/-- A chain that ends after an error: at rest, with the error shown. -/
theorem transferEnded_of_rested {s e f t : State} {d k : Nat} {c : Channel} (hc : c.desc ≠ none)
    (he : ChanErrored d k 9 s e) (hf : f.dma = (e.setChan d k c).dma) (hfr : f.regs = e.regs) (hfl : f.log = e.log)
    (ht : Rested d k f t) : TransferEnded d k s t := by
  have hdma : f.dma = (s.setChan d k c).dma := by
    rw [hf]
    unfold State.setChan
    dsimp only
    rw [he.parts .dma (by decide)]
  refine ⟨ht.dma.trans (setChan_idle hc hdma), ?_, ?_, ht.idle, ?_⟩
  · rw [ht.stuck, flag_of_reg (reg_of_regs hfr _)]
    exact he.stuck
  · rw [ht.code, fld_of_reg (reg_of_regs hfr _)]
    exact he.code
  · rw [ht.parts .log (by decide), hfl]
    exact he.serial

theorem chan_of_dma {s t : State} (h : t.dma = s.dma) (d k : Nat) : t.chan d k = s.chan d k := by
  unfold State.chan
  rw [h]

section
variable {s : State} {d : Die} {k : Nat} {x : Desc} (hk : k < 64) (hx : (s.chan d.val k).desc = some x)
include hk hx

theorem transferError_eq : s.transferError d k = (((s.chanError d k 9).setChan d.val k
    { s.chan d.val k with failed := true }).endChain d k) := by
  have hchan := chan_of_dma ((chanError_spec s d hk (code := 9) (by decide)).parts .dma (by decide)) d.val k
  unfold State.transferError
  rw [if_neg (by rw [hx]; exact Bool.false_ne_true)]
  dsimp only
  rw [hchan]

theorem transferError_unmoved (hm : (s.chan d.val k).mover = none) : TransferEnded d.val k s (s.transferError d k) := by
  have herr := chanError_spec s d hk (code := 9) (by decide)
  rw [transferError_eq hk hx, endChain_none (by rw [State.setChan_chan]; exact hm)]
  have hdesc : ({ s.chan d.val k with failed := true } : Channel).desc ≠ none := hx ▸ Option.some_ne_none x
  exact transferEnded_of_rested hdesc herr rfl (State.setChan_regs _ _ _ _) (State.setChan_log _ _ _ _) (restChan_spec _ _ _)

theorem transferError_moved {dec : Bool} {f : InFlight} (hm : (s.chan d.val k).mover = some dec)
    (hf : s.moveOf ⟨d, .dma, k⟩ dec = some f) : TransferEnded d.val k s (s.transferError d k) ∧
      (s.transferError d k).serve.rows = mapRows f.entry.prog f.entry.row (fun w => { w with faulted := true }) 0 s.serve.rows := by
  have herr := chanError_spec s d hk (code := 9) (by decide)
  have hmove : ((s.chanError d k 9).setChan d.val k { s.chan d.val k with failed := true }).moveOf ⟨d, .dma, k⟩ dec = some f := by
    unfold State.moveOf at hf ⊢
    rw [eng_of_queues (State.setChan_queues _ _ _ _), eng_of_queues (herr.parts .queues (by decide))]
    exact hf
  rw [transferError_eq hk hx, endChain_failed (by rw [State.setChan_chan]; exact hm) hmove (by rw [State.setChan_chan])]
  generalize hz : ((s.chanError d k 9).setChan d.val k { s.chan d.val k with failed := true }).markRows f.entry.prog f.entry.row
    (fun w => { w with faulted := true }) = z
  have hrest := restChan_spec z d.val k
  have hready : onlyParts [.queues] (z.restChan d.val k) ((z.restChan d.val k).readyOrder ⟨d, .dma, k⟩ f) :=
    Leads.onlyParts (keeps_readyOrder (Has.self.sub rfl) Leads.self)
  have hmarked : onlyParts [.serve] ((s.chanError d k 9).setChan d.val k { s.chan d.val k with failed := true }) z := by
    rw [← hz]
    exact Leads.onlyParts (keeps_markRows (Has.self.sub rfl) Leads.self)
  have hdesc : ({ s.chan d.val k with failed := true } : Channel).desc ≠ none := hx ▸ Option.some_ne_none x
  have hended : TransferEnded d.val k s (z.restChan d.val k) :=
    transferEnded_of_rested hdesc herr (hmarked .dma (by decide)) ((hmarked .regs (by decide)).trans (State.setChan_regs _ _ _ _))
      ((hmarked .log (by decide)).trans (State.setChan_log _ _ _ _)) hrest
  have hreg := reg_of_regs (hready .regs (by decide))
  refine ⟨⟨(hready .dma (by decide)).trans hended.dma, (flag_of_reg (hreg _) _).trans hended.stuck,
    (fld_of_reg (hreg _) _ _).trans hended.code, (flag_of_reg (hreg _) _).trans hended.idle, ?_⟩, ?_⟩
  · rw [hready .log (by decide)]
    exact hended.serial
  · rw [hready .serve (by decide), hrest.parts .serve (by decide), ← hz, ← herr.rows]
    rfl

end

end Sys2Proof.Machine
end

section
/-! SUPPORT. Transfers that start and stop, grants and triggers (O47; R228, R261, R263, R264, R266, R268, R269, R271). -/

namespace Sys2Proof.Machine

/-! ### MOVE (R228, R268) -/

theorem dma_of_accepts {k : UnitKind} (h : accepts k 5 = true) : k = .dma := by
  cases k
  · exact absurd h (by decide)
  · exact absurd h (by decide)
  · exact absurd h (by decide)
  · rfl

theorem dmaReg_ne_issueCounter {u : EngUnit} (h : u.kind = .dma) {off : Nat} (ho : off < 0x100) (dec : Bool) :
    dmaReg u.die.val u.inst off ≠ issueCounter u dec := by
  have hreg : dmaReg u.die.val u.inst off = unitReg u off := by
    unfold unitReg
    rw [h]
  rw [hreg, issueCounter_eq]
  exact unitReg_ne (by split <;> omega)

/-- The channel of a MOVE before its descriptor is read. -/
def State.moving (s : State) (u : EngUnit) (dec : Bool) : State :=
  s.setChan u.die.val u.inst { Channel.idle with mover := some dec }

theorem moveWork_eq {s : State} {u : EngUnit} {dec : Bool} {e : QEntry} {r : State × Nat}
    (h : (s.moving u dec).startDesc u.die.val u.inst (ordBody e.order 55 34) 1 = r) : moveWork (firstJob u dec e) s =
      if r.2 = 0 then ⟨r.1, 0, false⟩
      else failed (r.1.setChan u.die.val u.inst Channel.idle) (if r.2 = 2 ∨ r.2 = 4 ∨ r.2 = 5 then reasonWindow else reasonReserved) := by
  subst h
  rfl

section
variable {s : State} {u : EngUnit} {dec : Bool} {e : QEntry} (h : s.starts u dec 5 0 e = true)
include h

/-- What a MOVE reads as it issues is as it was. -/
theorem moving_reads : SamePorts s ((s.issuing u dec).moving u dec) ∧
    ((s.issuing u dec).moving u dec).reg (DMA_CTRL u.die.val u.inst) = s.reg (DMA_CTRL u.die.val u.inst) ∧
    ((s.issuing u dec).moving u dec).bad = s.bad := by
  obtain ⟨-, hkind, -⟩ := starts_parts h
  have hne := dmaReg_ne_issueCounter (dma_of_accepts hkind) (off := 0) (by decide) dec
  have hparts : onlyParts [.dma] (s.issuing u dec) ((s.issuing u dec).moving u dec) :=
    Leads.onlyParts (keeps_setChan (Has.self.sub rfl) Leads.self)
  obtain ⟨hmem, hserve, hports, hlinks⟩ := samePorts_issuing s u dec
  have hregs := reg_of_regs (hparts .regs (by decide))
  refine ⟨⟨(hparts .mem (by decide)).trans hmem, (hparts .serve (by decide)).trans hserve,
    (hparts .ports (by decide)).trans hports, fun p hp => (hregs _).trans (hlinks p hp)⟩,
    (hregs _).trans (reg_bump_other hne.symm), ?_⟩
  funext a n
  exact bad_of_poison ((hparts .poison (by decide)).trans (State.bump_poison _ _ _)) a n

variable {x : Desc} {code : Nat} (hfit : 32 * ordBody e.order 55 34 + 32 ≤ tillSize)
  (hgood : s.bad (till u.die.val (32 * ordBody e.order 55 34)) 32 = false)
  (hx : Desc.ofBytes (s.read (till u.die.val (32 * ordBody e.order 55 34)) 32) = x)
  (hcode : s.checkDesc u.die.val u.inst 1 x (s.read (till u.die.val (32 * ordBody e.order 55 34)) 32) = code)
include hfit hgood hx hcode

theorem move_startDesc : ((s.issuing u dec).moving u dec).startDesc u.die.val u.inst (ordBody e.order 55 34) 1 =
    if code ≠ 0 then ((s.issuing u dec).moving u dec, code)
    else (((s.issuing u dec).moving u dec).started u.die.val u.inst (ordBody e.order 55 34) 1 x, 0) := by
  obtain ⟨hports, hctrl, hbad⟩ := moving_reads h
  refine startDesc_eq hfit (by rw [hbad]; exact hgood) ?_ ?_
  · rw [read_of_mem hports.mem]
    exact hx
  · rw [read_of_mem hports.mem, checkDesc_of_ports hports hctrl]
    exact hcode

theorem move_starts (hz : code = 0) : issued u dec e false s (s.issue u dec 5 0 moveWork) ∧
    (s.issue u dec 5 0 moveWork).chan u.die.val u.inst = s.runOf 1 x (some dec) ∧
    (s.issue u dec 5 0 moveWork).flag (DMA_STAT u.die.val u.inst) 31 = true ∧
    (s.issue u dec 5 0 moveWork).fld (DMA_DESC u.die.val u.inst) 21 0 = ordBody e.order 55 34 ∧
    (s.issue u dec 5 0 moveWork).reg (DMA_DONE u.die.val u.inst) = 0 ∧
    onlyParts [.regs, .queues, .dma] s (s.issue u dec 5 0 moveWork) := by
  obtain ⟨-, hkind, -⟩ := starts_parts h
  have hk := dma_of_accepts hkind
  obtain ⟨hports, -, -⟩ := moving_reads h
  have hstart := move_startDesc h hfit hgood hx hcode
  rw [if_neg (not_not_intro hz)] at hstart
  have hwork := (moveWork_eq hstart).trans (if_pos rfl)
  have hmoving : onlyParts [.dma] (s.issuing u dec) ((s.issuing u dec).moving u dec) :=
    Leads.onlyParts (keeps_setChan (Has.self.sub rfl) Leads.self)
  have hbump : onlyParts [.regs] s (s.issuing u dec) := Leads.onlyParts (keeps_bump (Has.self.sub rfl) Leads.self)
  obtain ⟨hchan, hbusy, hdesc, hdone, hparts, hregs⟩ :=
    started_spec ((s.issuing u dec).moving u dec) u.die.val u.inst (ordBody e.order 55 34) 1 x
  generalize hw : ((s.issuing u dec).moving u dec).started u.die.val u.inst (ordBody e.order 55 34) 1 x = w at *
  have hnot : issueCounter u dec ∉ [DMA_STAT u.die.val u.inst, DMA_DESC u.die.val u.inst, DMA_DONE u.die.val u.inst] := by
    simp only [List.mem_cons, List.not_mem_nil, or_false, not_or]
    exact ⟨(dmaReg_ne_issueCounter hk (by decide) dec).symm, (dmaReg_ne_issueCounter hk (by decide) dec).symm,
      (dmaReg_ne_issueCounter hk (by decide) dec).symm⟩
  obtain ⟨hissued, hsame⟩ := workDone_issued h hwork
    ((hparts .queues (by decide)).trans (hmoving .queues (by decide)))
    ((hregs _ hnot).trans (reg_of_regs (hmoving .regs (by decide)) _))
  have hreg := reg_of_regs (hsame .regs nofun)
  refine ⟨hissued, ?_, (flag_of_reg (hreg _) _).trans hbusy, (fld_of_reg (hreg _) _ _).trans (hdesc (ordBits_lt _ 55 34)),
    (hreg _).trans hdone, fun p hp => ?_⟩
  · rw [chan_of_dma (hsame .dma nofun), hchan]
    unfold State.runOf
    rw [hostWin_of_ports hports, hostWin_of_ports hports]
    unfold State.moving
    rw [State.setChan_chan]
  · have hall : onlyParts [.regs, .queues, .dma] s w :=
      onlyParts_trans (onlyParts_mono (by decide) hbump) (onlyParts_trans (onlyParts_mono (by decide) hmoving)
        (onlyParts_mono (by decide) hparts))
    exact StatePart.same_trans (hall p hp) (hsame p fun hq => hp (by rw [hq]; decide))

theorem move_fails (hz : code ≠ 0) :
    (s.issue u dec 5 0 moveWork).dma = (s.setChan u.die.val u.inst Channel.idle).dma ∧
    (s.issue u dec 5 0 moveWork).fld (ENG_QFAULT u) 23 20 =
      (if code = 2 ∨ code = 4 ∨ code = 5 then reasonWindow else reasonReserved) ∧
    counted (ENG_CNT_FAULT u) 1 s (s.issue u dec 5 0 moveWork) := by
  have hstart := move_startDesc h hfit hgood hx hcode
  rw [if_pos hz] at hstart
  have hwork := (moveWork_eq hstart).trans (if_neg hz)
  dsimp only at hwork
  obtain ⟨hreason, hcount, hparts⟩ := issue_faulted h hwork (by split <;> decide) (by split <;> decide)
  refine ⟨(hparts .dma (by decide)).trans ?_, hreason, counted_from (reg_bump_other ?_) hcount⟩
  · unfold State.moving State.setChan
    dsimp only
    rw [put_put fun he => Option.some_ne_none dec (congrArg Channel.mover he)]
    exact congrArg (put Channel.idle · _ Channel.idle) (State.bump_dma _ _ _)
  · rw [issueCounter_eq]
    exact unitReg_ne (by split <;> omega)

end

theorem checkDesc_lt (s : State) (d k n : Nat) (x : Desc) (raw : List Byte) : s.checkDesc d k n x raw < 16 := by
  unfold State.checkDesc
  dsimp only
  repeat' split
  all_goals decide

/-! ### `go` and `stop` (R269, R271) -/

section
variable {s : State} {w : Src} {d : Die} {k : Nat} (hw : s.holder w = true) (ho : s.owner d.val k = 2)
include hw ho

/-- A `go` that its conditions allow starts the channel's descriptor. -/
theorem dmaGo_eq (hd : (s.chan d.val k).desc = none) (hrun : s.coreRuns (d.val / 2) = true)
    (hreset : s.rst.blockResets.contains (.unit ⟨d, .dma, k⟩) = false) {r : State × Nat}
    (hr : s.startDesc d.val k (s.fld (DMA_DESC d.val k) 21 0) 1 = r) :
    s.dmaGo w d k = if r.2 = 0 then r.1 else r.1.chanError d k r.2 := by
  subst hr
  unfold State.dmaGo
  refine if_pos ?_
  simp only [hw, ho, hd, hrun, hreset, beq_self_eq_true, Option.isNone_none, Bool.not_false, Bool.and_self]

theorem dmaStop_eq {x : Desc} (hd : (s.chan d.val k).desc = some x) (hs : (s.chan d.val k).stopping = false) :
    s.dmaStop w d k = if (s.chan d.val k).flight.isEmpty then
        ((s.setChan d.val k { s.chan d.val k with stopping := true }).chanError d k 10).endChain d k
      else ((s.setChan d.val k { s.chan d.val k with stopping := true }).chanError d k 10).setFlag (DMA_CTRL d.val k) 2 true := by
  unfold State.dmaStop
  refine if_pos ?_
  simp only [hw, ho, hd, hs, beq_self_eq_true, Option.isSome_some, Bool.not_false, Bool.and_self]

/-- What a `stop` leaves: its code shown, and the channel at rest or waiting for its bursts. -/
theorem dmaStop_spec {x : Desc} (hk : k < 64) (hd : (s.chan d.val k).desc = some x) (hs : (s.chan d.val k).stopping = false)
    (hm : (s.chan d.val k).mover = none) :
    (s.dmaStop w d k).flag (DMA_STAT d.val k) 27 = true ∧ (s.dmaStop w d k).fld (DMA_STAT d.val k) 24 21 = 10 ∧
      (s.dmaStop w d k).log.serial = s.log.serial + 1 ∧
      (if (s.chan d.val k).flight = [] then (s.dmaStop w d k).dma = (s.setChan d.val k Channel.idle).dma ∧
          (s.dmaStop w d k).flag (DMA_STAT d.val k) 31 = false
        else (s.dmaStop w d k).chan d.val k = { s.chan d.val k with stopping := true } ∧
          (s.dmaStop w d k).flag (DMA_CTRL d.val k) 2 = true) := by
  have herr := chanError_spec (s.setChan d.val k { s.chan d.val k with stopping := true }) d hk (code := 10) (by decide)
  rw [dmaStop_eq hw ho hd hs]
  generalize hz : (s.setChan d.val k { s.chan d.val k with stopping := true }).chanError d k 10 = z at *
  have hdma := herr.parts .dma (by decide)
  have hchan : z.chan d.val k = { s.chan d.val k with stopping := true } := by rw [chan_of_dma hdma, State.setChan_chan]
  have hserial : z.log.serial = s.log.serial + 1 := herr.serial
  by_cases hflight : (s.chan d.val k).flight = []
  · have hrest := restChan_spec z d.val k
    rw [if_pos (by rw [hflight]; rfl), if_pos hflight, endChain_none (by rw [hchan]; exact hm)]
    refine ⟨hrest.stuck.trans herr.stuck, hrest.code.trans herr.code, ?_, ?_, hrest.idle⟩
    · rw [hrest.parts .log (by decide)]
      exact hserial
    · refine hrest.dma.trans (setChan_idle (c := { s.chan d.val k with stopping := true }) ?_ hdma)
      exact hd ▸ Option.some_ne_none x
  · have hctrl : DMA_CTRL d.val k ≠ DMA_STAT d.val k := dmaReg_ne (by decide)
    rw [if_neg (by rw [List.isEmpty_iff]; exact hflight), if_neg hflight]
    refine ⟨(flag_setFlag_other hctrl).trans herr.stuck, (fld_setFlag_other hctrl).trans herr.code, hserial, ?_,
      flag_setFlag_self (by decide)⟩
    rw [chan_of_dma (State.setFlag_dma _ _ _ _)]
    exact hchan

end

/-! ### Triggers (R266) -/

section
variable {s : State} {d k : Nat}

theorem trigger_rest (h : (s.chan d k).desc = none) : s.trigger d k = s := by
  unfold State.trigger
  dsimp only
  rw [h]

variable {x : Desc} (h : (s.chan d k).desc = some x)
include h

theorem trigger_eq : s.trigger d k = if x.trigKind = 0 then s
    else if (s.chan d k).released = 0 then s.setChan d k ((s.chan d k).release x)
    else if (s.chan d k).pending < 255 then
      (s.setChan d k { s.chan d k with pending := (s.chan d k).pending + 1 }).setFld (DMA_STAT d k) 20 13 ((s.chan d k).pending + 1)
    else (s.setFlag (DMA_STAT d k) 25 true).bump (DMA_CNT_OVERRUN d k) 1 := by
  unfold State.trigger
  dsimp only
  rw [h]

theorem trigger_releases (ht : x.trigKind ≠ 0) (hr : (s.chan d k).released = 0) :
    s.trigger d k = s.setChan d k { s.chan d k with
      released := if x.pace = 0 then (s.chan d k).held x else Nat.min x.pace ((s.chan d k).held x) } := by
  rw [trigger_eq h, if_neg ht, if_pos hr]
  unfold Channel.release
  rw [hr, Nat.zero_add]

theorem trigger_waits (ht : x.trigKind ≠ 0) (hr : (s.chan d k).released ≠ 0) (hp : (s.chan d k).pending < 255) :
    (s.trigger d k).chan d k = { s.chan d k with pending := (s.chan d k).pending + 1 } ∧
      (s.trigger d k).fld (DMA_STAT d k) 20 13 = (s.chan d k).pending + 1 ∧ onlyRegs [DMA_STAT d k] s (s.trigger d k) := by
  rw [trigger_eq h, if_neg ht, if_neg hr, if_pos hp]
  refine ⟨?_, ?_, onlyRegs_setFld List.mem_cons_self (onlyRegs_of_regs rfl)⟩
  · rw [chan_of_dma (State.setFld_dma _ _ _ _ _), State.setChan_chan]
  · rw [fld_setFld_self (by decide) (by decide)]
    exact Nat.mod_eq_of_lt (by omega)

theorem trigger_overruns (ht : x.trigKind ≠ 0) (hr : (s.chan d k).released ≠ 0) (hp : 255 ≤ (s.chan d k).pending) :
    (s.trigger d k).dma = s.dma ∧ (s.trigger d k).flag (DMA_STAT d k) 25 = true ∧
      counted (DMA_CNT_OVERRUN d k) 1 s (s.trigger d k) := by
  have hne : DMA_CNT_OVERRUN d k ≠ DMA_STAT d k := dmaReg_ne (by decide)
  rw [trigger_eq h, if_neg ht, if_neg hr, if_neg (by omega)]
  refine ⟨?_, ?_, counted_from (reg_setFlag_other hne.symm) (counted_bump _)⟩
  · rw [State.bump_dma, State.setFlag_dma]
  · rw [flag_of_reg (reg_bump_other hne), flag_setFlag_self (by decide)]

end

/-! ### Grants (R263, R264) -/

/-- Every ready channel but the one served waits. -/
def State.countWaits (s : State) (d k : Nat) (rs : List (Nat × Nat)) : State :=
  rs.foldl (fun s e => if e.1 = k then s else s.bump (DMA_CNT_ARBWAIT d e.1) 1) s

theorem onlyParts_countWaits (s : State) (d k : Nat) (rs : List (Nat × Nat)) : onlyParts [.regs] s (s.countWaits d k rs) :=
  List.foldlRecOn (motive := fun t : State => onlyParts [.regs] s t) _ _ (onlyParts_refl _ s) fun t ht e _ => by
    split
    · exact ht
    · exact onlyParts_trans ht (Leads.onlyParts (keeps_bump (Has.self.sub rfl) Leads.self))

theorem arbWait_ne {d m n : Nat} (h : m ≠ n) : DMA_CNT_ARBWAIT d m ≠ DMA_CNT_ARBWAIT d n := by
  unfold DMA_CNT_ARBWAIT dmaReg
  omega

theorem reg_countWaits_other {d k m : Nat} {rs : List (Nat × Nat)} (h : ∀ e ∈ rs, e.1 ≠ m) (s : State) :
    (s.countWaits d k rs).reg (DMA_CNT_ARBWAIT d m) = s.reg (DMA_CNT_ARBWAIT d m) :=
  List.foldlRecOn (motive := fun t : State => t.reg (DMA_CNT_ARBWAIT d m) = s.reg (DMA_CNT_ARBWAIT d m)) _ _ rfl
    fun t ht e he => by
      split
      · exact ht
      · exact (reg_bump_other (arbWait_ne (h e he))).trans ht

theorem countWaits_counted {d k m p : Nat} (hm : m ≠ k) : ∀ {rs : List (Nat × Nat)} {s : State},
    rs.Pairwise (fun a b => a.1 ≠ b.1) → (m, p) ∈ rs → counted (DMA_CNT_ARBWAIT d m) 1 s (s.countWaits d k rs) := by
  intro rs
  induction rs with
  | nil => exact fun _ h => absurd h List.not_mem_nil
  | cons e rs ih =>
    intro s hrs he
    obtain ⟨hhead, htail⟩ := List.pairwise_cons.mp hrs
    show counted _ 1 s (State.countWaits (if e.1 = k then s else s.bump (DMA_CNT_ARBWAIT d e.1) 1) d k rs)
    obtain rfl | he := List.mem_cons.mp he
    · rw [if_neg hm]
      exact counted_of_reg (counted_bump s) (reg_countWaits_other (fun x hx => (hhead x hx).symm) _)
    · refine counted_from ?_ (ih htail he)
      split
      · rfl
      · exact reg_bump_other (arbWait_ne (hhead _ he))

theorem wanting_pairwise (s : State) (d : Nat) : (s.wanting d).Pairwise (fun a b => a.1 ≠ b.1) := by
  unfold State.wanting
  refine List.Pairwise.filterMap _ (fun a b hab x hx y hy => ?_) List.nodup_range
  have hfst : ∀ {n : Nat} {z : Nat × Nat}, (match (s.chan d n).desc with
      | some x => if (s.chan d n).wants then some (n, x.prio) else none
      | none => none) = some z → z.1 = n := fun {n z} hz => by
    split at hz
    · split at hz
      · rw [← Option.some.inj hz]
      · exact nomatch hz
    · exact nomatch hz
  rw [hfst hx, hfst hy]
  exact hab

/-- The channel after its next burst has issued. -/
def Channel.burstIssued (c : Channel) (x : Desc) : Channel :=
  { c with cut := c.cut + Nat.min (x.len - c.cut) (512 - (adOff x.dst + c.cut) % 512), released := c.released - 1,
           flight := c.flight ++ [⟨c.cut, Nat.min (x.len - c.cut) (512 - (adOff x.dst + c.cut) % 512)⟩] }

/-- A burst whose source is this device's own memory, with no event waiting. -/
theorem issueBurst_own {s : State} {d : Die} {k : Nat} {x : Desc} (hx : (s.chan d.val k).desc = some x)
    (hp : (s.chan d.val k).pending = 0) (hw : (s.chan d.val k).srcWin = none) (hown : s.ownNode x.src = true) :
    s.issueBurst d k = s.setChan d.val k ((s.chan d.val k).burstIssued x) := by
  have hspend : (s.setChan d.val k ((s.chan d.val k).burstIssued x)).spendPending d.val k x =
      s.setChan d.val k ((s.chan d.val k).burstIssued x) := by
    unfold State.spendPending
    dsimp only
    rw [State.setChan_chan]
    refine if_neg fun h => ?_
    rw [show ((s.chan d.val k).burstIssued x).pending = 0 from hp] at h
    exact Nat.lt_irrefl 0 h.2
  unfold State.issueBurst
  dsimp only
  rw [hx]
  dsimp only
  have hburst : { (s.chan d.val k).burstIssued x with desc := some x } = (s.chan d.val k).burstIssued x := by
    rw [← hx]
    rfl
  show State.askSource (State.spendPending (s.setChan d.val k { (s.chan d.val k).burstIssued x with desc := some x }) d.val k x)
    d k x _ = _
  rw [hburst, hspend]
  have hsame : SamePorts s (s.setChan d.val k ((s.chan d.val k).burstIssued x)) := ⟨rfl, rfl, rfl, fun _ _ => rfl⟩
  unfold State.askSource
  dsimp only
  rw [State.setChan_chan, show ((s.chan d.val k).burstIssued x).srcWin = none from hw]
  exact if_pos ((ownNode_of_ports hsame _).trans hown)

theorem grant_idle {s : State} {d : Die} (h : s.wanting d.val = []) : s.grant d = s := by
  unfold State.grant
  split
  · rfl
  · rw [h]
    rfl

section
variable {s : State} {d : Die} {k : Nat} {a : DmaArb} {x : Desc} (hrun : s.coreRuns (d.val / 2) = true)
  (ha : arbitrateDma (look DmaArb.fresh s.dmaArb d.val) (s.wanting d.val) = some (k, a)) (hx : (s.chan d.val k).desc = some x)
  (hp : (s.chan d.val k).pending = 0) (hw : (s.chan d.val k).srcWin = none) (hown : s.ownNode x.src = true)
include hrun ha hx hp hw hown

theorem grant_served : s.grant d = (({ s with dmaArb := put DmaArb.fresh s.dmaArb d.val a } : State).countWaits d.val k
    (s.wanting d.val)).setChan d.val k ((s.chan d.val k).burstIssued x) := by
  have hwaits := onlyParts_countWaits ({ s with dmaArb := put DmaArb.fresh s.dmaArb d.val a } : State) d.val k (s.wanting d.val)
  have hchan : (({ s with dmaArb := put DmaArb.fresh s.dmaArb d.val a } : State).countWaits d.val k (s.wanting d.val)).chan d.val k =
      s.chan d.val k := chan_of_dma (hwaits .dma (by decide)) _ _
  have hnode : (({ s with dmaArb := put DmaArb.fresh s.dmaArb d.val a } : State).countWaits d.val k (s.wanting d.val)).ownNode x.src =
      s.ownNode x.src := by
    unfold State.ownNode State.node
    rw [hwaits .serve (by decide), chr_of_mem (hwaits .mem (by decide))]
    rfl
  have hburst := issueBurst_own (d := d) (hchan.symm ▸ hx) (hchan.symm ▸ hp) (hchan.symm ▸ hw) (hnode.trans hown)
  rw [hchan] at hburst
  rw [← hburst]
  unfold State.grant
  rw [if_neg (by rw [hrun]; exact Bool.false_ne_true)]
  dsimp only
  rw [ha]
  rfl

theorem grant_spec : (s.grant d).chan d.val k = (s.chan d.val k).burstIssued x ∧
    (s.grant d).dmaArb = put DmaArb.fresh s.dmaArb d.val a ∧ onlyParts [.regs, .dma, .dmaArb] s (s.grant d) ∧
    ∀ m p, (m, p) ∈ s.wanting d.val → m ≠ k → counted (DMA_CNT_ARBWAIT d.val m) 1 s (s.grant d) := by
  have hwaits := onlyParts_countWaits ({ s with dmaArb := put DmaArb.fresh s.dmaArb d.val a } : State) d.val k (s.wanting d.val)
  rw [grant_served hrun ha hx hp hw hown]
  refine ⟨State.setChan_chan _ _ _ _, ?_, ?_, fun m p hm hne => ?_⟩
  · rw [State.setChan_dmaArb]
    exact hwaits .dmaArb (by decide)
  · have harb : onlyParts [.dmaArb] s ({ s with dmaArb := put DmaArb.fresh s.dmaArb d.val a } : State) := by
      intro p hp
      cases p
      case dmaArb => exact absurd List.mem_cons_self hp
      all_goals rfl
    exact onlyParts_trans (onlyParts_mono (by decide) harb) (onlyParts_trans (onlyParts_mono (by decide) hwaits)
      (onlyParts_mono (by decide) (Leads.onlyParts (keeps_setChan (Has.self.sub rfl) Leads.self) (ps := [.dma]))))
  · refine counted_of_reg ?_ (reg_of_regs (State.setChan_regs _ _ _ _) _)
    have h := countWaits_counted (d := d.val) (s := { s with dmaArb := put DmaArb.fresh s.dmaArb d.val a }) hne
      (wanting_pairwise s d.val) hm
    exact counted_from (reg_of_regs rfl _) h

end

/-- Settles O47: transfers started and stopped, grants, and triggers. -/
theorem transfersAndTriggers : Obligations.TransfersAndTriggers := by
  unfold Obligations.TransfersAndTriggers
  refine ⟨⟨?_, ?_, ?_⟩, ?_, ?_⟩
  · intro u dec e s h d g raw x code hfit hgood
    exact ⟨fun hz => ⟨_, rfl, move_starts h hfit hgood rfl rfl hz⟩, fun hz => ⟨_, rfl, move_fails h hfit hgood rfl rfl hz⟩⟩
  · intro w d ch s _ hw ho k g raw x code hd hrun hreset hfit hgood
    refine ⟨fun hz => ?_, fun hz => ?_⟩
    · have hgo := dmaGo_eq hw ho hd hrun hreset (startDesc_starts hfit hgood rfl rfl hz)
      rw [if_pos rfl] at hgo
      obtain ⟨hchan, hbusy, -, -, hparts, hregs⟩ := started_spec s d.val k g 1 x
      exact ⟨_, congrArg Host.Outcome.next hgo, by rw [hchan]; rfl, by rw [hchan]; rfl, hbusy, hparts, hregs⟩
    · have hgo := dmaGo_eq hw ho hd hrun hreset (startDesc_fails hfit hgood rfl rfl hz)
      rw [if_neg hz] at hgo
      have herr := chanError_spec s d ch.isLt (code := code) (checkDesc_lt s _ _ _ _ _)
      exact ⟨_, congrArg Host.Outcome.next hgo, herr.parts .dma (by decide), herr.stuck, herr.code, herr.serial⟩
  · intro w d ch x s _ hw ho c hd hs hm
    exact ⟨_, rfl, dmaStop_spec hw ho ch.isLt hd hs hm⟩
  · intro d k a x s _ hrun
    refine ⟨fun h => congrArg Host.Outcome.next (grant_idle h), ?_⟩
    intro ha c hx hp hw hown n
    exact ⟨_, rfl, grant_spec hrun ha hx hp hw hown⟩
  · intro d ch s _ c
    refine ⟨fun h => congrArg Host.Outcome.next (trigger_rest h),
      fun x h ht => congrArg Host.Outcome.next ((trigger_eq h).trans (if_pos ht)),
      fun x h ht hr => congrArg Host.Outcome.next (trigger_releases h ht hr),
      fun x h ht hr hp => ⟨_, rfl, trigger_waits h ht hr hp⟩, fun x h ht hr hp => ⟨_, rfl, trigger_overruns h ht hr hp⟩⟩

end Sys2Proof.Machine
end

section
/-! SUPPORT. Bursts acknowledged, and transfers that end (O48; R263, R265, R267, R269, R410). -/

namespace Sys2Proof.Machine

/-! ### Bytes of Vault and Till (R390) -/

theorem keyOf_add {sp o i : Nat} (h : o + i < 2 ^ 48) : keyOf sp (o + i) = keyOf sp o + i := by
  unfold keyOf
  rw [Nat.mod_eq_of_lt h, Nat.mod_eq_of_lt (by omega), Nat.add_assoc]

theorem spaceKey_memory {sp : Nat} (h : sp ≤ 1) (o : Nat) : spaceKey sp o = keyOf sp o := if_neg (by omega)

theorem spaceRead_memory {sp : Nat} (h : sp ≤ 1) (s : State) (o n : Nat) : s.spaceRead sp o n =
    (List.range n).map (fun i => (s.byte (keyOf sp (o + i)), look false s.poison (keyOf sp (o + i) / 32))) := by
  unfold State.spaceRead
  rw [if_neg (by omega), if_neg (by omega), if_neg (by omega)]
  simp only [spaceKey_memory h]

theorem length_spaceRead_memory {sp : Nat} (h : sp ≤ 1) (s : State) (o n : Nat) : (s.spaceRead sp o n).length = n := by
  rw [spaceRead_memory h, List.length_map, List.length_range]

theorem bytes_spaceRead {sp o n : Nat} (h : sp ≤ 1) (ho : o + n ≤ 2 ^ 48) (s : State) :
    (s.spaceRead sp o n).map Prod.fst = s.read (keyOf sp o) n := by
  rw [spaceRead_memory h, List.map_map]
  unfold State.read
  refine List.map_congr_left fun i hi => ?_
  have hlt := List.mem_range.mp hi
  rw [Function.comp_apply, keyOf_add (by omega)]

theorem onlyBytes_spaceWrite (s : State) (sp o : Nat) (bs : List (Byte × Bool)) :
    onlyBytes (spaceKey sp o) bs.length s (s.spaceWrite sp o bs) := by
  unfold State.spaceWrite
  have hw := onlyBytes_write s (spaceKey sp o) (bs.map Prod.fst)
  rw [List.length_map] at hw
  refine onlyBytes_trans hw (onlyBytes_foldl (fun t e he => ?_) _)
  obtain ⟨hlt, -⟩ := mem_zipIdx_lt he
  split
  · exact onlyBytes_mono (by omega) (by omega) (onlyBytes_spoil t _ 1)
  · exact onlyBytes_refl _ _ _

theorem read_spaceWrite_memory {sp : Nat} (h : sp ≤ 1) (s : State) (o : Nat) (bs : List (Byte × Bool)) :
    (s.spaceWrite sp o bs).read (keyOf sp o) bs.length = bs.map Prod.fst := by
  rw [read_of_mem (mem_spaceWrite s sp o bs), spaceKey_memory h]
  have hread := read_write_self s (keyOf sp o) (bs.map Prod.fst)
  rwa [List.length_map] at hread

/-! ### A burst whose ends are this device's memory (R265) -/

/-- A burst within its transfer, from and to this device's Vault or Till, without a swap. -/
structure OwnBurst (s : State) (c : Channel) (x : Desc) (b : Burst) : Prop where
  srcWin : c.srcWin = none
  dstWin : c.dstWin = none
  srcOwn : s.ownNode x.src = true
  dstOwn : s.ownNode x.dst = true
  srcMem : adSpace x.src ≤ 1
  dstMem : adSpace x.dst ≤ 1
  plain : x.swap = 0
  within : b.off + b.len ≤ x.len
  srcEnd : adOff x.src + x.len ≤ 2 ^ 48
  dstEnd : adOff x.dst + x.len ≤ 2 ^ 48

section
variable {s : State} {c : Channel} {x : Desc} {b : Burst} (h : OwnBurst s c x b)
include h

theorem burstSpan_plain : burstSpan x b = (b.off, b.off + b.len) := by
  have hunit : swapUnit x.swap = 1 := by rw [h.plain]; rfl
  have hmin := Nat.min_eq_right h.within
  unfold burstSpan ceilDiv
  dsimp only
  rw [hunit, Nat.div_one, Nat.mul_one, Nat.div_one, Nat.mul_one, Nat.add_sub_cancel]
  exact congrArg (Prod.mk b.off) hmin

/-- The source's bytes of a burst. -/
def State.burstSource (s : State) (x : Desc) (b : Burst) : List (Byte × Bool) :=
  s.spaceRead (adSpace x.src) (adOff x.src + b.off) b.len

theorem sourceSpan_own : s.sourceSpan c x b.off (b.off + b.len) = some (s.burstSource x b) := by
  unfold State.sourceSpan
  rw [if_pos (by rw [h.srcOwn, h.srcWin]; rfl), Nat.add_sub_cancel_left]
  rfl

theorem burstBytes_plain : ((burstBytes x b b.off (s.burstSource x b)).map Prod.snd).map Prod.fst = (s.burstSource x b).map Prod.fst := by
  have hlen : (s.burstSource x b).length = b.len := length_spaceRead_memory h.srcMem _ _ _
  have hswap : ∀ i, swapIndex x.swap (b.off + i) - b.off = i := fun i => by
    rw [show swapIndex x.swap (b.off + i) = b.off + i by rw [h.plain]; exact Nat.xor_zero _, Nat.add_sub_cancel_left]
  unfold burstBytes
  rw [List.map_map, List.map_map]
  refine List.ext_getElem (by rw [List.length_map, List.length_range, List.length_map, hlen]) fun i hi hj => ?_
  have hi' : i < (s.burstSource x b).length := by rwa [List.length_map] at hj
  have hget : ∀ v, (s.burstSource x b).getD i v = (s.burstSource x b)[i] := fun v => by
    rw [List.getD_eq_getElem?_getD, List.getElem?_eq_getElem hi', Option.getD_some]
  rw [List.getElem_map, List.getElem_map, List.getElem_range]
  dsimp only [Function.comp_apply]
  rw [hswap, Nat.add_sub_cancel_left, hget, hget]
  split
  · rfl
  · rfl

omit h in
theorem length_burstBytes (lo : Nat) (span : List (Byte × Bool)) : ((burstBytes x b lo span).map Prod.snd).length = b.len := by
  unfold burstBytes
  rw [List.length_map, List.length_map, List.length_range]

/-- The state after the burst's bytes are written. -/
def State.burstPut (s : State) (x : Desc) (b : Burst) : State :=
  s.spaceWrite (adSpace x.dst) (adOff x.dst + b.off) ((burstBytes x b b.off (s.burstSource x b)).map Prod.snd)

theorem burstAck_own {d : Die} {k : Nat} (hc : s.chan d.val k = c) (hx : c.desc = some x)
    (hb : c.flight.find? (fun f => f.off == b.off) = some b) : s.burstAck d k b.off = (s.burstPut x b).acked d k x b := by
  subst hc
  unfold State.burstAck
  dsimp only
  rw [hx, hb]
  dsimp only
  rw [burstSpan_plain h]
  dsimp only
  rw [sourceSpan_own h]
  dsimp only
  unfold State.putBurst
  rw [h.dstWin]
  dsimp only
  rw [if_pos h.dstOwn]
  rfl

omit h in
theorem onlyParts_burstPut : onlyParts [.mem, .poison] s (s.burstPut x b) :=
  Leads.onlyParts (keeps_spaceWrite (Has.self.sub rfl) Leads.self)

theorem burstPut_bytes {t : State} (ht : SameBytes (s.burstPut x b) t) :
    (t.spaceRead (adSpace x.dst) (adOff x.dst + b.off) b.len).map Prod.fst = (s.burstSource x b).map Prod.fst ∧
      onlyBytes (keyOf (adSpace x.dst) (adOff x.dst + b.off)) b.len s t := by
  have hend := h.dstEnd
  have hwithin := h.within
  have hread := read_spaceWrite_memory h.dstMem s (adOff x.dst + b.off) ((burstBytes x b b.off (s.burstSource x b)).map Prod.snd)
  have honly := onlyBytes_spaceWrite s (adSpace x.dst) (adOff x.dst + b.off) ((burstBytes x b b.off (s.burstSource x b)).map Prod.snd)
  rw [length_burstBytes] at hread honly
  rw [spaceKey_memory h.dstMem] at honly
  refine ⟨?_, onlyBytes_of_bytes (SameBytes.refl s) ht honly⟩
  rw [bytes_spaceRead h.dstMem (by omega), read_of_mem ht.1]
  exact hread.trans (burstBytes_plain h)

end

/-! ### The counts of an acknowledgement (R263, R267) -/

theorem chanInterrupt_keeps (s : State) (d k bit : Nat) : onlyParts [.regs, .ports, .out] s (s.chanInterrupt d k bit) ∧
    onlyRegs [DMA_STAT d k] s (s.chanInterrupt d k bit) := by
  refine ⟨Leads.onlyParts (keeps_chanInterrupt (Has.self.sub rfl) Leads.self), ?_⟩
  unfold State.chanInterrupt
  dsimp only
  have hset : onlyRegs [DMA_STAT d k] s (s.setFlag (DMA_STAT d k) bit true) := onlyRegs_setFlag List.mem_cons_self (onlyRegs_refl _ s)
  split
  · split
    · exact onlyRegs_trans hset (onlyRegs_of_regs ((keeps_msix Has.self Leads.self).same .regs rfl))
    · exact hset
  · exact hset

/-- A channel's acknowledgement noted: the burst out of flight. -/
def Channel.landed (c : Channel) (b : Burst) : Channel := { c with flight := c.flight.erase b, acked := c.acked ++ [b] }

/-- Has a channel's first half been acknowledged for the first time? -/
def Channel.half (c : Channel) (x : Desc) : Bool := !c.halfDone && coveredBelow (x.len / 2) c.acked == x.len / 2

/-- The bytes of a channel's acknowledged bursts. -/
def Channel.total (c : Channel) : Nat := c.acked.foldl (fun a b => a + b.len) 0

/-- The state after an acknowledgement's counts and its half interrupt. -/
def State.countAck (s : State) (d : Die) (k : Nat) (x : Desc) (b : Burst) : State :=
  let c := (s.chan d.val k).landed b
  let z := ((s.setChan d.val k { c with halfDone := c.halfDone || c.half x }).setReg (DMA_DONE d.val k)
    (BitVec.ofNat 64 c.total)).bump (DMA_CNT_BYTES d.val k) b.len
  if c.half x && x.intHalf then z.chanInterrupt d.val k 29 else z

theorem acked_eq (s : State) (d : Die) (k : Nat) (x : Desc) (b : Burst) (hs : (s.chan d.val k).stopping = false) :
    s.acked d k x b = if ((s.chan d.val k).landed b).total = x.len then (s.countAck d k x b).descDone d k x
      else s.countAck d k x b := by
  unfold State.acked State.countAck Channel.half Channel.total Channel.landed
  dsimp only
  rw [hs, if_neg Bool.false_ne_true]

/-- What an acknowledgement's counts leave. -/
structure AckCounted (d k : Nat) (x : Desc) (b : Burst) (s t : State) : Prop where
  dma : t.dma = (s.setChan d k { (s.chan d k).landed b with
    halfDone := ((s.chan d k).landed b).halfDone || ((s.chan d k).landed b).half x }).dma
  done : t.reg (DMA_DONE d k) = BitVec.ofNat 64 ((s.chan d k).landed b).total
  bytes : counted (DMA_CNT_BYTES d k) b.len s t
  parts : onlyParts [.regs, .dma, .ports, .out] s t
  regs : onlyRegs [DMA_STAT d k, DMA_DONE d k, DMA_CNT_BYTES d k] s t

theorem countAck_spec (s : State) (d : Die) (k : Nat) (x : Desc) (b : Burst) : AckCounted d.val k x b s (s.countAck d k x b) := by
  have hdone : DMA_CNT_BYTES d.val k ≠ DMA_DONE d.val k := dmaReg_ne (by decide)
  have hstat : DMA_DONE d.val k ≠ DMA_STAT d.val k := dmaReg_ne (by decide)
  have hbytes : DMA_CNT_BYTES d.val k ≠ DMA_STAT d.val k := dmaReg_ne (by decide)
  unfold State.countAck
  extract_lets c z
  have hz : AckCounted d.val k x b s z := by
    refine ⟨rfl, ?_, ?_, ?_, ?_⟩
    · exact (reg_bump_other hdone).trans reg_setReg_self
    · exact counted_from (s := s) ((reg_setReg_other hdone.symm).trans (reg_of_regs (State.setChan_regs _ _ _ _) _)) (counted_bump _)
    · exact Leads.onlyParts (keeps_bump (Has.self.sub rfl) (keeps_setReg (Has.self.sub rfl) (keeps_setChan (Has.self.sub rfl) Leads.self)))
    · exact onlyRegs_bump (by simp) (onlyRegs_setReg (by simp) (onlyRegs_of_regs (State.setChan_regs _ _ _ _)))
  clear_value z
  split
  · obtain ⟨hparts, hregs⟩ := chanInterrupt_keeps z d.val k 29
    refine ⟨(hparts .dma (by decide)).trans hz.dma, (hregs _ (by simpa using hstat)).trans hz.done,
      counted_of_reg hz.bytes (hregs _ (by simpa using hbytes)), onlyParts_trans hz.parts (onlyParts_mono (by decide) hparts),
      onlyRegs_trans hz.regs (onlyRegs_mono (by simp) hregs)⟩
  · exact hz

/-- The state after a completed descriptor's tag, count and interrupt. -/
def State.tagged (s : State) (d k : Nat) (x : Desc) : State :=
  let s := (s.setReg (DMA_TAG d k) (BitVec.ofNat 64 x.tag.toNat)).bump (DMA_CNT_DESC d k) 1
  if x.intFull then s.chanInterrupt d k 28 else s

/-- What a completed descriptor's tag, count and interrupt leave. -/
structure Tagged (d k : Nat) (x : Desc) (s t : State) : Prop where
  tag : t.reg (DMA_TAG d k) = BitVec.ofNat 64 x.tag.toNat
  desc : counted (DMA_CNT_DESC d k) 1 s t
  parts : onlyParts [.regs, .ports, .out] s t

theorem tagged_spec (s : State) (d k : Nat) (x : Desc) : Tagged d k x s (s.tagged d k x) := by
  have htag : DMA_CNT_DESC d k ≠ DMA_TAG d k := dmaReg_ne (by decide)
  have htagStat : DMA_TAG d k ≠ DMA_STAT d k := dmaReg_ne (by decide)
  have hdescStat : DMA_CNT_DESC d k ≠ DMA_STAT d k := dmaReg_ne (by decide)
  unfold State.tagged
  extract_lets z
  have hz : Tagged d k x s z := by
    refine ⟨(reg_bump_other htag).trans reg_setReg_self, ?_, ?_⟩
    · exact counted_from (s := s) (reg_setReg_other htag.symm) (counted_bump _)
    · exact Leads.onlyParts (keeps_bump (Has.self.sub rfl) (keeps_setReg (Has.self.sub rfl) Leads.self))
  clear_value z
  split
  · obtain ⟨hparts, hregs⟩ := chanInterrupt_keeps z d k 28
    exact ⟨(hregs _ (by simpa using htagStat)).trans hz.tag, counted_of_reg hz.desc (hregs _ (by simpa using hdescStat)),
      onlyParts_trans hz.parts hparts⟩
  · exact hz

/-- The last descriptor of a transfer that no MOVE asked for leaves its channel at rest. -/
theorem descDone_last {z : State} {d : Die} {k : Nat} {x : Desc} (hchains : x.chains = false)
    (hm : (z.chan d.val k).mover = none) : z.descDone d k x = (z.tagged d.val k x).restChan d.val k := by
  have hdma := (tagged_spec z d.val k x).parts .dma (by decide)
  have hend : z.descDone d k x = (z.tagged d.val k x).endChain d k := by
    unfold State.descDone State.tagged
    dsimp only
    rw [hchains, if_neg Bool.false_ne_true]
  rw [hend, endChain_none (by rw [chan_of_dma hdma]; exact hm)]

/-! ### Completions of host reads (R410) -/

section
variable {s : State} {d : Die} {k : Nat} {x : Desc} {w : Nat × Nat × Word64}
  (hx : (s.chan d.val k).desc = some x) (hw : (s.chan d.val k).srcWin = some w)
include hx hw

theorem completion_damaged (bs : List Byte) : s.completion d k bs false = s.transferError d k := by
  unfold State.completion
  dsimp only
  rw [hx, hw]
  rfl

theorem completion_intact {i hi : Nat} (hl : (s.chan d.val k).lacks x = some (i, hi)) (bs : List Byte) :
    s.completion d k bs true = s.setChan d.val k { s.chan d.val k with
      arrived := (s.chan d.val k).arrived ++ [(i, (bs.take (hi - i)).map (fun b => (b, false)))] } := by
  unfold State.completion
  dsimp only
  rw [hx, hw]
  dsimp only
  rw [hl]
  rfl

theorem completionLate_lacking (hl : ((s.chan d.val k).lacks x).isSome = true) : s.completionLate d k = s.transferError d k := by
  unfold State.completionLate
  dsimp only
  rw [hx, hw]
  exact if_pos hl

theorem completionLate_whole (hl : (s.chan d.val k).lacks x = none) : s.completionLate d k = s := by
  unfold State.completionLate
  dsimp only
  rw [hx, hw]
  dsimp only
  rw [hl]
  rfl

end

/-! ### A burst acknowledged -/

section
variable {s : State} {d : Die} {k : Nat} {x : Desc} {b : Burst} (h : OwnBurst s (s.chan d.val k) x b) (hx : (s.chan d.val k).desc = some x)
  (hb : (s.chan d.val k).flight.find? (fun f => f.off == b.off) = some b) (hs : (s.chan d.val k).stopping = false)
include h hx hb hs

theorem burstAck_counts : s.burstAck d k b.off = if ((s.chan d.val k).landed b).total = x.len
    then ((s.burstPut x b).countAck d k x b).descDone d k x else (s.burstPut x b).countAck d k x b := by
  have hchan : (s.burstPut x b).chan d.val k = s.chan d.val k := chan_of_dma (onlyParts_burstPut .dma (by decide)) _ _
  rw [burstAck_own h rfl hx hb, acked_eq _ _ _ _ _ (by rw [hchan]; exact hs), hchan]

theorem burstAck_within (htotal : ((s.chan d.val k).landed b).total ≠ x.len) : ∃ t, s.burstAck d k b.off = t ∧
    (t.spaceRead (adSpace x.dst) (adOff x.dst + b.off) b.len).map Prod.fst = (s.burstSource x b).map Prod.fst ∧
    onlyBytes (keyOf (adSpace x.dst) (adOff x.dst + b.off)) b.len s t ∧
    (t.chan d.val k).flight = (s.chan d.val k).flight.erase b ∧ (t.chan d.val k).acked = (s.chan d.val k).acked ++ [b] ∧
    t.reg (DMA_DONE d.val k) = BitVec.ofNat 64 ((s.chan d.val k).landed b).total ∧ counted (DMA_CNT_BYTES d.val k) b.len s t := by
  have hput := onlyParts_burstPut (s := s) (x := x) (b := b)
  have hchan : (s.burstPut x b).chan d.val k = s.chan d.val k := chan_of_dma (hput .dma (by decide)) _ _
  have hack := countAck_spec (s.burstPut x b) d k x b
  obtain ⟨hread, honly⟩ := burstPut_bytes h ⟨hack.parts .mem (by decide), hack.parts .poison (by decide)⟩
  have hland := chan_of_dma hack.dma d.val k
  rw [State.setChan_chan, hchan] at hland
  refine ⟨_, (burstAck_counts h hx hb hs).trans (if_neg htotal), hread, honly, congrArg Channel.flight hland,
    congrArg Channel.acked hland, ?_, ?_⟩
  · rw [hack.done, hchan]
  · exact counted_from (reg_of_regs (hput .regs (by decide)) _) hack.bytes

theorem burstAck_last (htotal : ((s.chan d.val k).landed b).total = x.len) (hchains : x.chains = false)
    (hm : (s.chan d.val k).mover = none) : ∃ t, s.burstAck d k b.off = t ∧
    (t.spaceRead (adSpace x.dst) (adOff x.dst + b.off) b.len).map Prod.fst = (s.burstSource x b).map Prod.fst ∧
    t.dma = (s.setChan d.val k Channel.idle).dma ∧ t.flag (DMA_STAT d.val k) 31 = false ∧
    t.reg (DMA_TAG d.val k) = BitVec.ofNat 64 x.tag.toNat ∧ counted (DMA_CNT_DESC d.val k) 1 s t := by
  have hput := onlyParts_burstPut (s := s) (x := x) (b := b)
  have hchan : (s.burstPut x b).chan d.val k = s.chan d.val k := chan_of_dma (hput .dma (by decide)) _ _
  have hack := countAck_spec (s.burstPut x b) d k x b
  have hland := chan_of_dma hack.dma d.val k
  rw [State.setChan_chan, hchan] at hland
  have hdone := descDone_last (z := (s.burstPut x b).countAck d k x b) (d := d) hchains (by rw [hland]; exact hm)
  have heq := (burstAck_counts h hx hb hs).trans (if_pos htotal)
  rw [hdone] at heq
  have htag := tagged_spec ((s.burstPut x b).countAck d k x b) d.val k x
  have hrest := restChan_spec (((s.burstPut x b).countAck d k x b).tagged d.val k x) d.val k
  have hparts := onlyParts_trans (onlyParts_mono (qs := [.regs, .dma, .ports, .out, .clr]) (by decide) hack.parts)
    (onlyParts_trans (onlyParts_mono (by decide) htag.parts) (onlyParts_mono (by decide) hrest.parts))
  have hdmaReg : ∀ o, o ≠ 4 → o ≠ 0 → dmaReg d.val k o ∉ [DMA_STAT d.val k, DMA_CTRL d.val k] := fun o h4 h0 => by
    have hstat : dmaReg d.val k o ≠ DMA_STAT d.val k := dmaReg_ne h4
    have hctrl : dmaReg d.val k o ≠ DMA_CTRL d.val k := dmaReg_ne h0
    simp [hstat, hctrl]
  refine ⟨_, heq, ?_, ?_, hrest.idle, ?_, ?_⟩
  · exact (burstPut_bytes h ⟨hparts .mem (by decide), hparts .poison (by decide)⟩).1
  · have hdesc : { (s.chan d.val k).landed b with halfDone := ((s.chan d.val k).landed b).halfDone || ((s.chan d.val k).landed b).half x }.desc ≠ none :=
      hx ▸ Option.some_ne_none x
    refine hrest.dma.trans (setChan_idle hdesc ?_)
    rw [htag.parts .dma (by decide), hack.dma, hchan]
    exact congrArg (fun m => put Channel.idle m _ _) (hput .dma (by decide))
  · exact (hrest.regs _ (hdmaReg _ (by decide) (by decide))).trans htag.tag
  · refine counted_of_reg (counted_from (s := s) ?_ htag.desc) (hrest.regs _ (hdmaReg _ (by decide) (by decide)))
    have hstat : DMA_CNT_DESC d.val k ≠ DMA_STAT d.val k := dmaReg_ne (by decide)
    have hdone : DMA_CNT_DESC d.val k ≠ DMA_DONE d.val k := dmaReg_ne (by decide)
    have hbytes : DMA_CNT_DESC d.val k ≠ DMA_CNT_BYTES d.val k := dmaReg_ne (by decide)
    exact (hack.regs _ (by simp [hstat, hdone, hbytes])).trans (reg_of_regs (hput .regs (by decide)) _)

end

/-- Settles O48: an acknowledged burst is its bytes written and then its counts, and every failure of a transfer is the
one error that leaves its channel at rest. -/
theorem transfersEnd : Obligations.TransfersEnd := by
  refine ⟨?_, ?_⟩
  · intro d ch x b s _ c total hx hb hsrc hdst hs hso hdo hsm hdm hswap hwithin hsEnd hdEnd
    have h : OwnBurst s (s.chan d.val ch.val) x b := ⟨hsrc, hdst, hso, hdo, hsm, hdm, hswap, hwithin, hsEnd, hdEnd⟩
    refine ⟨fun htotal => ?_, fun htotal hchains hm => ?_⟩
    · obtain ⟨t, ht, hspec⟩ := burstAck_within h hx hb hs htotal
      exact ⟨t, congrArg Host.Outcome.next ht, hspec⟩
    · obtain ⟨t, ht, hspec⟩ := burstAck_last h hx hb hs htotal hchains hm
      exact ⟨t, congrArg Host.Outcome.next ht, hspec⟩
  · intro d ch x s _ c ended
    have hended : ∀ t, TransferEnded d.val ch.val s t → ended t := fun t h => ⟨h.dma, h.stuck, h.code, h.idle, h.serial⟩
    have herror := fun (hx : c.desc = some x) (hm : c.mover = none) => hended _ (transferError_unmoved (d := d) ch.isLt hx hm)
    refine ⟨fun hnone => ?_, fun hx hm => ⟨_, rfl, herror hx hm⟩, fun dec f hx hm hf => ?_, fun w bs i hi hx hw hl => ⟨?_, fun hm => ⟨?_, ?_⟩⟩,
      fun w hx hw hl => ?_⟩
    · exact congrArg Host.Outcome.next (if_pos (by rw [hnone]; rfl))
    · obtain ⟨hend, hrows⟩ := transferError_moved (d := d) ch.isLt hx hm hf
      exact ⟨_, rfl, hended _ hend, hrows⟩
    · exact congrArg Host.Outcome.next (completion_intact hx hw hl bs)
    · exact ⟨_, congrArg Host.Outcome.next (completion_damaged hx hw bs), herror hx hm⟩
    · exact ⟨_, congrArg Host.Outcome.next (completionLate_lacking hx hw (by rw [hl]; rfl)), herror hx hm⟩
    · exact congrArg Host.Outcome.next (completionLate_whole hx hw hl)

end Sys2Proof.Machine
end

section
/-! SUPPORT. The Audit converters: conversions taken, tracked and latched (O50; R334, R336, R338 to R340). -/

namespace Sys2Proof.Machine

/-! ### Registers of a converter -/

theorem aud_ne {i o p : Nat} (h : o ≠ p) : aud i o ≠ aud i p := by
  unfold aud
  omega

theorem aud_ne_die {i o d x : Nat} (hi : i < 6) (ho : o < 0x10000) : dieBase d + x ≠ aud i o := by
  unfold aud dieBase
  omega

theorem fld_setReg_ofNat {s : State} {a n : Nat} (hi lo : Nat) (h : n < 2 ^ 64) :
    (s.setReg a (BitVec.ofNat 64 n)).fld a hi lo = n / 2 ^ lo % 2 ^ (hi + 1 - lo) := by
  unfold State.fld bits
  rw [reg_setReg_self, BitVec.toNat_ofNat, Nat.mod_eq_of_lt h]

theorem flag_setReg_ofNat {s : State} {a n : Nat} (k : Nat) (h : n < 2 ^ 64) :
    (s.setReg a (BitVec.ofNat 64 n)).flag a k = (n / 2 ^ k % 2 ^ (k + 1 - k) == 1) := by
  rw [flag_eq_fld, fld_setReg_ofNat k k h]

theorem audit_of_aud {s t : State} (h : t.aud = s.aud) (i : Nat) : t.audit i = s.audit i := by
  unfold State.audit
  rw [h]

theorem setAudit_of_aud {s t : State} (h : t.aud = s.aud) (i : Nat) (v : Audit) : (t.setAudit i v).aud = (s.setAudit i v).aud :=
  congrArg (fun m => put Audit.idle m i v) h

/-- Converter `i`'s registers and the converters' state stand. -/
structure SameConverter (i : Nat) (s t : State) : Prop where
  regs : ∀ o, o < 0x10000 → t.reg (aud i o) = s.reg (aud i o)
  aud : t.aud = s.aud

theorem SameConverter.refl (i : Nat) (s : State) : SameConverter i s s := ⟨fun _ _ => rfl, rfl⟩

theorem SameConverter.trans {i : Nat} {s t u : State} (h : SameConverter i s t) (k : SameConverter i t u) : SameConverter i s u :=
  ⟨fun o ho => (k.regs o ho).trans (h.regs o ho), k.aud.trans h.aud⟩

theorem SameConverter.of_regs {i : Nat} {s t : State} (hr : t.regs = s.regs) (ha : t.aud = s.aud) : SameConverter i s t :=
  ⟨fun _ _ => reg_of_regs hr _, ha⟩

section
variable {i : Nat} {s t : State} (hi : i < 6) (h : SameConverter i s t)
include hi h

theorem SameConverter.setFld_die (d x hj lj v : Nat) : SameConverter i s (t.setFld (dieBase d + x) hj lj v) :=
  h.trans ⟨fun _ ho => reg_setFld_other (aud_ne_die hi ho), rfl⟩

theorem SameConverter.setFlag_die (d x k : Nat) (b : Bool) : SameConverter i s (t.setFlag (dieBase d + x) k b) :=
  h.setFld_die hi d x k k b.toNat

theorem SameConverter.setFlag_mgc (d u x k : Nat) (b : Bool) : SameConverter i s (t.setFlag (mgc d u x) k b) := by
  unfold mgc
  rw [Nat.add_assoc, Nat.add_assoc]
  exact h.setFlag_die hi _ _ _ _

theorem SameConverter.setFld_mgc (d u x hj lj v : Nat) : SameConverter i s (t.setFld (mgc d u x) hj lj v) := by
  unfold mgc
  rw [Nat.add_assoc, Nat.add_assoc]
  exact h.setFld_die hi _ _ _ _ _

omit hi in
theorem SameConverter.withCal (c : Calib) : SameConverter i s { t with cal := c } := h.trans (.of_regs rfl rfl)

omit hi in
theorem SameConverter.writeNat (a n v : Nat) : SameConverter i s (t.writeNat a n v) := h.trans (.of_regs rfl rfl)

/-- A calibration trigger leaves the converters alone. -/
theorem SameConverter.grantRing (d u : Nat) : SameConverter i s (t.grantRing d u) := by
  unfold State.grantRing
  extract_lets k c v
  split
  · exact (((h.withCal _ : SameConverter i s v).setFlag_mgc hi d u 0x90 31 false).writeNat _ _ _)
  · exact h

theorem SameConverter.calTrigger (d u reason : Nat) : SameConverter i s (t.calTrigger d u reason) := by
  unfold State.calTrigger
  extract_lets g v w c x y z
  have hv : SameConverter i s v := (h.setFlag_mgc hi d u 4 31 true).setFld_mgc hi d u 0x90 19 16 reason
  clear_value v
  have hw : SameConverter i s w := by
    show SameConverter i s (if _ then _ else _)
    split
    · exact hv.writeNat _ _ _
    · exact hv
  clear_value w
  split
  · split
    · exact hw
    · exact hw.withCal _
  · split
    · exact hw
    · have hy : SameConverter i s y := (hw.withCal _ : SameConverter i s x).setFlag_mgc hi d u 0x90 31 true
      clear_value y
      refine SameConverter.grantRing hi (?_ : SameConverter i s z) d u
      show SameConverter i s (if _ then _ else _)
      split
      · exact hy.writeNat _ _ _
      · exact hy

theorem SameConverter.groupTemp (d u : Nat) (x : Int) : SameConverter i s (t.groupTemp d u x) := by
  unfold State.groupTemp
  extract_lets v away
  have hv : SameConverter i s v := h.setFld_mgc hi d u 0x10 15 0 _
  clear_value v
  split
  · exact hv.calTrigger hi d u 1
  · exact hv

theorem SameConverter.sensorLatched (d ch : Nat) : SameConverter i s (t.sensorLatched d ch) := by
  unfold State.sensorLatched
  split
  · exact List.foldlRecOn (motive := fun u => SameConverter i s u) _ _ h fun u hu j _ => hu.groupTemp hi d _ _
  · exact h

end

/-! ### Trackers (R339) -/

/-- What a tracker's limits leave of its word. -/
structure TrackerKept (a : Nat) (s t : State) : Prop where
  low : t.fld a 11 0 = s.fld a 11 0
  high : t.fld a 43 32 = s.fld a 43 32
  fresh : t.flag a 63 = s.flag a 63
  regs : onlyRegs [a] s t
  parts : onlyParts [.regs, .serve] s t

theorem TrackerKept.trans {a : Nat} {s t u : State} (h : TrackerKept a s t) (k : TrackerKept a t u) : TrackerKept a s u :=
  ⟨k.low.trans h.low, k.high.trans h.high, k.fresh.trans h.fresh, onlyRegs_trans h.regs k.regs, onlyParts_trans h.parts k.parts⟩

theorem TrackerKept.of_regs {a : Nat} {s t : State} (h : t.regs = s.regs) (hp : onlyParts [.regs, .serve] s t) : TrackerKept a s t :=
  ⟨fld_of_reg (reg_of_regs h _) _ _, fld_of_reg (reg_of_regs h _) _ _, flag_of_reg (reg_of_regs h _) _, onlyRegs_of_regs h, hp⟩

theorem trackerKept_setFlag (s : State) (a : Nat) {k : Nat} (hk : k = 61 ∨ k = 62) : TrackerKept a s (s.setFlag a k true) :=
  ⟨fld_setFlag_apart (by omega) (by omega), fld_setFlag_apart (by omega) (by omega), flag_setFlag_apart (by omega) (by omega),
    onlyRegs_setFlag List.mem_cons_self (onlyRegs_refl _ s), Leads.onlyParts (keeps_setFlag (Has.self.sub rfl) Leads.self)⟩

/-- The value of a conversion that a tracker takes. -/
def trackValue (code : Nat) (hi lo : Bool) : Nat := if hi then 0xFFF else if lo then 0 else code

theorem trackValue_lt {code : Nat} (h : code < 4096) (hi lo : Bool) : trackValue code hi lo < 4096 := by
  unfold trackValue
  split
  · decide
  · split
    · decide
    · exact h

/-- What a tracker that takes a conversion leaves. -/
structure Tracked (i n v : Nat) (s t : State) : Prop where
  low : t.fld (AUD_TRK i n) 11 0 = Nat.min (s.fld (AUD_TRK i n) 11 0) v
  high : t.fld (AUD_TRK i n) 43 32 = Nat.max (s.fld (AUD_TRK i n) 43 32) v
  fresh : t.flag (AUD_TRK i n) 63 = false
  regs : onlyRegs [AUD_TRK i n] s t
  parts : onlyParts [.regs, .serve] s t

theorem Tracked.kept {i n v : Nat} {s t u : State} (h : Tracked i n v s t) (k : TrackerKept (AUD_TRK i n) t u) : Tracked i n v s u :=
  ⟨k.low.trans h.low, k.high.trans h.high, k.fresh.trans h.fresh, onlyRegs_trans h.regs k.regs, onlyParts_trans h.parts k.parts⟩

theorem tracked_track (s : State) (i n : Nat) {code : Nat} (hc : code < 4096) (hi lo : Bool) :
    Tracked i n (trackValue code hi lo) s (s.track i n code hi lo) := by
  unfold State.track
  extract_lets v a fresh low high lim above below tell marked
  have hv : v < 4096 := trackValue_lt hc hi lo
  have hhigh : Tracked i n v s high := by
    have hmin : Nat.min (s.fld a 11 0) v < 2 ^ 12 := Nat.lt_of_le_of_lt (Nat.min_le_right _ _) hv
    have hold : s.fld a 43 32 < 2 ^ 12 := bits_lt _ _ _
    have hmax : Nat.max (s.fld a 43 32) v < 2 ^ 12 := Nat.max_lt.mpr ⟨hold, hv⟩
    have hfresh : fresh.fld a 11 0 = s.fld a 11 0 := fld_setFlag_apart (by decide) (by decide)
    have hlow : low.fld a 43 32 = s.fld a 43 32 :=
      (fld_setFld_apart (by decide) (by decide) (by decide)).trans (fld_setFlag_apart (by decide) (by decide))
    refine ⟨?_, ?_, ?_, ?_, ?_⟩
    · refine (fld_setFld_apart (by decide) (by decide) (by decide)).trans ((fld_setFld_self (by decide) (by decide)).trans ?_)
      rw [hfresh]
      exact Nat.mod_eq_of_lt hmin
    · refine (fld_setFld_self (by decide) (by decide)).trans ?_
      rw [hlow]
      exact Nat.mod_eq_of_lt hmax
    · exact (flag_setFld_apart (by decide) (by decide) (by decide)).trans
        ((flag_setFld_apart (by decide) (by decide) (by decide)).trans (flag_setFlag_self (by decide)))
    · exact onlyRegs_setFld List.mem_cons_self (onlyRegs_setFld List.mem_cons_self (onlyRegs_setFlag List.mem_cons_self (onlyRegs_refl _ s)))
    · exact Leads.onlyParts (keeps_setFld (Has.self.sub rfl) (keeps_setFld (Has.self.sub rfl) (keeps_setFlag (Has.self.sub rfl) Leads.self)))
  have htell : ∀ z k up, k = 61 ∨ k = 62 → TrackerKept a z (tell z k up) := fun z k up hk => by
    have hset := trackerKept_setFlag z a hk
    show TrackerKept a z (if _ then _ else _)
    split
    · exact hset.trans (.of_regs rfl (Leads.onlyParts (keeps_eventAll (Has.self.sub rfl) Leads.self)))
    · exact hset
  clear_value high tell
  have hmarked : Tracked i n v s marked := by
    show Tracked i n v s (if _ then _ else _)
    split
    · exact hhigh.kept (htell _ _ _ (.inr rfl))
    · exact hhigh
  clear_value marked
  split
  · exact hmarked.kept (htell _ _ _ (.inl rfl))
  · exact hmarked

/-! ### AUD_DATA in Denja mode (R340) -/

/-- What a conversion leaves in AUD_DATA. -/
structure Shown (i code : Nat) (s t : State) : Prop where
  code : t.fld (AUD_DATA i) 11 0 = code
  new : t.flag (AUD_DATA i) 31 = true
  missed : t.flag (AUD_DATA i) 30 = (s.flag (AUD_DATA i) 31 || s.flag (AUD_DATA i) 30)
  regs : onlyRegs [AUD_DATA i] s t
  parts : onlyParts [.regs] s t

theorem shown_denja (s : State) (i : Nat) {ch code : Nat} (hch : ch < 2 ^ 15) (hc : code < 2 ^ 12) (hi lo unset : Bool) :
    Shown i code s (s.denja i ch code hi lo unset) := by
  unfold State.denja
  extract_lets v keep
  have hkeep : keep = (s.flag (AUD_DATA i) 31 || s.flag (AUD_DATA i) 30).toNat := by
    have hbit : keep = (v.flag (AUD_DATA i) 30).toNat := by
      have hlt : keep < 2 := bits_lt _ _ _
      have hbits : ∀ n < 2, n = (n == 1).toNat := by decide
      rw [flag_eq_fld]
      exact hbits keep hlt
    rw [hbit]
    show (State.flag (if s.flag (AUD_DATA i) 31 = true then _ else _) (AUD_DATA i) 30).toNat = _
    split
    next h31 => rw [flag_setFlag_self (by decide), h31, Bool.true_or]
    next h31 => rw [Bool.eq_false_iff.mpr h31, Bool.false_or]
  have hv : onlyRegs [AUD_DATA i] s v ∧ onlyParts [.regs] s v := by
    show onlyRegs [AUD_DATA i] s (if _ then _ else _) ∧ onlyParts _ s (if _ then _ else _)
    split
    · exact ⟨onlyRegs_setFlag List.mem_cons_self (onlyRegs_refl _ s), Leads.onlyParts (keeps_setFlag (Has.self.sub rfl) Leads.self)⟩
    · exact ⟨onlyRegs_refl _ s, onlyParts_refl _ s⟩
  clear_value keep v
  subst hkeep
  generalize hm : (s.flag (AUD_DATA i) 31 || s.flag (AUD_DATA i) 30) = missed
  have hk := Bool.toNat_lt missed
  have hu := Bool.toNat_lt unset
  have hh := Bool.toNat_lt hi
  have hl := Bool.toNat_lt lo
  have hlt : 2 ^ 31 + missed.toNat * 2 ^ 30 + unset.toNat * 2 ^ 29 + hi.toNat * 2 ^ 28 + lo.toNat * 2 ^ 27 + ch * 2 ^ 12 + code < 2 ^ 64 := by
    omega
  refine ⟨?_, ?_, ?_, onlyRegs_setReg List.mem_cons_self hv.1,
    onlyParts_trans hv.2 (Leads.onlyParts (keeps_setReg (Has.self.sub rfl) Leads.self))⟩
  · rw [fld_setReg_ofNat 11 0 hlt]
    omega
  · rw [flag_setReg_ofNat 31 hlt, beq_iff_eq]
    omega
  · rw [flag_setReg_ofNat 30 hlt, hm, Bool.eq_iff_iff, beq_iff_eq]
    cases missed
    · simp only [Bool.toNat_false, Bool.false_eq_true, iff_false]
      simp only [Bool.toNat_false] at hlt
      omega
    · simp only [Bool.toNat_true, iff_true]
      omega

/-! ### One conversion (R334, R336, R338) -/

/-- The word of the entry a converter stands at. -/
def State.entryWord (s : State) (i : Nat) : Word64 := s.reg (AUD_ENT i (s.audit i).entry)

/-- Is a converter's reference still unsettled (R335)? -/
def State.unsettled (s : State) (i : Nat) : Bool := s.fld (AUD_SETTLE i) 17 0 != 0

/-- The state after a conversion's counts. -/
def State.countConversion (s : State) (i : Nat) (hi lo : Bool) : State :=
  let s := s.bump (AUD_CNT_CONV i) 1
  if hi || lo then s.bump (AUD_CNT_RANGE i) 1 else s

/-- The state after a conversion's counts, its tracker and AUD_DATA. -/
def State.takeConversion (s : State) (i code : Nat) (hi lo : Bool) : State :=
  let ch := bits (s.entryWord i) 5 0 + (s.audit i).chan
  let unset := s.unsettled i
  let s' := s.countConversion i hi lo
  let s' := if bitOf (s.entryWord i) 60 && !unset then s'.track i (bits (s.entryWord i) 52 48 + (s.audit i).chan) code hi lo else s'
  if bitOf (s.entryWord i) 62 && s'.flag (AUD_CTRL i) 0 then s'.denja i ch code hi lo unset else s'

/-- A converter's accumulator after a conversion (R338). -/
def Audit.added (a : Audit) (code : Nat) (hi lo unset : Bool) : Audit :=
  { a with sum := a.sum + (if !(hi || lo) then code else 0), cnt := a.cnt + (!(hi || lo)).toNat, hi := a.hi || hi, lo := a.lo || lo,
           unset := a.unset || unset, rep := a.rep + 1 }

/-- A converter at the start of its entry's next channel (R336). -/
def Audit.nextChan (a : Audit) : Audit :=
  { a with sum := 0, cnt := 0, hi := false, lo := false, unset := false, rep := 0, chan := a.chan + 1 }

theorem added_eq (a : Audit) (code : Nat) (hi lo unset : Bool) : a.added code hi lo unset =
    { a with
      sum := a.sum + (if hi || lo then 0 else code), cnt := a.cnt + (if hi || lo then 0 else 1), hi := a.hi || hi, lo := a.lo || lo,
      unset := a.unset || unset, rep := a.rep + 1 } := by
  unfold Audit.added
  generalize (hi || lo) = out
  cases out
  · rfl
  · rfl

/-- What a conversion's counts leave. -/
structure ConversionCounted (i : Nat) (hi lo : Bool) (s t : State) : Prop where
  conv : counted (AUD_CNT_CONV i) 1 s t
  range : hi || lo → counted (AUD_CNT_RANGE i) 1 s t
  regs : onlyRegs [AUD_CNT_CONV i, AUD_CNT_RANGE i] s t
  parts : onlyParts [.regs, .serve] s t

theorem conversionCounted (s : State) (i : Nat) (hi lo : Bool) : ConversionCounted i hi lo s (s.countConversion i hi lo) := by
  have hne : AUD_CNT_CONV i ≠ AUD_CNT_RANGE i := aud_ne (by decide)
  unfold State.countConversion
  extract_lets z
  have hz : onlyRegs [AUD_CNT_CONV i, AUD_CNT_RANGE i] s z := onlyRegs_bump (by simp) (onlyRegs_refl _ s)
  have hparts : onlyParts [.regs, .serve] s z := Leads.onlyParts (keeps_bump (Has.self.sub rfl) Leads.self)
  split
  · exact ⟨counted_of_reg (counted_bump s) (reg_bump_other hne.symm), fun _ => counted_from (reg_bump_other hne) (counted_bump z),
      onlyRegs_bump (by simp) hz, onlyParts_trans hparts (Leads.onlyParts (keeps_bump (Has.self.sub rfl) Leads.self))⟩
  next h => exact ⟨counted_bump s, fun hr => absurd hr h, hz, hparts⟩

/-- What the taking of a conversion leaves: its counts, its tracker `n` and AUD_DATA. -/
structure ConversionTaken (i n code : Nat) (hi lo : Bool) (s t : State) : Prop where
  conv : counted (AUD_CNT_CONV i) 1 s t
  range : hi || lo → counted (AUD_CNT_RANGE i) 1 s t
  tracked : bitOf (s.entryWord i) 60 = true → s.unsettled i = false →
    t.fld (AUD_TRK i n) 11 0 = Nat.min (s.fld (AUD_TRK i n) 11 0) (trackValue code hi lo) ∧
    t.fld (AUD_TRK i n) 43 32 = Nat.max (s.fld (AUD_TRK i n) 43 32) (trackValue code hi lo) ∧ t.flag (AUD_TRK i n) 63 = false
  shown : bitOf (s.entryWord i) 62 = true → s.flag (AUD_CTRL i) 0 = true →
    t.fld (AUD_DATA i) 11 0 = code ∧ t.flag (AUD_DATA i) 31 = true ∧
    t.flag (AUD_DATA i) 30 = (s.flag (AUD_DATA i) 31 || s.flag (AUD_DATA i) 30)
  parts : onlyParts [.regs, .serve] s t

theorem trk_ne {i n o : Nat} (h : o < 0x400 ∨ 0x400 + 8 * n < o) : AUD_TRK i n ≠ aud i o := by
  unfold AUD_TRK
  exact aud_ne (by omega)

theorem conversionTaken {s : State} {i n code : Nat} (hn : n = bits (s.entryWord i) 52 48 + (s.audit i).chan) (hn32 : n < 32)
    (hc : code < 2 ^ 12) (hi lo : Bool) : ConversionTaken i n code hi lo s (s.takeConversion i code hi lo) := by
  have hchan : bits (s.entryWord i) 5 0 + (s.audit i).chan < 2 ^ 15 := by
    have hlt : bits (s.entryWord i) 5 0 < 2 ^ 6 := bits_lt _ _ _
    omega
  have hdataTrk : AUD_TRK i n ≠ AUD_DATA i := trk_ne (by omega)
  have hconvTrk : AUD_CNT_CONV i ≠ AUD_TRK i n := (trk_ne (by omega)).symm
  have hrangeTrk : AUD_CNT_RANGE i ≠ AUD_TRK i n := (trk_ne (by omega)).symm
  have hctrlTrk : AUD_CTRL i ≠ AUD_TRK i n := (trk_ne (by omega)).symm
  unfold State.takeConversion
  rw [← hn]
  extract_lets ch unset c k
  have hcounted : ConversionCounted i hi lo s c := conversionCounted s i hi lo
  clear_value c
  have htrk : c.reg (AUD_TRK i n) = s.reg (AUD_TRK i n) := hcounted.regs _ (by simp [hconvTrk.symm, hrangeTrk.symm])
  have hk : onlyRegs [AUD_TRK i n] c k ∧ onlyParts [.regs, .serve] c k ∧
      (bitOf (s.entryWord i) 60 = true → unset = false → Tracked i n (trackValue code hi lo) c k) := by
    show onlyRegs [AUD_TRK i n] c (if _ then _ else _) ∧ onlyParts _ c (if _ then _ else _) ∧ (_ → _ → Tracked _ _ _ c (if _ then _ else _))
    split
    · have htracked := tracked_track c i n hc hi lo
      exact ⟨htracked.regs, htracked.parts, fun _ _ => htracked⟩
    next h => exact ⟨onlyRegs_refl _ c, onlyParts_refl _ c, fun h60 hu => absurd (by rw [h60, hu]; rfl) h⟩
  clear_value k
  obtain ⟨hkregs, hkparts, htracked⟩ := hk
  have hctrl : k.flag (AUD_CTRL i) 0 = s.flag (AUD_CTRL i) 0 :=
    flag_of_reg ((hkregs _ (by simpa using hctrlTrk)).trans (hcounted.regs _ (by simp [show AUD_CTRL i ≠ AUD_CNT_CONV i from aud_ne (by decide),
      show AUD_CTRL i ≠ AUD_CNT_RANGE i from aud_ne (by decide)]))) 0
  have hdata : k.reg (AUD_DATA i) = s.reg (AUD_DATA i) :=
    (hkregs _ (by simpa using hdataTrk.symm)).trans (hcounted.regs _ (by simp [show AUD_DATA i ≠ AUD_CNT_CONV i from aud_ne (by decide),
      show AUD_DATA i ≠ AUD_CNT_RANGE i from aud_ne (by decide)]))
  have hshown : ∀ t, t = (if (bitOf (s.entryWord i) 62 && k.flag (AUD_CTRL i) 0) = true then k.denja i ch code hi lo unset else k) →
      onlyRegs [AUD_DATA i] k t ∧ onlyParts [.regs, .serve] k t ∧
        (bitOf (s.entryWord i) 62 = true → s.flag (AUD_CTRL i) 0 = true → Shown i code k t) := by
    rintro t rfl
    split
    · have hshown := shown_denja k i hchan hc hi lo unset
      exact ⟨hshown.regs, onlyParts_mono (by decide) hshown.parts, fun _ _ => hshown⟩
    next h => exact ⟨onlyRegs_refl _ k, onlyParts_refl _ k, fun h62 h0 => absurd (by rw [h62, hctrl, h0]; rfl) h⟩
  obtain ⟨htregs, htparts, hshown⟩ := hshown _ rfl
  generalize (if (bitOf (s.entryWord i) 62 && k.flag (AUD_CTRL i) 0) = true then k.denja i ch code hi lo unset else k) = t at htregs htparts hshown ⊢
  have hcount : ∀ o, 0x700 < o → aud i o ≠ AUD_TRK i n ∧ aud i o ≠ AUD_DATA i := fun o ho =>
    ⟨(trk_ne (by omega)).symm, aud_ne (by omega)⟩
  have hstands : ∀ o, 0x700 < o → t.reg (aud i o) = c.reg (aud i o) := fun o ho =>
    (htregs _ (by simpa using (hcount o ho).2)).trans (hkregs _ (by simpa using (hcount o ho).1))
  refine ⟨counted_of_reg hcounted.conv (hstands _ (by decide)), fun hr => counted_of_reg (hcounted.range hr) (hstands _ (by decide)), ?_, ?_,
    onlyParts_trans hcounted.parts (onlyParts_trans hkparts htparts)⟩
  · intro h60 hu
    have hreg := htregs (AUD_TRK i n) (by simpa using hdataTrk)
    have h := htracked h60 hu
    rw [fld_of_reg hreg, fld_of_reg hreg, flag_of_reg hreg, h.low, h.high, h.fresh, fld_of_reg htrk, fld_of_reg htrk]
    exact ⟨rfl, rfl, rfl⟩
  · intro h62 h0
    have h := hshown h62 h0
    rw [h.code, h.new, h.missed, flag_of_reg hdata, flag_of_reg hdata]
    exact ⟨rfl, rfl, rfl⟩

/-! ### The accumulator (R338) -/

/-- What the latching of a converter's accumulator leaves. -/
structure Latched (i n : Nat) (a : Audit) (s t : State) : Prop where
  sum : t.fld (AUD_ACC i n) 19 0 = a.sum % 2 ^ 20
  cnt : t.fld (AUD_ACC i n) 40 32 = a.cnt % 512
  hi : t.flag (AUD_ACC i n) 61 = a.hi
  lo : t.flag (AUD_ACC i n) 60 = a.lo
  unset : t.flag (AUD_ACC i n) 62 = a.unset
  fresh : t.flag (AUD_ACC i n) 63 = false
  new : t.flag (AUD_NEW i) n = true
  conv : t.reg (AUD_CNT_CONV i) = s.reg (AUD_CNT_CONV i)
  aud : t.aud = s.aud

theorem beq_one_of_toNat {n : Nat} {b : Bool} (h : n = b.toNat) : (n == 1) = b := by
  rw [h]
  cases b <;> rfl

theorem latched_latch (s : State) {i n : Nat} (hi : i < 6) (hn : n < 32) (ch : Nat) : Latched i n (s.audit i) s (s.latch i n ch) := by
  unfold State.latch
  extract_lets a v
  change Latched i n a s _
  clear_value a
  have hs := Bool.toNat_lt a.lo
  have hh := Bool.toNat_lt a.hi
  have hu := Bool.toNat_lt a.unset
  have hlt : a.sum % 2 ^ 20 + a.cnt % 512 * 2 ^ 32 + a.lo.toNat * 2 ^ 60 + a.hi.toNat * 2 ^ 61 + a.unset.toNat * 2 ^ 62 < 2 ^ 64 := by
    omega
  have hnew : AUD_NEW i ≠ AUD_ACC i n := aud_ne (by omega)
  have hacc : AUD_ACC i n ≠ AUD_CNT_CONV i := aud_ne (by omega)
  have hconv : AUD_NEW i ≠ AUD_CNT_CONV i := aud_ne (by decide)
  have hsame := (SameConverter.refl i (v.setFlag (AUD_NEW i) n true)).sensorLatched hi i ch
  have hreg : ((v.setFlag (AUD_NEW i) n true).sensorLatched i ch).reg (AUD_ACC i n) = v.reg (AUD_ACC i n) :=
    (hsame.regs _ (by omega)).trans (reg_setFlag_other hnew)
  refine ⟨?_, ?_, ?_, ?_, ?_, ?_, ?_, ?_, hsame.aud⟩
  · rw [fld_of_reg hreg, fld_setReg_ofNat 19 0 hlt]
    omega
  · rw [fld_of_reg hreg, fld_setReg_ofNat 40 32 hlt]
    omega
  · rw [flag_of_reg hreg, flag_setReg_ofNat 61 hlt]
    exact beq_one_of_toNat (by omega)
  · rw [flag_of_reg hreg, flag_setReg_ofNat 60 hlt]
    exact beq_one_of_toNat (by omega)
  · rw [flag_of_reg hreg, flag_setReg_ofNat 62 hlt]
    exact beq_one_of_toNat (by omega)
  · rw [flag_of_reg hreg, flag_setReg_ofNat 63 hlt, beq_eq_false_iff_ne]
    omega
  · exact (flag_of_reg (hsame.regs 0x300 (by decide)) n).trans (flag_setFlag_self (by omega))
  · exact (hsame.regs 0x800 (by decide)).trans ((reg_setFlag_other hconv).trans (reg_setReg_other hacc))

/-! ### A converter's step -/

section
variable {s : State} {i : Nat} (hon : s.entryOn i (s.audit i).entry = true)
include hon

theorem convert_idle (h : s.flag (AUD_STAT i) 31 = false ∨ (s.audit i).burst = true) (code : Nat) (hi lo : Bool) :
    s.convert i code hi lo = s := by
  unfold State.convert
  rw [if_pos hon]
  refine if_pos ?_
  rcases h with h | h
  · rw [h]
    rfl
  · rw [h, Bool.or_true, Bool.true_or]

variable (hrun : s.flag (AUD_STAT i) 31 = true) (hburst : (s.audit i).burst = false)
include hrun hburst

/-- The accumulator with a conversion added. -/
def State.addConversion (s : State) (i code : Nat) (hi lo : Bool) : State :=
  (s.takeConversion i code hi lo).setAudit i ((s.takeConversion i code hi lo).audit i |>.added code hi lo (s.unsettled i))

theorem convert_eq (code : Nat) (hi lo : Bool) (haud : (s.takeConversion i code hi lo).audit i = s.audit i) :
    s.convert i code hi lo = if (s.audit i).rep < bits (s.entryWord i) 13 6 then s.addConversion i code hi lo else
      let z := if bitOf (s.entryWord i) 61 then (s.addConversion i code hi lo).latch i (bits (s.entryWord i) 44 40 + (s.audit i).chan)
        (bits (s.entryWord i) 5 0 + (s.audit i).chan) else s.addConversion i code hi lo
      let z := z.setAudit i { z.audit i with sum := 0, cnt := 0, hi := false, lo := false, unset := false, rep := 0, chan := (s.audit i).chan + 1 }
      if (s.audit i).chan < bits (s.entryWord i) 59 54 then z else z.nextEntry i ((s.audit i).entry + 1) := by
  have hgo : (!s.flag (AUD_STAT i) 31 || (s.audit i).burst || !s.entryOn i (s.audit i).entry) = false := by
    rw [hrun, hburst, hon]
    rfl
  have hadd : s.addConversion i code hi lo = (s.takeConversion i code hi lo).setAudit i { (s.takeConversion i code hi lo).audit i with
      sum := (s.audit i).sum + (if !(hi || lo) then code else 0), cnt := (s.audit i).cnt + (!(hi || lo)).toNat,
      hi := (s.audit i).hi || hi, lo := (s.audit i).lo || lo, unset := (s.audit i).unset || s.unsettled i,
      rep := (s.audit i).rep + 1 } := by
    unfold State.addConversion Audit.added
    rw [haud]
  rw [hadd]
  unfold State.convert
  rw [if_pos hon]
  dsimp only
  rw [hgo, if_neg Bool.false_ne_true]
  rfl

omit hon hrun hburst in
theorem addConversion_aud {code n : Nat} {hi lo : Bool} (h : ConversionTaken i n code hi lo s (s.takeConversion i code hi lo)) :
    (s.addConversion i code hi lo).aud = (s.setAudit i ((s.audit i).added code hi lo (s.unsettled i))).aud := by
  have haud := h.parts .aud (by decide)
  unfold State.addConversion
  rw [audit_of_aud haud, setAudit_of_aud haud]

end

/-! ### The two ends of a conversion -/

theorem added_ne_idle (a : Audit) (code : Nat) (hi lo unset : Bool) : a.added code hi lo unset ≠ Audit.idle :=
  fun h => Nat.succ_ne_zero a.rep (congrArg Audit.rep h)

section
variable {s : State} {i code n : Nat} {hi lo : Bool} (hon : s.entryOn i (s.audit i).entry = true)
  (hrun : s.flag (AUD_STAT i) 31 = true) (hburst : (s.audit i).burst = false)
  (h : ConversionTaken i n code hi lo s (s.takeConversion i code hi lo))
include hon hrun hburst h

/-- Within its repetitions a channel goes on. -/
theorem convert_repeats (hrep : (s.audit i).rep < bits (s.entryWord i) 13 6) : s.convert i code hi lo = s.addConversion i code hi lo :=
  (convert_eq hon hrun hburst code hi lo (audit_of_aud (h.parts .aud (by decide)) i)).trans (if_pos hrep)

/-- The state after a channel's last conversion and its latch. -/
def State.lastConversion (s : State) (i code : Nat) (hi lo : Bool) : State :=
  if bitOf (s.entryWord i) 61 then (s.addConversion i code hi lo).latch i (bits (s.entryWord i) 44 40 + (s.audit i).chan)
    (bits (s.entryWord i) 5 0 + (s.audit i).chan) else s.addConversion i code hi lo

/-- After its last conversion the next channel starts. -/
theorem convert_channel (hrep : bits (s.entryWord i) 13 6 ≤ (s.audit i).rep) (hchan : (s.audit i).chan < bits (s.entryWord i) 59 54)
    (haud : (s.lastConversion i code hi lo).aud = (s.addConversion i code hi lo).aud) :
    s.convert i code hi lo = (s.lastConversion i code hi lo).setAudit i (s.audit i).nextChan := by
  have hadded : (s.lastConversion i code hi lo).audit i = (s.audit i).added code hi lo (s.unsettled i) := by
    rw [audit_of_aud (haud.trans (addConversion_aud h)), State.setAudit_audit]
  refine (convert_eq hon hrun hburst code hi lo (audit_of_aud (h.parts .aud (by decide)) i)).trans ((if_neg (Nat.not_lt.mpr hrep)).trans ?_)
  refine (if_pos hchan).trans ?_
  show (s.lastConversion i code hi lo).setAudit i { (s.lastConversion i code hi lo).audit i with
    sum := 0, cnt := 0, hi := false, lo := false, unset := false, rep := 0, chan := (s.audit i).chan + 1 } = _
  rw [hadded]
  rfl

end

/-- A latch takes what the accumulator holds with the last conversion (R338). -/
theorem latched_lastConversion {s : State} {i code n m : Nat} {hi lo : Bool} (h : ConversionTaken i n code hi lo s (s.takeConversion i code hi lo))
    (hi6 : i < 6) (hm : m = bits (s.entryWord i) 44 40 + (s.audit i).chan) (hm32 : m < 32) (hlatch : bitOf (s.entryWord i) 61 = true) :
    Latched i m ((s.audit i).added code hi lo (s.unsettled i)) (s.addConversion i code hi lo) (s.lastConversion i code hi lo) := by
  have hlatched := latched_latch (s.addConversion i code hi lo) hi6 hm32 (bits (s.entryWord i) 5 0 + (s.audit i).chan)
  rw [audit_of_aud (addConversion_aud h), State.setAudit_audit] at hlatched
  unfold State.lastConversion
  rw [if_pos hlatch, ← hm]
  exact hlatched

/-- Latched or not, the converters' state and the count of conversions stand. -/
theorem lastConversion_keeps {s : State} {i code n m : Nat} {hi lo : Bool} (h : ConversionTaken i n code hi lo s (s.takeConversion i code hi lo))
    (hi6 : i < 6) (hm : m = bits (s.entryWord i) 44 40 + (s.audit i).chan) (hm32 : m < 32) :
    (s.lastConversion i code hi lo).aud = (s.addConversion i code hi lo).aud ∧
      (s.lastConversion i code hi lo).reg (AUD_CNT_CONV i) = (s.addConversion i code hi lo).reg (AUD_CNT_CONV i) := by
  cases hlatch : bitOf (s.entryWord i) 61
  · unfold State.lastConversion
    rw [hlatch]
    exact ⟨rfl, rfl⟩
  · have hlatched := latched_lastConversion h hi6 hm hm32 hlatch
    exact ⟨hlatched.aud, hlatched.conv⟩

/-- Settles O50: a conversion is taken (counted, tracked, shown), added to its accumulator and, at a channel's last
repetition, latched. -/
theorem conversionsAreAccumulated : Obligations.ConversionsAreAccumulated := by
  intro i code hi lo s _ a w unset sum cnt trk acc v hon htrk hacc
  have h : ConversionTaken i.val trk code.toNat hi lo s (s.takeConversion i.val code.toNat hi lo) := conversionTaken rfl htrk code.isLt hi lo
  have hadded := added_eq a code.toNat hi lo unset
  refine ⟨fun hidle => ?_, fun hrun hburst => ⟨fun hrep => ?_, fun hrep hchan => ?_⟩⟩
  · exact congrArg Host.Outcome.next (convert_idle hon hidle code.toNat hi lo)
  · refine ⟨_, congrArg Host.Outcome.next (convert_repeats hon hrun hburst h hrep), h.conv, h.range, ?_, h.tracked, h.shown, ?_⟩
    · rw [addConversion_aud h]
      exact congrArg (fun x => (s.setAudit i.val x).aud) hadded
    · exact onlyParts_trans (onlyParts_mono (by decide) h.parts) (Leads.onlyParts (keeps_setAudit (Has.self.sub rfl) Leads.self))
  · obtain ⟨haud, hconv⟩ := lastConversion_keeps h i.isLt (m := acc) rfl hacc
    refine ⟨_, congrArg Host.Outcome.next (convert_channel hon hrun hburst h hrep hchan haud), counted_of_reg h.conv hconv, ?_, fun hlatch => ?_⟩
    · refine (setAudit_of_aud (haud.trans (addConversion_aud h)) i.val _).trans ?_
      exact put_put (added_ne_idle _ _ _ _ _)
    · have hl := latched_lastConversion h i.isLt (m := acc) rfl hacc hlatch
      change Latched i.val acc (a.added code.toNat hi lo unset) _ _ at hl
      rw [hadded] at hl
      exact ⟨hl.sum, hl.cnt, hl.hi, hl.lo, hl.unset, hl.fresh, hl.new⟩

end Sys2Proof.Machine
end

section
/-! SUPPORT. Audit bursts, the registers of the Audit converters and a Vault's refresh mode (O51; R23, R335, R339 to R344). -/

namespace Sys2Proof.Machine

/-! ### A burst starts (R341) -/

theorem trk_ne_acc {i n m : Nat} (hn : n < 32) : AUD_ACC i n ≠ AUD_TRK i m := aud_ne (by omega)

theorem acc_inj {i n m : Nat} (h : n ≠ m) : AUD_ACC i n ≠ AUD_ACC i m := aud_ne (by omega)

theorem trk_inj {i n m : Nat} (h : n ≠ m) : AUD_TRK i n ≠ AUD_TRK i m := aud_ne (by omega)

/-- Entry `n`'s accumulator and tracker are stale. -/
def State.stale (s : State) (i n : Nat) : State := (s.setFlag (AUD_ACC i n) 63 true).setFlag (AUD_TRK i n) 63 true

/-- What the marking of the entries `l` as stale leaves. -/
structure StaleAll (i : Nat) (l : List Nat) (s t : State) : Prop where
  stale : ∀ n ∈ l, t.flag (AUD_ACC i n) 63 = true ∧ t.flag (AUD_TRK i n) 63 = true
  value : ∀ n, n < 32 → t.fld (AUD_ACC i n) 62 0 = s.fld (AUD_ACC i n) 62 0
  apart : ∀ n, n < 32 → n ∉ l → t.reg (AUD_ACC i n) = s.reg (AUD_ACC i n) ∧ t.reg (AUD_TRK i n) = s.reg (AUD_TRK i n)
  other : ∀ o, o < 0x200 ∨ 0x600 ≤ o → t.reg (aud i o) = s.reg (aud i o)

theorem staleAll_one (s : State) (i : Nat) {n : Nat} (hn : n < 32) : StaleAll i [n] s (s.stale i n) := by
  unfold State.stale
  refine ⟨fun m hm => ?_, fun m hm => ?_, fun m hm hne => ?_, fun o ho => ?_⟩
  · obtain rfl := List.mem_singleton.mp hm
    rw [flag_setFlag_other (trk_ne_acc hn).symm, flag_setFlag_self (by decide), flag_setFlag_self (by decide)]
    exact ⟨rfl, rfl⟩
  · rw [fld_setFlag_other (trk_ne_acc hm).symm]
    by_cases h : n = m
    · rw [h, fld_setFlag_apart (by decide) (by decide)]
    · exact fld_setFlag_other (acc_inj h)
  · have h : n ≠ m := fun h => hne (by rw [h]; exact List.mem_cons_self)
    rw [reg_setFlag_other (trk_ne_acc hm).symm, reg_setFlag_other (acc_inj h), reg_setFlag_other (trk_inj h),
      reg_setFlag_other (trk_ne_acc hn)]
    exact ⟨rfl, rfl⟩
  · rw [reg_setFlag_other (show AUD_TRK i n ≠ aud i o from aud_ne (by omega)),
      reg_setFlag_other (show AUD_ACC i n ≠ aud i o from aud_ne (by omega))]

theorem staleAll_foldl (i : Nat) (l : List Nat) : ∀ (s : State), (∀ n ∈ l, n < 32) →
    StaleAll i l s (l.foldl (fun s n => s.stale i n) s) := by
  induction l with
  | nil => exact fun s _ => ⟨fun _ h => absurd h List.not_mem_nil, fun _ _ => rfl, fun _ _ _ => ⟨rfl, rfl⟩, fun _ _ => rfl⟩
  | cons m l ih =>
    intro s hl
    have hm := hl m List.mem_cons_self
    have hone := staleAll_one s i hm
    have hrest := ih (s.stale i m) fun n hn => hl n (List.mem_cons_of_mem m hn)
    refine ⟨fun n hn => ?_, fun n hn => (hrest.value n hn).trans (hone.value n hn), fun n hn hne => ?_,
      fun o ho => (hrest.other o ho).trans (hone.other o ho)⟩
    · by_cases hin : n ∈ l
      · exact hrest.stale n hin
      · obtain rfl : n = m := (List.mem_cons.mp hn).resolve_right hin
        obtain ⟨hacc, htrk⟩ := hrest.apart n hm hin
        exact ⟨(flag_of_reg hacc _).trans (hone.stale n List.mem_cons_self).1, (flag_of_reg htrk _).trans (hone.stale n List.mem_cons_self).2⟩
    · obtain ⟨hacc, htrk⟩ := hrest.apart n hn fun h => hne (List.mem_cons_of_mem m h)
      obtain ⟨hacc', htrk'⟩ := hone.apart n hn fun h => hne (by rw [List.mem_singleton.mp h]; exact List.mem_cons_self)
      exact ⟨hacc.trans hacc', htrk.trans htrk'⟩

theorem burstStart_idle {s : State} {i : Nat} (h : s.flag (AUD_STAT i) 31 = false ∨ (s.audit i).burst = true) : s.burstStart i = s := by
  unfold State.burstStart
  refine if_pos ?_
  rcases h with h | h
  · rw [h]
    rfl
  · rw [h, Bool.or_true]

/-- What the start of a burst leaves. -/
structure BurstStarted (i : Nat) (s t : State) : Prop where
  aud : t.aud = (s.setAudit i { s.audit i with burst := true }).aud
  running : t.flag (AUD_STAT i) 29 = true
  count : counted (AUD_CNT_BURST i) 1 s t
  stale : ∀ n, n < 32 → t.flag (AUD_ACC i n) 63 = true ∧ t.flag (AUD_TRK i n) 63 = true ∧
    t.fld (AUD_ACC i n) 62 0 = s.fld (AUD_ACC i n) 62 0
  parts : onlyParts [.regs, .aud] s t

theorem burstStart_spec {s : State} {i : Nat} (hrun : s.flag (AUD_STAT i) 31 = true) (hburst : (s.audit i).burst = false) :
    BurstStarted i s (s.burstStart i) := by
  have hparts : onlyParts [.regs, .aud] s (s.burstStart i) := Leads.onlyParts (keeps_burstStart (Has.self.sub rfl) Leads.self)
  unfold State.burstStart at hparts ⊢
  rw [if_neg (by rw [hrun, hburst]; decide)] at hparts ⊢
  dsimp only at hparts ⊢
  generalize hz : (((s.setAudit i { s.audit i with burst := true }).setFlag (AUD_STAT i) 29 true).bump (AUD_CNT_BURST i) 1) = z at hparts ⊢
  have hstale := staleAll_foldl i (List.range 32) z fun n hn => List.mem_range.mp hn
  have hcount : AUD_CNT_BURST i ≠ AUD_STAT i := aud_ne (by decide)
  have haud : onlyParts [.regs] z ((List.range 32).foldl (fun s n => s.stale i n) z) :=
    Leads.onlyParts (keeps_foldl (fun t ht n => keeps_setFlag (Has.self.sub rfl) (keeps_setFlag (Has.self.sub rfl) ht)) Leads.self)
  refine ⟨(haud .aud (by decide)).trans (by rw [← hz]; rfl), (flag_of_reg (hstale.other 4 (.inl (by decide))) _).trans ?_,
    counted_of_reg (counted_from (t := (s.setAudit i { s.audit i with burst := true }).setFlag (AUD_STAT i) 29 true) ?_ ?_)
      (hstale.other 0x810 (.inr (by decide))), fun n hn => ?_, hparts⟩
  · rw [← hz]
    exact (flag_of_reg (reg_bump_other hcount) _).trans (flag_setFlag_self (by decide))
  · exact reg_setFlag_other hcount.symm
  · rw [← hz]
    exact counted_bump _
  · obtain ⟨hacc, htrk⟩ := hstale.stale n (List.mem_range.mpr hn)
    refine ⟨hacc, htrk, (hstale.value n hn).trans (fld_of_reg ?_ _ _)⟩
    rw [← hz]
    exact (reg_bump_other (show AUD_CNT_BURST i ≠ AUD_ACC i n from aud_ne (by omega))).trans
      (reg_setFlag_other (show AUD_STAT i ≠ AUD_ACC i n from aud_ne (by omega)))

/-! ### Registers (R335, R339, R340) -/

theorem nbit_toNat (v : Word32) (n : Nat) : nbit v.toNat n = v.getLsbD n := by
  rw [BitVec.getLsbD, Nat.testBit_eq_decide_div_mod_eq]
  rfl

/-- Entry `n`'s tracker cleared. -/
def State.clearTracker (s : State) (i n : Nat) : State := (s.setFld (AUD_TRK i n) 11 0 0xFFF).setFld (AUD_TRK i n) 43 32 0

theorem clearTracker_self (s : State) (i n : Nat) :
    (s.clearTracker i n).fld (AUD_TRK i n) 11 0 = 0xFFF ∧ (s.clearTracker i n).fld (AUD_TRK i n) 43 32 = 0 := by
  unfold State.clearTracker
  rw [fld_setFld_apart (by decide) (by decide) (by decide), fld_setFld_self (by decide) (by decide),
    fld_setFld_self (by decide) (by decide)]
  exact ⟨rfl, rfl⟩

theorem clearTracker_other {s : State} {i n a : Nat} (h : AUD_TRK i n ≠ a) : (s.clearTracker i n).reg a = s.reg a :=
  (reg_setFld_other h).trans (reg_setFld_other h)

theorem clearTrackers_foldl (i : Nat) (l : List Nat) : ∀ (s : State),
    (∀ n ∈ l, (l.foldl (fun s n => s.clearTracker i n) s).fld (AUD_TRK i n) 11 0 = 0xFFF ∧
      (l.foldl (fun s n => s.clearTracker i n) s).fld (AUD_TRK i n) 43 32 = 0) ∧
    (∀ n, n ∉ l → (l.foldl (fun s n => s.clearTracker i n) s).reg (AUD_TRK i n) = s.reg (AUD_TRK i n)) := by
  induction l with
  | nil => exact fun s => ⟨fun _ h => absurd h List.not_mem_nil, fun _ _ => rfl⟩
  | cons m l ih =>
    intro s
    obtain ⟨hin, hout⟩ := ih (s.clearTracker i m)
    refine ⟨fun n hn => ?_, fun n hn => ?_⟩
    · by_cases h : n ∈ l
      · exact hin n h
      · obtain rfl : n = m := (List.mem_cons.mp hn).resolve_right h
        obtain ⟨hlow, hhigh⟩ := clearTracker_self s i n
        exact ⟨(fld_of_reg (hout n h) _ _).trans hlow, (fld_of_reg (hout n h) _ _).trans hhigh⟩
    · have hne : m ≠ n := fun h => hn (by rw [h]; exact List.mem_cons_self)
      exact (hout n fun h => hn (List.mem_cons_of_mem m h)).trans (clearTracker_other (trk_inj hne))

theorem clearTrackers_eq {s : State} {w : Src} (h : s.holder w = true) (i mask : Nat) :
    s.clearTrackers w i mask = ((range 24 32).filter (nbit mask)).foldl (fun s n => s.clearTracker i n) s := if_pos h

theorem mem_trackersCleared {mask : Word32} {n : Nat} :
    n ∈ (range 24 32).filter (nbit mask.toNat) ↔ 24 ≤ n ∧ n < 32 ∧ mask.getLsbD n = true := by
  have hrange : n ∈ range 24 32 ↔ 24 ≤ n ∧ n < 32 := by
    show n ∈ [24, 25, 26, 27, 28, 29, 30, 31] ↔ _
    simp only [List.mem_cons, List.not_mem_nil, or_false]
    omega
  rw [List.mem_filter, hrange, nbit_toNat, and_assoc]

/-! ### The reference that a burst leaves (R342) -/

/-- What the reference of a burst leaves, with the gain `g`. -/
structure ReferenceLeft (i : Nat) (o : Nat) (g : Int) (s t : State) : Prop where
  offset : t.fld (AUD_CALO i) 15 0 = toTwos 16 o
  gain : t.fld (AUD_CALG i) 31 0 = toTwos 32 g
  burst : t.flag (AUD_STAT i) 29 = s.flag (AUD_STAT i) 29

/-- The gain of the bandgap. -/
def gainBandgap (i : Fin 6) (b : BurstData) : Int := gainOf ((b.bandgap : Int) - b.ground) (Config.bandgapFuse i)

/-- A burst's offset. -/
def State.offsetSet (s : State) (i : Nat) (b : BurstData) : State := s.setReg (AUD_CALO i) (BitVec.ofNat 64 (toTwos 16 b.ground))

/-- A gain. -/
def State.gainSet (s : State) (i : Nat) (g : Int) : State := s.setReg (AUD_CALG i) (BitVec.ofNat 64 (toTwos 32 g))

theorem fld_setReg_toTwos (s : State) (a : Nat) {w : Nat} (hw : w + 1 ≤ 64) (i : Int) :
    (s.setReg a (BitVec.ofNat 64 (toTwos (w + 1) i))).fld a w 0 = toTwos (w + 1) i := by
  have hlt := toTwos_lt (w + 1) i
  rw [fld_setReg_ofNat w 0 (Nat.lt_of_lt_of_le hlt (Nat.pow_le_pow_right (by decide) hw)), Nat.pow_zero, Nat.div_one, Nat.sub_zero]
  exact Nat.mod_eq_of_lt hlt

theorem referenceLeft_gainSet (s v : State) (i : Nat) (b : BurstData) (g : Int) (hv : v.regs = (s.offsetSet i b).regs) :
    ReferenceLeft i b.ground g s (v.gainSet i g) := by
  have hoffset : AUD_CALG i ≠ AUD_CALO i := aud_ne (by decide)
  have hgain : AUD_CALG i ≠ AUD_STAT i := aud_ne (by decide)
  have hstat : AUD_CALO i ≠ AUD_STAT i := aud_ne (by decide)
  refine ⟨?_, fld_setReg_toTwos v _ (by decide) g, ?_⟩
  · exact (fld_of_reg ((reg_setReg_other hoffset).trans (reg_of_regs hv _)) _ _).trans (fld_setReg_toTwos s _ (by decide) _)
  · exact flag_of_reg ((reg_setReg_other hgain).trans ((reg_of_regs hv _).trans (reg_setReg_other hstat))) 29

/-- Flags of AUD_STAT other than bit 29 and later events leave the reference. -/
theorem ReferenceLeft.setFlag {i o k : Nat} {g : Int} {s t : State} (h : ReferenceLeft i o g s t) (hk : k < 64 ∧ k ≠ 29) (b : Bool) :
    ReferenceLeft i o g s (t.setFlag (AUD_STAT i) k b) := by
  have hoffset : AUD_STAT i ≠ AUD_CALO i := aud_ne (by decide)
  have hgain : AUD_STAT i ≠ AUD_CALG i := aud_ne (by decide)
  exact ⟨(fld_setFlag_other hoffset).trans h.offset, (fld_setFlag_other hgain).trans h.gain,
    (flag_setFlag_apart hk.1 hk.2.symm).trans h.burst⟩

theorem ReferenceLeft.same {i o : Nat} {g : Int} {s t u : State} (h : ReferenceLeft i o g s t) (k : SameConverter i t u) :
    ReferenceLeft i o g s u :=
  ⟨(fld_of_reg (k.regs 0x14 (by decide)) _ _).trans h.offset, (fld_of_reg (k.regs 0x10 (by decide)) _ _).trans h.gain,
    (flag_of_reg (k.regs 4 (by decide)) _).trans h.burst⟩

theorem sameConverter_eventAll (s : State) (i code d1 d2 : Nat) : SameConverter i s (s.eventAll code d1 d2) := .of_regs rfl rfl

theorem aud_notOfRecord {i o : Nat} (hi : i < 6) (ho : o < 0x10000) : aud i o ∉ recordRegs := by
  simp only [recordRegs, DBK_STAT, DBK_FLOG_HEAD, DBK_CNT_RECORDS, DBK_CNT_LOST, DBK_CNT_PERM, CLR_CNT_FWDLOST, dbk, clrReg, aud,
    List.mem_cons, List.not_mem_nil, or_false]
  omega

theorem sameConverter_fault {i : Nat} (hi : i < 6) (s : State) (r : FaultRecord) : SameConverter i s (s.fault r) :=
  ⟨fun _ ho => (recorded_fault s r).reg (aud_notOfRecord hi ho), (recorded_fault s r).parts .aud (by decide)⟩

/-- What a plausible reference leaves. -/
structure ReferenceKept (i : Nat) (b : BurstData) (s t : State) : Prop where
  left : ReferenceLeft i b.ground (gainExt ((b.ext : Int) - b.ground)) s t
  inUse : t.flag (AUD_STAT i) 28 = true
  aud : t.aud = (s.setAudit i { s.audit i with goodRun := (s.audit i).goodRun + 1 }).aud

theorem reference_plausible {s : State} {i : Nat} {b : BurstData} (hok : plausible b (s.fld (AUD_SETTLE i) 17 0 != 0) = true)
    (hback : s.reg (AUD_CALG i) = 0 ∨ s.flag (AUD_STAT i) 28 = true ∨ 1 ≤ (s.audit i).goodRun) : ReferenceKept i b s (s.reference i b) := by
  have hstat : AUD_CALO i ≠ AUD_STAT i := aud_ne (by decide)
  unfold State.reference
  extract_lets o ge gb good first v gain z1 z2 z3 z4 run a y back used told
  rw [if_neg (by show ¬ (!good) = true; rw [show good = true from hok]; decide)]
  have hflag : y.flag (AUD_STAT i) 28 = s.flag (AUD_STAT i) 28 := flag_of_reg (reg_setReg_other hstat) _
  have hrun : run = (s.audit i).goodRun + 1 := rfl
  rw [if_neg ?_]
  · have hy : ReferenceLeft i b.ground ge s (y.gainSet i ge) := referenceLeft_gainSet s y i b ge rfl
    have hused : ReferenceKept i b s used :=
      ⟨hy.setFlag ⟨by decide, by decide⟩ true, flag_setFlag_self (by decide), rfl⟩
    clear_value used
    have hkeep : ∀ {u w}, ReferenceKept i b s u → SameConverter i u w → ReferenceKept i b s w := fun h k =>
      ⟨h.left.same k, (flag_of_reg (k.regs 4 (by decide)) _).trans h.inUse, k.aud.trans h.aud⟩
    have htold : ReferenceKept i b s told := by
      show ReferenceKept i b s (if _ then _ else _)
      split
      · exact hkeep hused (sameConverter_eventAll _ _ _ _ _)
      · exact hused
    clear_value told
    split
    · exact hkeep htold (sameConverter_eventAll _ _ _ _ _)
    · exact htold
  · rw [hflag, hrun, Bool.and_eq_true, Bool.and_eq_true, Bool.not_eq_true', Bool.not_eq_true', decide_eq_true_eq]
    rintro ⟨⟨hfirst, huse⟩, hlow⟩
    rcases hback with h | h | h
    · exact Bool.false_ne_true (hfirst.symm.trans (beq_iff_eq.mpr h))
    · exact Bool.false_ne_true (huse.symm.trans h)
    · omega

/-- What an implausible reference leaves: the bandgap's gain and one record. -/
structure ReferenceLost (i : Fin 6) (b : BurstData) (s t : State) : Prop where
  left : ReferenceLeft i.val b.ground (gainBandgap i b) s t
  unused : t.flag (AUD_STAT i.val) 28 = false
  bandgap : t.flag (AUD_STAT i.val) 27 = true
  serial : t.log.serial = s.log.serial + 1

theorem reference_implausible {s : State} {i : Fin 6} {b : BurstData} (hok : plausible b (s.fld (AUD_SETTLE i.val) 17 0 != 0) = false) :
    ReferenceLost i b s (s.reference i.val b) := by
  unfold State.reference
  extract_lets o ge gb good first v gain shown a noted recorded
  rw [if_pos (by show (!good) = true; rw [show good = false from hok]; decide)]
  have hgb : gb = gainBandgap i b := dif_pos i.isLt
  have hshown : ReferenceLeft i.val b.ground gb s shown :=
    ((referenceLeft_gainSet s v i.val b gb rfl).setFlag (k := 28) ⟨by decide, by decide⟩ false).setFlag (k := 27) ⟨by decide, by decide⟩ true
  have h28 : shown.flag (AUD_STAT i.val) 28 = false := (flag_setFlag_apart (by decide) (by decide)).trans (flag_setFlag_self (by decide))
  have h27 : shown.flag (AUD_STAT i.val) 27 = true := flag_setFlag_self (by decide)
  have hrec : ∀ o, o < 0x10000 → recorded.reg (aud i.val o) = shown.reg (aud i.val o) := fun o ho =>
    ((sameConverter_fault i.isLt noted _).regs o ho).trans (reg_of_regs (State.setAudit_regs _ _ _) _)
  have hserial : recorded.log.serial = s.log.serial + 1 := (recorded_fault noted _).serial
  have hlast : ∀ o, o < 0x10000 → (recorded.eventAll 0x22 i.val 0).reg (aud i.val o) = shown.reg (aud i.val o) := hrec
  rw [hgb] at hshown
  exact ⟨⟨(fld_of_reg (hlast 0x14 (by decide)) _ _).trans hshown.offset, (fld_of_reg (hlast 0x10 (by decide)) _ _).trans hshown.gain,
    (flag_of_reg (hlast 4 (by decide)) _).trans hshown.burst⟩, (flag_of_reg (hlast 4 (by decide)) _).trans h28,
    (flag_of_reg (hlast 4 (by decide)) _).trans h27, hserial⟩

/-! ### The ladders and replica cells of a burst (R344) -/

section
variable {i : Nat} {s t : State} (hi : i < 6) (h : SameConverter i s t)
include hi h

theorem SameConverter.setFld_mgv (m x hj lj v : Nat) : SameConverter i s (t.setFld (mgv m x) hj lj v) := h.setFld_mgc hi _ _ _ _ _ _

theorem SameConverter.ladderPass (k m tap : Nat) : SameConverter i s (t.ladderPass k m tap) := by
  unfold State.ladderPass
  extract_lets g o num v old want trim c u
  have hv : SameConverter i s v := h.setFld_mgv hi m 0x3A0 _ _ _
  clear_value v
  split
  · have hu : SameConverter i s u := hv.withCal _
    clear_value u
    split
    · exact hu.trans (sameConverter_fault hi u _)
    · exact hu
  · exact hv

theorem SameConverter.calTriggerMint (m reason : Nat) : SameConverter i s (t.calTriggerMint m reason) :=
  List.foldlRecOn (motive := fun u => SameConverter i s u) _ _ h fun _ hu _ _ => hu.calTrigger hi _ _ _

theorem SameConverter.replicaPass (m : Nat) (r : Nat × Nat) : SameConverter i s (t.replicaPass m r) := by
  unfold State.replicaPass
  extract_lets c v r0 moved
  have hv : SameConverter i s v := h.withCal _
  clear_value v
  split
  · exact hv.calTriggerMint hi m 3
  · exact hv

end

/-- The state after a burst's ladders and replica cells. -/
def State.localPasses (s : State) (i : Nat) (b : BurstData) : State :=
  if i < 4 then
    let s := (b.ladders.zipIdx).foldl (fun s e => if e.2 < 4 then s.ladderPass i (4 * i + e.2) e.1 else s) s
    (b.replicas.zipIdx).foldl (fun s e => if e.2 < 4 then s.replicaPass (4 * i + e.2) e.1 else s) s
  else s

theorem sameConverter_localPasses {i : Nat} (hi : i < 6) (s : State) (b : BurstData) : SameConverter i s (s.localPasses i b) := by
  unfold State.localPasses
  split
  · refine List.foldlRecOn (motive := fun u => SameConverter i s u) _ _ ?_ fun u hu e _ => ?_
    · refine List.foldlRecOn (motive := fun u => SameConverter i s u) _ _ (.refl i s) fun u hu e _ => ?_
      split
      · exact hu.ladderPass hi _ _ _
      · exact hu
    · split
      · exact hu.replicaPass hi _ _
      · exact hu
  · exact .refl i s

/-! ### A burst ends -/

/-- A converter whose burst is over. -/
def State.burstOver (s : State) (i : Nat) : State := (s.setAudit i { s.audit i with burst := false }).setFlag (AUD_STAT i) 29 false

theorem burstDone_eq {s : State} {i : Nat} (h : (s.audit i).burst = true) (b : BurstData) :
    s.burstDone i b = ((s.burstOver i).reference i b).localPasses i b := by
  unfold State.burstDone
  rw [h]
  rfl

theorem burstDone_idle {s : State} {i : Nat} (h : (s.audit i).burst = false) (b : BurstData) : s.burstDone i b = s := by
  unfold State.burstDone
  rw [h]
  rfl

section
variable {s : State} {i : Nat}

theorem burstOver_settle : (s.burstOver i).fld (AUD_SETTLE i) 17 0 = s.fld (AUD_SETTLE i) 17 0 :=
  fld_setFlag_other (show AUD_STAT i ≠ AUD_SETTLE i from aud_ne (by decide))

theorem burstOver_running : (s.burstOver i).flag (AUD_STAT i) 29 = false := flag_setFlag_self (by decide)

theorem burstOver_audit : (s.burstOver i).audit i = { s.audit i with burst := false } := State.setAudit_audit _ _ _

theorem burstOver_gain : (s.burstOver i).reg (AUD_CALG i) = s.reg (AUD_CALG i) :=
  reg_setFlag_other (show AUD_STAT i ≠ AUD_CALG i from aud_ne (by decide))

theorem burstOver_inUse : (s.burstOver i).flag (AUD_STAT i) 28 = s.flag (AUD_STAT i) 28 := flag_setFlag_apart (by decide) (by decide)

end

/-- The end of a burst with a plausible reference. -/
theorem burstDone_plausible {s : State} {i : Fin 6} {b : BurstData} (hburst : (s.audit i.val).burst = true)
    (hok : plausible b (s.fld (AUD_SETTLE i.val) 17 0 != 0) = true)
    (hback : s.reg (AUD_CALG i.val) = 0 ∨ s.flag (AUD_STAT i.val) 28 = true ∨ 1 ≤ (s.audit i.val).goodRun) :
    ReferenceKept i.val b (s.burstOver i.val) (s.burstDone i.val b) := by
  have href := reference_plausible (s := s.burstOver i.val) (i := i.val) (b := b) (by rw [burstOver_settle]; exact hok)
    (by rw [burstOver_gain, burstOver_inUse, burstOver_audit]; exact hback)
  have hpass := sameConverter_localPasses i.isLt ((s.burstOver i.val).reference i.val b) b
  rw [burstDone_eq hburst]
  exact ⟨href.left.same hpass, (flag_of_reg (hpass.regs 4 (by decide)) _).trans href.inUse, hpass.aud.trans href.aud⟩

/-- The end of a burst whose external reference is not plausible. -/
theorem burstDone_implausible {s : State} {i : Fin 6} {b : BurstData} (hburst : (s.audit i.val).burst = true)
    (hok : plausible b (s.fld (AUD_SETTLE i.val) 17 0 != 0) = false) :
    ReferenceLeft i.val b.ground (gainBandgap i b) (s.burstOver i.val) (s.burstDone i.val b) ∧
      (s.burstDone i.val b).flag (AUD_STAT i.val) 28 = false ∧ (s.burstDone i.val b).flag (AUD_STAT i.val) 27 = true ∧
      (4 ≤ i.val → (s.burstDone i.val b).log.serial = s.log.serial + 1) := by
  have href := reference_implausible (s := s.burstOver i.val) (i := i) (b := b) (by rw [burstOver_settle]; exact hok)
  have hpass := sameConverter_localPasses i.isLt ((s.burstOver i.val).reference i.val b) b
  rw [burstDone_eq hburst]
  refine ⟨href.left.same hpass, (flag_of_reg (hpass.regs 4 (by decide)) _).trans href.unused,
    (flag_of_reg (hpass.regs 4 (by decide)) _).trans href.bandgap, fun h4 => ?_⟩
  unfold State.localPasses
  rw [if_neg (by omega)]
  exact href.serial

/-! ### The obligation -/

theorem vaultMode_spec (s : State) (v : Nat) (temp : Int) :
    (s.vaultMode v temp).flag (VLT_CAL v) 31 = (if 680 < temp then true else if temp < 640 then false else s.flag (VLT_CAL v) 31) ∧
      (∀ k, k < 31 → (s.vaultMode v temp).flag (VLT_CAL v) k = s.flag (VLT_CAL v) k) ∧ onlyRegs [VLT_CAL v] s (s.vaultMode v temp) := by
  have hset : ∀ x, (s.setFlag (VLT_CAL v) 31 x).flag (VLT_CAL v) 31 = x ∧
      (∀ k, k < 31 → (s.setFlag (VLT_CAL v) 31 x).flag (VLT_CAL v) k = s.flag (VLT_CAL v) k) ∧
      onlyRegs [VLT_CAL v] s (s.setFlag (VLT_CAL v) 31 x) := fun x =>
    ⟨flag_setFlag_self (by decide), fun k hk => flag_setFlag_apart (by decide) (by omega), onlyRegs_setFlag List.mem_cons_self (onlyRegs_refl _ s)⟩
  unfold State.vaultMode
  rw [show (85 * 8 : Int) = 680 from rfl, show (80 * 8 : Int) = 640 from rfl]
  by_cases hhot : 680 < temp
  · simp only [if_pos hhot]
    exact hset true
  · simp only [if_neg hhot]
    split
    · exact hset false
    · exact ⟨rfl, fun _ _ => rfl, onlyRegs_refl _ s⟩

/-- The reference buffer switched on (R335). -/
theorem refbufOn_spec {s : State} {w : Src} {i : Nat} (hw : s.holder w = true) (h : s.flag (AUD_CTRL i) 1 = false) :
    ∃ t, s.refbufOn w i = t ∧ t.flag (AUD_CTRL i) 1 = true ∧ t.fld (AUD_SETTLE i) 17 0 = 160000 ∧ t.flag (AUD_STAT i) 30 = false ∧
      onlyRegs [AUD_CTRL i, AUD_SETTLE i, AUD_STAT i] s t := by
  have hsettle : AUD_SETTLE i ≠ AUD_CTRL i := aud_ne (by decide)
  have hstat : AUD_STAT i ≠ AUD_CTRL i := aud_ne (by decide)
  have hstatSettle : AUD_STAT i ≠ AUD_SETTLE i := aud_ne (by decide)
  refine ⟨_, if_pos (by rw [hw, h]; rfl), ?_, ?_, flag_setFlag_self (by decide), ?_⟩
  · rw [flag_setFlag_other hstat, flag_setFld_other hsettle, flag_setFlag_self (by decide)]
  · exact (fld_setFlag_other hstatSettle).trans (fld_setFld_self (v := 160000) (by decide) (by decide))
  · exact onlyRegs_setFlag (by simp) (onlyRegs_setFld (by simp) (onlyRegs_setFlag (by simp) (onlyRegs_refl _ s)))

/-- The reference buffer settled (R335). -/
theorem refbufDone_spec {s : State} {i : Nat} (h : s.flag (AUD_CTRL i) 1 = true) :
    ∃ t, s.refbufDone i = t ∧ t.fld (AUD_SETTLE i) 17 0 = 0 ∧ t.flag (AUD_STAT i) 30 = true ∧ onlyRegs [AUD_SETTLE i, AUD_STAT i] s t := by
  have hstat : AUD_STAT i ≠ AUD_SETTLE i := aud_ne (by decide)
  exact ⟨_, if_pos h, (fld_setFlag_other hstat).trans (fld_setFld_self (v := 0) (by decide) (by decide)),
    flag_setFlag_self (by decide), onlyRegs_setFlag (by simp) (onlyRegs_setFld (by simp) (onlyRegs_refl _ s))⟩

/-- Settles O51: a burst marks every entry stale and ends with the reference that is plausible; the registers follow
their own writes. -/
theorem auditBurstsAndRegisters : Obligations.AuditBurstsAndRegisters := by
  refine ⟨⟨fun i s _ => ⟨fun h => congrArg Host.Outcome.next (burstStart_idle h), fun hrun hburst => ?_⟩, fun i b s _ => ?_⟩,
    fun w i s _ => ⟨fun hw h => ?_, fun h => ?_, fun h => ?_, ?_, fun hw mask => ?_⟩, fun v temp s _ => ⟨_, rfl, vaultMode_spec s v.val temp⟩⟩
  · have h := burstStart_spec hrun hburst
    exact ⟨_, rfl, h.aud, h.running, h.count, h.stale, h.parts⟩
  · intro ge ok
    refine ⟨fun h => congrArg Host.Outcome.next (burstDone_idle h b), fun hburst hok hback => ?_, fun hburst hok => ?_⟩
    · have h := burstDone_plausible hburst hok hback
      have haud := (audit_of_aud h.aud i.val).trans (State.setAudit_audit _ _ _)
      rw [burstOver_audit] at haud
      exact ⟨_, rfl, h.left.burst.trans burstOver_running, h.inUse, h.left.offset, h.left.gain, congrArg Audit.burst haud,
        congrArg Audit.goodRun haud⟩
    · obtain ⟨hleft, h28, h27, hserial⟩ := burstDone_implausible hburst hok
      exact ⟨_, rfl, hleft.burst.trans burstOver_running, h28, h27, hleft.offset, hleft.gain, hserial⟩
  · obtain ⟨t, ht, hspec⟩ := refbufOn_spec hw h
    exact ⟨t, congrArg Host.Outcome.next ht, hspec⟩
  · obtain ⟨t, ht, hspec⟩ := refbufDone_spec h
    exact ⟨t, congrArg Host.Outcome.next ht, hspec⟩
  · exact congrArg Host.Outcome.next (if_neg (by rw [h]; exact Bool.false_ne_true))
  · exact ⟨_, rfl, rfl, flag_setFlag_self (by decide), onlyRegs_setFlag List.mem_cons_self (onlyRegs_of_regs rfl)⟩
  · have hfold := clearTrackers_foldl i.val ((range 24 32).filter (nbit mask.toNat)) s
    refine ⟨_, congrArg Host.Outcome.next (clearTrackers_eq hw i.val mask.toNat), fun n h24 h32 hbit => ?_, fun n hn _ => ?_, ?_⟩
    · exact hfold.1 n (mem_trackersCleared.mpr ⟨h24, h32, hbit⟩)
    · refine hfold.2 n fun hmem => ?_
      obtain ⟨h24, -, hbit⟩ := mem_trackersCleared.mp hmem
      rcases hn with h | h
      · omega
      · exact Bool.false_ne_true (h.symm.trans hbit)
    · exact Leads.onlyParts (keeps_foldl (fun t ht n => keeps_setFld (Has.self.sub rfl) (keeps_setFld (Has.self.sub rfl) ht)) Leads.self)

end Sys2Proof.Machine
end

section
/-! SUPPORT. Shards of a Load (O52; R311 to R313). -/

namespace Sys2Proof.Machine

/-! ### A Load that goes on (R306, R311) -/

/-- A Load that knows no record and lacks shard 0 waits. -/
structure Load.Waits (m : Load) : Prop where
  running : m.failed = none
  none_found : m.records = []
  whole : m.manifest.refresh = false
  nonempty : 0 < m.manifest.length
  lacks : m.arrived.contains 0 = false

section
variable {m : Load} (h : m.Waits)
include h

theorem Load.Waits.next : m.next = 0 := by
  unfold Load.next
  rw [h.none_found]
  rfl

theorem scan_waits (s : State) : ∀ fuel, s.scan fuel m = (m, false)
  | 0 => rfl
  | fuel + 1 => by
    unfold State.scan
    dsimp only
    rw [h.next, h.whole, if_neg Bool.false_ne_true, if_neg (Nat.not_le.mpr h.nonempty), Nat.zero_div, h.lacks, Bool.not_false, if_pos rfl]

theorem recordReady_waits (s : State) (t : Nat) : s.recordReady m t = false := by
  unfold State.recordReady Load.recordOf
  rw [h.whole, h.none_found, if_neg Bool.false_ne_true]
  rfl

theorem loadAdvance_waits {s : State} (hs : s.epochs.load = some m) : s.loadAdvance = s := by
  have hset : s.setLoad m = s := by
    unfold State.setLoad
    rw [← hs]
  unfold State.loadAdvance
  rw [hs]
  dsimp only
  rw [h.running, Option.isSome_none, if_neg Bool.false_ne_true, scan_waits h]
  dsimp only
  rw [if_neg Bool.false_ne_true, hset]
  refine List.foldlRecOn (motive := fun u => u = s) _ _ rfl fun u hu t _ => ?_
  rw [hu, hs]
  dsimp only
  rw [recordReady_waits h, Bool.and_false, if_neg Bool.false_ne_true]

theorem freeSlots_waits {s : State} (hs : s.epochs.load = some m) : s.freeSlots = s := by
  unfold State.freeSlots
  rw [hs]
  dsimp only
  rw [h.next]
  have hkeep : ∀ e ∈ m.landed, (!(((s.successor m.manifest).isNone || m.acked.contains e.1) &&
      decide (Nat.min (e.1 * shardSize + shardSize) m.manifest.length ≤ 0) &&
      m.records.all (fun r => decide (recordEnd r.1 r.2.2 ≤ e.1 * shardSize) ||
        decide (Nat.min (e.1 * shardSize + shardSize) m.manifest.length ≤ r.1) || m.verified.contains r.2.1))) = true := fun e _ => by
    have hpos : ¬ Nat.min (e.1 * shardSize + shardSize) m.manifest.length ≤ 0 :=
      Nat.not_le.mpr (Nat.lt_min.mpr ⟨Nat.lt_of_lt_of_le (by decide) (Nat.le_add_left shardSize _), h.nonempty⟩)
    rw [decide_eq_false hpos, Bool.and_false, Bool.false_and]
    rfl
  rw [List.filter_eq_self.mpr hkeep]
  unfold State.setLoad
  rw [← hs]

end

/-! ### A good shard -/

theorem passShard_eq (s : State) (m : Manifest) (n : Nat) : s.passShard m n = { s with out := s.out ++
    (match s.successor m with | some d => [Out.shard d n] | none => []) ++
    (if (s.chainPos m).isSome then [Out.shardAck (s.predecessor m) n] else []) } := by
  unfold State.passShard
  extract_lets z
  have hz : z = { s with out := s.out ++ (match s.successor m with | some d => [Out.shard d n] | none => []) } := by
    show (match s.successor m with | some d => s.send (.shard d n) | none => s) = _
    cases s.successor m with
    | some d => rfl
    | none => rw [List.append_nil]
  rw [hz]
  show (if (s.chainPos m).isSome then _ else _) = _
  split
  · rfl
  · rw [List.append_nil]

section
variable {s : State} {l : Load} {n : Nat}

theorem shardArrive_own (hs : s.epochs.load = some l) (hl : l.lacks n = true) (data : List Byte) (p : Bool) :
    s.shardArrive n data p = s.shardIn l n data p := by
  unfold State.shardArrive
  rw [hs]
  exact if_pos hl

theorem shardMissing_own (hs : s.epochs.load = some l) (hl : l.lacks n = true) : s.shardMissing n = s.refetch l false n false := by
  unfold State.shardMissing
  rw [hs]
  exact if_pos hl

theorem shardArrive_held (hs : s.epochs.load = some l) (hr : s.epochs.relay = none) (hl : l.lacks n = false) (data : List Byte) (p : Bool) :
    s.shardArrive n data p = s := by
  unfold State.shardArrive
  rw [hs, hr]
  exact if_neg (by rw [hl]; exact Bool.false_ne_true)

theorem shardMissing_held (hs : s.epochs.load = some l) (hr : s.epochs.relay = none) (hl : l.lacks n = false) : s.shardMissing n = s := by
  unfold State.shardMissing
  rw [hs, hr]
  exact if_neg (by rw [hl]; exact Bool.false_ne_true)

/-- A Load with shard `n` in landing slot `k`. -/
def Load.land (l : Load) (n k : Nat) : Load := { l with landed := put 0 l.landed n (k + 1), arrived := l.arrived ++ [n] }

/-- The state with a shard landed and passed on. -/
def State.landed (s : State) (l : Load) (n k : Nat) (data : List Byte) : State :=
  (((s.setLoad (l.land n k)).write (s.landKey (l.land n k) (n * shardSize)) data)).passShard l.manifest n

theorem shardIn_withheld {data : List Byte} {p : Bool} (hok : l.manifest.shardOk n data p = true) (hk : s.landSlot l n = none) :
    s.shardIn l n data p = s := by
  unfold State.shardIn
  rw [hok, if_neg (by decide), hk]

theorem shardIn_lands {data : List Byte} {p : Bool} {k : Nat} (hok : l.manifest.shardOk n data p = true) (hk : s.landSlot l n = some k) :
    s.shardIn l n data p = ((s.landed l n k data).loadAdvance).freeSlots := by
  unfold State.shardIn
  rw [hok, if_neg (by decide), hk]
  rfl

theorem shardIn_bad {data : List Byte} {p : Bool} (hok : l.manifest.shardOk n data p = false) :
    s.shardIn l n data p = s.refetch l false n true := by
  unfold State.shardIn
  rw [hok]
  exact if_pos rfl

theorem landed_epochs (k : Nat) (data : List Byte) : (s.landed l n k data).epochs = { s.epochs with load := some (l.land n k) } := by
  unfold State.landed
  rw [passShard_eq]
  rfl

theorem sameBytes_landed (k : Nat) (data : List Byte) :
    SameBytes ((s.setLoad (l.land n k)).write (s.landKey (l.land n k) (n * shardSize)) data) (s.landed l n k data) := by
  unfold State.landed
  rw [passShard_eq]
  exact ⟨rfl, rfl⟩

/-- A good shard that lands before shard 0 only lands. -/
theorem shardIn_waits {data : List Byte} {p : Bool} {k : Nat} (hok : l.manifest.shardOk n data p = true) (hk : s.landSlot l n = some k)
    (hw : (l.land n k).Waits) : s.shardIn l n data p = s.landed l n k data := by
  have hload : (s.landed l n k data).epochs.load = some (l.land n k) := congrArg Epochs.load (landed_epochs k data)
  rw [shardIn_lands hok hk, loadAdvance_waits hw hload, freeSlots_waits hw hload]

theorem land_waits (hl : l.lacks n = true) (hrec : l.records = []) (hwhole : l.manifest.refresh = false) (hlen : 0 < l.manifest.length)
    (hn : n ≠ 0) (h0 : l.arrived.contains 0 = false) (k : Nat) : (l.land n k).Waits := by
  have hrun : l.failed = none := by
    unfold Load.lacks at hl
    rw [Bool.and_eq_true, Bool.and_eq_true] at hl
    exact Option.isNone_iff_eq_none.mp hl.1.1
  refine ⟨hrun, hrec, hwhole, hlen, ?_⟩
  show (l.arrived ++ [n]).contains 0 = false
  rw [List.contains_append, h0, Bool.false_or]
  simpa using hn.symm

/-! ### A shard asked for again (R313) -/

theorem refetch_again {relay nak : Bool} (hc : look 0 l.asked n < 2) (hrelay : relay = false) : s.refetch l relay n nak =
    ((s.setLoad { l with asked := put 0 l.asked n (look 0 l.asked n + 1) }).eventHolder 0x12 n (look 0 l.asked n)).send
      (.shardRequest (if look 0 l.asked n = 0 then s.predecessor l.manifest else s.headOf_ l.manifest) n nak) := by
  subst hrelay
  unfold State.refetch
  exact if_pos hc

theorem refetch_lost {nak : Bool} (hc : 2 ≤ look 0 l.asked n) : s.refetch l false n nak =
    (s.fault (faultOf clsProgram 0xFF 0xFF 0 0 stShardLost)).failLoad stShardLost := by
  unfold State.refetch
  exact if_neg (Nat.not_lt.mpr hc)

theorem failLoad_running {status : Nat} (hs : s.epochs.load = some l) (hl : l.failed = none) :
    s.failLoad status = s.setLoad { l with failed := some (BitVec.ofNat 16 status) } := by
  unfold State.failLoad
  rw [hs]
  dsimp only
  rw [hl]
  rfl

end

/-- A bad or missing shard of the device's own Load. -/
theorem refetch_spec {s : State} {l : Load} {n : Nat} (hs : s.epochs.load = some l) (hl : l.lacks n = true) (nak : Bool) :
    (look 0 l.asked n < 2 → ∃ t, s.refetch l false n nak = t ∧
      t.epochs = { s.epochs with load := some { l with asked := put 0 l.asked n (look 0 l.asked n + 1) } } ∧
      t.out = s.out ++ [.shardRequest (if look 0 l.asked n = 0 then s.predecessor l.manifest else s.headOf_ l.manifest) n nak] ∧
      t.serve.events = s.serve.events ++
        [⟨s.senior == some 0, s.senior == some 1, 0x12, 0, BitVec.ofNat 32 n, BitVec.ofNat 64 (look 0 l.asked n)⟩] ∧ t.mem = s.mem) ∧
    (2 ≤ look 0 l.asked n → ∃ t, s.refetch l false n nak = t ∧ t.log.serial = s.log.serial + 1 ∧
      t.epochs = { s.epochs with load := some { l with failed := some (BitVec.ofNat 16 stShardLost) } }) := by
  refine ⟨fun hc => ⟨_, refetch_again hc rfl, rfl, rfl, rfl, rfl⟩, fun hc => ?_⟩
  have hrun : l.failed = none := by
    unfold Load.lacks at hl
    rw [Bool.and_eq_true, Bool.and_eq_true] at hl
    exact Option.isNone_iff_eq_none.mp hl.1.1
  have hrec := recorded_fault s (faultOf clsProgram 0xFF 0xFF 0 0 stShardLost)
  have hepochs : (s.fault (faultOf clsProgram 0xFF 0xFF 0 0 stShardLost)).epochs = s.epochs := hrec.parts .epochs (by decide)
  refine ⟨_, (refetch_lost hc).trans (failLoad_running (by rw [hepochs]; exact hs) hrun), hrec.serial, ?_⟩
  exact congrArg (fun e : Epochs => { e with load := some { l with failed := some (BitVec.ofNat 16 stShardLost) } }) hepochs

/-! ### Relays, acknowledgements and requests -/

theorem shardArrive_relay {s : State} {r : Load} {n : Nat} {data : List Byte} (hs : s.epochs.load = none) (hr : s.epochs.relay = some r)
    (hl : r.lacks n = true) (hok : r.manifest.shardOk n data false = true) : s.shardArrive n data false =
      ({ s with epochs := { s.epochs with
        relay := if (r.arrived ++ [n]).length = r.manifest.shards then none else some { r with arrived := r.arrived ++ [n] } } } : State).passShard
          r.manifest n := by
  unfold State.shardArrive
  rw [hs, hr]
  dsimp only
  rw [if_pos hl]
  unfold State.shardRelay
  rw [hok, if_neg (by decide)]

theorem freeSlots_load {s : State} {l : Load} (hs : s.epochs.load = some l) :
    ∃ x, s.freeSlots = s.setLoad { l with landed := x } := by
  unfold State.freeSlots
  rw [hs]
  exact ⟨_, rfl⟩

/-- Settles O52: a good shard is landed and passed on, any other is asked for again until it is lost. -/
theorem shardsLandOrAreAskedAgain : Obligations.ShardsLandOrAreAskedAgain := by
  refine ⟨fun n data p l s _ hs hr => ⟨fun hl => ⟨?_, ?_⟩, fun hl hok hk => ?_, fun k hl hok hk hrec hwhole hlen hn h0 => ?_⟩, ?_, ?_, ?_, ?_⟩
  · exact congrArg Host.Outcome.next (shardArrive_held hs hr hl data p)
  · exact congrArg Host.Outcome.next (shardMissing_held hs hr hl)
  · exact congrArg Host.Outcome.next ((shardArrive_own hs hl data p).trans (shardIn_withheld hok hk))
  · have hbytes := sameBytes_landed (s := s) (l := l) (n := n) k data
    refine ⟨_, congrArg Host.Outcome.next ((shardArrive_own hs hl data p).trans (shardIn_waits hok hk (land_waits hl hrec hwhole hlen hn h0 k))),
      landed_epochs k data, ?_, onlyBytes_of_bytes ⟨rfl, rfl⟩ hbytes (onlyBytes_write (s.setLoad (l.land n k)) _ data)⟩
    exact (read_of_mem hbytes.1 _ _).trans (read_write_self _ _ _)
  · intro i nak n l s hs hl hi c
    have hexec : exec i s = .next (s.refetch l false n nak) := by
      rcases hi with ⟨data, p, rfl, hok, rfl⟩ | ⟨rfl, rfl⟩
      · exact congrArg Host.Outcome.next ((shardArrive_own hs hl data p).trans (shardIn_bad hok))
      · exact congrArg Host.Outcome.next (shardMissing_own hs hl)
    obtain ⟨hagain, hlost⟩ := refetch_spec hs hl nak
    refine ⟨fun hc => ?_, fun hc => ?_⟩
    · obtain ⟨t, ht, hspec⟩ := hagain hc
      exact ⟨t, hexec.trans (congrArg Host.Outcome.next ht), hspec⟩
    · obtain ⟨t, ht, hspec⟩ := hlost hc
      exact ⟨t, hexec.trans (congrArg Host.Outcome.next ht), hspec⟩
  · intro n data r s hs hr hl hok
    exact ⟨_, congrArg Host.Outcome.next ((shardArrive_relay hs hr hl hok).trans (passShard_eq _ _ _)), rfl, rfl, rfl⟩
  · intro n l s hs hn
    have hset : s.shardAcked n = (s.setLoad { l with acked := l.acked ++ [n] }).freeSlots := by
      unfold State.shardAcked
      rw [hs]
      exact if_neg (by rw [hn]; exact Bool.false_ne_true)
    obtain ⟨x, hx⟩ := freeSlots_load (s := s.setLoad { l with acked := l.acked ++ [n] }) rfl
    have hparts : onlyParts [.epochs] s (s.shardAcked n) := Leads.onlyParts (keeps_shardAcked (Has.self.sub rfl) Leads.self)
    rw [hset, hx] at hparts
    exact ⟨_, { l with acked := l.acked ++ [n], landed := x }, congrArg Host.Outcome.next (hset.trans hx), rfl, rfl, rfl, hparts⟩
  · intro n nak fromHead by_ l s hs
    show Host.Outcome.next (s.shardAsked n fromHead by_.val) = _
    unfold State.shardAsked
    rw [hs]
    simp only [Bool.or_eq_true, bne_iff_ne, Bool.and_eq_true, Option.isNone_iff_eq_none]
    rfl

end Sys2Proof.Machine
end

section
/-! SUPPORT. Reports and flips along a chain, manifests that meet a busy device, master planes and drift refreshes (O53;
R309, R315, R318, R320, R321, R367, R368). -/

namespace Sys2Proof.Machine

/-! ### Along a chain (R318) -/

/-- What a report to the head leaves of a Load. -/
structure Reported (l : Load) (s t : State) (m : Load) : Prop where
  epochs : t.epochs = { s.epochs with load := some m }
  reported : m.reported = l.reported
  parts : onlyParts [.epochs, .out] s t
  waits : s.loadVerified l = false → t.out = s.out ∧ m.flipSeen = l.flipSeen

theorem epochs_foldl_send {α : Type} (f : α → Out) (l : List α) (s : State) : (l.foldl (fun s n => s.send (f n)) s).epochs = s.epochs :=
  List.foldlRecOn (motive := fun t => State.epochs t = s.epochs) _ _ rfl fun _ ht _ _ => ht

theorem reported_reportLoad {s : State} {l : Load} (hs : s.epochs.load = some l) : ∃ m, Reported l s s.reportLoad m := by
  have hparts : onlyParts [.epochs, .out] s s.reportLoad := Leads.onlyParts (keeps_reportLoad (Has.self.sub rfl) Leads.self)
  have hself : s.epochs = { s.epochs with load := some l } := by rw [← hs]
  unfold State.reportLoad at hparts ⊢
  rw [hs] at hparts ⊢
  dsimp only at hparts ⊢
  split
  next h => exact ⟨l, hself, rfl, onlyParts_refl _ s, fun _ => ⟨rfl, rfl⟩⟩
  next h =>
    have hv : s.loadVerified l ≠ false := fun he => h (by rw [he]; rfl)
    rw [if_neg h] at hparts
    split
    next hpos =>
      rw [if_pos hpos] at hparts
      split
      next ht => exact ⟨l, hself, rfl, onlyParts_refl _ s, fun he => absurd he hv⟩
      next ht =>
        rw [if_neg ht] at hparts
        exact ⟨{ l with told := true }, rfl, rfl, hparts, fun he => absurd he hv⟩
    next hpos =>
      rw [if_neg hpos] at hparts
      split
      next hf =>
        rw [if_pos hf] at hparts
        exact ⟨{ l with flipSeen := true }, epochs_foldl_send _ _ _, rfl, hparts, fun he => absurd he hv⟩
      next hf => exact ⟨l, hself, rfl, onlyParts_refl _ s, fun he => absurd he hv⟩

section
variable {s : State} {l : Load} {n : Nat} (hs : s.epochs.load = some l)
include hs

theorem takeReport_skips (h : l.manifest.chain.contains n = false ∨ l.reported.contains n = true) : s.takeReport n = s := by
  unfold State.takeReport
  rw [hs]
  refine if_neg ?_
  rcases h with h | h
  · rw [h]
    exact Bool.false_ne_true
  · rw [h, Bool.not_true, Bool.and_false]
    exact Bool.false_ne_true

theorem takeReport_notes (hin : l.manifest.chain.contains n = true) (hnew : l.reported.contains n = false) :
    s.takeReport n = (s.setLoad { l with reported := l.reported ++ [n] }).reportLoad := by
  unfold State.takeReport
  rw [hs]
  exact if_pos (by rw [hin, hnew]; rfl)

theorem takeReport_spec (hin : l.manifest.chain.contains n = true) (hnew : l.reported.contains n = false) :
    ∃ t m, s.takeReport n = t ∧ t.epochs = { s.epochs with load := some m } ∧ m.reported = l.reported ++ [n] ∧
      onlyParts [.epochs, .out] s t ∧ (s.loadVerified l = false → t.out = s.out ∧ m.flipSeen = l.flipSeen) := by
  obtain ⟨m, hm⟩ := reported_reportLoad (s := s.setLoad { l with reported := l.reported ++ [n] }) rfl
  have hset : onlyParts [.epochs, .out] s (s.setLoad { l with reported := l.reported ++ [n] }) :=
    Leads.onlyParts (keeps_setLoad (Has.self.sub rfl) Leads.self)
  exact ⟨_, m, takeReport_notes hs hin hnew, hm.epochs, hm.reported, onlyParts_trans hset hm.parts, hm.waits⟩

end

/-! ### A manifest that meets a busy device (R309, R315) -/

theorem passManifest (v : State) (o : Option Nat) : (match o with | some d => v.send (.manifest d) | none => v) =
    { v with out := v.out ++ (match o with | some d => [Out.manifest d] | none => []) } := by
  cases o with
  | some d => rfl
  | none => rw [List.append_nil]

section
variable {s : State} {img : List Byte}

theorem manifestIn_member (ht : s.serve.loadTicket = none) (hw : s.awaitsManifest = none) : s.manifestIn img = s.memberManifest img := by
  unfold State.manifestIn
  rw [ht]
  dsimp only
  rw [hw]

theorem memberManifest_unsound (h : s.manifestOk img 0 s.anySealed = false) : s.memberManifest img = s := by
  unfold State.memberManifest
  exact if_pos (by rw [h]; rfl)

theorem memberManifest_busy (h : s.manifestOk img 0 s.anySealed = true) (hin : (s.chainPos (manifestOf img)).isSome = true)
    (hbusy : s.epochBusy = true ∨ s.epochStale (manifestOf img).epoch = true) : s.memberManifest img =
      { s with epochs := { s.epochs with relay := some (Load.fresh (manifestOf img)) },
               out := s.out ++ (match s.successor (manifestOf img) with | some d => [.manifest d] | none => []) ++
                 [.report (s.headOf_ (manifestOf img)) true] } := by
  have hnone : (s.chainPos (manifestOf img)).isNone = false := by
    rw [← Option.not_isSome, hin]
    rfl
  unfold State.memberManifest
  extract_lets m e v w
  have hw : w = { v with out := v.out ++ (match v.successor m with | some d => [.manifest d] | none => []) } := passManifest v _
  rw [if_neg (by rw [h, hnone]; decide), if_pos (Bool.or_eq_true_iff.mpr hbusy), hw]
  rfl

end

/-! ### Master planes (R320) -/

section
variable {s : State} {n : Nat}

theorem masterDone_idle (h : (s.dirOf n).live = none ∨ (s.tile n).masterEpoch.isSome = true) : s.masterDone n = s := by
  unfold State.masterDone
  cases hl : (s.dirOf n).live with
  | none => rfl
  | some k => exact if_pos (h.resolve_left (by rw [hl]; exact Option.some_ne_none k))

variable {k : Bank} (hl : (s.dirOf n).live = some k) (hm : (s.tile n).masterEpoch = none)
include hl hm

theorem masterDone_matches (h : s.setsMatch n k = true) : s.masterDone n =
    (s.rewriteMaster n k).setTile n { s.tile n with masterEpoch := some ((s.dirOf n).epoch k) } := by
  unfold State.masterDone
  rw [hl, hm]
  dsimp only
  rw [if_neg (by decide), if_pos h]

theorem masterDone_differs (h : s.setsMatch n k = false) : s.masterDone n = s.fault (faultTile clsCells n (s.badPhase n k) 0) := by
  unfold State.masterDone
  rw [hl, hm]
  dsimp only
  rw [if_neg (by decide), if_neg (by rw [h]; exact Bool.false_ne_true)]

end

theorem rewriteMaster_bytes (s : State) (n : Nat) (k : Bank) :
    (s.rewriteMaster n k).read (s.masterAt n) (2 ^ 19) = s.read (planeBase n k) (2 ^ 19) ∧
      onlyBytes (s.masterAt n) (2 ^ 19) s (s.rewriteMaster n k) := by
  unfold State.rewriteMaster
  generalize hb : s.read (planeBase n k) (2 ^ 19) = bs
  have hlen : bs.length = 2 ^ 19 := by
    rw [← hb]
    exact length_read _ _ _
  have hread := read_write_self s (s.masterAt n) bs
  have honly := onlyBytes_write s (s.masterAt n) bs
  rw [hlen] at hread honly
  exact ⟨hread, honly⟩

/-- A master plane rewritten, or not (R320). -/
theorem masterDone_spec {s : State} {n : Nat} {k : Bank} (hl : (s.dirOf n).live = some k) (hm : (s.tile n).masterEpoch = none) :
    if s.setsMatch n k then onlyParts [.mem, .poison, .tiles] s (s.masterDone n) ∧
      (s.masterDone n).read (s.masterAt n) (2 ^ 19) = s.read (planeBase n k) (2 ^ 19) ∧
      (s.masterDone n).tile n = { s.tile n with masterEpoch := some ((s.dirOf n).epoch k) } ∧
      onlyBytes (s.masterAt n) (2 ^ 19) s (s.masterDone n)
    else (s.masterDone n).tiles = s.tiles ∧ (s.masterDone n).log.serial = s.log.serial + 1 := by
  split
  next h =>
    obtain ⟨hread, honly⟩ := rewriteMaster_bytes s n k
    rw [masterDone_matches hl hm h]
    refine ⟨Leads.onlyParts (keeps_setTile (Has.self.sub rfl) (keeps_rewriteMaster (Has.self.sub rfl) Leads.self)), ?_,
      State.setTile_tile _ _ _, onlyBytes_of_bytes (.refl s) ⟨State.setTile_mem _ _ _, State.setTile_poison _ _ _⟩ honly⟩
    exact (read_of_mem (State.setTile_mem _ _ _) _ _).trans hread
  next h =>
    rw [masterDone_differs hl hm (Bool.eq_false_iff.mpr h)]
    have hrec := recorded_fault s (faultTile clsCells n (s.badPhase n k) 0)
    exact ⟨hrec.parts .tiles (by decide), hrec.serial⟩

/-! ### Restores (R367, R368) -/

theorem restoreEnd_idle {s : State} {n : Nat} (h : (s.tile n).restoring = false) (ok : Bool) : s.restoreEnd n ok = s := by
  unfold State.restoreEnd
  exact if_pos (by rw [h]; rfl)

theorem restoreEnd_eq {s : State} {n : Nat} (h : (s.tile n).restoring = true) (ok : Bool) : s.restoreEnd n ok =
    if (ok && (s.restoreTile n).2) = true then (s.restoreTile n).1.setTile n { (s.restoreTile n).1.tile n with restoring := false }
    else { s.setTile n { s.tile n with restoring := false, lost := true } with
      serve := { s.serve with lostTiles := s.serve.lostTiles ++ [n] } } := by
  unfold State.restoreEnd
  rw [if_neg (by rw [h]; decide)]
  generalize s.restoreTile n = r
  obtain ⟨v, good⟩ := r
  rfl

theorem restoreEnd_spec {s : State} {n : Nat} (h : (s.tile n).restoring = true) (ok : Bool) :
    if ok = true ∧ (s.restoreTile n).2 = true then
      (s.restoreEnd n ok).mem = (s.restoreTile n).1.mem ∧ (s.restoreEnd n ok).serve = (s.restoreTile n).1.serve
    else (s.restoreEnd n ok).mem = s.mem ∧ (s.restoreEnd n ok).tile n = { s.tile n with restoring := false, lost := true } ∧
      (s.restoreEnd n ok).serve.lostTiles = s.serve.lostTiles ++ [n] ∧ onlyParts [.tiles, .serve] s (s.restoreEnd n ok) := by
  rw [restoreEnd_eq h]
  generalize s.restoreTile n = r
  split
  next hg =>
    rw [if_pos (Bool.and_eq_true_iff.mpr hg)]
    exact ⟨State.setTile_mem _ _ _, State.setTile_serve _ _ _⟩
  next hg =>
    rw [if_neg fun he => hg (Bool.and_eq_true_iff.mp he)]
    exact ⟨rfl, State.setTile_tile _ _ _, rfl, Leads.onlyParts (keeps_put_serve (Has.self.sub rfl) (keeps_setTile (Has.self.sub rfl) Leads.self))⟩

/-! ### Drift refreshes (R321) -/

/-- A Load of the manifest `m` is in progress, and nothing waits for its start. -/
structure Loading (m : Manifest) (s : State) : Prop where
  load : ∃ l, s.epochs.load = some l ∧ l.manifest = m
  started : s.epochs.refreshDue = false

theorem Loading.of_epochs {m : Manifest} {s t : State} (h : Loading m s) (he : t.epochs = s.epochs) : Loading m t := by
  obtain ⟨hload, hstarted⟩ := h
  exact ⟨by rw [he]; exact hload, by rw [he]; exact hstarted⟩

theorem Loading.setLoad {m : Manifest} {s : State} (h : Loading m s) {l : Load} (hl : l.manifest = m) : Loading m (s.setLoad l) :=
  ⟨⟨l, rfl, hl⟩, h.started⟩

theorem Loading.failLoad {m : Manifest} {s : State} (h : Loading m s) (status : Nat) : Loading m (s.failLoad status) := by
  obtain ⟨l, hl, hm⟩ := h.load
  unfold State.failLoad
  rw [hl]
  dsimp only
  split
  · exact h
  · exact h.setLoad (l := { l with failed := some (BitVec.ofNat 16 status) }) hm

theorem Loading.issueTile {m : Manifest} {s : State} (h : Loading m s) {l : Load} (hl : l.manifest = m) (t : Nat) :
    Loading m (s.issueTile l t) := by
  unfold State.issueTile
  extract_lets k g parts kept v w x
  split
  · exact h
  · split
    · split
      · have hrec : (s.programRecord t 0 stProgramFailed 0).epochs = s.epochs := (recorded_fault s _).parts .epochs (by decide)
        exact (h.of_epochs hrec).failLoad _
      · have hv : onlyParts [.mem, .poison] s w :=
          Leads.onlyParts (keeps_auxWrite (Has.self.sub rfl) (keeps_setSurplus (Has.self.sub rfl) Leads.self))
        have hx : Loading m x := (h.of_epochs (hv .epochs (by decide))).setLoad hl
        clear_value x
        have hadd : ∀ c : ProgCmd, onlyParts [.regs, .mem, .poison, .mram, .dir, .tiles, .groups, .serve, .clr, .log, .probes, .out] x
            (x.programAdd (tileDie t) (tileUnit t) c) := fun c =>
          Leads.onlyParts (keeps_programAdd (Has.self.sub rfl) Leads.self)
        exact hx.of_epochs (hadd _ .epochs (by decide))
    · exact h

theorem scan_refresh {l : Load} (h : l.manifest.refresh = true) (s : State) : ∀ fuel, s.scan fuel l = (l, false)
  | 0 => rfl
  | fuel + 1 => by
    unfold State.scan
    dsimp only
    rw [if_pos h]

theorem Loading.loadAdvance {m : Manifest} {s : State} (h : Loading m s) (hm : m.refresh = true) : Loading m s.loadAdvance := by
  obtain ⟨l, hl, rfl⟩ := h.load
  unfold State.loadAdvance
  rw [hl]
  dsimp only
  split
  · exact h
  · rw [scan_refresh hm]
    dsimp only
    rw [if_neg Bool.false_ne_true]
    refine List.foldlRecOn (motive := fun u => Loading l.manifest u) _ _ (h.setLoad rfl) fun u hu t _ => ?_
    obtain ⟨x, hx, hxm⟩ := hu.load
    rw [hx]
    dsimp only
    split
    · exact hu.issueTile hxm t
    · exact hu

theorem loading_beginLoad {s : State} {m : Manifest} (hdue : s.epochs.refreshDue = false) (hm : m.refresh = true) : Loading m (s.beginLoad m) := by
  unfold State.beginLoad
  extract_lets v w
  have hv : Loading m v := ⟨⟨Load.fresh m, rfl, rfl⟩, hdue⟩
  have hw : w = { v with out := v.out ++ (match v.successor m with | some d => [.manifest d] | none => []) } := passManifest v _
  exact (hv.of_epochs (t := w) (by rw [hw])).loadAdvance hm

section
variable {s : State} {n : Nat}

theorem refreshStart_idle (h : s.epochs.live = none ∨ (s.tile n).drifted = false ∨ s.serve.posted = false) : s.refreshStart n = s := by
  unfold State.refreshStart
  cases hl : s.epochs.live with
  | none => rfl
  | some e =>
    refine if_pos ?_
    rcases h.resolve_left (by rw [hl]; exact Option.some_ne_none e) with h | h
    · rw [h]
      rfl
    · rw [h, Bool.not_false, Bool.or_true]

variable {e : BitVec 16} (hl : s.epochs.live = some e) (hd : (s.tile n).drifted = true) (hp : s.serve.posted = true)
include hl hd hp

theorem refreshStart_waits (h : s.epochBusy = true ∨ s.serve.loadTicket.isSome = true) :
    s.refreshStart n = { s with epochs := { s.epochs with refreshDue := true } } := by
  unfold State.refreshStart
  rw [hl]
  dsimp only
  rw [if_neg (by rw [hd, hp]; decide)]
  refine if_pos ?_
  rcases h with h | h
  · rw [h, Bool.true_or]
  · rw [h, Bool.or_true]

theorem refreshStart_begins (hb : s.epochBusy = false) (ht : s.serve.loadTicket = none) : s.refreshStart n =
    ({ s with epochs := { s.epochs with refreshDue := false } } : State).beginLoad (refreshManifest (e + 1) (s.mram.postedGen.getD 0)) := by
  unfold State.refreshStart
  rw [hl]
  dsimp only
  rw [if_neg (by rw [hd, hp]; decide), if_neg (by rw [hb, ht]; decide)]

end

/-- Settles O53: reports, flips and manifests by their cases along the chain, master planes by the match of their sets,
and a refresh as a Load that nothing on its way replaces. -/
theorem chainsAndMasterPlanes : Obligations.ChainsAndMasterPlanes := by
  refine ⟨⟨fun n l s hs => ⟨fun h => ?_, fun hin hnew => ?_⟩, fun l s hs => ?_, fun s hs => ?_, fun img s ht hw => ?_⟩, fun n s _ => ?_⟩
  · exact congrArg Host.Outcome.next (takeReport_skips hs h)
  · obtain ⟨t, m, ht, hspec⟩ := takeReport_spec hs hin hnew
    exact ⟨t, m, congrArg Host.Outcome.next ht, hspec⟩
  · show Host.Outcome.next s.takeFlip = _
    unfold State.takeFlip
    rw [hs]
    rfl
  · show Host.Outcome.next s.takeFlip = _
    unfold State.takeFlip
    rw [hs]
  · intro m
    have hexec : exec (.manifestArrival img) s = .next (s.memberManifest img) := congrArg Host.Outcome.next (manifestIn_member ht hw)
    refine ⟨fun h => hexec.trans (congrArg Host.Outcome.next (memberManifest_unsound h)), fun hin hbusy => ⟨_, hexec, ?_⟩⟩
    split
    next h =>
      have hparts : onlyParts [.epochs, .out] s (s.memberManifest img) := by
        rw [memberManifest_busy h hin hbusy]
        have hrelay : onlyParts [.epochs, .out] s { s with epochs := { s.epochs with relay := some (Load.fresh (manifestOf img)) } } :=
          Leads.onlyParts (keeps_put_epochs (Has.self.sub rfl) Leads.self)
        exact onlyParts_trans hrelay (Leads.onlyParts (keeps_put_out (Has.self.sub rfl) Leads.self))
      exact ⟨congrArg State.epochs (memberManifest_busy h hin hbusy), hparts, congrArg State.out (memberManifest_busy h hin hbusy)⟩
    next h => exact memberManifest_unsound (Bool.eq_false_iff.mpr h)
  · intro x
    refine ⟨fun k hl hm => ⟨_, rfl, masterDone_spec hl hm⟩, fun h => ?_, fun h ok => ?_, fun ok h => ⟨_, rfl, restoreEnd_spec h ok⟩, fun h => ?_,
      fun e hl hd hp => ⟨fun h => ?_, fun hb ht => ?_⟩⟩
    · exact congrArg Host.Outcome.next (masterDone_idle h)
    · exact congrArg Host.Outcome.next (restoreEnd_idle h ok)
    · exact congrArg Host.Outcome.next (refreshStart_idle h)
    · exact congrArg Host.Outcome.next (refreshStart_waits hl hd hp h)
    · obtain ⟨⟨l, hload, hman⟩, hdue⟩ := loading_beginLoad (s := { s with epochs := { s.epochs with refreshDue := false } })
        (m := refreshManifest (e + 1) (s.mram.postedGen.getD 0)) rfl rfl
      exact ⟨_, l, congrArg Host.Outcome.next (refreshStart_begins hl hd hp hb ht), hload, hdue, hman⟩

end Sys2Proof.Machine
end

section
/-! SUPPORT. Rolls, their acknowledgements and silences, and the records of Branches (O56; R364, R399 to R402). -/

namespace Sys2Proof.Machine

theorem clrRoll_ne_id : CLR_ROLL 0 ≠ CLR_ID 0 := by decide

theorem regs_eventAll (s : State) (code d1 d2 : Nat) : (s.eventAll code d1 d2).regs = s.regs := rfl

theorem clr_eventAll (s : State) (code d1 d2 : Nat) : (s.eventAll code d1 d2).clr = s.clr := rfl

theorem events_eventAll (s : State) (code d1 d2 : Nat) : (s.eventAll code d1 d2).serve.events =
    s.serve.events ++ [⟨true, true, BitVec.ofNat 8 code, 0, BitVec.ofNat 32 d1, BitVec.ofNat 64 d2⟩] := rfl

/-! ### A Branch and its Treasury (R399, R400) -/

section
variable {s : State}

theorem roll_branch (h : s.role = 1) : s.roll = if (s.linkFor s.treasury).isSome then s.send (.roll s.treasury s.ownRoll) else s := by
  unfold State.roll
  rw [h]
  rfl

theorem roll_alone (h : s.role = 0) : s.roll = s := by
  unfold State.roll
  rw [h]
  rfl

theorem treasuryLost_eq (h : s.role = 1) (hf : s.flag (CLR_ROLL 0) 31 = false) : s.treasuryLost =
    ((s.setFlag (CLR_ROLL 0) 31 true).setFlag (CLR_ID 0) 28 false).eventAll 0x46 s.treasury 0 := if_pos ⟨h, hf⟩

/-- The Treasury lost (R399). -/
theorem treasuryLost_spec (h : s.role = 1) (hf : s.flag (CLR_ROLL 0) 31 = false) :
    s.treasuryLost.flag (CLR_ROLL 0) 31 = true ∧ s.treasuryLost.flag (CLR_ID 0) 28 = false ∧ s.treasuryLost.serve.events =
        s.serve.events ++ [⟨true, true, BitVec.ofNat 8 0x46, 0, BitVec.ofNat 32 s.treasury, BitVec.ofNat 64 0⟩] ∧
      onlyRegs [CLR_ROLL 0, CLR_ID 0] s s.treasuryLost := by
  rw [treasuryLost_eq h hf]
  have hreg := reg_of_regs (regs_eventAll ((s.setFlag (CLR_ROLL 0) 31 true).setFlag (CLR_ID 0) 28 false) 0x46 s.treasury 0)
  refine ⟨(flag_of_reg (hreg _) _).trans ?_, (flag_of_reg (hreg _) _).trans (flag_setFlag_self (by decide)), events_eventAll _ _ _ _, ?_⟩
  · exact (flag_setFlag_other clrRoll_ne_id.symm).trans (flag_setFlag_self (by decide))
  · exact onlyRegs_trans (onlyRegs_setFlag (by simp) (onlyRegs_setFlag (by simp) (onlyRegs_refl _ s))) (onlyRegs_of_regs (regs_eventAll _ _ _ _))

theorem peerLost_eq (h : s.role = 2) (hp : s.paired = true) (hf : s.flag (CLR_ROLL 0) 30 = false) : s.peerLost =
    (s.setFlag (CLR_ROLL 0) 30 true).eventAll 0x47 s.peer 0 := if_pos ⟨h, hp, hf⟩

/-- The peer Treasury lost (R402). -/
theorem peerLost_spec (h : s.role = 2) (hp : s.paired = true) (hf : s.flag (CLR_ROLL 0) 30 = false) :
    s.peerLost.flag (CLR_ROLL 0) 30 = true ∧ s.peerLost.serve.events =
        s.serve.events ++ [⟨true, true, BitVec.ofNat 8 0x47, 0, BitVec.ofNat 32 s.peer, BitVec.ofNat 64 0⟩] ∧
      onlyRegs [CLR_ROLL 0] s s.peerLost := by
  rw [peerLost_eq h hp hf]
  have hreg := reg_of_regs (regs_eventAll (s.setFlag (CLR_ROLL 0) 30 true) 0x47 s.peer 0)
  exact ⟨(flag_of_reg (hreg _) _).trans (flag_setFlag_self (by decide)), events_eventAll _ _ _ _,
    onlyRegs_trans (onlyRegs_setFlag (by simp) (onlyRegs_refl _ s)) (onlyRegs_of_regs (regs_eventAll _ _ _ _))⟩

/-- The state after an acknowledged roll, but for the records kept. -/
def State.acknowledged (s : State) : State :=
  (({ s with clr := { s.clr with kept := [], ackSeen := s.now } } : State).setFlag (CLR_ROLL 0) 31 false).setFlag (CLR_ID 0) 28 true

theorem treasury_of_mem {t : State} (h : t.mem = s.mem) : t.treasury = s.treasury := by
  unfold State.treasury
  rw [chr_of_mem h]

/-- Records sent to the Treasury one after another. -/
theorem foldl_sendRecord (l : List FaultRecord) : ∀ s : State, l.foldl (fun s r => s.send (.faultRecord s.treasury r)) s =
    { s with out := s.out ++ l.map (fun r => .faultRecord s.treasury r) } := by
  induction l with
  | nil =>
    intro s
    rw [List.map_nil, List.append_nil]
    rfl
  | cons r l ih =>
    intro s
    rw [List.foldl_cons, ih, treasury_of_mem (s := s) (t := s.send (.faultRecord s.treasury r)) rfl, List.map_cons]
    unfold State.send
    rw [List.append_assoc, List.singleton_append]

theorem rollAnswered_acknowledged (h : s.role = 1) : s.rollAnswered none =
    { s.acknowledged with out := s.acknowledged.out ++ s.clr.kept.map (fun r => .faultRecord s.treasury r) } := by
  have htreasury : s.acknowledged.treasury = s.treasury := treasury_of_mem rfl
  have hfold : s.rollAnswered none = s.clr.kept.foldl (fun s r => s.send (.faultRecord s.treasury r)) s.acknowledged := by
    unfold State.rollAnswered
    rw [if_neg (by rw [h]; decide)]
    rfl
  rw [hfold, foldl_sendRecord, htreasury]

theorem acknowledged_spec (s : State) : s.acknowledged.flag (CLR_ROLL 0) 31 = false ∧ s.acknowledged.flag (CLR_ID 0) 28 = true ∧
    s.acknowledged.clr = { s.clr with kept := [], ackSeen := s.now } ∧ s.acknowledged.out = s.out ∧
    onlyRegs [CLR_ROLL 0, CLR_ID 0] s s.acknowledged := by
  unfold State.acknowledged
  refine ⟨?_, flag_setFlag_self (by decide), ?_, ?_, onlyRegs_setFlag (by simp) (onlyRegs_setFlag (by simp) (onlyRegs_of_regs rfl))⟩
  · exact (flag_setFlag_other clrRoll_ne_id.symm).trans (flag_setFlag_self (by decide))
  · rw [State.setFlag_clr, State.setFlag_clr]
  · rw [State.setFlag_out, State.setFlag_out]

theorem rollAcknowledged_spec (h : s.role = 1) : (s.rollAnswered none).flag (CLR_ROLL 0) 31 = false ∧
    (s.rollAnswered none).flag (CLR_ID 0) 28 = true ∧ (s.rollAnswered none).clr = { s.clr with kept := [], ackSeen := s.now } ∧
    (s.rollAnswered none).out = s.out ++ s.clr.kept.map (fun r => .faultRecord s.treasury r) ∧
    onlyRegs [CLR_ROLL 0, CLR_ID 0] s (s.rollAnswered none) := by
  obtain ⟨hroll, hid, hclr, hout, hregs⟩ := acknowledged_spec s
  rw [rollAnswered_acknowledged h]
  generalize s.acknowledged = v at hregs hroll hid hclr hout ⊢
  generalize hw : ({ v with out := v.out ++ s.clr.kept.map (fun r => Out.faultRecord s.treasury r) } : State) = w
  have hsame : w.regs = v.regs := by rw [← hw]
  have hreg := reg_of_regs hsame
  refine ⟨(flag_of_reg (hreg _) _).trans hroll, (flag_of_reg (hreg _) _).trans hid, ?_, ?_, onlyRegs_trans hregs (onlyRegs_of_regs hsame)⟩
  · rw [← hw]
    exact hclr
  · rw [← hw, ← hout]

theorem rollAnswered_conflict (h : s.role = 1) (range : Bool) : s.rollAnswered (some range) =
    ((s.setFlag (CLR_ID 0) 29 true).setFlag (CLR_ID 0) 28 false).eventAll 0x45 s.node range.toNat := by
  unfold State.rollAnswered
  rw [if_neg (by rw [h]; decide)]

/-- A conflict fences the Branch (R399). -/
theorem rollConflicted_spec (h : s.role = 1) (range : Bool) : (s.rollAnswered (some range)).flag (CLR_ID 0) 29 = true ∧
    (s.rollAnswered (some range)).flag (CLR_ID 0) 28 = false ∧ (s.rollAnswered (some range)).serve.events =
      s.serve.events ++ [⟨true, true, BitVec.ofNat 8 0x45, 0, BitVec.ofNat 32 s.node, BitVec.ofNat 64 range.toNat⟩] ∧
    onlyRegs [CLR_ID 0] s (s.rollAnswered (some range)) := by
  rw [rollAnswered_conflict h]
  have hreg := reg_of_regs (regs_eventAll ((s.setFlag (CLR_ID 0) 29 true).setFlag (CLR_ID 0) 28 false) 0x45 s.node range.toNat)
  refine ⟨(flag_of_reg (hreg _) _).trans ?_, (flag_of_reg (hreg _) _).trans (flag_setFlag_self (by decide)), events_eventAll _ _ _ _, ?_⟩
  · exact (flag_setFlag_apart (by decide) (by decide)).trans (flag_setFlag_self (by decide))
  · exact onlyRegs_trans (onlyRegs_setFlag (by simp) (onlyRegs_setFlag (by simp) (onlyRegs_refl _ s))) (onlyRegs_of_regs (regs_eventAll _ _ _ _))

/-! ### A Treasury and its Branches (R399, R401, R402) -/

variable {r : Roll}

theorem rollIn_branch (h : s.role = 2) (hb : r.isPeer = false) : s.rollIn r = s.branchRoll r := by
  unfold State.rollIn
  rw [if_neg (not_not_intro h), if_neg (by rw [hb]; exact Bool.false_ne_true)]

theorem rollIn_peer (h : s.role = 2) (hb : r.isPeer = true) (hp : s.paired = true) (hn : r.node.val = s.peer) : s.rollIn r =
    ({ s with clr := { s.clr with peerSeen := s.now } } : State).setFlag (CLR_ROLL 0) 30 false := by
  unfold State.rollIn
  rw [if_neg (not_not_intro h), if_pos hb, if_pos (by rw [hp, hn, Bool.true_and]; exact beq_self_eq_true _)]

theorem branchRoll_outside (hn : s.domIndex r.node.val = none) : s.branchRoll r = s.rollConflict r.node.val true := by
  unfold State.branchRoll
  rw [hn]

variable {n : Nat} (hn : s.domIndex r.node.val = some n)
include hn

theorem branchRoll_conflicts (h : r.node.val = s.node ∨ ((look DomEntry.absent s.clr.dir n).st ≠ 0 ∧
    (look DomEntry.absent s.clr.dir n).identity ≠ r.identity)) : s.branchRoll r = s.rollConflict r.node.val false := by
  unfold State.branchRoll
  rw [hn]
  exact if_pos h

/-- A member's entry with what its roll says (R399). -/
def domRolled (r : Roll) (e : DomEntry) (now : Word64) : DomEntry :=
  { e with node := r.node.val, st := 1, generation := r.generation, epoch := r.epoch, probe := r.probe, seen := now, identity := r.identity }

omit hn in
theorem clr_putDom (s : State) (n : Nat) (e : DomEntry) : (s.putDom n e).clr = { s.clr with dir := put DomEntry.absent s.clr.dir n e } := by
  unfold State.putDom
  rw [State.write_clr]

omit hn in
theorem out_putDom (s : State) (n : Nat) (e : DomEntry) : (s.putDom n e).out = s.out := by
  unfold State.putDom
  rw [State.write_out]

/-- The state with a member's entry written, and its arrival told. -/
def State.enrolled (s : State) (r : Roll) (n : Nat) : State :=
  let e := look DomEntry.absent s.clr.dir n
  let s := s.putDom n (domRolled r e s.now)
  if e.st = 0 then s.eventAll 0x43 r.node.val r.generation.toNat else s

theorem branchRoll_enrols (hnode : r.node.val ≠ s.node) (h : (look DomEntry.absent s.clr.dir n).st = 0 ∨
    (look DomEntry.absent s.clr.dir n).identity = r.identity) : s.branchRoll r = (s.enrolled r n).send (.rollAck r.node.val) := by
  unfold State.branchRoll
  rw [hn]
  refine if_neg ?_
  rintro (he | ⟨hst, hid⟩)
  · exact hnode he
  · exact h.elim hst hid

omit hn in
theorem enrolled_spec (s : State) (r : Roll) (n : Nat) : (s.enrolled r n).out = s.out ∧
    (s.enrolled r n).clr = { s.clr with dir := put DomEntry.absent s.clr.dir n (domRolled r (look DomEntry.absent s.clr.dir n) s.now) } ∧
    onlyParts [.mem, .poison, .clr, .serve, .out] s (s.enrolled r n) := by
  unfold State.enrolled
  extract_lets e v
  have hv : onlyParts [.mem, .poison, .clr, .serve, .out] s v := Leads.onlyParts (keeps_putDom (Has.self.sub rfl) Leads.self)
  have hclr : v.clr = { s.clr with dir := put DomEntry.absent s.clr.dir n (domRolled r e s.now) } := clr_putDom _ _ _
  have hout : v.out = s.out := out_putDom _ _ _
  clear_value v
  split
  · exact ⟨hout, hclr, onlyParts_trans hv (Leads.onlyParts (keeps_eventAll (Has.self.sub rfl) Leads.self))⟩
  · exact ⟨hout, hclr, hv⟩

end

/-! ### Silent members and forwarded records (R364, R399, R401) -/

section
variable {s : State} {m n : Nat} (hn : s.domIndex m = some n)
include hn

theorem memberLost_idle (h : s.role ≠ 2 ∨ (look DomEntry.absent s.clr.dir n).st ≠ 1) : s.memberLost m = s := by
  unfold State.memberLost
  rw [hn]
  exact if_neg fun ⟨hr, hst⟩ => h.elim (· hr) (· hst)

theorem memberLost_lost (hr : s.role = 2) (hst : (look DomEntry.absent s.clr.dir n).st = 1) : s.memberLost m =
    (s.putDom n { look DomEntry.absent s.clr.dir n with st := 2 }).eventAll 0x44 m ((look DomEntry.absent s.clr.dir n).seen.toNat % 2 ^ 32) := by
  unfold State.memberLost
  rw [hn]
  exact if_pos ⟨hr, hst⟩

omit hn in
/-- A record put into a log that has room. -/
theorem logPut_room (h : s.logFull = false) (r : FaultRecord) : (s.logPut r).clr = s.clr ∧ counted DBK_CNT_RECORDS 1 s (s.logPut r) ∧
    (s.logPut r).fld DBK_FLOG_HEAD 15 0 = (s.fld DBK_FLOG_HEAD 15 0 + 1) % 65536 ∧ (s.logPut r).log.serial = s.log.serial := by
  have hne : DBK_FLOG_HEAD ≠ DBK_CNT_RECORDS := by decide
  unfold State.logPut
  rw [h, if_neg Bool.false_ne_true]
  extract_lets head l v
  have hput : onlyParts [.mem, .poison] v (v.flogPut head r) := Leads.onlyParts (keeps_flogPut (Has.self.sub rfl) Leads.self)
  generalize v.flogPut head r = w at hput ⊢
  have hregs : w.regs = s.regs := hput .regs (by decide)
  refine ⟨?_, ?_, ?_, ?_⟩
  · exact (hput .clr (by decide) : w.clr = s.clr)
  · exact counted_from ((reg_setFld_other hne).trans (reg_of_regs hregs _)) (counted_bump _)
  · refine (fld_of_reg (reg_bump_other hne.symm) _ _).trans ((fld_setFld_self (by decide) (by decide)).trans ?_)
    exact Nat.mod_mod _ _
  · exact (congrArg Log.serial (show w.log = v.log from hput .log (by decide))).trans rfl

/-- A Branch's record reaches its Treasury. -/
theorem recordIn_spec (hr : s.role = 2) (hst : (look DomEntry.absent s.clr.dir n).st ≠ 0) (hroom : s.logFull = false) (r : FaultRecord) :
    ∃ t, s.recordIn m r = t ∧ t.clr.dir = put DomEntry.absent s.clr.dir n { look DomEntry.absent s.clr.dir n with
        forwarded := (look DomEntry.absent s.clr.dir n).forwarded + 1 } ∧
      counted DBK_CNT_RECORDS 1 s t ∧ t.fld DBK_FLOG_HEAD 15 0 = (s.fld DBK_FLOG_HEAD 15 0 + 1) % 65536 ∧ t.log.serial = s.log.serial := by
  unfold State.recordIn
  rw [if_neg (not_not_intro hr), hn]
  dsimp only
  obtain ⟨hclr, hcount, hhead, hserial⟩ := logPut_room hroom { r with flags := r.flags ||| 8, node := BitVec.ofNat 16 (2 ^ 15 + m) }
  generalize s.logPut { r with flags := r.flags ||| 8, node := BitVec.ofNat 16 (2 ^ 15 + m) } = v at hclr hcount hhead hserial ⊢
  rw [hclr, if_neg hst]
  generalize he : ({ look DomEntry.absent s.clr.dir n with forwarded := (look DomEntry.absent s.clr.dir n).forwarded + 1 } : DomEntry) = e
  have hput : onlyParts [.mem, .poison, .clr] v (v.putDom n e) := Leads.onlyParts (keeps_putDom (Has.self.sub rfl) Leads.self)
  have hreg := reg_of_regs (hput .regs (by decide))
  refine ⟨_, rfl, ?_, counted_of_reg hcount (hreg _), (fld_of_reg (hreg _) _ _).trans hhead, ?_⟩
  · rw [clr_putDom, hclr]
  · rw [hput .log (by decide)]
    exact hserial

end

/-- Settles O56: each roll, answer and silence by its role, and the directory by the entry it writes. -/
theorem rollsKeepTheDomain : Obligations.RollsKeepTheDomain := by
  refine ⟨?_, ?_, ?_⟩
  · intro s _ flags event
    refine ⟨fun h => congrArg Host.Outcome.next (roll_branch h), fun h => congrArg Host.Outcome.next (roll_alone h), fun h hf => ?_, fun h => ?_,
      fun h hp hf => ?_, fun h => ?_, fun h c => congrArg Host.Outcome.next (if_pos h), fun h => ?_, fun range h => ?_⟩
    · exact ⟨_, rfl, treasuryLost_spec h hf⟩
    · exact congrArg Host.Outcome.next (if_neg fun ⟨hr, hf⟩ => h.elim (· hr) fun he => Bool.false_ne_true (hf.symm.trans he))
    · exact ⟨_, rfl, peerLost_spec h hp hf⟩
    · refine congrArg Host.Outcome.next (if_neg ?_)
      rintro ⟨hr, hp, hf⟩
      rcases h with h | h | h
      · exact h hr
      · exact Bool.false_ne_true (h.symm.trans hp)
      · exact Bool.false_ne_true (hf.symm.trans h)
    · exact ⟨_, rfl, rollAcknowledged_spec h⟩
    · exact ⟨_, rfl, rollConflicted_spec h range⟩
  · intro r s _
    refine ⟨fun h => congrArg Host.Outcome.next (if_pos h), fun h hb hp hnode => ?_, fun h hb hn => ?_, fun n h hb hn => ⟨fun hc => ?_, fun hnode hc => ?_⟩⟩
    · exact ⟨_, congrArg Host.Outcome.next (rollIn_peer h hb hp hnode), flag_setFlag_self (by decide), rfl,
        onlyRegs_setFlag (by simp) (onlyRegs_of_regs rfl)⟩
    · exact ⟨_, congrArg Host.Outcome.next ((rollIn_branch h hb).trans (branchRoll_outside hn)), rfl, rfl⟩
    · exact ⟨_, congrArg Host.Outcome.next ((rollIn_branch h hb).trans (branchRoll_conflicts hn hc)), rfl, rfl⟩
    · obtain ⟨hout, hclr, hparts⟩ := enrolled_spec s r n
      refine ⟨_, congrArg Host.Outcome.next ((rollIn_branch h hb).trans (branchRoll_enrols hn hnode hc)), ?_, hclr, ?_⟩
      · exact congrArg (· ++ [Out.rollAck r.node.val]) hout
      · exact onlyParts_trans hparts (Leads.onlyParts (keeps_send (Has.self.sub rfl) Leads.self))
  · intro m r n s _ hn e
    refine ⟨fun h => ⟨congrArg Host.Outcome.next (memberLost_idle hn (.inl h)), congrArg Host.Outcome.next (if_pos h)⟩,
      fun _ hst => congrArg Host.Outcome.next (memberLost_idle hn (.inr hst)), fun h hst => ?_, fun h hst hroom => ?_⟩
    · exact ⟨_, congrArg Host.Outcome.next (memberLost_lost hn h hst), (clr_eventAll _ _ _ _).trans (clr_putDom _ _ _),
        Leads.onlyParts (keeps_eventAll (Has.self.sub rfl) (keeps_putDom (Has.self.sub rfl) Leads.self))⟩
    · obtain ⟨t, ht, hspec⟩ := recordIn_spec hn h hst hroom r
      exact ⟨t, congrArg Host.Outcome.next ht, hspec⟩

end Sys2Proof.Machine
end

section
/-! SUPPORT. Remote accesses and settled signals (O55; R249, R385, R390, R391, R393, R394, R397). -/

namespace Sys2Proof.Machine

/-! ### Commands for this node (R385, R391) -/

section
variable {s : State} {p : Nat} {c : ClrCmd}

theorem remote_absent (h : s.hasNode = false) (data : List Codeword) : s.remoteWrite p c data = s ∧ s.remoteRead p c = s ∧
    s.readBack p c data = s ∧ s.readRefused p c = s := by
  have hno : (!s.hasNode) = true := by rw [h]; rfl
  exact ⟨if_pos hno, if_pos hno, if_pos hno, if_pos hno⟩

variable (hnode : s.hasNode = true) (hme : s.forMe c = true)
include hnode hme

theorem readRefused_own : s.readRefused p c = s.readFailed c.tag := by
  unfold State.readRefused
  rw [hnode, hme, if_neg (by decide), if_neg (by decide)]

variable {data : List Codeword}

theorem remoteWrite_own (hg : (s.takeGranules p data).1 = s) : s.remoteWrite p c data =
    if !s.remoteWriteOk c || decide (data.length ≠ c.gran.toNat) then s.refuseRemote p c else
      let z := s.spaceWrite (adSpace c.dst) (clrAt c) (granuleBytes c (s.takeGranules p data).2)
      { z with clr := { z.clr with landed := upd 0 z.clr.landed (landedKey p (clrSrcNode c) (clrSrcDie c)) (· + 1) } } := by
  have htake : s.takeGranules p data = (s, (s.takeGranules p data).2) := Prod.ext hg rfl
  generalize (s.takeGranules p data).2 = gs at htake ⊢
  unfold State.remoteWrite
  rw [hnode, hme, if_neg (by decide), if_neg (by decide), htake]

theorem readBack_own (hg : (s.takeGranules p data).1 = s) {d : Die} {k lo : Nat} (hr : s.readOf c.tag = some (d, k, lo)) :
    s.readBack p c data = (s.dropRead c.tag).setChan d.val k { s.chan d.val k with
      arrived := (s.chan d.val k).arrived ++ [(lo, granuleBytes c (s.takeGranules p data).2)] } := by
  have htake : s.takeGranules p data = (s, (s.takeGranules p data).2) := Prod.ext hg rfl
  generalize (s.takeGranules p data).2 = gs at htake ⊢
  unfold State.readBack
  rw [hnode, hme, if_neg (by decide), if_neg (by decide), hr]
  dsimp only
  rw [htake]
  rfl

theorem readBack_unasked (hr : s.readOf c.tag = none) : s.readBack p c data = s := by
  unfold State.readBack
  rw [hnode, hme, if_neg (by decide), if_neg (by decide), hr]

end

theorem readFailed_unasked {s : State} {tag : BitVec 16} (hr : s.readOf tag = none) : s.readFailed tag = s := by
  unfold State.readFailed
  rw [hr]

theorem readFailed_asked {s : State} {tag : BitVec 16} {d : Die} {k lo : Nat} (hr : s.readOf tag = some (d, k, lo)) :
    s.readFailed tag = (s.dropRead tag).transferError d k := by
  unfold State.readFailed
  rw [hr]

/-! ### Refused accesses (R391) -/

theorem clrRefused_notOfRecord {p : Nat} (hp : p < 2) : CLR_CNT_REFUSED p ∉ recordRegs := by
  simp only [recordRegs, DBK_STAT, DBK_FLOG_HEAD, DBK_CNT_RECORDS, DBK_CNT_LOST, DBK_CNT_PERM, CLR_CNT_FWDLOST, CLR_CNT_REFUSED, dbk, clrReg,
    List.mem_cons, List.not_mem_nil, or_false]
  omega

/-- What a refused access leaves. -/
structure Refused (p : Nat) (s t : State) : Prop where
  count : counted (CLR_CNT_REFUSED p) 1 s t
  serial : t.log.serial = s.log.serial + 1
  clr : ∃ l, t.clr = { s.clr with kept := l }
  parts : onlyParts recordParts s t

theorem refused_refuseRemote (s : State) {p : Nat} (hp : p < 2) (c : ClrCmd) : Refused p s (s.refuseRemote p c) := by
  unfold State.refuseRemote
  have hrec := recorded_fault s (FaultRecord.at_ (faultOf clsDma (0x30 + p) 0xFF 0 0 0) c.dst.toNat)
  generalize s.fault (FaultRecord.at_ (faultOf clsDma (0x30 + p) 0xFF 0 0 0) c.dst.toNat) = v at hrec ⊢
  have hbump : onlyParts [.regs] v (v.bump (CLR_CNT_REFUSED p) 1) := Leads.onlyParts (keeps_bump (Has.self.sub rfl) Leads.self)
  refine ⟨counted_from (hrec.reg (clrRefused_notOfRecord hp)) (counted_bump v), ?_, ?_, onlyParts_trans hrec.parts (onlyParts_mono (by decide) hbump)⟩
  · rw [hbump .log (by decide)]
    exact hrec.serial
  · rw [hbump .clr (by decide)]
    exact hrec.clr

/-! ### Writes that land (R393) -/

/-- What a write that its checks allow leaves. -/
theorem remoteWrite_lands {s : State} {p : Nat} {c : ClrCmd} {data : List Codeword} (hnode : s.hasNode = true) (hme : s.forMe c = true)
    (hg : (s.takeGranules p data).1 = s) (hok : s.remoteWriteOk c = true) (hlen : data.length = c.gran.toNat) {bs : List (Byte × Bool)}
    (hbs : granuleBytes c (s.takeGranules p data).2 = bs) :
    (s.remoteWrite p c data).read (spaceKey (adSpace c.dst) (clrAt c)) bs.length = bs.map Prod.fst ∧
      onlyBytes (spaceKey (adSpace c.dst) (clrAt c)) bs.length s (s.remoteWrite p c data) ∧
      (s.remoteWrite p c data).clr = { s.clr with landed := upd 0 s.clr.landed (landedKey p (clrSrcNode c) (clrSrcDie c)) (· + 1) } ∧
      onlyParts [.mem, .poison, .clr] s (s.remoteWrite p c data) := by
  rw [remoteWrite_own hnode hme hg, if_neg (by rw [hok, decide_eq_false (not_not_intro hlen)]; decide), hbs]
  have hmem := mem_spaceWrite s (adSpace c.dst) (clrAt c) bs
  have honly := onlyBytes_spaceWrite s (adSpace c.dst) (clrAt c) bs
  have hparts : onlyParts [.mem, .poison] s (s.spaceWrite (adSpace c.dst) (clrAt c) bs) :=
    Leads.onlyParts (keeps_spaceWrite (Has.self.sub rfl) Leads.self)
  generalize s.spaceWrite (adSpace c.dst) (clrAt c) bs = z at hmem honly hparts ⊢
  have hclr : z.clr = s.clr := hparts .clr (by decide)
  have hread := read_write_self s (spaceKey (adSpace c.dst) (clrAt c)) (bs.map Prod.fst)
  rw [List.length_map] at hread
  have hput : onlyParts [.clr] z { z with clr := { z.clr with
      landed := upd 0 z.clr.landed (landedKey p (clrSrcNode c) (clrSrcDie c)) (· + 1) } } :=
    Leads.onlyParts (keeps_put_clr (Has.self.sub rfl) Leads.self)
  refine ⟨(read_of_mem hmem _ _).trans hread, onlyBytes_of_bytes (.refl s) ⟨rfl, rfl⟩ honly, ?_,
    onlyParts_trans (onlyParts_mono (by decide) hparts) (onlyParts_mono (by decide) hput)⟩
  rw [← hclr]

/-! ### Reads (R385, R390) -/

theorem clrTx_ne_refused (l p : Nat) : CLR_L_TX (l / 6) (l % 6) ≠ CLR_CNT_REFUSED p := by
  unfold CLR_L_TX CLR_CNT_REFUSED clrReg
  omega

/-- A command offered to a link counts flits and nothing that the checks of R391 count. -/
theorem reg_offer (s : State) (l p : Nat) (c : ClrCmd) (data : List Codeword) :
    (s.offer l c data).reg (CLR_CNT_REFUSED p) = s.reg (CLR_CNT_REFUSED p) := by
  unfold State.offer
  dsimp only
  split
  · exact reg_of_regs (State.setLink_regs _ _ _) _
  · unfold State.transmit
    dsimp only
    rw [reg_of_regs (State.send_regs _ _), reg_bump_other (clrTx_ne_refused l p)]
    exact reg_of_regs (s := s) rfl _

theorem answerRead_keeps (s : State) (c : ClrCmd) (op p : Nat) (gs : List Codeword) :
    (s.answerRead c op gs).reg (CLR_CNT_REFUSED p) = s.reg (CLR_CNT_REFUSED p) ∧ (s.answerRead c op gs).log = s.log := by
  have hparts : onlyParts [.regs, .clr, .sec, .out] s (s.answerRead c op gs) := Leads.onlyParts (keeps_answerRead (Has.self.sub rfl) Leads.self)
  refine ⟨?_, hparts .log (by decide)⟩
  unfold State.answerRead State.sendTo
  extract_lets r x
  cases s.routeOf (clrSrcNode c) with
  | none => rfl
  | some l => exact reg_offer s l p _ _

/-- The answer to a read of `n` granules. -/
def State.answerOf (s : State) (c : ClrCmd) (op n : Nat) : ClrCmd :=
  { s.newCmd op 1 (spaceDie (adSpace c.dst) (clrAt c)) (ledger (clrSrcNode c) 0 0) with
    gran := BitVec.ofNat 8 n, lead := c.lead, tail := c.tail, tag := c.tag }

theorem answerRead_eq (s : State) (c : ClrCmd) (op : Nat) (gs : List Codeword) :
    s.answerRead c op gs = (s.sendTo (clrSrcNode c) (s.answerOf c op gs.length) gs).getD s := rfl

theorem cmdChan_answerOf (s : State) (c : ClrCmd) (op n : Nat) : cmdChan (s.answerOf c op n) = 1 := by
  show (BitVec.ofNat 8 (1 * 64 + 31)).toNat / 64 = 1
  decide

theorem answerRead_unreachable {s : State} {c : ClrCmd} (h : s.routeOf (clrSrcNode c) = none) (op : Nat) (gs : List Codeword) :
    s.answerRead c op gs = s := by
  rw [answerRead_eq]
  unfold State.sendTo
  rw [h]
  rfl

/-- An answer with credit and room goes out at once (R386). -/
theorem answerRead_sent {s : State} {c : ClrCmd} {l : Nat} (h : s.routeOf (clrSrcNode c) = some l) (op : Nat) {gs : List Codeword}
    (hw : (s.linkOf l).waiting = []) (hcredit : 1 + gs.length ≤ look 0 (s.linkOf l).credit 1)
    (hroom : (s.linkOf l).replay.length + cmdFlits gs ≤ 256) : s.answerRead c op gs = s.transmit l (s.answerOf c op gs.length) gs := by
  rw [answerRead_eq]
  unfold State.sendTo
  rw [h, Option.map_some, Option.getD_some]
  unfold State.offer LinkState.canSend
  dsimp only
  rw [hw, cmdChan_answerOf]
  refine if_neg ?_
  rw [List.any_nil, Bool.false_or, decide_eq_true hroom, decide_eq_true (show cmdSlots gs ≤ look 0 (s.linkOf l).credit 1 from hcredit)]
  decide

theorem transmit_spec (s : State) (l : Nat) (c : ClrCmd) (data : List Codeword) :
    (s.transmit l c data).out = s.out ++ [.clr l c data] ∧ (s.transmit l c data).mem = s.mem ∧
      ((s.transmit l c data).linkOf l).credit = upd 0 (s.linkOf l).credit (cmdChan c) (fun x => x - cmdSlots data) := by
  refine ⟨rfl, rfl, ?_⟩
  unfold State.transmit
  exact congrArg LinkState.credit (look_put_self _ _ _ _)

section
variable {s : State} {p : Nat} {c : ClrCmd} (hnode : s.hasNode = true) (hme : s.forMe c = true)
include hnode hme

theorem remoteRead_refused (h : s.remoteReadOk c = false) : s.remoteRead p c = (s.refuseRemote p c).answerRead c 6 [] := by
  unfold State.remoteRead
  rw [hnode, hme, if_neg (by decide), if_neg (by decide), if_pos (by rw [h]; rfl)]

theorem remoteRead_memory (h : s.remoteReadOk c = true) (hsp : adSpace c.dst = 0 ∨ adSpace c.dst = 1 ∨ adSpace c.dst = 4) :
    s.remoteRead p c = s.answerRead c 3 (granulesOf (clrAt c) (s.spaceRead (adSpace c.dst) (clrAt c) (clrLen c))) := by
  have hdata : s.remoteData p c = (s, s.spaceRead (adSpace c.dst) (clrAt c) (clrLen c)) := by
    unfold State.remoteData
    dsimp only
    rcases hsp with h | h | h
    · rw [h]
      rfl
    · rw [h]
      rfl
    · rw [h]
      rfl
  unfold State.remoteRead
  rw [hnode, hme, if_neg (by decide), if_neg (by decide), if_neg (by rw [h]; decide), hdata]

end

/-! ### Settled signals (R249, R393, R394) -/

/-- The signals that the Clearing ports hold. -/
def State.holding (s : State) (l : List HeldSignal) : State := { s with clr := { s.clr with held := l } }

theorem settled_holding (s : State) (l : List HeldSignal) (h : HeldSignal) : (s.holding l).settled h = s.settled h := rfl

theorem tallyOf_holding (s : State) (l : List HeldSignal) (t : Nat) : (s.holding l).tallyOf t = s.tallyOf t := rfl

theorem holding_self (s : State) (l : List HeldSignal) : (s.holding l).holding s.clr.held = s := rfl

theorem releaseHeld_none {s : State} (h : ∀ x ∈ s.clr.held, s.settled x = false) : s.releaseHeld = s := by
  have hready : s.clr.held.filter s.settled = [] := List.filter_eq_nil_iff.mpr fun x hx => by rw [h x hx]; exact Bool.false_ne_true
  have hkeep : s.clr.held.filter (fun x => !s.settled x) = s.clr.held := List.filter_eq_self.mpr fun x hx => by rw [h x hx]; rfl
  unfold State.releaseHeld
  rw [hready, hkeep]
  rfl

/-- One held signal settles. -/
theorem releaseHeld_one {s : State} {l : List HeldSignal} {h : HeldSignal} (hheld : s.clr.held = l ++ [h])
    (hl : ∀ x ∈ l, s.settled x = false) (hh : s.settled h = true) :
    s.releaseHeld = ((s.holding l).tallyAdd h.tally h.inc none).1 := by
  have hready : s.clr.held.filter s.settled = [h] := by
    rw [hheld, List.filter_append, List.filter_eq_nil_iff.mpr fun x hx => by rw [hl x hx]; exact Bool.false_ne_true,
      List.filter_cons_of_pos hh, List.filter_nil, List.nil_append]
  have hkeep : s.clr.held.filter (fun x => !s.settled x) = l := by
    rw [hheld, List.filter_append, List.filter_eq_self.mpr fun x hx => by rw [hl x hx]; rfl,
      List.filter_cons_of_neg (by rw [hh]; decide), List.filter_nil, List.append_nil]
  unfold State.releaseHeld
  rw [hready, hkeep]
  rfl

theorem tallyAdd_counter {s : State} {t v : Nat} (hkind : (s.tallyOf t).kind = tallyCounter) (hmax : (s.tallyOf t).value + v ≤ 0x7FFFFFFF)
    (j : Option Job) : (s.tallyAdd t v j).1 = s.setTally t { s.tallyOf t with value := (s.tallyOf t).value + v } := by
  unfold State.tallyAdd
  dsimp only
  rw [if_neg (by rw [hkind]; decide), if_neg (not_not_intro hkind), if_neg (Int.not_lt.mpr hmax)]

theorem onlyParts_setTally (s : State) (t v : Nat) (hmax : (s.tallyOf t).value + v ≤ 0x7FFFFFFF) :
    onlyParts [.tallies] s (s.setTally t { s.tallyOf t with value := (s.tallyOf t).value + v }) := by
  refine Leads.onlyParts (keeps_setTally (Has.self.sub rfl) Leads.self fun hok hkind => ?_)
  have hold : 0 ≤ (s.tallyOf t).value ∧ (s.tallyOf t).value ≤ 0x7FFFFFFF := countersOk_look hok t hkind
  exact ⟨by show 0 ≤ (s.tallyOf t).value + (v : Int); omega, hmax⟩

/-- The signal that a command carries. -/
def heldOf (p : Nat) (c : ClrCmd) : HeldSignal := ⟨p, clrSrcNode c, clrSrcDie c, c.count, c.tally.toNat, c.inc.toNat⟩

section
variable {s : State} {p : Nat} {c : ClrCmd} (hnode : s.hasNode = true) (hme : s.forMe c = true)
include hnode hme

theorem signalIn_malformed (h : c.inc = 0 ∨ 15 < c.inc.toNat ∨ 2 ^ 14 ≤ c.tally.toNat) : s.signalIn p c = s.refuseRemote p c := by
  unfold State.signalIn
  rw [hnode, hme, if_neg (by decide), if_neg (by decide)]
  exact if_pos (h.imp_right (·.imp_right .inl))

theorem signalIn_held (hinc : c.inc ≠ 0) (h15 : c.inc.toNat ≤ 15) (ht : c.tally.toNat < 2 ^ 14) (hsrc : c.src.toNat < 2 ^ 14) :
    s.signalIn p c = (s.holding (s.clr.held ++ [heldOf p c])).releaseHeld := by
  unfold State.signalIn
  rw [hnode, hme, if_neg (by decide), if_neg (by decide)]
  refine if_neg ?_
  rintro (h | h | h | h)
  · exact hinc h
  · omega
  · omega
  · omega

end

/-! ### The obligation -/

/-- A settled signal that arrives (R249, R394). -/
theorem signalIn_spec {s : State} {p : Nat} {c : ClrCmd} (hnode : s.hasNode = true) (hme : s.forMe c = true) (hinc : c.inc ≠ 0)
    (h15 : c.inc.toNat ≤ 15) (ht : c.tally.toNat < 2 ^ 14) (hsrc : c.src.toNat < 2 ^ 14) (hold : ∀ x ∈ s.clr.held, s.settled x = false) :
    (s.settled (heldOf p c) = false → s.signalIn p c = s.holding (s.clr.held ++ [heldOf p c])) ∧
    (s.settled (heldOf p c) = true → (s.tallyOf (heldOf p c).tally).kind = tallyCounter →
      (s.tallyOf (heldOf p c).tally).value + (heldOf p c).inc ≤ 0x7FFFFFFF →
      s.signalIn p c = s.setTally (heldOf p c).tally { s.tallyOf (heldOf p c).tally with
        value := (s.tallyOf (heldOf p c).tally).value + (heldOf p c).inc }) := by
  rw [signalIn_held hnode hme hinc h15 ht hsrc]
  refine ⟨fun hh => releaseHeld_none fun x hx => ?_, fun hh hkind hmax => ?_⟩
  · rw [settled_holding]
    rcases List.mem_append.mp hx with hx | hx
    · exact hold x hx
    · rw [List.mem_singleton.mp hx]
      exact hh
  · rw [releaseHeld_one (s := s.holding (s.clr.held ++ [heldOf p c])) (l := s.clr.held) rfl hold hh, holding_self]
    exact tallyAdd_counter hkind hmax none

/-- Landed counts heard by every Array die (R393). -/
def State.heardAll (s : State) (p node die : Nat) : State :=
  { s with clr := { s.clr with
      heard := (List.range 4).foldl (fun m d => put 0 m (heardKey d p node die) (look 0 s.clr.landed (landedKey p node die))) s.clr.heard } }

theorem hearLanded_eq (s : State) (p node die : Nat) : s.hearLanded p node die = (s.heardAll p node die).releaseHeld := rfl

theorem tallyOf_heardAll (s : State) (p node die t : Nat) : (s.heardAll p node die).tallyOf t = s.tallyOf t := rfl

theorem hearLanded_one {s : State} {p node die : Nat} {h : HeldSignal} (hheld : s.clr.held = [h]) (hh : (s.heardAll p node die).settled h = true)
    (hkind : (s.tallyOf h.tally).kind = tallyCounter) (hmax : (s.tallyOf h.tally).value + h.inc ≤ 0x7FFFFFFF) :
    s.hearLanded p node die = ((s.heardAll p node die).holding []).setTally h.tally
      { s.tallyOf h.tally with value := (s.tallyOf h.tally).value + h.inc } := by
  rw [hearLanded_eq, releaseHeld_one (s := s.heardAll p node die) (l := []) hheld nofun hh]
  exact tallyAdd_counter (s := (s.heardAll p node die).holding []) hkind hmax none

/-- Settles O55: what its checks allow is written, read and answered, what they refuse is counted, and a held signal is
added once the landed counts have come. -/
theorem remoteAccessesAndSignals : Obligations.RemoteAccessesAndSignals := by
  refine ⟨⟨?_, ?_, ?_⟩, ?_, ?_⟩
  · intro p c data s _ gs
    refine ⟨fun h => ?_, fun hnode hme hg => ⟨fun hok hlen => ?_, fun hbad => ?_, fun d k lo hr => ?_, fun hr => ⟨?_, ?_⟩⟩⟩
    · obtain ⟨hw, hr, hb, hf⟩ := remote_absent (p := p.val) (c := c) h data
      exact ⟨congrArg Host.Outcome.next hw, congrArg Host.Outcome.next hr, congrArg Host.Outcome.next hb, congrArg Host.Outcome.next hf⟩
    · exact ⟨_, rfl, remoteWrite_lands hnode hme hg hok hlen rfl⟩
    · have hrefuse : s.remoteWrite p.val c data = s.refuseRemote p.val c := by
        rw [remoteWrite_own hnode hme hg]
        refine if_pos ?_
        rcases hbad with h | h
        · rw [h]
          rfl
        · rw [decide_eq_true h, Bool.or_true]
      have href := refused_refuseRemote s p.isLt c
      obtain ⟨l, hclr⟩ := href.clr
      exact ⟨_, congrArg Host.Outcome.next hrefuse, href.count, href.serial, by rw [hclr]⟩
    · refine ⟨_, congrArg Host.Outcome.next (readBack_own hnode hme hg hr), State.setChan_chan _ _ _ _, rfl, ?_⟩
      exact Leads.onlyParts (keeps_setChan (Has.self.sub rfl) (keeps_dropRead (Has.self.sub rfl) Leads.self))
    · exact congrArg Host.Outcome.next (readBack_unasked hnode hme hr)
    · exact congrArg Host.Outcome.next ((readRefused_own hnode hme).trans (readFailed_unasked hr))
  · intro p c s _ hnode hme
    refine ⟨fun h => ?_, fun h hsp => ⟨fun hroute => ?_, fun l hroute hw hcredit hroom => ?_⟩⟩
    · have href := refused_refuseRemote s p.isLt c
      obtain ⟨hreg, hlog⟩ := answerRead_keeps (s.refuseRemote p.val c) c 6 p.val []
      refine ⟨_, congrArg Host.Outcome.next (remoteRead_refused hnode hme h), counted_of_reg href.count hreg, ?_⟩
      rw [hlog]
      exact href.serial
    · exact congrArg Host.Outcome.next ((remoteRead_memory hnode hme h hsp).trans (answerRead_unreachable hroute 3 _))
    · obtain ⟨hout, hmem, hcr⟩ := transmit_spec s l (s.answerOf c 3 (granulesOf (clrAt c) (s.spaceRead (adSpace c.dst) (clrAt c) (clrLen c))).length)
        (granulesOf (clrAt c) (s.spaceRead (adSpace c.dst) (clrAt c) (clrLen c)))
      rw [cmdChan_answerOf] at hcr
      exact ⟨_, _, congrArg Host.Outcome.next ((remoteRead_memory hnode hme h hsp).trans (answerRead_sent hroute 3 hw hcredit hroom)), hout, rfl,
        rfl, rfl, rfl, hmem, hcr⟩
  · intro i p c tag s _ hi
    have hexec : exec i s = .next (s.readFailed tag) := by
      rcases hi with ⟨rfl, rfl, hnode, hme⟩ | rfl
      · exact congrArg Host.Outcome.next (readRefused_own hnode hme)
      · rfl
    refine ⟨fun hr => hexec.trans (congrArg Host.Outcome.next (readFailed_unasked hr)), fun d k lo x hr hk hx hm => ?_⟩
    have hended := transferError_unmoved (s := s.dropRead tag) (d := d) hk hx hm
    exact ⟨_, hexec.trans (congrArg Host.Outcome.next (readFailed_asked hr)), hended.stuck, hended.code, hended.dma, hended.serial⟩
  · intro p c s _ hnode hme h y
    refine ⟨fun hbad => ?_, fun hinc h15 ht hsrc hold => ⟨fun hh => ?_, fun hh hkind hmax => ?_⟩⟩
    · have href := refused_refuseRemote s p.isLt c
      obtain ⟨l, hclr⟩ := href.clr
      exact ⟨_, congrArg Host.Outcome.next (signalIn_malformed hnode hme hbad), href.count, href.parts .tallies (by decide),
        by rw [hclr]⟩
    · exact congrArg Host.Outcome.next ((signalIn_spec hnode hme hinc h15 ht hsrc hold).1 hh)
    · exact ⟨_, congrArg Host.Outcome.next ((signalIn_spec hnode hme hinc h15 ht hsrc hold).2 hh hkind hmax), rfl, rfl,
        onlyParts_setTally s _ _ hmax⟩
  · intro p node die s _ n heard z
    refine ⟨fun h => ?_, ?_⟩
    · exact congrArg Host.Outcome.next ((hearLanded_eq s p.val node.val die.val).trans (releaseHeld_none h))
    · intro h hheld hh y hkind hmax
      refine ⟨_, congrArg Host.Outcome.next (hearLanded_one hheld hh hkind hmax), rfl, rfl, ?_⟩
      have hclr : onlyParts [.clr, .tallies] s ((s.heardAll p.val node.val die.val).holding []) :=
        Leads.onlyParts (keeps_put_clr (s := s) (x := ((s.heardAll p.val node.val die.val).holding []).clr) (Has.self.sub rfl) Leads.self)
      have htally := onlyParts_setTally ((s.heardAll p.val node.val die.val).holding []) h.tally h.inc
      rw [tallyOf_holding, tallyOf_heardAll] at htally
      exact onlyParts_trans hclr (onlyParts_mono (by decide) (htally hmax))

end Sys2Proof.Machine
end

section
/-! SUPPORT. Fetched tokens, endorsements and probes (O57; R284, R310, R325, R326, R364, R376, R377). -/

namespace Sys2Proof.Machine

/-! ### Fetched tokens (R284) -/

section
variable {s : State} {k : Nat} (ok : Bool) (ws : List Word32)

theorem fetchDone_unasked (h : (s.seq k).fetch = none ∨ (s.seq k).fetched.isSome = true) : s.fetchDone k ok ws = s := by
  unfold State.fetchDone
  dsimp only
  split
  · rfl
  next hf => exact if_pos (h.resolve_left (by rw [hf]; exact Option.some_ne_none _))

theorem fetchDone_asked {t : Ticket} (hf : (s.seq k).fetch = some t) (hn : (s.seq k).fetched = none) :
    s.fetchDone k ok ws = s.setSeq k { s.seq k with fetched := some (ok && ws.length == t.fetchCount, ws) } := by
  unfold State.fetchDone
  dsimp only
  rw [hf]
  exact if_neg (by rw [hn]; decide)
end

/-! ### Endorsements' images (R325, R326) -/

theorem length_endoEncode (x : EndoEntry) : x.encode.length = 32 := by
  unfold EndoEntry.encode
  simp only [List.length_append, length_natLe]

theorem onlyParts_putEndo (s : State) (n : Nat) (x : EndoEntry) : onlyParts [.mem, .poison, .endo] s (s.putEndo n x) :=
  Leads.onlyParts (keeps_putEndo (Has.self.sub rfl) Leads.self)

theorem endo_putEndo (s : State) (n : Nat) (x : EndoEntry) : (s.putEndo n x).endo = (s.setEndo n x).endo := rfl

theorem log_putEndo (s : State) (n : Nat) (x : EndoEntry) : (s.putEndo n x).log = s.log :=
  onlyParts_putEndo s n x .log (by decide)

theorem cache_putEndo (s : State) (n : Nat) (x : EndoEntry) : (s.putEndo n x).cache = s.cache :=
  onlyParts_putEndo s n x .cache (by decide)

theorem endo_setEndo_of_endo {s t : State} (h : t.endo = s.endo) (n : Nat) (x : EndoEntry) :
    (t.setEndo n x).endo = (s.setEndo n x).endo := congrArg (put EndoEntry.empty · n x) h

/-- A table entry takes 32 bytes; every other byte stays. -/
theorem byte_putEndo {s : State} {n a : Nat} (x : EndoEntry)
    (h : a < keyOf 0 (Config.endoTable.toNat + 32 * n) ∨ keyOf 0 (Config.endoTable.toNat + 32 * n) + 32 ≤ a) :
    (s.putEndo n x).byte a = s.byte a := by
  unfold State.putEndo
  rw [byte_write_other (by rwa [length_endoEncode])]
  rfl

/-- A byte of what was written reads as written. -/
theorem byte_write_get {s : State} {a i : Nat} {b : Byte} {bs : List Byte} (h : bs[i]? = some b) :
    (s.write a bs).byte (a + i) = b := by
  obtain ⟨hi, _⟩ := List.getElem?_eq_some_iff.mp h
  rw [byte_write, if_pos (by omega), Nat.add_sub_cancel_left, List.getD_eq_getElem?_getD, h, Option.getD_some]

section
variable {s : State} {n c : Nat}

theorem endoFetched_absent (h : (s.endoOf n).cache = none) (ok : Bool) (data : List Byte) : s.endoFetched n ok data = s := by
  unfold State.endoFetched
  dsimp only
  rw [h]

theorem recheck_absent (h : (s.endoOf n).cache = none) : s.recheck n = s := by
  unfold State.recheck
  dsimp only
  rw [h]

variable (hc : (s.endoOf n).cache = some c)
include hc

theorem endoFetched_idle (hst : (s.endoOf n).st ≠ 3) (ok : Bool) (data : List Byte) : s.endoFetched n ok data = s := by
  unfold State.endoFetched
  dsimp only
  rw [hc]
  exact if_pos hst

theorem recheck_idle (h : (s.endoOf n).st ≠ 4 ∨ (s.endoOf n).sealed_ = false) : s.recheck n = s := by
  unfold State.recheck
  dsimp only
  rw [hc]
  exact if_pos h

variable {ok : Bool} {data : List Byte}

/-- An image that has arrived whole stands in its cache entry and is Resident. -/
theorem endoFetched_good (hst : (s.endoOf n).st = 3)
    (hg : (ok && data.length == (s.endoOf n).length && (badShard (s.endoOf n).digests data).isNone) = true) :
    s.endoFetched n ok data = (s.write (s.cacheAt (look CacheEntry.none s.cache c)) data).putEndo n
      { s.endoOf n with st := 4, checked := BitVec.ofNat 32 s.now.toNat } := by
  unfold State.endoFetched
  dsimp only
  rw [hc]
  dsimp only
  rw [if_neg (not_not_intro hst), if_pos hg]

/-- An image that fails its check leaves the cache and is Corrupt, with a record. -/
theorem endoFetched_bad (hst : (s.endoOf n).st = 3)
    (hg : (ok && data.length == (s.endoOf n).length && (badShard (s.endoOf n).digests data).isNone) = false) :
    s.endoFetched n ok data = (({ s with cache := s.cache.filter (fun y => y.1 != c) } : State).fault
      (FaultRecord.at_ (faultOf clsProgram 0xFF 0xFF 0 0 stShardLost) (s.endoOf n).home.toNat)).putEndo n
      { s.endoOf n with st := 5, cache := none } := by
  unfold State.endoFetched
  dsimp only
  rw [hc]
  dsimp only
  rw [if_neg (not_not_intro hst), if_neg (Bool.eq_false_iff.mp hg)]

/-- Its record, its place in the cache and its entry. -/
theorem endoFetched_corrupt (hst : (s.endoOf n).st = 3)
    (hg : (ok && data.length == (s.endoOf n).length && (badShard (s.endoOf n).digests data).isNone) = false) :
    (s.endoFetched n ok data).log.serial = s.log.serial + 1 ∧
      (s.endoFetched n ok data).cache = s.cache.filter (fun y => y.1 != c) ∧
      (s.endoFetched n ok data).endo = (s.setEndo n { s.endoOf n with st := 5, cache := none }).endo := by
  rw [endoFetched_bad hc hst hg, log_putEndo, cache_putEndo, endo_putEndo]
  have hrec := recorded_fault ({ s with cache := s.cache.filter (fun y => y.1 != c) } : State)
    (FaultRecord.at_ (faultOf clsProgram 0xFF 0xFF 0 0 stShardLost) (s.endoOf n).home.toNat)
  exact ⟨hrec.serial, hrec.same (p := .cache) (by decide), endo_setEndo_of_endo (hrec.same (p := .endo) (by decide)) n _⟩

theorem recheck_agrees (hst : (s.endoOf n).st = 4) (hs : (s.endoOf n).sealed_ = true)
    (hb : badShard (s.endoOf n).digests (s.read (s.cacheAt (look CacheEntry.none s.cache c)) (s.endoOf n).length) = none) :
    s.recheck n = s.putEndo n { s.endoOf n with checked := BitVec.ofNat 32 s.now.toNat } := by
  unfold State.recheck
  dsimp only
  rw [hc]
  dsimp only
  rw [if_neg (by rw [hst, hs]; decide), hb]

/-- A sealed image that no longer agrees is recorded, and waits to be given up. -/
theorem recheck_differs (hst : (s.endoOf n).st = 4) (hs : (s.endoOf n).sealed_ = true)
    (hb : badShard (s.endoOf n).digests (s.read (s.cacheAt (look CacheEntry.none s.cache c)) (s.endoOf n).length) ≠ none) :
    (s.recheck n).log.serial = s.log.serial + 1 ∧ (s.recheck n).serve.stale = s.serve.stale ++ [n] ∧
      (s.recheck n).endo = s.endo := by
  unfold State.recheck
  dsimp only
  rw [hc]
  dsimp only
  rw [if_neg (by rw [hst, hs]; decide)]
  obtain ⟨k, hk⟩ := Option.ne_none_iff_exists'.mp hb
  rw [hk]
  dsimp only
  have hr := recorded_fault s
    (FaultRecord.at_ (faultOf clsLedger (look CacheEntry.none s.cache c).stack blkVault 0 0 0) (n : Nat))
  obtain ⟨l, hl⟩ := hr.serve
  refine ⟨hr.serial, ?_, hr.same (p := .endo) (by decide)⟩
  generalize s.fault _ = t at hl
  show t.serve.stale ++ [n] = _
  rw [hl]
end

/-! ### The targets of probes alone (R377) -/

/-- The dies' places in the probe loop and the probes that run are the same; the targets may differ. -/
def SameLoop (s t : State) : Prop := t.probes.next = s.probes.next ∧ t.probes.running = s.probes.running

theorem SameLoop.refl (s : State) : SameLoop s s := ⟨rfl, rfl⟩

theorem SameLoop.trans {s t u : State} (h : SameLoop s t) (k : SameLoop t u) : SameLoop s u :=
  ⟨k.1.trans h.1, k.2.trans h.2⟩

theorem SameLoop.of_probes {s t : State} (h : t.probes = s.probes) : SameLoop s t := by
  unfold SameLoop
  rw [h]
  exact ⟨rfl, rfl⟩

theorem sameLoop_setDay (s : State) (h slot : Nat) (d : DayRec) : SameLoop s (s.setDay h slot d) := ⟨rfl, rfl⟩

theorem sameLoop_makePermanent (s : State) (cls : Nat) (u : Nat × Nat × Nat) : SameLoop s (s.makePermanent cls u) :=
  .of_probes ((Leads.onlyParts (ps := [.regs, .serve, .log]) (keeps_makePermanent (Has.self.sub rfl) Leads.self)) .probes
    (by decide))

theorem sameLoop_writeRecord (s : State) (r : FaultRecord) : SameLoop s (s.writeRecord r) :=
  .of_probes ((Leads.onlyParts (ps := [.regs, .mem, .poison, .clr, .log, .out])
    (keeps_writeRecord (Has.self.sub rfl) Leads.self)) .probes (by decide))

theorem sameLoop_scheduleUnit (s : State) (unit : Option (Nat × Nat × Nat)) :
    SameLoop s (match unit with | some u => s.schedule u | none => s) := by
  cases unit with
  | none => exact .refl s
  | some u =>
    dsimp only
    unfold State.schedule
    split
    · exact .refl s
    · exact ⟨rfl, rfl⟩

/-- A full Daybook counts the event it cannot hold. -/
theorem sameLoop_missed (s : State) (h : Nat) :
    SameLoop s (if h = 1 then { s with log := { s.log with missedS := s.log.missedS + 1 } }
      else { s with log := { s.log with missedN := s.log.missedN + 1 } }) := by
  split
  · exact ⟨rfl, rfl⟩
  · exact ⟨rfl, rfl⟩

theorem sameLoop_dayEvent (s : State) (r : FaultRecord) (reproduced : Bool) : SameLoop s (s.dayEvent r reproduced).1 := by
  unfold State.dayEvent
  extract_lets h life unit scheduled lost marked log
  have hscheduled : SameLoop s scheduled := sameLoop_scheduleUnit s unit
  clear_value scheduled
  split
  next slot d _ =>
    dsimp only
    split
    · exact (hscheduled.trans (sameLoop_setDay scheduled _ slot _)).trans (sameLoop_makePermanent _ _ _)
    · exact hscheduled.trans (sameLoop_setDay scheduled _ slot _)
  next =>
    split
    · exact hscheduled.trans (sameLoop_setDay scheduled _ _ _)
    · exact hscheduled.trans (sameLoop_missed _ _)

/-- A record schedules probes at most: those that run go on. -/
theorem sameLoop_faultWith (s : State) (r : FaultRecord) (reproduced : Bool) : SameLoop s (s.faultWith r reproduced) := by
  unfold State.faultWith
  extract_lets numbered key log weighed
  have hweighed : SameLoop s weighed := by
    dsimp only [weighed]
    split
    · exact ⟨rfl, rfl⟩
    · exact ⟨rfl, rfl⟩
  clear_value weighed
  exact (hweighed.trans (sameLoop_dayEvent weighed r reproduced)).trans (sameLoop_writeRecord _ _)

/-! ### Probes (R377) -/

/-- The probe that runs on die `d` gives way to `x`. -/
def State.withProbe (s : State) (d : Nat) (x : Option (Nat × Nat)) : State :=
  { s with probes := { s.probes with running := put none s.probes.running d x } }

/-- What a die's entry of a probe set probes. -/
def ProbeSet.kindOf (p : ProbeSet) (e : Nat) : Nat := (p.entries.getD e ⟨0, false, 0, 0, 0, 0, 0, 0⟩).kind

section
variable {s : State} {d : Nat} {p : ProbeSet} (hp : s.mram.probeSet = some p)
include hp

theorem probeBegin_idle (h : look none s.probes.running d ≠ none ∨ s.booted = false ∨ s.coreRuns (d / 2) = false) :
    s.probeBegin d = s := by
  unfold State.probeBegin
  rw [hp]
  dsimp only
  refine if_pos ?_
  rw [Bool.or_eq_true, Bool.or_eq_true, Bool.not_eq_true', Bool.not_eq_true', Option.isSome_iff_ne_none]
  exact or_assoc.mpr h

/-- With no target on its die, a free die turns to the loop's next probe. -/
theorem probeBegin_loop {e i : Nat} (hr : look none s.probes.running d = none) (hb : s.booted = true)
    (hcore : s.coreRuns (d / 2) = true) (ht : s.dieTargets d = []) (hn : s.nextProbe p d = some (false, e, i)) :
    s.probeBegin d = if !s.probeIdle (p.kindOf e) i then s
      else ({ s with probes := { s.probes with
        running := put none s.probes.running d (some (e, i)),
        next := put (0, 0) s.probes.next d (e, if p.kindOf e = 5 ∨ p.kindOf e = 6 then 2 ^ 40 else i + 1) } } : State).bump
          DBK_CNT_PROBE 1 := by
  unfold State.probeBegin
  rw [hp]
  dsimp only
  rw [if_neg (by rw [hr, hb, hcore]; decide), ht]
  have hkeep : s.probes.targets.filter
      (fun u => !(([] : List (Nat × Nat × Nat)).filter (fun u => (coverFrom p.entries d 0 u).isNone)).contains u) =
      s.probes.targets := List.filter_eq_self.mpr (fun _ _ => rfl)
  rw [hkeep]
  show (match s.nextProbe p d with | none => s | some (aim, e, i) => _) = _
  rw [hn]
  rfl

theorem probeEnd_idle (h : look none s.probes.running d = none) (ok : Bool) (site : Nat) : s.probeEnd d ok site = s := by
  unfold State.probeEnd
  rw [hp, h]

variable {e i : Nat} (hr : look none s.probes.running d = some (e, i)) (hk : (look (0, 0) s.probes.next (4 + d)).1 = 0)
include hr hk

theorem probeEnd_passed (site : Nat) : s.probeEnd d true site = s.withProbe d none := by
  unfold State.probeEnd
  rw [hp, hr]
  dsimp only
  exact if_pos hk

/-- A failed probe is counted and recorded; where no targeted probe was pending nothing else follows. -/
theorem probeEnd_failed (site : Nat) : ∃ r, s.probeEnd d false site =
    ((s.withProbe d none).bump DBK_CNT_PROBEFAIL 1).faultWith r true := by
  unfold State.probeEnd
  rw [hp, hr]
  dsimp only
  refine ⟨_, if_pos ?_⟩
  have hloop := sameLoop_faultWith ((s.withProbe d none).bump DBK_CNT_PROBEFAIL 1)
  exact (congrArg (fun m => (look (0, 0) m (4 + d)).1) (hloop _ true).1).trans hk
end

/-- What a failed probe leaves: one count, one record, and the die free. -/
theorem failed_probe_counted (s : State) (d : Nat) (r : FaultRecord) :
    let t := ((s.withProbe d none).bump DBK_CNT_PROBEFAIL 1).faultWith r true
    counted DBK_CNT_PROBEFAIL 1 s t ∧ t.log.serial = s.log.serial + 1 ∧
      t.probes.running = put none s.probes.running d none := by
  have hrec := recorded_faultWith ((s.withProbe d none).bump DBK_CNT_PROBEFAIL 1) r true
  refine ⟨counted_of_reg (counted_from rfl (counted_bump (s.withProbe d none))) (hrec.reg (by decide)), hrec.serial,
    (sameLoop_faultWith _ r true).2⟩

/-! ### The fault log's tail (R364) -/

theorem flogTail_inside {s : State} {w : Src} {tail : Nat} (hw : s.holder w = true)
    (h : (tail + 65536 - s.fld DBK_FLOG_TAIL 15 0) % 65536 ≤
      (s.fld DBK_FLOG_HEAD 15 0 + 65536 - s.fld DBK_FLOG_TAIL 15 0) % 65536) :
    s.flogTail w tail = s.setFld DBK_FLOG_TAIL 15 0 tail := by
  unfold State.flogTail
  exact if_pos (by rw [hw, decide_eq_true h]; rfl)

theorem flogTail_outside {s : State} {w : Src} {tail : Nat}
    (h : ¬(tail + 65536 - s.fld DBK_FLOG_TAIL 15 0) % 65536 ≤
      (s.fld DBK_FLOG_HEAD 15 0 + 65536 - s.fld DBK_FLOG_TAIL 15 0) % 65536) :
    s.flogTail w tail = s := by
  unfold State.flogTail
  exact if_neg (by rw [decide_eq_false h, Bool.and_false]; decide)

/-! ### The obligation -/

/-- Settles O57: each command by the equations of its cases; a failed probe's record changes the loop's targets alone. -/
theorem fetchedImagesAndProbes : Obligations.FetchedImagesAndProbes := by
  unfold Obligations.FetchedImagesAndProbes
  refine ⟨⟨?_, ?_⟩, ?_, ?_, ?_, ?_⟩
  · intro k ok ws s q
    exact ⟨fun h => congrArg Host.Outcome.next (fetchDone_unasked ok ws h),
      fun t hf hn => congrArg Host.Outcome.next (fetchDone_asked ok ws hf hn)⟩
  · intro n c ok data s _ x e table good
    refine ⟨fun hc => ⟨congrArg Host.Outcome.next (endoFetched_absent hc ok data), congrArg Host.Outcome.next (recheck_absent hc)⟩,
      fun hc hst => congrArg Host.Outcome.next (endoFetched_idle hc hst ok data),
      fun hc h => congrArg Host.Outcome.next (recheck_idle hc h), fun hc hst hg => ?_, fun hc hst hg => ?_,
      fun hc hst hs => ⟨fun hb => ?_, fun hb => ?_⟩⟩
    · refine ⟨_, congrArg Host.Outcome.next (endoFetched_good hc hst hg), ?_, ?_, fun i b hi hapart => ?_⟩
      · exact Leads.onlyParts (keeps_putEndo (Has.self.sub rfl) (keeps_write (Has.self.sub rfl) Leads.self))
      · rfl
      · rw [byte_putEndo _ hapart]
        exact byte_write_get hi
    · exact ⟨_, rfl, endoFetched_corrupt hc hst hg⟩
    · exact ⟨_, congrArg Host.Outcome.next (recheck_agrees hc hst hs hb), onlyParts_putEndo s n _, rfl⟩
    · exact ⟨_, rfl, recheck_differs hc hst hs hb⟩
  · intro img s
    rfl
  · intro d p e i s _ hp kind
    refine ⟨fun h => congrArg Host.Outcome.next (probeBegin_idle hp h), fun hr hb hcore ht hn => ⟨fun hidle => ?_, fun hidle => ?_⟩⟩
    · refine congrArg Host.Outcome.next ((probeBegin_loop hp hr hb hcore ht hn).trans (if_pos ?_))
      rw [show s.probeIdle (p.kindOf e) i = false from hidle]
      rfl
    · refine ⟨_, congrArg Host.Outcome.next ((probeBegin_loop hp hr hb hcore ht hn).trans (if_neg ?_)), ?_, ?_, ?_, ?_⟩
      · rw [show s.probeIdle (p.kindOf e) i = true from hidle]
        decide
      · exact counted_from rfl (counted_bump _)
      · exact Leads.onlyParts (keeps_bump (Has.self.sub rfl) (keeps_put_probes (s := s) (Has.self.sub rfl) Leads.self))
      · exact look_put_self none s.probes.running d.val _
      · rfl
  · intro d p e i site s _ hp
    refine ⟨fun h ok => congrArg Host.Outcome.next (probeEnd_idle hp h ok site), fun hr hk => ⟨?_, ?_⟩⟩
    · exact ⟨_, congrArg Host.Outcome.next (probeEnd_passed hp hr hk site),
        Leads.onlyParts (keeps_put_probes (s := s) (Has.self.sub rfl) Leads.self), rfl, rfl⟩
    · obtain ⟨r, hend⟩ := probeEnd_failed hp hr hk site
      exact ⟨_, congrArg Host.Outcome.next hend, failed_probe_counted s d.val r⟩
  · intro w tail s _ hw head old inside
    refine ⟨fun h => ⟨_, congrArg Host.Outcome.next (flogTail_inside hw h), ?_, ?_, ?_⟩,
      fun h => congrArg Host.Outcome.next (flogTail_outside h)⟩
    · rw [fld_setFld_self (by decide) (by decide)]
      exact Nat.mod_eq_of_lt tail.isLt
    · exact onlyRegs_setFld (List.mem_singleton_self _) (onlyRegs_refl _ s)
    · exact Leads.onlyParts (keeps_setFld (Has.self.sub rfl) Leads.self)

end Sys2Proof.Machine
end

section
/-! SUPPORT. The end of a staged Charter's copy and check (O58; R446). -/

namespace Sys2Proof.Machine

section
variable {s : State} {image : List Byte} {programmed : Bool}

theorem stageEnd_idle (h : s.serve.stageTicket = none ∨ s.serve.stageStatus.isSome = true) :
    s.stageEnd image programmed = s := by
  unfold State.stageEnd
  split
  · rfl
  next hk => exact if_pos (h.resolve_left (by rw [hk]; exact Option.some_ne_none _))

/-- The status of a check, with which the copy's answer is made. -/
def State.charterChecked (s : State) (gen : Nat) (c : Nat × Nat) : State :=
  { s with serve := { s.serve with staged := some (BitVec.ofNat 16 gen), stagedOk := c.1 == stOk,
                                   stageStatus := some (BitVec.ofNat 16 c.1, BitVec.ofNat 32 c.2) } }

/-- A check that ends ready programs the banks it asks for; no other does. -/
def State.programmedBy (s : State) (base : Nat) (c : Nat × Nat) : State := if c.1 = stOk then s.checkPrograms_ base else s

/-- The bytes of a staged image: those of a source inside the device, or the ones that the copy brought. -/
def State.stagedBytes (s : State) (k : Ticket) (image : List Byte) : List Byte :=
  (s.ledgerRead (BitVec.ofNat 64 (k.field 15 8)) (k.field 19 16)).getD image

variable {k : Ticket} (hk : s.serve.stageTicket = some k) (hn : s.serve.stageStatus = none)
include hk hn

theorem stageEnd_short (h : (s.stagedBytes k image).length ≠ k.field 19 16) : s.stageEnd image programmed =
    { s with serve := { s.serve with
      staged := none, stagedOk := false, stageStatus := some (BitVec.ofNat 16 stFetchError, 0) } } := by
  unfold State.stageEnd
  rw [hk]
  dsimp only
  rw [if_neg (by rw [hn]; decide)]
  exact if_pos h

theorem stageEnd_whole (h : (s.stagedBytes k image).length = k.field 19 16) : s.stageEnd image programmed =
    (((s.write stagedSlot (s.stagedBytes k image)).programmedBy stagedSlot
      ((s.write stagedSlot (s.stagedBytes k image)).charterStatus stagedSlot (k.field 19 16) (k.field 21 20) programmed)).charterChecked
        (k.field 21 20)
        ((s.write stagedSlot (s.stagedBytes k image)).charterStatus stagedSlot (k.field 19 16) (k.field 21 20) programmed)) := by
  unfold State.stageEnd
  rw [hk]
  dsimp only
  rw [if_neg (by rw [hn]; decide)]
  exact if_neg (not_not_intro h)
end

theorem serve_programmedBy (s : State) (base : Nat) (c : Nat × Nat) : (s.programmedBy base c).serve = s.serve := by
  unfold State.programmedBy
  split
  · exact Leads.onlyParts (ps := [.mem, .poison, .mram, .dir, .tiles]) (keeps_checkPrograms_ (Has.self.sub rfl) Leads.self)
      .serve (by decide)
  · rfl

theorem serve_checked {s t : State} (h : t.serve = s.serve) (gen : Nat) (c : Nat × Nat) :
    (t.charterChecked gen c).serve = (s.charterChecked gen c).serve := by
  unfold State.charterChecked
  rw [h]

/-- An image whose check does not end ready stands in the staged slot, and nothing else changes. -/
theorem checked_unready {s : State} {a gen : Nat} {bs : List Byte} {c : Nat × Nat} (h : c.1 ≠ stOk) :
    let t := ((s.write a bs).programmedBy a c).charterChecked gen c
    onlyParts [.mem, .poison, .serve] s t ∧ t.read a bs.length = bs ∧ onlyBytes a bs.length s t := by
  have hnone : (s.write a bs).programmedBy a c = s.write a bs := if_neg h
  rw [hnone]
  have hmem : SameBytes (s.write a bs) ((s.write a bs).charterChecked gen c) := ⟨rfl, rfl⟩
  refine ⟨?_, ?_, onlyBytes_of_bytes (.refl s) hmem (onlyBytes_write s a bs)⟩
  · exact Leads.onlyParts (keeps_put_serve (s := s.write a bs) (Has.self.sub rfl) (keeps_write (Has.self.sub rfl) Leads.self))
  · exact (read_of_mem (t := (s.write a bs).charterChecked gen c) hmem.1 a _).trans (read_write_self s a bs)

/-- Settles O58: the image is written once, and the programming of a check leaves the serving state alone. -/
theorem stagedChartersAreChecked : Obligations.StagedChartersAreChecked := by
  unfold Obligations.StagedChartersAreChecked
  intro image programmed k s _ len gen bytes z st d
  refine ⟨fun h => congrArg Host.Outcome.next (stageEnd_idle h), fun hk hn => ⟨fun h => ?_, fun h => ?_⟩⟩
  · exact congrArg Host.Outcome.next (stageEnd_short hk hn h)
  · refine ⟨_, congrArg Host.Outcome.next (stageEnd_whole hk hn h), ?_, fun hst => ?_⟩
    · exact serve_checked ((serve_programmedBy _ stagedSlot _).trans rfl) gen _
    · have hun := checked_unready (s := s) (a := stagedSlot) (gen := gen) (bs := bytes)
        (c := z.charterStatus stagedSlot len gen programmed) hst
      rw [h] at hun
      exact hun

end Sys2Proof.Machine
end
